-- ==== Sys2Proof/Word.lean ====
section
/-! DEFINITION. The word types of the model and their plainest arithmetic: bytes, 32-bit words, little-endian
packing (00_scope.md R6), and the rounding and saturation of R14. -/

namespace Sys2Proof

/-- One byte. -/
abbrev Byte := BitVec 8

/-- A 32-bit register word (00_scope.md, "Registers and access codes"). -/
abbrev Word := BitVec 32

/-- The low `n` bytes of `v`, least significant first (R6). -/
def bytesLE : Nat → Nat → List Byte
  | 0, _ => []
  | n + 1, v => BitVec.ofNat 8 v :: bytesLE n (v / 256)

/-- The number that a little-endian byte string holds (R6). -/
def natLE : List Byte → Nat
  | [] => 0
  | b :: bs => b.toNat + 256 * natLE bs

/-- `n` bytes of a byte string from offset `o` as a little-endian number; missing bytes count as 0. -/
def fieldLE (bs : List Byte) (o n : Nat) : Nat := natLE ((bs.drop o).take n)

/-- Two's-complement reading of the low `w` bits of `v`. -/
def signed (w : Nat) (v : Nat) : Int := (BitVec.ofNat w v).toInt

/-- The low `w` bits of an integer, as a natural number. -/
def wrapNat (w : Nat) (i : Int) : Nat := (BitVec.ofInt w i).toNat

/-- Bits [msb:lsb] of `v`. -/
def bits (v msb lsb : Nat) : Nat := v / 2 ^ lsb % 2 ^ (msb + 1 - lsb)

/-- Bit `i` of `v`. -/
def bit (v i : Nat) : Bool := v.testBit i

/-- 1 for true, 0 for false. -/
def b2n (b : Bool) : Nat := if b then 1 else 0

/-- `v` held to the interval from `lo` to `hi`. -/
def clampInt (lo hi v : Int) : Int := if v < lo then lo else if hi < v then hi else v

/-- Round `num / den` to nearest, ties away from zero (R14); `den` is positive. -/
def roundDiv (num : Int) (den : Nat) : Int :=
  if 0 ≤ num then (2 * num + den) / (2 * den) else -((2 * (-num) + den) / (2 * den))

/-- Round a rational to nearest, ties away from zero (R14). -/
def roundRat (q : Rat) : Int := roundDiv q.num q.den

/-- Saturate to a signed field of `w` bits (R14). -/
def satSigned (w : Nat) (i : Int) : Nat :=
  wrapNat w (clampInt (-(2 ^ (w - 1) : Nat)) ((2 ^ (w - 1) : Nat) - 1) i)

/-- Saturate to an unsigned field of `w` bits (R14). -/
def satUnsigned (w : Nat) (i : Int) : Nat := (clampInt 0 ((2 ^ w : Nat) - 1) i).toNat

/-- Floor of a rational. -/
def floorRat (q : Rat) : Int := Int.fdiv q.num q.den

/-- Quotient truncated toward zero (00_scope.md, "Integer division in pseudocode truncates toward zero"). -/
def truncDiv (a b : Int) : Int := Int.tdiv a b

end Sys2Proof
end

