-- ==== Sys2Proof/Machine/Operands.lean ====
section
/-! DEFINITION. The Hiker instruction words: their operand forms, decoder and encoder (14_hiker_instructions.md R427 to
R441). The tile cores and Canopy decode the same words. -/

namespace Sys2Proof.Machine

/-- Two-source functions of the ALU register group (R433). -/
inductive AluOp where
  | add | adc | sub | sbc | and | or | xor | andn | shl | shr | sar | ror | min | max | minu | maxu | slt | sltu
  deriving DecidableEq, Repr

/-- One-source functions of the ALU register group (R433). -/
inductive Alu1Op where
  | clz | sextb | sexth
  deriving DecidableEq, Repr

/-- The multiply and divide group (R435). -/
inductive MulOp where
  | mul | mulh | mulhu | div | divu | rem | remu
  deriving DecidableEq, Repr

/-- The immediate instructions that write gd from ga (R436). -/
inductive ImmOp where
  | addi | andi | ori | xori
  deriving DecidableEq, Repr

/-- The shift-immediate group (R434). -/
inductive ShiftOp where
  | shli | shri | sari | rori
  deriving DecidableEq, Repr

/-- The loads (R437). -/
inductive LoadOp where
  | ldw | ldh | ldhu | ldb | ldbu
  deriving DecidableEq, Repr

/-- The stores (R437). -/
inductive StoreOp where
  | stw | sth | stb
  deriving DecidableEq, Repr

/-- The cache operations (R441). -/
inductive CacheOp where
  | iinvAll | iinvLine | dcleanLine | dinvLine | dcleanAll
  deriving DecidableEq, Repr

/-- A Hiker instruction (R427 to R441). Registers are 4-bit numbers, offsets signed fields. -/
inductive HInstr where
  | alu (op : AluOp) (gd ga gb : BitVec 4) (f : Bool)
  | alu1 (op : Alu1Op) (gd ga : BitVec 4) (f : Bool)
  | sel (gd ga gb : BitVec 4) (f : Bool) (cond : BitVec 4)
  | mul (op : MulOp) (gd ga gb : BitVec 4) (f : Bool)
  | imm (op : ImmOp) (gd ga : BitVec 4) (f : Bool) (v : BitVec 16)
  | lui (gd : BitVec 4) (v : BitVec 16)
  | cmpi (ga : BitVec 4) (v : BitVec 16)
  | shift (op : ShiftOp) (gd ga : BitVec 4) (f : Bool) (amount : BitVec 5)
  | load (op : LoadOp) (gd ga : BitVec 4) (off : BitVec 18)
  | store (op : StoreOp) (gs ga : BitVec 4) (off : BitVec 18)
  | b (cond : BitVec 4) (off : BitVec 22)
  | j (off : BitVec 26)
  | jal (off : BitVec 26)
  | jr (ga : BitVec 4)
  | jalr (ga : BitVec 4)
  | loopImm (level : Bool) (count end_ : BitVec 12)
  | loopReg (level : Bool) (ga : BitVec 4) (end_ : BitVec 12)
  | mfs (gd : BitVec 4) (s : BitVec 5)
  | mts (s : BitVec 5) (ga : BitVec 4)
  | eret
  | syscall (code : BitVec 12)
  | brk (code : BitVec 12)
  | lock
  | unlock (gd : BitVec 4)
  | sync
  | wait
  | cache (op : CacheOp) (ga : BitVec 4)
  deriving DecidableEq, Repr

/-- fn of a two-source function (R433). -/
def AluOp.fn : AluOp → Nat
  | .add => 0x00 | .adc => 0x01 | .sub => 0x02 | .sbc => 0x03 | .and => 0x04 | .or => 0x05 | .xor => 0x06
  | .andn => 0x07 | .shl => 0x08 | .shr => 0x09 | .sar => 0x0A | .ror => 0x0B | .min => 0x0C | .max => 0x0D
  | .minu => 0x0E | .maxu => 0x0F | .slt => 0x14 | .sltu => 0x15

/-- The two-source function that fn names. -/
def AluOp.ofFn : Nat → Option AluOp
  | 0x00 => some .add | 0x01 => some .adc | 0x02 => some .sub | 0x03 => some .sbc | 0x04 => some .and
  | 0x05 => some .or | 0x06 => some .xor | 0x07 => some .andn | 0x08 => some .shl | 0x09 => some .shr
  | 0x0A => some .sar | 0x0B => some .ror | 0x0C => some .min | 0x0D => some .max | 0x0E => some .minu
  | 0x0F => some .maxu | 0x14 => some .slt | 0x15 => some .sltu
  | _ => none

/-- fn of a one-source function (R433). -/
def Alu1Op.fn : Alu1Op → Nat
  | .clz => 0x10 | .sextb => 0x11 | .sexth => 0x12

/-- The one-source function that fn names. -/
def Alu1Op.ofFn : Nat → Option Alu1Op
  | 0x10 => some .clz | 0x11 => some .sextb | 0x12 => some .sexth
  | _ => none

/-- fn in the multiply and divide group (R435). -/
def MulOp.fn : MulOp → Nat
  | .mul => 0x00 | .mulh => 0x01 | .mulhu => 0x02 | .div => 0x04 | .divu => 0x05 | .rem => 0x06 | .remu => 0x07

/-- The multiply or divide that fn names. -/
def MulOp.ofFn : Nat → Option MulOp
  | 0x00 => some .mul | 0x01 => some .mulh | 0x02 => some .mulhu | 0x04 => some .div | 0x05 => some .divu
  | 0x06 => some .rem | 0x07 => some .remu
  | _ => none

/-- Major opcode of an immediate instruction (R430). -/
def ImmOp.major : ImmOp → Nat
  | .addi => 0x04 | .andi => 0x05 | .ori => 0x06 | .xori => 0x07

/-- Selector of a shift-immediate (R434). -/
def ShiftOp.sel : ShiftOp → Nat
  | .shli => 0 | .shri => 1 | .sari => 2 | .rori => 3

/-- The shift-immediate that bits [7:6] select (R434). -/
def ShiftOp.ofSel : Nat → ShiftOp
  | 0 => .shli | 1 => .shri | 2 => .sari | _ => .rori

/-- Major opcode of a load (R430). -/
def LoadOp.major : LoadOp → Nat
  | .ldw => 0x10 | .ldh => 0x11 | .ldhu => 0x12 | .ldb => 0x13 | .ldbu => 0x14

/-- Major opcode of a store (R430). -/
def StoreOp.major : StoreOp → Nat
  | .stw => 0x18 | .sth => 0x19 | .stb => 0x1A

/-- Code of a cache operation (R441). -/
def CacheOp.code : CacheOp → Nat
  | .iinvAll => 0 | .iinvLine => 1 | .dcleanLine => 2 | .dinvLine => 3 | .dcleanAll => 4

/-- The cache operation of a code (R441). -/
def CacheOp.ofCode : Nat → Option CacheOp
  | 0 => some .iinvAll | 1 => some .iinvLine | 2 => some .dcleanLine | 3 => some .dinvLine | 4 => some .dcleanAll
  | _ => none

/-! ### Encoder (R427) -/

/-- Format R. -/
def encR (major gd ga gb f cond fn : Nat) : Nat :=
  major * 2 ^ 26 + gd * 2 ^ 22 + ga * 2 ^ 18 + gb * 2 ^ 14 + f * 2 ^ 13 + cond * 2 ^ 6 + fn

/-- Format I. -/
def encI (major gd ga f v : Nat) : Nat := major * 2 ^ 26 + gd * 2 ^ 22 + ga * 2 ^ 18 + f * 2 ^ 17 + v

/-- Format M. -/
def encM (major gd ga off : Nat) : Nat := major * 2 ^ 26 + gd * 2 ^ 22 + ga * 2 ^ 18 + off

/-- Format S: `x` holds bits [17:6]. -/
def encS (gd ga x fn : Nat) : Nat := 0x30 * 2 ^ 26 + gd * 2 ^ 22 + ga * 2 ^ 18 + x * 2 ^ 6 + fn

/-- The word of an instruction, as a number below 2^32. -/
def HInstr.word : HInstr → Nat
  | .alu op gd ga gb f => encR 0x01 gd.toNat ga.toNat gb.toNat (b2n f) 0 op.fn
  | .alu1 op gd ga f => encR 0x01 gd.toNat ga.toNat 0 (b2n f) 0 op.fn
  | .sel gd ga gb f cond => encR 0x01 gd.toNat ga.toNat gb.toNat (b2n f) cond.toNat 0x13
  | .mul op gd ga gb f => encR 0x02 gd.toNat ga.toNat gb.toNat (b2n f) 0 op.fn
  | .imm op gd ga f v => encI op.major gd.toNat ga.toNat (b2n f) v.toNat
  | .lui gd v => encI 0x08 gd.toNat 0 0 v.toNat
  | .cmpi ga v => encI 0x0A 0 ga.toNat 0 v.toNat
  | .shift op gd ga f n => encI 0x09 gd.toNat ga.toNat (b2n f) (op.sel * 2 ^ 6 + n.toNat)
  | .load op gd ga off => encM op.major gd.toNat ga.toNat off.toNat
  | .store op gs ga off => encM op.major gs.toNat ga.toNat off.toNat
  | .b cond off => 0x20 * 2 ^ 26 + cond.toNat * 2 ^ 22 + off.toNat
  | .j off => 0x21 * 2 ^ 26 + off.toNat
  | .jal off => 0x22 * 2 ^ 26 + off.toNat
  | .jr ga => 0x23 * 2 ^ 26 + ga.toNat * 2 ^ 18
  | .jalr ga => 0x23 * 2 ^ 26 + 2 ^ 25 + ga.toNat * 2 ^ 18
  | .loopImm l c e => 0x24 * 2 ^ 26 + b2n l * 2 ^ 25 + 2 ^ 24 + c.toNat * 2 ^ 12 + e.toNat
  | .loopReg l ga e => 0x24 * 2 ^ 26 + b2n l * 2 ^ 25 + ga.toNat * 2 ^ 12 + e.toNat
  | .mfs gd s => encS gd.toNat 0 (s.toNat * 2 ^ 7) 0x00
  | .mts s ga => encS 0 ga.toNat (s.toNat * 2 ^ 7) 0x01
  | .eret => encS 0 0 0 0x02
  | .syscall c => encS 0 0 c.toNat 0x03
  | .brk c => encS 0 0 c.toNat 0x04
  | .lock => encS 0 0 0 0x05
  | .unlock gd => encS gd.toNat 0 0 0x06
  | .sync => encS 0 0 0 0x07
  | .wait => encS 0 0 0 0x08
  | .cache op ga => encS 0 ga.toNat (op.code * 2 ^ 7) 0x09

/-- The encoder. -/
def HInstr.encode (i : HInstr) : Word := BitVec.ofNat 32 i.word

/-- An instruction that has a word: cond 0xF is reserved (R432), and JALR does not take g15 (R438). -/
def HInstr.wf : HInstr → Bool
  | .sel _ _ _ _ cond => decide (cond ≠ 15)
  | .b cond _ => decide (cond ≠ 15)
  | .jalr ga => decide (ga ≠ 15)
  | _ => true

/-! ### Decoder (R427 to R430): none raises ILLEGAL -/

/-- gd, ga, gb of formats R, I and S. -/
def rgd (w : Nat) : BitVec 4 := BitVec.ofNat 4 (bits w 25 22)
/-- ga. -/
def rga (w : Nat) : BitVec 4 := BitVec.ofNat 4 (bits w 21 18)
/-- gb. -/
def rgb (w : Nat) : BitVec 4 := BitVec.ofNat 4 (bits w 17 14)

/-- Major 0x01 (R433). -/
def decodeAlu (w : Nat) : Option HInstr :=
  let f := bit w 13
  let fn := bits w 5 0
  let cond := bits w 9 6
  if bits w 12 10 ≠ 0 then none
  else if fn = 0x13 then
    if cond = 15 then none else some (.sel (rgd w) (rga w) (rgb w) f (BitVec.ofNat 4 cond))
  else if cond ≠ 0 then none
  else
    match AluOp.ofFn fn with
    | some op => some (.alu op (rgd w) (rga w) (rgb w) f)
    | none =>
      match Alu1Op.ofFn fn with
      | some op => if bits w 17 14 = 0 then some (.alu1 op (rgd w) (rga w) f) else none
      | none => none

/-- Major 0x02 (R435). -/
def decodeMul (w : Nat) : Option HInstr :=
  if bits w 12 6 ≠ 0 then none
  else (MulOp.ofFn (bits w 5 0)).map fun op => .mul op (rgd w) (rga w) (rgb w) (bit w 13)

/-- Majors 0x04 to 0x0A, format I (R434, R436). -/
def decodeImm (w : Nat) : Option HInstr :=
  let v := BitVec.ofNat 16 (bits w 15 0)
  let f := bit w 17
  if bit w 16 then none
  else
    match bits w 31 26 with
    | 0x04 => some (.imm .addi (rgd w) (rga w) f v)
    | 0x05 => some (.imm .andi (rgd w) (rga w) f v)
    | 0x06 => some (.imm .ori (rgd w) (rga w) f v)
    | 0x07 => some (.imm .xori (rgd w) (rga w) f v)
    | 0x08 => if bits w 21 18 = 0 ∧ ¬ f then some (.lui (rgd w) v) else none
    | 0x09 =>
      if bits w 15 8 = 0 ∧ ¬ bit w 5 then
        some (.shift (ShiftOp.ofSel (bits w 7 6)) (rgd w) (rga w) f (BitVec.ofNat 5 (bits w 4 0)))
      else none
    | 0x0A => if bits w 25 22 = 0 ∧ ¬ f then some (.cmpi (rga w) v) else none
    | _ => none

/-- Majors 0x10 to 0x1A, format M (R437). -/
def decodeMem (w : Nat) : Option HInstr :=
  let off := BitVec.ofNat 18 (bits w 17 0)
  match bits w 31 26 with
  | 0x10 => some (.load .ldw (rgd w) (rga w) off)
  | 0x11 => some (.load .ldh (rgd w) (rga w) off)
  | 0x12 => some (.load .ldhu (rgd w) (rga w) off)
  | 0x13 => some (.load .ldb (rgd w) (rga w) off)
  | 0x14 => some (.load .ldbu (rgd w) (rga w) off)
  | 0x18 => some (.store .stw (rgd w) (rga w) off)
  | 0x19 => some (.store .sth (rgd w) (rga w) off)
  | 0x1A => some (.store .stb (rgd w) (rga w) off)
  | _ => none

/-- Majors 0x20 to 0x24 (R438, R439). -/
def decodeFlow (w : Nat) : Option HInstr :=
  match bits w 31 26 with
  | 0x20 => if bits w 25 22 = 15 then none else some (.b (rgd w) (BitVec.ofNat 22 (bits w 21 0)))
  | 0x21 => some (.j (BitVec.ofNat 26 (bits w 25 0)))
  | 0x22 => some (.jal (BitVec.ofNat 26 (bits w 25 0)))
  | 0x23 =>
    if bits w 24 22 ≠ 0 ∨ bits w 17 0 ≠ 0 then none
    else if ¬ bit w 25 then some (.jr (rga w))
    else if bits w 21 18 = 15 then none
    else some (.jalr (rga w))
  | 0x24 =>
    let e := BitVec.ofNat 12 (bits w 11 0)
    if bit w 24 then some (.loopImm (bit w 25) (BitVec.ofNat 12 (bits w 23 12)) e)
    else if bits w 23 16 = 0 then some (.loopReg (bit w 25) (BitVec.ofNat 4 (bits w 15 12)) e)
    else none
  | _ => none

/-- Major 0x30 (R440). -/
def decodeSys (w : Nat) : Option HInstr :=
  let s := BitVec.ofNat 5 (bits w 17 13)
  let gd0 := decide (bits w 25 22 = 0)
  let ga0 := decide (bits w 21 18 = 0)
  let s0 := decide (bits w 17 13 = 0)
  let m0 := decide (bits w 12 6 = 0)
  match bits w 5 0 with
  | 0x00 => if m0 && ga0 then some (.mfs (rgd w) s) else none
  | 0x01 => if m0 && gd0 then some (.mts s (rga w)) else none
  | 0x02 => if m0 && s0 && gd0 && ga0 then some .eret else none
  | 0x03 => if gd0 && ga0 then some (.syscall (BitVec.ofNat 12 (bits w 17 6))) else none
  | 0x04 => if gd0 && ga0 then some (.brk (BitVec.ofNat 12 (bits w 17 6))) else none
  | 0x05 => if m0 && s0 && gd0 && ga0 then some .lock else none
  | 0x06 => if m0 && s0 && ga0 then some (.unlock (rgd w)) else none
  | 0x07 => if m0 && s0 && gd0 && ga0 then some .sync else none
  | 0x08 => if m0 && s0 && gd0 && ga0 then some .wait else none
  | 0x09 => if m0 && gd0 then (CacheOp.ofCode (bits w 17 13)).map fun op => .cache op (rga w) else none
  | _ => none

/-- The instruction of a number below 2^32. -/
def decodeNat (w : Nat) : Option HInstr :=
  let major := bits w 31 26
  if major = 0x01 then decodeAlu w
  else if major = 0x02 then decodeMul w
  else if major < 0x10 then decodeImm w
  else if major < 0x20 then decodeMem w
  else if major < 0x30 then decodeFlow w
  else if major = 0x30 then decodeSys w
  else none

/-- The decoder: none for a word that raises ILLEGAL (R428). -/
def HInstr.decode (w : Word) : Option HInstr := decodeNat w.toNat

/-! ### Rows of the instruction set -/

/-- A number for the row of an instruction: major × 256 + function, level or operation. -/
def HInstr.row : HInstr → Nat
  | .alu op _ _ _ _ => 0x100 + op.fn
  | .alu1 op _ _ _ => 0x100 + op.fn
  | .sel _ _ _ _ _ => 0x113
  | .mul op _ _ _ _ => 0x200 + op.fn
  | .imm op _ _ _ _ => op.major * 0x100
  | .lui _ _ => 0x800
  | .cmpi _ _ => 0xA00
  | .shift op _ _ _ _ => 0x900 + op.sel
  | .load op _ _ _ => op.major * 0x100
  | .store op _ _ _ => op.major * 0x100
  | .b _ _ => 0x2000
  | .j _ => 0x2100
  | .jal _ => 0x2200
  | .jr _ => 0x2300
  | .jalr _ => 0x2301
  | .loopImm _ _ _ => 0x2400
  | .loopReg _ _ _ => 0x2400
  | .mfs _ _ => 0x3000
  | .mts _ _ => 0x3001
  | .eret => 0x3002
  | .syscall _ => 0x3003
  | .brk _ => 0x3004
  | .lock => 0x3005
  | .unlock _ => 0x3006
  | .sync => 0x3007
  | .wait => 0x3008
  | .cache op _ => 0x3010 + op.code

end Sys2Proof.Machine
end

