-- ==== Sys2Proof/Machine/Flags.lean ====
section
/-! DEFINITION. The Hiker results and flags: additions, shifts, conditions, multiplication and division
(14_hiker_instructions.md R431 to R436). -/

namespace Sys2Proof.Machine

/-- The four flags of STATUS[3:0] (R394). -/
structure Nzcv where
  n : Bool
  z : Bool
  c : Bool
  v : Bool
  deriving DecidableEq, Repr

/-- The flags of a STATUS word: N in bit 3, Z in 2, C in 1, V in 0. -/
def Nzcv.of (w : Word) : Nzcv := ⟨w.getLsbD 3, w.getLsbD 2, w.getLsbD 1, w.getLsbD 0⟩

/-- The flags as bits [3:0]. -/
def Nzcv.bits (f : Nzcv) : BitVec 4 :=
  BitVec.ofBool f.n ++ BitVec.ofBool f.z ++ BitVec.ofBool f.c ++ BitVec.ofBool f.v

/-- A condition on the flags (R432); 0xF is reserved and never tested. -/
def condHolds (cond : BitVec 4) (f : Nzcv) : Bool :=
  match cond.toNat with
  | 0x0 => true
  | 0x1 => f.z
  | 0x2 => !f.z
  | 0x3 => f.c
  | 0x4 => !f.c
  | 0x5 => f.c && !f.z
  | 0x6 => !f.c || f.z
  | 0x7 => f.n
  | 0x8 => !f.n
  | 0x9 => f.v
  | 0xA => !f.v
  | 0xB => f.n == f.v
  | 0xC => f.n != f.v
  | 0xD => !f.z && (f.n == f.v)
  | 0xE => f.z || (f.n != f.v)
  | _ => false

/-- N and Z of a result, the other flags kept (R431). -/
def nzOf (r : Word) (f : Nzcv) : Nzcv := { f with n := r.msb, z := decide (r = 0) }

/-- a + b + carry with all four flags (R431). -/
def addFlags (a b : Word) (cin : Bool) : Word × Nzcv :=
  let sum := a.toNat + b.toNat + b2n cin
  let r : Word := BitVec.ofNat 32 sum
  (r, { n := r.msb, z := decide (r = 0), c := decide (2 ^ 32 ≤ sum),
        v := decide (a.msb = b.msb) && decide (r.msb ≠ a.msb) })

/-- Left shift by `n` places, with the last bit shifted out (R433). -/
def shlFlags (a : Word) (n : Nat) (f : Nzcv) : Word × Nzcv :=
  let r : Word := if n < 32 then a <<< n else 0
  let f' := nzOf r f
  (r, if n = 0 then f' else { f' with c := decide (n ≤ 32) && a.getLsbD (32 - n) })

/-- Logical right shift by `n` places (R433). -/
def shrFlags (a : Word) (n : Nat) (f : Nzcv) : Word × Nzcv :=
  let r : Word := if n < 32 then a >>> n else 0
  let f' := nzOf r f
  (r, if n = 0 then f' else { f' with c := decide (n ≤ 32) && a.getLsbD (n - 1) })

/-- Arithmetic right shift by min(`n`, 31) places; for 32 or more C is the sign (R433). -/
def sarFlags (a : Word) (n : Nat) (f : Nzcv) : Word × Nzcv :=
  let r := a.sshiftRight (min n 31)
  let f' := nzOf r f
  (r, if n = 0 then f' else { f' with c := if 32 ≤ n then a.msb else a.getLsbD (n - 1) })

/-- Rotation right by `n` places, 0 to 31; C is the sign of the result unless `n` is 0 (R433). -/
def rorFlags (a : Word) (n : Nat) (f : Nzcv) : Word × Nzcv :=
  let r := a.rotateRight (n % 32)
  let f' := nzOf r f
  (r, if n % 32 = 0 then f' else { f' with c := r.msb })

/-- Zero bits above the highest one bit (R433). -/
def clz (a : Word) : Nat := 31 + 1 - (if a.toNat = 0 then 0 else Nat.log2 a.toNat + 1)

/-- Result and flags of a two-source ALU function (R431, R433). -/
def aluFlags (op : AluOp) (a b : Word) (f : Nzcv) : Word × Nzcv :=
  let plain : Word → Word × Nzcv := fun r => (r, nzOf r f)
  let less := decide (a.toInt < b.toInt)
  let lessU := decide (a.toNat < b.toNat)
  match op with
  | .add => addFlags a b false
  | .adc => addFlags a b f.c
  | .sub => addFlags a (~~~b) true
  | .sbc => addFlags a (~~~b) f.c
  | .and => plain (a &&& b)
  | .or => plain (a ||| b)
  | .xor => plain (a ^^^ b)
  | .andn => plain (a &&& ~~~b)
  | .shl => shlFlags a (b.toNat % 256) f
  | .shr => shrFlags a (b.toNat % 256) f
  | .sar => sarFlags a (b.toNat % 256) f
  | .ror => rorFlags a (b.toNat % 32) f
  | .min => plain (if less then a else b)
  | .max => plain (if less then b else a)
  | .minu => plain (if lessU then a else b)
  | .maxu => plain (if lessU then b else a)
  | .slt => plain (if less then 1 else 0)
  | .sltu => plain (if lessU then 1 else 0)

/-- Result of a one-source ALU function (R433). -/
def alu1Of (op : Alu1Op) (a : Word) : Word :=
  match op with
  | .clz => BitVec.ofNat 32 (clz a)
  | .sextb => (a.setWidth 8).signExtend 32
  | .sexth => (a.setWidth 16).signExtend 32

/-- Result of a multiplication or division; none is a division by zero (R435). -/
def mulOf (op : MulOp) (a b : Word) : Option Word :=
  match op with
  | .mul => some (a * b)
  | .mulh => some (BitVec.ofInt 32 (Int.fdiv (a.toInt * b.toInt) (2 ^ 32)))
  | .mulhu => some (BitVec.ofNat 32 (a.toNat * b.toNat / 2 ^ 32))
  | .div => if b = 0 then none else some (BitVec.ofInt 32 (Int.tdiv a.toInt b.toInt))
  | .divu => if b = 0 then none else some (BitVec.ofNat 32 (a.toNat / b.toNat))
  | .rem => if b = 0 then none else some (BitVec.ofInt 32 (Int.tmod a.toInt b.toInt))
  | .remu => if b = 0 then none else some (BitVec.ofNat 32 (a.toNat % b.toNat))

/-- Result and flags of an immediate instruction (R429, R431, R436). -/
def immFlags (op : ImmOp) (a : Word) (v : BitVec 16) (f : Nzcv) : Word × Nzcv :=
  let plain : Word → Word × Nzcv := fun r => (r, nzOf r f)
  match op with
  | .addi => addFlags a (v.signExtend 32) false
  | .andi => plain (a &&& v.setWidth 32)
  | .ori => plain (a ||| v.setWidth 32)
  | .xori => plain (a ^^^ v.setWidth 32)

/-- Result and flags of a shift-immediate (R434). -/
def shiftFlags (op : ShiftOp) (a : Word) (n : BitVec 5) (f : Nzcv) : Word × Nzcv :=
  match op with
  | .shli => shlFlags a n.toNat f
  | .shri => shrFlags a n.toNat f
  | .sari => sarFlags a n.toNat f
  | .rori => rorFlags a n.toNat f

end Sys2Proof.Machine
end

