-- ==== Sys2Proof/Machine/Crypto.lean ====
section
/-! DEFINITION. The checksum of the device, CRC-32C with the parameters of R103 (03_coordinated_motion.md), and the
cryptography of keyed commands: AES-128, CMAC and key wrap (19_keyed_commands.md R567, R574), as the NIST standards that
the spec names define them (notes/assumptions/16.md). -/

namespace Sys2Proof.Machine

/-- One bit of the reflected CRC-32C register (R103). -/
def crcBit (c : BitVec 32) : BitVec 32 := if c.getLsbD 0 then (c >>> 1) ^^^ 0x82F63B78#32 else c >>> 1

/-- One byte entered into the CRC register. -/
def crcByte (c : BitVec 32) (b : Byte) : BitVec 32 :=
  let c := c ^^^ b.setWidth 32
  crcBit (crcBit (crcBit (crcBit (crcBit (crcBit (crcBit (crcBit c)))))))

/-- CRC-32C of a byte string: initial value and final XOR 0xFFFF_FFFF (R103). -/
def crc32c (l : List Byte) : Nat := ((l.foldl crcByte 0xFFFFFFFF#32) ^^^ 0xFFFFFFFF#32).toNat

/-! ### AES-128 -/

/-- Row 0 of the S-box. -/
def sboxRow0 : List Byte := [0x63, 0x7C, 0x77, 0x7B, 0xF2, 0x6B, 0x6F, 0xC5, 0x30, 0x01, 0x67, 0x2B, 0xFE, 0xD7, 0xAB, 0x76]

/-- Row 1 of the S-box. -/
def sboxRow1 : List Byte := [0xCA, 0x82, 0xC9, 0x7D, 0xFA, 0x59, 0x47, 0xF0, 0xAD, 0xD4, 0xA2, 0xAF, 0x9C, 0xA4, 0x72, 0xC0]

/-- Row 2 of the S-box. -/
def sboxRow2 : List Byte := [0xB7, 0xFD, 0x93, 0x26, 0x36, 0x3F, 0xF7, 0xCC, 0x34, 0xA5, 0xE5, 0xF1, 0x71, 0xD8, 0x31, 0x15]

/-- Row 3 of the S-box. -/
def sboxRow3 : List Byte := [0x04, 0xC7, 0x23, 0xC3, 0x18, 0x96, 0x05, 0x9A, 0x07, 0x12, 0x80, 0xE2, 0xEB, 0x27, 0xB2, 0x75]

/-- Row 4 of the S-box. -/
def sboxRow4 : List Byte := [0x09, 0x83, 0x2C, 0x1A, 0x1B, 0x6E, 0x5A, 0xA0, 0x52, 0x3B, 0xD6, 0xB3, 0x29, 0xE3, 0x2F, 0x84]

/-- Row 5 of the S-box. -/
def sboxRow5 : List Byte := [0x53, 0xD1, 0x00, 0xED, 0x20, 0xFC, 0xB1, 0x5B, 0x6A, 0xCB, 0xBE, 0x39, 0x4A, 0x4C, 0x58, 0xCF]

/-- Row 6 of the S-box. -/
def sboxRow6 : List Byte := [0xD0, 0xEF, 0xAA, 0xFB, 0x43, 0x4D, 0x33, 0x85, 0x45, 0xF9, 0x02, 0x7F, 0x50, 0x3C, 0x9F, 0xA8]

/-- Row 7 of the S-box. -/
def sboxRow7 : List Byte := [0x51, 0xA3, 0x40, 0x8F, 0x92, 0x9D, 0x38, 0xF5, 0xBC, 0xB6, 0xDA, 0x21, 0x10, 0xFF, 0xF3, 0xD2]

/-- Row 8 of the S-box. -/
def sboxRow8 : List Byte := [0xCD, 0x0C, 0x13, 0xEC, 0x5F, 0x97, 0x44, 0x17, 0xC4, 0xA7, 0x7E, 0x3D, 0x64, 0x5D, 0x19, 0x73]

/-- Row 9 of the S-box. -/
def sboxRow9 : List Byte := [0x60, 0x81, 0x4F, 0xDC, 0x22, 0x2A, 0x90, 0x88, 0x46, 0xEE, 0xB8, 0x14, 0xDE, 0x5E, 0x0B, 0xDB]

/-- Row A of the S-box. -/
def sboxRowA : List Byte := [0xE0, 0x32, 0x3A, 0x0A, 0x49, 0x06, 0x24, 0x5C, 0xC2, 0xD3, 0xAC, 0x62, 0x91, 0x95, 0xE4, 0x79]

/-- Row B of the S-box. -/
def sboxRowB : List Byte := [0xE7, 0xC8, 0x37, 0x6D, 0x8D, 0xD5, 0x4E, 0xA9, 0x6C, 0x56, 0xF4, 0xEA, 0x65, 0x7A, 0xAE, 0x08]

/-- Row C of the S-box. -/
def sboxRowC : List Byte := [0xBA, 0x78, 0x25, 0x2E, 0x1C, 0xA6, 0xB4, 0xC6, 0xE8, 0xDD, 0x74, 0x1F, 0x4B, 0xBD, 0x8B, 0x8A]

/-- Row D of the S-box. -/
def sboxRowD : List Byte := [0x70, 0x3E, 0xB5, 0x66, 0x48, 0x03, 0xF6, 0x0E, 0x61, 0x35, 0x57, 0xB9, 0x86, 0xC1, 0x1D, 0x9E]

/-- Row E of the S-box. -/
def sboxRowE : List Byte := [0xE1, 0xF8, 0x98, 0x11, 0x69, 0xD9, 0x8E, 0x94, 0x9B, 0x1E, 0x87, 0xE9, 0xCE, 0x55, 0x28, 0xDF]

/-- Row F of the S-box. -/
def sboxRowF : List Byte := [0x8C, 0xA1, 0x89, 0x0D, 0xBF, 0xE6, 0x42, 0x68, 0x41, 0x99, 0x2D, 0x0F, 0xB0, 0x54, 0xBB, 0x16]

/-- The S-box of AES. -/
def sboxTable : List Byte :=
  sboxRow0 ++ sboxRow1 ++ sboxRow2 ++ sboxRow3 ++ sboxRow4 ++ sboxRow5 ++ sboxRow6 ++ sboxRow7 ++ sboxRow8 ++ sboxRow9 ++ sboxRowA
    ++ sboxRowB ++ sboxRowC ++ sboxRowD ++ sboxRowE ++ sboxRowF

/-- A byte through the S-box. -/
def sbox (b : Byte) : Byte := sboxTable.getD b.toNat 0

/-- A byte through the inverse S-box. -/
def sboxInv (b : Byte) : Byte := BitVec.ofNat 8 (sboxTable.idxOf b)

/-- XOR of two byte strings. -/
def xorBytes (a b : List Byte) : List Byte := List.zipWith (· ^^^ ·) a b

/-- Multiplication by x in the field of AES. -/
def xtime (b : Byte) : Byte := if b.getLsbD 7 then (b <<< 1) ^^^ 0x1B else b <<< 1

/-- Multiplication by a constant below 16 in the field of AES. -/
def gmul (k : Nat) (b : Byte) : Byte :=
  (if k.testBit 0 then b else 0) ^^^ (if k.testBit 1 then xtime b else 0) ^^^ (if k.testBit 2 then xtime (xtime b) else 0)
    ^^^ (if k.testBit 3 then xtime (xtime (xtime b)) else 0)

/-- The round constants. -/
def rcon : List Byte := [0x01, 0x02, 0x04, 0x08, 0x10, 0x20, 0x40, 0x80, 0x1B, 0x36]

/-- The next round key of 16 bytes. -/
def nextKey (k : List Byte) (rc : Byte) : List Byte :=
  let t := [sbox (k.getD 13 0) ^^^ rc, sbox (k.getD 14 0), sbox (k.getD 15 0), sbox (k.getD 12 0)]
  let w0 := xorBytes (k.take 4) t
  let w1 := xorBytes ((k.drop 4).take 4) w0
  let w2 := xorBytes ((k.drop 8).take 4) w1
  let w3 := xorBytes ((k.drop 12).take 4) w2
  w0 ++ w1 ++ w2 ++ w3

/-- The round keys after the first, in order. -/
def roundKeys (k : List Byte) : List Byte → List (List Byte)
  | [] => []
  | rc :: l => let n := nextKey k rc
    n :: roundKeys n l

/-- ShiftRows over 16 bytes in column order; `back` is its inverse. -/
def shiftRows (back : Bool) (b : List Byte) : List Byte :=
  (List.range 16).map fun i => b.getD (4 * ((i / 4 + (if back then 4 - i % 4 else i % 4)) % 4) + i % 4) 0

/-- MixColumns with the coefficients of a row. -/
def mixColumns (c : List Nat) (b : List Byte) : List Byte :=
  (List.range 16).map fun i =>
    ((List.range 4).map fun j => gmul (c.getD ((j + 4 - i % 4) % 4) 0) (b.getD (4 * (i / 4) + j) 0)).foldl (· ^^^ ·) 0

/-- AES-128 of one block. -/
def aesEncrypt (key block : List Byte) : List Byte :=
  let ks := roundKeys key rcon
  let s := xorBytes block key
  let s := (ks.take 9).foldl (fun s k => xorBytes (mixColumns [2, 3, 1, 1] (shiftRows false (s.map sbox))) k) s
  xorBytes (shiftRows false (s.map sbox)) (ks.getD 9 [])

/-- The inverse of AES-128 of one block. -/
def aesDecrypt (key block : List Byte) : List Byte :=
  let ks := roundKeys key rcon
  let s := (shiftRows true (xorBytes block (ks.getD 9 []))).map sboxInv
  let s := (ks.take 9).reverse.foldl (fun s k => (shiftRows true (mixColumns [14, 11, 13, 9] (xorBytes s k))).map sboxInv) s
  xorBytes s key

/-! ### CMAC -/

/-- A block doubled in the field of CMAC. -/
def cmacDouble (b : List Byte) : List Byte :=
  let n := natLE b.reverse
  let d := (2 * n) % 2 ^ 128
  (bytesLE 16 (if n.testBit 127 then d ^^^ 0x87 else d)).reverse

/-- The chained blocks of a message before its last. -/
def cmacChain (key : List Byte) (x : List Byte) : Nat → List Byte → List Byte
  | 0, _ => x
  | k + 1, m => cmacChain key (aesEncrypt key (xorBytes x (m.take 16))) k (m.drop 16)

/-- AES-128-CMAC of a message that is not empty, 16 octets in output order (R567). -/
def cmac (key m : List Byte) : List Byte :=
  let k1 := cmacDouble (aesEncrypt key (List.replicate 16 0))
  let n := (m.length - 1) / 16
  let x := cmacChain key (List.replicate 16 0) n m
  let r := m.drop (16 * n)
  let last := if r.length = 16 then xorBytes r k1
    else xorBytes (r ++ [0x80] ++ List.replicate (15 - r.length) 0) (cmacDouble k1)
  aesEncrypt key (xorBytes x last)

/-! ### Key wrap -/

/-- One step of unwrapping two 64-bit blocks: counter `t`, which block it takes. -/
def unwrapStep (key : List Byte) (x : List Byte × List Byte × List Byte) (t : Nat) : List Byte × List Byte × List Byte :=
  let (a, r1, r2) := x
  let a' := xorBytes a (bytesLE 8 t).reverse
  if t % 2 = 0 then
    let b := aesDecrypt key (a' ++ r2)
    (b.take 8, r1, b.drop 8)
  else
    let b := aesDecrypt key (a' ++ r1)
    (b.take 8, b.drop 8, r2)

/-- A key of 16 bytes unwrapped from 24; none when the integrity check fails (R574). -/
def keyUnwrap (key w : List Byte) : Option (List Byte) :=
  let x := [12, 11, 10, 9, 8, 7, 6, 5, 4, 3, 2, 1].foldl (unwrapStep key) (w.take 8, (w.drop 8).take 8, (w.drop 16).take 8)
  if x.1 = List.replicate 8 0xA6 then some (x.2.1 ++ x.2.2) else none

/-- The check value of a key: bytes 0 to 3 of AES-128 of 16 zero bytes (R572). -/
def keyCheck (key : List Byte) : Nat := fieldLE (aesEncrypt key (List.replicate 16 0)) 0 4

end Sys2Proof.Machine
end

