-- ==== Sys2Proof/Machine/Binary64.lean ====
section
/-! DEFINITION. IEEE 754 binary64 arithmetic as R51 and R52 of 02_trails_and_profiles.md use it: round to nearest, ties
to even, correctly rounded square root, no fused multiply-add. A value is m × 2^e with |m| < 2^53; the exponent is
unbounded, which R49's formats never notice (notes/assumptions/7.md). -/

namespace Sys2Proof.Machine

/-- A binary64 value m × 2^e. -/
structure B64 where
  m : Int
  e : Int
  deriving DecidableEq, Repr

/-- Number of bits of `n`. -/
def bitLen (n : Nat) : Nat := if n = 0 then 0 else Nat.log2 n + 1

/-- The multiple of 2^k nearest to `n`, over 2^k, ties to even. -/
def roundEven (n k : Nat) : Nat :=
  let q := n / 2 ^ k
  let r := n % 2 ^ k
  if 2 * r > 2 ^ k ∨ (2 * r = 2 ^ k ∧ q % 2 = 1) then q + 1 else q

/-- Round n × 2^e, n ≥ 0, to 53 bits, with a sign. -/
def b64OfMag (neg : Bool) (n : Nat) (e : Int) : B64 :=
  let k := bitLen n - 53
  let q := if k = 0 then n else roundEven n k
  ⟨if neg then -(q : Int) else q, if q = 0 then 0 else e + k⟩

/-- Round i × 2^e to binary64. -/
def b64Of (i : Int) (e : Int := 0) : B64 := b64OfMag (i < 0) i.natAbs e

/-- Exact sum of two dyadics, then rounded. -/
def b64Add (x y : B64) : B64 :=
  let e := if x.e ≤ y.e then x.e else y.e
  b64Of (x.m * 2 ^ (x.e - e).toNat + y.m * 2 ^ (y.e - e).toNat) e

/-- Negation. -/
def b64Neg (x : B64) : B64 := ⟨-x.m, x.e⟩

/-- Rounded difference. -/
def b64Sub (x y : B64) : B64 := b64Add x (b64Neg y)

/-- Rounded product. -/
def b64Mul (x y : B64) : B64 := b64Of (x.m * y.m) (x.e + y.e)

/-- Rounded quotient; 0 for a zero divisor, which no limit of R50 gives. -/
def b64Div (x y : B64) : B64 :=
  if y.m = 0 then ⟨0, 0⟩
  else
    let n := x.m.natAbs * 2 ^ 120
    let d := y.m.natAbs
    let q := n / d
    let sticky := if n % d = 0 then 0 else 1
    b64OfMag ((x.m < 0) != (y.m < 0)) (2 * q + sticky) (x.e - y.e - 121)

/-- Integer square root, `b` bits still to decide. -/
def isqrtFrom : Nat → Nat → Nat → Nat
  | 0, _, acc => acc
  | b + 1, n, acc => if (acc + 2 ^ b) * (acc + 2 ^ b) ≤ n then isqrtFrom b n (acc + 2 ^ b) else isqrtFrom b n acc

/-- Floor of the square root of `n`. -/
def isqrt (n : Nat) : Nat := isqrtFrom (bitLen n / 2 + 1) n 0

/-- Correctly rounded square root; 0 below 0. -/
def b64Sqrt (x : B64) : B64 :=
  if x.m ≤ 0 then ⟨0, 0⟩
  else
    let odd := x.e % 2
    let n := x.m.toNat * 2 ^ (odd.toNat + 120)
    let r := isqrt n
    let sticky := if r * r = n then 0 else 1
    b64OfMag false (2 * r + sticky) ((x.e - odd) / 2 - 61)

/-- Exact comparison x ≤ y. -/
def b64Le (x y : B64) : Bool :=
  let e := if x.e ≤ y.e then x.e else y.e
  decide (x.m * 2 ^ (x.e - e).toNat ≤ y.m * 2 ^ (y.e - e).toNat)

/-- Magnitude. -/
def b64Abs (x : B64) : B64 := ⟨x.m.natAbs, x.e⟩

/-! ### Binary64 values as rationals (R162, R169, R200, R203) -/

/-- The rational that a binary64 value stands for. -/
def b64Rat (x : B64) : Rat := if 0 ≤ x.e then ((x.m * 2 ^ x.e.toNat : Int) : Rat) else (x.m : Rat) / ((2 ^ (-x.e).toNat : Nat) : Rat)

/-- The binary64 value nearest to `n / d`, ties to even. -/
def b64Quot (neg : Bool) (n d : Nat) : B64 :=
  let k : Int := 66 + (bitLen d : Int) - bitLen n
  let n' := n * 2 ^ k.toNat
  let d' := d * 2 ^ (-k).toNat
  b64OfMag neg (2 * (n' / d') + (if n' % d' = 0 then 0 else 1)) (-k - 1)

/-- A rational rounded to binary64. -/
def r64 (q : Rat) : Rat := b64Rat (b64Quot (q.num < 0) q.num.natAbs q.den)

/-- Sum, difference, product and quotient in binary64; the callers rule a zero divisor out. -/
def f64Add (x y : Rat) : Rat := r64 (x + y)
def f64Sub (x y : Rat) : Rat := r64 (x - y)
def f64Mul (x y : Rat) : Rat := r64 (x * y)
def f64Div (x y : Rat) : Rat := r64 (x / y)

/-- The correctly rounded square root in binary64; 0 below 0. -/
def f64Sqrt (q : Rat) : Rat :=
  if q ≤ 0 then 0
  else
    let k := 66 + bitLen q.den
    let n := q.num.natAbs * 2 ^ (2 * k)
    let r := isqrt (n / q.den)
    b64Rat (b64OfMag false (2 * r + (if r * r * q.den = n then 0 else 1)) (-(k : Int) - 1))

/-- A rational over a power of two as m × 2^k with 1 ≤ m × 2 and m < 2: the k by which `q` above 0 is brought near 1. -/
def binExp (q : Rat) : Int := (bitLen q.num.natAbs : Int) - bitLen q.den

/-- The sum of z^(2i+1) / (2i+1) over the next `k` terms, in units of 2^-96; `t` is the present power and `i` its exponent. -/
def atanhSum (z2 : Int) : (k : Nat) → (t : Int) → (i : Nat) → Int
  | 0, _, _ => 0
  | k + 1, t, i => Int.fdiv t i + atanhSum z2 k (Int.fdiv (t * z2) (2 ^ 96)) (i + 2)

/-- The natural logarithm of a rational above 0, to within 2^-80 (R306). Log: DEDUCED notes/assumptions/14.md. -/
def lnRat (q : Rat) : Rat :=
  let k := binExp q
  let m : Rat := if 0 ≤ k then q / (2 ^ k.toNat : Nat) else q * (2 ^ (-k).toNat : Nat)
  let z := Int.fdiv ((m - 1) / (m + 1) * (2 ^ 96 : Nat) : Rat).floor 1
  ((2 * atanhSum (Int.fdiv (z * z) (2 ^ 96)) 72 z 1 + k * 54916777467707473351141471128 : Int) : Rat) / (2 ^ 96 : Nat)

/-- π in binary64. -/
def pi64 : Rat := 884279719003555 / 281474976710656

/-- The state of `stop_dist` (R52): distance, velocity, acceleration. -/
structure Braking where
  d : B64
  v : B64
  a : B64
  deriving DecidableEq, Repr

/-- Procedure `seg` of R52: advance by time t at jerk j. -/
def brakeSeg (b : Braking) (t j : B64) : Braking :=
  let two := b64Of 2
  let six := b64Of 6
  { d := b64Add (b64Add (b64Add b.d (b64Mul b.v t)) (b64Div (b64Mul (b64Mul b.a t) t) two))
           (b64Div (b64Mul (b64Mul (b64Mul j t) t) t) six)
    v := b64Add (b64Add b.v (b64Mul b.a t)) (b64Div (b64Mul (b64Mul j t) t) two)
    a := b64Add b.a (b64Mul j t) }

/-- The function `stop_dist` of R52. In the second duration of its last branch, `a` is the acceleration before the
first `seg` of the branch, which ending at velocity w requires. Log: DEDUCED notes/assumptions/8.md. -/
def stopDist (v a w j am : B64) : B64 :=
  let two := b64Of 2
  let nj := b64Neg j
  let b : Braking := ⟨⟨0, 0⟩, v, a⟩
  let b := if 0 < a.m then brakeSeg b (b64Div a j) nj else b
  let dv := b64Sub b.v w
  let a := b.a
  if b64Le dv (b64Div (b64Mul a a) (b64Mul two j)) then (brakeSeg b (b64Div (b64Neg a) j) j).d
  else
    let ap := b64Sqrt (b64Add (b64Mul j dv) (b64Div (b64Mul a a) two))
    if b64Le ap am then
      let b := brakeSeg b (b64Div (b64Add ap a) j) nj
      (brakeSeg b (b64Div ap j) j).d
    else
      let b := brakeSeg b (b64Div (b64Add am a) j) nj
      let t := b64Div (b64Sub dv (b64Div (b64Sub (b64Mul (b64Mul two am) am) (b64Mul a a)) (b64Mul two j))) am
      let b := brakeSeg b t ⟨0, 0⟩
      (brakeSeg b (b64Div am j) j).d

end Sys2Proof.Machine
end

