-- ==== Sys2Proof/Config.lean ====
section
/-! DEFINITION. What one implementation fixes and what the spec leaves open: opaque constants with no body, so that
no proof can use a value of theirs (notes/assumptions name each). -/

namespace Sys2Proof.Config

/-- A fresh undetermined number for each use: the `k`-th value that the spec leaves open. -/
opaque freeValue : Nat → Nat

/-- The sense code, 14 bits, that fast converter `x` of tile `n` delivers for the sample instant `t`, sixths of a ns: the
current it measures, which no command brings in (R287). Log: DESIGN CHOICE notes/assumptions/102.md. -/
opaque senseCode : Nat → Nat → Nat → Nat

/-- The 64-bit factory serial of the device (R682). Log: DESIGN CHOICE notes/assumptions/95.md. -/
opaque serial : Nat

/-- Factory reference resistances SFE_RREF0 and SFE_RREF1 (R376). Log: DESIGN CHOICE notes/assumptions/95.md. -/
opaque rref : Nat → Nat

/-- Die temperature in 1/64 °C from the factory trim of a sensor (255 for the house's) and its mean code (R306).
Log: DESIGN CHOICE notes/assumptions/95.md. -/
opaque dieTemp : Nat → Rat → Int

/-- The route number of a second root that is reached through port D, a fact of the site (R511).
Log: DESIGN CHOICE notes/assumptions/95.md. -/
opaque rootBeyondD : Nat

/-- Route and depth that the roll call of a generation gave the device with a serial, as root B knows them (R505).
Log: DESIGN CHOICE notes/assumptions/95.md. -/
opaque rollRoute : Nat → Nat → Option (Nat × Nat)

/-- Serial of the device at a route and depth in the roll call of a generation, as root B knows it (R505).
Log: DESIGN CHOICE notes/assumptions/95.md. -/
opaque rollSerial : Nat → Nat → Nat → Nat

/-- Whether an ECDSA P-256 signature verifies: image digest bytes, signature bytes (R630).
Log: DESIGN CHOICE notes/assumptions/17.md. -/
opaque imageSignatureOk : List Byte → List Byte → Bool

end Sys2Proof.Config
end

