-- ==== Sys2Proof/Machine/Regs.lean ====
section
/-! DEFINITION. The register map: one constant per register and per field of the spec's register tables
(00_scope.md R7 to R15, 25_register_map.md R678 to R692), the access code, reset value, reset domain and
persistence of each. The rows follow the tables of the chapter that each docstring names. -/

namespace Sys2Proof.Machine

/-- The access codes of R7. -/
inductive Access where
  | rw | ro | wo | w1c | w1s | rc | sc | rwl
  deriving DecidableEq, Repr

/-- The reset domains of R680. -/
inductive Domain where
  | constant | alwaysOn | trip | nightKept | device | tile
  deriving DecidableEq, Repr

/-- One register field: the BAR0 offset of instance 0, the stride of the instances, the stride of a second
index inside an instance, and the field's bits. -/
structure Fld where
  off : Nat
  stride : Nat
  sub : Nat
  msb : Nat
  lsb : Nat
  deriving DecidableEq, Repr

/-- One register type: offset of instance 0, stride and number of instances, and a second index inside one. -/
structure Reg where
  off : Nat
  stride : Nat
  count : Nat
  sub : Nat
  subCount : Nat
  deriving DecidableEq, Repr

/-- One field of a row of the access table. -/
structure FieldRow where
  msb : Nat
  lsb : Nat
  acc : Access
  rst : Nat
  deriving DecidableEq, Repr

/-- One row of the register map. -/
structure RegRow where
  reg : Reg
  dom : Domain
  keeps : Bool
  fields : List FieldRow
  deriving DecidableEq, Repr

namespace R

/-- DEV_ID (R682, 25_register_map.md). -/
def DEV_ID : Reg := ⟨0x0, 0x0, 1, 0, 1⟩
@[reducible] def DEV_ID_part : Fld := ⟨0x0, 0x0, 0, 31, 16⟩
@[reducible] def DEV_ID_family : Fld := ⟨0x0, 0x0, 0, 15, 8⟩
@[reducible] def DEV_ID_revision : Fld := ⟨0x0, 0x0, 0, 7, 0⟩
/-- DEV_PCI (R682, 25_register_map.md). -/
def DEV_PCI : Reg := ⟨0x4, 0x0, 1, 0, 1⟩
@[reducible] def DEV_PCI_device : Fld := ⟨0x4, 0x0, 0, 31, 16⟩
@[reducible] def DEV_PCI_vendor : Fld := ⟨0x4, 0x0, 0, 15, 0⟩
/-- DEV_SERIAL_LO (R682, 25_register_map.md). -/
def DEV_SERIAL_LO : Reg := ⟨0x8, 0x0, 1, 0, 1⟩
@[reducible] def DEV_SERIAL_LO_serial : Fld := ⟨0x8, 0x0, 0, 31, 0⟩
/-- DEV_SERIAL_HI (R682, 25_register_map.md). -/
def DEV_SERIAL_HI : Reg := ⟨0xC, 0x0, 1, 0, 1⟩
@[reducible] def DEV_SERIAL_HI_serial : Fld := ⟨0xC, 0x0, 0, 31, 0⟩
/-- DEV_IDCODE (R682, 25_register_map.md). -/
def DEV_IDCODE : Reg := ⟨0x10, 0x0, 1, 0, 1⟩
@[reducible] def DEV_IDCODE_idcode : Fld := ⟨0x10, 0x0, 0, 31, 0⟩
/-- DAWN_STATUS (R656, 23_dawn_and_debug.md). -/
def DAWN_STATUS : Reg := ⟨0x20, 0x0, 1, 0, 1⟩
@[reducible] def DAWN_STATUS_stage : Fld := ⟨0x20, 0x0, 0, 31, 29⟩
@[reducible] def DAWN_STATUS_cause : Fld := ⟨0x20, 0x0, 0, 28, 26⟩
@[reducible] def DAWN_STATUS_booted : Fld := ⟨0x20, 0x0, 0, 25, 24⟩
@[reducible] def DAWN_STATUS_fails : Fld := ⟨0x20, 0x0, 0, 23, 20⟩
@[reducible] def DAWN_STATUS_duration : Fld := ⟨0x20, 0x0, 0, 19, 0⟩
/-- DAWN_STRAPS (R656, 23_dawn_and_debug.md). -/
def DAWN_STRAPS : Reg := ⟨0x24, 0x0, 1, 0, 1⟩
@[reducible] def DAWN_STRAPS_root_sel : Fld := ⟨0x24, 0x0, 0, 4, 4⟩
@[reducible] def DAWN_STRAPS_bench_en : Fld := ⟨0x24, 0x0, 0, 3, 3⟩
@[reducible] def DAWN_STRAPS_split : Fld := ⟨0x24, 0x0, 0, 2, 2⟩
@[reducible] def DAWN_STRAPS_boot_src : Fld := ⟨0x24, 0x0, 0, 1, 0⟩
/-- DEVICE_RESET (R656, 23_dawn_and_debug.md). -/
def DEVICE_RESET : Reg := ⟨0x28, 0x0, 1, 0, 1⟩
@[reducible] def DEVICE_RESET_key : Fld := ⟨0x28, 0x0, 0, 31, 0⟩
/-- SRAM_PAGE (R685, 25_register_map.md). -/
def SRAM_PAGE : Reg := ⟨0x40, 0x4, 2, 0, 1⟩
@[reducible] def SRAM_PAGE_target : Fld := ⟨0x40, 0x4, 0, 7, 0⟩
/-- PARAM_SAVE (R692, 25_register_map.md). -/
def PARAM_SAVE : Reg := ⟨0x48, 0x0, 1, 0, 1⟩
@[reducible] def PARAM_SAVE_go : Fld := ⟨0x48, 0x0, 0, 31, 31⟩
@[reducible] def PARAM_SAVE_busy : Fld := ⟨0x48, 0x0, 0, 30, 30⟩
@[reducible] def PARAM_SAVE_result : Fld := ⟨0x48, 0x0, 0, 23, 16⟩
@[reducible] def PARAM_SAVE_records : Fld := ⟨0x48, 0x0, 0, 7, 0⟩
/-- BAR_ERR (R683, 25_register_map.md). -/
def BAR_ERR : Reg := ⟨0x4C, 0x0, 1, 0, 1⟩
@[reducible] def BAR_ERR_count : Fld := ⟨0x4C, 0x0, 0, 31, 24⟩
@[reducible] def BAR_ERR_kind : Fld := ⟨0x4C, 0x0, 0, 23, 20⟩
@[reducible] def BAR_ERR_offset : Fld := ⟨0x4C, 0x0, 0, 19, 0⟩
/-- PWR_CTL (R601, 20_lookout_power_and_dusk.md). -/
def PWR_CTL : Reg := ⟨0x1000, 0x0, 1, 0, 1⟩
@[reducible] def PWR_CTL_go : Fld := ⟨0x1000, 0x0, 0, 31, 31⟩
@[reducible] def PWR_CTL_target : Fld := ⟨0x1000, 0x0, 0, 30, 28⟩
@[reducible] def PWR_CTL_auto_doze : Fld := ⟨0x1000, 0x0, 0, 27, 27⟩
@[reducible] def PWR_CTL_dusk_test : Fld := ⟨0x1000, 0x0, 0, 26, 26⟩
@[reducible] def PWR_CTL_doze_delay : Fld := ⟨0x1000, 0x0, 0, 15, 0⟩
/-- PWR_STATUS (R601, 20_lookout_power_and_dusk.md). -/
def PWR_STATUS : Reg := ⟨0x1004, 0x0, 1, 0, 1⟩
@[reducible] def PWR_STATUS_state : Fld := ⟨0x1004, 0x0, 0, 31, 29⟩
@[reducible] def PWR_STATUS_dusk_active : Fld := ⟨0x1004, 0x0, 0, 28, 28⟩
@[reducible] def PWR_STATUS_dusk_armed : Fld := ⟨0x1004, 0x0, 0, 27, 27⟩
@[reducible] def PWR_STATUS_supply_good : Fld := ⟨0x1004, 0x0, 0, 26, 26⟩
@[reducible] def PWR_STATUS_refused : Fld := ⟨0x1004, 0x0, 0, 23, 16⟩
@[reducible] def PWR_STATUS_changes : Fld := ⟨0x1004, 0x0, 0, 15, 0⟩
/-- WAKE_EN (R601, 20_lookout_power_and_dusk.md). -/
def WAKE_EN : Reg := ⟨0x1008, 0x0, 1, 0, 1⟩
@[reducible] def WAKE_EN_en : Fld := ⟨0x1008, 0x0, 0, 6, 0⟩
/-- WAKE_CAUSE (R601, 20_lookout_power_and_dusk.md). -/
def WAKE_CAUSE : Reg := ⟨0x100C, 0x0, 1, 0, 1⟩
@[reducible] def WAKE_CAUSE_cause : Fld := ⟨0x100C, 0x0, 0, 6, 0⟩
/-- LK_ALARM_LO (R601, 20_lookout_power_and_dusk.md). -/
def LK_ALARM_LO : Reg := ⟨0x1010, 0x0, 1, 0, 1⟩
@[reducible] def LK_ALARM_LO_time : Fld := ⟨0x1010, 0x0, 0, 31, 0⟩
/-- LK_ALARM_HI (R601, 20_lookout_power_and_dusk.md). -/
def LK_ALARM_HI : Reg := ⟨0x1014, 0x0, 1, 0, 1⟩
@[reducible] def LK_ALARM_HI_time : Fld := ⟨0x1014, 0x0, 0, 31, 0⟩
/-- DUSK_STATUS (R601, 20_lookout_power_and_dusk.md). -/
def DUSK_STATUS : Reg := ⟨0x1018, 0x0, 1, 0, 1⟩
@[reducible] def DUSK_STATUS_outcome : Fld := ⟨0x1018, 0x0, 0, 31, 24⟩
@[reducible] def DUSK_STATUS_cause : Fld := ⟨0x1018, 0x0, 0, 23, 20⟩
@[reducible] def DUSK_STATUS_duration : Fld := ⟨0x1018, 0x0, 0, 19, 0⟩
/-- DUSK_CFG (R601, 20_lookout_power_and_dusk.md). -/
def DUSK_CFG : Reg := ⟨0x101C, 0x0, 1, 0, 1⟩
@[reducible] def DUSK_CFG_vdd_en : Fld := ⟨0x101C, 0x0, 0, 31, 31⟩
@[reducible] def DUSK_CFG_clock_en : Fld := ⟨0x101C, 0x0, 0, 30, 30⟩
@[reducible] def DUSK_CFG_recover : Fld := ⟨0x101C, 0x0, 0, 7, 0⟩
/-- XTAL_STATUS (R601, 20_lookout_power_and_dusk.md). -/
def XTAL_STATUS : Reg := ⟨0x1020, 0x0, 1, 0, 1⟩
@[reducible] def XTAL_STATUS_x32_ok : Fld := ⟨0x1020, 0x0, 0, 31, 31⟩
@[reducible] def XTAL_STATUS_x32_rc : Fld := ⟨0x1020, 0x0, 0, 30, 30⟩
@[reducible] def XTAL_STATUS_x25_ok : Fld := ⟨0x1020, 0x0, 0, 29, 29⟩
/-- CLK_STATUS (R592, 20_lookout_power_and_dusk.md). -/
def CLK_STATUS : Reg := ⟨0x2000, 0x0, 1, 0, 1⟩
@[reducible] def CLK_STATUS_ref_lost : Fld := ⟨0x2000, 0x0, 0, 10, 10⟩
@[reducible] def CLK_STATUS_pcie_lock : Fld := ⟨0x2000, 0x0, 0, 9, 9⟩
@[reducible] def CLK_STATUS_serdes_lock : Fld := ⟨0x2000, 0x0, 0, 8, 5⟩
@[reducible] def CLK_STATUS_central_lock : Fld := ⟨0x2000, 0x0, 0, 4, 4⟩
@[reducible] def CLK_STATUS_quad_lock : Fld := ⟨0x2000, 0x0, 0, 3, 0⟩
/-- CANOPY_STATUS (R557, 18_canopy.md). -/
def CANOPY_STATUS : Reg := ⟨0x3000, 0x0, 1, 0, 1⟩
@[reducible] def CANOPY_STATUS_mode : Fld := ⟨0x3000, 0x0, 0, 31, 30⟩
@[reducible] def CANOPY_STATUS_safety_claim : Fld := ⟨0x3000, 0x0, 0, 29, 29⟩
@[reducible] def CANOPY_STATUS_dbg_split : Fld := ⟨0x3000, 0x0, 0, 28, 28⟩
@[reducible] def CANOPY_STATUS_bench : Fld := ⟨0x3000, 0x0, 0, 27, 27⟩
@[reducible] def CANOPY_STATUS_mismatch : Fld := ⟨0x3000, 0x0, 0, 26, 26⟩
@[reducible] def CANOPY_STATUS_selftest_fail : Fld := ⟨0x3000, 0x0, 0, 25, 25⟩
@[reducible] def CANOPY_STATUS_scan_wd : Fld := ⟨0x3000, 0x0, 0, 24, 24⟩
@[reducible] def CANOPY_STATUS_double_exc : Fld := ⟨0x3000, 0x0, 0, 23, 23⟩
@[reducible] def CANOPY_STATUS_fw_state : Fld := ⟨0x3000, 0x0, 0, 22, 20⟩
/-- CANOPY_MISMATCH (R557, 18_canopy.md). -/
def CANOPY_MISMATCH : Reg := ⟨0x3004, 0x0, 1, 0, 1⟩
@[reducible] def CANOPY_MISMATCH_lane : Fld := ⟨0x3004, 0x0, 0, 31, 28⟩
@[reducible] def CANOPY_MISMATCH_cycle : Fld := ⟨0x3004, 0x0, 0, 27, 0⟩
/-- CANOPY_SELFTEST (R557, 18_canopy.md). -/
def CANOPY_SELFTEST : Reg := ⟨0x3008, 0x0, 1, 0, 1⟩
@[reducible] def CANOPY_SELFTEST_word : Fld := ⟨0x3008, 0x0, 0, 31, 0⟩
/-- CANOPY_ECC (R557, 18_canopy.md). -/
def CANOPY_ECC : Reg := ⟨0x300C, 0x0, 1, 0, 1⟩
@[reducible] def CANOPY_ECC_corr_a : Fld := ⟨0x300C, 0x0, 0, 31, 16⟩
@[reducible] def CANOPY_ECC_corr_b : Fld := ⟨0x300C, 0x0, 0, 15, 0⟩
/-- CANOPY_FW (R557, 18_canopy.md). -/
def CANOPY_FW : Reg := ⟨0x3010, 0x0, 1, 0, 1⟩
@[reducible] def CANOPY_FW_build : Fld := ⟨0x3010, 0x0, 0, 31, 0⟩
/-- CANOPY_FW_ID (R557, 18_canopy.md). -/
def CANOPY_FW_ID : Reg := ⟨0x3014, 0x0, 1, 0, 1⟩
@[reducible] def CANOPY_FW_ID_image_id : Fld := ⟨0x3014, 0x0, 0, 31, 0⟩
/-- CMB_TO (R558, 18_canopy.md). -/
def CMB_TO : Reg := ⟨0x3020, 0x4, 4, 0, 1⟩
@[reducible] def CMB_TO_word : Fld := ⟨0x3020, 0x4, 0, 31, 0⟩
/-- CMB_FROM (R558, 18_canopy.md). -/
def CMB_FROM : Reg := ⟨0x3030, 0x4, 4, 0, 1⟩
@[reducible] def CMB_FROM_word : Fld := ⟨0x3030, 0x4, 0, 31, 0⟩
/-- CMB_CTL (R558, 18_canopy.md). -/
def CMB_CTL : Reg := ⟨0x3040, 0x0, 1, 0, 1⟩
@[reducible] def CMB_CTL_to_full : Fld := ⟨0x3040, 0x0, 0, 31, 31⟩
@[reducible] def CMB_CTL_from_full : Fld := ⟨0x3040, 0x0, 0, 30, 30⟩
@[reducible] def CMB_CTL_from_ack : Fld := ⟨0x3040, 0x0, 0, 29, 29⟩
@[reducible] def CMB_CTL_to_refused : Fld := ⟨0x3040, 0x0, 0, 15, 0⟩
/-- SAFE_ADDR (R557, 18_canopy.md). -/
def SAFE_ADDR : Reg := ⟨0x3050, 0x0, 1, 0, 1⟩
@[reducible] def SAFE_ADDR_index : Fld := ⟨0x3050, 0x0, 0, 8, 0⟩
/-- SAFE_DATA (R557, 18_canopy.md). -/
def SAFE_DATA : Reg := ⟨0x3054, 0x0, 1, 0, 1⟩
@[reducible] def SAFE_DATA_word : Fld := ⟨0x3054, 0x0, 0, 31, 0⟩
/-- VETO_LO (R557, 18_canopy.md). -/
def VETO_LO : Reg := ⟨0x3058, 0x0, 1, 0, 1⟩
@[reducible] def VETO_LO_tiles : Fld := ⟨0x3058, 0x0, 0, 31, 0⟩
/-- VETO_HI (R557, 18_canopy.md). -/
def VETO_HI : Reg := ⟨0x305C, 0x0, 1, 0, 1⟩
@[reducible] def VETO_HI_tiles : Fld := ⟨0x305C, 0x0, 0, 31, 0⟩
/-- CANOPY_KICK (R557, 18_canopy.md). -/
def CANOPY_KICK : Reg := ⟨0x3060, 0x0, 1, 0, 1⟩
@[reducible] def CANOPY_KICK_word : Fld := ⟨0x3060, 0x0, 0, 31, 0⟩
/-- SPLIT_OWN_LO (R557, 18_canopy.md). -/
def SPLIT_OWN_LO : Reg := ⟨0x3068, 0x0, 1, 0, 1⟩
@[reducible] def SPLIT_OWN_LO_tiles : Fld := ⟨0x3068, 0x0, 0, 31, 0⟩
/-- SPLIT_OWN_HI (R557, 18_canopy.md). -/
def SPLIT_OWN_HI : Reg := ⟨0x306C, 0x0, 1, 0, 1⟩
@[reducible] def SPLIT_OWN_HI_tiles : Fld := ⟨0x306C, 0x0, 0, 31, 0⟩
/-- GOV_CAP (R560, 18_canopy.md). -/
def GOV_CAP : Reg := ⟨0x3080, 0x0, 1, 0, 1⟩
@[reducible] def GOV_CAP_budget_mw : Fld := ⟨0x3080, 0x0, 0, 15, 0⟩
/-- GOV_COST (R560, 18_canopy.md). -/
def GOV_COST : Reg := ⟨0x3084, 0x0, 1, 0, 1⟩
@[reducible] def GOV_COST_full_mw : Fld := ⟨0x3084, 0x0, 0, 31, 16⟩
@[reducible] def GOV_COST_red_mw : Fld := ⟨0x3084, 0x0, 0, 15, 0⟩
/-- GOV_PRIO (R560, 18_canopy.md). -/
def GOV_PRIO : Reg := ⟨0x3090, 0x4, 8, 0, 1⟩
@[reducible] def GOV_PRIO_nibbles : Fld := ⟨0x3090, 0x4, 0, 31, 0⟩
/-- GOV_GRANT_LO (R560, 18_canopy.md). -/
def GOV_GRANT_LO : Reg := ⟨0x30B0, 0x0, 1, 0, 1⟩
@[reducible] def GOV_GRANT_LO_tiles : Fld := ⟨0x30B0, 0x0, 0, 31, 0⟩
/-- GOV_GRANT_HI (R560, 18_canopy.md). -/
def GOV_GRANT_HI : Reg := ⟨0x30B4, 0x0, 1, 0, 1⟩
@[reducible] def GOV_GRANT_HI_tiles : Fld := ⟨0x30B4, 0x0, 0, 31, 0⟩
/-- GOV_REQ_LO (R560, 18_canopy.md). -/
def GOV_REQ_LO : Reg := ⟨0x30B8, 0x0, 1, 0, 1⟩
@[reducible] def GOV_REQ_LO_tiles : Fld := ⟨0x30B8, 0x0, 0, 31, 0⟩
/-- GOV_REQ_HI (R560, 18_canopy.md). -/
def GOV_REQ_HI : Reg := ⟨0x30BC, 0x0, 1, 0, 1⟩
@[reducible] def GOV_REQ_HI_tiles : Fld := ⟨0x30BC, 0x0, 0, 31, 0⟩
/-- GOV_STATUS (R560, 18_canopy.md). -/
def GOV_STATUS : Reg := ⟨0x30C0, 0x0, 1, 0, 1⟩
@[reducible] def GOV_STATUS_grants : Fld := ⟨0x30C0, 0x0, 0, 31, 24⟩
@[reducible] def GOV_STATUS_requests : Fld := ⟨0x30C0, 0x0, 0, 23, 16⟩
@[reducible] def GOV_STATUS_denied : Fld := ⟨0x30C0, 0x0, 0, 15, 0⟩
/-- GOV_LEND (R560, 18_canopy.md). -/
def GOV_LEND : Reg := ⟨0x30C4, 0x0, 1, 0, 1⟩
@[reducible] def GOV_LEND_word : Fld := ⟨0x30C4, 0x0, 0, 31, 0⟩
/-- SQ_BASE_LO (R457, 15_hamper_rings.md). -/
def SQ_BASE_LO : Reg := ⟨0x4000, 0x20, 128, 0, 1⟩
@[reducible] def SQ_BASE_LO_base_lo : Fld := ⟨0x4000, 0x20, 0, 31, 0⟩
/-- SQ_BASE_HI (R457, 15_hamper_rings.md). -/
def SQ_BASE_HI : Reg := ⟨0x4004, 0x20, 128, 0, 1⟩
@[reducible] def SQ_BASE_HI_base_hi : Fld := ⟨0x4004, 0x20, 0, 31, 0⟩
/-- SQ_CFG (R457, 15_hamper_rings.md). -/
def SQ_CFG : Reg := ⟨0x4008, 0x20, 128, 0, 1⟩
@[reducible] def SQ_CFG_enable : Fld := ⟨0x4008, 0x20, 0, 31, 31⟩
@[reducible] def SQ_CFG_size_log2 : Fld := ⟨0x4008, 0x20, 0, 28, 24⟩
@[reducible] def SQ_CFG_cq : Fld := ⟨0x4008, 0x20, 0, 21, 16⟩
@[reducible] def SQ_CFG_burst : Fld := ⟨0x4008, 0x20, 0, 15, 12⟩
/-- SQ_BIND (R457, 15_hamper_rings.md). -/
def SQ_BIND : Reg := ⟨0x400C, 0x20, 128, 0, 1⟩
@[reducible] def SQ_BIND_kind : Fld := ⟨0x400C, 0x20, 0, 31, 30⟩
@[reducible] def SQ_BIND_tile : Fld := ⟨0x400C, 0x20, 0, 21, 16⟩
@[reducible] def SQ_BIND_handle : Fld := ⟨0x400C, 0x20, 0, 15, 0⟩
/-- SQ_HEAD (R457, 15_hamper_rings.md). -/
def SQ_HEAD : Reg := ⟨0x4010, 0x20, 128, 0, 1⟩
@[reducible] def SQ_HEAD_head : Fld := ⟨0x4010, 0x20, 0, 16, 0⟩
/-- SQ_TAIL (R457, 15_hamper_rings.md). -/
def SQ_TAIL : Reg := ⟨0x4014, 0x20, 128, 0, 1⟩
@[reducible] def SQ_TAIL_tail : Fld := ⟨0x4014, 0x20, 0, 16, 0⟩
/-- SQ_STATUS (R457, 15_hamper_rings.md). -/
def SQ_STATUS : Reg := ⟨0x4018, 0x20, 128, 0, 1⟩
@[reducible] def SQ_STATUS_state : Fld := ⟨0x4018, 0x20, 0, 31, 30⟩
@[reducible] def SQ_STATUS_error : Fld := ⟨0x4018, 0x20, 0, 23, 16⟩
@[reducible] def SQ_STATUS_epoch : Fld := ⟨0x4018, 0x20, 0, 15, 0⟩
/-- CQ_BASE_LO (R458, 15_hamper_rings.md). -/
def CQ_BASE_LO : Reg := ⟨0x5000, 0x20, 64, 0, 1⟩
@[reducible] def CQ_BASE_LO_base : Fld := ⟨0x5000, 0x20, 0, 31, 0⟩
/-- CQ_BASE_HI (R458, 15_hamper_rings.md). -/
def CQ_BASE_HI : Reg := ⟨0x5004, 0x20, 64, 0, 1⟩
@[reducible] def CQ_BASE_HI_base : Fld := ⟨0x5004, 0x20, 0, 31, 0⟩
/-- CQ_CFG (R458, 15_hamper_rings.md). -/
def CQ_CFG : Reg := ⟨0x5008, 0x20, 64, 0, 1⟩
@[reducible] def CQ_CFG_enable : Fld := ⟨0x5008, 0x20, 0, 31, 31⟩
@[reducible] def CQ_CFG_size_log2 : Fld := ⟨0x5008, 0x20, 0, 28, 24⟩
@[reducible] def CQ_CFG_vector : Fld := ⟨0x5008, 0x20, 0, 21, 16⟩
@[reducible] def CQ_CFG_coal_count : Fld := ⟨0x5008, 0x20, 0, 15, 8⟩
@[reducible] def CQ_CFG_coal_us : Fld := ⟨0x5008, 0x20, 0, 7, 0⟩
/-- CQ_HEAD (R458, 15_hamper_rings.md). -/
def CQ_HEAD : Reg := ⟨0x5010, 0x20, 64, 0, 1⟩
@[reducible] def CQ_HEAD_head : Fld := ⟨0x5010, 0x20, 0, 16, 0⟩
/-- CQ_TAIL (R458, 15_hamper_rings.md). -/
def CQ_TAIL : Reg := ⟨0x5014, 0x20, 64, 0, 1⟩
@[reducible] def CQ_TAIL_tail : Fld := ⟨0x5014, 0x20, 0, 16, 0⟩
/-- CQ_STATUS (R458, 15_hamper_rings.md). -/
def CQ_STATUS : Reg := ⟨0x5018, 0x20, 64, 0, 1⟩
@[reducible] def CQ_STATUS_state : Fld := ⟨0x5018, 0x20, 0, 31, 30⟩
@[reducible] def CQ_STATUS_error : Fld := ⟨0x5018, 0x20, 0, 23, 16⟩
@[reducible] def CQ_STATUS_stalls : Fld := ⟨0x5018, 0x20, 0, 15, 0⟩
/-- EV_BASE_LO (R459, 15_hamper_rings.md). -/
def EV_BASE_LO : Reg := ⟨0x5800, 0x20, 8, 0, 1⟩
@[reducible] def EV_BASE_LO_base : Fld := ⟨0x5800, 0x20, 0, 31, 0⟩
/-- EV_BASE_HI (R459, 15_hamper_rings.md). -/
def EV_BASE_HI : Reg := ⟨0x5804, 0x20, 8, 0, 1⟩
@[reducible] def EV_BASE_HI_base : Fld := ⟨0x5804, 0x20, 0, 31, 0⟩
/-- EV_CFG (R459, 15_hamper_rings.md). -/
def EV_CFG : Reg := ⟨0x5808, 0x20, 8, 0, 1⟩
@[reducible] def EV_CFG_enable : Fld := ⟨0x5808, 0x20, 0, 31, 31⟩
@[reducible] def EV_CFG_size_log2 : Fld := ⟨0x5808, 0x20, 0, 28, 24⟩
@[reducible] def EV_CFG_vector : Fld := ⟨0x5808, 0x20, 0, 21, 16⟩
@[reducible] def EV_CFG_coal_count : Fld := ⟨0x5808, 0x20, 0, 15, 8⟩
@[reducible] def EV_CFG_coal_us : Fld := ⟨0x5808, 0x20, 0, 7, 0⟩
/-- EV_CLASS (R459, 15_hamper_rings.md). -/
def EV_CLASS : Reg := ⟨0x580C, 0x20, 8, 0, 1⟩
@[reducible] def EV_CLASS_classes : Fld := ⟨0x580C, 0x20, 0, 15, 0⟩
/-- EV_HEAD (R459, 15_hamper_rings.md). -/
def EV_HEAD : Reg := ⟨0x5810, 0x20, 8, 0, 1⟩
@[reducible] def EV_HEAD_head : Fld := ⟨0x5810, 0x20, 0, 16, 0⟩
/-- EV_TAIL (R459, 15_hamper_rings.md). -/
def EV_TAIL : Reg := ⟨0x5814, 0x20, 8, 0, 1⟩
@[reducible] def EV_TAIL_tail : Fld := ⟨0x5814, 0x20, 0, 16, 0⟩
/-- EV_LOST (R459, 15_hamper_rings.md). -/
def EV_LOST : Reg := ⟨0x5818, 0x20, 8, 0, 1⟩
@[reducible] def EV_LOST_lost : Fld := ⟨0x5818, 0x20, 0, 31, 0⟩
/-- JR_BASE_LO (R460, 15_hamper_rings.md). -/
def JR_BASE_LO : Reg := ⟨0x5A00, 0x40, 4, 0, 1⟩
@[reducible] def JR_BASE_LO_base : Fld := ⟨0x5A00, 0x40, 0, 31, 0⟩
/-- JR_BASE_HI (R460, 15_hamper_rings.md). -/
def JR_BASE_HI : Reg := ⟨0x5A04, 0x40, 4, 0, 1⟩
@[reducible] def JR_BASE_HI_base : Fld := ⟨0x5A04, 0x40, 0, 31, 0⟩
/-- JR_CFG (R460, 15_hamper_rings.md). -/
def JR_CFG : Reg := ⟨0x5A08, 0x40, 4, 0, 1⟩
@[reducible] def JR_CFG_enable : Fld := ⟨0x5A08, 0x40, 0, 31, 31⟩
@[reducible] def JR_CFG_size_log2 : Fld := ⟨0x5A08, 0x40, 0, 29, 24⟩
@[reducible] def JR_CFG_vector : Fld := ⟨0x5A08, 0x40, 0, 21, 16⟩
@[reducible] def JR_CFG_notify : Fld := ⟨0x5A08, 0x40, 0, 5, 0⟩
/-- JR_HEAD_LO (R460, 15_hamper_rings.md). -/
def JR_HEAD_LO : Reg := ⟨0x5A10, 0x40, 4, 0, 1⟩
@[reducible] def JR_HEAD_LO_head : Fld := ⟨0x5A10, 0x40, 0, 31, 0⟩
/-- JR_HEAD_HI (R460, 15_hamper_rings.md). -/
def JR_HEAD_HI : Reg := ⟨0x5A14, 0x40, 4, 0, 1⟩
@[reducible] def JR_HEAD_HI_head : Fld := ⟨0x5A14, 0x40, 0, 20, 0⟩
/-- JR_TAIL_LO (R460, 15_hamper_rings.md). -/
def JR_TAIL_LO : Reg := ⟨0x5A18, 0x40, 4, 0, 1⟩
@[reducible] def JR_TAIL_LO_tail : Fld := ⟨0x5A18, 0x40, 0, 31, 0⟩
/-- JR_TAIL_HI (R460, 15_hamper_rings.md). -/
def JR_TAIL_HI : Reg := ⟨0x5A1C, 0x40, 4, 0, 1⟩
@[reducible] def JR_TAIL_HI_tail : Fld := ⟨0x5A1C, 0x40, 0, 20, 0⟩
/-- JR_LOST (R460, 15_hamper_rings.md). -/
def JR_LOST : Reg := ⟨0x5A20, 0x40, 4, 0, 1⟩
@[reducible] def JR_LOST_lost : Fld := ⟨0x5A20, 0x40, 0, 31, 0⟩
/-- HAMPER_CTL (R461, 15_hamper_rings.md). -/
def HAMPER_CTL : Reg := ⟨0x6000, 0x0, 1, 0, 1⟩
@[reducible] def HAMPER_CTL_host : Fld := ⟨0x6000, 0x0, 0, 31, 30⟩
@[reducible] def HAMPER_CTL_err_vector : Fld := ⟨0x6000, 0x0, 0, 21, 16⟩
@[reducible] def HAMPER_CTL_dev_weight : Fld := ⟨0x6000, 0x0, 0, 3, 0⟩
/-- HAMPER_STATUS (R461, 15_hamper_rings.md). -/
def HAMPER_STATUS : Reg := ⟨0x6004, 0x0, 1, 0, 1⟩
@[reducible] def HAMPER_STATUS_in_flight : Fld := ⟨0x6004, 0x0, 0, 28, 16⟩
@[reducible] def HAMPER_STATUS_err_rings : Fld := ⟨0x6004, 0x0, 0, 7, 0⟩
/-- HAMPER_JROUTE (R461, 15_hamper_rings.md). -/
def HAMPER_JROUTE : Reg := ⟨0x6008, 0x0, 1, 0, 1⟩
@[reducible] def HAMPER_JROUTE_fault_en : Fld := ⟨0x6008, 0x0, 0, 11, 11⟩
@[reducible] def HAMPER_JROUTE_snap_en : Fld := ⟨0x6008, 0x0, 0, 10, 10⟩
@[reducible] def HAMPER_JROUTE_summary_en : Fld := ⟨0x6008, 0x0, 0, 9, 9⟩
@[reducible] def HAMPER_JROUTE_fault_ring : Fld := ⟨0x6008, 0x0, 0, 5, 4⟩
@[reducible] def HAMPER_JROUTE_snap_ring : Fld := ⟨0x6008, 0x0, 0, 3, 2⟩
@[reducible] def HAMPER_JROUTE_summary_ring : Fld := ⟨0x6008, 0x0, 0, 1, 0⟩
/-- HAMPER_DB_BAD (R461, 15_hamper_rings.md). -/
def HAMPER_DB_BAD : Reg := ⟨0x600C, 0x0, 1, 0, 1⟩
@[reducible] def HAMPER_DB_BAD_count : Fld := ⟨0x600C, 0x0, 0, 15, 0⟩
/-- HAMPER_WEIGHT (R461, 15_hamper_rings.md). -/
def HAMPER_WEIGHT : Reg := ⟨0x6040, 0x4, 8, 0, 1⟩
@[reducible] def HAMPER_WEIGHT_nibbles : Fld := ⟨0x6040, 0x4, 0, 31, 0⟩
/-- MB_DESC (R485, 15_hamper_rings.md). -/
def MB_DESC : Reg := ⟨0x7000, 0x4, 16, 0, 1⟩
@[reducible] def MB_DESC_word : Fld := ⟨0x7000, 0x4, 0, 31, 0⟩
/-- MB_CTL (R485, 15_hamper_rings.md). -/
def MB_CTL : Reg := ⟨0x7040, 0x0, 1, 0, 1⟩
@[reducible] def MB_CTL_go : Fld := ⟨0x7040, 0x0, 0, 31, 31⟩
@[reducible] def MB_CTL_busy : Fld := ⟨0x7040, 0x0, 0, 30, 30⟩
@[reducible] def MB_CTL_alert_en : Fld := ⟨0x7040, 0x0, 0, 29, 29⟩
/-- MB_CPL (R485, 15_hamper_rings.md). -/
def MB_CPL : Reg := ⟨0x7050, 0x4, 4, 0, 1⟩
@[reducible] def MB_CPL_word : Fld := ⟨0x7050, 0x4, 0, 31, 0⟩
/-- MB_EVT (R485, 15_hamper_rings.md). -/
def MB_EVT : Reg := ⟨0x7060, 0x4, 8, 0, 1⟩
@[reducible] def MB_EVT_word : Fld := ⟨0x7060, 0x4, 0, 31, 0⟩
/-- MB_STATUS (R485, 15_hamper_rings.md). -/
def MB_STATUS : Reg := ⟨0x7080, 0x0, 1, 0, 1⟩
@[reducible] def MB_STATUS_events : Fld := ⟨0x7080, 0x0, 0, 31, 16⟩
@[reducible] def MB_STATUS_completions : Fld := ⟨0x7080, 0x0, 0, 15, 0⟩
/-- USF_PCFG (R490, 16_usfen_chain_and_groups.md). -/
def USF_PCFG : Reg := ⟨0x8000, 0x100, 4, 0, 1⟩
@[reducible] def USF_PCFG_enable : Fld := ⟨0x8000, 0x100, 0, 31, 31⟩
@[reducible] def USF_PCFG_rate : Fld := ⟨0x8000, 0x100, 0, 30, 29⟩
@[reducible] def USF_PCFG_tx_disable : Fld := ⟨0x8000, 0x100, 0, 28, 28⟩
@[reducible] def USF_PCFG_i2c_fast : Fld := ⟨0x8000, 0x100, 0, 27, 27⟩
@[reducible] def USF_PCFG_down_domains : Fld := ⟨0x8000, 0x100, 0, 15, 0⟩
/-- USF_PSTATUS (R490, 16_usfen_chain_and_groups.md). -/
def USF_PSTATUS : Reg := ⟨0x8004, 0x100, 4, 0, 1⟩
@[reducible] def USF_PSTATUS_state : Fld := ⟨0x8004, 0x100, 0, 31, 29⟩
@[reducible] def USF_PSTATUS_rate_10g : Fld := ⟨0x8004, 0x100, 0, 28, 28⟩
@[reducible] def USF_PSTATUS_mod_abs : Fld := ⟨0x8004, 0x100, 0, 27, 27⟩
@[reducible] def USF_PSTATUS_los : Fld := ⟨0x8004, 0x100, 0, 26, 26⟩
@[reducible] def USF_PSTATUS_tx_fault : Fld := ⟨0x8004, 0x100, 0, 25, 25⟩
@[reducible] def USF_PSTATUS_ddm_alarm : Fld := ⟨0x8004, 0x100, 0, 24, 24⟩
@[reducible] def USF_PSTATUS_reason : Fld := ⟨0x8004, 0x100, 0, 23, 16⟩
@[reducible] def USF_PSTATUS_peer_port : Fld := ⟨0x8004, 0x100, 0, 15, 14⟩
@[reducible] def USF_PSTATUS_peer_root : Fld := ⟨0x8004, 0x100, 0, 13, 13⟩
/-- USF_PEER_LO (R490, 16_usfen_chain_and_groups.md). -/
def USF_PEER_LO : Reg := ⟨0x8008, 0x100, 4, 0, 1⟩
@[reducible] def USF_PEER_LO_serial : Fld := ⟨0x8008, 0x100, 0, 31, 0⟩
/-- USF_PEER_HI (R490, 16_usfen_chain_and_groups.md). -/
def USF_PEER_HI : Reg := ⟨0x800C, 0x100, 4, 0, 1⟩
@[reducible] def USF_PEER_HI_serial : Fld := ⟨0x800C, 0x100, 0, 31, 0⟩
/-- USF_RXCNT (R490, 16_usfen_chain_and_groups.md). -/
def USF_RXCNT : Reg := ⟨0x8010, 0x100, 4, 0, 1⟩
@[reducible] def USF_RXCNT_frames : Fld := ⟨0x8010, 0x100, 0, 31, 0⟩
/-- USF_TXCNT (R490, 16_usfen_chain_and_groups.md). -/
def USF_TXCNT : Reg := ⟨0x8014, 0x100, 4, 0, 1⟩
@[reducible] def USF_TXCNT_frames : Fld := ⟨0x8014, 0x100, 0, 31, 0⟩
/-- USF_ERR (R490, 16_usfen_chain_and_groups.md). -/
def USF_ERR : Reg := ⟨0x8018, 0x100, 4, 0, 1⟩
@[reducible] def USF_ERR_downs : Fld := ⟨0x8018, 0x100, 0, 31, 24⟩
@[reducible] def USF_ERR_hcrc_err : Fld := ⟨0x8018, 0x100, 0, 23, 16⟩
@[reducible] def USF_ERR_pcrc_err : Fld := ⟨0x8018, 0x100, 0, 15, 8⟩
@[reducible] def USF_ERR_replays : Fld := ⟨0x8018, 0x100, 0, 7, 0⟩
/-- SFP_CMD (R490, 16_usfen_chain_and_groups.md). -/
def SFP_CMD : Reg := ⟨0x8040, 0x100, 4, 0, 1⟩
@[reducible] def SFP_CMD_go : Fld := ⟨0x8040, 0x100, 0, 31, 31⟩
@[reducible] def SFP_CMD_busy : Fld := ⟨0x8040, 0x100, 0, 30, 30⟩
@[reducible] def SFP_CMD_nak : Fld := ⟨0x8040, 0x100, 0, 29, 29⟩
@[reducible] def SFP_CMD_write : Fld := ⟨0x8040, 0x100, 0, 28, 28⟩
@[reducible] def SFP_CMD_dev : Fld := ⟨0x8040, 0x100, 0, 23, 16⟩
@[reducible] def SFP_CMD_addr : Fld := ⟨0x8040, 0x100, 0, 15, 8⟩
@[reducible] def SFP_CMD_data : Fld := ⟨0x8040, 0x100, 0, 7, 0⟩
/-- SFP_DDM (R490, 16_usfen_chain_and_groups.md). -/
def SFP_DDM : Reg := ⟨0x8044, 0x100, 4, 0, 1⟩
@[reducible] def SFP_DDM_temp : Fld := ⟨0x8044, 0x100, 0, 31, 16⟩
@[reducible] def SFP_DDM_rx_pwr : Fld := ⟨0x8044, 0x100, 0, 15, 0⟩
/-- USF_ID (R504, 16_usfen_chain_and_groups.md). -/
def USF_ID : Reg := ⟨0x8400, 0x0, 1, 0, 1⟩
@[reducible] def USF_ID_depth : Fld := ⟨0x8400, 0x0, 0, 31, 29⟩
@[reducible] def USF_ID_root : Fld := ⟨0x8400, 0x0, 0, 28, 28⟩
@[reducible] def USF_ID_root_b : Fld := ⟨0x8400, 0x0, 0, 27, 27⟩
@[reducible] def USF_ID_ring : Fld := ⟨0x8400, 0x0, 0, 26, 26⟩
@[reducible] def USF_ID_unit : Fld := ⟨0x8400, 0x0, 0, 23, 12⟩
/-- USF_ROUTE0 (R504, 16_usfen_chain_and_groups.md). -/
def USF_ROUTE0 : Reg := ⟨0x8404, 0x0, 1, 0, 1⟩
@[reducible] def USF_ROUTE0_route_lo : Fld := ⟨0x8404, 0x0, 0, 31, 0⟩
/-- USF_ROUTE1 (R504, 16_usfen_chain_and_groups.md). -/
def USF_ROUTE1 : Reg := ⟨0x8408, 0x0, 1, 0, 1⟩
@[reducible] def USF_ROUTE1_route_mid : Fld := ⟨0x8408, 0x0, 0, 31, 0⟩
/-- USF_ROUTE2 (R504, 16_usfen_chain_and_groups.md). -/
def USF_ROUTE2 : Reg := ⟨0x840C, 0x0, 1, 0, 1⟩
@[reducible] def USF_ROUTE2_route_hi : Fld := ⟨0x840C, 0x0, 0, 7, 0⟩
/-- USF_ROLL (R504, 16_usfen_chain_and_groups.md). -/
def USF_ROLL : Reg := ⟨0x8410, 0x0, 1, 0, 1⟩
@[reducible] def USF_ROLL_go : Fld := ⟨0x8410, 0x0, 0, 31, 31⟩
@[reducible] def USF_ROLL_busy : Fld := ⟨0x8410, 0x0, 0, 30, 30⟩
@[reducible] def USF_ROLL_result : Fld := ⟨0x8410, 0x0, 0, 23, 16⟩
@[reducible] def USF_ROLL_units : Fld := ⟨0x8410, 0x0, 0, 15, 0⟩
/-- USF_ROLL_GEN (R504, 16_usfen_chain_and_groups.md). -/
def USF_ROLL_GEN : Reg := ⟨0x8414, 0x0, 1, 0, 1⟩
@[reducible] def USF_ROLL_GEN_generation : Fld := ⟨0x8414, 0x0, 0, 31, 0⟩
/-- USF_AUTH (R517, 16_usfen_chain_and_groups.md). -/
def USF_AUTH : Reg := ⟨0x8420, 0x0, 1, 0, 1⟩
@[reducible] def USF_AUTH_state : Fld := ⟨0x8420, 0x0, 0, 31, 30⟩
@[reducible] def USF_AUTH_holder : Fld := ⟨0x8420, 0x0, 0, 23, 12⟩
@[reducible] def USF_AUTH_contender : Fld := ⟨0x8420, 0x0, 0, 11, 0⟩
/-- USF_AUTH_EPOCH (R517, 16_usfen_chain_and_groups.md). -/
def USF_AUTH_EPOCH : Reg := ⟨0x8424, 0x0, 1, 0, 1⟩
@[reducible] def USF_AUTH_EPOCH_epoch : Fld := ⟨0x8424, 0x0, 0, 31, 0⟩
/-- USF_AUTH_REFUSED (R517, 16_usfen_chain_and_groups.md). -/
def USF_AUTH_REFUSED : Reg := ⟨0x8428, 0x0, 1, 0, 1⟩
@[reducible] def USF_AUTH_REFUSED_count : Fld := ⟨0x8428, 0x0, 0, 15, 0⟩
/-- USF_BULK_W (R510, 16_usfen_chain_and_groups.md). -/
def USF_BULK_W : Reg := ⟨0x8440, 0x0, 1, 0, 1⟩
@[reducible] def USF_BULK_W_own : Fld := ⟨0x8440, 0x0, 0, 15, 12⟩
@[reducible] def USF_BULK_W_d : Fld := ⟨0x8440, 0x0, 0, 11, 8⟩
@[reducible] def USF_BULK_W_b0 : Fld := ⟨0x8440, 0x0, 0, 7, 4⟩
@[reducible] def USF_BULK_W_b1 : Fld := ⟨0x8440, 0x0, 0, 3, 0⟩
/-- USF_DOM_STATE (R510, 16_usfen_chain_and_groups.md). -/
def USF_DOM_STATE : Reg := ⟨0x8480, 0x0, 1, 0, 1⟩
@[reducible] def USF_DOM_STATE_asserted : Fld := ⟨0x8480, 0x0, 0, 31, 16⟩
@[reducible] def USF_DOM_STATE_raised : Fld := ⟨0x8480, 0x0, 0, 15, 0⟩
/-- USF_MIRROR_LO (R510, 16_usfen_chain_and_groups.md). -/
def USF_MIRROR_LO : Reg := ⟨0x8490, 0x0, 1, 0, 1⟩
@[reducible] def USF_MIRROR_LO_base : Fld := ⟨0x8490, 0x0, 0, 31, 0⟩
/-- USF_MIRROR_HI (R510, 16_usfen_chain_and_groups.md). -/
def USF_MIRROR_HI : Reg := ⟨0x8494, 0x0, 1, 0, 1⟩
@[reducible] def USF_MIRROR_HI_base : Fld := ⟨0x8494, 0x0, 0, 31, 0⟩
/-- USF_MIRROR_CFG (R510, 16_usfen_chain_and_groups.md). -/
def USF_MIRROR_CFG : Reg := ⟨0x8498, 0x0, 1, 0, 1⟩
@[reducible] def USF_MIRROR_CFG_enable : Fld := ⟨0x8498, 0x0, 0, 31, 31⟩
@[reducible] def USF_MIRROR_CFG_poll_us : Fld := ⟨0x8498, 0x0, 0, 15, 0⟩
/-- USF_RING_SIDE (R510, 16_usfen_chain_and_groups.md). -/
def USF_RING_SIDE : Reg := ⟨0x849C, 0x0, 1, 0, 1⟩
@[reducible] def USF_RING_SIDE_jr_via_d : Fld := ⟨0x849C, 0x0, 0, 11, 8⟩
@[reducible] def USF_RING_SIDE_ev_via_d : Fld := ⟨0x849C, 0x0, 0, 7, 0⟩
/-- USF_TUNNEL_ERR (R510, 16_usfen_chain_and_groups.md). -/
def USF_TUNNEL_ERR : Reg := ⟨0x84A0, 0x0, 1, 0, 1⟩
@[reducible] def USF_TUNNEL_ERR_read_err : Fld := ⟨0x84A0, 0x0, 0, 31, 16⟩
@[reducible] def USF_TUNNEL_ERR_write_err : Fld := ⟨0x84A0, 0x0, 0, 15, 0⟩
/-- USF_DOM_LO (R510, 16_usfen_chain_and_groups.md). -/
def USF_DOM_LO : Reg := ⟨0x8500, 0x8, 16, 0, 1⟩
@[reducible] def USF_DOM_LO_tiles_lo : Fld := ⟨0x8500, 0x8, 0, 31, 0⟩
/-- USF_DOM_HI (R510, 16_usfen_chain_and_groups.md). -/
def USF_DOM_HI : Reg := ⟨0x8504, 0x8, 16, 0, 1⟩
@[reducible] def USF_DOM_HI_tiles_hi : Fld := ⟨0x8504, 0x8, 0, 31, 0⟩
/-- TIME_LO (R522, 17_site_time_and_event_order.md). -/
def TIME_LO : Reg := ⟨0x9000, 0x0, 1, 0, 1⟩
@[reducible] def TIME_LO_ns : Fld := ⟨0x9000, 0x0, 0, 31, 0⟩
/-- TIME_HI (R522, 17_site_time_and_event_order.md). -/
def TIME_HI : Reg := ⟨0x9004, 0x0, 1, 0, 1⟩
@[reducible] def TIME_HI_ns : Fld := ⟨0x9004, 0x0, 0, 31, 0⟩
/-- TIME_EPOCH (R522, 17_site_time_and_event_order.md). -/
def TIME_EPOCH : Reg := ⟨0x9008, 0x0, 1, 0, 1⟩
@[reducible] def TIME_EPOCH_saturated : Fld := ⟨0x9008, 0x0, 0, 31, 31⟩
@[reducible] def TIME_EPOCH_epoch : Fld := ⟨0x9008, 0x0, 0, 7, 0⟩
/-- TIME_STATUS (R522, 17_site_time_and_event_order.md). -/
def TIME_STATUS : Reg := ⟨0x900C, 0x0, 1, 0, 1⟩
@[reducible] def TIME_STATUS_state : Fld := ⟨0x900C, 0x0, 0, 31, 29⟩
@[reducible] def TIME_STATUS_step_pending : Fld := ⟨0x900C, 0x0, 0, 28, 28⟩
@[reducible] def TIME_STATUS_slewing : Fld := ⟨0x900C, 0x0, 0, 27, 27⟩
@[reducible] def TIME_STATUS_hops : Fld := ⟨0x900C, 0x0, 0, 18, 16⟩
@[reducible] def TIME_STATUS_lock_losses : Fld := ⟨0x900C, 0x0, 0, 15, 0⟩
/-- TIME_OFFSET (R522, 17_site_time_and_event_order.md). -/
def TIME_OFFSET : Reg := ⟨0x9010, 0x0, 1, 0, 1⟩
@[reducible] def TIME_OFFSET_offset : Fld := ⟨0x9010, 0x0, 0, 31, 0⟩
/-- TIME_DELAY (R522, 17_site_time_and_event_order.md). -/
def TIME_DELAY : Reg := ⟨0x9014, 0x0, 1, 0, 1⟩
@[reducible] def TIME_DELAY_delay : Fld := ⟨0x9014, 0x0, 0, 31, 0⟩
/-- TIME_RATE (R522, 17_site_time_and_event_order.md). -/
def TIME_RATE : Reg := ⟨0x9018, 0x0, 1, 0, 1⟩
@[reducible] def TIME_RATE_rate : Fld := ⟨0x9018, 0x0, 0, 31, 0⟩
/-- TIME_CFG (R522, 17_site_time_and_event_order.md). -/
def TIME_CFG : Reg := ⟨0x901C, 0x0, 1, 0, 1⟩
@[reducible] def TIME_CFG_pps_en : Fld := ⟨0x901C, 0x0, 0, 31, 31⟩
@[reducible] def TIME_CFG_pps_fall : Fld := ⟨0x901C, 0x0, 0, 30, 30⟩
@[reducible] def TIME_CFG_pps_out : Fld := ⟨0x901C, 0x0, 0, 29, 29⟩
@[reducible] def TIME_CFG_step_lead : Fld := ⟨0x901C, 0x0, 0, 23, 16⟩
@[reducible] def TIME_CFG_interval : Fld := ⟨0x901C, 0x0, 0, 15, 0⟩
/-- TIME_STEP_AT_LO (R522, 17_site_time_and_event_order.md). -/
def TIME_STEP_AT_LO : Reg := ⟨0x9020, 0x0, 1, 0, 1⟩
@[reducible] def TIME_STEP_AT_LO_at_ : Fld := ⟨0x9020, 0x0, 0, 31, 0⟩
/-- TIME_STEP_AT_HI (R522, 17_site_time_and_event_order.md). -/
def TIME_STEP_AT_HI : Reg := ⟨0x9024, 0x0, 1, 0, 1⟩
@[reducible] def TIME_STEP_AT_HI_at_ : Fld := ⟨0x9024, 0x0, 0, 31, 0⟩
/-- TIME_STEP_NEW_LO (R522, 17_site_time_and_event_order.md). -/
def TIME_STEP_NEW_LO : Reg := ⟨0x9028, 0x0, 1, 0, 1⟩
@[reducible] def TIME_STEP_NEW_LO_new : Fld := ⟨0x9028, 0x0, 0, 31, 0⟩
/-- TIME_STEP_NEW_HI (R522, 17_site_time_and_event_order.md). -/
def TIME_STEP_NEW_HI : Reg := ⟨0x902C, 0x0, 1, 0, 1⟩
@[reducible] def TIME_STEP_NEW_HI_new : Fld := ⟨0x902C, 0x0, 0, 31, 0⟩
/-- TIME_PPS_LO (R522, 17_site_time_and_event_order.md). -/
def TIME_PPS_LO : Reg := ⟨0x9030, 0x0, 1, 0, 1⟩
@[reducible] def TIME_PPS_LO_pps : Fld := ⟨0x9030, 0x0, 0, 31, 0⟩
/-- TIME_PPS_HI (R522, 17_site_time_and_event_order.md). -/
def TIME_PPS_HI : Reg := ⟨0x9034, 0x0, 1, 0, 1⟩
@[reducible] def TIME_PPS_HI_pps : Fld := ⟨0x9034, 0x0, 0, 31, 0⟩
/-- TRIP_CFG (R264, 08_bridge_legs_and_trips.md). -/
def TRIP_CFG : Reg := ⟨0xA000, 0x4, 16, 0, 1⟩
@[reducible] def TRIP_CFG_enable : Fld := ⟨0xA000, 0x4, 0, 31, 31⟩
@[reducible] def TRIP_CFG_active_low : Fld := ⟨0xA000, 0x4, 0, 30, 30⟩
@[reducible] def TRIP_CFG_filter : Fld := ⟨0xA000, 0x4, 0, 29, 28⟩
@[reducible] def TRIP_CFG_qual : Fld := ⟨0xA000, 0x4, 0, 15, 8⟩
/-- TRIP_ROUTE_LO (R266, 08_bridge_legs_and_trips.md). -/
def TRIP_ROUTE_LO : Reg := ⟨0xA040, 0x8, 16, 0, 1⟩
@[reducible] def TRIP_ROUTE_LO_tiles_lo : Fld := ⟨0xA040, 0x8, 0, 31, 0⟩
/-- TRIP_ROUTE_HI (R266, 08_bridge_legs_and_trips.md). -/
def TRIP_ROUTE_HI : Reg := ⟨0xA044, 0x8, 16, 0, 1⟩
@[reducible] def TRIP_ROUTE_HI_tiles_hi : Fld := ⟨0xA044, 0x8, 0, 31, 0⟩
/-- TRIP_STICKY (R267, 08_bridge_legs_and_trips.md). -/
def TRIP_STICKY : Reg := ⟨0xA0C0, 0x0, 1, 0, 1⟩
@[reducible] def TRIP_STICKY_level : Fld := ⟨0xA0C0, 0x0, 0, 31, 16⟩
@[reducible] def TRIP_STICKY_sticky : Fld := ⟨0xA0C0, 0x0, 0, 15, 0⟩
/-- TRIP_CLEAR_REFUSED (R267, 08_bridge_legs_and_trips.md). -/
def TRIP_CLEAR_REFUSED : Reg := ⟨0xA0C4, 0x0, 1, 0, 1⟩
@[reducible] def TRIP_CLEAR_REFUSED_last : Fld := ⟨0xA0C4, 0x0, 0, 31, 16⟩
@[reducible] def TRIP_CLEAR_REFUSED_count : Fld := ⟨0xA0C4, 0x0, 0, 15, 0⟩
/-- TRIP_LOCK (R267, 08_bridge_legs_and_trips.md). -/
def TRIP_LOCK : Reg := ⟨0xA0C8, 0x0, 1, 0, 1⟩
@[reducible] def TRIP_LOCK_lock : Fld := ⟨0xA0C8, 0x0, 0, 0, 0⟩
/-- LULL_MAP_LO (R267, 08_bridge_legs_and_trips.md). -/
def LULL_MAP_LO : Reg := ⟨0xA0D0, 0x0, 1, 0, 1⟩
@[reducible] def LULL_MAP_LO_tiles_lo : Fld := ⟨0xA0D0, 0x0, 0, 31, 0⟩
/-- LULL_MAP_HI (R267, 08_bridge_legs_and_trips.md). -/
def LULL_MAP_HI : Reg := ⟨0xA0D4, 0x0, 1, 0, 1⟩
@[reducible] def LULL_MAP_HI_tiles_hi : Fld := ⟨0xA0D4, 0x0, 0, 31, 0⟩
/-- SPC_CFG (R636, 22_serial_ports.md). -/
def SPC_CFG : Reg := ⟨0xB000, 0x100, 4, 0, 1⟩
@[reducible] def SPC_CFG_enable : Fld := ⟨0xB000, 0x100, 0, 31, 31⟩
@[reducible] def SPC_CFG_cpol : Fld := ⟨0xB000, 0x100, 0, 30, 30⟩
@[reducible] def SPC_CFG_cpha : Fld := ⟨0xB000, 0x100, 0, 29, 29⟩
@[reducible] def SPC_CFG_lsb_first : Fld := ⟨0xB000, 0x100, 0, 28, 28⟩
@[reducible] def SPC_CFG_csa_low : Fld := ⟨0xB000, 0x100, 0, 27, 27⟩
@[reducible] def SPC_CFG_csb_low : Fld := ⟨0xB000, 0x100, 0, 26, 26⟩
@[reducible] def SPC_CFG_sample_dly : Fld := ⟨0xB000, 0x100, 0, 25, 24⟩
@[reducible] def SPC_CFG_div : Fld := ⟨0xB000, 0x100, 0, 15, 8⟩
@[reducible] def SPC_CFG_bits : Fld := ⟨0xB000, 0x100, 0, 4, 0⟩
/-- SPC_FRAME (R637, 22_serial_ports.md). -/
def SPC_FRAME : Reg := ⟨0xB004, 0x100, 4, 0, 1⟩
@[reducible] def SPC_FRAME_sel : Fld := ⟨0xB004, 0x100, 0, 31, 30⟩
@[reducible] def SPC_FRAME_code : Fld := ⟨0xB004, 0x100, 0, 29, 26⟩
@[reducible] def SPC_FRAME_lead : Fld := ⟨0xB004, 0x100, 0, 23, 16⟩
@[reducible] def SPC_FRAME_lag : Fld := ⟨0xB004, 0x100, 0, 15, 8⟩
@[reducible] def SPC_FRAME_count : Fld := ⟨0xB004, 0x100, 0, 4, 0⟩
/-- SPC_CMD (R637, 22_serial_ports.md). -/
def SPC_CMD : Reg := ⟨0xB008, 0x100, 4, 0, 1⟩
@[reducible] def SPC_CMD_go : Fld := ⟨0xB008, 0x100, 0, 31, 31⟩
@[reducible] def SPC_CMD_flush_tx : Fld := ⟨0xB008, 0x100, 0, 30, 30⟩
@[reducible] def SPC_CMD_flush_rx : Fld := ⟨0xB008, 0x100, 0, 29, 29⟩
@[reducible] def SPC_CMD_abort : Fld := ⟨0xB008, 0x100, 0, 28, 28⟩
/-- SPC_STATUS (R637, 22_serial_ports.md). -/
def SPC_STATUS : Reg := ⟨0xB00C, 0x100, 4, 0, 1⟩
@[reducible] def SPC_STATUS_busy : Fld := ⟨0xB00C, 0x100, 0, 31, 31⟩
@[reducible] def SPC_STATUS_cmd_refused : Fld := ⟨0xB00C, 0x100, 0, 30, 30⟩
@[reducible] def SPC_STATUS_cfg_refused : Fld := ⟨0xB00C, 0x100, 0, 29, 29⟩
@[reducible] def SPC_STATUS_xip_wait : Fld := ⟨0xB00C, 0x100, 0, 28, 28⟩
@[reducible] def SPC_STATUS_tx_overflow : Fld := ⟨0xB00C, 0x100, 0, 27, 27⟩
@[reducible] def SPC_STATUS_rx_underflow : Fld := ⟨0xB00C, 0x100, 0, 26, 26⟩
@[reducible] def SPC_STATUS_aborted : Fld := ⟨0xB00C, 0x100, 0, 25, 25⟩
@[reducible] def SPC_STATUS_tx_level : Fld := ⟨0xB00C, 0x100, 0, 21, 16⟩
@[reducible] def SPC_STATUS_rx_level : Fld := ⟨0xB00C, 0x100, 0, 13, 8⟩
@[reducible] def SPC_STATUS_done : Fld := ⟨0xB00C, 0x100, 0, 7, 0⟩
/-- SPC_TX (R637, 22_serial_ports.md). -/
def SPC_TX : Reg := ⟨0xB010, 0x100, 4, 0, 1⟩
@[reducible] def SPC_TX_word : Fld := ⟨0xB010, 0x100, 0, 31, 0⟩
/-- SPC_RX (R637, 22_serial_ports.md). -/
def SPC_RX : Reg := ⟨0xB014, 0x100, 4, 0, 1⟩
@[reducible] def SPC_RX_word : Fld := ⟨0xB014, 0x100, 0, 31, 0⟩
/-- XIP_CFG (R642, 22_serial_ports.md). -/
def XIP_CFG : Reg := ⟨0xB400, 0x0, 1, 0, 1⟩
@[reducible] def XIP_CFG_enable : Fld := ⟨0xB400, 0x0, 0, 31, 31⟩
@[reducible] def XIP_CFG_max_width : Fld := ⟨0xB400, 0x0, 0, 30, 29⟩
@[reducible] def XIP_CFG_rediscover : Fld := ⟨0xB400, 0x0, 0, 28, 28⟩
@[reducible] def XIP_CFG_div : Fld := ⟨0xB400, 0x0, 0, 15, 8⟩
/-- XIP_STATUS (R642, 22_serial_ports.md). -/
def XIP_STATUS : Reg := ⟨0xB404, 0x0, 1, 0, 1⟩
@[reducible] def XIP_STATUS_ready : Fld := ⟨0xB404, 0x0, 0, 31, 31⟩
@[reducible] def XIP_STATUS_sfdp_ok : Fld := ⟨0xB404, 0x0, 0, 30, 30⟩
@[reducible] def XIP_STATUS_addr4 : Fld := ⟨0xB404, 0x0, 0, 29, 29⟩
@[reducible] def XIP_STATUS_trunc : Fld := ⟨0xB404, 0x0, 0, 28, 28⟩
@[reducible] def XIP_STATUS_fallback : Fld := ⟨0xB404, 0x0, 0, 27, 27⟩
@[reducible] def XIP_STATUS_width : Fld := ⟨0xB404, 0x0, 0, 26, 25⟩
@[reducible] def XIP_STATUS_busy : Fld := ⟨0xB404, 0x0, 0, 24, 24⟩
@[reducible] def XIP_STATUS_instr : Fld := ⟨0xB404, 0x0, 0, 23, 16⟩
@[reducible] def XIP_STATUS_dummy : Fld := ⟨0xB404, 0x0, 0, 15, 8⟩
@[reducible] def XIP_STATUS_log2_bytes : Fld := ⟨0xB404, 0x0, 0, 7, 0⟩
/-- XIP_ERR (R642, 22_serial_ports.md). -/
def XIP_ERR : Reg := ⟨0xB408, 0x0, 1, 0, 1⟩
@[reducible] def XIP_ERR_max_wait : Fld := ⟨0xB408, 0x0, 0, 31, 16⟩
@[reducible] def XIP_ERR_errors : Fld := ⟨0xB408, 0x0, 0, 15, 0⟩
/-- SPT_CFG (R651, 22_serial_ports.md). -/
def SPT_CFG : Reg := ⟨0xB500, 0x0, 1, 0, 1⟩
@[reducible] def SPT_CFG_stream : Fld := ⟨0xB500, 0x0, 0, 31, 31⟩
@[reducible] def SPT_CFG_compat : Fld := ⟨0xB500, 0x0, 0, 30, 30⟩
/-- SPT_STATUS (R651, 22_serial_ports.md). -/
def SPT_STATUS : Reg := ⟨0xB504, 0x0, 1, 0, 1⟩
@[reducible] def SPT_STATUS_selected : Fld := ⟨0xB504, 0x0, 0, 31, 31⟩
@[reducible] def SPT_STATUS_bad : Fld := ⟨0xB504, 0x0, 0, 15, 0⟩
/-- SPT_COUNTS (R651, 22_serial_ports.md). -/
def SPT_COUNTS : Reg := ⟨0xB508, 0x0, 1, 0, 1⟩
@[reducible] def SPT_COUNTS_rejected : Fld := ⟨0xB508, 0x0, 0, 31, 24⟩
@[reducible] def SPT_COUNTS_partial : Fld := ⟨0xB508, 0x0, 0, 23, 16⟩
@[reducible] def SPT_COUNTS_underruns : Fld := ⟨0xB508, 0x0, 0, 15, 0⟩
/-- FB_CFG (R346, 11_feedback_ports_and_emulation.md). -/
def FB_CFG : Reg := ⟨0xC000, 0x40, 16, 0, 1⟩
@[reducible] def FB_CFG_enable : Fld := ⟨0xC000, 0x40, 0, 31, 31⟩
@[reducible] def FB_CFG_mode : Fld := ⟨0xC000, 0x40, 0, 30, 28⟩
@[reducible] def FB_CFG_inv_z : Fld := ⟨0xC000, 0x40, 0, 27, 27⟩
@[reducible] def FB_CFG_inv_q : Fld := ⟨0xC000, 0x40, 0, 26, 26⟩
@[reducible] def FB_CFG_inv_p : Fld := ⟨0xC000, 0x40, 0, 25, 25⟩
@[reducible] def FB_CFG_dir_inv : Fld := ⟨0xC000, 0x40, 0, 24, 24⟩
@[reducible] def FB_CFG_idx_mode : Fld := ⟨0xC000, 0x40, 0, 23, 22⟩
@[reducible] def FB_CFG_z_gate : Fld := ⟨0xC000, 0x40, 0, 21, 21⟩
@[reducible] def FB_CFG_wake_en : Fld := ⟨0xC000, 0x40, 0, 20, 20⟩
@[reducible] def FB_CFG_filt : Fld := ⟨0xC000, 0x40, 0, 19, 10⟩
/-- FB_REV (R361, 11_feedback_ports_and_emulation.md). -/
def FB_REV : Reg := ⟨0xC004, 0x40, 16, 0, 1⟩
@[reducible] def FB_REV_rev : Fld := ⟨0xC004, 0x40, 0, 31, 0⟩
/-- FB_POS (R361, 11_feedback_ports_and_emulation.md). -/
def FB_POS : Reg := ⟨0xC008, 0x40, 16, 0, 1⟩
@[reducible] def FB_POS_pos : Fld := ⟨0xC008, 0x40, 0, 31, 0⟩
/-- FB_IDX (R361, 11_feedback_ports_and_emulation.md). -/
def FB_IDX : Reg := ⟨0xC00C, 0x40, 16, 0, 1⟩
@[reducible] def FB_IDX_idx_pos : Fld := ⟨0xC00C, 0x40, 0, 31, 0⟩
/-- FB_SPEED (R361, 11_feedback_ports_and_emulation.md). -/
def FB_SPEED : Reg := ⟨0xC010, 0x40, 16, 0, 1⟩
@[reducible] def FB_SPEED_speed : Fld := ⟨0xC010, 0x40, 0, 31, 0⟩
/-- FB_INTVL (R361, 11_feedback_ports_and_emulation.md). -/
def FB_INTVL : Reg := ⟨0xC014, 0x40, 16, 0, 1⟩
@[reducible] def FB_INTVL_interval : Fld := ⟨0xC014, 0x40, 0, 31, 0⟩
/-- FB_TIME (R361, 11_feedback_ports_and_emulation.md). -/
def FB_TIME : Reg := ⟨0xC018, 0x40, 16, 0, 1⟩
@[reducible] def FB_TIME_time : Fld := ⟨0xC018, 0x40, 0, 31, 0⟩
/-- FB_STAND (R361, 11_feedback_ports_and_emulation.md). -/
def FB_STAND : Reg := ⟨0xC01C, 0x40, 16, 0, 1⟩
@[reducible] def FB_STAND_stand : Fld := ⟨0xC01C, 0x40, 0, 23, 0⟩
/-- FB_MODECFG (R354, 11_feedback_ports_and_emulation.md). -/
def FB_MODECFG : Reg := ⟨0xC020, 0x40, 16, 0, 1⟩
@[reducible] def FB_MODECFG_bits : Fld := ⟨0xC020, 0x40, 0, 31, 26⟩
@[reducible] def FB_MODECFG_gray : Fld := ⟨0xC020, 0x40, 0, 25, 25⟩
@[reducible] def FB_MODECFG_line_chk : Fld := ⟨0xC020, 0x40, 0, 24, 24⟩
@[reducible] def FB_MODECFG_div : Fld := ⟨0xC020, 0x40, 0, 23, 15⟩
@[reducible] def FB_MODECFG_mono : Fld := ⟨0xC020, 0x40, 0, 14, 8⟩
@[reducible] def FB_MODECFG_period : Fld := ⟨0xC020, 0x40, 0, 7, 0⟩
@[reducible] def FB_MODECFG_holdoff : Fld := ⟨0xC020, 0x40, 0, 15, 0⟩
/-- FBK_STATUS (R361, 11_feedback_ports_and_emulation.md). -/
def FBK_STATUS : Reg := ⟨0xC024, 0x40, 16, 0, 1⟩
@[reducible] def FBK_STATUS_err_count : Fld := ⟨0xC024, 0x40, 0, 31, 24⟩
@[reducible] def FBK_STATUS_idx_seen : Fld := ⟨0xC024, 0x40, 0, 23, 23⟩
@[reducible] def FBK_STATUS_idx_armed : Fld := ⟨0xC024, 0x40, 0, 22, 22⟩
@[reducible] def FBK_STATUS_standstill : Fld := ⟨0xC024, 0x40, 0, 21, 21⟩
@[reducible] def FBK_STATUS_dir : Fld := ⟨0xC024, 0x40, 0, 20, 20⟩
@[reducible] def FBK_STATUS_quad_err : Fld := ⟨0xC024, 0x40, 0, 19, 19⟩
@[reducible] def FBK_STATUS_hall_err : Fld := ⟨0xC024, 0x40, 0, 18, 18⟩
@[reducible] def FBK_STATUS_ssi_err : Fld := ⟨0xC024, 0x40, 0, 17, 17⟩
@[reducible] def FBK_STATUS_gap : Fld := ⟨0xC024, 0x40, 0, 16, 16⟩
@[reducible] def FBK_STATUS_deviation : Fld := ⟨0xC024, 0x40, 0, 15, 15⟩
@[reducible] def FBK_STATUS_cfg_refused : Fld := ⟨0xC024, 0x40, 0, 14, 14⟩
@[reducible] def FBK_STATUS_ssi_late : Fld := ⟨0xC024, 0x40, 0, 13, 13⟩
@[reducible] def FBK_STATUS_levels : Fld := ⟨0xC024, 0x40, 0, 10, 8⟩
/-- FB_AXIS (R361, 11_feedback_ports_and_emulation.md). -/
def FB_AXIS : Reg := ⟨0xC028, 0x40, 16, 0, 1⟩
@[reducible] def FB_AXIS_bind : Fld := ⟨0xC028, 0x40, 0, 31, 31⟩
@[reducible] def FB_AXIS_dev_stop : Fld := ⟨0xC028, 0x40, 0, 30, 30⟩
@[reducible] def FB_AXIS_tile : Fld := ⟨0xC028, 0x40, 0, 29, 24⟩
@[reducible] def FB_AXIS_dev_limit : Fld := ⟨0xC028, 0x40, 0, 23, 0⟩
/-- FB_SCALE (R361, 11_feedback_ports_and_emulation.md). -/
def FB_SCALE : Reg := ⟨0xC02C, 0x40, 16, 0, 1⟩
@[reducible] def FB_SCALE_num : Fld := ⟨0xC02C, 0x40, 0, 31, 16⟩
@[reducible] def FB_SCALE_den : Fld := ⟨0xC02C, 0x40, 0, 15, 0⟩
/-- FB_AXPOS (R361, 11_feedback_ports_and_emulation.md). -/
def FB_AXPOS : Reg := ⟨0xC030, 0x40, 16, 0, 1⟩
@[reducible] def FB_AXPOS_axpos : Fld := ⟨0xC030, 0x40, 0, 31, 0⟩
/-- FB_DEV (R361, 11_feedback_ports_and_emulation.md). -/
def FB_DEV : Reg := ⟨0xC034, 0x40, 16, 0, 1⟩
@[reducible] def FB_DEV_dev : Fld := ⟨0xC034, 0x40, 0, 31, 0⟩
/-- FB_SSIRAW (R361, 11_feedback_ports_and_emulation.md). -/
def FB_SSIRAW : Reg := ⟨0xC038, 0x40, 16, 0, 1⟩
@[reducible] def FB_SSIRAW_raw : Fld := ⟨0xC038, 0x40, 0, 31, 0⟩
/-- FB_CMD (R361, 11_feedback_ports_and_emulation.md). -/
def FB_CMD : Reg := ⟨0xC03C, 0x40, 16, 0, 1⟩
@[reducible] def FB_CMD_idx_arm : Fld := ⟨0xC03C, 0x40, 0, 31, 31⟩
@[reducible] def FB_CMD_ssi_now : Fld := ⟨0xC03C, 0x40, 0, 30, 30⟩
/-- EMU_CFG (R367, 11_feedback_ports_and_emulation.md). -/
def EMU_CFG : Reg := ⟨0xC800, 0x20, 8, 0, 1⟩
@[reducible] def EMU_CFG_enable : Fld := ⟨0xC800, 0x20, 0, 31, 31⟩
@[reducible] def EMU_CFG_src_est : Fld := ⟨0xC800, 0x20, 0, 30, 30⟩
@[reducible] def EMU_CFG_z_en : Fld := ⟨0xC800, 0x20, 0, 29, 29⟩
@[reducible] def EMU_CFG_jump : Fld := ⟨0xC800, 0x20, 0, 28, 28⟩
@[reducible] def EMU_CFG_tile : Fld := ⟨0xC800, 0x20, 0, 25, 20⟩
@[reducible] def EMU_CFG_gap : Fld := ⟨0xC800, 0x20, 0, 19, 10⟩
/-- EMU_LINES (R367, 11_feedback_ports_and_emulation.md). -/
def EMU_LINES : Reg := ⟨0xC804, 0x20, 8, 0, 1⟩
@[reducible] def EMU_LINES_lines : Fld := ⟨0xC804, 0x20, 0, 16, 0⟩
/-- EMU_USTEPS (R367, 11_feedback_ports_and_emulation.md). -/
def EMU_USTEPS : Reg := ⟨0xC808, 0x20, 8, 0, 1⟩
@[reducible] def EMU_USTEPS_ustep_rev : Fld := ⟨0xC808, 0x20, 0, 31, 0⟩
/-- EMU_COUNT (R367, 11_feedback_ports_and_emulation.md). -/
def EMU_COUNT : Reg := ⟨0xC80C, 0x20, 8, 0, 1⟩
@[reducible] def EMU_COUNT_count : Fld := ⟨0xC80C, 0x20, 0, 31, 0⟩
/-- EMU_STATUS (R367, 11_feedback_ports_and_emulation.md). -/
def EMU_STATUS : Reg := ⟨0xC810, 0x20, 8, 0, 1⟩
@[reducible] def EMU_STATUS_lag : Fld := ⟨0xC810, 0x20, 0, 31, 31⟩
@[reducible] def EMU_STATUS_lag_seen : Fld := ⟨0xC810, 0x20, 0, 30, 30⟩
@[reducible] def EMU_STATUS_low_conf : Fld := ⟨0xC810, 0x20, 0, 29, 29⟩
@[reducible] def EMU_STATUS_cfg_refused : Fld := ⟨0xC810, 0x20, 0, 28, 28⟩
@[reducible] def EMU_STATUS_state : Fld := ⟨0xC810, 0x20, 0, 1, 0⟩
/-- EMU_LAG (R367, 11_feedback_ports_and_emulation.md). -/
def EMU_LAG : Reg := ⟨0xC814, 0x20, 8, 0, 1⟩
@[reducible] def EMU_LAG_max_lag : Fld := ⟨0xC814, 0x20, 0, 15, 0⟩
/-- SFE_CTL (R376, 12_sensor_front_end.md). -/
def SFE_CTL : Reg := ⟨0xD000, 0x0, 1, 0, 1⟩
@[reducible] def SFE_CTL_enable : Fld := ⟨0xD000, 0x0, 0, 31, 31⟩
@[reducible] def SFE_CTL_test : Fld := ⟨0xD000, 0x0, 0, 30, 30⟩
@[reducible] def SFE_CTL_check_now : Fld := ⟨0xD000, 0x0, 0, 29, 29⟩
@[reducible] def SFE_CTL_check_s : Fld := ⟨0xD000, 0x0, 0, 15, 0⟩
/-- SFE_STATUS (R376, 12_sensor_front_end.md). -/
def SFE_STATUS : Reg := ⟨0xD004, 0x0, 1, 0, 1⟩
@[reducible] def SFE_STATUS_busy : Fld := ⟨0xD004, 0x0, 0, 31, 31⟩
@[reducible] def SFE_STATUS_house_lost : Fld := ⟨0xD004, 0x0, 0, 30, 30⟩
@[reducible] def SFE_STATUS_checking : Fld := ⟨0xD004, 0x0, 0, 29, 29⟩
@[reducible] def SFE_STATUS_recovery : Fld := ⟨0xD004, 0x0, 0, 23, 16⟩
@[reducible] def SFE_STATUS_channel : Fld := ⟨0xD004, 0x0, 0, 6, 4⟩
@[reducible] def SFE_STATUS_voltage : Fld := ⟨0xD004, 0x0, 0, 3, 3⟩
@[reducible] def SFE_STATUS_cfg_refused : Fld := ⟨0xD004, 0x0, 0, 2, 2⟩
/-- SFE_RREF0 (R376, 12_sensor_front_end.md). -/
def SFE_RREF0 : Reg := ⟨0xD008, 0x0, 1, 0, 1⟩
@[reducible] def SFE_RREF0_rref0 : Fld := ⟨0xD008, 0x0, 0, 31, 0⟩
/-- SFE_RREF1 (R376, 12_sensor_front_end.md). -/
def SFE_RREF1 : Reg := ⟨0xD00C, 0x0, 1, 0, 1⟩
@[reducible] def SFE_RREF1_rref1 : Fld := ⟨0xD00C, 0x0, 0, 31, 0⟩
/-- SFE_STEER (R376, 12_sensor_front_end.md). -/
def SFE_STEER : Reg := ⟨0xD010, 0x0, 1, 0, 1⟩
@[reducible] def SFE_STEER_exc : Fld := ⟨0xD010, 0x0, 0, 26, 24⟩
@[reducible] def SFE_STEER_pin_b : Fld := ⟨0xD010, 0x0, 0, 12, 8⟩
@[reducible] def SFE_STEER_pin_a : Fld := ⟨0xD010, 0x0, 0, 4, 0⟩
/-- SFE_CFG (R377, 12_sensor_front_end.md). -/
def SFE_CFG : Reg := ⟨0xD100, 0x40, 8, 0, 1⟩
@[reducible] def SFE_CFG_enable : Fld := ⟨0xD100, 0x40, 0, 31, 31⟩
@[reducible] def SFE_CFG_three : Fld := ⟨0xD100, 0x40, 0, 30, 30⟩
@[reducible] def SFE_CFG_type : Fld := ⟨0xD100, 0x40, 0, 29, 28⟩
@[reducible] def SFE_CFG_rref_sel : Fld := ⟨0xD100, 0x40, 0, 27, 27⟩
@[reducible] def SFE_CFG_exc : Fld := ⟨0xD100, 0x40, 0, 26, 24⟩
@[reducible] def SFE_CFG_gate_ms : Fld := ⟨0xD100, 0x40, 0, 23, 16⟩
@[reducible] def SFE_CFG_settle : Fld := ⟨0xD100, 0x40, 0, 15, 8⟩
@[reducible] def SFE_CFG_lead_div : Fld := ⟨0xD100, 0x40, 0, 7, 4⟩
/-- SFE_PAR (R377, 12_sensor_front_end.md). -/
def SFE_PAR : Reg := ⟨0xD104, 0x40, 8, 0, 1⟩
@[reducible] def SFE_PAR_r0 : Fld := ⟨0xD104, 0x40, 0, 31, 0⟩
/-- SFE_AUX (R377, 12_sensor_front_end.md). -/
def SFE_AUX : Reg := ⟨0xD108, 0x40, 8, 0, 1⟩
@[reducible] def SFE_AUX_beta : Fld := ⟨0xD108, 0x40, 0, 31, 16⟩
@[reducible] def SFE_AUX_lead_loop : Fld := ⟨0xD108, 0x40, 0, 15, 0⟩
/-- SFE_LIM (R377, 12_sensor_front_end.md). -/
def SFE_LIM : Reg := ⟨0xD10C, 0x40, 8, 0, 1⟩
@[reducible] def SFE_LIM_leak : Fld := ⟨0xD10C, 0x40, 0, 31, 24⟩
@[reducible] def SFE_LIM_r_short : Fld := ⟨0xD10C, 0x40, 0, 23, 12⟩
@[reducible] def SFE_LIM_r_open : Fld := ⟨0xD10C, 0x40, 0, 11, 0⟩
/-- SFE_RES (R377, 12_sensor_front_end.md). -/
def SFE_RES : Reg := ⟨0xD110, 0x40, 8, 0, 1⟩
@[reducible] def SFE_RES_r : Fld := ⟨0xD110, 0x40, 0, 31, 0⟩
/-- SFE_TEMP (R377, 12_sensor_front_end.md). -/
def SFE_TEMP : Reg := ⟨0xD114, 0x40, 8, 0, 1⟩
@[reducible] def SFE_TEMP_fresh : Fld := ⟨0xD114, 0x40, 0, 31, 31⟩
@[reducible] def SFE_TEMP_valid : Fld := ⟨0xD114, 0x40, 0, 30, 30⟩
@[reducible] def SFE_TEMP_volt : Fld := ⟨0xD114, 0x40, 0, 29, 29⟩
@[reducible] def SFE_TEMP_verdict : Fld := ⟨0xD114, 0x40, 0, 28, 26⟩
@[reducible] def SFE_TEMP_t : Fld := ⟨0xD114, 0x40, 0, 15, 0⟩
/-- SFE_LEAD (R377, 12_sensor_front_end.md). -/
def SFE_LEAD : Reg := ⟨0xD118, 0x40, 8, 0, 1⟩
@[reducible] def SFE_LEAD_c_ac : Fld := ⟨0xD118, 0x40, 0, 31, 16⟩
@[reducible] def SFE_LEAD_lead : Fld := ⟨0xD118, 0x40, 0, 15, 0⟩
/-- SFE_ZAC (R377, 12_sensor_front_end.md). -/
def SFE_ZAC : Reg := ⟨0xD11C, 0x40, 8, 0, 1⟩
@[reducible] def SFE_ZAC_r_ac : Fld := ⟨0xD11C, 0x40, 0, 31, 0⟩
/-- SFE_MCNT (R377, 12_sensor_front_end.md). -/
def SFE_MCNT : Reg := ⟨0xD120, 0x40, 8, 0, 1⟩
@[reducible] def SFE_MCNT_m : Fld := ⟨0xD120, 0x40, 0, 31, 0⟩
/-- SFE_NCNT (R377, 12_sensor_front_end.md). -/
def SFE_NCNT : Reg := ⟨0xD124, 0x40, 8, 0, 1⟩
@[reducible] def SFE_NCNT_nc : Fld := ⟨0xD124, 0x40, 0, 31, 0⟩
/-- HOUSE_CTL (R321, 09_converters.md). -/
def HOUSE_CTL : Reg := ⟨0xD800, 0x0, 1, 0, 1⟩
@[reducible] def HOUSE_CTL_cal_en : Fld := ⟨0xD800, 0x0, 0, 31, 31⟩
@[reducible] def HOUSE_CTL_src : Fld := ⟨0xD800, 0x0, 0, 30, 28⟩
@[reducible] def HOUSE_CTL_journal : Fld := ⟨0xD800, 0x0, 0, 27, 27⟩
@[reducible] def HOUSE_CTL_jring : Fld := ⟨0xD800, 0x0, 0, 26, 25⟩
@[reducible] def HOUSE_CTL_dac_sel : Fld := ⟨0xD800, 0x0, 0, 24, 20⟩
@[reducible] def HOUSE_CTL_settle : Fld := ⟨0xD800, 0x0, 0, 19, 16⟩
@[reducible] def HOUSE_CTL_shift : Fld := ⟨0xD800, 0x0, 0, 15, 12⟩
@[reducible] def HOUSE_CTL_navg : Fld := ⟨0xD800, 0x0, 0, 7, 0⟩
/-- HOUSE_MASK (R321, 09_converters.md). -/
def HOUSE_MASK : Reg := ⟨0xD804, 0x0, 1, 0, 1⟩
@[reducible] def HOUSE_MASK_mask : Fld := ⟨0xD804, 0x0, 0, 31, 0⟩
/-- HOUSE_REFSEL (R321, 09_converters.md). -/
def HOUSE_REFSEL : Reg := ⟨0xD808, 0x0, 1, 0, 1⟩
@[reducible] def HOUSE_REFSEL_vdda : Fld := ⟨0xD808, 0x0, 0, 31, 0⟩
/-- HOUSE_ALARM_LO (R321, 09_converters.md). -/
def HOUSE_ALARM_LO : Reg := ⟨0xD80C, 0x0, 1, 0, 1⟩
@[reducible] def HOUSE_ALARM_LO_time_lo : Fld := ⟨0xD80C, 0x0, 0, 31, 0⟩
/-- HOUSE_ALARM_HI (R321, 09_converters.md). -/
def HOUSE_ALARM_HI : Reg := ⟨0xD810, 0x0, 1, 0, 1⟩
@[reducible] def HOUSE_ALARM_HI_time_hi : Fld := ⟨0xD810, 0x0, 0, 31, 0⟩
/-- HOUSE_ALARM_PER (R321, 09_converters.md). -/
def HOUSE_ALARM_PER : Reg := ⟨0xD814, 0x0, 1, 0, 1⟩
@[reducible] def HOUSE_ALARM_PER_period : Fld := ⟨0xD814, 0x0, 0, 31, 0⟩
/-- HOUSE_CMD (R321, 09_converters.md). -/
def HOUSE_CMD : Reg := ⟨0xD818, 0x0, 1, 0, 1⟩
@[reducible] def HOUSE_CMD_go : Fld := ⟨0xD818, 0x0, 0, 31, 31⟩
@[reducible] def HOUSE_CMD_disarm : Fld := ⟨0xD818, 0x0, 0, 30, 30⟩
/-- HOUSE_STATUS (R321, 09_converters.md). -/
def HOUSE_STATUS : Reg := ⟨0xD81C, 0x0, 1, 0, 1⟩
@[reducible] def HOUSE_STATUS_spare : Fld := ⟨0xD81C, 0x0, 0, 31, 30⟩
@[reducible] def HOUSE_STATUS_failed : Fld := ⟨0xD81C, 0x0, 0, 29, 27⟩
@[reducible] def HOUSE_STATUS_rate_20 : Fld := ⟨0xD81C, 0x0, 0, 26, 26⟩
@[reducible] def HOUSE_STATUS_lost : Fld := ⟨0xD81C, 0x0, 0, 25, 25⟩
@[reducible] def HOUSE_STATUS_busy : Fld := ⟨0xD81C, 0x0, 0, 24, 24⟩
@[reducible] def HOUSE_STATUS_drops : Fld := ⟨0xD81C, 0x0, 0, 23, 16⟩
@[reducible] def HOUSE_STATUS_int_ok : Fld := ⟨0xD81C, 0x0, 0, 1, 1⟩
@[reducible] def HOUSE_STATUS_vdda_ok : Fld := ⟨0xD81C, 0x0, 0, 0, 0⟩
/-- HOUSE_RES (R321, 09_converters.md). -/
def HOUSE_RES : Reg := ⟨0xD880, 0x4, 32, 0, 1⟩
@[reducible] def HOUSE_RES_fresh : Fld := ⟨0xD880, 0x4, 0, 31, 31⟩
@[reducible] def HOUSE_RES_unsettled : Fld := ⟨0xD880, 0x4, 0, 30, 30⟩
@[reducible] def HOUSE_RES_degraded : Fld := ⟨0xD880, 0x4, 0, 29, 29⟩
@[reducible] def HOUSE_RES_over_range : Fld := ⟨0xD880, 0x4, 0, 28, 28⟩
@[reducible] def HOUSE_RES_value : Fld := ⟨0xD880, 0x4, 0, 23, 0⟩
/-- SITE_TRIG_LO (R312, 09_converters.md). -/
def SITE_TRIG_LO : Reg := ⟨0xD900, 0x0, 1, 0, 1⟩
@[reducible] def SITE_TRIG_LO_time_lo : Fld := ⟨0xD900, 0x0, 0, 31, 0⟩
/-- SITE_TRIG_HI (R312, 09_converters.md). -/
def SITE_TRIG_HI : Reg := ⟨0xD904, 0x0, 1, 0, 1⟩
@[reducible] def SITE_TRIG_HI_time_hi : Fld := ⟨0xD904, 0x0, 0, 31, 0⟩
/-- SITE_TRIG_MASK_LO (R312, 09_converters.md). -/
def SITE_TRIG_MASK_LO : Reg := ⟨0xD908, 0x0, 1, 0, 1⟩
@[reducible] def SITE_TRIG_MASK_LO_tiles_lo : Fld := ⟨0xD908, 0x0, 0, 31, 0⟩
/-- SITE_TRIG_MASK_HI (R312, 09_converters.md). -/
def SITE_TRIG_MASK_HI : Reg := ⟨0xD90C, 0x0, 1, 0, 1⟩
@[reducible] def SITE_TRIG_MASK_HI_tiles_hi : Fld := ⟨0xD90C, 0x0, 0, 31, 0⟩
/-- SITE_TRIG_CTL (R312, 09_converters.md). -/
def SITE_TRIG_CTL : Reg := ⟨0xD910, 0x0, 1, 0, 1⟩
@[reducible] def SITE_TRIG_CTL_arm : Fld := ⟨0xD910, 0x0, 0, 31, 31⟩
@[reducible] def SITE_TRIG_CTL_cancel : Fld := ⟨0xD910, 0x0, 0, 30, 30⟩
@[reducible] def SITE_TRIG_CTL_house : Fld := ⟨0xD910, 0x0, 0, 29, 29⟩
/-- SITE_TRIG_STATUS (R312, 09_converters.md). -/
def SITE_TRIG_STATUS : Reg := ⟨0xD914, 0x0, 1, 0, 1⟩
@[reducible] def SITE_TRIG_STATUS_armed : Fld := ⟨0xD914, 0x0, 0, 31, 31⟩
@[reducible] def SITE_TRIG_STATUS_fired : Fld := ⟨0xD914, 0x0, 0, 30, 30⟩
@[reducible] def SITE_TRIG_STATUS_refused : Fld := ⟨0xD914, 0x0, 0, 29, 29⟩
@[reducible] def SITE_TRIG_STATUS_epoch_changed : Fld := ⟨0xD914, 0x0, 0, 28, 28⟩
@[reducible] def SITE_TRIG_STATUS_epoch : Fld := ⟨0xD914, 0x0, 0, 7, 0⟩
/-- HWIN_CFG (R342, 10_window_monitors.md). -/
def HWIN_CFG : Reg := ⟨0xDA00, 0x10, 8, 0, 1⟩
@[reducible] def HWIN_CFG_cond : Fld := ⟨0xDA00, 0x10, 0, 31, 30⟩
@[reducible] def HWIN_CFG_clr : Fld := ⟨0xDA00, 0x10, 0, 29, 28⟩
@[reducible] def HWIN_CFG_cap_en : Fld := ⟨0xDA00, 0x10, 0, 27, 27⟩
@[reducible] def HWIN_CFG_irq_en : Fld := ⟨0xDA00, 0x10, 0, 26, 26⟩
@[reducible] def HWIN_CFG_wake_en : Fld := ⟨0xDA00, 0x10, 0, 25, 25⟩
@[reducible] def HWIN_CFG_test : Fld := ⟨0xDA00, 0x10, 0, 24, 23⟩
@[reducible] def HWIN_CFG_hyst : Fld := ⟨0xDA00, 0x10, 0, 22, 21⟩
@[reducible] def HWIN_CFG_input : Fld := ⟨0xDA00, 0x10, 0, 20, 18⟩
/-- HWIN_THR (R342, 10_window_monitors.md). -/
def HWIN_THR : Reg := ⟨0xDA04, 0x10, 8, 0, 1⟩
@[reducible] def HWIN_THR_upper : Fld := ⟨0xDA04, 0x10, 0, 31, 16⟩
@[reducible] def HWIN_THR_lower : Fld := ⟨0xDA04, 0x10, 0, 15, 0⟩
/-- HWIN_CAP (R342, 10_window_monitors.md). -/
def HWIN_CAP : Reg := ⟨0xDA08, 0x10, 8, 0, 1⟩
@[reducible] def HWIN_CAP_time : Fld := ⟨0xDA08, 0x10, 0, 31, 0⟩
/-- HWIN_STATUS (R342, 10_window_monitors.md). -/
def HWIN_STATUS : Reg := ⟨0xDA80, 0x0, 1, 0, 1⟩
@[reducible] def HWIN_STATUS_latched : Fld := ⟨0xDA80, 0x0, 0, 31, 24⟩
@[reducible] def HWIN_STATUS_raw : Fld := ⟨0xDA80, 0x0, 0, 23, 8⟩
@[reducible] def HWIN_STATUS_cap_valid : Fld := ⟨0xDA80, 0x0, 0, 7, 0⟩
/-- PS_STATUS (R632, 21_parameter_store.md). -/
def PS_STATUS : Reg := ⟨0xE000, 0x0, 1, 0, 1⟩
@[reducible] def PS_STATUS_mode : Fld := ⟨0xE000, 0x0, 0, 31, 30⟩
@[reducible] def PS_STATUS_busy : Fld := ⟨0xE000, 0x0, 0, 29, 29⟩
@[reducible] def PS_STATUS_restored : Fld := ⟨0xE000, 0x0, 0, 28, 28⟩
@[reducible] def PS_STATUS_open_ : Fld := ⟨0xE000, 0x0, 0, 27, 27⟩
@[reducible] def PS_STATUS_spares : Fld := ⟨0xE000, 0x0, 0, 23, 16⟩
@[reducible] def PS_STATUS_retired : Fld := ⟨0xE000, 0x0, 0, 15, 0⟩
/-- PS_CKPT_CFG (R632, 21_parameter_store.md). -/
def PS_CKPT_CFG : Reg := ⟨0xE004, 0x0, 1, 0, 1⟩
@[reducible] def PS_CKPT_CFG_timer_en : Fld := ⟨0xE004, 0x0, 0, 31, 31⟩
@[reducible] def PS_CKPT_CFG_move_end : Fld := ⟨0xE004, 0x0, 0, 30, 30⟩
@[reducible] def PS_CKPT_CFG_timer_min : Fld := ⟨0xE004, 0x0, 0, 15, 8⟩
@[reducible] def PS_CKPT_CFG_min_gap : Fld := ⟨0xE004, 0x0, 0, 7, 0⟩
/-- PS_CKPT_GEN (R632, 21_parameter_store.md). -/
def PS_CKPT_GEN : Reg := ⟨0xE008, 0x0, 1, 0, 1⟩
@[reducible] def PS_CKPT_GEN_gen : Fld := ⟨0xE008, 0x0, 0, 31, 0⟩
/-- PS_CKPT_TIME_LO (R632, 21_parameter_store.md). -/
def PS_CKPT_TIME_LO : Reg := ⟨0xE00C, 0x0, 1, 0, 1⟩
@[reducible] def PS_CKPT_TIME_LO_time : Fld := ⟨0xE00C, 0x0, 0, 31, 0⟩
/-- PS_CKPT_TIME_HI (R632, 21_parameter_store.md). -/
def PS_CKPT_TIME_HI : Reg := ⟨0xE010, 0x0, 1, 0, 1⟩
@[reducible] def PS_CKPT_TIME_HI_time : Fld := ⟨0xE010, 0x0, 0, 31, 0⟩
/-- PS_VOLATILE (R632, 21_parameter_store.md). -/
def PS_VOLATILE : Reg := ⟨0xE014, 0x0, 1, 0, 1⟩
@[reducible] def PS_VOLATILE_regions : Fld := ⟨0xE014, 0x0, 0, 5, 0⟩
/-- PS_MAP_LOST_LO (R632, 21_parameter_store.md). -/
def PS_MAP_LOST_LO : Reg := ⟨0xE018, 0x0, 1, 0, 1⟩
@[reducible] def PS_MAP_LOST_LO_tiles : Fld := ⟨0xE018, 0x0, 0, 31, 0⟩
/-- PS_MAP_LOST_HI (R632, 21_parameter_store.md). -/
def PS_MAP_LOST_HI : Reg := ⟨0xE01C, 0x0, 1, 0, 1⟩
@[reducible] def PS_MAP_LOST_HI_tiles : Fld := ⟨0xE01C, 0x0, 0, 31, 0⟩
/-- PS_WEAR (R632, 21_parameter_store.md). -/
def PS_WEAR : Reg := ⟨0xE020, 0x0, 1, 0, 1⟩
@[reducible] def PS_WEAR_max_clears : Fld := ⟨0xE020, 0x0, 0, 31, 0⟩
/-- PS_WEAR_CKPT (R632, 21_parameter_store.md). -/
def PS_WEAR_CKPT : Reg := ⟨0xE024, 0x0, 1, 0, 1⟩
@[reducible] def PS_WEAR_CKPT_ckpt_clears : Fld := ⟨0xE024, 0x0, 0, 31, 0⟩
/-- PS_LOAD_LO (R632, 21_parameter_store.md). -/
def PS_LOAD_LO : Reg := ⟨0xE030, 0x0, 1, 0, 1⟩
@[reducible] def PS_LOAD_LO_addr : Fld := ⟨0xE030, 0x0, 0, 31, 0⟩
/-- PS_LOAD_HI (R632, 21_parameter_store.md). -/
def PS_LOAD_HI : Reg := ⟨0xE034, 0x0, 1, 0, 1⟩
@[reducible] def PS_LOAD_HI_addr : Fld := ⟨0xE034, 0x0, 0, 31, 0⟩
/-- PS_LOAD_LEN (R632, 21_parameter_store.md). -/
def PS_LOAD_LEN : Reg := ⟨0xE038, 0x0, 1, 0, 1⟩
@[reducible] def PS_LOAD_LEN_length : Fld := ⟨0xE038, 0x0, 0, 20, 0⟩
/-- PS_LOAD_CTL (R632, 21_parameter_store.md). -/
def PS_LOAD_CTL : Reg := ⟨0xE03C, 0x0, 1, 0, 1⟩
@[reducible] def PS_LOAD_CTL_go : Fld := ⟨0xE03C, 0x0, 0, 31, 31⟩
@[reducible] def PS_LOAD_CTL_busy : Fld := ⟨0xE03C, 0x0, 0, 30, 30⟩
@[reducible] def PS_LOAD_CTL_result : Fld := ⟨0xE03C, 0x0, 0, 23, 16⟩
@[reducible] def PS_LOAD_CTL_kind : Fld := ⟨0xE03C, 0x0, 0, 8, 8⟩
@[reducible] def PS_LOAD_CTL_number : Fld := ⟨0xE03C, 0x0, 0, 7, 0⟩
/-- PS_LOG_ADDR (R632, 21_parameter_store.md). -/
def PS_LOG_ADDR : Reg := ⟨0xE040, 0x0, 1, 0, 1⟩
@[reducible] def PS_LOG_ADDR_word : Fld := ⟨0xE040, 0x0, 0, 15, 12⟩
@[reducible] def PS_LOG_ADDR_entry : Fld := ⟨0xE040, 0x0, 0, 11, 0⟩
/-- PS_LOG_DATA (R632, 21_parameter_store.md). -/
def PS_LOG_DATA : Reg := ⟨0xE044, 0x0, 1, 0, 1⟩
@[reducible] def PS_LOG_DATA_data : Fld := ⟨0xE044, 0x0, 0, 31, 0⟩
/-- PS_LOG_COUNT (R632, 21_parameter_store.md). -/
def PS_LOG_COUNT : Reg := ⟨0xE048, 0x0, 1, 0, 1⟩
@[reducible] def PS_LOG_COUNT_count : Fld := ⟨0xE048, 0x0, 0, 12, 0⟩
/-- DBG_ADDR (R665, 23_dawn_and_debug.md). -/
def DBG_ADDR : Reg := ⟨0xF000, 0x0, 1, 0, 1⟩
@[reducible] def DBG_ADDR_space : Fld := ⟨0xF000, 0x0, 0, 31, 30⟩
@[reducible] def DBG_ADDR_offset : Fld := ⟨0xF000, 0x0, 0, 19, 0⟩
/-- DBG_CMD (R665, 23_dawn_and_debug.md). -/
def DBG_CMD : Reg := ⟨0xF004, 0x0, 1, 0, 1⟩
@[reducible] def DBG_CMD_go : Fld := ⟨0xF004, 0x0, 0, 31, 31⟩
@[reducible] def DBG_CMD_kind : Fld := ⟨0xF004, 0x0, 0, 30, 29⟩
@[reducible] def DBG_CMD_busy : Fld := ⟨0xF004, 0x0, 0, 28, 28⟩
@[reducible] def DBG_CMD_error : Fld := ⟨0xF004, 0x0, 0, 27, 27⟩
@[reducible] def DBG_CMD_reason : Fld := ⟨0xF004, 0x0, 0, 26, 24⟩
/-- DBG_DATA (R665, 23_dawn_and_debug.md). -/
def DBG_DATA : Reg := ⟨0xF008, 0x0, 1, 0, 1⟩
@[reducible] def DBG_DATA_data : Fld := ⟨0xF008, 0x0, 0, 31, 0⟩
/-- DBG_HALT_LO (R665, 23_dawn_and_debug.md). -/
def DBG_HALT_LO : Reg := ⟨0xF010, 0x0, 1, 0, 1⟩
@[reducible] def DBG_HALT_LO_tiles : Fld := ⟨0xF010, 0x0, 0, 31, 0⟩
/-- DBG_HALT_HI (R665, 23_dawn_and_debug.md). -/
def DBG_HALT_HI : Reg := ⟨0xF014, 0x0, 1, 0, 1⟩
@[reducible] def DBG_HALT_HI_tiles : Fld := ⟨0xF014, 0x0, 0, 31, 0⟩
/-- DBG_RESUME_LO (R665, 23_dawn_and_debug.md). -/
def DBG_RESUME_LO : Reg := ⟨0xF018, 0x0, 1, 0, 1⟩
@[reducible] def DBG_RESUME_LO_tiles : Fld := ⟨0xF018, 0x0, 0, 31, 0⟩
/-- DBG_RESUME_HI (R665, 23_dawn_and_debug.md). -/
def DBG_RESUME_HI : Reg := ⟨0xF01C, 0x0, 1, 0, 1⟩
@[reducible] def DBG_RESUME_HI_tiles : Fld := ⟨0xF01C, 0x0, 0, 31, 0⟩
/-- DBG_STEP_LO (R665, 23_dawn_and_debug.md). -/
def DBG_STEP_LO : Reg := ⟨0xF020, 0x0, 1, 0, 1⟩
@[reducible] def DBG_STEP_LO_tiles : Fld := ⟨0xF020, 0x0, 0, 31, 0⟩
/-- DBG_STEP_HI (R665, 23_dawn_and_debug.md). -/
def DBG_STEP_HI : Reg := ⟨0xF024, 0x0, 1, 0, 1⟩
@[reducible] def DBG_STEP_HI_tiles : Fld := ⟨0xF024, 0x0, 0, 31, 0⟩
/-- DBG_HALTED_LO (R665, 23_dawn_and_debug.md). -/
def DBG_HALTED_LO : Reg := ⟨0xF028, 0x0, 1, 0, 1⟩
@[reducible] def DBG_HALTED_LO_tiles : Fld := ⟨0xF028, 0x0, 0, 31, 0⟩
/-- DBG_HALTED_HI (R665, 23_dawn_and_debug.md). -/
def DBG_HALTED_HI : Reg := ⟨0xF02C, 0x0, 1, 0, 1⟩
@[reducible] def DBG_HALTED_HI_tiles : Fld := ⟨0xF02C, 0x0, 0, 31, 0⟩
/-- DBG_CANOPY (R665, 23_dawn_and_debug.md). -/
def DBG_CANOPY : Reg := ⟨0xF030, 0x0, 1, 0, 1⟩
@[reducible] def DBG_CANOPY_halt : Fld := ⟨0xF030, 0x0, 0, 31, 31⟩
@[reducible] def DBG_CANOPY_resume : Fld := ⟨0xF030, 0x0, 0, 30, 30⟩
@[reducible] def DBG_CANOPY_step : Fld := ⟨0xF030, 0x0, 0, 29, 29⟩
@[reducible] def DBG_CANOPY_core : Fld := ⟨0xF030, 0x0, 0, 28, 28⟩
@[reducible] def DBG_CANOPY_halted : Fld := ⟨0xF030, 0x0, 0, 1, 0⟩
/-- KEY_INFO (R572, 19_keyed_commands.md). -/
def KEY_INFO : Reg := ⟨0xF100, 0x10, 8, 0, 1⟩
@[reducible] def KEY_INFO_active : Fld := ⟨0xF100, 0x10, 0, 31, 31⟩
@[reducible] def KEY_INFO_rights : Fld := ⟨0xF100, 0x10, 0, 30, 24⟩
/-- KEY_KCV (R572, 19_keyed_commands.md). -/
def KEY_KCV : Reg := ⟨0xF104, 0x10, 8, 0, 1⟩
@[reducible] def KEY_KCV_kcv : Fld := ⟨0xF104, 0x10, 0, 31, 0⟩
/-- KEY_NEXT_LO (R572, 19_keyed_commands.md). -/
def KEY_NEXT_LO : Reg := ⟨0xF108, 0x10, 8, 0, 1⟩
@[reducible] def KEY_NEXT_LO_next : Fld := ⟨0xF108, 0x10, 0, 31, 0⟩
/-- KEY_NEXT_HI (R572, 19_keyed_commands.md). -/
def KEY_NEXT_HI : Reg := ⟨0xF10C, 0x10, 8, 0, 1⟩
@[reducible] def KEY_NEXT_HI_next : Fld := ⟨0xF10C, 0x10, 0, 31, 0⟩
/-- KEY_STATUS (R579, 19_keyed_commands.md). -/
def KEY_STATUS : Reg := ⟨0xF180, 0x0, 1, 0, 1⟩
@[reducible] def KEY_STATUS_locked_out : Fld := ⟨0xF180, 0x0, 0, 31, 31⟩
@[reducible] def KEY_STATUS_busy : Fld := ⟨0xF180, 0x0, 0, 30, 30⟩
@[reducible] def KEY_STATUS_lockouts : Fld := ⟨0xF180, 0x0, 0, 27, 24⟩
@[reducible] def KEY_STATUS_failures : Fld := ⟨0xF180, 0x0, 0, 23, 16⟩
@[reducible] def KEY_STATUS_remaining : Fld := ⟨0xF180, 0x0, 0, 11, 0⟩
/-- TILE_STATE (R17, 01_how_a_move_travels.md). -/
def TILE_STATE : Reg := ⟨0x10004, 0x1000, 64, 0, 1⟩
@[reducible] def TILE_STATE_fault_cause : Fld := ⟨0x10004, 0x1000, 0, 31, 24⟩
@[reducible] def TILE_STATE_lull_source : Fld := ⟨0x10004, 0x1000, 0, 23, 16⟩
@[reducible] def TILE_STATE_homing_required : Fld := ⟨0x10004, 0x1000, 0, 11, 11⟩
@[reducible] def TILE_STATE_stalled : Fld := ⟨0x10004, 0x1000, 0, 10, 10⟩
@[reducible] def TILE_STATE_trail_frozen : Fld := ⟨0x10004, 0x1000, 0, 9, 9⟩
@[reducible] def TILE_STATE_prev_state : Fld := ⟨0x10004, 0x1000, 0, 6, 4⟩
@[reducible] def TILE_STATE_state : Fld := ⟨0x10004, 0x1000, 0, 2, 0⟩
/-- TILE_TIMEOUTS (R20, 01_how_a_move_travels.md). -/
def TILE_TIMEOUTS : Reg := ⟨0x10008, 0x1000, 64, 0, 1⟩
@[reducible] def TILE_TIMEOUTS_sleep_delay : Fld := ⟨0x10008, 0x1000, 0, 31, 20⟩
@[reducible] def TILE_TIMEOUTS_hold_timeout : Fld := ⟨0x10008, 0x1000, 0, 19, 8⟩
@[reducible] def TILE_TIMEOUTS_settle : Fld := ⟨0x10008, 0x1000, 0, 7, 0⟩
/-- TRAIL_CTL (R41, 02_trails_and_profiles.md). -/
def TRAIL_CTL : Reg := ⟨0x10010, 0x1000, 64, 0, 1⟩
@[reducible] def TRAIL_CTL_freeze_on_late : Fld := ⟨0x10010, 0x1000, 0, 4, 4⟩
@[reducible] def TRAIL_CTL_rel_base : Fld := ⟨0x10010, 0x1000, 0, 3, 3⟩
@[reducible] def TRAIL_CTL_ckpt_every_end : Fld := ⟨0x10010, 0x1000, 0, 2, 2⟩
@[reducible] def TRAIL_CTL_event_every_end : Fld := ⟨0x10010, 0x1000, 0, 1, 1⟩
@[reducible] def TRAIL_CTL_lull_retry : Fld := ⟨0x10010, 0x1000, 0, 0, 0⟩
/-- TRAIL_PTR (R42, 02_trails_and_profiles.md). -/
def TRAIL_PTR : Reg := ⟨0x10014, 0x1000, 64, 0, 1⟩
@[reducible] def TRAIL_PTR_tail : Fld := ⟨0x10014, 0x1000, 0, 26, 16⟩
@[reducible] def TRAIL_PTR_head : Fld := ⟨0x10014, 0x1000, 0, 10, 0⟩
/-- TRAIL_CMD (R43, 02_trails_and_profiles.md). -/
def TRAIL_CMD : Reg := ⟨0x10018, 0x1000, 64, 0, 1⟩
@[reducible] def TRAIL_CMD_cmd : Fld := ⟨0x10018, 0x1000, 0, 3, 0⟩
/-- TRAIL_STATUS (R46, 02_trails_and_profiles.md). -/
def TRAIL_STATUS : Reg := ⟨0x1001C, 0x1000, 64, 0, 1⟩
@[reducible] def TRAIL_STATUS_last_status : Fld := ⟨0x1001C, 0x1000, 0, 31, 24⟩
@[reducible] def TRAIL_STATUS_last_ptr : Fld := ⟨0x1001C, 0x1000, 0, 23, 13⟩
@[reducible] def TRAIL_STATUS_late_start : Fld := ⟨0x1001C, 0x1000, 0, 4, 4⟩
@[reducible] def TRAIL_STATUS_replace_refused : Fld := ⟨0x1001C, 0x1000, 0, 3, 3⟩
@[reducible] def TRAIL_STATUS_pos_write_refused : Fld := ⟨0x1001C, 0x1000, 0, 2, 2⟩
@[reducible] def TRAIL_STATUS_cmd_refused : Fld := ⟨0x1001C, 0x1000, 0, 1, 1⟩
/-- PLAN_CAP_V (R60, 02_trails_and_profiles.md). -/
def PLAN_CAP_V : Reg := ⟨0x10020, 0x1000, 64, 0, 1⟩
@[reducible] def PLAN_CAP_V_cap_v : Fld := ⟨0x10020, 0x1000, 0, 31, 0⟩
/-- PLAN_CAP_A (R60, 02_trails_and_profiles.md). -/
def PLAN_CAP_A : Reg := ⟨0x10024, 0x1000, 64, 0, 1⟩
@[reducible] def PLAN_CAP_A_cap_a : Fld := ⟨0x10024, 0x1000, 0, 31, 0⟩
/-- POS_LO (R57, 02_trails_and_profiles.md). -/
def POS_LO : Reg := ⟨0x10030, 0x1000, 64, 0, 1⟩
@[reducible] def POS_LO_pos_frac : Fld := ⟨0x10030, 0x1000, 0, 31, 0⟩
/-- POS_HI (R57, 02_trails_and_profiles.md). -/
def POS_HI : Reg := ⟨0x10034, 0x1000, 64, 0, 1⟩
@[reducible] def POS_HI_pos_int : Fld := ⟨0x10034, 0x1000, 0, 31, 0⟩
/-- VEL (R59, 02_trails_and_profiles.md). -/
def VEL : Reg := ⟨0x10038, 0x1000, 64, 0, 1⟩
@[reducible] def VEL_vel : Fld := ⟨0x10038, 0x1000, 0, 31, 0⟩
/-- ACC (R59, 02_trails_and_profiles.md). -/
def ACC : Reg := ⟨0x1003C, 0x1000, 64, 0, 1⟩
@[reducible] def ACC_acc : Fld := ⟨0x1003C, 0x1000, 0, 31, 0⟩
/-- REPLACE_LO (R64, 02_trails_and_profiles.md). -/
def REPLACE_LO : Reg := ⟨0x10050, 0x1000, 64, 0, 1⟩
@[reducible] def REPLACE_LO_new_frac : Fld := ⟨0x10050, 0x1000, 0, 31, 0⟩
/-- REPLACE_HI (R64, 02_trails_and_profiles.md). -/
def REPLACE_HI : Reg := ⟨0x10054, 0x1000, 64, 0, 1⟩
@[reducible] def REPLACE_HI_new_int : Fld := ⟨0x10054, 0x1000, 0, 31, 0⟩
/-- REPLACE_CTL (R64, 02_trails_and_profiles.md). -/
def REPLACE_CTL : Reg := ⟨0x10058, 0x1000, 64, 0, 1⟩
@[reducible] def REPLACE_CTL_go : Fld := ⟨0x10058, 0x1000, 0, 31, 31⟩
@[reducible] def REPLACE_CTL_new_limits : Fld := ⟨0x10058, 0x1000, 0, 30, 30⟩
@[reducible] def REPLACE_CTL_ptr : Fld := ⟨0x10058, 0x1000, 0, 10, 0⟩
/-- REPLACE_VEL (R64, 02_trails_and_profiles.md). -/
def REPLACE_VEL : Reg := ⟨0x1005C, 0x1000, 64, 0, 1⟩
@[reducible] def REPLACE_VEL_value : Fld := ⟨0x1005C, 0x1000, 0, 31, 0⟩
/-- REPLACE_ACC (R64, 02_trails_and_profiles.md). -/
def REPLACE_ACC : Reg := ⟨0x10060, 0x1000, 64, 0, 1⟩
@[reducible] def REPLACE_ACC_value : Fld := ⟨0x10060, 0x1000, 0, 31, 0⟩
/-- REPLACE_JERK (R64, 02_trails_and_profiles.md). -/
def REPLACE_JERK : Reg := ⟨0x10064, 0x1000, 64, 0, 1⟩
@[reducible] def REPLACE_JERK_value : Fld := ⟨0x10064, 0x1000, 0, 31, 0⟩
/-- POS_EVT_THR (R70, 02_trails_and_profiles.md). -/
def POS_EVT_THR : Reg := ⟨0x10070, 0x1000, 64, 8, 8⟩
@[reducible] def POS_EVT_THR_threshold : Fld := ⟨0x10070, 0x1000, 8, 31, 0⟩
/-- POS_EVT_CFG (R70, 02_trails_and_profiles.md). -/
def POS_EVT_CFG : Reg := ⟨0x10074, 0x1000, 64, 8, 8⟩
@[reducible] def POS_EVT_CFG_enable : Fld := ⟨0x10074, 0x1000, 8, 31, 31⟩
@[reducible] def POS_EVT_CFG_each : Fld := ⟨0x10074, 0x1000, 8, 30, 30⟩
@[reducible] def POS_EVT_CFG_dir : Fld := ⟨0x10074, 0x1000, 8, 29, 28⟩
@[reducible] def POS_EVT_CFG_band : Fld := ⟨0x10074, 0x1000, 8, 23, 0⟩
/-- POS_EVT_STATUS (R75, 02_trails_and_profiles.md). -/
def POS_EVT_STATUS : Reg := ⟨0x100B0, 0x1000, 64, 0, 1⟩
@[reducible] def POS_EVT_STATUS_armed : Fld := ⟨0x100B0, 0x1000, 0, 23, 16⟩
@[reducible] def POS_EVT_STATUS_fired : Fld := ⟨0x100B0, 0x1000, 0, 15, 8⟩
@[reducible] def POS_EVT_STATUS_cancelled : Fld := ⟨0x100B0, 0x1000, 0, 7, 0⟩
/-- GROUP_CFG (R81, 03_coordinated_motion.md). -/
def GROUP_CFG : Reg := ⟨0x100C0, 0x1000, 64, 0, 1⟩
@[reducible] def GROUP_CFG_group_tag : Fld := ⟨0x100C0, 0x1000, 0, 31, 16⟩
@[reducible] def GROUP_CFG_slot : Fld := ⟨0x100C0, 0x1000, 0, 15, 12⟩
@[reducible] def GROUP_CFG_member : Fld := ⟨0x100C0, 0x1000, 0, 11, 8⟩
@[reducible] def GROUP_CFG_leader_here : Fld := ⟨0x100C0, 0x1000, 0, 1, 1⟩
@[reducible] def GROUP_CFG_member_en : Fld := ⟨0x100C0, 0x1000, 0, 0, 0⟩
/-- GROUP_LEAD (R82, 03_coordinated_motion.md). -/
def GROUP_LEAD : Reg := ⟨0x100C4, 0x1000, 64, 0, 1⟩
@[reducible] def GROUP_LEAD_lead : Fld := ⟨0x100C4, 0x1000, 0, 25, 16⟩
@[reducible] def GROUP_LEAD_epoch : Fld := ⟨0x100C4, 0x1000, 0, 15, 0⟩
/-- GROUP_SCALE (R96, 03_coordinated_motion.md). -/
def GROUP_SCALE : Reg := ⟨0x100C8, 0x1000, 64, 0, 1⟩
@[reducible] def GROUP_SCALE_scale_a : Fld := ⟨0x100C8, 0x1000, 0, 31, 16⟩
@[reducible] def GROUP_SCALE_scale_v : Fld := ⟨0x100C8, 0x1000, 0, 15, 0⟩
/-- GROUP_REQ (R96, 03_coordinated_motion.md). -/
def GROUP_REQ : Reg := ⟨0x100CC, 0x1000, 64, 0, 1⟩
@[reducible] def GROUP_REQ_req_a : Fld := ⟨0x100CC, 0x1000, 0, 31, 16⟩
@[reducible] def GROUP_REQ_req_v : Fld := ⟨0x100CC, 0x1000, 0, 15, 0⟩
/-- GROUP_STATUS (R98, 03_coordinated_motion.md). -/
def GROUP_STATUS : Reg := ⟨0x100D0, 0x1000, 64, 0, 1⟩
@[reducible] def GROUP_STATUS_discards : Fld := ⟨0x100D0, 0x1000, 0, 23, 16⟩
@[reducible] def GROUP_STATUS_stale_frames : Fld := ⟨0x100D0, 0x1000, 0, 15, 8⟩
@[reducible] def GROUP_STATUS_member_lost : Fld := ⟨0x100D0, 0x1000, 0, 4, 4⟩
@[reducible] def GROUP_STATUS_diverged : Fld := ⟨0x100D0, 0x1000, 0, 3, 3⟩
@[reducible] def GROUP_STATUS_late_frame : Fld := ⟨0x100D0, 0x1000, 0, 2, 2⟩
@[reducible] def GROUP_STATUS_waiting_start : Fld := ⟨0x100D0, 0x1000, 0, 1, 1⟩
@[reducible] def GROUP_STATUS_ready : Fld := ⟨0x100D0, 0x1000, 0, 0, 0⟩
/-- GROUP_PATH_LO (R90, 03_coordinated_motion.md). -/
def GROUP_PATH_LO : Reg := ⟨0x100D8, 0x1000, 64, 0, 1⟩
@[reducible] def GROUP_PATH_LO_path_frac : Fld := ⟨0x100D8, 0x1000, 0, 31, 0⟩
/-- GROUP_PATH_HI (R90, 03_coordinated_motion.md). -/
def GROUP_PATH_HI : Reg := ⟨0x100DC, 0x1000, 64, 0, 1⟩
@[reducible] def GROUP_PATH_HI_path_int : Fld := ⟨0x100DC, 0x1000, 0, 31, 0⟩
/-- HOME_BACKOFF (R237, 07_homing_and_limits.md). -/
def HOME_BACKOFF : Reg := ⟨0x100E0, 0x1000, 64, 0, 1⟩
@[reducible] def HOME_BACKOFF_backoff : Fld := ⟨0x100E0, 0x1000, 0, 31, 0⟩
/-- HOME_FORCE (R237, 07_homing_and_limits.md). -/
def HOME_FORCE : Reg := ⟨0x100E4, 0x1000, 64, 0, 1⟩
@[reducible] def HOME_FORCE_force : Fld := ⟨0x100E4, 0x1000, 0, 31, 0⟩
/-- HOME_TOL (R237, 07_homing_and_limits.md). -/
def HOME_TOL : Reg := ⟨0x100E8, 0x1000, 64, 0, 1⟩
@[reducible] def HOME_TOL_lull_conf : Fld := ⟨0x100E8, 0x1000, 0, 31, 24⟩
@[reducible] def HOME_TOL_restore_tol : Fld := ⟨0x100E8, 0x1000, 0, 20, 12⟩
@[reducible] def HOME_TOL_auto_tol : Fld := ⟨0x100E8, 0x1000, 0, 8, 0⟩
/-- HOME_STATUS (R237, 07_homing_and_limits.md). -/
def HOME_STATUS : Reg := ⟨0x100EC, 0x1000, 64, 0, 1⟩
@[reducible] def HOME_STATUS_result : Fld := ⟨0x100EC, 0x1000, 0, 23, 16⟩
@[reducible] def HOME_STATUS_method : Fld := ⟨0x100EC, 0x1000, 0, 15, 12⟩
@[reducible] def HOME_STATUS_phase : Fld := ⟨0x100EC, 0x1000, 0, 11, 9⟩
@[reducible] def HOME_STATUS_busy : Fld := ⟨0x100EC, 0x1000, 0, 1, 1⟩
@[reducible] def HOME_STATUS_homed : Fld := ⟨0x100EC, 0x1000, 0, 0, 0⟩
/-- HOME_LATCH_LO (R237, 07_homing_and_limits.md). -/
def HOME_LATCH_LO : Reg := ⟨0x100F0, 0x1000, 64, 0, 1⟩
@[reducible] def HOME_LATCH_LO_latch_frac : Fld := ⟨0x100F0, 0x1000, 0, 31, 0⟩
/-- HOME_LATCH_HI (R237, 07_homing_and_limits.md). -/
def HOME_LATCH_HI : Reg := ⟨0x100F4, 0x1000, 64, 0, 1⟩
@[reducible] def HOME_LATCH_HI_latch_int : Fld := ⟨0x100F4, 0x1000, 0, 31, 0⟩
/-- RESTORE_UNC (R237, 07_homing_and_limits.md). -/
def RESTORE_UNC : Reg := ⟨0x100F8, 0x1000, 64, 0, 1⟩
@[reducible] def RESTORE_UNC_unc : Fld := ⟨0x100F8, 0x1000, 0, 31, 0⟩
/-- SOFT_LO (R242, 07_homing_and_limits.md). -/
def SOFT_LO : Reg := ⟨0x10100, 0x1000, 64, 0, 1⟩
@[reducible] def SOFT_LO_lo : Fld := ⟨0x10100, 0x1000, 0, 31, 0⟩
/-- SOFT_HI (R242, 07_homing_and_limits.md). -/
def SOFT_HI : Reg := ⟨0x10104, 0x1000, 64, 0, 1⟩
@[reducible] def SOFT_HI_hi : Fld := ⟨0x10104, 0x1000, 0, 31, 0⟩
/-- SOFT_CTL (R242, 07_homing_and_limits.md). -/
def SOFT_CTL : Reg := ⟨0x10108, 0x1000, 64, 0, 1⟩
@[reducible] def SOFT_CTL_enable : Fld := ⟨0x10108, 0x1000, 0, 31, 31⟩
@[reducible] def SOFT_CTL_gate : Fld := ⟨0x10108, 0x1000, 0, 30, 30⟩
@[reducible] def SOFT_CTL_freeze : Fld := ⟨0x10108, 0x1000, 0, 29, 29⟩
/-- POS_WRAP (R245, 07_homing_and_limits.md). -/
def POS_WRAP : Reg := ⟨0x1010C, 0x1000, 64, 0, 1⟩
@[reducible] def POS_WRAP_modulus : Fld := ⟨0x1010C, 0x1000, 0, 31, 0⟩
/-- WRAP_CTL (R245, 07_homing_and_limits.md). -/
def WRAP_CTL : Reg := ⟨0x10110, 0x1000, 64, 0, 1⟩
@[reducible] def WRAP_CTL_mode : Fld := ⟨0x10110, 0x1000, 0, 1, 0⟩
/-- DUSK_COAST (R602, 20_lookout_power_and_dusk.md). -/
def DUSK_COAST : Reg := ⟨0x10114, 0x1000, 64, 0, 1⟩
@[reducible] def DUSK_COAST_coast : Fld := ⟨0x10114, 0x1000, 0, 31, 0⟩
/-- USTEP_CTL (R112, 04_microsteps_and_chopper.md). -/
def USTEP_CTL : Reg := ⟨0x10200, 0x1000, 64, 0, 1⟩
@[reducible] def USTEP_CTL_swap : Fld := ⟨0x10200, 0x1000, 0, 31, 31⟩
@[reducible] def USTEP_CTL_dir_inv : Fld := ⟨0x10200, 0x1000, 0, 30, 30⟩
@[reducible] def USTEP_CTL_elec_off : Fld := ⟨0x10200, 0x1000, 0, 9, 0⟩
/-- USTEP_TBL_ADDR (R118, 04_microsteps_and_chopper.md). -/
def USTEP_TBL_ADDR : Reg := ⟨0x10204, 0x1000, 64, 0, 1⟩
@[reducible] def USTEP_TBL_ADDR_active_sel : Fld := ⟨0x10204, 0x1000, 0, 9, 9⟩
@[reducible] def USTEP_TBL_ADDR_index : Fld := ⟨0x10204, 0x1000, 0, 8, 0⟩
/-- USTEP_TBL_DATA (R118, 04_microsteps_and_chopper.md). -/
def USTEP_TBL_DATA : Reg := ⟨0x10208, 0x1000, 64, 0, 1⟩
@[reducible] def USTEP_TBL_DATA_entry : Fld := ⟨0x10208, 0x1000, 0, 11, 0⟩
/-- USTEP_STATUS (R121, 04_microsteps_and_chopper.md). -/
def USTEP_STATUS : Reg := ⟨0x1020C, 0x1000, 64, 0, 1⟩
@[reducible] def USTEP_STATUS_e : Fld := ⟨0x1020C, 0x1000, 0, 25, 16⟩
@[reducible] def USTEP_STATUS_shape_error : Fld := ⟨0x1020C, 0x1000, 0, 3, 3⟩
@[reducible] def USTEP_STATUS_cfg_refused : Fld := ⟨0x1020C, 0x1000, 0, 2, 2⟩
@[reducible] def USTEP_STATUS_swap_pending : Fld := ⟨0x1020C, 0x1000, 0, 1, 1⟩
@[reducible] def USTEP_STATUS_active_bank : Fld := ⟨0x1020C, 0x1000, 0, 0, 0⟩
/-- CUR_SCALE (R122, 04_microsteps_and_chopper.md). -/
def CUR_SCALE : Reg := ⟨0x10210, 0x1000, 64, 0, 1⟩
@[reducible] def CUR_SCALE_sense_ma : Fld := ⟨0x10210, 0x1000, 0, 31, 16⟩
@[reducible] def CUR_SCALE_fs_ma : Fld := ⟨0x10210, 0x1000, 0, 15, 0⟩
/-- CUR_LEVEL (R125, 04_microsteps_and_chopper.md). -/
def CUR_LEVEL : Reg := ⟨0x10214, 0x1000, 64, 0, 1⟩
@[reducible] def CUR_LEVEL_hold : Fld := ⟨0x10214, 0x1000, 0, 27, 16⟩
@[reducible] def CUR_LEVEL_park : Fld := ⟨0x10214, 0x1000, 0, 11, 0⟩
/-- CUR_RUN (R125, 04_microsteps_and_chopper.md). -/
def CUR_RUN : Reg := ⟨0x10218, 0x1000, 64, 0, 1⟩
@[reducible] def CUR_RUN_run : Fld := ⟨0x10218, 0x1000, 0, 11, 0⟩
/-- CUR_TIMING (R126, 04_microsteps_and_chopper.md). -/
def CUR_TIMING : Reg := ⟨0x1021C, 0x1000, 64, 0, 1⟩
@[reducible] def CUR_TIMING_ramp_step : Fld := ⟨0x1021C, 0x1000, 0, 31, 20⟩
@[reducible] def CUR_TIMING_ramp_unit : Fld := ⟨0x1021C, 0x1000, 0, 19, 19⟩
@[reducible] def CUR_TIMING_park_delay : Fld := ⟨0x1021C, 0x1000, 0, 15, 8⟩
@[reducible] def CUR_TIMING_stand_delay : Fld := ⟨0x1021C, 0x1000, 0, 7, 0⟩
/-- CUR_CAP (R125, 04_microsteps_and_chopper.md). -/
def CUR_CAP : Reg := ⟨0x10220, 0x1000, 64, 0, 1⟩
@[reducible] def CUR_CAP_cap : Fld := ⟨0x10220, 0x1000, 0, 11, 0⟩
/-- CUR_STATUS (R129, 04_microsteps_and_chopper.md). -/
def CUR_STATUS : Reg := ⟨0x10224, 0x1000, 64, 0, 1⟩
@[reducible] def CUR_STATUS_level : Fld := ⟨0x10224, 0x1000, 0, 31, 30⟩
@[reducible] def CUR_STATUS_ramping : Fld := ⟨0x10224, 0x1000, 0, 29, 29⟩
@[reducible] def CUR_STATUS_scale_invalid : Fld := ⟨0x10224, 0x1000, 0, 28, 28⟩
@[reducible] def CUR_STATUS_code : Fld := ⟨0x10224, 0x1000, 0, 27, 16⟩
@[reducible] def CUR_STATUS_target : Fld := ⟨0x10224, 0x1000, 0, 11, 0⟩
/-- PHASE_SP (R116, 04_microsteps_and_chopper.md). -/
def PHASE_SP : Reg := ⟨0x10228, 0x1000, 64, 0, 1⟩
@[reducible] def PHASE_SP_sp_b : Fld := ⟨0x10228, 0x1000, 0, 31, 16⟩
@[reducible] def PHASE_SP_sp_a : Fld := ⟨0x10228, 0x1000, 0, 15, 0⟩
/-- CMD_ANGLE (R116, 04_microsteps_and_chopper.md). -/
def CMD_ANGLE : Reg := ⟨0x1022C, 0x1000, 64, 0, 1⟩
@[reducible] def CMD_ANGLE_angle : Fld := ⟨0x1022C, 0x1000, 0, 15, 0⟩
/-- CHOP_CTL (R132, 04_microsteps_and_chopper.md). -/
def CHOP_CTL : Reg := ⟨0x10230, 0x1000, 64, 0, 1⟩
@[reducible] def CHOP_CTL_mode : Fld := ⟨0x10230, 0x1000, 0, 31, 30⟩
@[reducible] def CHOP_CTL_decay : Fld := ⟨0x10230, 0x1000, 0, 29, 28⟩
@[reducible] def CHOP_CTL_band : Fld := ⟨0x10230, 0x1000, 0, 23, 12⟩
@[reducible] def CHOP_CTL_mixed_fast : Fld := ⟨0x10230, 0x1000, 0, 11, 0⟩
/-- CHOP_TIME (R133, 04_microsteps_and_chopper.md). -/
def CHOP_TIME : Reg := ⟨0x10234, 0x1000, 64, 0, 1⟩
@[reducible] def CHOP_TIME_blank : Fld := ⟨0x10234, 0x1000, 0, 31, 23⟩
@[reducible] def CHOP_TIME_min_on : Fld := ⟨0x10234, 0x1000, 0, 22, 14⟩
@[reducible] def CHOP_TIME_min_off : Fld := ⟨0x10234, 0x1000, 0, 13, 5⟩
/-- CHOP_LIMIT (R133, 04_microsteps_and_chopper.md). -/
def CHOP_LIMIT : Reg := ⟨0x10238, 0x1000, 64, 0, 1⟩
@[reducible] def CHOP_LIMIT_max_on : Fld := ⟨0x10238, 0x1000, 0, 31, 24⟩
@[reducible] def CHOP_LIMIT_refresh : Fld := ⟨0x10238, 0x1000, 0, 23, 15⟩
@[reducible] def CHOP_LIMIT_slow_limit : Fld := ⟨0x10238, 0x1000, 0, 14, 8⟩
@[reducible] def CHOP_LIMIT_reg_loss : Fld := ⟨0x10238, 0x1000, 0, 7, 0⟩
/-- CHOP_ADAPT (R140, 04_microsteps_and_chopper.md). -/
def CHOP_ADAPT : Reg := ⟨0x1023C, 0x1000, 64, 0, 1⟩
@[reducible] def CHOP_ADAPT_enable : Fld := ⟨0x1023C, 0x1000, 0, 31, 31⟩
@[reducible] def CHOP_ADAPT_clamp : Fld := ⟨0x1023C, 0x1000, 0, 15, 0⟩
/-- CHOP_OFFSET (R140, 04_microsteps_and_chopper.md). -/
def CHOP_OFFSET : Reg := ⟨0x10240, 0x1000, 64, 0, 1⟩
@[reducible] def CHOP_OFFSET_off_b : Fld := ⟨0x10240, 0x1000, 0, 31, 16⟩
@[reducible] def CHOP_OFFSET_off_a : Fld := ⟨0x10240, 0x1000, 0, 15, 0⟩
/-- CHOP_PEAK (R140, 04_microsteps_and_chopper.md). -/
def CHOP_PEAK : Reg := ⟨0x10244, 0x1000, 64, 0, 1⟩
@[reducible] def CHOP_PEAK_peak_b : Fld := ⟨0x10244, 0x1000, 0, 31, 16⟩
@[reducible] def CHOP_PEAK_peak_a : Fld := ⟨0x10244, 0x1000, 0, 15, 0⟩
/-- CHOP_STATUS (R148, 04_microsteps_and_chopper.md). -/
def CHOP_STATUS : Reg := ⟨0x10248, 0x1000, 64, 0, 1⟩
@[reducible] def CHOP_STATUS_duty_b : Fld := ⟨0x10248, 0x1000, 0, 31, 31⟩
@[reducible] def CHOP_STATUS_duty_a : Fld := ⟨0x10248, 0x1000, 0, 30, 30⟩
@[reducible] def CHOP_STATUS_bstate_b : Fld := ⟨0x10248, 0x1000, 0, 27, 26⟩
@[reducible] def CHOP_STATUS_bstate_a : Fld := ⟨0x10248, 0x1000, 0, 25, 24⟩
@[reducible] def CHOP_STATUS_refresh_b : Fld := ⟨0x10248, 0x1000, 0, 7, 7⟩
@[reducible] def CHOP_STATUS_refresh_a : Fld := ⟨0x10248, 0x1000, 0, 6, 6⟩
@[reducible] def CHOP_STATUS_clamp_b : Fld := ⟨0x10248, 0x1000, 0, 5, 5⟩
@[reducible] def CHOP_STATUS_clamp_a : Fld := ⟨0x10248, 0x1000, 0, 4, 4⟩
@[reducible] def CHOP_STATUS_unreg_b : Fld := ⟨0x10248, 0x1000, 0, 3, 3⟩
@[reducible] def CHOP_STATUS_unreg_a : Fld := ⟨0x10248, 0x1000, 0, 2, 2⟩
@[reducible] def CHOP_STATUS_handover : Fld := ⟨0x10248, 0x1000, 0, 1, 1⟩
/-- DUTY_GAIN (R144, 04_microsteps_and_chopper.md). -/
def DUTY_GAIN : Reg := ⟨0x1024C, 0x1000, 64, 0, 1⟩
@[reducible] def DUTY_GAIN_kp : Fld := ⟨0x1024C, 0x1000, 0, 31, 16⟩
@[reducible] def DUTY_GAIN_ki : Fld := ⟨0x1024C, 0x1000, 0, 15, 0⟩
/-- DUTY_FF (R144, 04_microsteps_and_chopper.md). -/
def DUTY_FF : Reg := ⟨0x10250, 0x1000, 64, 0, 1⟩
@[reducible] def DUTY_FF_ff_en : Fld := ⟨0x10250, 0x1000, 0, 31, 31⟩
@[reducible] def DUTY_FF_dmax : Fld := ⟨0x10250, 0x1000, 0, 30, 16⟩
@[reducible] def DUTY_FF_res_mohm : Fld := ⟨0x10250, 0x1000, 0, 15, 0⟩
/-- DUTY_UP (R144, 04_microsteps_and_chopper.md). -/
def DUTY_UP : Reg := ⟨0x10254, 0x1000, 64, 0, 1⟩
@[reducible] def DUTY_UP_up : Fld := ⟨0x10254, 0x1000, 0, 31, 0⟩
/-- DUTY_DOWN (R144, 04_microsteps_and_chopper.md). -/
def DUTY_DOWN : Reg := ⟨0x10258, 0x1000, 64, 0, 1⟩
@[reducible] def DUTY_DOWN_down : Fld := ⟨0x10258, 0x1000, 0, 31, 0⟩
/-- RIPPLE_CTL (R152, 04_microsteps_and_chopper.md). -/
def RIPPLE_CTL : Reg := ⟨0x10260, 0x1000, 64, 0, 1⟩
@[reducible] def RIPPLE_CTL_enable : Fld := ⟨0x10260, 0x1000, 0, 31, 31⟩
@[reducible] def RIPPLE_CTL_freeze_on_lull : Fld := ⟨0x10260, 0x1000, 0, 30, 30⟩
@[reducible] def RIPPLE_CTL_decim : Fld := ⟨0x10260, 0x1000, 0, 3, 0⟩
/-- RIPPLE_PTR (R152, 04_microsteps_and_chopper.md). -/
def RIPPLE_PTR : Reg := ⟨0x10264, 0x1000, 64, 0, 1⟩
@[reducible] def RIPPLE_PTR_wrap_b : Fld := ⟨0x10264, 0x1000, 0, 31, 31⟩
@[reducible] def RIPPLE_PTR_idx_b : Fld := ⟨0x10264, 0x1000, 0, 28, 16⟩
@[reducible] def RIPPLE_PTR_wrap_a : Fld := ⟨0x10264, 0x1000, 0, 15, 15⟩
@[reducible] def RIPPLE_PTR_idx_a : Fld := ⟨0x10264, 0x1000, 0, 12, 0⟩
/-- RIPPLE_EDGE (R152, 04_microsteps_and_chopper.md). -/
def RIPPLE_EDGE : Reg := ⟨0x10268, 0x1000, 64, 0, 1⟩
@[reducible] def RIPPLE_EDGE_wrap_b : Fld := ⟨0x10268, 0x1000, 0, 31, 31⟩
@[reducible] def RIPPLE_EDGE_eidx_b : Fld := ⟨0x10268, 0x1000, 0, 24, 16⟩
@[reducible] def RIPPLE_EDGE_wrap_a : Fld := ⟨0x10268, 0x1000, 0, 15, 15⟩
@[reducible] def RIPPLE_EDGE_eidx_a : Fld := ⟨0x10268, 0x1000, 0, 8, 0⟩
/-- RIPPLE_STATUS (R152, 04_microsteps_and_chopper.md). -/
def RIPPLE_STATUS : Reg := ⟨0x1026C, 0x1000, 64, 0, 1⟩
@[reducible] def RIPPLE_STATUS_decim_eff : Fld := ⟨0x1026C, 0x1000, 0, 31, 28⟩
@[reducible] def RIPPLE_STATUS_frozen : Fld := ⟨0x1026C, 0x1000, 0, 2, 2⟩
@[reducible] def RIPPLE_STATUS_rate_60 : Fld := ⟨0x1026C, 0x1000, 0, 1, 1⟩
/-- SD_CTL (R159, 05_sundial.md). -/
def SD_CTL : Reg := ⟨0x10300, 0x1000, 64, 0, 1⟩
@[reducible] def SD_CTL_map_load : Fld := ⟨0x10300, 0x1000, 0, 31, 31⟩
@[reducible] def SD_CTL_map_check : Fld := ⟨0x10300, 0x1000, 0, 30, 30⟩
@[reducible] def SD_CTL_clear : Fld := ⟨0x10300, 0x1000, 0, 29, 29⟩
@[reducible] def SD_CTL_temp_fixed : Fld := ⟨0x10300, 0x1000, 0, 28, 28⟩
@[reducible] def SD_CTL_snap_div : Fld := ⟨0x10300, 0x1000, 0, 23, 16⟩
@[reducible] def SD_CTL_forget : Fld := ⟨0x10300, 0x1000, 0, 11, 8⟩
@[reducible] def SD_CTL_track : Fld := ⟨0x10300, 0x1000, 0, 7, 4⟩
@[reducible] def SD_CTL_enable : Fld := ⟨0x10300, 0x1000, 0, 0, 0⟩
/-- SD_STATUS (R160, 05_sundial.md). -/
def SD_STATUS : Reg := ⟨0x10304, 0x1000, 64, 0, 1⟩
@[reducible] def SD_STATUS_mode : Fld := ⟨0x10304, 0x1000, 0, 31, 29⟩
@[reducible] def SD_STATUS_grant : Fld := ⟨0x10304, 0x1000, 0, 28, 28⟩
@[reducible] def SD_STATUS_borrowing : Fld := ⟨0x10304, 0x1000, 0, 27, 27⟩
@[reducible] def SD_STATUS_map_valid : Fld := ⟨0x10304, 0x1000, 0, 26, 26⟩
@[reducible] def SD_STATUS_no_ripple : Fld := ⟨0x10304, 0x1000, 0, 25, 25⟩
@[reducible] def SD_STATUS_rate_60 : Fld := ⟨0x10304, 0x1000, 0, 24, 24⟩
@[reducible] def SD_STATUS_cal_stopped : Fld := ⟨0x10304, 0x1000, 0, 23, 23⟩
@[reducible] def SD_STATUS_walk_busy : Fld := ⟨0x10304, 0x1000, 0, 22, 22⟩
@[reducible] def SD_STATUS_peer : Fld := ⟨0x10304, 0x1000, 0, 13, 8⟩
/-- SD_ANGLE (R173, 05_sundial.md). -/
def SD_ANGLE : Reg := ⟨0x10308, 0x1000, 64, 0, 1⟩
@[reducible] def SD_ANGLE_load_angle : Fld := ⟨0x10308, 0x1000, 0, 31, 16⟩
@[reducible] def SD_ANGLE_rotor_angle : Fld := ⟨0x10308, 0x1000, 0, 15, 0⟩
/-- SD_CONF (R173, 05_sundial.md). -/
def SD_CONF : Reg := ⟨0x1030C, 0x1000, 64, 0, 1⟩
@[reducible] def SD_CONF_conf : Fld := ⟨0x1030C, 0x1000, 0, 31, 24⟩
@[reducible] def SD_CONF_best_h : Fld := ⟨0x1030C, 0x1000, 0, 23, 18⟩
@[reducible] def SD_CONF_fit_b : Fld := ⟨0x1030C, 0x1000, 0, 17, 17⟩
@[reducible] def SD_CONF_fit_a : Fld := ⟨0x1030C, 0x1000, 0, 16, 16⟩
@[reducible] def SD_CONF_update_seq : Fld := ⟨0x1030C, 0x1000, 0, 15, 0⟩
/-- SD_EMF (R173, 05_sundial.md). -/
def SD_EMF : Reg := ⟨0x10310, 0x1000, 64, 0, 1⟩
@[reducible] def SD_EMF_e_b : Fld := ⟨0x10310, 0x1000, 0, 31, 16⟩
@[reducible] def SD_EMF_e_a : Fld := ⟨0x10310, 0x1000, 0, 15, 0⟩
/-- SD_TORQUE (R173, 05_sundial.md). -/
def SD_TORQUE : Reg := ⟨0x10314, 0x1000, 64, 0, 1⟩
@[reducible] def SD_TORQUE_torque : Fld := ⟨0x10314, 0x1000, 0, 31, 0⟩
/-- SD_LINC (R173, 05_sundial.md). -/
def SD_LINC : Reg := ⟨0x10318, 0x1000, 64, 0, 1⟩
@[reducible] def SD_LINC_l_b : Fld := ⟨0x10318, 0x1000, 0, 31, 16⟩
@[reducible] def SD_LINC_l_a : Fld := ⟨0x10318, 0x1000, 0, 15, 0⟩
/-- SD_SLIP (R173, 05_sundial.md). -/
def SD_SLIP : Reg := ⟨0x1031C, 0x1000, 64, 0, 1⟩
@[reducible] def SD_SLIP_unwrapped : Fld := ⟨0x1031C, 0x1000, 0, 31, 0⟩
/-- SD_SPEED (R173, 05_sundial.md). -/
def SD_SPEED : Reg := ⟨0x10320, 0x1000, 64, 0, 1⟩
@[reducible] def SD_SPEED_vrot : Fld := ⟨0x10320, 0x1000, 0, 31, 0⟩
/-- SD_TIME (R173, 05_sundial.md). -/
def SD_TIME : Reg := ⟨0x10324, 0x1000, 64, 0, 1⟩
@[reducible] def SD_TIME_time : Fld := ⟨0x10324, 0x1000, 0, 31, 0⟩
/-- SD_TEMP (R173, 05_sundial.md). -/
def SD_TEMP : Reg := ⟨0x10328, 0x1000, 64, 0, 1⟩
@[reducible] def SD_TEMP_t_w : Fld := ⟨0x10328, 0x1000, 0, 31, 16⟩
@[reducible] def SD_TEMP_r_est : Fld := ⟨0x10328, 0x1000, 0, 15, 0⟩
/-- SD_STALL (R183, 05_sundial.md). -/
def SD_STALL : Reg := ⟨0x1032C, 0x1000, 64, 0, 1⟩
@[reducible] def SD_STALL_stall_angle : Fld := ⟨0x1032C, 0x1000, 0, 31, 16⟩
@[reducible] def SD_STALL_stall_conf : Fld := ⟨0x1032C, 0x1000, 0, 15, 8⟩
@[reducible] def SD_STALL_stall_cnt : Fld := ⟨0x1032C, 0x1000, 0, 7, 0⟩
/-- SD_STALL2 (R183, 05_sundial.md). -/
def SD_STALL2 : Reg := ⟨0x10330, 0x1000, 64, 0, 1⟩
@[reducible] def SD_STALL2_pos_conf : Fld := ⟨0x10330, 0x1000, 0, 31, 24⟩
@[reducible] def SD_STALL2_blind_limit : Fld := ⟨0x10330, 0x1000, 0, 23, 8⟩
@[reducible] def SD_STALL2_blind_action : Fld := ⟨0x10330, 0x1000, 0, 7, 6⟩
@[reducible] def SD_STALL2_slip_correct : Fld := ⟨0x10330, 0x1000, 0, 5, 5⟩
/-- SD_BLEND_LO (R190, 05_sundial.md). -/
def SD_BLEND_LO : Reg := ⟨0x10334, 0x1000, 64, 0, 1⟩
@[reducible] def SD_BLEND_LO_blend_lo : Fld := ⟨0x10334, 0x1000, 0, 31, 0⟩
/-- SD_BLEND_HI (R190, 05_sundial.md). -/
def SD_BLEND_HI : Reg := ⟨0x10338, 0x1000, 64, 0, 1⟩
@[reducible] def SD_BLEND_HI_blend_hi : Fld := ⟨0x10338, 0x1000, 0, 31, 0⟩
/-- SD_EVENTS (R189, 05_sundial.md). -/
def SD_EVENTS : Reg := ⟨0x1033C, 0x1000, 64, 0, 1⟩
@[reducible] def SD_EVENTS_map_drift : Fld := ⟨0x1033C, 0x1000, 0, 7, 7⟩
@[reducible] def SD_EVENTS_conf_low : Fld := ⟨0x1033C, 0x1000, 0, 6, 6⟩
@[reducible] def SD_EVENTS_slip : Fld := ⟨0x1033C, 0x1000, 0, 5, 5⟩
@[reducible] def SD_EVENTS_stall : Fld := ⟨0x1033C, 0x1000, 0, 4, 4⟩
@[reducible] def SD_EVENTS_temp_range : Fld := ⟨0x1033C, 0x1000, 0, 3, 3⟩
@[reducible] def SD_EVENTS_map_error : Fld := ⟨0x1033C, 0x1000, 0, 2, 2⟩
@[reducible] def SD_EVENTS_mode_change : Fld := ⟨0x1033C, 0x1000, 0, 1, 1⟩
/-- SD_DRIFT (R188, 05_sundial.md). -/
def SD_DRIFT : Reg := ⟨0x10340, 0x1000, 64, 0, 1⟩
@[reducible] def SD_DRIFT_drift_thr : Fld := ⟨0x10340, 0x1000, 0, 31, 16⟩
@[reducible] def SD_DRIFT_drift_level : Fld := ⟨0x10340, 0x1000, 0, 15, 0⟩
/-- WALK_CTL (R191, 05_sundial.md). -/
def WALK_CTL : Reg := ⟨0x10350, 0x1000, 64, 0, 1⟩
@[reducible] def WALK_CTL_start : Fld := ⟨0x10350, 0x1000, 0, 31, 31⟩
@[reducible] def WALK_CTL_abort : Fld := ⟨0x10350, 0x1000, 0, 30, 30⟩
@[reducible] def WALK_CTL_lend_ok : Fld := ⟨0x10350, 0x1000, 0, 29, 29⟩
@[reducible] def WALK_CTL_store : Fld := ⟨0x10350, 0x1000, 0, 28, 28⟩
@[reducible] def WALK_CTL_set_blend : Fld := ⟨0x10350, 0x1000, 0, 27, 27⟩
/-- WALK_CFG (R191, 05_sundial.md). -/
def WALK_CFG : Reg := ⟨0x10354, 0x1000, 64, 0, 1⟩
@[reducible] def WALK_CFG_i_max_ma : Fld := ⟨0x10354, 0x1000, 0, 31, 16⟩
@[reducible] def WALK_CFG_lo_row : Fld := ⟨0x10354, 0x1000, 0, 15, 12⟩
@[reducible] def WALK_CFG_neg : Fld := ⟨0x10354, 0x1000, 0, 11, 11⟩
@[reducible] def WALK_CFG_dwell : Fld := ⟨0x10354, 0x1000, 0, 7, 0⟩
/-- WALK_SPEED (R191, 05_sundial.md). -/
def WALK_SPEED : Reg := ⟨0x10358, 0x1000, 64, 0, 1⟩
@[reducible] def WALK_SPEED_speed : Fld := ⟨0x10358, 0x1000, 0, 31, 0⟩
/-- WALK_CABLE (R191, 05_sundial.md). -/
def WALK_CABLE : Reg := ⟨0x1035C, 0x1000, 64, 0, 1⟩
@[reducible] def WALK_CABLE_len_dm : Fld := ⟨0x1035C, 0x1000, 0, 31, 16⟩
@[reducible] def WALK_CABLE_r_cable : Fld := ⟨0x1035C, 0x1000, 0, 15, 0⟩
/-- WALK_STATUS (R191, 05_sundial.md). -/
def WALK_STATUS : Reg := ⟨0x10360, 0x1000, 64, 0, 1⟩
@[reducible] def WALK_STATUS_phase : Fld := ⟨0x10360, 0x1000, 0, 31, 29⟩
@[reducible] def WALK_STATUS_row : Fld := ⟨0x10360, 0x1000, 0, 28, 24⟩
@[reducible] def WALK_STATUS_result : Fld := ⟨0x10360, 0x1000, 0, 23, 16⟩
@[reducible] def WALK_STATUS_verify_conf : Fld := ⟨0x10360, 0x1000, 0, 15, 8⟩
@[reducible] def WALK_STATUS_progress : Fld := ⟨0x10360, 0x1000, 0, 7, 0⟩
/-- SD_HYP (R174, 05_sundial.md). -/
def SD_HYP : Reg := ⟨0x10380, 0x1000, 64, 4, 32⟩
@[reducible] def SD_HYP_odd : Fld := ⟨0x10380, 0x1000, 4, 31, 16⟩
@[reducible] def SD_HYP_even : Fld := ⟨0x10380, 0x1000, 4, 15, 0⟩
/-- LEG_CTL (R253, 08_bridge_legs_and_trips.md). -/
def LEG_CTL : Reg := ⟨0x10400, 0x1000, 64, 0, 1⟩
@[reducible] def LEG_CTL_lull_brake : Fld := ⟨0x10400, 0x1000, 0, 31, 31⟩
@[reducible] def LEG_CTL_win_off : Fld := ⟨0x10400, 0x1000, 0, 30, 30⟩
@[reducible] def LEG_CTL_precharge : Fld := ⟨0x10400, 0x1000, 0, 15, 8⟩
/-- LEG_DEAD (R251, 08_bridge_legs_and_trips.md). -/
def LEG_DEAD : Reg := ⟨0x10404, 0x1000, 64, 0, 1⟩
@[reducible] def LEG_DEAD_dead_hl : Fld := ⟨0x10404, 0x1000, 0, 31, 23⟩
@[reducible] def LEG_DEAD_dead_lh : Fld := ⟨0x10404, 0x1000, 0, 22, 14⟩
@[reducible] def LEG_DEAD_min_pulse : Fld := ⟨0x10404, 0x1000, 0, 13, 8⟩
/-- PWM_PERIOD (R255, 08_bridge_legs_and_trips.md). -/
def PWM_PERIOD : Reg := ⟨0x10408, 0x1000, 64, 0, 1⟩
@[reducible] def PWM_PERIOD_period : Fld := ⟨0x10408, 0x1000, 0, 15, 0⟩
/-- PWM_PHASE (R255, 08_bridge_legs_and_trips.md). -/
def PWM_PHASE : Reg := ⟨0x1040C, 0x1000, 64, 0, 1⟩
@[reducible] def PWM_PHASE_phase : Fld := ⟨0x1040C, 0x1000, 0, 15, 0⟩
/-- LEG_OVR (R259, 08_bridge_legs_and_trips.md). -/
def LEG_OVR : Reg := ⟨0x10410, 0x1000, 64, 0, 1⟩
@[reducible] def LEG_OVR_enable : Fld := ⟨0x10410, 0x1000, 0, 31, 31⟩
@[reducible] def LEG_OVR_gates : Fld := ⟨0x10410, 0x1000, 0, 7, 0⟩
/-- LEG_STATUS (R260, 08_bridge_legs_and_trips.md). -/
def LEG_STATUS : Reg := ⟨0x10414, 0x1000, 64, 0, 1⟩
@[reducible] def LEG_STATUS_gates : Fld := ⟨0x10414, 0x1000, 0, 23, 16⟩
@[reducible] def LEG_STATUS_brake_engaged : Fld := ⟨0x10414, 0x1000, 0, 15, 15⟩
@[reducible] def LEG_STATUS_held_off : Fld := ⟨0x10414, 0x1000, 0, 14, 14⟩
@[reducible] def LEG_STATUS_cfg_refused : Fld := ⟨0x10414, 0x1000, 0, 13, 13⟩
@[reducible] def LEG_STATUS_precharging : Fld := ⟨0x10414, 0x1000, 0, 12, 12⟩
@[reducible] def LEG_STATUS_st_blocked : Fld := ⟨0x10414, 0x1000, 0, 11, 8⟩
@[reducible] def LEG_STATUS_cs_leg : Fld := ⟨0x10414, 0x1000, 0, 7, 7⟩
@[reducible] def LEG_STATUS_cs_tile : Fld := ⟨0x10414, 0x1000, 0, 6, 6⟩
/-- LEG_TRIP (R269, 08_bridge_legs_and_trips.md). -/
def LEG_TRIP : Reg := ⟨0x10418, 0x1000, 64, 0, 1⟩
@[reducible] def LEG_TRIP_en_w1 : Fld := ⟨0x10418, 0x1000, 0, 31, 31⟩
@[reducible] def LEG_TRIP_en_w0 : Fld := ⟨0x10418, 0x1000, 0, 30, 30⟩
@[reducible] def LEG_TRIP_blank : Fld := ⟨0x10418, 0x1000, 0, 29, 22⟩
@[reducible] def LEG_TRIP_qual : Fld := ⟨0x10418, 0x1000, 0, 21, 14⟩
@[reducible] def LEG_TRIP_sticky_w1 : Fld := ⟨0x10418, 0x1000, 0, 9, 9⟩
@[reducible] def LEG_TRIP_sticky_w0 : Fld := ⟨0x10418, 0x1000, 0, 8, 8⟩
@[reducible] def LEG_TRIP_active_w1 : Fld := ⟨0x10418, 0x1000, 0, 7, 7⟩
@[reducible] def LEG_TRIP_active_w0 : Fld := ⟨0x10418, 0x1000, 0, 6, 6⟩
/-- CLEAR_REFUSED (R280, 08_bridge_legs_and_trips.md). -/
def CLEAR_REFUSED : Reg := ⟨0x1041C, 0x1000, 64, 0, 1⟩
@[reducible] def CLEAR_REFUSED_last_lull : Fld := ⟨0x1041C, 0x1000, 0, 31, 24⟩
@[reducible] def CLEAR_REFUSED_last_win : Fld := ⟨0x1041C, 0x1000, 0, 23, 22⟩
@[reducible] def CLEAR_REFUSED_count : Fld := ⟨0x1041C, 0x1000, 0, 15, 0⟩
/-- LULL_CLR (R279, 08_bridge_legs_and_trips.md). -/
def LULL_CLR : Reg := ⟨0x10420, 0x1000, 64, 0, 1⟩
@[reducible] def LULL_CLR_clr : Fld := ⟨0x10420, 0x1000, 0, 23, 18⟩
/-- ADC_CTL (R303, 09_converters.md). -/
def ADC_CTL : Reg := ⟨0x10500, 0x1000, 64, 0, 1⟩
@[reducible] def ADC_CTL_cal_en : Fld := ⟨0x10500, 0x1000, 0, 31, 31⟩
@[reducible] def ADC_CTL_f_idle : Fld := ⟨0x10500, 0x1000, 0, 30, 30⟩
@[reducible] def ADC_CTL_rot_ms : Fld := ⟨0x10500, 0x1000, 0, 27, 20⟩
/-- ADC_REF (R303, 09_converters.md). -/
def ADC_REF : Reg := ⟨0x10504, 0x1000, 64, 0, 1⟩
@[reducible] def ADC_REF_f_ref : Fld := ⟨0x10504, 0x1000, 0, 31, 31⟩
@[reducible] def ADC_REF_fallback : Fld := ⟨0x10504, 0x1000, 0, 7, 7⟩
@[reducible] def ADC_REF_vdda_ok : Fld := ⟨0x10504, 0x1000, 0, 3, 3⟩
@[reducible] def ADC_REF_vref_ok : Fld := ⟨0x10504, 0x1000, 0, 2, 2⟩
@[reducible] def ADC_REF_int_ok : Fld := ⟨0x10504, 0x1000, 0, 1, 1⟩
@[reducible] def ADC_REF_f_settled : Fld := ⟨0x10504, 0x1000, 0, 0, 0⟩
/-- ADC_SLICES (R303, 09_converters.md). -/
def ADC_SLICES : Reg := ⟨0x10508, 0x1000, 64, 0, 1⟩
@[reducible] def ADC_SLICES_spare_f0 : Fld := ⟨0x10508, 0x1000, 0, 31, 29⟩
@[reducible] def ADC_SLICES_spare_f1 : Fld := ⟨0x10508, 0x1000, 0, 28, 26⟩
@[reducible] def ADC_SLICES_spare_scan : Fld := ⟨0x10508, 0x1000, 0, 25, 24⟩
@[reducible] def ADC_SLICES_failed_f0 : Fld := ⟨0x10508, 0x1000, 0, 12, 8⟩
@[reducible] def ADC_SLICES_failed_f1 : Fld := ⟨0x10508, 0x1000, 0, 7, 3⟩
@[reducible] def ADC_SLICES_failed_scan : Fld := ⟨0x10508, 0x1000, 0, 2, 0⟩
/-- ADC_CAL_ADDR (R303, 09_converters.md). -/
def ADC_CAL_ADDR : Reg := ⟨0x1050C, 0x1000, 64, 0, 1⟩
@[reducible] def ADC_CAL_ADDR_coeff : Fld := ⟨0x1050C, 0x1000, 0, 5, 4⟩
@[reducible] def ADC_CAL_ADDR_slice : Fld := ⟨0x1050C, 0x1000, 0, 3, 0⟩
/-- ADC_CAL_DATA (R303, 09_converters.md). -/
def ADC_CAL_DATA : Reg := ⟨0x10510, 0x1000, 64, 0, 1⟩
@[reducible] def ADC_CAL_DATA_value : Fld := ⟨0x10510, 0x1000, 0, 31, 0⟩
/-- ADC_STATUS (R303, 09_converters.md). -/
def ADC_STATUS : Reg := ⟨0x10514, 0x1000, 64, 0, 1⟩
@[reducible] def ADC_STATUS_rate_60 : Fld := ⟨0x10514, 0x1000, 0, 31, 31⟩
@[reducible] def ADC_STATUS_scan_20 : Fld := ⟨0x10514, 0x1000, 0, 30, 30⟩
@[reducible] def ADC_STATUS_scan_lost : Fld := ⟨0x10514, 0x1000, 0, 29, 29⟩
@[reducible] def ADC_STATUS_cal_stop_f : Fld := ⟨0x10514, 0x1000, 0, 28, 28⟩
@[reducible] def ADC_STATUS_cal_stop_scan : Fld := ⟨0x10514, 0x1000, 0, 27, 27⟩
@[reducible] def ADC_STATUS_scan_busy : Fld := ⟨0x10514, 0x1000, 0, 26, 26⟩
@[reducible] def ADC_STATUS_alarm_armed : Fld := ⟨0x10514, 0x1000, 0, 25, 25⟩
@[reducible] def ADC_STATUS_drops : Fld := ⟨0x10514, 0x1000, 0, 23, 16⟩
@[reducible] def ADC_STATUS_lost : Fld := ⟨0x10514, 0x1000, 0, 15, 8⟩
/-- ADC_EVENTS (R303, 09_converters.md). -/
def ADC_EVENTS : Reg := ⟨0x10518, 0x1000, 64, 0, 1⟩
@[reducible] def ADC_EVENTS_late : Fld := ⟨0x10518, 0x1000, 0, 6, 6⟩
@[reducible] def ADC_EVENTS_ref_lost : Fld := ⟨0x10518, 0x1000, 0, 5, 5⟩
@[reducible] def ADC_EVENTS_slice_failed : Fld := ⟨0x10518, 0x1000, 0, 4, 4⟩
@[reducible] def ADC_EVENTS_over_range_f : Fld := ⟨0x10518, 0x1000, 0, 3, 3⟩
@[reducible] def ADC_EVENTS_over_range_scan : Fld := ⟨0x10518, 0x1000, 0, 2, 2⟩
@[reducible] def ADC_EVENTS_cfg_refused : Fld := ⟨0x10518, 0x1000, 0, 1, 1⟩
/-- ADC_SNAP (R314, 09_converters.md). -/
def ADC_SNAP : Reg := ⟨0x1051C, 0x1000, 64, 0, 1⟩
@[reducible] def ADC_SNAP_snap_b : Fld := ⟨0x1051C, 0x1000, 0, 31, 16⟩
@[reducible] def ADC_SNAP_snap_a : Fld := ⟨0x1051C, 0x1000, 0, 15, 0⟩
/-- ADC_SNAP_TIME (R314, 09_converters.md). -/
def ADC_SNAP_TIME : Reg := ⟨0x10520, 0x1000, 64, 0, 1⟩
@[reducible] def ADC_SNAP_TIME_time : Fld := ⟨0x10520, 0x1000, 0, 31, 0⟩
/-- WAVE_CTL (R319, 09_converters.md). -/
def WAVE_CTL : Reg := ⟨0x10524, 0x1000, 64, 0, 1⟩
@[reducible] def WAVE_CTL_enable : Fld := ⟨0x10524, 0x1000, 0, 31, 31⟩
@[reducible] def WAVE_CTL_jring : Fld := ⟨0x10524, 0x1000, 0, 30, 29⟩
/-- SCAN_MASK (R315, 09_converters.md). -/
def SCAN_MASK : Reg := ⟨0x10530, 0x1000, 64, 0, 1⟩
@[reducible] def SCAN_MASK_dac_sel : Fld := ⟨0x10530, 0x1000, 0, 19, 16⟩
@[reducible] def SCAN_MASK_mask : Fld := ⟨0x10530, 0x1000, 0, 15, 0⟩
/-- SCAN_REFSEL (R315, 09_converters.md). -/
def SCAN_REFSEL : Reg := ⟨0x10534, 0x1000, 64, 0, 1⟩
@[reducible] def SCAN_REFSEL_refs : Fld := ⟨0x10534, 0x1000, 0, 31, 0⟩
/-- SCAN_AVG (R315, 09_converters.md). -/
def SCAN_AVG : Reg := ⟨0x10538, 0x1000, 64, 0, 1⟩
@[reducible] def SCAN_AVG_settle : Fld := ⟨0x10538, 0x1000, 0, 23, 20⟩
@[reducible] def SCAN_AVG_shift : Fld := ⟨0x10538, 0x1000, 0, 19, 16⟩
@[reducible] def SCAN_AVG_navg : Fld := ⟨0x10538, 0x1000, 0, 7, 0⟩
/-- SCAN_TRIG (R310, 09_converters.md). -/
def SCAN_TRIG : Reg := ⟨0x1053C, 0x1000, 64, 0, 1⟩
@[reducible] def SCAN_TRIG_src : Fld := ⟨0x1053C, 0x1000, 0, 31, 29⟩
@[reducible] def SCAN_TRIG_div : Fld := ⟨0x1053C, 0x1000, 0, 23, 16⟩
@[reducible] def SCAN_TRIG_delay : Fld := ⟨0x1053C, 0x1000, 0, 15, 0⟩
/-- SCAN_ALARM_LO (R310, 09_converters.md). -/
def SCAN_ALARM_LO : Reg := ⟨0x10540, 0x1000, 64, 0, 1⟩
@[reducible] def SCAN_ALARM_LO_time_lo : Fld := ⟨0x10540, 0x1000, 0, 31, 0⟩
/-- SCAN_ALARM_HI (R310, 09_converters.md). -/
def SCAN_ALARM_HI : Reg := ⟨0x10544, 0x1000, 64, 0, 1⟩
@[reducible] def SCAN_ALARM_HI_time_hi : Fld := ⟨0x10544, 0x1000, 0, 31, 0⟩
/-- SCAN_ALARM_PER (R310, 09_converters.md). -/
def SCAN_ALARM_PER : Reg := ⟨0x10548, 0x1000, 64, 0, 1⟩
@[reducible] def SCAN_ALARM_PER_period : Fld := ⟨0x10548, 0x1000, 0, 31, 0⟩
/-- SCAN_CMD (R310, 09_converters.md). -/
def SCAN_CMD : Reg := ⟨0x1054C, 0x1000, 64, 0, 1⟩
@[reducible] def SCAN_CMD_go : Fld := ⟨0x1054C, 0x1000, 0, 31, 31⟩
@[reducible] def SCAN_CMD_disarm : Fld := ⟨0x1054C, 0x1000, 0, 30, 30⟩
/-- SCAN_BUF (R316, 09_converters.md). -/
def SCAN_BUF : Reg := ⟨0x10550, 0x1000, 64, 0, 1⟩
@[reducible] def SCAN_BUF_dma_en : Fld := ⟨0x10550, 0x1000, 0, 31, 31⟩
@[reducible] def SCAN_BUF_stop_full : Fld := ⟨0x10550, 0x1000, 0, 30, 30⟩
@[reducible] def SCAN_BUF_journal : Fld := ⟨0x10550, 0x1000, 0, 29, 29⟩
@[reducible] def SCAN_BUF_jring : Fld := ⟨0x10550, 0x1000, 0, 28, 27⟩
@[reducible] def SCAN_BUF_base : Fld := ⟨0x10550, 0x1000, 0, 23, 12⟩
@[reducible] def SCAN_BUF_len : Fld := ⟨0x10550, 0x1000, 0, 8, 0⟩
/-- SCAN_WPTR (R316, 09_converters.md). -/
def SCAN_WPTR : Reg := ⟨0x10554, 0x1000, 64, 0, 1⟩
@[reducible] def SCAN_WPTR_wrap : Fld := ⟨0x10554, 0x1000, 0, 31, 31⟩
@[reducible] def SCAN_WPTR_idx : Fld := ⟨0x10554, 0x1000, 0, 12, 0⟩
/-- SCAN_RPTR (R316, 09_converters.md). -/
def SCAN_RPTR : Reg := ⟨0x10558, 0x1000, 64, 0, 1⟩
@[reducible] def SCAN_RPTR_wrap : Fld := ⟨0x10558, 0x1000, 0, 31, 31⟩
@[reducible] def SCAN_RPTR_idx : Fld := ⟨0x10558, 0x1000, 0, 12, 0⟩
/-- VM_SCALE (R315, 09_converters.md). -/
def VM_SCALE : Reg := ⟨0x1055C, 0x1000, 64, 0, 1⟩
@[reducible] def VM_SCALE_vm_fs : Fld := ⟨0x1055C, 0x1000, 0, 15, 0⟩
/-- NTC_CFG (R315, 09_converters.md). -/
def NTC_CFG : Reg := ⟨0x10560, 0x1000, 64, 0, 1⟩
@[reducible] def NTC_CFG_beta : Fld := ⟨0x10560, 0x1000, 0, 31, 16⟩
@[reducible] def NTC_CFG_r_nom : Fld := ⟨0x10560, 0x1000, 0, 15, 0⟩
/-- NTC_RPU (R315, 09_converters.md). -/
def NTC_RPU : Reg := ⟨0x10564, 0x1000, 64, 0, 1⟩
@[reducible] def NTC_RPU_r_pu : Fld := ⟨0x10564, 0x1000, 0, 15, 0⟩
/-- ADC_VM (R315, 09_converters.md). -/
def ADC_VM : Reg := ⟨0x10568, 0x1000, 64, 0, 1⟩
@[reducible] def ADC_VM_vm_mv : Fld := ⟨0x10568, 0x1000, 0, 31, 0⟩
/-- ADC_NTC (R315, 09_converters.md). -/
def ADC_NTC : Reg := ⟨0x1056C, 0x1000, 64, 0, 1⟩
@[reducible] def ADC_NTC_t_ntc : Fld := ⟨0x1056C, 0x1000, 0, 15, 0⟩
/-- ADC_TEMP (R315, 09_converters.md). -/
def ADC_TEMP : Reg := ⟨0x10570, 0x1000, 64, 0, 1⟩
@[reducible] def ADC_TEMP_t_die : Fld := ⟨0x10570, 0x1000, 0, 15, 0⟩
/-- ADC_RES (R315, 09_converters.md). -/
def ADC_RES : Reg := ⟨0x10580, 0x1000, 64, 4, 16⟩
@[reducible] def ADC_RES_fresh : Fld := ⟨0x10580, 0x1000, 4, 31, 31⟩
@[reducible] def ADC_RES_unsettled : Fld := ⟨0x10580, 0x1000, 4, 30, 30⟩
@[reducible] def ADC_RES_degraded : Fld := ⟨0x10580, 0x1000, 4, 29, 29⟩
@[reducible] def ADC_RES_over_range : Fld := ⟨0x10580, 0x1000, 4, 28, 28⟩
@[reducible] def ADC_RES_value : Fld := ⟨0x10580, 0x1000, 4, 23, 0⟩
/-- WIN_CFG (R340, 10_window_monitors.md). -/
def WIN_CFG : Reg := ⟨0x10600, 0x1000, 64, 16, 6⟩
@[reducible] def WIN_CFG_cond : Fld := ⟨0x10600, 0x1000, 16, 31, 30⟩
@[reducible] def WIN_CFG_clr : Fld := ⟨0x10600, 0x1000, 16, 29, 28⟩
@[reducible] def WIN_CFG_cap_en : Fld := ⟨0x10600, 0x1000, 16, 27, 27⟩
@[reducible] def WIN_CFG_irq_en : Fld := ⟨0x10600, 0x1000, 16, 26, 26⟩
@[reducible] def WIN_CFG_wake_en : Fld := ⟨0x10600, 0x1000, 16, 25, 25⟩
@[reducible] def WIN_CFG_test : Fld := ⟨0x10600, 0x1000, 16, 24, 23⟩
@[reducible] def WIN_CFG_hyst : Fld := ⟨0x10600, 0x1000, 16, 22, 21⟩
@[reducible] def WIN_CFG_input : Fld := ⟨0x10600, 0x1000, 16, 20, 19⟩
@[reducible] def WIN_CFG_blank_en : Fld := ⟨0x10600, 0x1000, 16, 18, 18⟩
@[reducible] def WIN_CFG_blank_w : Fld := ⟨0x10600, 0x1000, 16, 17, 10⟩
/-- WIN_THR (R340, 10_window_monitors.md). -/
def WIN_THR : Reg := ⟨0x10604, 0x1000, 64, 16, 6⟩
@[reducible] def WIN_THR_upper : Fld := ⟨0x10604, 0x1000, 16, 31, 16⟩
@[reducible] def WIN_THR_lower : Fld := ⟨0x10604, 0x1000, 16, 15, 0⟩
/-- WIN_CAP (R340, 10_window_monitors.md). -/
def WIN_CAP : Reg := ⟨0x10608, 0x1000, 64, 16, 6⟩
@[reducible] def WIN_CAP_time : Fld := ⟨0x10608, 0x1000, 16, 31, 0⟩
/-- WIN_STATUS (R341, 10_window_monitors.md). -/
def WIN_STATUS : Reg := ⟨0x10660, 0x1000, 64, 0, 1⟩
@[reducible] def WIN_STATUS_latched : Fld := ⟨0x10660, 0x1000, 0, 29, 24⟩
@[reducible] def WIN_STATUS_raw : Fld := ⟨0x10660, 0x1000, 0, 23, 12⟩
@[reducible] def WIN_STATUS_cap_valid : Fld := ⟨0x10660, 0x1000, 0, 11, 6⟩
@[reducible] def WIN_STATUS_push_owned : Fld := ⟨0x10660, 0x1000, 0, 5, 5⟩
@[reducible] def WIN_STATUS_low_power : Fld := ⟨0x10660, 0x1000, 0, 4, 4⟩
@[reducible] def WIN_STATUS_cfg_refused : Fld := ⟨0x10660, 0x1000, 0, 3, 3⟩
/-- WIN_DROPPED (R341, 10_window_monitors.md). -/
def WIN_DROPPED : Reg := ⟨0x10664, 0x1000, 64, 0, 1⟩
@[reducible] def WIN_DROPPED_count : Fld := ⟨0x10664, 0x1000, 0, 15, 0⟩
/-- HIKER_CTL (R417, 13_hiker_cores.md). -/
def HIKER_CTL : Reg := ⟨0x10700, 0x1000, 64, 0, 1⟩
@[reducible] def HIKER_CTL_start : Fld := ⟨0x10700, 0x1000, 0, 31, 31⟩
@[reducible] def HIKER_CTL_stop : Fld := ⟨0x10700, 0x1000, 0, 30, 30⟩
@[reducible] def HIKER_CTL_reset : Fld := ⟨0x10700, 0x1000, 0, 29, 29⟩
@[reducible] def HIKER_CTL_src : Fld := ⟨0x10700, 0x1000, 0, 28, 27⟩
@[reducible] def HIKER_CTL_autostart : Fld := ⟨0x10700, 0x1000, 0, 26, 26⟩
@[reducible] def HIKER_CTL_image : Fld := ⟨0x10700, 0x1000, 0, 7, 0⟩
/-- HIKER_STATUS (R417, 13_hiker_cores.md). -/
def HIKER_STATUS : Reg := ⟨0x10704, 0x1000, 64, 0, 1⟩
@[reducible] def HIKER_STATUS_state : Fld := ⟨0x10704, 0x1000, 0, 31, 29⟩
@[reducible] def HIKER_STATUS_mode : Fld := ⟨0x10704, 0x1000, 0, 28, 27⟩
@[reducible] def HIKER_STATUS_lock_broken : Fld := ⟨0x10704, 0x1000, 0, 26, 26⟩
@[reducible] def HIKER_STATUS_in_lock : Fld := ⟨0x10704, 0x1000, 0, 25, 25⟩
@[reducible] def HIKER_STATUS_halt_pending : Fld := ⟨0x10704, 0x1000, 0, 24, 24⟩
@[reducible] def HIKER_STATUS_load_error : Fld := ⟨0x10704, 0x1000, 0, 23, 16⟩
/-- HIKER_PC (R417, 13_hiker_cores.md). -/
def HIKER_PC : Reg := ⟨0x10708, 0x1000, 64, 0, 1⟩
@[reducible] def HIKER_PC_pc : Fld := ⟨0x10708, 0x1000, 0, 31, 0⟩
/-- HIKER_EXC (R417, 13_hiker_cores.md). -/
def HIKER_EXC : Reg := ⟨0x1070C, 0x1000, 64, 0, 1⟩
@[reducible] def HIKER_EXC_cause : Fld := ⟨0x1070C, 0x1000, 0, 31, 24⟩
@[reducible] def HIKER_EXC_count : Fld := ⟨0x1070C, 0x1000, 0, 15, 0⟩
/-- HIKER_XIP (R417, 13_hiker_cores.md). -/
def HIKER_XIP : Reg := ⟨0x10710, 0x1000, 64, 0, 1⟩
@[reducible] def HIKER_XIP_offset : Fld := ⟨0x10710, 0x1000, 0, 27, 0⟩
/-- HIKER_IMAGE_ID (R417, 13_hiker_cores.md). -/
def HIKER_IMAGE_ID : Reg := ⟨0x10714, 0x1000, 64, 0, 1⟩
@[reducible] def HIKER_IMAGE_ID_id : Fld := ⟨0x10714, 0x1000, 0, 31, 0⟩
/-- HIKER_MBOX_TO (R417, 13_hiker_cores.md). -/
def HIKER_MBOX_TO : Reg := ⟨0x10720, 0x1000, 64, 4, 4⟩
@[reducible] def HIKER_MBOX_TO_word : Fld := ⟨0x10720, 0x1000, 4, 31, 0⟩
/-- HIKER_MBOX_FROM (R417, 13_hiker_cores.md). -/
def HIKER_MBOX_FROM : Reg := ⟨0x10730, 0x1000, 64, 4, 4⟩
@[reducible] def HIKER_MBOX_FROM_word : Fld := ⟨0x10730, 0x1000, 4, 31, 0⟩
/-- HIKER_MBOX_CTL (R417, 13_hiker_cores.md). -/
def HIKER_MBOX_CTL : Reg := ⟨0x10740, 0x1000, 64, 0, 1⟩
@[reducible] def HIKER_MBOX_CTL_to_full : Fld := ⟨0x10740, 0x1000, 0, 31, 31⟩
@[reducible] def HIKER_MBOX_CTL_from_full : Fld := ⟨0x10740, 0x1000, 0, 30, 30⟩
@[reducible] def HIKER_MBOX_CTL_from_ack : Fld := ⟨0x10740, 0x1000, 0, 29, 29⟩
@[reducible] def HIKER_MBOX_CTL_to_refused : Fld := ⟨0x10740, 0x1000, 0, 15, 0⟩
/-- FB_CTL (R210, 06_force_budget.md). -/
def FB_CTL : Reg := ⟨0x10800, 0x1000, 64, 0, 1⟩
@[reducible] def FB_CTL_learn : Fld := ⟨0x10800, 0x1000, 0, 31, 31⟩
@[reducible] def FB_CTL_learn_abort : Fld := ⟨0x10800, 0x1000, 0, 30, 30⟩
@[reducible] def FB_CTL_learn_dir : Fld := ⟨0x10800, 0x1000, 0, 29, 28⟩
@[reducible] def FB_CTL_adapt : Fld := ⟨0x10800, 0x1000, 0, 27, 27⟩
@[reducible] def FB_CTL_enable : Fld := ⟨0x10800, 0x1000, 0, 26, 26⟩
@[reducible] def FB_CTL_filt : Fld := ⟨0x10800, 0x1000, 0, 23, 20⟩
@[reducible] def FB_CTL_obs_cnt : Fld := ⟨0x10800, 0x1000, 0, 19, 16⟩
@[reducible] def FB_CTL_min_conf : Fld := ⟨0x10800, 0x1000, 0, 15, 8⟩
/-- FB_GEAR (R202, 06_force_budget.md). -/
def FB_GEAR : Reg := ⟨0x10804, 0x1000, 64, 0, 1⟩
@[reducible] def FB_GEAR_gear : Fld := ⟨0x10804, 0x1000, 0, 31, 0⟩
/-- FB_RADIUS (R202, 06_force_budget.md). -/
def FB_RADIUS : Reg := ⟨0x10808, 0x1000, 64, 0, 1⟩
@[reducible] def FB_RADIUS_radius : Fld := ⟨0x10808, 0x1000, 0, 31, 0⟩
/-- FB_INERTIA (R202, 06_force_budget.md). -/
def FB_INERTIA : Reg := ⟨0x1080C, 0x1000, 64, 0, 1⟩
@[reducible] def FB_INERTIA_inertia : Fld := ⟨0x1080C, 0x1000, 0, 31, 0⟩
/-- FB_MARGIN (R210, 06_force_budget.md). -/
def FB_MARGIN : Reg := ⟨0x10810, 0x1000, 64, 0, 1⟩
@[reducible] def FB_MARGIN_margin_pct : Fld := ⟨0x10810, 0x1000, 0, 31, 24⟩
@[reducible] def FB_MARGIN_margin_abs : Fld := ⟨0x10810, 0x1000, 0, 23, 0⟩
/-- FB_FCAP (R210, 06_force_budget.md). -/
def FB_FCAP : Reg := ⟨0x10814, 0x1000, 64, 0, 1⟩
@[reducible] def FB_FCAP_f_cap : Fld := ⟨0x10814, 0x1000, 0, 31, 0⟩
/-- FB_ECAP (R210, 06_force_budget.md). -/
def FB_ECAP : Reg := ⟨0x10818, 0x1000, 64, 0, 1⟩
@[reducible] def FB_ECAP_e_cap : Fld := ⟨0x10818, 0x1000, 0, 31, 0⟩
/-- FB_TRAVEL_LO (R205, 06_force_budget.md). -/
def FB_TRAVEL_LO : Reg := ⟨0x1081C, 0x1000, 64, 0, 1⟩
@[reducible] def FB_TRAVEL_LO_lo : Fld := ⟨0x1081C, 0x1000, 0, 31, 0⟩
/-- FB_TRAVEL_HI (R205, 06_force_budget.md). -/
def FB_TRAVEL_HI : Reg := ⟨0x10820, 0x1000, 64, 0, 1⟩
@[reducible] def FB_TRAVEL_HI_hi : Fld := ⟨0x10820, 0x1000, 0, 31, 0⟩
/-- FB_POLICY (R216, 06_force_budget.md). -/
def FB_POLICY : Reg := ⟨0x10824, 0x1000, 64, 0, 1⟩
@[reducible] def FB_POLICY_policy : Fld := ⟨0x10824, 0x1000, 0, 31, 29⟩
@[reducible] def FB_POLICY_final : Fld := ⟨0x10824, 0x1000, 0, 28, 26⟩
@[reducible] def FB_POLICY_retries : Fld := ⟨0x10824, 0x1000, 0, 25, 22⟩
@[reducible] def FB_POLICY_retry_wait : Fld := ⟨0x10824, 0x1000, 0, 21, 12⟩
@[reducible] def FB_POLICY_yield_code : Fld := ⟨0x10824, 0x1000, 0, 11, 0⟩
/-- FB_BACKOFF (R216, 06_force_budget.md). -/
def FB_BACKOFF : Reg := ⟨0x10828, 0x1000, 64, 0, 1⟩
@[reducible] def FB_BACKOFF_backoff : Fld := ⟨0x10828, 0x1000, 0, 31, 0⟩
/-- FB_STOP_ACC (R216, 06_force_budget.md). -/
def FB_STOP_ACC : Reg := ⟨0x1082C, 0x1000, 64, 0, 1⟩
@[reducible] def FB_STOP_ACC_acc_stop : Fld := ⟨0x1082C, 0x1000, 0, 31, 0⟩
/-- FB_STOP_JERK (R216, 06_force_budget.md). -/
def FB_STOP_JERK : Reg := ⟨0x10830, 0x1000, 64, 0, 1⟩
@[reducible] def FB_STOP_JERK_jerk_stop : Fld := ⟨0x10830, 0x1000, 0, 31, 0⟩
/-- FB_SLOW (R214, 06_force_budget.md). -/
def FB_SLOW : Reg := ⟨0x10834, 0x1000, 64, 0, 1⟩
@[reducible] def FB_SLOW_warn : Fld := ⟨0x10834, 0x1000, 0, 31, 24⟩
@[reducible] def FB_SLOW_slow : Fld := ⟨0x10834, 0x1000, 0, 23, 16⟩
@[reducible] def FB_SLOW_blind_ms : Fld := ⟨0x10834, 0x1000, 0, 15, 8⟩
@[reducible] def FB_SLOW_blind_pct : Fld := ⟨0x10834, 0x1000, 0, 7, 0⟩
/-- FB_LOCK (R221, 06_force_budget.md). -/
def FB_LOCK : Reg := ⟨0x10838, 0x1000, 64, 0, 1⟩
@[reducible] def FB_LOCK_lock : Fld := ⟨0x10838, 0x1000, 0, 0, 0⟩
/-- FB_FORCE (R222, 06_force_budget.md). -/
def FB_FORCE : Reg := ⟨0x10840, 0x1000, 64, 0, 1⟩
@[reducible] def FB_FORCE_force : Fld := ⟨0x10840, 0x1000, 0, 31, 0⟩
/-- FB_ENERGY (R222, 06_force_budget.md). -/
def FB_ENERGY : Reg := ⟨0x10844, 0x1000, 64, 0, 1⟩
@[reducible] def FB_ENERGY_energy : Fld := ⟨0x10844, 0x1000, 0, 31, 0⟩
/-- FB_EXCESS (R684, 25_register_map.md). -/
def FB_EXCESS : Reg := ⟨0x10848, 0x1000, 64, 0, 1⟩
@[reducible] def FB_EXCESS_excess : Fld := ⟨0x10848, 0x1000, 0, 31, 0⟩
/-- FB_CEIL (R214, 06_force_budget.md). -/
def FB_CEIL : Reg := ⟨0x1084C, 0x1000, 64, 0, 1⟩
@[reducible] def FB_CEIL_ceil : Fld := ⟨0x1084C, 0x1000, 0, 31, 0⟩
/-- FB_STATUS (R222, 06_force_budget.md). -/
def FB_STATUS : Reg := ⟨0x10850, 0x1000, 64, 0, 1⟩
@[reducible] def FB_STATUS_bucket : Fld := ⟨0x10850, 0x1000, 0, 31, 24⟩
@[reducible] def FB_STATUS_learned_pos : Fld := ⟨0x10850, 0x1000, 0, 23, 23⟩
@[reducible] def FB_STATUS_learned_neg : Fld := ⟨0x10850, 0x1000, 0, 22, 22⟩
@[reducible] def FB_STATUS_learning_pos : Fld := ⟨0x10850, 0x1000, 0, 21, 21⟩
@[reducible] def FB_STATUS_learning_neg : Fld := ⟨0x10850, 0x1000, 0, 20, 20⟩
@[reducible] def FB_STATUS_profile_stale : Fld := ⟨0x10850, 0x1000, 0, 19, 19⟩
@[reducible] def FB_STATUS_ceil_energy : Fld := ⟨0x10850, 0x1000, 0, 18, 18⟩
@[reducible] def FB_STATUS_ceil_warn : Fld := ⟨0x10850, 0x1000, 0, 17, 17⟩
@[reducible] def FB_STATUS_ceil_blind : Fld := ⟨0x10850, 0x1000, 0, 16, 16⟩
@[reducible] def FB_STATUS_retries_used : Fld := ⟨0x10850, 0x1000, 0, 15, 12⟩
@[reducible] def FB_STATUS_breach_count : Fld := ⟨0x10850, 0x1000, 0, 11, 8⟩
@[reducible] def FB_STATUS_last_cause : Fld := ⟨0x10850, 0x1000, 0, 7, 5⟩
@[reducible] def FB_STATUS_suspended : Fld := ⟨0x10850, 0x1000, 0, 4, 4⟩
@[reducible] def FB_STATUS_yield_active : Fld := ⟨0x10850, 0x1000, 0, 3, 3⟩
@[reducible] def FB_STATUS_mech_invalid : Fld := ⟨0x10850, 0x1000, 0, 2, 2⟩
@[reducible] def FB_STATUS_policy_busy : Fld := ⟨0x10850, 0x1000, 0, 1, 1⟩
@[reducible] def FB_STATUS_assessed : Fld := ⟨0x10850, 0x1000, 0, 0, 0⟩
/-- FB_EVENTS (R223, 06_force_budget.md). -/
def FB_EVENTS : Reg := ⟨0x10854, 0x1000, 64, 0, 1⟩
@[reducible] def FB_EVENTS_push : Fld := ⟨0x10854, 0x1000, 0, 9, 9⟩
@[reducible] def FB_EVENTS_cap_hold : Fld := ⟨0x10854, 0x1000, 0, 8, 8⟩
@[reducible] def FB_EVENTS_gust : Fld := ⟨0x10854, 0x1000, 0, 7, 7⟩
@[reducible] def FB_EVENTS_profile_stale : Fld := ⟨0x10854, 0x1000, 0, 6, 6⟩
@[reducible] def FB_EVENTS_learn_failed : Fld := ⟨0x10854, 0x1000, 0, 5, 5⟩
@[reducible] def FB_EVENTS_learn_done : Fld := ⟨0x10854, 0x1000, 0, 4, 4⟩
@[reducible] def FB_EVENTS_blind : Fld := ⟨0x10854, 0x1000, 0, 3, 3⟩
@[reducible] def FB_EVENTS_warn : Fld := ⟨0x10854, 0x1000, 0, 2, 2⟩
@[reducible] def FB_EVENTS_obstruction : Fld := ⟨0x10854, 0x1000, 0, 1, 1⟩
/-- FB_PROF_ADDR (R205, 06_force_budget.md). -/
def FB_PROF_ADDR : Reg := ⟨0x10858, 0x1000, 64, 0, 1⟩
@[reducible] def FB_PROF_ADDR_index : Fld := ⟨0x10858, 0x1000, 0, 8, 0⟩
/-- FB_PROF_DATA (R205, 06_force_budget.md). -/
def FB_PROF_DATA : Reg := ⟨0x1085C, 0x1000, 64, 0, 1⟩
@[reducible] def FB_PROF_DATA_mean : Fld := ⟨0x1085C, 0x1000, 0, 31, 8⟩
@[reducible] def FB_PROF_DATA_count : Fld := ⟨0x1085C, 0x1000, 0, 7, 0⟩
/-- FB_PROF_INFO (R205, 06_force_budget.md). -/
def FB_PROF_INFO : Reg := ⟨0x10860, 0x1000, 64, 0, 1⟩
@[reducible] def FB_PROF_INFO_map_gen : Fld := ⟨0x10860, 0x1000, 0, 31, 0⟩
/-- GUST_CTL (R224, 06_force_budget.md). -/
def GUST_CTL : Reg := ⟨0x10880, 0x1000, 64, 0, 1⟩
@[reducible] def GUST_CTL_enable : Fld := ⟨0x10880, 0x1000, 0, 31, 31⟩
@[reducible] def GUST_CTL_in_hold : Fld := ⟨0x10880, 0x1000, 0, 30, 30⟩
@[reducible] def GUST_CTL_win : Fld := ⟨0x10880, 0x1000, 0, 29, 26⟩
@[reducible] def GUST_CTL_retract : Fld := ⟨0x10880, 0x1000, 0, 25, 24⟩
@[reducible] def GUST_CTL_hold_ms : Fld := ⟨0x10880, 0x1000, 0, 15, 0⟩
/-- GUST_THR (R224, 06_force_budget.md). -/
def GUST_THR : Reg := ⟨0x10884, 0x1000, 64, 0, 1⟩
@[reducible] def GUST_THR_thr : Fld := ⟨0x10884, 0x1000, 0, 31, 0⟩
/-- GUST_LEVEL (R224, 06_force_budget.md). -/
def GUST_LEVEL : Reg := ⟨0x10888, 0x1000, 64, 0, 1⟩
@[reducible] def GUST_LEVEL_level : Fld := ⟨0x10888, 0x1000, 0, 31, 0⟩
/-- GUST_STATUS (R224, 06_force_budget.md). -/
def GUST_STATUS : Reg := ⟨0x1088C, 0x1000, 64, 0, 1⟩
@[reducible] def GUST_STATUS_latched : Fld := ⟨0x1088C, 0x1000, 0, 31, 31⟩
@[reducible] def GUST_STATUS_refused : Fld := ⟨0x1088C, 0x1000, 0, 30, 30⟩
@[reducible] def GUST_STATUS_samples : Fld := ⟨0x1088C, 0x1000, 0, 10, 0⟩
/-- FB_SEG_ADDR (R228, 06_force_budget.md). -/
def FB_SEG_ADDR : Reg := ⟨0x10890, 0x1000, 64, 0, 1⟩
@[reducible] def FB_SEG_ADDR_slot : Fld := ⟨0x10890, 0x1000, 0, 4, 3⟩
@[reducible] def FB_SEG_ADDR_word : Fld := ⟨0x10890, 0x1000, 0, 2, 0⟩
/-- FB_SEG_DATA (R228, 06_force_budget.md). -/
def FB_SEG_DATA : Reg := ⟨0x10894, 0x1000, 64, 0, 1⟩
@[reducible] def FB_SEG_DATA_word : Fld := ⟨0x10894, 0x1000, 0, 31, 0⟩
/-- PUSH_CTL (R229, 06_force_budget.md). -/
def PUSH_CTL : Reg := ⟨0x10898, 0x1000, 64, 0, 1⟩
@[reducible] def PUSH_CTL_enable : Fld := ⟨0x10898, 0x1000, 0, 31, 31⟩
@[reducible] def PUSH_CTL_place : Fld := ⟨0x10898, 0x1000, 0, 30, 30⟩
@[reducible] def PUSH_CTL_dir : Fld := ⟨0x10898, 0x1000, 0, 29, 28⟩
@[reducible] def PUSH_CTL_periods : Fld := ⟨0x10898, 0x1000, 0, 27, 24⟩
@[reducible] def PUSH_CTL_thr_mv : Fld := ⟨0x10898, 0x1000, 0, 9, 0⟩

/-- Rows of global block 0x0000 (R681), part 1. -/
def rows0_1q : List RegRow := [
  ⟨DEV_ID, .constant, false, [⟨31, 16, .ro, 0x6400⟩, ⟨15, 8, .ro, 0x54⟩, ⟨7, 0, .ro, 0x1⟩]⟩,
  ⟨DEV_PCI, .constant, false, [⟨31, 16, .ro, 0x6400⟩, ⟨15, 0, .ro, 0x1F9C⟩]⟩,
  ⟨DEV_SERIAL_LO, .constant, false, [⟨31, 0, .ro, 0x0⟩]⟩,
  ⟨DEV_SERIAL_HI, .constant, false, [⟨31, 0, .ro, 0x0⟩]⟩,
  ⟨DEV_IDCODE, .constant, false, [⟨31, 0, .ro, 0x1640056F⟩]⟩,
  ⟨DAWN_STATUS, .device, false, [⟨31, 29, .ro, 0x0⟩, ⟨28, 26, .ro, 0x0⟩, ⟨25, 24, .ro, 0x0⟩, ⟨23, 20, .ro, 0x0⟩, ⟨19, 0, .ro, 0x0⟩]⟩,
  ⟨DAWN_STRAPS, .device, false, [⟨4, 4, .ro, 0x0⟩, ⟨3, 3, .ro, 0x0⟩, ⟨2, 2, .ro, 0x0⟩, ⟨1, 0, .ro, 0x0⟩]⟩,
  ⟨DEVICE_RESET, .device, false, [⟨31, 0, .wo, 0x0⟩]⟩,
  ⟨SRAM_PAGE, .device, false, [⟨7, 0, .rw, 0xFF⟩]⟩,
  ⟨PARAM_SAVE, .device, false, [⟨31, 31, .sc, 0x0⟩, ⟨30, 30, .ro, 0x0⟩, ⟨23, 16, .ro, 0x0⟩, ⟨7, 0, .ro, 0x0⟩]⟩,
  ⟨BAR_ERR, .device, false, [⟨31, 24, .rc, 0x0⟩, ⟨23, 20, .ro, 0x0⟩, ⟨19, 0, .ro, 0x0⟩]⟩]
/-- Rows of global block 0x1000 (R681), part 1. -/
def rows1_1q : List RegRow := [
  ⟨PWR_CTL, .alwaysOn, true, [⟨31, 31, .sc, 0x0⟩, ⟨30, 28, .rw, 0x0⟩, ⟨27, 27, .rw, 0x0⟩, ⟨26, 26, .sc, 0x0⟩, ⟨15, 0, .rw, 0x3E8⟩]⟩,
  ⟨PWR_STATUS, .alwaysOn, false, [⟨31, 29, .ro, 0x0⟩, ⟨28, 28, .ro, 0x0⟩, ⟨27, 27, .ro, 0x0⟩, ⟨26, 26, .ro, 0x0⟩, ⟨23, 16, .ro, 0x0⟩, ⟨15, 0, .rc, 0x0⟩]⟩,
  ⟨WAKE_EN, .alwaysOn, true, [⟨6, 0, .rw, 0x11⟩]⟩,
  ⟨WAKE_CAUSE, .alwaysOn, false, [⟨6, 0, .w1c, 0x0⟩]⟩,
  ⟨LK_ALARM_LO, .alwaysOn, false, [⟨31, 0, .rw, 0x0⟩]⟩,
  ⟨LK_ALARM_HI, .alwaysOn, false, [⟨31, 0, .rw, 0x0⟩]⟩,
  ⟨DUSK_STATUS, .alwaysOn, false, [⟨31, 24, .ro, 0x0⟩, ⟨23, 20, .ro, 0x0⟩, ⟨19, 0, .ro, 0x0⟩]⟩,
  ⟨DUSK_CFG, .alwaysOn, true, [⟨31, 31, .rwl, 0x0⟩, ⟨30, 30, .rwl, 0x1⟩, ⟨7, 0, .rwl, 0xA⟩]⟩,
  ⟨XTAL_STATUS, .alwaysOn, false, [⟨31, 31, .ro, 0x0⟩, ⟨30, 30, .ro, 0x0⟩, ⟨29, 29, .ro, 0x0⟩]⟩]
/-- Rows of global block 0x2000 (R681), part 1. -/
def rows2_1q : List RegRow := [
  ⟨CLK_STATUS, .device, false, [⟨10, 10, .w1c, 0x0⟩, ⟨9, 9, .ro, 0x0⟩, ⟨8, 5, .ro, 0x0⟩, ⟨4, 4, .ro, 0x0⟩, ⟨3, 0, .ro, 0x0⟩]⟩]
/-- Rows of global block 0x3000 (R681), part 1. -/
def rows3_1q : List RegRow := [
  ⟨CANOPY_STATUS, .device, false, [⟨31, 30, .ro, 0x0⟩, ⟨29, 29, .ro, 0x0⟩, ⟨28, 28, .ro, 0x0⟩, ⟨27, 27, .ro, 0x0⟩, ⟨26, 26, .ro, 0x0⟩, ⟨25, 25, .ro, 0x0⟩, ⟨24, 24, .ro, 0x0⟩, ⟨23, 23, .ro, 0x0⟩, ⟨22, 20, .ro, 0x0⟩]⟩,
  ⟨CANOPY_MISMATCH, .device, false, [⟨31, 28, .ro, 0x0⟩, ⟨27, 0, .ro, 0x0⟩]⟩,
  ⟨CANOPY_SELFTEST, .device, false, [⟨31, 0, .ro, 0x0⟩]⟩,
  ⟨CANOPY_ECC, .device, false, [⟨31, 16, .rc, 0x0⟩, ⟨15, 0, .rc, 0x0⟩]⟩,
  ⟨CANOPY_FW, .device, false, [⟨31, 0, .ro, 0x0⟩]⟩,
  ⟨CANOPY_FW_ID, .device, false, [⟨31, 0, .ro, 0x0⟩]⟩,
  ⟨CMB_TO, .device, true, [⟨31, 0, .rw, 0x0⟩]⟩,
  ⟨CMB_FROM, .device, false, [⟨31, 0, .ro, 0x0⟩]⟩,
  ⟨CMB_CTL, .device, false, [⟨31, 31, .ro, 0x0⟩, ⟨30, 30, .ro, 0x0⟩, ⟨29, 29, .sc, 0x0⟩, ⟨15, 0, .rc, 0x0⟩]⟩,
  ⟨SAFE_ADDR, .device, false, [⟨8, 0, .rw, 0x0⟩]⟩,
  ⟨SAFE_DATA, .device, false, [⟨31, 0, .ro, 0x0⟩]⟩,
  ⟨VETO_LO, .device, false, [⟨31, 0, .ro, 0x0⟩]⟩,
  ⟨VETO_HI, .device, false, [⟨31, 0, .ro, 0x0⟩]⟩,
  ⟨CANOPY_KICK, .device, false, [⟨31, 0, .wo, 0x0⟩]⟩,
  ⟨SPLIT_OWN_LO, .device, false, [⟨31, 0, .ro, 0x0⟩]⟩,
  ⟨SPLIT_OWN_HI, .device, false, [⟨31, 0, .ro, 0x0⟩]⟩,
  ⟨GOV_CAP, .device, true, [⟨15, 0, .rw, 0xFFFF⟩]⟩,
  ⟨GOV_COST, .device, true, [⟨31, 16, .rw, 0xC8⟩, ⟨15, 0, .rw, 0x32⟩]⟩,
  ⟨GOV_PRIO, .device, true, [⟨31, 0, .rw, 0x11111111⟩]⟩,
  ⟨GOV_GRANT_LO, .device, false, [⟨31, 0, .ro, 0x0⟩]⟩,
  ⟨GOV_GRANT_HI, .device, false, [⟨31, 0, .ro, 0x0⟩]⟩,
  ⟨GOV_REQ_LO, .device, false, [⟨31, 0, .ro, 0x0⟩]⟩,
  ⟨GOV_REQ_HI, .device, false, [⟨31, 0, .ro, 0x0⟩]⟩,
  ⟨GOV_STATUS, .device, false, [⟨31, 24, .ro, 0x0⟩, ⟨23, 16, .ro, 0x0⟩, ⟨15, 0, .rc, 0x0⟩]⟩,
  ⟨GOV_LEND, .device, false, [⟨31, 0, .ro, 0x0⟩]⟩]
/-- Rows of global block 0x4000 (R681), part 1. -/
def rows4_1q : List RegRow := [
  ⟨SQ_BASE_LO, .device, false, [⟨31, 0, .rw, 0x0⟩]⟩,
  ⟨SQ_BASE_HI, .device, false, [⟨31, 0, .rw, 0x0⟩]⟩,
  ⟨SQ_CFG, .device, false, [⟨31, 31, .rw, 0x0⟩, ⟨28, 24, .rw, 0x4⟩, ⟨21, 16, .rw, 0x0⟩, ⟨15, 12, .rw, 0x4⟩]⟩,
  ⟨SQ_BIND, .device, false, [⟨31, 30, .rw, 0x0⟩, ⟨21, 16, .rw, 0x0⟩, ⟨15, 0, .rw, 0x0⟩]⟩,
  ⟨SQ_HEAD, .device, false, [⟨16, 0, .ro, 0x0⟩]⟩,
  ⟨SQ_TAIL, .device, false, [⟨16, 0, .ro, 0x0⟩]⟩,
  ⟨SQ_STATUS, .device, false, [⟨31, 30, .ro, 0x0⟩, ⟨23, 16, .ro, 0x0⟩, ⟨15, 0, .ro, 0x0⟩]⟩]
/-- Rows of global block 0x5000 (R681), part 1. -/
def rows5_1q : List RegRow := [
  ⟨CQ_BASE_LO, .device, false, [⟨31, 0, .rw, 0x0⟩]⟩,
  ⟨CQ_BASE_HI, .device, false, [⟨31, 0, .rw, 0x0⟩]⟩,
  ⟨CQ_CFG, .device, false, [⟨31, 31, .rw, 0x0⟩, ⟨28, 24, .rw, 0x4⟩, ⟨21, 16, .rw, 0x0⟩, ⟨15, 8, .rw, 0x1⟩, ⟨7, 0, .rw, 0x0⟩]⟩,
  ⟨CQ_HEAD, .device, false, [⟨16, 0, .ro, 0x0⟩]⟩,
  ⟨CQ_TAIL, .device, false, [⟨16, 0, .ro, 0x0⟩]⟩,
  ⟨CQ_STATUS, .device, false, [⟨31, 30, .ro, 0x0⟩, ⟨23, 16, .ro, 0x0⟩, ⟨15, 0, .rc, 0x0⟩]⟩,
  ⟨EV_BASE_LO, .device, false, [⟨31, 0, .rw, 0x0⟩]⟩,
  ⟨EV_BASE_HI, .device, false, [⟨31, 0, .rw, 0x0⟩]⟩,
  ⟨EV_CFG, .device, false, [⟨31, 31, .rw, 0x0⟩, ⟨28, 24, .rw, 0x4⟩, ⟨21, 16, .rw, 0x0⟩, ⟨15, 8, .rw, 0x1⟩, ⟨7, 0, .rw, 0x0⟩]⟩,
  ⟨EV_CLASS, .device, false, [⟨15, 0, .rw, 0xFFFF⟩]⟩,
  ⟨EV_HEAD, .device, false, [⟨16, 0, .ro, 0x0⟩]⟩,
  ⟨EV_TAIL, .device, false, [⟨16, 0, .ro, 0x0⟩]⟩,
  ⟨EV_LOST, .device, false, [⟨31, 0, .rc, 0x0⟩]⟩,
  ⟨JR_BASE_LO, .device, false, [⟨31, 0, .rw, 0x0⟩]⟩,
  ⟨JR_BASE_HI, .device, false, [⟨31, 0, .rw, 0x0⟩]⟩,
  ⟨JR_CFG, .device, false, [⟨31, 31, .rw, 0x0⟩, ⟨29, 24, .rw, 0x10⟩, ⟨21, 16, .rw, 0x0⟩, ⟨5, 0, .rw, 0x14⟩]⟩,
  ⟨JR_HEAD_LO, .device, false, [⟨31, 0, .rw, 0x0⟩]⟩,
  ⟨JR_HEAD_HI, .device, false, [⟨20, 0, .rw, 0x0⟩]⟩,
  ⟨JR_TAIL_LO, .device, false, [⟨31, 0, .ro, 0x0⟩]⟩,
  ⟨JR_TAIL_HI, .device, false, [⟨20, 0, .ro, 0x0⟩]⟩,
  ⟨JR_LOST, .device, false, [⟨31, 0, .rc, 0x0⟩]⟩]
/-- Rows of global block 0x6000 (R681), part 1. -/
def rows6_1q : List RegRow := [
  ⟨HAMPER_CTL, .device, true, [⟨31, 30, .ro, 0x0⟩, ⟨21, 16, .rw, 0x0⟩, ⟨3, 0, .rw, 0x4⟩]⟩,
  ⟨HAMPER_STATUS, .device, false, [⟨28, 16, .ro, 0x0⟩, ⟨7, 0, .ro, 0x0⟩]⟩,
  ⟨HAMPER_JROUTE, .device, true, [⟨11, 11, .rw, 0x1⟩, ⟨10, 10, .rw, 0x0⟩, ⟨9, 9, .rw, 0x0⟩, ⟨5, 4, .rw, 0x0⟩, ⟨3, 2, .rw, 0x0⟩, ⟨1, 0, .rw, 0x0⟩]⟩,
  ⟨HAMPER_DB_BAD, .device, false, [⟨15, 0, .rc, 0x0⟩]⟩,
  ⟨HAMPER_WEIGHT, .device, true, [⟨31, 0, .rw, 0x11111111⟩]⟩]
/-- Rows of global block 0x7000 (R681), part 1. -/
def rows7_1q : List RegRow := [
  ⟨MB_DESC, .device, false, [⟨31, 0, .rw, 0x0⟩]⟩,
  ⟨MB_CTL, .device, false, [⟨31, 31, .sc, 0x0⟩, ⟨30, 30, .ro, 0x0⟩, ⟨29, 29, .rw, 0x1⟩]⟩,
  ⟨MB_CPL, .device, false, [⟨31, 0, .ro, 0x0⟩]⟩,
  ⟨MB_EVT, .device, false, [⟨31, 0, .ro, 0x0⟩]⟩,
  ⟨MB_STATUS, .device, false, [⟨31, 16, .ro, 0x0⟩, ⟨15, 0, .ro, 0x0⟩]⟩]
/-- Rows of global block 0x8000 (R681), part 1. -/
def rows8_1q : List RegRow := [
  ⟨USF_PCFG, .nightKept, true, [⟨31, 31, .rw, 0x1⟩, ⟨30, 29, .rw, 0x0⟩, ⟨28, 28, .rw, 0x0⟩, ⟨27, 27, .rw, 0x0⟩, ⟨15, 0, .rwl, 0x0⟩]⟩,
  ⟨USF_PSTATUS, .device, false, [⟨31, 29, .ro, 0x0⟩, ⟨28, 28, .ro, 0x0⟩, ⟨27, 27, .ro, 0x0⟩, ⟨26, 26, .ro, 0x0⟩, ⟨25, 25, .ro, 0x0⟩, ⟨24, 24, .ro, 0x0⟩, ⟨23, 16, .ro, 0x0⟩, ⟨15, 14, .ro, 0x0⟩, ⟨13, 13, .ro, 0x0⟩]⟩,
  ⟨USF_PEER_LO, .device, false, [⟨31, 0, .ro, 0x0⟩]⟩,
  ⟨USF_PEER_HI, .device, false, [⟨31, 0, .ro, 0x0⟩]⟩,
  ⟨USF_RXCNT, .device, false, [⟨31, 0, .rc, 0x0⟩]⟩,
  ⟨USF_TXCNT, .device, false, [⟨31, 0, .rc, 0x0⟩]⟩,
  ⟨USF_ERR, .device, false, [⟨31, 24, .rc, 0x0⟩, ⟨23, 16, .rc, 0x0⟩, ⟨15, 8, .rc, 0x0⟩, ⟨7, 0, .rc, 0x0⟩]⟩,
  ⟨SFP_CMD, .device, false, [⟨31, 31, .sc, 0x0⟩, ⟨30, 30, .ro, 0x0⟩, ⟨29, 29, .w1c, 0x0⟩, ⟨28, 28, .rw, 0x0⟩, ⟨23, 16, .rw, 0xA0⟩, ⟨15, 8, .rw, 0x0⟩, ⟨7, 0, .rw, 0x0⟩]⟩,
  ⟨SFP_DDM, .device, false, [⟨31, 16, .ro, 0x0⟩, ⟨15, 0, .ro, 0x0⟩]⟩,
  ⟨USF_ID, .device, false, [⟨31, 29, .ro, 0x0⟩, ⟨28, 28, .ro, 0x0⟩, ⟨27, 27, .ro, 0x0⟩, ⟨26, 26, .ro, 0x0⟩, ⟨23, 12, .ro, 0x0⟩]⟩,
  ⟨USF_ROUTE0, .device, false, [⟨31, 0, .ro, 0x0⟩]⟩,
  ⟨USF_ROUTE1, .device, false, [⟨31, 0, .ro, 0x0⟩]⟩,
  ⟨USF_ROUTE2, .device, false, [⟨7, 0, .ro, 0x0⟩]⟩,
  ⟨USF_ROLL, .device, false, [⟨31, 31, .sc, 0x0⟩, ⟨30, 30, .ro, 0x0⟩, ⟨23, 16, .ro, 0x0⟩, ⟨15, 0, .ro, 0x0⟩]⟩,
  ⟨USF_ROLL_GEN, .device, false, [⟨31, 0, .ro, 0x0⟩]⟩,
  ⟨USF_AUTH, .device, false, [⟨31, 30, .ro, 0x0⟩, ⟨23, 12, .ro, 0x0⟩, ⟨11, 0, .ro, 0x0⟩]⟩,
  ⟨USF_AUTH_EPOCH, .device, false, [⟨31, 0, .ro, 0x0⟩]⟩,
  ⟨USF_AUTH_REFUSED, .device, false, [⟨15, 0, .rc, 0x0⟩]⟩,
  ⟨USF_BULK_W, .device, true, [⟨15, 12, .rw, 0x1⟩, ⟨11, 8, .rw, 0x1⟩, ⟨7, 4, .rw, 0x1⟩, ⟨3, 0, .rw, 0x1⟩]⟩,
  ⟨USF_DOM_STATE, .device, false, [⟨31, 16, .ro, 0x0⟩, ⟨15, 0, .ro, 0x0⟩]⟩,
  ⟨USF_MIRROR_LO, .device, false, [⟨31, 0, .rw, 0x0⟩]⟩,
  ⟨USF_MIRROR_HI, .device, false, [⟨31, 0, .rw, 0x0⟩]⟩,
  ⟨USF_MIRROR_CFG, .device, false, [⟨31, 31, .rw, 0x0⟩, ⟨15, 0, .rw, 0x64⟩]⟩,
  ⟨USF_RING_SIDE, .device, true, [⟨11, 8, .rw, 0x0⟩, ⟨7, 0, .rw, 0x0⟩]⟩,
  ⟨USF_TUNNEL_ERR, .device, false, [⟨31, 16, .rc, 0x0⟩, ⟨15, 0, .rc, 0x0⟩]⟩]
/-- Rows of global block 0x8000 (R681), part 2. -/
def rows8_2q : List RegRow := [
  ⟨USF_DOM_LO, .device, true, [⟨31, 0, .rwl, 0x0⟩]⟩,
  ⟨USF_DOM_HI, .device, true, [⟨31, 0, .rwl, 0x0⟩]⟩]
/-- Rows of global block 0x9000 (R681), part 1. -/
def rows9_1q : List RegRow := [
  ⟨TIME_LO, .device, false, [⟨31, 0, .ro, 0x0⟩]⟩,
  ⟨TIME_HI, .device, false, [⟨31, 0, .ro, 0x0⟩]⟩,
  ⟨TIME_EPOCH, .device, false, [⟨31, 31, .ro, 0x0⟩, ⟨7, 0, .ro, 0x0⟩]⟩,
  ⟨TIME_STATUS, .device, false, [⟨31, 29, .ro, 0x0⟩, ⟨28, 28, .ro, 0x0⟩, ⟨27, 27, .ro, 0x0⟩, ⟨18, 16, .ro, 0x0⟩, ⟨15, 0, .rc, 0x0⟩]⟩,
  ⟨TIME_OFFSET, .device, false, [⟨31, 0, .ro, 0x0⟩]⟩,
  ⟨TIME_DELAY, .device, false, [⟨31, 0, .ro, 0x0⟩]⟩,
  ⟨TIME_RATE, .device, false, [⟨31, 0, .ro, 0x0⟩]⟩,
  ⟨TIME_CFG, .device, true, [⟨31, 31, .rw, 0x0⟩, ⟨30, 30, .rw, 0x0⟩, ⟨29, 29, .rw, 0x0⟩, ⟨23, 16, .rw, 0xA⟩, ⟨15, 0, .rw, 0x3E8⟩]⟩,
  ⟨TIME_STEP_AT_LO, .device, false, [⟨31, 0, .ro, 0x0⟩]⟩,
  ⟨TIME_STEP_AT_HI, .device, false, [⟨31, 0, .ro, 0x0⟩]⟩,
  ⟨TIME_STEP_NEW_LO, .device, false, [⟨31, 0, .ro, 0x0⟩]⟩,
  ⟨TIME_STEP_NEW_HI, .device, false, [⟨31, 0, .ro, 0x0⟩]⟩,
  ⟨TIME_PPS_LO, .device, false, [⟨31, 0, .ro, 0x0⟩]⟩,
  ⟨TIME_PPS_HI, .device, false, [⟨31, 0, .ro, 0x0⟩]⟩]
/-- Rows of global block 0xA000 (R681), part 1. -/
def rowsA_1q : List RegRow := [
  ⟨TRIP_CFG, .trip, true, [⟨31, 31, .rwl, 0x0⟩, ⟨30, 30, .rwl, 0x1⟩, ⟨29, 28, .rwl, 0x1⟩, ⟨15, 8, .rwl, 0x64⟩]⟩,
  ⟨TRIP_ROUTE_LO, .trip, true, [⟨31, 0, .rwl, 0xFFFFFFFF⟩]⟩,
  ⟨TRIP_ROUTE_HI, .trip, true, [⟨31, 0, .rwl, 0xFFFFFFFF⟩]⟩,
  ⟨TRIP_STICKY, .trip, false, [⟨31, 16, .ro, 0x0⟩, ⟨15, 0, .w1c, 0x0⟩]⟩,
  ⟨TRIP_CLEAR_REFUSED, .trip, false, [⟨31, 16, .ro, 0x0⟩, ⟨15, 0, .rc, 0x0⟩]⟩,
  ⟨TRIP_LOCK, .trip, false, [⟨0, 0, .ro, 0x0⟩]⟩,
  ⟨LULL_MAP_LO, .trip, false, [⟨31, 0, .ro, 0x0⟩]⟩,
  ⟨LULL_MAP_HI, .trip, false, [⟨31, 0, .ro, 0x0⟩]⟩]
/-- Rows of global block 0xB000 (R681), part 1. -/
def rowsB_1q : List RegRow := [
  ⟨SPC_CFG, .device, true, [⟨31, 31, .rw, 0x0⟩, ⟨30, 30, .rw, 0x0⟩, ⟨29, 29, .rw, 0x0⟩, ⟨28, 28, .rw, 0x0⟩, ⟨27, 27, .rw, 0x1⟩, ⟨26, 26, .rw, 0x1⟩, ⟨25, 24, .rw, 0x0⟩, ⟨15, 8, .rw, 0x7⟩, ⟨4, 0, .rw, 0x7⟩]⟩,
  ⟨SPC_FRAME, .device, true, [⟨31, 30, .rw, 0x0⟩, ⟨29, 26, .rw, 0x0⟩, ⟨23, 16, .rw, 0x2⟩, ⟨15, 8, .rw, 0x2⟩, ⟨4, 0, .rw, 0x0⟩]⟩,
  ⟨SPC_CMD, .device, false, [⟨31, 31, .sc, 0x0⟩, ⟨30, 30, .sc, 0x0⟩, ⟨29, 29, .sc, 0x0⟩, ⟨28, 28, .sc, 0x0⟩]⟩,
  ⟨SPC_STATUS, .device, false, [⟨31, 31, .ro, 0x0⟩, ⟨30, 30, .w1c, 0x0⟩, ⟨29, 29, .w1c, 0x0⟩, ⟨28, 28, .ro, 0x0⟩, ⟨27, 27, .w1c, 0x0⟩, ⟨26, 26, .w1c, 0x0⟩, ⟨25, 25, .w1c, 0x0⟩, ⟨21, 16, .ro, 0x0⟩, ⟨13, 8, .ro, 0x0⟩, ⟨7, 0, .rc, 0x0⟩]⟩,
  ⟨SPC_TX, .device, false, [⟨31, 0, .wo, 0x0⟩]⟩,
  ⟨SPC_RX, .device, false, [⟨31, 0, .ro, 0x0⟩]⟩,
  ⟨XIP_CFG, .device, true, [⟨31, 31, .rw, 0x0⟩, ⟨30, 29, .rw, 0x2⟩, ⟨28, 28, .sc, 0x0⟩, ⟨15, 8, .rw, 0x1⟩]⟩,
  ⟨XIP_STATUS, .device, false, [⟨31, 31, .ro, 0x0⟩, ⟨30, 30, .ro, 0x0⟩, ⟨29, 29, .ro, 0x0⟩, ⟨28, 28, .ro, 0x0⟩, ⟨27, 27, .w1c, 0x0⟩, ⟨26, 25, .ro, 0x0⟩, ⟨24, 24, .ro, 0x0⟩, ⟨23, 16, .ro, 0x0⟩, ⟨15, 8, .ro, 0x0⟩, ⟨7, 0, .ro, 0x0⟩]⟩,
  ⟨XIP_ERR, .device, false, [⟨31, 16, .rc, 0x0⟩, ⟨15, 0, .rc, 0x0⟩]⟩,
  ⟨SPT_CFG, .device, true, [⟨31, 31, .rw, 0x0⟩, ⟨30, 30, .rw, 0x0⟩]⟩,
  ⟨SPT_STATUS, .device, false, [⟨31, 31, .ro, 0x0⟩, ⟨15, 0, .rc, 0x0⟩]⟩,
  ⟨SPT_COUNTS, .device, false, [⟨31, 24, .rc, 0x0⟩, ⟨23, 16, .rc, 0x0⟩, ⟨15, 0, .rc, 0x0⟩]⟩]
/-- Rows of global block 0xC000 (R681), part 1. -/
def rowsC_1q : List RegRow := [
  ⟨FB_CFG, .device, true, [⟨31, 31, .rw, 0x0⟩, ⟨30, 28, .rw, 0x0⟩, ⟨27, 27, .rw, 0x0⟩, ⟨26, 26, .rw, 0x0⟩, ⟨25, 25, .rw, 0x0⟩, ⟨24, 24, .rw, 0x0⟩, ⟨23, 22, .rw, 0x0⟩, ⟨21, 21, .rw, 0x0⟩, ⟨20, 20, .rw, 0x0⟩, ⟨19, 10, .rw, 0xA⟩]⟩,
  ⟨FB_REV, .device, true, [⟨31, 0, .rw, 0x0⟩]⟩,
  ⟨FB_POS, .device, false, [⟨31, 0, .rw, 0x0⟩]⟩,
  ⟨FB_IDX, .device, false, [⟨31, 0, .ro, 0x0⟩]⟩,
  ⟨FB_SPEED, .device, false, [⟨31, 0, .ro, 0x0⟩]⟩,
  ⟨FB_INTVL, .device, false, [⟨31, 0, .ro, 0x0⟩]⟩,
  ⟨FB_TIME, .device, false, [⟨31, 0, .ro, 0x0⟩]⟩,
  ⟨FB_STAND, .device, true, [⟨23, 0, .rw, 0x2710⟩]⟩,
  ⟨FB_MODECFG, .device, true, [⟨31, 26, .rw, 0x19⟩, ⟨25, 25, .rw, 0x1⟩, ⟨24, 24, .rw, 0x1⟩, ⟨23, 15, .rw, 0x31⟩, ⟨14, 8, .rw, 0x14⟩, ⟨7, 0, .rw, 0xA⟩]⟩,
  ⟨FBK_STATUS, .device, false, [⟨31, 24, .rc, 0x0⟩, ⟨23, 23, .w1c, 0x0⟩, ⟨22, 22, .ro, 0x0⟩, ⟨21, 21, .ro, 0x0⟩, ⟨20, 20, .ro, 0x0⟩, ⟨19, 19, .w1c, 0x0⟩, ⟨18, 18, .w1c, 0x0⟩, ⟨17, 17, .w1c, 0x0⟩, ⟨16, 16, .w1c, 0x0⟩, ⟨15, 15, .w1c, 0x0⟩, ⟨14, 14, .w1c, 0x0⟩, ⟨13, 13, .w1c, 0x0⟩, ⟨10, 8, .ro, 0x0⟩]⟩,
  ⟨FB_AXIS, .device, true, [⟨31, 31, .rw, 0x0⟩, ⟨30, 30, .rw, 0x0⟩, ⟨29, 24, .rw, 0x0⟩, ⟨23, 0, .rw, 0xA00⟩]⟩,
  ⟨FB_SCALE, .device, true, [⟨31, 16, .rw, 0x1⟩, ⟨15, 0, .rw, 0x1⟩]⟩,
  ⟨FB_AXPOS, .device, false, [⟨31, 0, .ro, 0x0⟩]⟩,
  ⟨FB_DEV, .device, false, [⟨31, 0, .ro, 0x0⟩]⟩,
  ⟨FB_SSIRAW, .device, false, [⟨31, 0, .ro, 0x0⟩]⟩,
  ⟨FB_CMD, .device, false, [⟨31, 31, .sc, 0x0⟩, ⟨30, 30, .sc, 0x0⟩]⟩,
  ⟨EMU_CFG, .device, true, [⟨31, 31, .rw, 0x0⟩, ⟨30, 30, .rw, 0x0⟩, ⟨29, 29, .rw, 0x1⟩, ⟨28, 28, .rw, 0x0⟩, ⟨25, 20, .rw, 0x0⟩, ⟨19, 10, .rw, 0x4⟩]⟩,
  ⟨EMU_LINES, .device, true, [⟨16, 0, .rw, 0x400⟩]⟩,
  ⟨EMU_USTEPS, .device, true, [⟨31, 0, .rw, 0xC800⟩]⟩,
  ⟨EMU_COUNT, .device, false, [⟨31, 0, .ro, 0x0⟩]⟩,
  ⟨EMU_STATUS, .device, false, [⟨31, 31, .ro, 0x0⟩, ⟨30, 30, .w1c, 0x0⟩, ⟨29, 29, .ro, 0x0⟩, ⟨28, 28, .w1c, 0x0⟩, ⟨1, 0, .ro, 0x0⟩]⟩,
  ⟨EMU_LAG, .device, false, [⟨15, 0, .rc, 0x0⟩]⟩]
/-- Rows of global block 0xD000 (R681), part 1. -/
def rowsD_1q : List RegRow := [
  ⟨SFE_CTL, .device, true, [⟨31, 31, .rw, 0x0⟩, ⟨30, 30, .rw, 0x0⟩, ⟨29, 29, .sc, 0x0⟩, ⟨15, 0, .rw, 0xE10⟩]⟩,
  ⟨SFE_STATUS, .device, false, [⟨31, 31, .ro, 0x0⟩, ⟨30, 30, .ro, 0x0⟩, ⟨29, 29, .ro, 0x0⟩, ⟨23, 16, .ro, 0x0⟩, ⟨6, 4, .ro, 0x0⟩, ⟨3, 3, .ro, 0x0⟩, ⟨2, 2, .w1c, 0x0⟩]⟩,
  ⟨SFE_RREF0, .constant, false, [⟨31, 0, .ro, 0x0⟩]⟩,
  ⟨SFE_RREF1, .constant, false, [⟨31, 0, .ro, 0x0⟩]⟩,
  ⟨SFE_STEER, .device, true, [⟨26, 24, .rw, 0x0⟩, ⟨12, 8, .rw, 0x1F⟩, ⟨4, 0, .rw, 0x1F⟩]⟩,
  ⟨SFE_CFG, .device, true, [⟨31, 31, .rw, 0x0⟩, ⟨30, 30, .rw, 0x0⟩, ⟨29, 28, .rw, 0x0⟩, ⟨27, 27, .rw, 0x0⟩, ⟨26, 24, .rw, 0x3⟩, ⟨23, 16, .rw, 0x64⟩, ⟨15, 8, .rw, 0xA⟩, ⟨7, 4, .rw, 0xF⟩]⟩,
  ⟨SFE_PAR, .device, true, [⟨31, 0, .rw, 0x0⟩]⟩,
  ⟨SFE_AUX, .device, true, [⟨31, 16, .rw, 0x0⟩, ⟨15, 0, .rw, 0x0⟩]⟩,
  ⟨SFE_LIM, .device, true, [⟨31, 24, .rw, 0x4⟩, ⟨23, 12, .rw, 0xA⟩, ⟨11, 0, .rw, 0xFFF⟩]⟩,
  ⟨SFE_RES, .device, false, [⟨31, 0, .ro, 0x0⟩]⟩,
  ⟨SFE_TEMP, .device, false, [⟨31, 31, .rc, 0x0⟩, ⟨30, 30, .ro, 0x0⟩, ⟨29, 29, .ro, 0x0⟩, ⟨28, 26, .ro, 0x0⟩, ⟨15, 0, .ro, 0x8000⟩]⟩,
  ⟨SFE_LEAD, .device, false, [⟨31, 16, .ro, 0x0⟩, ⟨15, 0, .ro, 0x0⟩]⟩,
  ⟨SFE_ZAC, .device, false, [⟨31, 0, .ro, 0x0⟩]⟩,
  ⟨SFE_MCNT, .device, false, [⟨31, 0, .ro, 0x0⟩]⟩,
  ⟨SFE_NCNT, .device, false, [⟨31, 0, .ro, 0x0⟩]⟩,
  ⟨HOUSE_CTL, .device, true, [⟨31, 31, .rw, 0x1⟩, ⟨30, 28, .rw, 0x0⟩, ⟨27, 27, .rw, 0x0⟩, ⟨26, 25, .rw, 0x0⟩, ⟨24, 20, .rw, 0x0⟩, ⟨19, 16, .rw, 0x4⟩, ⟨15, 12, .rw, 0x0⟩, ⟨7, 0, .rw, 0x0⟩]⟩,
  ⟨HOUSE_MASK, .device, true, [⟨31, 0, .rw, 0x0⟩]⟩,
  ⟨HOUSE_REFSEL, .device, true, [⟨31, 0, .rw, 0x0⟩]⟩,
  ⟨HOUSE_ALARM_LO, .device, false, [⟨31, 0, .rw, 0x0⟩]⟩,
  ⟨HOUSE_ALARM_HI, .device, false, [⟨31, 0, .rw, 0x0⟩]⟩,
  ⟨HOUSE_ALARM_PER, .device, false, [⟨31, 0, .rw, 0x0⟩]⟩,
  ⟨HOUSE_CMD, .device, false, [⟨31, 31, .sc, 0x0⟩, ⟨30, 30, .sc, 0x0⟩]⟩,
  ⟨HOUSE_STATUS, .device, false, [⟨31, 30, .ro, 0x2⟩, ⟨29, 27, .ro, 0x0⟩, ⟨26, 26, .ro, 0x0⟩, ⟨25, 25, .ro, 0x0⟩, ⟨24, 24, .ro, 0x0⟩, ⟨23, 16, .rc, 0x0⟩, ⟨1, 1, .ro, 0x0⟩, ⟨0, 0, .ro, 0x0⟩]⟩,
  ⟨HOUSE_RES, .device, false, [⟨31, 31, .rc, 0x0⟩, ⟨30, 30, .ro, 0x0⟩, ⟨29, 29, .ro, 0x0⟩, ⟨28, 28, .ro, 0x0⟩, ⟨23, 0, .ro, 0x0⟩]⟩,
  ⟨SITE_TRIG_LO, .device, false, [⟨31, 0, .rw, 0x0⟩]⟩]
/-- Rows of global block 0xD000 (R681), part 2. -/
def rowsD_2q : List RegRow := [
  ⟨SITE_TRIG_HI, .device, false, [⟨31, 0, .rw, 0x0⟩]⟩,
  ⟨SITE_TRIG_MASK_LO, .device, false, [⟨31, 0, .rw, 0x0⟩]⟩,
  ⟨SITE_TRIG_MASK_HI, .device, false, [⟨31, 0, .rw, 0x0⟩]⟩,
  ⟨SITE_TRIG_CTL, .device, false, [⟨31, 31, .sc, 0x0⟩, ⟨30, 30, .sc, 0x0⟩, ⟨29, 29, .rw, 0x0⟩]⟩,
  ⟨SITE_TRIG_STATUS, .device, false, [⟨31, 31, .ro, 0x0⟩, ⟨30, 30, .w1c, 0x0⟩, ⟨29, 29, .w1c, 0x0⟩, ⟨28, 28, .w1c, 0x0⟩, ⟨7, 0, .ro, 0x0⟩]⟩,
  ⟨HWIN_CFG, .device, true, [⟨31, 30, .rw, 0x2⟩, ⟨29, 28, .rw, 0x0⟩, ⟨27, 27, .rw, 0x0⟩, ⟨26, 26, .rw, 0x0⟩, ⟨25, 25, .rw, 0x0⟩, ⟨24, 23, .rw, 0x0⟩, ⟨22, 21, .rw, 0x0⟩, ⟨20, 18, .rw, 0x0⟩]⟩,
  ⟨HWIN_THR, .device, true, [⟨31, 16, .rw, 0x3FF⟩, ⟨15, 0, .rw, 0x0⟩]⟩,
  ⟨HWIN_CAP, .device, false, [⟨31, 0, .ro, 0x0⟩]⟩,
  ⟨HWIN_STATUS, .device, false, [⟨31, 24, .w1c, 0x0⟩, ⟨23, 8, .ro, 0x0⟩, ⟨7, 0, .ro, 0x0⟩]⟩]
/-- Rows of global block 0xE000 (R681), part 1. -/
def rowsE_1q : List RegRow := [
  ⟨PS_STATUS, .device, false, [⟨31, 30, .ro, 0x0⟩, ⟨29, 29, .ro, 0x0⟩, ⟨28, 28, .ro, 0x0⟩, ⟨27, 27, .ro, 0x0⟩, ⟨23, 16, .ro, 0x80⟩, ⟨15, 0, .ro, 0x0⟩]⟩,
  ⟨PS_CKPT_CFG, .device, true, [⟨31, 31, .rw, 0x1⟩, ⟨30, 30, .rw, 0x1⟩, ⟨15, 8, .rw, 0xA⟩, ⟨7, 0, .rw, 0xA⟩]⟩,
  ⟨PS_CKPT_GEN, .device, false, [⟨31, 0, .ro, 0x0⟩]⟩,
  ⟨PS_CKPT_TIME_LO, .device, false, [⟨31, 0, .ro, 0x0⟩]⟩,
  ⟨PS_CKPT_TIME_HI, .device, false, [⟨31, 0, .ro, 0x0⟩]⟩,
  ⟨PS_VOLATILE, .device, false, [⟨5, 0, .ro, 0x0⟩]⟩,
  ⟨PS_MAP_LOST_LO, .device, false, [⟨31, 0, .ro, 0x0⟩]⟩,
  ⟨PS_MAP_LOST_HI, .device, false, [⟨31, 0, .ro, 0x0⟩]⟩,
  ⟨PS_WEAR, .device, false, [⟨31, 0, .ro, 0x0⟩]⟩,
  ⟨PS_WEAR_CKPT, .device, false, [⟨31, 0, .ro, 0x0⟩]⟩,
  ⟨PS_LOAD_LO, .device, false, [⟨31, 0, .rw, 0x0⟩]⟩,
  ⟨PS_LOAD_HI, .device, false, [⟨31, 0, .rw, 0x0⟩]⟩,
  ⟨PS_LOAD_LEN, .device, false, [⟨20, 0, .rw, 0x0⟩]⟩,
  ⟨PS_LOAD_CTL, .device, false, [⟨31, 31, .sc, 0x0⟩, ⟨30, 30, .ro, 0x0⟩, ⟨23, 16, .ro, 0x0⟩, ⟨8, 8, .rw, 0x0⟩, ⟨7, 0, .rw, 0x0⟩]⟩,
  ⟨PS_LOG_ADDR, .device, false, [⟨15, 12, .rw, 0x0⟩, ⟨11, 0, .rw, 0x0⟩]⟩,
  ⟨PS_LOG_DATA, .device, false, [⟨31, 0, .ro, 0x0⟩]⟩,
  ⟨PS_LOG_COUNT, .device, false, [⟨12, 0, .ro, 0x0⟩]⟩]
/-- Rows of global block 0xF000 (R681), part 1. -/
def rowsF_1q : List RegRow := [
  ⟨DBG_ADDR, .device, false, [⟨31, 30, .rw, 0x0⟩, ⟨19, 0, .rw, 0x0⟩]⟩,
  ⟨DBG_CMD, .device, false, [⟨31, 31, .sc, 0x0⟩, ⟨30, 29, .rw, 0x0⟩, ⟨28, 28, .ro, 0x0⟩, ⟨27, 27, .w1c, 0x0⟩, ⟨26, 24, .ro, 0x0⟩]⟩,
  ⟨DBG_DATA, .device, false, [⟨31, 0, .rw, 0x0⟩]⟩,
  ⟨DBG_HALT_LO, .device, false, [⟨31, 0, .w1s, 0x0⟩]⟩,
  ⟨DBG_HALT_HI, .device, false, [⟨31, 0, .w1s, 0x0⟩]⟩,
  ⟨DBG_RESUME_LO, .device, false, [⟨31, 0, .w1s, 0x0⟩]⟩,
  ⟨DBG_RESUME_HI, .device, false, [⟨31, 0, .w1s, 0x0⟩]⟩,
  ⟨DBG_STEP_LO, .device, false, [⟨31, 0, .w1s, 0x0⟩]⟩,
  ⟨DBG_STEP_HI, .device, false, [⟨31, 0, .w1s, 0x0⟩]⟩,
  ⟨DBG_HALTED_LO, .device, false, [⟨31, 0, .ro, 0x0⟩]⟩,
  ⟨DBG_HALTED_HI, .device, false, [⟨31, 0, .ro, 0x0⟩]⟩,
  ⟨DBG_CANOPY, .device, false, [⟨31, 31, .sc, 0x0⟩, ⟨30, 30, .sc, 0x0⟩, ⟨29, 29, .sc, 0x0⟩, ⟨28, 28, .rw, 0x0⟩, ⟨1, 0, .ro, 0x0⟩]⟩,
  ⟨KEY_INFO, .device, false, [⟨31, 31, .ro, 0x0⟩, ⟨30, 24, .ro, 0x0⟩]⟩,
  ⟨KEY_KCV, .device, false, [⟨31, 0, .ro, 0x0⟩]⟩,
  ⟨KEY_NEXT_LO, .device, false, [⟨31, 0, .ro, 0x0⟩]⟩,
  ⟨KEY_NEXT_HI, .device, false, [⟨31, 0, .ro, 0x0⟩]⟩,
  ⟨KEY_STATUS, .device, false, [⟨31, 31, .ro, 0x0⟩, ⟨30, 30, .ro, 0x0⟩, ⟨27, 24, .ro, 0x0⟩, ⟨23, 16, .ro, 0x0⟩, ⟨11, 0, .ro, 0x0⟩]⟩]
/-- Rows of the tile block (R684), part 1. -/
def rowsTile_1q : List RegRow := [
  ⟨TILE_STATE, .tile, false, [⟨31, 24, .ro, 0x0⟩, ⟨23, 16, .ro, 0x0⟩, ⟨11, 11, .ro, 0x0⟩, ⟨10, 10, .ro, 0x0⟩, ⟨9, 9, .ro, 0x0⟩, ⟨6, 4, .ro, 0x0⟩, ⟨2, 0, .ro, 0x0⟩]⟩,
  ⟨TILE_TIMEOUTS, .tile, true, [⟨31, 20, .rw, 0x0⟩, ⟨19, 8, .rw, 0x0⟩, ⟨7, 0, .rw, 0x14⟩]⟩,
  ⟨TRAIL_CTL, .tile, true, [⟨4, 4, .rw, 0x0⟩, ⟨3, 3, .rw, 0x0⟩, ⟨2, 2, .rw, 0x0⟩, ⟨1, 1, .rw, 0x0⟩, ⟨0, 0, .rw, 0x0⟩]⟩,
  ⟨TRAIL_PTR, .tile, false, [⟨26, 16, .ro, 0x0⟩, ⟨10, 0, .ro, 0x0⟩]⟩,
  ⟨TRAIL_CMD, .tile, false, [⟨3, 0, .wo, 0x0⟩]⟩,
  ⟨TRAIL_STATUS, .tile, false, [⟨31, 24, .ro, 0x0⟩, ⟨23, 13, .ro, 0x0⟩, ⟨4, 4, .w1c, 0x0⟩, ⟨3, 3, .w1c, 0x0⟩, ⟨2, 2, .w1c, 0x0⟩, ⟨1, 1, .w1c, 0x0⟩]⟩,
  ⟨PLAN_CAP_V, .tile, true, [⟨31, 0, .rw, 0x7FFFFFFF⟩]⟩,
  ⟨PLAN_CAP_A, .tile, true, [⟨31, 0, .rw, 0xFFFFFFFF⟩]⟩,
  ⟨POS_LO, .tile, false, [⟨31, 0, .rw, 0x0⟩]⟩,
  ⟨POS_HI, .tile, false, [⟨31, 0, .rw, 0x0⟩]⟩,
  ⟨VEL, .tile, false, [⟨31, 0, .ro, 0x0⟩]⟩,
  ⟨ACC, .tile, false, [⟨31, 0, .ro, 0x0⟩]⟩,
  ⟨REPLACE_LO, .tile, false, [⟨31, 0, .rw, 0x0⟩]⟩,
  ⟨REPLACE_HI, .tile, false, [⟨31, 0, .rw, 0x0⟩]⟩,
  ⟨REPLACE_CTL, .tile, false, [⟨31, 31, .sc, 0x0⟩, ⟨30, 30, .rw, 0x0⟩, ⟨10, 0, .rw, 0x0⟩]⟩,
  ⟨REPLACE_VEL, .tile, false, [⟨31, 0, .rw, 0x0⟩]⟩,
  ⟨REPLACE_ACC, .tile, false, [⟨31, 0, .rw, 0x0⟩]⟩,
  ⟨REPLACE_JERK, .tile, false, [⟨31, 0, .rw, 0x0⟩]⟩,
  ⟨POS_EVT_THR, .tile, true, [⟨31, 0, .rw, 0x0⟩]⟩,
  ⟨POS_EVT_CFG, .tile, true, [⟨31, 31, .rw, 0x0⟩, ⟨30, 30, .rw, 0x0⟩, ⟨29, 28, .rw, 0x0⟩, ⟨23, 0, .rw, 0x0⟩]⟩,
  ⟨POS_EVT_STATUS, .tile, false, [⟨23, 16, .ro, 0x0⟩, ⟨15, 8, .w1c, 0x0⟩, ⟨7, 0, .w1c, 0x0⟩]⟩,
  ⟨GROUP_CFG, .tile, false, [⟨31, 16, .ro, 0x0⟩, ⟨15, 12, .ro, 0x0⟩, ⟨11, 8, .ro, 0x0⟩, ⟨1, 1, .ro, 0x0⟩, ⟨0, 0, .ro, 0x0⟩]⟩,
  ⟨GROUP_LEAD, .tile, false, [⟨25, 16, .ro, 0x32⟩, ⟨15, 0, .ro, 0x0⟩]⟩,
  ⟨GROUP_SCALE, .tile, false, [⟨31, 16, .ro, 0x8000⟩, ⟨15, 0, .ro, 0x8000⟩]⟩,
  ⟨GROUP_REQ, .tile, false, [⟨31, 16, .ro, 0x8000⟩, ⟨15, 0, .ro, 0x8000⟩]⟩]
/-- Rows of the tile block (R684), part 2. -/
def rowsTile_2q : List RegRow := [
  ⟨GROUP_STATUS, .tile, false, [⟨23, 16, .ro, 0x0⟩, ⟨15, 8, .ro, 0x0⟩, ⟨4, 4, .w1c, 0x0⟩, ⟨3, 3, .w1c, 0x0⟩, ⟨2, 2, .w1c, 0x0⟩, ⟨1, 1, .ro, 0x0⟩, ⟨0, 0, .ro, 0x0⟩]⟩,
  ⟨GROUP_PATH_LO, .tile, false, [⟨31, 0, .ro, 0x0⟩]⟩,
  ⟨GROUP_PATH_HI, .tile, false, [⟨31, 0, .ro, 0x0⟩]⟩,
  ⟨HOME_BACKOFF, .tile, true, [⟨31, 0, .rw, 0x400⟩]⟩,
  ⟨HOME_FORCE, .tile, true, [⟨31, 0, .rw, 0x0⟩]⟩,
  ⟨HOME_TOL, .tile, true, [⟨31, 24, .rw, 0xC0⟩, ⟨20, 12, .rw, 0x100⟩, ⟨8, 0, .rw, 0x0⟩]⟩,
  ⟨HOME_STATUS, .tile, false, [⟨23, 16, .ro, 0x0⟩, ⟨15, 12, .ro, 0x0⟩, ⟨11, 9, .ro, 0x0⟩, ⟨1, 1, .ro, 0x0⟩, ⟨0, 0, .ro, 0x0⟩]⟩,
  ⟨HOME_LATCH_LO, .tile, false, [⟨31, 0, .ro, 0x0⟩]⟩,
  ⟨HOME_LATCH_HI, .tile, false, [⟨31, 0, .ro, 0x0⟩]⟩,
  ⟨RESTORE_UNC, .tile, false, [⟨31, 0, .ro, 0xFFFFFFFF⟩]⟩,
  ⟨SOFT_LO, .tile, true, [⟨31, 0, .rw, 0x80000000⟩]⟩,
  ⟨SOFT_HI, .tile, true, [⟨31, 0, .rw, 0x7FFFFFFF⟩]⟩,
  ⟨SOFT_CTL, .tile, true, [⟨31, 31, .rw, 0x0⟩, ⟨30, 30, .rw, 0x0⟩, ⟨29, 29, .rw, 0x0⟩]⟩,
  ⟨POS_WRAP, .tile, true, [⟨31, 0, .rw, 0x0⟩]⟩,
  ⟨WRAP_CTL, .tile, true, [⟨1, 0, .rw, 0x0⟩]⟩,
  ⟨DUSK_COAST, .tile, true, [⟨31, 0, .rw, 0x0⟩]⟩,
  ⟨USTEP_CTL, .tile, true, [⟨31, 31, .sc, 0x0⟩, ⟨30, 30, .rw, 0x0⟩, ⟨9, 0, .rw, 0x0⟩]⟩,
  ⟨USTEP_TBL_ADDR, .tile, false, [⟨9, 9, .rw, 0x0⟩, ⟨8, 0, .rw, 0x0⟩]⟩,
  ⟨USTEP_TBL_DATA, .tile, true, [⟨11, 0, .rw, 0x0⟩]⟩,
  ⟨USTEP_STATUS, .tile, false, [⟨25, 16, .ro, 0x0⟩, ⟨3, 3, .w1c, 0x0⟩, ⟨2, 2, .w1c, 0x0⟩, ⟨1, 1, .ro, 0x0⟩, ⟨0, 0, .ro, 0x0⟩]⟩,
  ⟨CUR_SCALE, .tile, true, [⟨31, 16, .rw, 0x0⟩, ⟨15, 0, .rw, 0x0⟩]⟩,
  ⟨CUR_LEVEL, .tile, true, [⟨27, 16, .rw, 0x400⟩, ⟨11, 0, .rw, 0x0⟩]⟩,
  ⟨CUR_RUN, .tile, true, [⟨11, 0, .rw, 0x800⟩]⟩,
  ⟨CUR_TIMING, .tile, true, [⟨31, 20, .rw, 0x0⟩, ⟨19, 19, .rw, 0x0⟩, ⟨15, 8, .rw, 0x0⟩, ⟨7, 0, .rw, 0xA⟩]⟩,
  ⟨CUR_CAP, .tile, true, [⟨11, 0, .rw, 0xFFF⟩]⟩]
/-- Rows of the tile block (R684), part 3. -/
def rowsTile_3q : List RegRow := [
  ⟨CUR_STATUS, .tile, false, [⟨31, 30, .ro, 0x0⟩, ⟨29, 29, .ro, 0x0⟩, ⟨28, 28, .ro, 0x1⟩, ⟨27, 16, .ro, 0x0⟩, ⟨11, 0, .ro, 0x0⟩]⟩,
  ⟨PHASE_SP, .tile, false, [⟨31, 16, .ro, 0x0⟩, ⟨15, 0, .ro, 0x0⟩]⟩,
  ⟨CMD_ANGLE, .tile, false, [⟨15, 0, .ro, 0x0⟩]⟩,
  ⟨CHOP_CTL, .tile, true, [⟨31, 30, .rw, 0x0⟩, ⟨29, 28, .rw, 0x0⟩, ⟨23, 12, .rw, 0x40⟩, ⟨11, 0, .rw, 0xC8⟩]⟩,
  ⟨CHOP_TIME, .tile, true, [⟨31, 23, .rw, 0x64⟩, ⟨22, 14, .rw, 0xC8⟩, ⟨13, 5, .rw, 0xC8⟩]⟩,
  ⟨CHOP_LIMIT, .tile, true, [⟨31, 24, .rw, 0x64⟩, ⟨23, 15, .rw, 0x50⟩, ⟨14, 8, .rw, 0x0⟩, ⟨7, 0, .rw, 0x14⟩]⟩,
  ⟨CHOP_ADAPT, .tile, true, [⟨31, 31, .rw, 0x1⟩, ⟨15, 0, .rw, 0x400⟩]⟩,
  ⟨CHOP_OFFSET, .tile, false, [⟨31, 16, .rw, 0x0⟩, ⟨15, 0, .rw, 0x0⟩]⟩,
  ⟨CHOP_PEAK, .tile, false, [⟨31, 16, .ro, 0x0⟩, ⟨15, 0, .ro, 0x0⟩]⟩,
  ⟨CHOP_STATUS, .tile, false, [⟨31, 31, .ro, 0x0⟩, ⟨30, 30, .ro, 0x0⟩, ⟨27, 26, .ro, 0x0⟩, ⟨25, 24, .ro, 0x0⟩, ⟨7, 7, .w1c, 0x0⟩, ⟨6, 6, .w1c, 0x0⟩, ⟨5, 5, .w1c, 0x0⟩, ⟨4, 4, .w1c, 0x0⟩, ⟨3, 3, .w1c, 0x0⟩, ⟨2, 2, .w1c, 0x0⟩, ⟨1, 1, .w1c, 0x0⟩]⟩,
  ⟨DUTY_GAIN, .tile, true, [⟨31, 16, .rw, 0x100⟩, ⟨15, 0, .rw, 0x40⟩]⟩,
  ⟨DUTY_FF, .tile, true, [⟨31, 31, .rw, 0x0⟩, ⟨30, 16, .rw, 0x7800⟩, ⟨15, 0, .rw, 0x0⟩]⟩,
  ⟨DUTY_UP, .tile, true, [⟨31, 0, .rw, 0x7FFFFFFF⟩]⟩,
  ⟨DUTY_DOWN, .tile, true, [⟨31, 0, .rw, 0x7FFFFFFF⟩]⟩,
  ⟨RIPPLE_CTL, .tile, true, [⟨31, 31, .rw, 0x1⟩, ⟨30, 30, .rw, 0x0⟩, ⟨3, 0, .rw, 0x0⟩]⟩,
  ⟨RIPPLE_PTR, .tile, false, [⟨31, 31, .ro, 0x0⟩, ⟨28, 16, .ro, 0x0⟩, ⟨15, 15, .ro, 0x0⟩, ⟨12, 0, .ro, 0x0⟩]⟩,
  ⟨RIPPLE_EDGE, .tile, false, [⟨31, 31, .ro, 0x0⟩, ⟨24, 16, .ro, 0x0⟩, ⟨15, 15, .ro, 0x0⟩, ⟨8, 0, .ro, 0x0⟩]⟩,
  ⟨RIPPLE_STATUS, .tile, false, [⟨31, 28, .ro, 0x0⟩, ⟨2, 2, .ro, 0x0⟩, ⟨1, 1, .ro, 0x0⟩]⟩,
  ⟨SD_CTL, .tile, true, [⟨31, 31, .sc, 0x0⟩, ⟨30, 30, .sc, 0x0⟩, ⟨29, 29, .sc, 0x0⟩, ⟨28, 28, .rw, 0x0⟩, ⟨23, 16, .rw, 0x0⟩, ⟨11, 8, .rw, 0x3⟩, ⟨7, 4, .rw, 0x2⟩, ⟨0, 0, .rw, 0x1⟩]⟩,
  ⟨SD_STATUS, .tile, false, [⟨31, 29, .ro, 0x0⟩, ⟨28, 28, .ro, 0x0⟩, ⟨27, 27, .ro, 0x0⟩, ⟨26, 26, .ro, 0x0⟩, ⟨25, 25, .ro, 0x0⟩, ⟨24, 24, .ro, 0x0⟩, ⟨23, 23, .ro, 0x0⟩, ⟨22, 22, .ro, 0x0⟩, ⟨13, 8, .ro, 0x0⟩]⟩,
  ⟨SD_ANGLE, .tile, false, [⟨31, 16, .ro, 0x0⟩, ⟨15, 0, .ro, 0x0⟩]⟩,
  ⟨SD_CONF, .tile, false, [⟨31, 24, .ro, 0x0⟩, ⟨23, 18, .ro, 0x0⟩, ⟨17, 17, .ro, 0x0⟩, ⟨16, 16, .ro, 0x0⟩, ⟨15, 0, .ro, 0x0⟩]⟩,
  ⟨SD_EMF, .tile, false, [⟨31, 16, .ro, 0x0⟩, ⟨15, 0, .ro, 0x0⟩]⟩,
  ⟨SD_TORQUE, .tile, false, [⟨31, 0, .ro, 0x0⟩]⟩,
  ⟨SD_LINC, .tile, false, [⟨31, 16, .ro, 0xFFFF⟩, ⟨15, 0, .ro, 0xFFFF⟩]⟩]
/-- Rows of the tile block (R684), part 4. -/
def rowsTile_4q : List RegRow := [
  ⟨SD_SLIP, .tile, false, [⟨31, 0, .ro, 0x0⟩]⟩,
  ⟨SD_SPEED, .tile, false, [⟨31, 0, .ro, 0x0⟩]⟩,
  ⟨SD_TIME, .tile, false, [⟨31, 0, .ro, 0x0⟩]⟩,
  ⟨SD_TEMP, .tile, false, [⟨31, 16, .ro, 0x0⟩, ⟨15, 0, .ro, 0x0⟩]⟩,
  ⟨SD_STALL, .tile, true, [⟨31, 16, .rw, 0x4000⟩, ⟨15, 8, .rw, 0x80⟩, ⟨7, 0, .rw, 0x8⟩]⟩,
  ⟨SD_STALL2, .tile, true, [⟨31, 24, .rw, 0xC0⟩, ⟨23, 8, .rw, 0x64⟩, ⟨7, 6, .rw, 0x0⟩, ⟨5, 5, .rw, 0x0⟩]⟩,
  ⟨SD_BLEND_LO, .tile, true, [⟨31, 0, .rw, 0x640000⟩]⟩,
  ⟨SD_BLEND_HI, .tile, true, [⟨31, 0, .rw, 0x1900000⟩]⟩,
  ⟨SD_EVENTS, .tile, false, [⟨7, 7, .w1c, 0x0⟩, ⟨6, 6, .w1c, 0x0⟩, ⟨5, 5, .w1c, 0x0⟩, ⟨4, 4, .w1c, 0x0⟩, ⟨3, 3, .w1c, 0x0⟩, ⟨2, 2, .w1c, 0x0⟩, ⟨1, 1, .w1c, 0x0⟩]⟩,
  ⟨SD_DRIFT, .tile, true, [⟨31, 16, .rw, 0x400⟩, ⟨15, 0, .ro, 0x0⟩]⟩,
  ⟨WALK_CTL, .tile, true, [⟨31, 31, .sc, 0x0⟩, ⟨30, 30, .sc, 0x0⟩, ⟨29, 29, .rw, 0x0⟩, ⟨28, 28, .rw, 0x0⟩, ⟨27, 27, .rw, 0x0⟩]⟩,
  ⟨WALK_CFG, .tile, true, [⟨31, 16, .rw, 0x0⟩, ⟨15, 12, .rw, 0x4⟩, ⟨11, 11, .rw, 0x0⟩, ⟨7, 0, .rw, 0xA⟩]⟩,
  ⟨WALK_SPEED, .tile, true, [⟨31, 0, .rw, 0x640000⟩]⟩,
  ⟨WALK_CABLE, .tile, true, [⟨31, 16, .rw, 0x0⟩, ⟨15, 0, .rw, 0x0⟩]⟩,
  ⟨WALK_STATUS, .tile, false, [⟨31, 29, .ro, 0x0⟩, ⟨28, 24, .ro, 0x0⟩, ⟨23, 16, .ro, 0x0⟩, ⟨15, 8, .ro, 0x0⟩, ⟨7, 0, .ro, 0x0⟩]⟩,
  ⟨SD_HYP, .tile, false, [⟨31, 16, .ro, 0x0⟩, ⟨15, 0, .ro, 0x0⟩]⟩,
  ⟨LEG_CTL, .tile, true, [⟨31, 31, .rwl, 0x0⟩, ⟨30, 30, .rwl, 0x1⟩, ⟨15, 8, .rw, 0x2⟩]⟩,
  ⟨LEG_DEAD, .tile, true, [⟨31, 23, .rw, 0x64⟩, ⟨22, 14, .rw, 0x64⟩, ⟨13, 8, .rw, 0x8⟩]⟩,
  ⟨PWM_PERIOD, .tile, true, [⟨15, 0, .rw, 0x1F40⟩]⟩,
  ⟨PWM_PHASE, .tile, true, [⟨15, 0, .rw, 0x0⟩]⟩,
  ⟨LEG_OVR, .tile, false, [⟨31, 31, .rw, 0x0⟩, ⟨7, 0, .rw, 0x0⟩]⟩,
  ⟨LEG_STATUS, .tile, false, [⟨23, 16, .ro, 0x0⟩, ⟨15, 15, .ro, 0x0⟩, ⟨14, 14, .ro, 0x0⟩, ⟨13, 13, .w1c, 0x0⟩, ⟨12, 12, .ro, 0x0⟩, ⟨11, 8, .w1c, 0x0⟩, ⟨7, 7, .ro, 0x0⟩, ⟨6, 6, .ro, 0x0⟩]⟩,
  ⟨LEG_TRIP, .tile, true, [⟨31, 31, .rwl, 0x1⟩, ⟨30, 30, .rwl, 0x1⟩, ⟨29, 22, .rwl, 0x14⟩, ⟨21, 14, .rwl, 0x64⟩, ⟨9, 9, .w1c, 0x0⟩, ⟨8, 8, .w1c, 0x0⟩, ⟨7, 7, .ro, 0x0⟩, ⟨6, 6, .ro, 0x0⟩]⟩,
  ⟨CLEAR_REFUSED, .tile, false, [⟨31, 24, .ro, 0x0⟩, ⟨23, 22, .ro, 0x0⟩, ⟨15, 0, .rc, 0x0⟩]⟩,
  ⟨LULL_CLR, .tile, false, [⟨23, 18, .wo, 0x0⟩]⟩]
/-- Rows of the tile block (R684), part 5. -/
def rowsTile_5q : List RegRow := [
  ⟨ADC_CTL, .tile, true, [⟨31, 31, .rw, 0x1⟩, ⟨30, 30, .rw, 0x0⟩, ⟨27, 20, .rw, 0x1⟩]⟩,
  ⟨ADC_REF, .tile, true, [⟨31, 31, .rw, 0x0⟩, ⟨7, 7, .w1c, 0x0⟩, ⟨3, 3, .ro, 0x0⟩, ⟨2, 2, .ro, 0x0⟩, ⟨1, 1, .ro, 0x0⟩, ⟨0, 0, .ro, 0x0⟩]⟩,
  ⟨ADC_SLICES, .tile, false, [⟨31, 29, .ro, 0x4⟩, ⟨28, 26, .ro, 0x4⟩, ⟨25, 24, .ro, 0x2⟩, ⟨12, 8, .ro, 0x0⟩, ⟨7, 3, .ro, 0x0⟩, ⟨2, 0, .ro, 0x0⟩]⟩,
  ⟨ADC_CAL_ADDR, .tile, false, [⟨5, 4, .rw, 0x0⟩, ⟨3, 0, .rw, 0x0⟩]⟩,
  ⟨ADC_CAL_DATA, .tile, false, [⟨31, 0, .ro, 0x0⟩]⟩,
  ⟨ADC_STATUS, .tile, false, [⟨31, 31, .ro, 0x0⟩, ⟨30, 30, .ro, 0x0⟩, ⟨29, 29, .ro, 0x0⟩, ⟨28, 28, .ro, 0x0⟩, ⟨27, 27, .ro, 0x0⟩, ⟨26, 26, .ro, 0x0⟩, ⟨25, 25, .ro, 0x0⟩, ⟨23, 16, .rc, 0x0⟩, ⟨15, 8, .rc, 0x0⟩]⟩,
  ⟨ADC_EVENTS, .tile, false, [⟨6, 6, .w1c, 0x0⟩, ⟨5, 5, .w1c, 0x0⟩, ⟨4, 4, .w1c, 0x0⟩, ⟨3, 3, .w1c, 0x0⟩, ⟨2, 2, .w1c, 0x0⟩, ⟨1, 1, .w1c, 0x0⟩]⟩,
  ⟨ADC_SNAP, .tile, false, [⟨31, 16, .ro, 0x0⟩, ⟨15, 0, .ro, 0x0⟩]⟩,
  ⟨ADC_SNAP_TIME, .tile, false, [⟨31, 0, .ro, 0x0⟩]⟩,
  ⟨WAVE_CTL, .tile, true, [⟨31, 31, .rw, 0x0⟩, ⟨30, 29, .rw, 0x0⟩]⟩,
  ⟨SCAN_MASK, .tile, true, [⟨19, 16, .rw, 0x0⟩, ⟨15, 0, .rw, 0x0⟩]⟩,
  ⟨SCAN_REFSEL, .tile, true, [⟨31, 0, .rw, 0x0⟩]⟩,
  ⟨SCAN_AVG, .tile, true, [⟨23, 20, .rw, 0x2⟩, ⟨19, 16, .rw, 0x0⟩, ⟨7, 0, .rw, 0x0⟩]⟩,
  ⟨SCAN_TRIG, .tile, true, [⟨31, 29, .rw, 0x0⟩, ⟨23, 16, .rw, 0x0⟩, ⟨15, 0, .rw, 0x0⟩]⟩,
  ⟨SCAN_ALARM_LO, .tile, false, [⟨31, 0, .rw, 0x0⟩]⟩,
  ⟨SCAN_ALARM_HI, .tile, false, [⟨31, 0, .rw, 0x0⟩]⟩,
  ⟨SCAN_ALARM_PER, .tile, false, [⟨31, 0, .rw, 0x0⟩]⟩,
  ⟨SCAN_CMD, .tile, false, [⟨31, 31, .sc, 0x0⟩, ⟨30, 30, .sc, 0x0⟩]⟩,
  ⟨SCAN_BUF, .tile, true, [⟨31, 31, .rw, 0x0⟩, ⟨30, 30, .rw, 0x0⟩, ⟨29, 29, .rw, 0x0⟩, ⟨28, 27, .rw, 0x0⟩, ⟨23, 12, .rw, 0x600⟩, ⟨8, 0, .rw, 0x10⟩]⟩,
  ⟨SCAN_WPTR, .tile, false, [⟨31, 31, .ro, 0x0⟩, ⟨12, 0, .ro, 0x0⟩]⟩,
  ⟨SCAN_RPTR, .tile, false, [⟨31, 31, .rw, 0x0⟩, ⟨12, 0, .rw, 0x0⟩]⟩,
  ⟨VM_SCALE, .tile, true, [⟨15, 0, .rw, 0x0⟩]⟩,
  ⟨NTC_CFG, .tile, true, [⟨31, 16, .rw, 0x0⟩, ⟨15, 0, .rw, 0x0⟩]⟩,
  ⟨NTC_RPU, .tile, true, [⟨15, 0, .rw, 0x0⟩]⟩,
  ⟨ADC_VM, .tile, false, [⟨31, 0, .ro, 0x0⟩]⟩]
/-- Rows of the tile block (R684), part 6. -/
def rowsTile_6q : List RegRow := [
  ⟨ADC_NTC, .tile, false, [⟨15, 0, .ro, 0x8000⟩]⟩,
  ⟨ADC_TEMP, .tile, false, [⟨15, 0, .ro, 0x0⟩]⟩,
  ⟨ADC_RES, .tile, false, [⟨31, 31, .rc, 0x0⟩, ⟨30, 30, .ro, 0x0⟩, ⟨29, 29, .ro, 0x0⟩, ⟨28, 28, .ro, 0x0⟩, ⟨23, 0, .ro, 0x0⟩]⟩,
  ⟨WIN_CFG, .tile, true, [⟨31, 30, .rw, 0x2⟩, ⟨29, 28, .rw, 0x0⟩, ⟨27, 27, .rw, 0x0⟩, ⟨26, 26, .rw, 0x0⟩, ⟨25, 25, .rw, 0x0⟩, ⟨24, 23, .rw, 0x0⟩, ⟨22, 21, .rw, 0x0⟩, ⟨20, 19, .rw, 0x0⟩, ⟨18, 18, .rw, 0x0⟩, ⟨17, 10, .rw, 0x14⟩]⟩,
  ⟨WIN_THR, .tile, true, [⟨31, 16, .rw, 0x3FF⟩, ⟨15, 0, .rw, 0x0⟩]⟩,
  ⟨WIN_CAP, .tile, false, [⟨31, 0, .ro, 0x0⟩]⟩,
  ⟨WIN_STATUS, .tile, false, [⟨29, 24, .w1c, 0x0⟩, ⟨23, 12, .ro, 0x0⟩, ⟨11, 6, .ro, 0x0⟩, ⟨5, 5, .ro, 0x0⟩, ⟨4, 4, .ro, 0x0⟩, ⟨3, 3, .w1c, 0x0⟩]⟩,
  ⟨WIN_DROPPED, .tile, false, [⟨15, 0, .rc, 0x0⟩]⟩,
  ⟨HIKER_CTL, .tile, true, [⟨31, 31, .sc, 0x0⟩, ⟨30, 30, .sc, 0x0⟩, ⟨29, 29, .sc, 0x0⟩, ⟨28, 27, .rw, 0x0⟩, ⟨26, 26, .rw, 0x0⟩, ⟨7, 0, .rw, 0x0⟩]⟩,
  ⟨HIKER_STATUS, .tile, false, [⟨31, 29, .ro, 0x0⟩, ⟨28, 27, .ro, 0x1⟩, ⟨26, 26, .w1c, 0x0⟩, ⟨25, 25, .ro, 0x0⟩, ⟨24, 24, .ro, 0x0⟩, ⟨23, 16, .ro, 0x0⟩]⟩,
  ⟨HIKER_PC, .tile, false, [⟨31, 0, .ro, 0x0⟩]⟩,
  ⟨HIKER_EXC, .tile, false, [⟨31, 24, .ro, 0x0⟩, ⟨15, 0, .rc, 0x0⟩]⟩,
  ⟨HIKER_XIP, .tile, true, [⟨27, 0, .rw, 0x0⟩]⟩,
  ⟨HIKER_IMAGE_ID, .tile, false, [⟨31, 0, .ro, 0x0⟩]⟩,
  ⟨HIKER_MBOX_TO, .tile, false, [⟨31, 0, .rw, 0x0⟩]⟩,
  ⟨HIKER_MBOX_FROM, .tile, false, [⟨31, 0, .ro, 0x0⟩]⟩,
  ⟨HIKER_MBOX_CTL, .tile, false, [⟨31, 31, .ro, 0x0⟩, ⟨30, 30, .ro, 0x0⟩, ⟨29, 29, .sc, 0x0⟩, ⟨15, 0, .rc, 0x0⟩]⟩,
  ⟨FB_CTL, .tile, true, [⟨31, 31, .sc, 0x0⟩, ⟨30, 30, .sc, 0x0⟩, ⟨29, 28, .rwl, 0x3⟩, ⟨27, 27, .rwl, 0x1⟩, ⟨26, 26, .rwl, 0x0⟩, ⟨23, 20, .rwl, 0x2⟩, ⟨19, 16, .rwl, 0x3⟩, ⟨15, 8, .rwl, 0x80⟩]⟩,
  ⟨FB_GEAR, .tile, true, [⟨31, 0, .rwl, 0x10000⟩]⟩,
  ⟨FB_RADIUS, .tile, true, [⟨31, 0, .rwl, 0x0⟩]⟩,
  ⟨FB_INERTIA, .tile, true, [⟨31, 0, .rwl, 0x0⟩]⟩,
  ⟨FB_MARGIN, .tile, true, [⟨31, 24, .rwl, 0x20⟩, ⟨23, 0, .rwl, 0x9C40⟩]⟩,
  ⟨FB_FCAP, .tile, true, [⟨31, 0, .rwl, 0x0⟩]⟩,
  ⟨FB_ECAP, .tile, true, [⟨31, 0, .rwl, 0x0⟩]⟩,
  ⟨FB_TRAVEL_LO, .tile, true, [⟨31, 0, .rwl, 0x0⟩]⟩]
/-- Rows of the tile block (R684), part 7. -/
def rowsTile_7q : List RegRow := [
  ⟨FB_TRAVEL_HI, .tile, true, [⟨31, 0, .rwl, 0x0⟩]⟩,
  ⟨FB_POLICY, .tile, true, [⟨31, 29, .rwl, 0x0⟩, ⟨28, 26, .rwl, 0x0⟩, ⟨25, 22, .rwl, 0x1⟩, ⟨21, 12, .rwl, 0x32⟩, ⟨11, 0, .rwl, 0x200⟩]⟩,
  ⟨FB_BACKOFF, .tile, true, [⟨31, 0, .rwl, 0x0⟩]⟩,
  ⟨FB_STOP_ACC, .tile, true, [⟨31, 0, .rwl, 0x0⟩]⟩,
  ⟨FB_STOP_JERK, .tile, true, [⟨31, 0, .rwl, 0x0⟩]⟩,
  ⟨FB_SLOW, .tile, true, [⟨31, 24, .rwl, 0x0⟩, ⟨23, 16, .rwl, 0x80⟩, ⟨15, 8, .rwl, 0x14⟩, ⟨7, 0, .rwl, 0x40⟩]⟩,
  ⟨FB_LOCK, .tile, false, [⟨0, 0, .ro, 0x0⟩]⟩,
  ⟨FB_FORCE, .tile, false, [⟨31, 0, .ro, 0x0⟩]⟩,
  ⟨FB_ENERGY, .tile, false, [⟨31, 0, .ro, 0x0⟩]⟩,
  ⟨FB_EXCESS, .tile, false, [⟨31, 0, .ro, 0x0⟩]⟩,
  ⟨FB_CEIL, .tile, false, [⟨31, 0, .ro, 0x7FFFFFFF⟩]⟩,
  ⟨FB_STATUS, .tile, false, [⟨31, 24, .ro, 0x0⟩, ⟨23, 23, .ro, 0x0⟩, ⟨22, 22, .ro, 0x0⟩, ⟨21, 21, .ro, 0x0⟩, ⟨20, 20, .ro, 0x0⟩, ⟨19, 19, .ro, 0x0⟩, ⟨18, 18, .ro, 0x0⟩, ⟨17, 17, .ro, 0x0⟩, ⟨16, 16, .ro, 0x0⟩, ⟨15, 12, .ro, 0x0⟩, ⟨11, 8, .ro, 0x0⟩, ⟨7, 5, .ro, 0x0⟩, ⟨4, 4, .ro, 0x0⟩, ⟨3, 3, .ro, 0x0⟩, ⟨2, 2, .ro, 0x1⟩, ⟨1, 1, .ro, 0x0⟩, ⟨0, 0, .ro, 0x0⟩]⟩,
  ⟨FB_EVENTS, .tile, false, [⟨9, 9, .w1c, 0x0⟩, ⟨8, 8, .w1c, 0x0⟩, ⟨7, 7, .w1c, 0x0⟩, ⟨6, 6, .w1c, 0x0⟩, ⟨5, 5, .w1c, 0x0⟩, ⟨4, 4, .w1c, 0x0⟩, ⟨3, 3, .w1c, 0x0⟩, ⟨2, 2, .w1c, 0x0⟩, ⟨1, 1, .w1c, 0x0⟩]⟩,
  ⟨FB_PROF_ADDR, .tile, false, [⟨8, 0, .rw, 0x0⟩]⟩,
  ⟨FB_PROF_DATA, .tile, true, [⟨31, 8, .rwl, 0x0⟩, ⟨7, 0, .rwl, 0x0⟩]⟩,
  ⟨FB_PROF_INFO, .tile, false, [⟨31, 0, .ro, 0x0⟩]⟩,
  ⟨GUST_CTL, .tile, true, [⟨31, 31, .rw, 0x0⟩, ⟨30, 30, .rw, 0x1⟩, ⟨29, 26, .rw, 0x8⟩, ⟨25, 24, .rw, 0x0⟩, ⟨15, 0, .rw, 0x1F4⟩]⟩,
  ⟨GUST_THR, .tile, true, [⟨31, 0, .rw, 0xFFFFFFFF⟩]⟩,
  ⟨GUST_LEVEL, .tile, false, [⟨31, 0, .ro, 0x0⟩]⟩,
  ⟨GUST_STATUS, .tile, false, [⟨31, 31, .w1c, 0x0⟩, ⟨30, 30, .w1c, 0x0⟩, ⟨10, 0, .ro, 0x0⟩]⟩,
  ⟨FB_SEG_ADDR, .tile, false, [⟨4, 3, .rw, 0x0⟩, ⟨2, 0, .rw, 0x0⟩]⟩,
  ⟨FB_SEG_DATA, .tile, true, [⟨31, 0, .rw, 0x0⟩]⟩,
  ⟨PUSH_CTL, .tile, true, [⟨31, 31, .rw, 0x0⟩, ⟨30, 30, .rw, 0x0⟩, ⟨29, 28, .rw, 0x3⟩, ⟨27, 24, .rw, 0x2⟩, ⟨9, 0, .rw, 0x0⟩]⟩]
/-- Rows of every tile block (R684). -/
def tileRows : List RegRow := rowsTile_1q ++ rowsTile_2q ++ rowsTile_3q ++ rowsTile_4q ++ rowsTile_5q ++ rowsTile_6q ++ rowsTile_7q

/-- Rows of the global block that starts at `b` × 0x1000 (R681). -/
def globalRows (b : Nat) : List RegRow :=
  match b with
  | 0 => rows0_1q
  | 1 => rows1_1q
  | 2 => rows2_1q
  | 3 => rows3_1q
  | 4 => rows4_1q
  | 5 => rows5_1q
  | 6 => rows6_1q
  | 7 => rows7_1q
  | 8 => rows8_1q ++ rows8_2q
  | 9 => rows9_1q
  | 10 => rowsA_1q
  | 11 => rowsB_1q
  | 12 => rowsC_1q
  | 13 => rowsD_1q ++ rowsD_2q
  | 14 => rowsE_1q
  | 15 => rowsF_1q
  | _ => []

end R
end Sys2Proof.Machine
end

