-- ==== Sys2Proof/Syntax.lean ====
section
/-! DEFINITION. The commands that the block takes: one constructor of `Instr` for each row of spec/opcode_table.json,
with the operands that the command carries from outside (a value written, a frame received, an edge's level, the
samples of a cycle), and the types of those operands. -/

namespace Sys2Proof

/-- Who makes an access to the register space; each is one requester of R11. -/
inductive Requester where
  | pcie
  | spt
  | descriptor
  | debug
  | canopyA
  | canopyB
  | tile (n : Nat)
  deriving DecidableEq, Repr

/-- Where an access goes: an offset of BAR0 or of BAR2 (R452). -/
inductive RegAddr where
  | bar0 (off : BitVec 20)
  | bar2 (off : BitVec 16)
  deriving DecidableEq, Repr

/-- Which command a completion answers, and where it goes (R464, R470). -/
structure CmdRef where
  /-- The command came from a submission queue of this device; otherwise from the root at `srcRoute`. -/
  own : Bool
  srcRoute : Nat
  srcDepth : Nat
  sq : Nat
  tag : Nat
  cq : Nat
  irq : Bool
  track : Bool
  deriving DecidableEq, Repr

/-- A command in descriptor form (R463 to R465), its target tile resolved: the 64 bytes of its first slot and of its
EXT slots. -/
structure Desc where
  ref : CmdRef
  tile : Fin 64
  slot : List Byte
  ext : List (List Byte)
  deriving DecidableEq, Repr

/-- One converter sample of a phase: its tag (R150), its signed code, and its conversion instant in sixths of a ns of
site time. -/
structure Sample where
  tag : Nat
  code : Int
  time : Nat
  deriving DecidableEq, Repr

/-- One gate edge of a stored cycle (R151): index of the first sample at or after it, the state entered, whether it
starts a cycle, and its site time in ns. -/
structure CycleEdge where
  sample : Nat
  state : Nat
  start : Bool
  time : Nat
  deriving DecidableEq, Repr

/-- One stored cycle of a phase (R153): samples and edges in order. -/
structure Cycle where
  samples : List Sample
  edges : List CycleEdge
  deriving DecidableEq, Repr

/-- A frame of a Usfen link (R494, R498). Routes are the 72-bit numbers of R463. -/
structure Frame where
  typ : Nat
  hops : Nat
  dstDepth : Nat
  flood : Bool
  srcDepth : Nat
  lseq : Nat
  dstRoute : Nat
  srcRoute : Nat
  payload : List Byte
  deriving DecidableEq, Repr

/-- A window: window `w` of tile `n` (R323) or house window `h` (R324). -/
inductive WinRef where
  | tile (n : Fin 64) (w : Fin 6)
  | house (h : Fin 8)
  deriving DecidableEq, Repr

/-- The windows of one status register: a tile's (R341) or the house's (R342). -/
inductive WinSet where
  | tile (n : Fin 64)
  | house
  deriving DecidableEq, Repr

/-- A tile of the unit, by the route and depth of its device (R463, R505). -/
structure AxisRef where
  route : Nat
  depth : Nat
  tile : Fin 64
  deriving DecidableEq, Repr

/-- What one rotation step measured (R290): the spare's off and gain, its residual on the calibration sources in codes, and
the shadow pairs of difference d and local slope g. -/
structure Rotation where
  off : Int
  gain : Nat
  residual : Nat
  shadow : List (Int × Int)
  deriving DecidableEq, Repr

/-- What discovery reads of a serial NOR (R643, JESD216): log2 of its density in bytes; the address-bytes field, 0 for 3 bytes
only, 1 for 3 or 4, 2 for 4 only; instruction and mode-and-wait clocks of the 1-1-4 and 1-4-4 reads; the 4-byte address
instructions of the three widths. -/
structure Sfdp where
  log2 : Nat
  addrBytes : Fin 3
  quad : Option (Nat × Nat)
  quadAddr : Option (Nat × Nat)
  four : Option (Nat × Nat × Nat)
  deriving DecidableEq, Repr


/-- The commands of the part: one constructor for each row of the table of operations and events. -/
inductive Instr where
  /-- PLAN_TICK (R51): Each 1 µs plan tick advances the jerk-limited profile of the executing segment and delivers A, V and P. -/
  | planTick (n : Fin 64)
  /-- SEGMENT_START (R37): The head segment starts on the first plan tick at which its trail is unfrozen, the tile is ready and its start condition is met. -/
  | segmentStart (n : Fin 64)
  /-- DWELL_END (R55): A DWELL segment retires DONE at the end of its n-th tick. -/
  | dwellEnd (n : Fin 64)
  /-- VELOCITY_DURATION_END (R55): A VELOCITY segment with a duration reaches its last tick and brakes to rest as for STOP. -/
  | velocityDurationEnd (n : Fin 64)
  /-- HELD_SEGMENT_PLACE (R34): A segment held for a full trail is placed when a slot retires. -/
  | heldSegmentPlace (n : Fin 64)
  /-- STOP (R45): Trail command that freezes the trail and brings the executing segment to its stopping point. -/
  | stop (n : Fin 64)
  /-- ABORT (R45): Trail command that stops as STOP and then flushes every segment behind the stopped one. -/
  | abort (n : Fin 64)
  /-- FLUSH (R43): Trail command that retires every waiting segment with FLUSHED. -/
  | flush (n : Fin 64)
  /-- FREEZE (R43): Trail command that freezes the trail while the executing segment continues. -/
  | freeze (n : Fin 64)
  /-- RESUME (R43): Trail command that unfreezes the trail. -/
  | resume (n : Fin 64)
  /-- RESUME_RETRY (R77): Trail command that re-executes the segment held by lull_retry and unfreezes the trail. -/
  | resumeRetry (n : Fin 64)
  /-- POSITION_WRITE (R58): A completed write of POS_LO and POS_HI is judged at the next plan tick and commits or is refused. -/
  | positionWrite (n : Fin 64)
  /-- TARGET_REPLACE (R65): A REPLACE_CTL go or REPLACE descriptor replaces the target, and optionally the limits, of a MOVE segment or is refused. -/
  | targetReplace (n : Fin 64)
  /-- PLAN_CAP_WRITE (R60): A write of PLAN_CAP_V or PLAN_CAP_A caps the segment limits from the next plan tick. -/
  | planCapWrite (n : Fin 64) (ofVel : Bool) (v : Word)
  /-- POS_EVENT_ARM (R73): A write of POS_EVTk_CFG arms the slot and sets its side, or disarms it. -/
  | posEventArm (n : Fin 64) (k : Fin 8) (v : Word)
  /-- SLEEP_DELAY_EXPIRY (R22): sleep_delay expires in Idle and the tile goes Asleep. -/
  | sleepDelayExpiry (n : Fin 64)
  /-- HOLD_TIMEOUT_EXPIRY (R22): hold_timeout expires with an empty trail and the tile begins de-energising toward Idle. -/
  | holdTimeoutExpiry (n : Fin 64)
  /-- WAKE_COMPLETE (R23): After a wake request the tile clocks run and the tile enters Idle. -/
  | wakeComplete (n : Fin 64)
  /-- ENERGISE_COMPLETE (R128): The ramped code reaches hold and the tile enters Holding. -/
  | energiseComplete (n : Fin 64)
  /-- DEENERGISE_COMPLETE (R128): The code reaches zero and each phase decays below lo, so the tile enters Idle with gates off. -/
  | deenergiseComplete (n : Fin 64)
  /-- TILE_LULL_EXIT (R281): On the first plan tick with every lull_source bit clear the tile leaves Lull for Idle with a frozen trail. -/
  | tileLullExit (n : Fin 64)
  /-- SRAM_ECC_ERROR (R19): An uncorrectable ECC error in tile SRAM takes the tile to Fault with cause 0x01. -/
  | sramEccError (n : Fin 64)
  /-- LEG_SELFTEST_FAIL (R19): A leg-timer self-check failure takes the tile to Fault with cause 0x03. -/
  | legSelftestFail (n : Fin 64)
  /-- TILE_WAKE (R22): TILE_CMD WAKE sends a wake request to the tile. -/
  | tileWake (n : Fin 64)
  /-- ENERGISE (R22): TILE_CMD ENERGISE begins the Idle to Holding transition. -/
  | energise (n : Fin 64)
  /-- RELEASE (R128): TILE_CMD RELEASE begins the de-energising transition from Holding. -/
  | release (n : Fin 64)
  /-- TILE_RESET (R691): TILE_CMD TILE_RESET clears the fault, flushes waiting segments, clears offsets and Sundial and resets the Hiker core. -/
  | tileReset (n : Fin 64) (pass : Bool)
  /-- GROUP_FORM (R83): Descriptor that forms an interpolation group at the leader or is refused. -/
  | groupForm (d : Desc) (leader : Option (Nat × Nat)) (ms : List AxisRef)
  /-- GROUP_DISSOLVE (R81): Descriptor that dissolves a group and returns GROUP_CFG to reset. -/
  | groupDissolve (d : Desc)
  /-- GROUP_MOVE (R467): Descriptor to the leader that builds and distributes member GROUP_MOVE segments. -/
  | groupMove (d : Desc)
  /-- GROUP_READY (R97): A member meeting the ready condition signals ready with its position to the leader. -/
  | groupReady (n : Fin 64)
  /-- SCALE_APPLY (R94): A device request reaches its apply time and the group scale in force changes. -/
  | scaleApply (k : Fin 16)
  /-- PLAN_CHECKSUM_TICK (R103): On a tick ending on a 10 ms multiple each member forms a plan checksum and sends it to the leader. -/
  | planChecksumTick (k : Fin 16)
  /-- CHECKSUM_TIMEOUT (R104): A checksum missing 2 ms after its tick sets member_lost and raises the group alarm. -/
  | checksumTimeout (k : Fin 16) (tick : Nat)
  /-- GROUP_STOP (R99): GROUP_CMD STOP applies R45 to the path on every member on one tick. -/
  | groupStop (d : Desc)
  /-- GROUP_ABORT (R99): GROUP_CMD ABORT stops the path and flushes on every member on one tick. -/
  | groupAbort (d : Desc)
  /-- GROUP_FREEZE (R99): GROUP_CMD FREEZE freezes every member trail on one tick. -/
  | groupFreeze (d : Desc)
  /-- GROUP_RESUME (R99): GROUP_CMD RESUME unfreezes every member trail on one tick. -/
  | groupResume (d : Desc)
  /-- GROUP_REPLACE (R99): GROUP_CMD REPLACE replaces the path target on every member on one tick. -/
  | groupReplace (d : Desc)
  /-- GROUP_CMD_APPLY (R99): A distributed group command reaches its apply tick and acts on the member. -/
  | groupCmdApply (k : Fin 16)
  /-- MIGRATE (R483): Descriptor that rebinds its submission queue to a new binding and CQ. -/
  | migrate (d : Desc)
  /-- MIGRATE_MARKER (R483): When every old-binding command has completed, the marker completion is written and the queue returns to running. -/
  | migrateMarker (q : Fin 128)
  /-- MIGRATE_LEADER (R484): MIGRATE with byte 0x20 = 1 moves a group's leadership to a new device with a new epoch. -/
  | migrateLeader (d : Desc)
  /-- SHAPE_SWAP_REQUEST (R119): USTEP_CTL swap checks the inactive bank and makes the swap pending or refuses it. -/
  | shapeSwapRequest (n : Fin 64)
  /-- SHAPE_SWAP (R120): A pending swap takes effect at a quarter-wave boundary or at the next plan tick. -/
  | shapeSwap (n : Fin 64)
  /-- USTEP_CTL_WRITE (R113): A write of dir_inv or elec_off applies from the next clock or is refused while Moving. -/
  | ustepCtlWrite (n : Fin 64) (v : Word)
  /-- USTEP_TBL_DATA_ACCESS (R118): An access of USTEP_TBL_DATA reads or writes a shape entry and advances the index. -/
  | ustepTblDataAccess (n : Fin 64) (w : Option Word)
  /-- CUR_SCALE_WRITE (R123): A write of CUR_SCALE sets the scale or is refused while energised. -/
  | curScaleWrite (n : Fin 64) (v : Word)
  /-- CURRENT_RAMP_STEP (R128): Each ramp unit moves the level code toward the target by at most ramp_step. -/
  | currentRampStep (n : Fin 64)
  /-- STAND_DELAY_EXPIRY (R127): stand_delay after a move elapses and the target level falls from run to hold. -/
  | standDelayExpiry (n : Fin 64)
  /-- PARK_DELAY_EXPIRY (R127): park_delay at hold elapses and the target level falls to park. -/
  | parkDelayExpiry (n : Fin 64)
  /-- CHOP_WINDOW_OUTPUT (R135): An above hi or below lo result of a chopper window moves the phase between ON, FAST and SLOW. -/
  | chopWindowOutput (n : Fin 64) (x : Fin 2) (code : Int) (part : Fin 16) (l : List Sample) (edge : Nat)
  /-- CHOP_TIME_EXPIRY (R135): min_on, min_off, mixed_fast or slow_limit elapses and the phase changes bridge state. -/
  | chopTimeExpiry (n : Fin 64) (x : Fin 2) (l : List Sample) (edge : Nat)
  /-- MAX_ON_REFRESH (R137): A high side on for max_on receives a bootstrap refresh pulse. -/
  | maxOnRefresh (n : Fin 64) (k : Fin 4)
  /-- CHOP_OFFSET_WRITE (R140): A write of CHOP_OFFSET sets o_fix and discards any update due in that cycle. -/
  | chopOffsetWrite (n : Fin 64) (v : Word)
  /-- PWM_PERIOD_START (R256): The leg timer starts a period, marking duty updates, latch clears and converter triggers. -/
  | pwmPeriodStart (n : Fin 64) (a b : List Int)
  /-- REGULATION_LOSS (R147): A phase unregulated for reg_loss ms takes the tile to Fault with cause 0x04. -/
  | regulationLoss (n : Fin 64) (x : Fin 2)
  /-- SUNDIAL_UPDATE (R156): A stored cycle ends and Sundial fits it, updates scores, angle, confidence, speed and torque. -/
  | sundialUpdate (n : Fin 64) (x : Fin 2) (c : Cycle)
  /-- STALL_DECISION (R184): The stall candidate count reaches stall_cnt and the segment retires STALLED from the next tick. -/
  | stallDecision (n : Fin 64)
  /-- CONF_DECAY (R176): Each 100 µs without a valid fit the confidence falls by a quarter. -/
  | confDecay (n : Fin 64)
  /-- CONF_LOW (R187): Confidence below stall_conf for blind_limit while Moving writes CONF_LOW and applies blind_action. -/
  | confLow (n : Fin 64)
  /-- MAP_LOAD (R167): SD_CTL map_load copies the map from the store and checks it. -/
  | mapLoad (n : Fin 64)
  /-- MAP_CHECK (R167): SD_CTL map_check checks the map already in tile SRAM. -/
  | mapCheck (n : Fin 64)
  /-- SD_CLEAR (R158): SD_CTL clear resets scores, load angle, confidence and rotor angle. -/
  | sdClear (n : Fin 64)
  /-- WALK_START (R192): WALK_CTL start begins a map walk or ends it at once with NOT_READY, BAD_CONFIG or DEGRADED. -/
  | walkStart (n : Fin 64)
  /-- WALK_ABORT (R195): WALK_CTL abort ends the walk in progress with ABORTED. -/
  | walkAbort (n : Fin 64)
  /-- WALK_PHASE_COMPLETE (R193): A walk phase completes and the walk proceeds to the next phase or its result. -/
  | walkPhaseComplete (n : Fin 64) (settle : List Nat) (charge freq : Nat)
  /-- WALK_GRANT_TIMEOUT (R196): A walk without a grant or lender for 1 s fails with NO_GRANT. -/
  | walkGrantTimeout (n : Fin 64)
  /-- LEARN (R206): FB_CTL learn starts learning in the directions named by learn_dir, or is refused. -/
  | learn (n : Fin 64) (dir : Fin 4) (keyed : Bool)
  /-- LEARN_ABORT (R206): FB_CTL learn_abort ends learning in both directions without change. -/
  | learnAbort (n : Fin 64) (keyed : Bool)
  /-- OBSTRUCTION_DECISION (R212): The breach count reaches obs_cnt and the policy acts from the next plan tick. -/
  | obstructionDecision (n : Fin 64)
  /-- RETRY_WAIT_EXPIRY (R218): After retry_wait at rest the held segment re-executes toward its target. -/
  | retryWaitExpiry (n : Fin 64)
  /-- BLIND_CEILING (R214): No assessed update for blind_ms activates the blind velocity ceiling. -/
  | blindCeiling (n : Fin 64)
  /-- GUST_SAMPLE (R225): Each 1 ms Gust takes a force sample and recomputes the level. -/
  | gustSample (n : Fin 64)
  /-- GUST (R226): The level stays at or above thr for hold_ms, a GUST event is written and retract segments are placed. -/
  | gust (n : Fin 64)
  /-- PUSH_CONFIRM (R230): periods consistent quarter-periods confirm a push, write a PUSH event and may place store slot 3. -/
  | pushConfirm (n : Fin 64) (edges : List (Bool × Bool)) (times : List Nat)
  /-- PUSH_TIMEOUT (R230): An unconfirmed push firing ends 500 ms after it. -/
  | pushTimeout (n : Fin 64)
  /-- FB_PROF_DATA_ACCESS (R205): An access of FB_PROF_DATA reads or writes a profile entry and advances the index. -/
  | fbProfDataAccess (n : Fin 64) (write : Option Word) (keyed : Bool)
  /-- FB_SEG_DATA_ACCESS (R228): An access of FB_SEG_DATA reads or writes a store word and advances the address. -/
  | fbSegDataAccess (n : Fin 64) (write : Option Word)
  /-- HOME_EDGE (R240): A filtered switch or index edge captures the position in a homing phase. -/
  | homeEdge (n : Fin 64) (pin : Fin 3) (high : Bool)
  /-- HOME_MAX_TRAVEL (R238): A search or release phase covers max_travel and the method ends NOT_FOUND or INPUT_STUCK. -/
  | homeMaxTravel (n : Fin 64)
  /-- HOME_SETTLE_END (R238): RESTORE holds for settle and then confirms the position or ends LOW_CONF. -/
  | homeSettleEnd (n : Fin 64)
  /-- POS_WRAP_WRITE (R245): A write of POS_WRAP commits at the next plan tick or is refused. -/
  | posWrapWrite (n : Fin 64)
  /-- LEG_OVR_WRITE (R259): A write of LEG_OVR requests gates directly while the tile is Idle. -/
  | legOvrWrite (n : Fin 64) (v : Word)
  /-- PWM_PERIOD_WRITE (R255): A write of PWM_PERIOD or PWM_PHASE takes effect at the next period start or is refused. -/
  | pwmPeriodWrite (n : Fin 64) (phase : Bool) (v : Word)
  /-- PRECHARGE_END (R254): The low sides have been on for precharge and high sides may turn on. -/
  | prechargeEnd (n : Fin 64)
  /-- TRIP_PIN (R268): A filtered trip pin becomes active, sets its sticky bit and takes every routed tile to Lull. -/
  | tripPin (k : Fin 16) (high : Bool)
  /-- TRIP_CFG_WRITE (R268): A write of TRIP_CFGk enabling a pin already active trips it at once. -/
  | tripCfgWrite (k : Fin 16) (v : Word)
  /-- TRIP_WINDOW (R270): An enabled trip window's outside condition sets its sticky bit and takes the tile to Lull. -/
  | tripWindow (n : Fin 64) (x : Fin 2) (code : Int) (part : Fin 16)
  /-- TRIP_STICKY_CLEAR (R272): A W1C write of TRIP_STICKY clears qualifying pin bits and counts refusals. -/
  | tripStickyClear (v : Word)
  /-- LEG_TRIP_STICKY_CLEAR (R272): A W1C write of LEG_TRIP sticky bits clears qualifying window bits and counts refusals. -/
  | legTripStickyClear (n : Fin 64) (v : Word)
  /-- BRAKE_ENGAGE (R274): The BRAKE delay line expires and the four low sides turn on. -/
  | brakeEngage (n : Fin 64)
  /-- CLOCK_STOP (R277): A tile or leg clock makes no edge for 1 µs and the monitor sets lull_source bit 21. -/
  | clockStop (n : Fin 64) (leg stops : Bool)
  /-- LULL_CLR_VETO (R279): LULL_CLR bit 18 is always refused and counted. -/
  | lullClrVeto (n : Fin 64)
  /-- LULL_CLR_MISMATCH (R279): LULL_CLR bit 19 is always refused and counted. -/
  | lullClrMismatch (n : Fin 64)
  /-- LULL_CLR_DEBUG (R279): LULL_CLR bit 20 releases the debug-halt source unless the core is halted. -/
  | lullClrDebug (n : Fin 64)
  /-- LULL_CLR_CLOCK (R279): LULL_CLR bit 21 releases the clock-stop source once both clocks have run for qual. -/
  | lullClrClock (n : Fin 64)
  /-- LULL_CLR_ALARM (R279): LULL_CLR bit 22 releases the alarm source unless the alarm is still asserted. -/
  | lullClrAlarm (n : Fin 64)
  /-- LULL_CLR_DUSK (R279): LULL_CLR bit 23 is always refused and counted. -/
  | lullClrDusk (n : Fin 64)
  /-- RESET_PIN (R655): RESET_N low takes every gate pin to L and starts a Dawn with cause RESET_PIN. -/
  | resetPin
  /-- ROTATION_STEP (R290): Each rot_ms the spare slice is measured, shadows a position and exchanges with it. -/
  | rotationStep (u : Option (Fin 64)) (c : Fin 4) (r : Rotation)
  /-- SLICE_FAILURE (R296): A slice fails, leaves its position and the converter degrades, possibly to Fault. -/
  | sliceFailure (u : Option (Fin 64)) (c : Fin 4) (k : Nat) (reason : Nat)
  /-- REF_LOST (R301): VREFq loses its settled flag and the fast converters change to the internal reference. -/
  | refLost (q : Fin 4)
  /-- ADC_REF_WRITE (R300): A write of f_ref selects the fast reference or is refused while energised. -/
  | adcRefWrite (n : Fin 64) (v : Word)
  /-- ADC_CAL_DATA_READ (R303): A read of ADC_CAL_DATA returns the addressed coefficient and advances the slice. -/
  | adcCalDataRead (n : Fin 64)
  /-- SCAN_TRIGGER (R309): A trigger from the selected source starts a scan, or is dropped while one runs. -/
  | scanTrigger (u : Option (Fin 64)) (src : Fin 8)
  /-- SCAN_GO (R308): SCAN_CMD go starts a scan at once. -/
  | scanGo (n : Fin 64)
  /-- SCAN_DISARM (R310): SCAN_CMD disarm disarms the scan alarm. -/
  | scanDisarm (n : Fin 64)
  /-- SCAN_COMPLETE (R317): A scan ends, its results and derived values update and it is written to the buffer. -/
  | scanComplete (u : Option (Fin 64)) (res : List (Nat × List Nat))
  /-- SUPPLY_CONVERSION (R307): No channel-2 result for 100 µs inserts a supply conversion. -/
  | supplyConversion (n : Fin 64)
  /-- SCAN_ALARM_ARM (R311): A write of SCAN_ALARM_HI arms the scan alarm. -/
  | scanAlarmArm (n : Fin 64) (t : BitVec 64)
  /-- SCAN_ALARM_FIRE (R311): The armed alarm fires at its time and re-arms by period or disarms. -/
  | scanAlarmFire (n : Fin 64)
  /-- SCAN_BUF_WRITE (R316): A write of SCAN_BUF sets the buffer region and resets both pointers, or is refused. -/
  | scanBufWrite (n : Fin 64) (v : Word)
  /-- SCAN_RPTR_WRITE (R318): A write of SCAN_RPTR moves the reader pointer or is refused. -/
  | scanRptrWrite (n : Fin 64) (v : Word)
  /-- WAVEFORM_TICK (R319): Each 1 µs a streaming tile forms one waveform value per phase for the journal. -/
  | waveformTick (n : Fin 64) (a b : List Int)
  /-- SITE_TRIG_ARM (R313): SITE_TRIG_CTL arm arms the site-trigger or is refused under 2 µs ahead. -/
  | siteTrigArm
  /-- SITE_TRIG_CANCEL (R312): SITE_TRIG_CTL cancel disarms the site-trigger. -/
  | siteTrigCancel
  /-- SITE_TRIG_FIRE (R313): The site-trigger fires at its time, starts scans, latches snapshots and writes SITE_TRIG. -/
  | siteTrigFire (snaps : List (Fin 64 × Sample × Sample))
  /-- SITE_TRIGGER (R466): Descriptor that arms the site-trigger with time, mask and house bit. -/
  | siteTrigger (d : Desc)
  /-- HOUSE_GO (R320): HOUSE_CMD go starts a house scan. -/
  | houseGo
  /-- HOUSE_DISARM (R321): HOUSE_CMD disarm disarms the house alarm. -/
  | houseDisarm
  /-- HOUSE_ALARM_ARM (R321): A write of HOUSE_ALARM_HI arms the house alarm. -/
  | houseAlarmArm (t : BitVec 64)
  /-- HOUSE_ALARM_FIRE (R321): The house alarm fires at its time and triggers a house scan. -/
  | houseAlarmFire
  /-- WINDOW_LATCH_SET (R334): An unblanked window output condition sets its latch, with capture, interrupt, event or wake. -/
  | windowLatchSet (r : WinRef) (code : Int) (part : Fin 16)
  /-- WIN_LATCH_CLEAR (R334): A W1C write of a latched bit clears the window latch unless the condition holds. -/
  | winLatchClear (r : WinSet) (v : Word)
  /-- WIN_TEST_WRITE (R339): A write of a window's test field replaces its input or is refused. -/
  | winTestWrite (r : WinRef) (v : Word)
  /-- FEEDBACK_EDGE (R348): A filtered edge of a feedback port counts under the port's mode and updates speed. -/
  | feedbackEdge (k : Fin 16) (pins : Fin 8)
  /-- INDEX_EDGE (R356): An index edge latches the counter, may reset it, and writes an INDEX event. -/
  | indexEdge (k : Fin 16)
  /-- REED_HOLDOFF_END (R351): A reed pin's holdoff ends and it takes its present filtered level. -/
  | reedHoldoffEnd (k : Fin 16) (pin : Fin 2)
  /-- SSI_FRAME_START (R353): The SSI period elapses and a frame starts, or waits for the pause. -/
  | ssiFrameStart (k : Fin 16)
  /-- SSI_NOW (R353): FB_CMDk ssi_now starts an SSI frame. -/
  | ssiNow (k : Fin 16)
  /-- SSI_FRAME_END (R354): An SSI frame completes and is accepted into the counter or discarded. -/
  | ssiFrameEnd (k : Fin 16) (raw : Nat)
  /-- STANDSTILL (R358): stand elapses without a counted edge and speed becomes 0. -/
  | standstill (k : Fin 16)
  /-- FB_CFG_WRITE (R347): A write of FB_CFGk sets the mode or enable, or is refused. -/
  | fbCfgWrite (k : Fin 16) (v : Word)
  /-- FB_POS_WRITE (R355): A write of FB_POSk sets the counter on the next clock. -/
  | fbPosWrite (k : Fin 16) (v : Word)
  /-- FB_REV_WRITE (R355): A write of FB_REVk sets the modulus and reduces the counter, or is refused. -/
  | fbRevWrite (k : Fin 16) (v : Word)
  /-- IDX_ARM (R356): FB_CMDk idx_arm arms the index reset. -/
  | idxArm (k : Fin 16)
  /-- FB_AXIS_WRITE (R364): A write of bind, tile or scale re-bases the port's measured axis position. -/
  | fbAxisWrite (k : Fin 16) (scale : Bool) (v : Word)
  /-- EMU_CFG_WRITE (R369): A write of EMU_CFGj enables the output with c := T, or is refused. -/
  | emuCfgWrite (j : Fin 8) (v : Word)
  /-- EMU_COUNT_STEP (R369): After gap the emulated count moves one count toward its target. -/
  | emuCountStep (j : Fin 8)
  /-- SFE_VISIT (R379): The front end visits the next enabled channel, settles and converts. -/
  | sfeVisit
  /-- FREQUENCY_CONVERSION_DONE (R380): A frequency conversion ends and the resistance, temperature and verdict update. -/
  | frequencyConversionDone (m nc : Nat) (compliance : Bool)
  /-- VOLTAGE_CONVERSION_DONE (R381): A voltage conversion by the house converter ends and updates the channel. -/
  | voltageConversionDone (sum : Int) (compliance : Bool)
  /-- TONE_CHECK (R384): A tone check measures r_ac and c_ac and decides the verdict. -/
  | toneCheck (re im : Int) (compliance : Bool)
  /-- CHECK_NOW (R384): SFE_CTL check_now runs a tone check on every enabled channel. -/
  | checkNow
  /-- SFE_STEER_WRITE (R390): A write of SFE_STEER steers the sources in test mode or is refused. -/
  | sfeSteerWrite (v : Word)
  /-- SFE_TEST_WRITE (R390): A write of SFE_CTL test stops or restarts the scheduled visits. -/
  | sfeTestWrite (on : Bool)
  /-- ADD (R433): gd := ga + gb. -/
  | add (k : Fin 66) (w : Word)
  /-- ADC (R433): gd := ga + gb + C. -/
  | adc (k : Fin 66) (w : Word)
  /-- SUB (R433): gd := ga + ~gb + 1. -/
  | sub (k : Fin 66) (w : Word)
  /-- SBC (R433): gd := ga + ~gb + C. -/
  | sbc (k : Fin 66) (w : Word)
  /-- AND (R433): gd := ga & gb. -/
  | and (k : Fin 66) (w : Word)
  /-- OR (R433): gd := ga | gb. -/
  | or (k : Fin 66) (w : Word)
  /-- XOR (R433): gd := ga ^ gb. -/
  | xor (k : Fin 66) (w : Word)
  /-- ANDN (R433): gd := ga & ~gb. -/
  | andn (k : Fin 66) (w : Word)
  /-- SHL (R433): Shift left by gb[7:0]. -/
  | shl (k : Fin 66) (w : Word)
  /-- SHR (R433): Logical shift right by gb[7:0]. -/
  | shr (k : Fin 66) (w : Word)
  /-- SAR (R433): Arithmetic shift right by gb[7:0]. -/
  | sar (k : Fin 66) (w : Word)
  /-- ROR (R433): Rotate right by gb[4:0]. -/
  | ror (k : Fin 66) (w : Word)
  /-- MIN (R433): Signed minimum. -/
  | min (k : Fin 66) (w : Word)
  /-- MAX (R433): Signed maximum. -/
  | max (k : Fin 66) (w : Word)
  /-- MINU (R433): Unsigned minimum. -/
  | minu (k : Fin 66) (w : Word)
  /-- MAXU (R433): Unsigned maximum. -/
  | maxu (k : Fin 66) (w : Word)
  /-- CLZ (R433): Count of leading zero bits of ga. -/
  | clz (k : Fin 66) (w : Word)
  /-- SEXTB (R433): Sign-extend byte. -/
  | sextb (k : Fin 66) (w : Word)
  /-- SEXTH (R433): Sign-extend halfword. -/
  | sexth (k : Fin 66) (w : Word)
  /-- SEL (R433): Select ga or gb by condition. -/
  | sel (k : Fin 66) (w : Word)
  /-- SLT (R433): Set if signed less than. -/
  | slt (k : Fin 66) (w : Word)
  /-- SLTU (R433): Set if unsigned less than. -/
  | sltu (k : Fin 66) (w : Word)
  /-- MUL (R435): Low word of product. -/
  | mul (k : Fin 66) (w : Word)
  /-- MULH (R435): High word of signed product. -/
  | mulh (k : Fin 66) (w : Word)
  /-- MULHU (R435): High word of unsigned product. -/
  | mulhu (k : Fin 66) (w : Word)
  /-- DIV (R435): Signed division, DIVIDE on zero divisor. -/
  | div (k : Fin 66) (w : Word)
  /-- DIVU (R435): Unsigned division. -/
  | divu (k : Fin 66) (w : Word)
  /-- REM (R435): Signed remainder. -/
  | rem (k : Fin 66) (w : Word)
  /-- REMU (R435): Unsigned remainder. -/
  | remu (k : Fin 66) (w : Word)
  /-- ADDI (R436): Add sign-extended immediate. -/
  | addi (k : Fin 66) (w : Word)
  /-- ANDI (R436): AND zero-extended immediate. -/
  | andi (k : Fin 66) (w : Word)
  /-- ORI (R436): OR zero-extended immediate. -/
  | ori (k : Fin 66) (w : Word)
  /-- XORI (R436): XOR zero-extended immediate. -/
  | xori (k : Fin 66) (w : Word)
  /-- LUI (R436): Load immediate into the upper half. -/
  | lui (k : Fin 66) (w : Word)
  /-- CMPI (R436): Compare with immediate, setting flags. -/
  | cmpi (k : Fin 66) (w : Word)
  /-- SHLI (R434): Shift left by immediate. -/
  | shli (k : Fin 66) (w : Word)
  /-- SHRI (R434): Logical shift right by immediate. -/
  | shri (k : Fin 66) (w : Word)
  /-- SARI (R434): Arithmetic shift right by immediate. -/
  | sari (k : Fin 66) (w : Word)
  /-- RORI (R434): Rotate right by immediate. -/
  | rori (k : Fin 66) (w : Word)
  /-- LDW (R437): Load word. -/
  | ldw (k : Fin 66) (w : Word)
  /-- LDH (R437): Load sign-extended halfword. -/
  | ldh (k : Fin 66) (w : Word)
  /-- LDHU (R437): Load zero-extended halfword. -/
  | ldhu (k : Fin 66) (w : Word)
  /-- LDB (R437): Load sign-extended byte. -/
  | ldb (k : Fin 66) (w : Word)
  /-- LDBU (R437): Load zero-extended byte. -/
  | ldbu (k : Fin 66) (w : Word)
  /-- STW (R437): Store word. -/
  | stw (k : Fin 66) (w : Word)
  /-- STH (R437): Store halfword. -/
  | sth (k : Fin 66) (w : Word)
  /-- STB (R437): Store byte. -/
  | stb (k : Fin 66) (w : Word)
  /-- B (R438): Conditional branch with delay slot. -/
  | b (k : Fin 66) (w : Word)
  /-- J (R438): Jump with delay slot. -/
  | j (k : Fin 66) (w : Word)
  /-- JAL (R438): Jump and link with delay slot. -/
  | jal (k : Fin 66) (w : Word)
  /-- JR (R438): Jump to register with delay slot. -/
  | jr (k : Fin 66) (w : Word)
  /-- JALR (R438): Jump to register and link with delay slot. -/
  | jalr (k : Fin 66) (w : Word)
  /-- LOOP (R409): Sets up a hardware loop level. -/
  | loop (k : Fin 66) (w : Word)
  /-- MFS (R440): Read a special register. -/
  | mfs (k : Fin 66) (w : Word)
  /-- MTS (R395): Write a special register under the privilege rules. -/
  | mts (k : Fin 66) (w : Word)
  /-- ERET (R403): Return from exception, restoring STATUS and PC. -/
  | eret (k : Fin 66) (w : Word)
  /-- SYSCALL (R443): Raises SYSCALL with its code in EBADADDR. -/
  | syscall (k : Fin 66) (w : Word)
  /-- BREAK (R443): Raises BREAK, or halts under a debugger. -/
  | hBreak (k : Fin 66) (w : Word)
  /-- LOCK (R412): Opens a locked sequence. -/
  | lock (k : Fin 66) (w : Word)
  /-- UNLOCK (R412): Closes a locked sequence, writing buffered stores atomically or discarding them. -/
  | unlock (k : Fin 66) (w : Word)
  /-- SYNC (R445): Waits until every earlier store has taken effect. -/
  | sync (k : Fin 66) (w : Word)
  /-- WAIT (R442): Waits for an enabled pending interrupt line. -/
  | wait (k : Fin 66) (w : Word)
  /-- IINV_ALL (R441): Empties the XIP fetch buffer or Canopy instruction cache. -/
  | iinvAll (k : Fin 66) (w : Word)
  /-- IINV_LINE (R441): Empties the line holding address ga. -/
  | iinvLine (k : Fin 66) (w : Word)
  /-- DCLEAN_LINE (R441): Writes back a data-cache line, or acts as SYNC on a tile core. -/
  | dcleanLine (k : Fin 66) (w : Word)
  /-- DINV_LINE (R441): Invalidates a data-cache line without write-back, or acts as SYNC. -/
  | dinvLine (k : Fin 66) (w : Word)
  /-- DCLEAN_ALL (R441): Writes back every dirty data-cache line, or acts as SYNC. -/
  | dcleanAll (k : Fin 66) (w : Word)
  /-- INTERRUPT (R404): An enabled pending line is taken at the next allowed boundary. -/
  | interrupt (k : Fin 66)
  /-- TI_PLACE (R400): A write of TI_PLACE places the staged segment on the trail and reports the result. -/
  | tiPlace (n : Fin 64)
  /-- TI_RELEASE (R37): A write of TI_RELEASE meets an ON_HIKER start condition with its code. -/
  | tiRelease (n : Fin 64) (code : BitVec 16)
  /-- TI_ALARM_ARM (R400): A write of TI_ALARM_HI arms the tile-interface alarm. -/
  | tiAlarmArm (n : Fin 64) (v : Word)
  /-- TI_ALARM_DISARM (R399): TI_ALARM_CTL disarm disarms the alarm. -/
  | tiAlarmDisarm (n : Fin 64)
  /-- TI_ALARM_FIRE (R400): The alarm time arrives and raises line 8. -/
  | tiAlarmFire (n : Fin 64)
  /-- HIKER_USER (R399): A write of TI_EVENT3 writes a HIKER_USER event. -/
  | hikerUser (n : Fin 64) (v : Word)
  /-- CORE_MAIL_SEND (R401): A write of TI_MBOX_OUT3 sends a core message or is refused while out_full. -/
  | coreMailSend (n : Fin 64) (v : Word)
  /-- IN_ACK (R401): TI_MBOX_CTL in_ack releases the host message. -/
  | inAck (n : Fin 64)
  /-- HOST_MAIL_SEND (R401): A write of HIKER_MBOX_TO3 sends a host message, raises line 6 and wakes the tile. -/
  | hostMailSend (n : Fin 64) (v : Word)
  /-- FROM_ACK (R417): HIKER_MBOX_CTL from_ack releases the core message and raises line 7. -/
  | fromAck (n : Fin 64)
  /-- HIKER_START (R419): HIKER_CTL start loads from src and runs, resumes a stopped core, or is refused. -/
  | hikerStart (n : Fin 64) (v : Word)
  /-- HIKER_STOP (R419): HIKER_CTL stop stops the core at the next allowed boundary. -/
  | hikerStop (n : Fin 64)
  /-- HIKER_RESET (R419): HIKER_CTL reset stops the core at once and returns it to RESET. -/
  | hikerReset (n : Fin 64)
  /-- HIKER_LOAD_DONE (R425): An image load completes and the core starts at entry, or the load fails. -/
  | hikerLoadDone (n : Fin 64) (img : Option (List Byte))
  /-- HIKER_LOAD (R424): Descriptor that delivers a tile image from host memory for a waiting load. -/
  | hikerLoad (d : Desc) (img : Option (List Byte))
  /-- SQ_DOORBELL (R456): A doorbell with an SQ qid sets the tail, or is bad. -/
  | sqDoorbell (v : Word)
  /-- CQ_DOORBELL (R456): A doorbell with a CQ qid sets the head, or is bad. -/
  | cqDoorbell (v : Word)
  /-- EV_DOORBELL (R456): A doorbell with an event-ring qid sets the head, or is bad. -/
  | evDoorbell (v : Word)
  /-- DESCRIPTOR_FETCH (R462): Hamper reads a command's slots from a submission ring and checks tag and target. -/
  | descriptorFetch (q : Fin 128) (slots : Option (List (List Byte)))
  /-- COMPLETION_RELEASE (R474): A completion held for a full CQ is written when space appears. -/
  | completionRelease (c : Fin 64)
  /-- COAL_TIMER (R473): coal_us after the first unsignalled completion the ring's vector is sent. -/
  | coalTimer (r : Fin 72)
  /-- NOP (R466): Descriptor that completes with no action. -/
  | nop (d : Desc)
  /-- SEGMENT (R469): Descriptor that places one segment on a trail. -/
  | segment (d : Desc)
  /-- REG_WRITE (R466): Descriptor that writes 1 to 6 register words as host writes. -/
  | regWrite (d : Desc)
  /-- REG_READ (R466): Descriptor that reads 1 or 2 register words. -/
  | regRead (d : Desc)
  /-- HANDLE_ALLOC (R505): Descriptor that allocates the lowest free axis handle. -/
  | handleAlloc (d : Desc)
  /-- HANDLE_FREE (R505): Descriptor that frees an axis handle. -/
  | handleFree (d : Desc)
  /-- TIME_SET (R523): Descriptor to the master that sets site time by slew or step. -/
  | timeSet (d : Desc)
  /-- FENCE (R537): Descriptor that writes a FENCE event ordering all events before and after. -/
  | fence (d : Desc)
  /-- SCHED_DUE (R533): A held scheduled command becomes due and acts, or completes SCHED_DONE. -/
  | schedDue
  /-- JOURNAL_WRITE (R481): A staged journal record is written when its ring has room, or dropped. -/
  | journalWrite
  /-- JR_HEAD_WRITE (R460): A write of JR_HEAD moves the consumed offset or is refused. -/
  | jrHeadWrite (j : Fin 4) (v : BitVec 64)
  /-- SQ_CFG_WRITE (R457): A write of SQ_CFG enables or disables a queue, resetting its indexes. -/
  | sqCfgWrite (q : Fin 128) (v : Word)
  /-- CQ_CFG_WRITE (R458): A write of CQ_CFG enables or disables a completion ring. -/
  | cqCfgWrite (c : Fin 64) (v : Word)
  /-- EV_CFG_WRITE (R459): A write of EV_CFG enables or disables an event ring. -/
  | evCfgWrite (e : Fin 8) (v : Word)
  /-- JR_CFG_WRITE (R460): A write of JR_CFG enables or disables a journal ring. -/
  | jrCfgWrite (j : Fin 4) (v : Word)
  /-- MAILBOX_GO (R485): MB_CTL go submits the mailbox slot as the next slot of SQ 0, or is refused. -/
  | mailboxGo
  /-- MB_CPL_POP (R485): A read of MB_CPL3 pops the oldest completion. -/
  | mbCplPop
  /-- MB_EVT_POP (R485): A read of MB_EVT7 pops the oldest event record. -/
  | mbEvtPop
  /-- HELLO (R491): A received HELLO frame brings the port UP or REFUSED. -/
  | hello (p : Fin 4) (f : Frame)
  /-- HELLO_SEND (R491): An aligned port sends HELLO every 10 µs until it holds the peer's. -/
  | helloSend (p : Fin 4)
  /-- LINK_ACK (R496): A received LINK_ACK frees credit and triggers replays on NAK. -/
  | linkAck (p : Fin 4) (f : Frame)
  /-- LINK_ACK_SEND (R493): An idle port sends LINK_ACK at least every 20 µs. -/
  | linkAckSend (p : Fin 4)
  /-- LINK_DOWN (R493): An UP port loses alignment, signal or frames, floods ROUTE_LOST and fails its commands. -/
  | linkDown (p : Fin 4) (aligned : Bool)
  /-- SFP_SIGNAL_CHANGE (R491): A module sideband pin changes and the port state follows. -/
  | sfpSignalChange (p : Fin 4) (modAbs los txFault : Bool) (page : Byte × Byte)
  /-- REPLAY_TIMEOUT (R496): 20 µs without acknowledgement replays frames, entering FAULT after 8 replays. -/
  | replayTimeout (p : Fin 4)
  /-- PORT_FAULT_END (R491): A port in FAULT returns to TRAINING after 1 ms. -/
  | portFaultEnd (p : Fin 4)
  /-- FRAME_FORWARD (R503): A routed frame arrives and is consumed, forwarded on a port, or discarded. -/
  | frameForward (p : Fin 4) (f : Frame) (hcrcOk pcrcOk : Bool) (host : Option (List Byte))
  /-- CHAIN_ALARM_SEND (R499): While a domain is raised the device floods CHAIN_ALARM every 100 µs. -/
  | chainAlarmSend
  /-- CHAIN_ALARM (R499): A received CHAIN_ALARM asserts its domains and latches bit 22 on local tiles. -/
  | chainAlarm (p : Fin 4) (f : Frame)
  /-- DOMAIN_DEASSERT (R499): 350 µs after the last CHAIN_ALARM a domain deasserts. -/
  | domainDeassert (d : Fin 16)
  /-- GROUP_ALARM_COPY (R500): The raising device floods its group alarm copies 100 µs apart. -/
  | groupAlarmCopy (k : Fin 16)
  /-- GROUP_ALARM (R500): A received GROUP_ALARM frame takes the local members to Lull. -/
  | groupAlarm (p : Fin 4) (f : Frame)
  /-- GROUP_ALARM_EXPIRY (R500): The group alarm assertion ends after its hold time. -/
  | groupAlarmExpiry (k : Fin 16)
  /-- SCALE_REQ (R95): A received SCALE_REQ frame records a device request with its apply time. -/
  | scaleReq (p : Fin 4) (f : Frame)
  /-- DISCARD_NOTICE (R108): A received discard notice retires or alarms on the named segment. -/
  | discardNotice (p : Fin 4) (f : Frame)
  /-- GUST_REQ (R227): The leader acts on a GUST request with a group ABORT and a retract move. -/
  | gustReq (p : Fin 4) (f : Frame)
  /-- PLAN_CHECKSUM_FRAME (R104): The leader compares a received plan checksum with the others of its tick. -/
  | planChecksumFrame (p : Fin 4) (f : Frame)
  /-- COMMAND_FRAME (R464): A COMMAND frame delivers descriptor slots to the target device. -/
  | commandFrame (p : Fin 4) (f : Frame)
  /-- COMPLETION_FRAME (R464): A COMPLETION frame returns to the root, which writes it to its CQ. -/
  | completionFrame (p : Fin 4) (f : Frame)
  /-- GROUP_SEG (R86): A GROUP_SEG frame places a member segment on a member device. -/
  | groupSeg (p : Fin 4) (f : Frame)
  /-- START_FRAME (R97): A START frame writes T0 into the member's head segment. -/
  | startFrame (p : Fin 4) (f : Frame)
  /-- EPOCH_FRAME (R106): An EPOCH frame makes a member adopt a newer epoch and re-signal ready. -/
  | epochFrame (p : Fin 4) (f : Frame)
  /-- READY_FRAME (R97): The leader receives a member's READY. -/
  | readyFrame (p : Fin 4) (f : Frame)
  /-- GROUP_CMD_FRAME (R99): A GROUP_CMD frame schedules a group command on a member device. -/
  | groupCmdFrame (p : Fin 4) (f : Frame)
  /-- LEADER_STATE (R106): The new leader receives the old leader's state. -/
  | leaderState (p : Fin 4) (f : Frame)
  /-- ROLL_CALL_GO (R502): USF_ROLL go starts a roll call at the roll-call root, or is refused. -/
  | rollCallGo
  /-- ROLL_CALL (R502): A ROLL_CALL frame assigns a route and the device numbers its branches. -/
  | rollCall (p : Fin 4) (f : Frame)
  /-- ROLL_REPLY (R502): A ROLL_REPLY returns the next number at a level. -/
  | rollReply (p : Fin 4) (f : Frame)
  /-- ROLL_ENTRY (R502): The roll-call root records a device's ROLL_ENTRY. -/
  | rollEntry (p : Fin 4) (f : Frame)
  /-- ROLL_TIMEOUT (R502): A ROLL_REPLY missing for 10 ms ends the roll call with TIMEOUT. -/
  | rollTimeout
  /-- AUTHORITY (R513): A received AUTHORITY frame applies a claim to the device's authority state. -/
  | authority (p : Fin 4) (f : Frame)
  /-- HANDLE_SYNC (R515): A HANDLE_SYNC frame applies an allocation or free at the other root. -/
  | handleSync (p : Fin 4) (f : Frame)
  /-- ROUTE_LOST (R493): A ROUTE_LOST frame completes affected tracked commands with LINK_DOWN at roots. -/
  | routeLost (p : Fin 4) (f : Frame)
  /-- TUNNEL_WRITE (R507): The root performs a tunnelled host-memory write and sends its vector. -/
  | tunnelWrite (p : Fin 4) (f : Frame) (ok : Bool)
  /-- TUNNEL_READ (R507): The root reads host memory and answers with TUNNEL_DATA. -/
  | tunnelRead (p : Fin 4) (f : Frame) (data : Option (List Byte))
  /-- TUNNEL_DATA (R507): The requester receives tunnelled read data. -/
  | tunnelData (p : Fin 4) (f : Frame)
  /-- SFP_ACCESS (R490): SFP_CMD go runs one two-wire byte access to the module. -/
  | sfpAccess (p : Fin 4) (v : Word)
  /-- DDM_POLL (R489): Every 1 s the port reads the module's A2h diagnostics. -/
  | ddmPoll (p : Fin 4) (temp rx flags : BitVec 16)
  /-- MIRROR_POLL (R509): Every poll_us the device reads the head mirror and applies changed heads. -/
  | mirrorPoll
  /-- SYNC_SEND (R525): Every interval a device sends SYNC and FOLLOW_UP to each child. -/
  | syncSend
  /-- SYNC_FRAME (R525): A child receives SYNC and answers with DELAY_REQ. -/
  | syncFrame (b : List Byte)
  /-- FOLLOW_UP (R525): A child receives the SYNC sending count. -/
  | followUp (b : List Byte)
  /-- DELAY_REQ (R525): A parent receives DELAY_REQ and returns DELAY_RESP. -/
  | delayReq (p : Fin 4) (b : List Byte)
  /-- DELAY_RESP (R526): A child computes delay and offset and steers its rate and lock state. -/
  | delayResp (b : List Byte)
  /-- HOLDOVER_TIMEOUT (R526): No SYNC for 10 intervals takes a LOCKED follower to HOLDOVER. -/
  | holdoverTimeout
  /-- PPS_EDGE (R524): An accepted PPS_IN edge captures the count and yields a correction. -/
  | ppsEdge (fall : Bool)
  /-- TIME_STEP_APPLY (R529): On the tick whose count is A the count becomes N and the epoch changes. -/
  | timeStepApply
  /-- CANOPY_SCAN (R554): Every 50 µs Canopy tests each scanned tile and may raise its veto. -/
  | canopyScan (one : Bool)
  /-- GOVERNOR_ROUND (R562): Every 100 µs the governor revokes, grants and moves full-mode grants and loans. -/
  | governorRound
  /-- LOCKSTEP_MISMATCH (R545): A lane difference stops the pair and takes every tile to Lull with bit 19. -/
  | lockstepMismatch (lane : Fin 5)
  /-- COMPARATOR_SELFTEST (R547): Every 100 ms a flipped bit is injected into each shadow lane. -/
  | comparatorSelftest (ok : Bool)
  /-- SCAN_WATCHDOG (R548): 200 µs without a SCAN_KICK has the effect of a mismatch. -/
  | scanWatchdog (one : Bool)
  /-- CANOPY_ECC_ERROR (R546): A Canopy ECC error is corrected, refetched or treated as a mismatch. -/
  | canopyEccError (b correctable dirty : Bool) (addr : Word)
  /-- VETO_RAISE (R541): A write of VETO_RAISE raises tile veto lines. -/
  | vetoRaise (one hi : Bool) (v : Word)
  /-- VETO_DROP (R541): A write of VETO_DROP drops veto lines of ticketed tiles only. -/
  | vetoDrop (one hi : Bool) (v : Word)
  /-- SCAN_KICK (R548): A write of SCAN_KICK restarts the scan watchdog. -/
  | scanKick (one : Bool)
  /-- LOCKS_SET (R541): A write of LOCKS sets TRIP_LOCK or FB_LOCK. -/
  | locksSet (one : Bool) (v : Word)
  /-- HOST_KICK (R554): A write of CANOPY_KICK restarts the host watchdog. -/
  | hostKick
  /-- CMB_STATUS (R558): Canopy mailbox STATUS request returns status words. -/
  | cmbStatus
  /-- CMB_CHECKPOINT (R558): Canopy mailbox CHECKPOINT request commits a checkpoint of every tile. -/
  | cmbCheckpoint
  /-- CMB_VERSION (R558): Canopy mailbox VERSION request returns firmware identity. -/
  | cmbVersion
  /-- SAFETY_REG_WRITE (R580): SAFETY_WRITE kind 0x00 writes a locked register field. -/
  | safetyRegWrite (d : Desc)
  /-- SAFETY_TABLE_WRITE (R580): SAFETY_WRITE kind 0x01 writes a safety-table word. -/
  | safetyTableWrite (d : Desc)
  /-- SPLIT_OWN_WRITE (R580): SAFETY_WRITE kind 0x02 sets split ownership from the next Dawn. -/
  | splitOwnWrite (d : Desc)
  /-- COMMAND_VETO (R580): SAFETY_WRITE kind 0x03 vetoes named tiles with cause COMMAND. -/
  | commandVeto (d : Desc)
  /-- INSTALL (R575): KEY_CHANGE INSTALL unwraps and installs a key with rights. -/
  | install (d : Desc)
  /-- ERASE (R575): KEY_CHANGE ERASE empties a key slot unless it is the last with right 1. -/
  | erase (d : Desc)
  /-- PROVISION (R573): KEY_CHANGE PROVISION installs the first key in clear into slot 0. -/
  | provision (d : Desc)
  /-- IMAGE_ACTIVATE (R581): Keyed command that selects the boot slot of the next Dawn. -/
  | imageActivate (d : Desc)
  /-- LULL_RELEASE (R582): Keyed command that drops the veto of named tiles whose condition no longer persists. -/
  | lullRelease (d : Desc)
  /-- AUTHORITY_CLAIM (R583): Keyed command to a root that floods and applies an authority claim. -/
  | authorityClaim (d : Desc)
  /-- EPOCH_RESET (R584): Keyed command that returns the time epoch to 0 at an announced step. -/
  | epochReset (d : Desc)
  /-- BENCH_MODE (R585): Keyed command that enters or leaves bench mode. -/
  | benchMode (d : Desc)
  /-- LOCKOUT_END (R579): A lockout's duration elapses and the failure count resets. -/
  | lockoutEnd
  /-- DOZE_REQUEST (R596): PWR_CTL go with target Doze enters Doze or is refused. -/
  | dozeRequest
  /-- TWILIGHT_REQUEST (R596): PWR_CTL go with target Twilight enters Twilight or is refused. -/
  | twilightRequest
  /-- NIGHT_REQUEST (R596): PWR_CTL go with target Night enters Night or is refused. -/
  | nightRequest
  /-- DUSK_TEST (R601): PWR_CTL dusk_test runs Dusk with cause TEST in bench mode. -/
  | duskTest
  /-- AUTO_DOZE (R599): All tiles Asleep for doze_delay takes the device to Doze. -/
  | autoDoze
  /-- DEVICE_WAKE (R600): An enabled wake source returns the device toward Run and writes a WAKE event. -/
  | deviceWake (b : Fin 7)
  /-- LK_ALARM_ARM (R601): A write of LK_ALARM_HI arms the wake alarm. -/
  | lkAlarmArm (who : Requester) (v : Word)
  /-- DUSK_START (R605): A supply, rail or clock cause starts Dusk, taking every tile to Lull and committing positions. -/
  | duskStart (cause : Fin 3)
  /-- DUSK_OUTCOME (R607): After the Dusk commit Lookout decides RECOVERED, NIGHT or NO_COMMIT. -/
  | duskOutcome
  /-- X32_LOSS (R589): The 32.768 kHz crystal stops for 1 ms and Lookout runs from RC. -/
  | x32Loss
  /-- X32_RESTORE (R589): After 100 ms of good edges Lookout returns to the crystal. -/
  | x32Restore
  /-- REF_CLOCK_LOSS (R590): The 25 MHz reference is lost and Dusk may start. -/
  | refClockLoss
  /-- SUPPLY_FALL (R604): VDD_AON or VDDIO below its limit holds the device in Off. -/
  | supplyFall
  /-- CHECKPOINT_COMMIT (R621): Canopy commits a checkpoint record of every tile's position and bound. -/
  | checkpointCommit
  /-- CKPT_TIMER (R621): timer_min minutes after a commit with motion a checkpoint is requested. -/
  | ckptTimer
  /-- BLOCK_FAILURE (R625): A failed block is retired to a spare, or frugal mode and victims apply. -/
  | blockFailure (b : Fin 1704)
  /-- RECORD_REFRESH (R629): Every 24 h old records are copied forward. -/
  | recordRefresh
  /-- PS_LOAD_GO (R631): PS_LOAD_CTL go reads an image from host memory and writes it to a slot. -/
  | psLoadGo (kind : Fin 2) (number : Byte)
  /-- PS_LOG_DATA_READ (R632): A read of PS_LOG_DATA returns a log word and advances the word index. -/
  | psLogDataRead
  /-- PARAM_SAVE (R692): PARAM_SAVE go commits changed DEVICE and TILE records. -/
  | paramSave
  /-- SPC_GO (R639): SPC_CMDk go starts a full-duplex frame, or is refused. -/
  | spcGo (k : Fin 4)
  /-- SPC_FLUSH_TX (R637): SPC_CMDk flush_tx empties the transmit FIFO. -/
  | spcFlushTx (k : Fin 4)
  /-- SPC_FLUSH_RX (R637): SPC_CMDk flush_rx empties the receive FIFO. -/
  | spcFlushRx (k : Fin 4)
  /-- SPC_ABORT (R640): SPC_CMDk abort ends the frame at the next word boundary. -/
  | spcAbort (k : Fin 4) (last : Bool)
  /-- SPC_TX_PUSH (R637): A write of SPC_TXk pushes a word into the transmit FIFO. -/
  | spcTxPush (k : Fin 4) (w : Word)
  /-- SPC_RX_POP (R637): A read of SPC_RXk pops a received word. -/
  | spcRxPop (k : Fin 4)
  /-- SPC_FRAME_DONE (R639): A frame's last word and lag complete and the select is released. -/
  | spcFrameDone (k : Fin 4) (got : List Word)
  /-- XIP_DISCOVERY (R643): Setting XIP_CFG enable or rediscover reads SFDP and chooses a verified read. -/
  | xipDiscovery
  /-- XIP_LINE_READ (R644): A fetch-buffer miss reads a 32-byte line from the NOR. -/
  | xipLineRead (k : Fin 66) (o : BitVec 28) (wait : Nat) (got : Option (List Byte))
  /-- SPT_COMMAND (R647): A command word on SPT performs a read, write or NOP of BAR0. -/
  | sptCommand (w : Word) (data : List Word) (waits : List Nat)
  /-- SPT_DESELECT (R649): SPT_CS_N rises, performing or rejecting a framed-mode frame. -/
  | sptDeselect (part : Fin 32)
  /-- DAWN (R657): The Dawn sequence takes the device from reset or Night through stages L to K. -/
  | dawn (straps : Fin 32) (refclk selfOk : Bool) (nor : Option (List Byte))
  /-- POWER_ON (R655): The power-on monitors release and a Dawn with cause POWER_ON starts. -/
  | powerOn
  /-- DEVICE_RESET (R655): A write of the key to DEVICE_RESET starts a Dawn. -/
  | deviceReset (v : Word)
  /-- RECOVERY_DONE (R661): A boot slot loaded in recovery starts a Dawn with cause RECOVERY_DONE. -/
  | recoveryDone
  /-- DBG_VIEW_READ (R666): Debug access that reads a register without side effects. -/
  | dbgViewRead (jtag : Bool)
  /-- DBG_CONSUME_READ (R666): Debug access that reads with every side effect of a host read. -/
  | dbgConsumeRead (jtag : Bool)
  /-- DBG_WRITE (R666): Debug access that writes as a host write. -/
  | dbgWrite (jtag : Bool)
  /-- DBG_HALT (R669): DBG_HALT requests a halt of tile cores at the next allowed boundary. -/
  | dbgHalt (hi : Bool) (v : Word)
  /-- DBG_RESUME (R669): DBG_RESUME restarts halted tile cores. -/
  | dbgResume (hi : Bool) (v : Word)
  /-- DBG_STEP (R669): DBG_STEP executes one instruction of halted tile cores. -/
  | dbgStep (hi : Bool) (v : Word)
  /-- CANOPY_HALT (R551): DBG_CANOPY halt halts Canopy, breaking lockstep. -/
  | canopyHalt
  /-- CANOPY_RESUME (R670): DBG_CANOPY resume resumes the halted Canopy core. -/
  | canopyResume
  /-- CANOPY_STEP (R670): DBG_CANOPY step steps the halted Canopy core. -/
  | canopyStep
  /-- JTAG_DBG_UPDATE (R668): Update-DR of DBG_ACCESS reads or writes a debug-block word. -/
  | jtagDbgUpdate (w : BitVec 41)
  /-- EXTEST (R664): TAP instruction that drives pins from the boundary scan. -/
  | extest (cells : List (Fin 64 × Fin 256))
  /-- SAMPLE_PRELOAD (R663): TAP instruction that samples or preloads the boundary scan. -/
  | samplePreload (cells : List (Fin 64 × Fin 256))
  /-- IDCODE (R663): TAP instruction that selects the identification register. -/
  | idcode
  /-- CLAMP (R664): TAP instruction that holds pins and selects bypass. -/
  | clamp
  /-- HIGHZ (R664): TAP instruction that floats outputs and selects bypass. -/
  | highz
  /-- EXTEST_PULSE (R663): IEEE 1149.6 pulse instruction on AC-coupled lanes. -/
  | extestPulse (cells : List (Fin 64 × Fin 256))
  /-- EXTEST_TRAIN (R663): IEEE 1149.6 train instruction on AC-coupled lanes. -/
  | extestTrain (cells : List (Fin 64 × Fin 256))
  /-- DBG_ACCESS (R668): TAP instruction that selects the 41-bit debug register. -/
  | dbgAccess
  /-- BYPASS (R663): TAP instruction that selects the bypass register. -/
  | bypass
  /-- TAP_RESET (R663): Five TCK periods with TMS high reset the TAP. -/
  | tapReset
  /-- SRAM_PAGE_WRITE (R685): A write of SRAM_PAGE selects the window page or is refused. -/
  | sramPageWrite (dbg : Bool) (v : Word)
  /-- WINDOW_READ (R686): A read through the paged window returns SRAM bytes of the page. -/
  | windowRead (dbg : Bool) (a : BitVec 19) (k : Fin 3)
  /-- WINDOW_WRITE (R687): A write through the paged window is accepted or ignored by region. -/
  | windowWrite (dbg : Bool) (a : BitVec 19) (k : Fin 3) (v : Word)
  /-- REGISTER_WRITE (R7): A write to a register without its own row acts by the access codes of its fields. -/
  | registerWrite (who : Requester) (at_ : RegAddr) (len : Fin 5) (v : Word)
  /-- LINK_ALIGNMENT_CHANGE (R491): A port gains or loses block lock or synchronisation and moves between TRAINING and HELLO. -/
  | linkAlignmentChange (p : Fin 4) (on : Bool)
  /-- DEAD_TIME_EXPIRY (R250): The dead time since the other gate of a leg turned off elapses and a pending gate turn-on takes effect. -/
  | deadTimeExpiry (n : Fin 64) (k : Fin 4)
  /-- DUTY_COMPARE (R257): In duty mode the leg timer reaches a compare point within the period and a leg's request changes between H and L. -/
  | dutyCompare (n : Fin 64) (k : Fin 4) (high : Bool)
  /-- BLANKING_END (R136): The blanking after a gate edge ends and a window output already present is acted on by the chopper or trip path. -/
  | blankingEnd (n : Fin 64) (x : Fin 2) (l : List Sample) (edge : Nat)
  /-- REFERENCE_SETTLED (R299): A reference's settled flag sets once its condition has held for its settling time, letting a tile energise and scan results lose the unsettled flag. -/
  | referenceSettled (u : Option (Fin 4)) (r : Fin 3) (ok : Bool)
  /-- PCIE_PERST (R706): PCIE_PERST_N changes, holding the PCIe block in reset or releasing it without resetting the device. -/
  | pciePerst (low : Bool)
  /-- ACQUIRING_TIMEOUT (R532): 100 ms after a wake a device still ACQUIRING keeps its time unlocked and lets its tiles energise. -/
  | acquiringTimeout
  /-- PPS_SILENCE (R522): 1.1 s after the last accepted PPS_IN edge the master leaves MASTER_PPS for MASTER and writes a TIME_STATE event. -/
  | ppsSilence
  /-- AT_PPS_TIMEOUT (R523): A TIME_SET with at_pps that sees no accepted PPS_IN edge within 1.1 s completes REFUSED. -/
  | atPpsTimeout
  /-- PPS_OUT_PULSE (R524): With pps_out set, every device drives PPS_OUT H for 100 µs from each whole second of its count. -/
  | ppsOutPulse
  /-- CONTEST_REPORT (R514): Every 1 s in CONTEST each root writes an AUTHORITY event with outcome contest. -/
  | contestReport
  /-- PS_LOAD_DONE (R631): A parameter-store image load ends, writing its result and a STORE_LOAD event. -/
  | psLoadDone (img : Option (List Byte))
  /-- PARAM_SAVE_DONE (R692): A PARAM_SAVE ends, clearing busy and writing result and records. -/
  | paramSaveDone
  /-- XIP_DISCOVERY_DONE (R643): XIP discovery completes its SFDP reads and verification and sets ready. -/
  | xipDiscoveryDone (d : Option Sfdp) (ok114 ok144 : Bool)
  /-- SFP_ACCESS_DONE (R490): A two-wire byte access to the module ends, clearing busy and setting data or nak. -/
  | sfpAccessDone (p : Fin 4) (got : Option Byte)
  deriving DecidableEq, Repr

end Sys2Proof
end

