-- ==== Sys2Proof/Machine/State.lean ====
section
/-! DEFINITION. The machine's state as plain data: the registers of the register map (Machine/Regs.lean gives their
offsets), the SRAMs and stores by address, the host memory the device has written, and the state the chapters of spec/
give the block beside its registers. INVENTORY.md lists every piece with its rule and its reset value. -/

namespace Sys2Proof.Machine

/-- Why a command stops the machine. -/
inductive Fault where
  /-- Raised by no command of this model: every row of the table has an effect in every state, and an operand outside
  the part's tables is answered as the spec answers it (BAD_FIELD, BAD_ADDR, BAR_ERR) or leaves the state unchanged.
  Kept so that the type of faults is not empty. Safe: the machine stops where the hardware has no such event. -/
  | noSuchUnit (what : String)
  deriving DecidableEq, Repr

/-- Why a command is refused by the model. -/
inductive Refusal where
  /-- Raised by a row of the table that has no meaning yet; no row is left without one. Safe: nothing is claimed of it. -/
  | notModelled (mnemonic : String)
  deriving DecidableEq, Repr

/-- A segment's eight words (R35). -/
structure Seg where
  w0 : Nat
  w1 : Nat
  w2 : Nat
  w3 : Nat
  w4 : Nat
  w5 : Nat
  w6 : Nat
  w7 : Nat
  deriving DecidableEq, Repr

/-- What an executing segment is being brought to rest for: R45, R55, R218, R243. -/
inductive Stopping where
  | none
  | stopped
  | aborted
  | durationEnd
  | obstructed
  | reversing
  | yielding
  | retrying
  | limit
  deriving DecidableEq, Repr

/-- The phases of a homing method (R237 HOME_STATUS.phase, R238). -/
inductive HomePhase where
  | idle | search | release | latch | index | backOff | confirm
  deriving DecidableEq, Repr

/-- Progress of a HOME segment (R238). -/
structure HomeRun where
  phase : HomePhase
  /-- Captured position Q, 32.32, when the awaited edge has come. -/
  captured : Option Int
  /-- The next phase after the present release: true for the search of a method that began with a release. -/
  toSearch : Bool
  /-- The awaited edge or force has come and the axis is coming to rest. -/
  resting : Bool
  /-- In the index phase, the switch edge has passed. -/
  switchSeen : Bool
  /-- Result code of a method that could not complete (R239). -/
  fail : Option Nat
  /-- Site time at which the method's first step began (R238, R248). -/
  began : Nat
  /-- home_pos of the reassignment that completed it, 32.32 (R238). -/
  formed : Option Int
  deriving DecidableEq, Repr

/-- The executing segment (or one held at the head under R77 or R218). -/
structure Exec where
  ptr : Nat
  seg : Seg
  /-- Planner target, 2^-70 µstep; for a GROUP_MOVE the path target; none for a VELOCITY that runs on. -/
  target : Option Int
  /-- The segment's own target while a stopping point stands in `target`. -/
  ownTarget : Int
  /-- P on the start tick. -/
  start : Int
  /-- base_i of a GROUP_MOVE, 32.32 (R87). -/
  base : Int
  /-- Ticks run, the start tick counted. -/
  ticks : Nat
  stop : Stopping
  /-- Limits raised while a policy brakes (R217, R220). -/
  accStop : Nat
  jerkStop : Nat
  /-- Target asked and clamped under R243, when the target was clamped. -/
  clamp : Option (Int × Int)
  home : HomeRun
  startTime : Nat
  startPos : Int
  peakForce : Nat
  peakEnergy : Nat
  leastConf : Nat
  peakDelta : Nat
  peakVel : Nat
  deriving DecidableEq, Repr

/-- Which way a replaced target of a waiting head segment stands (R65). -/
structure HeadReplace where
  ptr : Nat
  target : Int
  limits : Option (Nat × Nat × Nat)
  deriving DecidableEq, Repr

/-- Target replacements accepted since the last plan tick (R65, R69): the tick in force, what they replaced, and the descriptors
whose completions wait for the tick. -/
structure Replaced where
  tick : Nat
  exec : Option Exec
  headRepl : Option HeadReplace
  refs : List CmdRef
  deriving DecidableEq, Repr

/-- The planner of one tile (R49, R56, R61) and its trail's present segment. -/
structure Planner where
  /-- P in 2^-70 µstep; for a GROUP_MOVE in execution, P holds the axis and S the path. -/
  p : Int
  v : Int
  a : Int
  /-- Path position S of a GROUP_MOVE, 2^-70 µstep (R88). -/
  path : Int
  j : Nat
  am : Nat
  vm : Nat
  exec : Option Exec
  /-- Segment held at the head by lull_retry (R77) or by RETRY (R218). -/
  held : Option Exec
  /-- The held segment is to execute again (R77, R218). -/
  retry : Bool
  headRepl : Option HeadReplace
  /-- Target of the last retired MOVE segment, 2^-70, when R40 counts it as a base. -/
  lastTarget : Option Int
  /-- base_i + d_i of a group segment that retired BLENDED or DONE (R87). -/
  lastGroupEnd : Option Int
  /-- The head's ON_EVENT, ON_INPUT or ON_HIKER condition has been met since it reached the head (R37). -/
  condMet : Bool
  /-- Position write awaiting judgement (R58). -/
  posWrite : Option Nat
  /-- POS_WRAP write awaiting judgement (R245). -/
  wrapWrite : Option Nat
  /-- PLAN_CAP_V value that the budget replaced (R215), and whether it stands. -/
  savedCap : Option Nat
  /-- The previous segment handed over; the next starts on the next tick (R62). -/
  handover : Bool
  /-- Slots whose segments retire on reaching the head without starting, with their end status: EPOCH_DISCARDED (R107) or
  FLUSHED (R691). -/
  discard : List (Nat × Nat)
  /-- End of the last tick on which a GROUP_MOVE ran, its epoch and its seq (R103). -/
  groupRun : Option (Nat × Nat × Nat)
  /-- Epoch and seq of the group segments that have started since the group was formed, latest first (R108). -/
  groupRan : List (Nat × Nat)
  /-- The words of the GROUP_MOVE that executed last (R93). -/
  lastGroup : Option Seg
  /-- Per occupied slot, by pointer: the time epoch in force at placement (R37) and the full release time (R85). -/
  slots : List (Nat × Nat × Option Nat)
  /-- The plan tick that ran last: its start, and Pr at its start and at its end (R56). -/
  ran : Option (Nat × Int × Int)
  /-- The integer position at the end of the last plan tick (R74). -/
  endInt : Int
  /-- Starts of the ticks on which a segment last started, and on which a STOP or ABORT last applied (R69). -/
  startedOn : Option Nat
  stoppedOn : Option Nat
  /-- The tick of the latest placement, and the placements on it (R69). -/
  placed : Nat × Nat
  replaced : Option Replaced
  deriving DecidableEq, Repr

/-- One position-event slot's hidden state (R71 to R74). -/
structure EvtSlot where
  /-- Side of the band: false below, true above; none until one is taken. -/
  side : Option Bool
  /-- End of the last tick on which the position reached T rising, since arming or firing. -/
  rose : Option Nat
  /-- The same, falling. -/
  fell : Option Nat
  deriving DecidableEq, Repr

/-- Current levels and the tile's energising transitions (R127, R128) and timers of R21. -/
structure CurState where
  /-- The ramped code before the cap. -/
  ramped : Nat
  energising : Bool
  deenergising : Bool
  /-- Each phase has reached below lo in decay since the code reached 0 (R128). -/
  belowLoA : Bool
  belowLoB : Bool
  /-- The last started segment had keep_current and has retired, and none has started since (R127). -/
  keep : Bool
  /-- stand_delay has elapsed since Holding was entered from Moving (R127). -/
  stood : Bool
  /-- park_delay has elapsed at hold (R127). -/
  parked : Bool
  /-- Site time at which the tile last became energised (settle, R37). -/
  energisedAt : Nat
  /-- Site time of the tile's entry to the present state. -/
  enteredAt : Nat
  /-- Site times at which the trail last became empty, and at which it was last unfrozen: the timers of R21 run from them and
  from the entry to the state. -/
  emptyAt : Nat
  thawedAt : Nat
  /-- Start of the plan tick on which the code last ramped (R126). -/
  rampedOn : Option Nat
  /-- Site time since which the code in force has stood at hold, or at the cap, with hold its target (R127). -/
  heldAt : Option Nat
  /-- CUR_CAP value that YIELD replaced (R218). -/
  savedCurCap : Option Nat
  deriving DecidableEq, Repr

/-- One phase's regulator beside CHOP_STATUS (R131 to R147). -/
structure Chop where
  /-- Direction of the last ON state, 1 or −1. -/
  dir : Int
  /-- Site time of entry to the present bridge state. -/
  since : Nat
  /-- FAST was entered from ON. -/
  fromOn : Bool
  /-- Outputs of the chopper window. -/
  above : Bool
  below : Bool
  /-- Site time of the phase's last gate edge. -/
  lastEdge : Nat
  /-- Start of the present hysteresis cycle, and its times in ON and FAST so far. -/
  cycleAt : Option Nat
  tOn : Nat
  tFast : Nat
  /-- t_on, t_fast and t_cycle of the last complete hysteresis cycle. -/
  lastCycle : Option (Nat × Nat × Nat)
  integ : Int
  duty : Int
  wantDuty : Bool
  /-- Site time since which the phase has been unregulated without a break. -/
  unregAt : Option Nat
  /-- Site time of the last CHOP_OFFSET write (R140). -/
  offWritten : Option Nat
  /-- A slice of the phase's fast converter left its position in this hysteresis cycle (R154, R296). -/
  spoiled : Bool
  /-- Start of the present ON state or of the present decay, whether the window output that ends it has come, and whether
  the cycle is unregulated (R147). -/
  partAt : Nat
  seen : Bool
  cycleBad : Bool
  /-- The phase's next gate edge starts a cycle (R151); the present cycle is stored; the cycles left unstored (R153). -/
  cycleDue : Bool
  storing : Bool
  skip : Nat
  /-- Length of the last complete cycle or period, ns (R180). -/
  lastLen : Option Nat
  /-- The phase's fast converter runs at 60 MS/s in this cycle, and ran so in the cycle before (R154). -/
  rate60 : Bool
  ratePrev : Bool
  deriving DecidableEq, Repr

/-- The leg timer and gates beside LEG_STATUS (R249 to R258, R270, R272, R336). -/
structure Legs where
  /-- Values in force of LEG_DEAD, PWM_PERIOD and PWM_PHASE. -/
  deadHl : Nat
  deadLh : Nat
  minPulse : Nat
  period : Nat
  phase : Nat
  /-- N and the place of the rule of R256 in force differ from `period`, the actual length, in the one period after a write. -/
  rule : Nat
  /-- Leg clock of the last period start since the timer aligned, and site time of the last write of period or phase (R256,
  R283). -/
  start : Option Nat
  wroteAt : Option Nat
  /-- Legs that have left OFF since the tile energised, one bit each (R254). -/
  live : Nat
  /-- Gates requested, coded as LEG_OVR.gates, and the duty compares' part of it (R257). -/
  want : Nat
  cmp : Nat
  /-- Site times at which each gate last turned off, and on. -/
  offAt : Vector Nat 8
  onAt : Vector Nat 8
  /-- Legs in a refresh pulse, one bit each (R137). -/
  refresh : Nat
  /-- Legs whose last request named both gates, one bit each, and the site time at which each leg's last such request
  began (R252). -/
  both : Nat
  blockAt : Vector (Option Nat) 4
  /-- Legs in the precharge of R254, one bit each. -/
  pre : Nat
  /-- Site times since which the trip windows' outside conditions have been absent. -/
  tripFrom : Vector Nat 2
  /-- The tile clock and the leg clock run, and the site times since which they have run without a break (R277, R279). -/
  clocksRun : Vector Bool 2
  clockFrom : Vector Nat 2
  /-- Site time of each window's last WINDOW event. -/
  winEvent : Vector (Option Nat) 6
  /-- Site time of each window's last change of a threshold code, until it acts on the comparison with it (R329). -/
  thrAt : Vector (Option Nat) 6
  /-- Each window's input as its comparators last saw it, in sixteenths of a code of its threshold converters (R323, R326). -/
  winLevel : Vector Int 6
  deriving DecidableEq, Repr

/-- State a Lull keeps (R25, R274, R105). -/
structure LullState where
  /-- The tile was Moving when Lull began. -/
  fromMoving : Bool
  /-- conf stayed at or above lull_conf since Lull began. -/
  confHeld : Bool
  /-- Cause of a group alarm that took the tile to Lull, 0 for none. -/
  alarmCause : Nat
  /-- BRAKE delay line running (R274). -/
  brakeArmed : Bool
  /-- A wake request waits for the clocks (R23). -/
  wakePending : Bool
  deriving DecidableEq, Repr

/-- A request to a group's scale from one device (R93 to R95). -/
structure ScaleReq where
  /-- Route of the requesting device. -/
  device : Nat
  seq : Nat
  reqV : Nat
  reqA : Nat
  apply : Nat
  deriving DecidableEq, Repr

/-- A distributed group command awaiting its apply tick (R99). -/
structure GroupCmd where
  cmd : Nat
  target : Int
  apply : Nat
  accStop : Nat
  jerkStop : Nat
  /-- The descriptor that asked for it, completed when the command has acted. -/
  ref : Option CmdRef
  deriving DecidableEq, Repr

/-- One member as the leader holds it (R106). -/
structure Member where
  index : Nat
  depth : Nat
  tile : Nat
  route : Nat
  /-- Expected base after the segments issued so far, or the position last reported, integer µsteps (R87). -/
  base : Int
  /-- The expected base follows from segments that have not been cut off (R87). -/
  chained : Bool
  reqV : Nat
  reqA : Nat
  accStop : Nat
  jerkStop : Nat
  /-- Sequence number of the ON_GROUP segment for which the member has signalled ready (R97). -/
  ready : Option Nat
  /-- The position that the member reported with its last ready, integer µsteps (R87). -/
  reported : Int
  deriving DecidableEq, Repr

/-- A group segment that the leader has issued and that has not ended on every member (R86, R102). -/
structure GroupMove where
  seq : Nat
  /-- The descriptor that asked for it; none for the leader's own retract or remainder (R101, R227). -/
  ref : Option CmdRef
  /-- Earliest start of an ON_GROUP segment (R97, R467). -/
  earliest : Nat
  /-- Its release time or start time T0, once fixed (R92, R97). -/
  start : Option Nat
  /-- Distance by member index. -/
  dists : List (Nat × Int)
  /-- End status by member index. -/
  ended : List (Nat × Nat)
  deriving DecidableEq, Repr

/-- A plan checksum the leader holds for a tick (R103, R104). -/
structure Checksum where
  tick : Nat
  device : Nat
  crc : Nat
  covered : Nat
  deriving DecidableEq, Repr

/-- A group as this device holds it in one local slot (R80). -/
structure GroupSlot where
  tag : Nat
  epoch : Nat
  lead : Nat
  leaderHere : Bool
  leaderRoute : Nat
  leaderDepth : Nat
  /-- Member devices: route, depth. -/
  devices : List (Nat × Nat)
  members : List Member
  nextSeq : Nat
  startPending : Bool
  /-- Sequence number and distances of the segment last issued (R92). -/
  last : Option (Nat × List (Nat × Int))
  /-- The words of that segment that its members share (R86). -/
  lastSeg : Option Seg
  /-- What a group STOP left of the segment that it ended: distance by member index, and the segment's words (R101). -/
  cut : Option (List (Nat × Int) × Seg)
  moves : List GroupMove
  scales : List ScaleReq
  reqSeq : Nat
  cmds : List GroupCmd
  checks : List Checksum
  /-- The seq of a Gust retract under way (R227). -/
  retract : Option Nat
  alarmUntil : Nat
  /-- Site time of the decision of an alarm that this device raised (R500). -/
  alarmAt : Nat
  alarmCopies : Nat
  alarmCause : Nat
  alarmOrigin : Nat
  /-- The MIGRATE that hands the leadership over, until the new leader's EPOCH frame (R484). -/
  migrate : Option CmdRef
  deriving DecidableEq, Repr

/-- The point at which a tracked command completes (R469). -/
inductive Point where
  /-- When the segment in this trail slot retires. -/
  | segment (tile ptr : Nat)
  /-- When the group move with this sequence number has ended on every member. -/
  | groupMove (slot seq : Nat)
  /-- When the marker of R483 is due. -/
  | marker
  /-- When a scheduled command acts (R533). -/
  | scheduled
  /-- When the device at this route answers. -/
  | remote (route depth : Nat)
  /-- When the segment waits for a trail slot (R34). -/
  | heldSegment (tile : Nat)
  /-- Any other command: when its own action ends. -/
  | action
  deriving DecidableEq, Repr

/-- A command tracked from its fetch until its final completion (R468). -/
structure Track where
  ref : CmdRef
  point : Point
  deriving DecidableEq, Repr

/-- A completion waiting for space in its CQ (R474). -/
structure HeldCpl where
  cq : Nat
  bytes : List Byte
  irq : Bool
  deriving DecidableEq, Repr

/-- A journal record in the staging memory (R481). -/
structure Staged where
  ring : Nat
  kind : Nat
  tile : Nat
  time : Nat
  epoch : Nat
  body : List Byte
  deriving DecidableEq, Repr

/-- A held scheduled command and the stamp at which it is due (R533, R534). -/
structure Sched where
  desc : Desc
  epoch : Nat
  time : Nat
  /-- The plan tick that follows its arrival: it acts no earlier. -/
  arrived : Nat
  deriving DecidableEq, Repr

/-- The record of a scheduled command that has acted (R534). -/
structure Executed where
  root : Nat
  sq : Nat
  tag : Nat
  epoch : Nat
  time : Nat
  acted : Nat
  deriving DecidableEq, Repr

/-- Hamper's state beside its registers. -/
structure Hamper where
  tracks : List Track
  heldCpls : List HeldCpl
  /-- Unsignalled completions or records per ring, rings numbered CQ 0–63, event 64–71. -/
  coal : List (Nat × Nat)
  /-- Site time of the first unsignalled entry per ring (R473). -/
  coalAt : List (Nat × Nat)
  /-- The queue whose turn it is in the round robin, and the commands left of its burst (R462). -/
  fetchTurn : Nat × Nat
  evSeq : Nat
  /-- Event rings that lost records since their last record (R477). -/
  evLost : List Nat
  jrSeq : List (Nat × Nat)
  jrLost : List Nat
  staged : List Staged
  /-- Scheduled commands held for their site times (R533). -/
  scheds : List Sched
  /-- Executed records, oldest first (R534). -/
  executed : List Executed
  /-- MSI-X table words by byte offset from 0x8000 of BAR2, in canonical form. -/
  msixTable : List (Nat × Word)
  /-- MSI-X pending bits. -/
  pba : List Nat
  /-- Messages sent, oldest first. -/
  sent : List Nat
  /-- Commands fetched and checked that have not yet acted (R462), and those of them that act late (R533). -/
  fetched : List Desc
  late : List CmdRef
  /-- Commands from other devices that wait while 4,096 are tracked here (R468). -/
  waiting : List Desc
  /-- Axis handles: handle, serial, tile (R505). -/
  handles : List (Nat × Nat × Nat)
  /-- Mailbox completion FIFO (R485). -/
  cplFifo : List (List Byte)
  evFifo : List (List Byte)
  /-- Slots pushed by MB_CTL.go and not yet a whole command (R465). -/
  mbSlots : List (List Byte)
  /-- Migrations whose marker is due: sq, the MIGRATE, and the old binding's commands that have not completed (R483). -/
  migrating : List (Nat × CmdRef × List CmdRef)
  /-- Segments held for a full trail (R34). -/
  heldSegs : List Desc
  /-- Member segments held for a full trail: tile, segment, full release time, and whether the segment was discarded on
  arrival (R34, R86, R107). -/
  heldGroup : List (Nat × Seg × Option Nat × Bool)
  /-- Event rings in ERROR (R475), and the last record of each ring. -/
  evErr : List Nat
  evLast : List (Nat × List Byte)
  /-- Requester whose turn it is in the journal's round robin, and the credits (R482). -/
  jrTurn : Nat
  jrCredit : List (Nat × Nat)
  /-- Records that each event ring receives as it is enabled, by seq, time, kind and payload, and the rings that have
  received them (R607, R656). -/
  owed : List (Nat × Nat × Nat × List Byte)
  owedTo : List Nat
  /-- Leaders of the unit's groups as the root knows them: tag, route, depth (R466); and formations it has forwarded. -/
  leads : List (Nat × Nat × Nat)
  forms : List (CmdRef × Nat × Nat × Nat)
  deriving DecidableEq, Repr

/-- One direction-independent link port (R491 to R496). -/
structure Port where
  aligned : Bool
  /-- Payload of the peer's HELLO, when held (R491). -/
  hello : Option (List Byte)
  wasUp : Bool
  txNext : Nat × Nat
  /-- Copies not acknowledged, with the count of replays: command class, bulk class. -/
  unackedCmd : List (Frame × Nat)
  unackedBulk : List (Frame × Nat)
  /-- Frames held for credit. -/
  waitCmd : List Frame
  waitBulk : List Frame
  /-- 64-byte units sent, and freed by the peer (cumulative). -/
  usedCmd : Nat
  usedBulk : Nat
  creditCmd : Nat
  creditBulk : Nat
  /-- Last lseq received in order, and NAK pending: command, bulk. -/
  rxCmd : Nat
  rxBulk : Nat
  nakCmd : Bool
  nakBulk : Bool
  freedCmd : Nat
  freedBulk : Nat
  /-- Numbers given out through this port in the roll call in force (R503). -/
  given : List Nat
  /-- Site time of a LINK_ACK with the sleep bit, and the port is parked (R598). -/
  sleepAt : Option Nat
  parked : Bool
  /-- Site times: its own HELLO sent (R491), a frame arrived, alignment lost (R493), the peer acknowledged or the oldest unacknowledged
  frame left (R496), FAULT entered (R491), diagnostics read (R489). -/
  helloAt : Option Nat
  heardAt : Nat
  lostAt : Nat
  ackedAt : Nat
  faultAt : Nat
  ddmAt : Option Nat
  /-- Bytes 12 and 92 of page A0h of the module in place (R488, R489). -/
  nominal : Nat
  options : Nat
  deriving DecidableEq, Repr

/-- A roll call in progress at this device (R502). -/
structure RollCall where
  /-- The port whose ROLL_REPLY is awaited: 2 (B0), 3 (B1), 1 (D). -/
  waits : Nat
  /-- The next number one level down under this device. -/
  below : Nat
  /-- Devices numbered beyond this one so far. -/
  counted : Nat
  result : Nat
  /-- Site time of the ROLL_CALL whose reply is awaited. -/
  asked : Nat
  deriving DecidableEq, Repr

/-- A tunnel read that waits for its data (R507): the head mirror, the image of a HIKER_LOAD, or, `store`, that of a PS_LOAD. -/
structure TunnelRead where
  tag : Nat
  load : Option Desc
  store : Bool
  /-- Bytes asked for, and those received. -/
  len : Nat
  got : List Byte
  deriving DecidableEq, Repr

/-- Usfen state beside its registers. -/
structure Usfen where
  ports : Vector Port 4
  /-- Site time of the last CHAIN_ALARM sent or received, per domain (R499). -/
  domSeen : List (Nat × Nat)
  alarmCount : Nat
  roll : Option RollCall
  /-- Units of the latest roll call: serial, route, depth, root. -/
  units : List (Nat × Nat × Nat × Bool)
  claimTime : Nat
  claimEpoch : Nat
  reads : List TunnelRead
  readTag : Nat
  /-- Parts received of COMMAND frames: source route, sq, part, slots (R498). -/
  cmdParts : List (Nat × Nat × Nat × List Byte)
  /-- Parts received of LEADER_STATE frames: group tag, part, payload (R498). -/
  leadParts : List (Nat × Nat × List Byte)
  /-- A ROUTE_LOST has named a level-0 link since the path between the roots was last known whole (R515). -/
  ringCut : Bool
  /-- Site times of the last CHAIN_ALARM sent (R499), AUTHORITY event of a contest (R514) and head-mirror read (R509). -/
  alarmSent : Nat
  contestAt : Nat
  mirrorAt : Option Nat
  /-- The source whose bulk frames port U serves, 0 own, 1 D, 2 B0, 3 B1, and the credit in bytes of each (R510). -/
  bulkTurn : Nat
  bulkCredit : List Nat
  /-- Every frame sent, with its port, oldest first. -/
  wire : List (Nat × Frame)
  deriving DecidableEq, Repr

/-- A map walk in progress (R191 to R196). The phase is WALK_STATUS.phase. -/
structure Walk where
  /-- S of R193, integer µsteps. -/
  s0 : Int
  /-- Row or pass in progress, and the stop in it. -/
  row : Nat
  stop : Nat
  /-- In a pass: on the way back. -/
  back : Bool
  /-- Ticks spent at the present stop. -/
  ticks : Nat
  /-- Where the axis travels to, integer µsteps; at rest when it stands there. -/
  goal : Int
  /-- The axis has reached the goal. -/
  atGoal : Bool
  /-- The phase's travel and dwells have ended. -/
  done : Bool
  /-- Kept inductance fits by cell (x × 32 + j) × 64 + c: sum of lm in H and count. -/
  lSum : List (Nat × (Rat × Nat))
  /-- Kept e/ω by ((direction × 2 + x) × 4 + pass) × 64 + c: sum and count. -/
  kSum : List (Nat × (Rat × Nat))
  /-- Loop resistance of the latest fit of phase 2, mΩ. -/
  rFit : Option Rat
  /-- ring_ns, c_cable, l_cable_nh and f_ring of phase 1. -/
  cable : Nat × Nat × Nat × Nat
  tMap : Int
  least : Nat
  /-- Plan ticks on end without a vector unit (R192). -/
  lone : Nat
  /-- r_est and T_w at the start of verification (R194). -/
  kept : Option (Rat × Rat)
  deriving DecidableEq, Repr

/-- Sundial beside its registers (R155 to R188). -/
structure Sundial where
  /-- Scores J_h (R169). -/
  score : Vector Nat 64
  /-- Rotor speed, µsteps/s (R170). -/
  vrot : Rat
  /-- Time of the last update since the last clear (R171). -/
  lastAt : Option Nat
  /-- Site time of the latest valid fit or confidence decay (R176), and of the last confidence that reached stall_conf (R187). -/
  fitAt : Nat
  lowAt : Nat
  /-- Current of each phase's latest valid fit, A (R172). -/
  im : Vector Rat 2
  /-- Loop resistance, mΩ, and winding temperature, °C (R163). -/
  rEst : Rat
  tW : Rat
  /-- d of R188. -/
  drift : Int
  /-- Updates since the last change between FULL and REDUCED, held at 16 (R175). -/
  since : Nat
  /-- The stall candidate count (R184). -/
  candidates : Nat
  /-- CONF_LOW and MAP_DRIFT are armed (R187, R188). -/
  lowArmed : Bool
  driftArmed : Bool
  /-- |T_w − t_map| exceeds 80 K. -/
  tempOut : Bool
  /-- Updates since the last snapshot. -/
  snap : Nat
  /-- A stall decision waits for the next plan tick (R184). -/
  stallDue : Bool
  walk : Option Walk
  deriving DecidableEq, Repr

/-- The force budget and Gust beside their registers (R203 to R230). -/
structure Force where
  /-- Profile entries that differ from 0, as FB_PROF_DATA words (R205). -/
  prof : List (Nat × Word)
  /-- Direction of the reference run that executes: 0 increasing, 1 decreasing; and its start bucket (R206). -/
  refRun : Option (Nat × Nat)
  /-- Drive-force sums and counts of the executing segment by bucket. -/
  sums : List (Nat × (Int × Nat))
  /-- The executing segment carried an obstruction decision, and a warning or blind ceiling was held in it (R207). -/
  decided : Bool
  ceilHeld : Bool
  warnCeil : Option Nat
  blindCeil : Option Nat
  /-- Start of the executing segment or its last assessed update, whichever is later (R214). -/
  assessedAt : Nat
  /-- An obstruction decision waits for the next plan tick (R212). -/
  due : Bool
  /-- A policy has acted since the last plan tick (R231). -/
  acted : Bool
  /-- The policy whose group action the tile's own obstruction has asked for, as FB_POLICY codes it (R101). -/
  groupAct : Option Nat
  /-- Site time at which the axis came to rest for RETRY (R218). -/
  restedAt : Nat
  /-- FORCE_CAP_HOLD is armed (R213). -/
  capArmed : Bool
  /-- PLAN_CAP_V was written at or below the ceiling since the budget's last write (R215). -/
  capKept : Bool
  /-- A Gust retract segment executes when its slot pointer is listed (R219). -/
  retract : List Nat
  /-- Store slots of retract segments that wait for room on the trail (R226). -/
  retractDue : List Nat
  /-- The trail was frozen by a stall or by a STOP, YIELD or RETRY policy (R226). -/
  froze : Bool
  /-- A map became valid during the reference run (R231). -/
  refFailed : Bool
  /-- Gust's window: sample times and forces (R225). -/
  window : List (Nat × Int)
  /-- Evaluations in a row with the level at or above the threshold. -/
  above : Nat
  /-- Site time of the latest update. -/
  updated : Nat
  /-- The segment store's words that differ from 0 (R228). -/
  segStore : List (Nat × Word)
  /-- The profile has adapted since its last commit, and the time of that commit (R209). -/
  adapted : Bool
  committed : Nat
  /-- Site time of a push firing (R230). -/
  pushAt : Option Nat
  deriving DecidableEq, Repr

/-- One slice's coefficients (R289) and its count of bad calibration measurements in a row (R295). -/
structure Slice where
  off : Int
  gain : Nat
  trim : Int
  bad : Nat
  deriving DecidableEq, Repr

/-- A converter: its slices, the slice at each position, and the position shadowed next (R288, R290). -/
structure Conv where
  slices : List Slice
  pos : List Nat
  next : Nat
  /-- Site time of its last rotation step (R290). -/
  rotAt : Nat
  deriving DecidableEq, Repr

/-- A scan or a supply conversion in progress, with the settings that it started under (R305, R307, R315). -/
structure ScanRun where
  supply : Bool
  /-- Trigger source as the header gives it, 7 for go (R317). -/
  src : Nat
  late : Bool
  mask : Nat
  avg : Nat
  refs : Nat
  start : Nat
  epoch : Nat
  /-- SCAN_BUF has not been written since the start (R322). -/
  toBuf : Bool
  degraded : Bool
  deriving DecidableEq, Repr

/-- The converters of a tile, or the house converter's scans (R284 to R321). -/
structure Adc where
  conv : Vector Conv 3
  /-- Events counted toward the next trigger (R308). -/
  div : Nat
  run : Option ScanRun
  /-- A start that waits for the end of the conversion in progress: its source, its time, and whether it is late (R309, R322). -/
  waiting : Option (Nat × Nat × Bool)
  /-- Starts that are due, oldest first: time and source (R309). -/
  due : List (Nat × Nat)
  /-- Site time of the last result of channel 2 (R307). -/
  vmAt : Nat
  count : Nat
  /-- Waveform values of the record in the making, and the time of its first (R319). -/
  wave : List (Int × Int)
  waveAt : Nat
  /-- Site time of the fast converters' last fall back to the internal reference (R301). -/
  fellBack : Option Nat
  deriving DecidableEq, Repr

/-- A feedback port beside its registers (R344 to R366). -/
structure Feed where
  /-- Levels that the pins FP, FQ, FZ (bits 0 to 2) have held for the filter's time, before inversion. -/
  pins : Nat
  /-- Debounced levels of FP and FQ in reed mode, and the ends of their holdoffs (R351). -/
  acc : Nat
  hold : Vector (Option Nat) 2
  /-- Holdoff of the reed layout of FB_MODECFGk, 10 µs units (R354). -/
  holdoff : Nat
  /-- Last non-zero sign of the bound tile's VEL (R351). -/
  sign : Int
  /-- The last valid Hall state, when the next move counts (R352). -/
  hall : Option Nat
  /-- Edge time and direction of the last counted edge since enable or standstill (R357). -/
  prev : Option (Nat × Bool)
  /-- SSI: instant and idle line of the frame in progress, end of the last frame, last accepted value and instant, and the
  instant since which Δc has been 0 (R353, R354, R360). -/
  frame : Option (Nat × Bool)
  frameEnd : Option Nat
  last : Option (Nat × Nat)
  still : Option Nat
  /-- Base and increment sum of the measured axis position (R364). -/
  base : Int
  sum : Int
  /-- The DEVIATION event is armed (R365). -/
  armed : Bool
  /-- Site time of the last FEEDBACK_ERROR event of each kind (R362). -/
  errAt : Vector (Option Nat) 3
  /-- A start of an SSI frame waits for the pause; site time of the last start that the period gave (R353). -/
  late : Bool
  startAt : Option Nat
  /-- FZ has risen and its index edge is still to be taken (R356). -/
  zRose : Bool
  /-- A change of the pins that has yet to hold for 100 µs to wake the device, and the levels before it (R363). -/
  stir : Option (Nat × Nat)
  deriving DecidableEq, Repr

/-- An emulation output beside its registers (R368 to R371). -/
structure Emu where
  /-- The jump offset J, 32.32 µsteps. -/
  jump : Int
  /-- Site time of the last output edge. -/
  edge : Option Nat
  /-- Site time since which c has differed from its target. -/
  lagAt : Option Nat
  /-- Levels of the pins EA, EB and EZ, bits 0 to 2 (R369, R370). -/
  pins : Nat
  deriving DecidableEq, Repr

/-- A sensor channel beside its registers (R379 to R386). -/
structure SfeCh where
  /-- Visits since the last lead conversion. -/
  visits : Nat
  /-- Visits left that use voltage conversions (R382). -/
  left : Nat
  /-- Site time of the last tone check, or of enable. -/
  checkAt : Nat
  /-- A tone check has run since enable. -/
  checked : Bool
  /-- Verdict of the last sensor conversion before the LEAKAGE test, none before the first. -/
  conv : Option Nat
  deriving DecidableEq, Repr

/-- A visit of the front end. -/
structure Visit where
  ch : Nat
  check : Bool
  volt : Bool
  /-- The lead conversion is under way, or due after the sensor conversion. -/
  lead : Bool
  leadDue : Bool
  /-- Site time at which the sources were steered for the present conversion or check. -/
  began : Nat
  /-- SFE_CFGn, SFE_PARn, SFE_AUXn and SFE_LIMn as the visit found them: a change applies from the next visit (R378). -/
  cfg : Nat
  par : Nat
  aux : Nat
  lim : Nat
  deriving DecidableEq, Repr

/-- The sensor front end beside its registers (R379 to R391). -/
structure Sfe where
  /-- The channel that the next scheduled visit looks from. -/
  next : Nat
  visit : Option Visit
  /-- Visits asked for before the sequence goes on: channel, and whether it is a tone check (R384, R389). -/
  asked : List (Nat × Bool)
  chans : Vector SfeCh 8
  deriving DecidableEq, Repr

/-- One axis tile's state beside its registers and SRAM. -/
structure Tile where
  plan : Planner
  evts : Vector EvtSlot 8
  cur : CurState
  lull : LullState
  /-- Shape-bank entries that differ from the reset table, key bank × 512 + index (R117). -/
  shape : List (Nat × Nat)
  chop : Vector Chop 2
  legs : Legs
  sd : Sundial
  force : Force
  adc : Adc
  deriving DecidableEq, Repr

/-- An open locked sequence of a core (R412 to R416). -/
structure LockSeq where
  /-- Address of the LOCK. -/
  lockPc : Word
  /-- Instructions executed in it, LOCK included. -/
  count : Nat
  /-- Buffered stores, byte by byte, newest first, by on-chip memory address. -/
  stores : List (Nat × Byte)
  /-- Words loaded, by on-chip memory address. -/
  reserved : List Nat
  /-- Another requester has written a word of the reservation set since it was loaded. -/
  broken : Bool
  deriving DecidableEq, Repr

/-- One hardware-loop level (R409). -/
structure LoopLevel where
  ls : Word
  le : Word
  lc : Word
  deriving DecidableEq, Repr

/-- A 32-byte line of an XIP fetch buffer or a Canopy data cache (R441, R446, R540). -/
structure Line where
  addr : Nat
  bytes : List Byte
  dirty : Bool
  deriving DecidableEq, Repr

/-- A Hiker core: its registers (R392 to R394), its place in delay slots, shadows and locked sequences (R405 to R416),
its tile or Canopy interface (R399, R542), and its buffers. -/
structure Core where
  g : Vector Word 16
  pc : Word
  status : Word
  estatus : Word
  epc : Word
  ecause : Word
  ebadaddr : Word
  vbase : Word
  loops : Vector LoopLevel 2
  kscr : Vector Word 2
  /-- In a delay slot: the branch's address and the address that follows the slot. -/
  delay : Option (Word × Word)
  /-- The next instruction is the shadow of a mode change (R408). -/
  shadow : Bool
  lock : Option LockSeq
  /-- In WAIT (R442). -/
  waiting : Bool
  /-- A halt (true) or stop (false) that waits for its boundary (R416, R669). -/
  deferred : Option Bool
  /-- The debugger steps the core (R669). -/
  stepping : Bool
  /-- A Canopy core has stopped on a mismatch, a watchdog expiry or a double exception (R545, R548). -/
  stopped : Bool
  keeperSize : Nat
  /-- HIKER_STATUS.state before SLEEPING (R420). -/
  wasState : Nat
  /-- Source of the load in progress (R424). -/
  loadSrc : Nat
  seg : Vector Word 8
  place : Word
  alarm : Nat
  armed : Bool
  events : Vector Word 4
  inBox : Vector Word 4
  outBox : Vector Word 4
  outRefused : Bool
  irqPend : BitVec 16
  irqEn : BitVec 16
  fetchBuf : List Line
  dcache : List Line
  /-- Words of executable memory that the core has written since its last SYNC, with what they held (R446). -/
  stale : List (Nat × Word)
  /-- The store buffer, oldest first: on-chip address and bytes (R445). -/
  stores : List (Nat × List Byte)
  deriving DecidableEq, Repr

/-- A checkpoint waiting or in the making, and the store's bookkeeping beside its array and registers (R611 to R634). -/
structure Store where
  /-- Clears of physical blocks. -/
  clears : List (Nat × Nat)
  /-- Retired logical blocks and their replacements (R624). -/
  remap : List (Nat × Nat)
  /-- Append points of the parameter, keys and fault-log regions, as lines (R618). -/
  appendAt : Vector Nat 3
  logIndex : Nat
  /-- Cause of a checkpoint request that waits (R621). -/
  want : Option Nat
  lastCommit : Nat
  /-- A tile has been Moving since the last commit. -/
  moved : Bool
  /-- Generation of an open checkpoint header (R622). -/
  openGen : Option Nat
  /-- Event records that Canopy has yet to enter in the fault log, oldest first (R633). -/
  log : List (List Byte)
  /-- Blocks of the fault log and of the checkpoint ring that replace failed blocks (R627). -/
  victims : List Nat
  /-- Volatile regions as PS_VOLATILE codes them, and tiles whose map slot is volatile (R627). -/
  volatile_ : Nat
  mapLost : Nat
  /-- Site time of the last refresh of old records (R629). -/
  refreshed : Nat
  /-- Spares of the pool that have been taken, and blocks retired since manufacture (R625, R632). -/
  used : Nat
  retired : Nat
  deriving DecidableEq, Repr

/-- What Dusk latched of a tile (R605). -/
structure DuskLatch where
  tile : Nat
  posInt : Nat
  posFrac : Nat
  state : Nat
  vel : Int
  deriving DecidableEq, Repr

/-- Lookout beside its registers (R588 to R610). -/
structure Lookout where
  /-- LK_ALARM is armed. -/
  alarm : Bool
  /-- Start of the Dusk in progress, and what it latched. -/
  duskAt : Nat
  latched : List DuskLatch
  duskMoving : Nat
  /-- Payload of a DUSK event that waits for rings (R607). -/
  duskEvent : Option (List Byte)
  /-- Site time since which supply_good has held. -/
  goodFrom : Option Nat
  /-- Night was entered by Dusk: the supply wakes it whatever WAKE_EN holds (R600, R607). -/
  duskNight : Bool
  /-- A Dusk is on record whose commit has not completed (R607, R623). -/
  duskSeen : Bool
  /-- The device is held in Off (R604). -/
  off : Bool
  /-- Cause of a Dawn that is due (R655). -/
  dawnCause : Option Nat
  /-- An accepted entry to Twilight or Night that waits for a serial frame (R640). -/
  entry : Option Nat
  /-- Site time at which the device last left Run (R629). -/
  leftRun : Nat
  /-- Pins that tripped in Night and are not reported yet, one bit each (R268). -/
  nightTrips : Nat
  deriving DecidableEq, Repr

/-- A controller port beside its registers (R635 to R640). -/
structure Spc where
  tx : List Word
  rx : List Word
  /-- Words of the frame in progress, and whether an abort ends it. -/
  frame : Option (Nat × Bool)
  /-- Levels of SELk[3:0] and SELk_STB, and whether CSk_A and CSk_B are active. -/
  code : Nat
  strobe : Bool
  csA : Bool
  csB : Bool
  /-- Site times of the last SCK edge and of the end of the frame in progress, and the words shifted out of SPCk_SDO by the last one
  (R639). -/
  lastEdge : Nat
  endsAt : Nat
  sent : List Word
  deriving DecidableEq, Repr

/-- The target port beside its registers (R646 to R651). -/
structure Spt where
  /-- Transport in force since the last rise of SPT_CS_N. -/
  stream : Bool
  compat : Bool
  /-- Writes held until SPT_CS_N rises. -/
  held : List (Nat × Word)
  /-- Words of this select period, and whether its last command is complete. -/
  words : Nat
  whole : Bool
  /-- Words driven on SPT_SDO in this select period. -/
  out : List Word
  deriving DecidableEq, Repr

/-- The test access port (R663, R664, R668). -/
structure Tap where
  /-- Code of the instruction loaded. -/
  ir : Nat
  /-- The last word that DBG_ACCESS read. -/
  last : Word
  /-- Values of the boundary cells of each tile's gate pins, coded as LEG_OVR.gates, where they are not 0. -/
  cells : List (Nat × Nat)
  deriving DecidableEq, Repr

/-- One key slot (R566 to R575): its key bytes, rights, and counter. -/
structure KeySlot where
  key : Option (List Byte)
  rights : Nat
  /-- Last counter value accepted, and the reservation mark M (R577). -/
  counter : Nat
  mark : Nat
  deriving DecidableEq, Repr

/-- Canopy beside its registers and cores (R539 to R587). -/
structure Canopy where
  /-- Safety-table words that differ from 0, by index (R553). -/
  safety : List (Nat × Word)
  /-- Site time of the first breaching scan of a run of breaches, per tile, and the cause of the latest scan (R554, R556). -/
  breachAt : Vector (Option Nat) 64
  latest : Vector Nat 64
  /-- Site time of each core's last SCAN_KICK (R548). -/
  kickAt : Vector Nat 2
  /-- Site time of each core's last scan tick, of the last governor round and comparator self-test (R542, R547), and since when each
  core stands halted (R565). -/
  scanAt : Vector (Option Nat) 2
  roundAt : Option Nat
  testAt : Option Nat
  haltAt : Vector Nat 2
  /-- Site time of the last CANOPY_KICK (R554). -/
  hostKick : Nat
  /-- Tiles of the release ticket in force, as a mask (R553, R556). -/
  ticket : Nat
  /-- Tiles of core 1 from the next Dawn (R549), as a mask, when a command has set them. -/
  ownNext : Option Nat
  slots : Vector KeySlot 8
  /-- Lockout state (R579): failures, times locked out, end of the lockout in force. -/
  fails : Nat
  lockouts : Nat
  lockedUntil : Option Nat
  deriving DecidableEq, Repr

/-- A decision that waits for a pending step because it needs a SCALE_REQ, START or GROUP_CMD frame (R531). -/
inductive StepWait where
  | scale (slot : Nat)
  | start (slot epoch seq : Nat)
  | cmd (slot cmd : Nat) (target : Int) (accStop jerkStop : Nat) (ref : Option CmdRef)
  deriving DecidableEq, Repr

/-- A SYNC being answered (R525). -/
structure SyncRx where
  seq : Nat
  t1 : Option Nat
  t2 : Nat
  t3 : Nat
  epoch : Nat
  saturated : Bool
  /-- The sender is LOCKED or the master. -/
  locked : Bool
  deriving DecidableEq, Repr

/-- Site time beside its registers (R520 to R532). -/
structure Clock where
  /-- Fraction of a ns accumulated by the rate, 10^-9 ns. -/
  acc : Int
  /-- Remainder of a slew, 10^-9 ns. -/
  slew : Int
  /-- The pending step is an EPOCH_RESET; who waits for it. -/
  stepReset : Bool
  stepRef : Option CmdRef
  /-- A PPS correction that waits for the pending step (R538). -/
  ppsLater : Option Int
  /-- Site time of the last accepted PPS_IN edge. -/
  ppsAt : Option Nat
  /-- TIME_SET commands with at_pps: command, value, site time of arrival. -/
  setting : List (CmdRef × Nat × Nat)
  /-- Consecutive offsets within ±50 ns (R526). -/
  good : Nat
  /-- Site time of the last SYNC. -/
  syncAt : Nat
  /-- Site time of this device's last SYNC (R525). -/
  sentAt : Option Nat
  sync : Option SyncRx
  /-- Sequence number of the next SYNC sent. -/
  seq : Nat
  /-- Site time of a wake that bars energising, and corrections are taken only from locked senders (R532). -/
  woke : Option Nat
  picky : Bool
  waits : List StepWait
  deriving DecidableEq, Repr

/-- The whole device. -/
structure State where
  /-- Registers by BAR0 offset, rising, none equal to its reset value. -/
  regs : List (Nat × Word)
  /-- On-chip SRAMs and stores by address (Machine/Ops.lean gives the map), canonical. -/
  mem : List Host.Cell
  /-- Host memory as the device has written it, canonical. -/
  host : List Host.Cell
  /-- Read shadows of R11: low offset, owner, captured high word. -/
  shadows : List (Nat × Requester × Word)
  /-- Write holds of R11: low offset, owner, held low word. -/
  holds : List (Nat × Requester × Word)
  /-- Site time, ns (R520). -/
  now : Nat
  tiles : Vector Tile 64
  groups : Vector (Option GroupSlot) 16
  hamper : Hamper
  usfen : Usfen
  /-- The model's own counter of free values used (notes/assumptions/3.md). -/
  freeCtr : Nat
  /-- The word that the last read of the register space returned to its requester. -/
  readData : Nat
  /-- Site times since which the filtered levels of the trip pins have been inactive (R272). -/
  pinFrom : Vector Nat 16
  /-- Filtered levels of the trip pins (R268). -/
  pinHigh : Vector Bool 16
  /-- Site time of each house window's last WINDOW event. -/
  hwinEvent : Vector (Option Nat) 8
  /-- Site time of each house window's last change of a threshold code, until it acts on the comparison with it (R329). -/
  hwinThrAt : Vector (Option Nat) 8
  /-- Each house window's input as its comparators last saw it, in sixteenths of a code (R324, R326). -/
  hwinLevel : Vector Int 8
  /-- Hiker cores: tiles 0 to 63, Canopy core A or core 0 (64), Canopy core 1 in split mode (65). -/
  cores : Vector Core 66
  ps : Store
  /-- The house converter (R320); its slices stand third. -/
  house : Adc
  /-- The house alarm is armed (R321). -/
  houseArmed : Bool
  /-- The armed site-trigger: its time and the epoch at its arming (R312). -/
  siteTrig : Option (Nat × Nat)
  feeds : Vector Feed 16
  emus : Vector Emu 8
  sfe : Sfe
  lookout : Lookout
  canopy : Canopy
  clock : Clock
  spcs : Vector Spc 4
  spt : Spt
  tap : Tap
  /-- PCIE_PERST_N holds the PCIe block in reset (R706). -/
  perst : Bool
  /-- The level of PPS_OUT (R524). -/
  ppsOut : Bool
  /-- The commands that wait, first in first out. -/
  pending : List Instr
  deriving DecidableEq, Repr

/-- A slice right after reset. Log: DESIGN CHOICE notes/assumptions/107.md. -/
def Slice.reset : Slice := { off := 0, gain := 0x8000, trim := 0, bad := 0 }

/-- A converter of `k` slices right after reset: the last is the spare (R303). -/
def Conv.reset (k : Nat) : Conv := { slices := List.replicate k Slice.reset, pos := List.range (k - 1), next := 0, rotAt := 0 }

/-- The converters of a tile right after reset. -/
def Adc.reset : Adc :=
  { conv := #v[Conv.reset 5, Conv.reset 5, Conv.reset 3], div := 0, run := none, waiting := none, due := [], vmAt := 0, count := 0, wave := [],
    waveAt := 0, fellBack := none }

/-- A phase's regulator right after reset. -/
def Chop.reset : Chop :=
  { dir := 1, since := 0, fromOn := false, above := false, below := false, lastEdge := 0,
    cycleAt := none, tOn := 0, tFast := 0, lastCycle := none, integ := 0, duty := 0, wantDuty := false,
    unregAt := none, offWritten := none, spoiled := false, partAt := 0, seen := false, cycleBad := false, cycleDue := false,
    storing := true, skip := 0, lastLen := none, rate60 := false, ratePrev := false }

/-- A tile right after reset. Log: DESIGN CHOICE notes/assumptions/1.md. -/
def Tile.reset : Tile where
  plan := { p := 0, v := 0, a := 0, path := 0, j := 0, am := 0, vm := 0, exec := none, held := none, retry := false,
            headRepl := none, lastTarget := none, lastGroupEnd := none, condMet := false, posWrite := none,
            wrapWrite := none, savedCap := none,
            handover := false, discard := [], groupRun := none, groupRan := [], lastGroup := none, slots := [], ran := none, endInt := 0, startedOn := none,
            stoppedOn := none, placed := (0, 0), replaced := none }
  evts := Vector.replicate 8 { side := none, rose := none, fell := none }
  cur := { ramped := 0, energising := false, deenergising := false, belowLoA := false, belowLoB := false,
           keep := false, stood := false, parked := false, energisedAt := 0, enteredAt := 0, emptyAt := 0, thawedAt := 0,
           rampedOn := none, heldAt := none, savedCurCap := none }
  lull := { fromMoving := false, confHeld := false, alarmCause := 0, brakeArmed := false, wakePending := false }
  shape := []
  chop := Vector.replicate 2 Chop.reset
  legs := { deadHl := 0x064, deadLh := 0x064, minPulse := 0x08, period := 0x1F40, phase := 0, rule := 0x1F40, start := none,
            wroteAt := none, live := 0, want := 0, cmp := 0, offAt := Vector.replicate 8 0, onAt := Vector.replicate 8 0, refresh := 0, both := 0, blockAt := Vector.replicate 4 none, pre := 0, tripFrom := Vector.replicate 2 0,
            clocksRun := Vector.replicate 2 true, clockFrom := Vector.replicate 2 0, winEvent := Vector.replicate 6 none,
            thrAt := Vector.replicate 6 none, winLevel := #v[32768, 32768, 8192, 8192, 8192, 8192] }
  sd := { score := Vector.replicate 64 0, vrot := 0, lastAt := none, fitAt := 0, lowAt := 0, im := Vector.replicate 2 0, rEst := 0, tW := 0,
          drift := 0, since := 16, candidates := 0, lowArmed := true, driftArmed := true, tempOut := false, snap := 0,
          stallDue := false, walk := none }
  force := { prof := [], refRun := none, sums := [], decided := false, ceilHeld := false, warnCeil := none,
             blindCeil := none, assessedAt := 0, due := false, acted := false, groupAct := none, restedAt := 0, capArmed := true, capKept := false, retract := [], retractDue := [], froze := false, refFailed := false,
             window := [], above := 0, updated := 0, segStore := [], adapted := false, committed := 0, pushAt := none }
  adc := Adc.reset

/-- A link port right after reset (R490, R496). Log: DESIGN CHOICE notes/assumptions/1.md. -/
def Port.reset : Port :=
  { aligned := false, hello := none, wasUp := false, txNext := (1, 1), unackedCmd := [], unackedBulk := [],
    waitCmd := [], waitBulk := [], usedCmd := 0, usedBulk := 0, creditCmd := 0, creditBulk := 0, rxCmd := 0,
    rxBulk := 0, nakCmd := false, nakBulk := false, freedCmd := 0, freedBulk := 0, given := [],
    sleepAt := none, parked := false, helloAt := none, heardAt := 0, lostAt := 0, ackedAt := 0, faultAt := 0, ddmAt := none,
    nominal := 0, options := 0 }

/-- A Hiker core right after reset (R394, R425). Log: DESIGN CHOICE notes/assumptions/1.md, notes/assumptions/2.md. -/
def Core.reset : Core :=
  { g := Vector.replicate 16 0, pc := 0, status := 0x40000000, estatus := 0x40000000, epc := 0, ecause := 0,
    ebadaddr := 0, vbase := 0, loops := Vector.replicate 2 { ls := 0, le := 0, lc := 0 }, kscr := Vector.replicate 2 0,
    delay := none, shadow := false, lock := none, waiting := false, deferred := none, stepping := false,
    stopped := false, keeperSize := 0, wasState := 0, loadSrc := 0, seg := Vector.replicate 8 0, place := 0, alarm := 0,
    armed := false, events := Vector.replicate 4 0, inBox := Vector.replicate 4 0, outBox := Vector.replicate 4 0,
    outRefused := false, irqPend := 0, irqEn := 0, fetchBuf := [], dcache := [], stale := [], stores := [] }

/-- A feedback port right after reset. Log: DESIGN CHOICE notes/assumptions/1.md. -/
def Feed.reset : Feed :=
  { pins := 0, acc := 0, hold := Vector.replicate 2 none, holdoff := 0x64, sign := 1, hall := none, prev := none,
    frame := none, frameEnd := none, last := none, still := none, base := 0, sum := 0, armed := true,
    errAt := Vector.replicate 3 none, late := false, startAt := none, zRose := false, stir := none }

/-- The sensor front end right after reset. Log: DESIGN CHOICE notes/assumptions/1.md. -/
def Sfe.reset : Sfe :=
  { next := 0, visit := none, asked := [],
    chans := Vector.replicate 8 { visits := 0, left := 0, checkAt := 0, checked := false, conv := none } }

/-- The machine right after power-on reset: every register at its table's reset value, no memory listed, no command waiting;
the Dawn of cause POWER_ON is due (R655). Log: DESIGN CHOICE notes/assumptions/1.md, notes/assumptions/85.md. -/
def State.reset : State where
  regs := []
  mem := []
  host := []
  shadows := []
  holds := []
  now := 0
  tiles := Vector.replicate 64 Tile.reset
  groups := Vector.replicate 16 none
  hamper := { tracks := [], heldCpls := [], coal := [], coalAt := [], fetchTurn := (127, 0), evSeq := 0, evLost := [], jrSeq := [], jrLost := [],
              staged := [], scheds := [], executed := [], msixTable := [], pba := [], sent := [], handles := [],
              cplFifo := [], evFifo := [], mbSlots := [], migrating := [], heldSegs := [], heldGroup := [], fetched := [],
              late := [], waiting := [], evErr := [], evLast := [], jrTurn := 0, jrCredit := [], owed := [], owedTo := [], leads := [], forms := [] }
  usfen := { ports := Vector.replicate 4 Port.reset, domSeen := [], alarmCount := 0, roll := none, units := [],
             claimTime := 0, claimEpoch := 0, reads := [], readTag := 0, cmdParts := [], leadParts := [], ringCut := false,
             alarmSent := 0, contestAt := 0, mirrorAt := none, bulkTurn := 0, bulkCredit := [0, 0, 0, 0], wire := [] }
  freeCtr := 0
  readData := 0
  pinFrom := Vector.replicate 16 0
  pinHigh := Vector.replicate 16 true
  hwinEvent := Vector.replicate 8 none
  hwinThrAt := Vector.replicate 8 none
  hwinLevel := Vector.replicate 8 8192
  cores := Vector.replicate 66 Core.reset
  ps := { clears := [], remap := [], appendAt := #v[16384, 81920, 82944], logIndex := 0, want := none, lastCommit := 0,
          moved := false, openGen := none, log := [], victims := [], volatile_ := 0, mapLost := 0,
          refreshed := 0, used := 0, retired := 0 }
  house := Adc.reset
  houseArmed := false
  siteTrig := none
  feeds := Vector.replicate 16 Feed.reset
  emus := Vector.replicate 8 { jump := 0, edge := none, lagAt := none, pins := 0 }
  sfe := Sfe.reset
  lookout := { alarm := false, duskAt := 0, latched := [], duskMoving := 0, duskEvent := none, goodFrom := none, leftRun := 0,
               duskNight := false, duskSeen := false, off := false, dawnCause := some 1, entry := none, nightTrips := 0 }
  canopy := { safety := [], breachAt := Vector.replicate 64 none, latest := Vector.replicate 64 0,
              kickAt := Vector.replicate 2 0, scanAt := Vector.replicate 2 none, roundAt := none, testAt := none,
              haltAt := Vector.replicate 2 0, hostKick := 0, ticket := 0, ownNext := none,
              slots := Vector.replicate 8 { key := none, rights := 0, counter := 0, mark := 0 }, fails := 0,
              lockouts := 0, lockedUntil := none }
  clock := { acc := 0, slew := 0, stepReset := false, stepRef := none, ppsLater := none, ppsAt := none, setting := [],
             good := 0, syncAt := 0, sentAt := none, sync := none, seq := 0, woke := none, picky := false, waits := [] }
  spcs := Vector.replicate 4
    { tx := [], rx := [], frame := none, code := 0, strobe := false, csA := false, csB := false, lastEdge := 0, endsAt := 0, sent := [] }
  spt := { stream := false, compat := false, held := [], words := 0, whole := true, out := [] }
  tap := { ir := 0x02, last := 0, cells := [] }
  perst := false
  ppsOut := false
  pending := []

end Sys2Proof.Machine
end

