-- ==== Sys2Proof/Machine/Ops.lean ====
section
/-! DEFINITION. The named operations over registers and memories: sparse canonical maps, register words and fields,
SRAM and host-memory bytes, per-tile state, free values. -/

namespace Sys2Proof.Machine

/-- A level that a comparator sees, in sixteenths of a code of its threshold converters (R323): a whole code and sixteenths. -/
def levelOf (code : Int) (part : Fin 16) : Int := 16 * code + part.val

/-! ### Sparse maps in canonical form -/

/-- The entry at key `k`, if listed. -/
def sparseFind {α : Type} (k : Nat) : List (Nat × α) → Option α
  | [] => none
  | (k', v) :: l => if k' = k then some v else sparseFind k l

/-- List `v` at key `k`, keys rising. -/
def sparseInsert {α : Type} (k : Nat) (v : α) : List (Nat × α) → List (Nat × α)
  | [] => [(k, v)]
  | (k', v') :: l =>
    if k < k' then (k, v) :: (k', v') :: l
    else if k' = k then (k, v) :: l
    else (k', v') :: sparseInsert k v l

/-- Unlist key `k`. -/
def sparseErase {α : Type} (k : Nat) : List (Nat × α) → List (Nat × α)
  | [] => []
  | (k', v') :: l => if k' = k then sparseErase k l else (k', v') :: sparseErase k l

/-- Write `v` at `k` where an unlisted key reads as `d`: a value equal to `d` is not listed. -/
def sparsePut {α : Type} [DecidableEq α] (d : α) (k : Nat) (v : α) (l : List (Nat × α)) : List (Nat × α) :=
  if v = d then sparseErase k l else sparseInsert k v l

/-- Keys strictly rise from above `lo`. -/
def keysRiseFrom {α : Type} : Nat → List (Nat × α) → Bool
  | _, [] => true
  | lo, (k, _) :: l => decide (lo ≤ k) && keysRiseFrom (k + 1) l

/-- The canonical form: keys strictly rising and no entry equal to what an unlisted key reads as. -/
def sparseWf {α : Type} [DecidableEq α] (d : Nat → α) (l : List (Nat × α)) : Bool :=
  keysRiseFrom 0 l && l.all fun e => decide (e.2 ≠ d e.1)

/-- A memory stands in its canonical form: bytes that read 0 are not listed. Log: DESIGN CHOICE notes/assumptions/4.md. -/
abbrev Memory.wf (m : List Host.Cell) : Bool := sparseWf (fun _ => (0 : Byte)) m

/-! ### The register map -/

/-- Offset `off` names an instance of register type `r`. -/
def Reg.covers (r : Reg) (off : Nat) : Bool :=
  if off < r.off then false
  else
    let d := off - r.off
    let i := if r.stride = 0 then 0 else d / r.stride
    let e := if r.stride = 0 then d else d % r.stride
    let k := if r.sub = 0 then 0 else e / r.sub
    let z := if r.sub = 0 then e else e % r.sub
    decide (i < r.count) && decide (k < r.subCount) && decide (z = 0)

/-- The offset of instance `i`, second index `k`. -/
def Reg.at (r : Reg) (i : Nat) (k : Nat := 0) : Nat := r.off + r.stride * i + r.sub * k

/-- The offset at which instance `i` of a field lies. -/
def Fld.at (f : Fld) (i : Nat) : Nat := f.off + f.stride * i

/-- The field of second index `k`. -/
def Fld.nth (f : Fld) (k : Nat) : Fld := { f with off := f.off + f.sub * k }

/-- The row of the register map that names `off` (R681, R684); `none` is unmapped (R10). -/
def regRow (off : Nat) : Option RegRow :=
  if off < 0x10000 then (R.globalRows (off / 0x1000)).find? fun r => r.reg.covers off
  else if off < 0x50000 then R.tileRows.find? fun r => r.reg.covers off
  else none

/-- The window index of a tile window register offset (R340). -/
def windowIndex (off : Nat) : Nat := off % 0x1000 / 0x10 % 0x10

/-- The reset word of a row at one offset: its fields' reset values, with the per-window values of R340. -/
def rowReset (r : RegRow) (off : Nat) : Nat :=
  let w := (r.fields.map fun f => f.rst * 2 ^ f.lsb).sum
  if r.reg = R.WIN_CFG ∧ (windowIndex off = 2 ∨ windowIndex off = 3) then w + 2 * 2 ^ 28
  else if r.reg = R.WIN_THR ∧ windowIndex off < 2 then 0x0FFF0000
  else if r.reg = R.SRAM_PAGE then 0xFF
  else w

/-- What a register reads before anything has written it (the Reset column; 0 where unmapped, R10). -/
def resetWord (off : Nat) : Word :=
  match regRow off with
  | some r => BitVec.ofNat 32 (rowReset r off)
  | none => 0

/-- Bits [msb:lsb] of `w` replaced by `v`. -/
def insertBits (w : Word) (msb lsb v : Nat) : Word :=
  BitVec.ofNat 32 (w.toNat - bits w.toNat msb lsb * 2 ^ lsb + v % 2 ^ (msb + 1 - lsb) * 2 ^ lsb)

namespace State

/-- The register word held at BAR0 offset `off`. -/
def rd (s : State) (off : Nat) : Word := (sparseFind off s.regs).getD (resetWord off)

/-- Set the register word held at `off`. -/
def wr (s : State) (off : Nat) (v : Word) : State := { s with regs := sparsePut (resetWord off) off v s.regs }

/-- A register field's value. -/
def get (s : State) (f : Fld) (i : Nat := 0) : Nat := bits (s.rd (f.at i)).toNat f.msb f.lsb

/-- A register field as a flag. -/
def flag (s : State) (f : Fld) (i : Nat := 0) : Bool := s.get f i ≠ 0

/-- A register field as a signed number. -/
def getInt (s : State) (f : Fld) (i : Nat := 0) : Int := signed (f.msb + 1 - f.lsb) (s.get f i)

/-- Set a register field, its neighbours unchanged. -/
def set (s : State) (f : Fld) (v : Nat) (i : Nat := 0) : State :=
  s.wr (f.at i) (insertBits (s.rd (f.at i)) f.msb f.lsb v)

/-- Set a register field from a signed number, wrapped to the field. -/
def setInt (s : State) (f : Fld) (v : Int) (i : Nat := 0) : State := s.set f (wrapNat (f.msb + 1 - f.lsb) v) i

/-- Set a one-bit field. -/
def setFlag (s : State) (f : Fld) (b : Bool) (i : Nat := 0) : State := s.set f (b2n b) i

/-- Advance a counting field by `k`, saturating at its largest value. -/
def bump (s : State) (f : Fld) (i : Nat := 0) (k : Nat := 1) : State :=
  s.set f (min (s.get f i + k) (2 ^ (f.msb + 1 - f.lsb) - 1)) i

/-- Bit `b` of a field. -/
def fbit (s : State) (f : Fld) (b : Nat) (i : Nat := 0) : Bool := (s.get f i).testBit b

/-- Set or clear bit `b` of a field. -/
def setBit (s : State) (f : Fld) (b : Nat) (on : Bool) (i : Nat := 0) : State :=
  let v := s.get f i
  let v' := if on then (if v.testBit b then v else v + 2 ^ b) else (if v.testBit b then v - 2 ^ b else v)
  s.set f v' i

/-- Bit `n` of a 64-tile mask kept in a low and a high register. -/
def maskBit (s : State) (lo hi : Fld) (n : Nat) (i : Nat := 0) : Bool :=
  if n < 32 then s.fbit lo n i else s.fbit hi (n - 32) i

/-- Set bit `n` of a 64-tile mask kept in a low and a high register. -/
def setMaskBit (s : State) (lo hi : Fld) (n : Nat) (on : Bool) (i : Nat := 0) : State :=
  if n < 32 then s.setBit lo n on i else s.setBit hi (n - 32) on i

/-- A 64-bit quantity kept in a low and a high register (R11). -/
def get64 (s : State) (lo hi : Fld) (i : Nat := 0) : Nat := s.get lo i + 2 ^ 32 * s.get hi i

/-- Set a 64-bit quantity kept in a low and a high register. -/
def set64 (s : State) (lo hi : Fld) (v : Nat) (i : Nat := 0) : State :=
  (s.set lo (v % 2 ^ 32) i).set hi (v / 2 ^ 32) i

/-! ### Tiles -/

/-- A tile's state beside its registers. -/
def tile (s : State) (n : Fin 64) : Tile := s.tiles[n]

/-- Replace a tile's state beside its registers. -/
def setTile (s : State) (n : Fin 64) (t : Tile) : State := { s with tiles := s.tiles.set n t }

/-- Change a tile's state beside its registers. -/
def modTile (s : State) (n : Fin 64) (f : Tile → Tile) : State := s.setTile n (f (s.tile n))

/-- Change a tile's planner. -/
def modPlan (s : State) (n : Fin 64) (f : Planner → Planner) : State :=
  s.modTile n fun t => { t with plan := f t.plan }

/-- Change a tile's current state. -/
def modCur (s : State) (n : Fin 64) (f : CurState → CurState) : State := s.modTile n fun t => { t with cur := f t.cur }

/-- Change a tile's Lull state. -/
def modLull (s : State) (n : Fin 64) (f : LullState → LullState) : State :=
  s.modTile n fun t => { t with lull := f t.lull }

/-- The planner of a tile. -/
def plan (s : State) (n : Fin 64) : Planner := (s.tile n).plan

/-- Apply `f` for every tile of a list, in order. -/
def forTiles (s : State) (l : List (Fin 64)) (f : Fin 64 → State → State) : State := l.foldl (fun s n => f n s) s

/-! ### Memories -/

/-- A byte of the on-chip memories; nothing written reads as 0. Log: DESIGN CHOICE notes/assumptions/4.md. -/
def byte (s : State) (a : Nat) : Byte := (sparseFind a s.mem).getD 0

/-- Write a byte of the on-chip memories. -/
def setByte (s : State) (a : Nat) (b : Byte) : State := { s with mem := sparsePut 0 a b s.mem }

/-- `k` bytes from address `a`. -/
def bytes (s : State) (a : Nat) : Nat → List Byte
  | 0 => []
  | k + 1 => s.byte a :: bytes s (a + 1) k

/-- Write a byte string from address `a`. -/
def setBytes (s : State) (a : Nat) : List Byte → State
  | [] => s
  | b :: bs => (s.setByte a b).setBytes (a + 1) bs

/-- A little-endian number of `k` bytes at address `a` (R6). -/
def load (s : State) (a k : Nat) : Nat := natLE (s.bytes a k)

/-- Store the low `k` bytes of `v` at address `a` (R6). -/
def store (s : State) (a k v : Nat) : State := s.setBytes a (bytesLE k v)

/-- A byte of host memory as the device has written it. Log: DESIGN CHOICE notes/assumptions/4.md. -/
def hostByte (s : State) (a : Nat) : Byte := (sparseFind a s.host).getD 0

/-- Write a byte string to host memory. -/
def hostStore (s : State) (a : Nat) : List Byte → State
  | [] => s
  | b :: bs => { s with host := sparsePut 0 a b s.host }.hostStore (a + 1) bs

/-- A site-time stamp lies less than `d` ns back. -/
def recent (s : State) (at_ : Option Nat) (d : Nat) : Bool :=
  match at_ with
  | some t => decide (s.now < t + d)
  | none => false

/-! ### Free values -/

/-- The next undetermined number, which nothing constrains, and the state that has used it.
Log: DESIGN CHOICE notes/assumptions/3.md. -/
def fresh (s : State) : Nat × State := (Config.freeValue s.freeCtr, { s with freeCtr := s.freeCtr + 1 })

end State

/-- Every tile number. -/
def allTiles : List (Fin 64) := List.finRange 64

/-- A tile number from a field that names one. -/
def tileOf (n : Nat) : Fin 64 := ⟨n % 64, Nat.mod_lt _ (by decide)⟩

/-- The outcome of a meaning. -/
abbrev Res := Host.Outcome State Fault Refusal

/-! ### The address map of the on-chip memories (R540) -/

/-- Base of the SRAM of tile `n` in Canopy's map. -/
def tileSram (n : Nat) : Nat := 0x30000000 + n * 0x40000

/-- Base of the shared SRAM. -/
def sharedSram : Nat := 0x20000000

/-- Base of the parameter store. -/
def paramStore : Nat := 0x50000000

/-- Base of the execute-in-place window's NOR. -/
def xipNor : Nat := 0x60000000

end Sys2Proof.Machine
end

