-- ==== Sys2Proof/Machine/Post.lean ====
section
/-! DEFINITION. What the device sends out: MSI-X messages, link frames, ring and journal writes to host memory, event
records and completions (15_hamper_rings.md, 16_usfen_chain_and_groups.md). -/

namespace Sys2Proof.Machine

namespace State

/-! ### MSI-X (R453) -/

/-- Vector `v` is masked by its table entry; an entry not written is masked. Log: DESIGN CHOICE notes/assumptions/5.md. -/
def masked (s : State) (v : Nat) : Bool :=
  (((sparseFind (16 * v + 12) s.hamper.msixTable).getD 1).toNat).testBit 0

/-- Send vector `v`, or record it as pending while it is masked (R453).
Log: DESIGN CHOICE notes/assumptions/5.md, notes/assumptions/57.md. -/
def sendVector (s : State) (v : Nat) : State :=
  if s.masked v then
    { s with hamper := { s.hamper with pba := if s.hamper.pba.contains v then s.hamper.pba else v :: s.hamper.pba } }
  else { s with hamper := { s.hamper with sent := s.hamper.sent ++ [v] } }

/-! ### Device identity on the links -/

/-- The device attaches to a host: ROOT_SEL is high (R504). -/
def isRoot (s : State) : Bool := s.flag R.USF_ID_root

/-- The device's own route as the 72-bit number of R463 (R504). -/
def ownRoute (s : State) : Nat :=
  s.get R.USF_ROUTE0_route_lo + 2 ^ 32 * s.get R.USF_ROUTE1_route_mid + 2 ^ 64 * s.get R.USF_ROUTE2_route_hi

/-- The device's own depth (R504). -/
def ownDepth (s : State) : Nat := s.get R.USF_ID_depth

/-- The host interface fixed at Dawn (R461). -/
def hostKind (s : State) : Nat := s.get R.HAMPER_CTL_host

/-- The site-time epoch in force (R520). -/
def epoch (s : State) : Nat := s.get R.TIME_EPOCH_epoch

/-! ### Frames (R494 to R498) -/

/-- The state of a port (R491). -/
def portState (s : State) (p : Fin 4) : Nat := s.get R.USF_PSTATUS_state p

/-- A port carries frames of every class. -/
def portUp (s : State) (p : Fin 4) : Bool := s.portState p = 4

/-- The link port `p`. -/
def port (s : State) (p : Fin 4) : Port := s.usfen.ports[p]

/-- Replace the state of port `p` beside its registers. -/
def setPort (s : State) (p : Fin 4) (q : Port) : State :=
  { s with usfen := { s.usfen with ports := s.usfen.ports.set p q } }

/-- Record a frame as sent on port `p`; USF_TXCNT counts it (R490). Log: DESIGN CHOICE notes/assumptions/57.md. -/
def onWire (s : State) (p : Fin 4) (f : Frame) : State :=
  let s := { s with usfen := { s.usfen with wire := s.usfen.wire ++ [(p.val, f)] } }
  s.set R.USF_TXCNT_frames ((s.get R.USF_TXCNT_frames p + 1) % 2 ^ 32) p

end State

/-- The 64-byte units that a frame takes of a credit (R496): header, payload and payload CRC. -/
def frameUnits (f : Frame) : Nat :=
  (32 + f.payload.length + (if f.payload.isEmpty then 0 else 4) + 63) / 64

/-- A frame's class: 0 alarm, 1 time, 2 command, 3 bulk (R494). -/
def frameCls (f : Frame) : Nat := f.typ / 64 % 4

/-- A frame that is neither numbered nor replayed though its type lies in a numbered class (R498). -/
def frameLinkOnly (f : Frame) : Bool := f.typ = 0xBE || f.typ = 0xBF

namespace State

/-- From when a port waits for acknowledgement once a further frame leaves (R496). -/
def ackFrom (s : State) (q : Port) : Nat := if q.unackedCmd = [] ∧ q.unackedBulk = [] then s.now else q.ackedAt

/-- Number a command or bulk frame and send it within the credit, keeping a copy until it is acknowledged (R496);
without credit it waits. lseq goes from 65,535 to 1 (R673). -/
def sendNumbered (s : State) (p : Fin 4) (f : Frame) : State :=
  let q := s.port p
  if frameCls f = 2 then
    if q.usedCmd + frameUnits f > q.creditCmd + 256 ∨ q.waitCmd ≠ [] then s.setPort p { q with waitCmd := q.waitCmd ++ [f] }
    else
      let g := { f with lseq := q.txNext.1 }
      (s.setPort p { q with
        txNext := (if q.txNext.1 ≥ 65535 then 1 else q.txNext.1 + 1, q.txNext.2),
        ackedAt := s.ackFrom q,
        unackedCmd := q.unackedCmd ++ [(g, 0)], usedCmd := q.usedCmd + frameUnits f }).onWire p g
  else
    if q.usedBulk + frameUnits f > q.creditBulk + 256 ∨ q.waitBulk ≠ [] then
      s.setPort p { q with waitBulk := q.waitBulk ++ [f] }
    else
      let g := { f with lseq := q.txNext.2 }
      (s.setPort p { q with
        txNext := (q.txNext.1, if q.txNext.2 ≥ 65535 then 1 else q.txNext.2 + 1),
        ackedAt := s.ackFrom q,
        unackedBulk := q.unackedBulk ++ [(g, 0)], usedBulk := q.usedBulk + frameUnits f }).onWire p g

/-- Send a frame on port `p` when the port is UP; otherwise it is lost (R503). -/
def sendOn (s : State) (p : Fin 4) (f : Frame) : State :=
  if ¬ s.portUp p then s
  else if frameLinkOnly f ∨ frameCls f < 2 then s.onWire p { f with lseq := 0 }
  else s.sendNumbered p f

/-- A frame of this device: hops 255, source route its own (R494). -/
def mkFrame (s : State) (typ dstDepth dstRoute : Nat) (flood : Bool) (payload : List Byte) : Frame :=
  { typ, hops := 255, dstDepth, flood, srcDepth := s.ownDepth, lseq := 0, dstRoute, srcRoute := s.ownRoute, payload }

/-- The four ports in order (R487). -/
def allPorts : List (Fin 4) := [0, 1, 2, 3]

/-- Send a frame out of every UP port except one (R497). -/
def floodExcept (s : State) (f : Frame) (not : Option (Fin 4)) : State :=
  allPorts.foldl (fun s p => if some p = not then s else s.sendOn p f) s

/-- Flood a new frame of this device. -/
def flood (s : State) (typ : Nat) (payload : List Byte) : State :=
  s.floodExcept (s.mkFrame typ 0 0 true payload) none

end State

/-- The level-`j` field of a route (R463). -/
def routeField (r j : Nat) : Nat := r / 2 ^ (12 * j) % 4096

/-- Routes agree at levels 0 to `k` − 1. -/
def routeAgree (a b k : Nat) : Bool := a % 2 ^ (12 * k) = b % 2 ^ (12 * k)

/-- Where R503 takes a routed frame. -/
inductive Hop where
  | consume
  | port (p : Fin 4)
  deriving DecidableEq, Repr

namespace State

/-- The routing rule of R503. Log: DEDUCED notes/assumptions/6.md. -/
def nextHop (s : State) (dstRoute dstDepth : Nat) : Hop :=
  let d := s.ownDepth
  let k := d - 1
  let r := s.ownRoute
  let n := routeField r k
  let u := routeField dstRoute k
  if d = 0 then .port 0
  else if dstRoute = r ∧ dstDepth = d then .consume
  else if routeAgree dstRoute r k then
    if u = n ∧ dstDepth > d then
      (if (s.port 2).given.contains (routeField dstRoute d) then .port 2 else .port 3)
    else if u > n then .port 1
    else .port 0
  else .port 0

/-- Send a new frame of this device toward a route. A frame to the device itself is not sent. -/
def sendRouted (s : State) (typ dstRoute dstDepth : Nat) (payload : List Byte) : State :=
  match s.nextHop dstRoute dstDepth with
  | .consume => s
  | .port p => s.sendOn p (s.mkFrame typ dstDepth dstRoute false payload)

/-! ### Ring and host-memory writes (R476, R507, R508) -/

/-- The route of the root that a ring of this device uses: root A is unit 1 at depth 1 (R511); the number of the root
reached through D is a site's fact that the spec gives no register for. Log: DEDUCED notes/assumptions/6.md. -/
def rootRoute (viaD : Bool) : Nat := if viaD then Config.rootBeyondD % 4096 else 1

/-- Write bytes to host memory, then send a vector when one is asked for: by PCIe on a root, through the tunnel
elsewhere (R507). The data of one tunnel frame is at most 256 bytes. Log: DEDUCED notes/assumptions/6.md. -/
def toHost (s : State) (viaD : Bool) (addr : Nat) (data : List Byte) (vec : Option Nat) : State :=
  if s.isRoot then
    let s := s.hostStore addr data
    match vec with
    | some v => s.sendVector v
    | none => s
  else
    let body := bytesLE 8 addr ++ bytesLE 2 data.length ++
      [BitVec.ofNat 8 (match vec with | some v => v % 64 + 128 | none => 0)] ++ List.replicate 5 0 ++ data
    s.sendOn (if viaD then 1 else 0) (s.mkFrame 0xC0 1 (rootRoute viaD) false body)

/-- Advance a 17-bit ring index by one slot in a ring of 2^k entries (R454). -/
def nextIndex (k idx : Nat) : Nat :=
  if idx % 65536 + 1 = 2 ^ k then (1 - idx / 65536 % 2) * 65536 else idx + 1

/-- The fill of a ring of 2^k entries whose indexes carry their phase in bit `ph` (R454): producer − consumer over slot
and phase together. Log: DEDUCED notes/assumptions/66.md. -/
def wrapFill (ph k prod cons : Nat) : Nat :=
  let at_ (i : Nat) : Nat := i % 2 ^ ph % 2 ^ k + 2 ^ k * (i / 2 ^ ph % 2)
  (at_ prod + 2 ^ (k + 1) - at_ cons) % 2 ^ (k + 1)

/-- The fill of a submission, completion or event ring. Log: DEDUCED notes/assumptions/66.md. -/
def ringFill (k prod cons : Nat) : Nat := wrapFill 16 k prod cons

/-- Coalescing count of ring `r` (CQ 0 to 63, event rings 64 to 71). Log: DEDUCED notes/assumptions/69.md. -/
def coalCount (s : State) (r : Nat) : Nat := (sparseFind r s.hamper.coal).getD 0

/-- Set the coalescing count of ring `r`; the first unsignalled entry is stamped (R473). -/
def setCoal (s : State) (r v : Nat) : State :=
  let stamps := if v = 0 then sparseErase r s.hamper.coalAt
    else if s.coalCount r = 0 then sparseInsert r s.now s.hamper.coalAt else s.hamper.coalAt
  { s with hamper := { s.hamper with coal := sparsePut 0 r v s.hamper.coal, coalAt := stamps } }

/-- Count one unsignalled entry of ring `r`; answer whether its vector is to be sent now (R473).
Log: DEDUCED notes/assumptions/69.md. -/
def coalesce (s : State) (r limit : Nat) (now : Bool) : Bool × State :=
  if now ∨ s.coalCount r + 1 ≥ max 1 limit then (true, s.setCoal r 0) else (false, s.setCoal r (s.coalCount r + 1))

/-! ### Event records (R476 to R478) -/

/-- Bytes padded or cut to `n`. -/
def padTo (n : Nat) (l : List Byte) : List Byte := l.take n ++ List.replicate (n - l.length) 0

/-- The 32 bytes of an event record (R476). -/
def eventBytes (kind tile flags epoch seq time : Nat) (payload : List Byte) : List Byte :=
  bytesLE 1 kind ++ bytesLE 1 tile ++ bytesLE 1 flags ++ bytesLE 1 epoch ++ bytesLE 4 seq ++ bytesLE 8 time
    ++ padTo 16 payload

/-- The saturated-epoch flag of a record's flags byte (R476). -/
def satFlag (s : State) : Nat := if s.flag R.TIME_EPOCH_saturated then 4 else 0

/-- Write one record to event ring `e`, or count it as lost (R477). A FENCE passes every class mask (R537). -/
def eventToRing (e : Nat) (kind tile seq time : Nat) (payload : List Byte) (s : State) : State :=
  if ¬ s.flag R.EV_CFG_enable e ∨ (¬ s.fbit R.EV_CLASS_classes (kind / 16) e ∧ kind ≠ 0x02) ∨ s.hamper.evErr.contains e then s
  else
    let k := s.get R.EV_CFG_size_log2 e
    let tail := s.get R.EV_TAIL_tail e
    if ringFill k tail (s.get R.EV_HEAD_head e) ≥ 2 ^ k then
      let s := s.set R.EV_LOST_lost ((s.get R.EV_LOST_lost e + 1) % 2 ^ 32) e
      { s with hamper := { s.hamper with evLost := if s.hamper.evLost.contains e then s.hamper.evLost
                                                   else e :: s.hamper.evLost } }
    else
      let lost := s.hamper.evLost.contains e
      let flags := (1 - tail / 65536 % 2) + (if lost then 2 else 0) + s.satFlag
      let bytes := eventBytes kind tile flags s.epoch seq time payload
      let (sig, s) := s.coalesce (64 + e) (s.get R.EV_CFG_coal_count e) false
      let s := { s with hamper := { s.hamper with evLost := s.hamper.evLost.filter (· ≠ e), evLast := sparsePut [] e bytes s.hamper.evLast } }
      let s := s.set R.EV_TAIL_tail (nextIndex k tail) e
      s.toHost (s.fbit R.USF_RING_SIDE_ev_via_d e)
        (s.get64 R.EV_BASE_LO_base R.EV_BASE_HI_base e + 32 * (tail % 65536)) bytes
        (if sig then some (s.get R.EV_CFG_vector e) else none)

/-- Push one record into the mailbox's event FIFO of 256 records (R485). -/
def eventToMailbox (kind tile seq time : Nat) (payload : List Byte) (s : State) : State :=
  if ¬ s.fbit R.EV_CLASS_classes (kind / 16) 0 ∧ kind ≠ 0x02 then s
  else if s.hamper.evFifo.length ≥ 256 then
    let s := s.set R.EV_LOST_lost ((s.get R.EV_LOST_lost 0 + 1) % 2 ^ 32) 0
    { s with hamper := { s.hamper with evLost := [0] } }
  else
    let flags := 1 + (if s.hamper.evLost.contains 0 then 2 else 0) + s.satFlag
    let bytes := eventBytes kind tile flags s.epoch seq time payload
    let s := { s with hamper := { s.hamper with evFifo := s.hamper.evFifo ++ [bytes], evLost := [] } }
    s.set R.MB_STATUS_events s.hamper.evFifo.length

/-- A happening that the fault log records (R633): entry to Lull or Fault, TRIP, SLICE_FAILED, VETO, CANOPY_FAULT,
KEYED_LOCKOUT, DUSK and the store's own events. -/
def logged (kind : Nat) (payload : List Byte) : Bool :=
  if kind = 0x01 then decide (4 ≤ (payload.getD 1 0).toNat)
  else [0x41, 0x43, 0x60, 0x61, 0x69, 0x82, 0x90, 0x91, 0x92, 0x93, 0x94].contains kind

/-- Number an event record and write it to every enabled ring whose classes include its kind (R477). -/
def eventAt (s : State) (time kind tile : Nat) (payload : List Byte) : State :=
  let seq := s.hamper.evSeq
  let s := if logged kind payload then
      { s with ps := { s.ps with log := s.ps.log ++ [eventBytes kind tile s.satFlag s.epoch seq time payload] } } else s
  let s := { s with hamper := { s.hamper with evSeq := (seq + 1) % 2 ^ 32 } }
  if s.hostKind = 2 then eventToMailbox kind tile seq time payload s
  else (List.range 8).foldl (fun s e => eventToRing e kind tile seq time payload s) s

/-- An event record decided now. -/
def event (s : State) (kind tile : Nat) (payload : List Byte) : State := s.eventAt s.now kind tile payload

/-! ### Completions (R468 to R474) -/

/-- The 16 bytes of a completion without its phase bit (R470). -/
def cplBytes (tag status flags sq sqHead : Nat) (result : Nat) : List Byte :=
  bytesLE 2 tag ++ bytesLE 1 status ++ bytesLE 1 flags ++ bytesLE 1 sq ++ [0] ++ bytesLE 2 sqHead ++ bytesLE 8 result

/-- Set the phase bit of a completion. -/
def withPhase (b : List Byte) (phase : Nat) : List Byte :=
  b.set 3 (BitVec.ofNat 8 ((b.getD 3 0).toNat / 2 * 2 + phase))

/-- A CQ has space (R474). -/
def cqSpace (s : State) (c : Nat) : Bool :=
  ringFill (s.get R.CQ_CFG_size_log2 c) (s.get R.CQ_TAIL_tail c) (s.get R.CQ_HEAD_head c) < 2 ^ s.get R.CQ_CFG_size_log2 c

/-- Write a completion into its CQ slot and send the vector when it is due (R470, R473). -/
def cplWrite (s : State) (c : Nat) (b : List Byte) (irq : Bool) : State :=
  let k := s.get R.CQ_CFG_size_log2 c
  let tail := s.get R.CQ_TAIL_tail c
  let (sig, s) := s.coalesce c (s.get R.CQ_CFG_coal_count c) irq
  let s := s.set R.CQ_TAIL_tail (nextIndex k tail) c
  s.toHost false (s.get64 R.CQ_BASE_LO_base R.CQ_BASE_HI_base c + 16 * (tail % 65536))
    (withPhase b (1 - tail / 65536 % 2)) (if sig then some (s.get R.CQ_CFG_vector c) else none)

/-- Put a completion into a CQ, or hold it while the CQ is full; a CQ that is not running writes nothing
(R474, R475). -/
def cplToCq (s : State) (c : Nat) (b : List Byte) (irq : Bool) : State :=
  if s.get R.CQ_STATUS_state c ≠ 1 then s
  else if ¬ s.cqSpace c ∨ s.hamper.heldCpls.any (·.cq = c) then
    ({ s with hamper := { s.hamper with heldCpls := s.hamper.heldCpls ++ [({ cq := c, bytes := b, irq := irq } : HeldCpl)] } }).bump R.CQ_STATUS_stalls c
  else s.cplWrite c b irq

/-- Put a completion into the mailbox's FIFO of 64 (R485), or hold it while the FIFO is full. -/
def cplToMailbox (s : State) (b : List Byte) : State :=
  if s.hamper.cplFifo.length ≥ 64 ∨ s.hamper.heldCpls ≠ [] then
    { s with hamper := { s.hamper with heldCpls := s.hamper.heldCpls ++ [({ cq := 0, bytes := b, irq := false } : HeldCpl)] } }
  else
    let s := { s with hamper := { s.hamper with cplFifo := s.hamper.cplFifo ++ [withPhase b 1] } }
    s.set R.MB_STATUS_completions s.hamper.cplFifo.length

/-- Deliver a completion: into the CQ of this device's queue, into the mailbox, or to the root that sent the command
(R464, R470, R485). The result is 0 on any status other than OK or INTERRUPTED. -/
def deliver (s : State) (r : CmdRef) (status flags result : Nat) : State :=
  let result := if status = 0x00 ∨ status = 0x0B ∨ status = 0x14 then result else 0
  let b := cplBytes r.tag status flags r.sq (s.get R.SQ_HEAD_head r.sq % 65536) result
  if r.own then (if s.hostKind = 2 then s.cplToMailbox b else s.cplToCq r.cq b r.irq)
  else s.sendRouted 0x81 r.srcRoute r.srcDepth (b ++ bytesLE 1 r.cq ++ [0, 0, 0])

/-- A command that another device executes, which counts it in flight (R468). -/
def remoteTrack (t : Track) : Bool :=
  match t.point with
  | .remote _ _ => true
  | _ => false

/-- Set HAMPER_STATUS.in_flight from the tracked commands that this device executes (R461, R468).
Log: DEDUCED notes/assumptions/69.md. -/
def setTracks (s : State) (l : List Track) : State :=
  ({ s with hamper := { s.hamper with tracks := l } }).set R.HAMPER_STATUS_in_flight (l.filter fun t => !remoteTrack t).length

/-- A fetched command has acted. -/
def unfetch (s : State) (r : CmdRef) : State :=
  { s with hamper := { s.hamper with fetched := s.hamper.fetched.filter fun d => d.ref ≠ r } }

/-- Write a command's final completion; it is then no longer tracked (R468, R469). A scheduled command that acts late
completes SCHED_LATE (R533). -/
def complete (s : State) (r : CmdRef) (status : Nat) (result : Nat := 0) : State :=
  let s := s.deliver r (if s.hamper.late.contains r then 0x0C else status) 2 result
  let s := { s with hamper := { s.hamper with
    late := s.hamper.late.filter (· ≠ r)
    migrating := s.hamper.migrating.map fun (m : Nat × CmdRef × List CmdRef) => (m.1, m.2.1, m.2.2.filter (· ≠ r)) } }
  (s.unfetch r).setTracks (s.hamper.tracks.filter fun t => t.ref ≠ r)

/-- Write the ACCEPTED completion of a command whose track flag is set (R469). Log: DEDUCED notes/assumptions/77.md. -/
def accepted (s : State) (r : CmdRef) (result : Nat := 0) : State :=
  if r.track then s.deliver r 0x00 0 result else s

/-- A command that acts at once ends: its ACCEPTED completion, unless it was refused, then the final one (R469, R486). -/
def finish (s : State) (r : CmdRef) (status : Nat) (result : Nat := 0) : State :=
  (if status = 0 then s.accepted r else s).complete r status result

/-- Keep a command tracked until its point (R468). -/
def track (s : State) (r : CmdRef) (p : Point) : State :=
  (s.unfetch r).setTracks (s.hamper.tracks.filter (fun t => t.ref ≠ r) ++ [({ ref := r, point := p } : Track)])

/-- Complete every tracked command whose point is `p`. -/
def completeAt (s : State) (p : Point) (status result : Nat) : State :=
  (s.hamper.tracks.filter fun t => t.point = p).foldl (fun s t => s.complete t.ref status result) s

/-! ### Journal staging (R479 to R481) -/

/-- A journal record's length in 64-byte units. -/
def len64 (body : Nat) : Nat := (24 + body + 63) / 64

/-- Bytes that the staged records take of the 2 MB staging memory. -/
def stagedBytes (s : State) : Nat := (s.hamper.staged.map fun r => 64 * len64 r.body.length).sum

/-- Stage a journal record for ring `j`; a ring not enabled drops it uncounted, a full staging memory drops it and
counts it (R481). Without a host ring interface journal records are dropped without counting (R485).
Log: DEDUCED notes/assumptions/68.md. -/
def journal (s : State) (j kind tile time : Nat) (body : List Byte) : State :=
  if ¬ s.flag R.JR_CFG_enable j ∨ s.hostKind = 2 then s
  else if s.stagedBytes + 64 * len64 body.length > 2 * 1024 * 1024 then
    let s := s.set R.JR_LOST_lost ((s.get R.JR_LOST_lost j + 1) % 2 ^ 32) j
    { s with hamper := { s.hamper with jrLost := if s.hamper.jrLost.contains j then s.hamper.jrLost
                                                 else j :: s.hamper.jrLost } }
  else { s with hamper := { s.hamper with staged := s.hamper.staged ++
        [({ ring := j, kind := kind, tile := tile, time := time, epoch := s.epoch, body := body } : Staged)] } }

end State
end Sys2Proof.Machine
end

