-- ==== Sys2Proof/Machine/CoreOps.lean ====
section
/-! DEFINITION. The Hiker cores as the rest of the device meets them: their interrupt lines, states, reset, sleep and
fault, and the reservations that a write breaks (13_hiker_cores.md, 18_canopy.md R540 to R542). -/

namespace Sys2Proof.Machine
namespace State

/-- A Hiker core. -/
def core (s : State) (k : Fin 66) : Core := s.cores[k]

/-- The core of tile `n`. -/
def coreIx (n : Fin 64) : Fin 66 := ⟨n.val, by omega⟩

/-- Canopy core A, or core 0 in split mode. -/
def canopy0 : Fin 66 := 64

/-- Canopy core 1 in split mode. -/
def canopy1 : Fin 66 := 65

/-- Replace a core; HIKER_PC and HIKER_STATUS.mode and in_lock of a tile core show it (R417). -/
def setCore (s : State) (k : Fin 66) (c : Core) : State :=
  let s := { s with cores := s.cores.set k c }
  if k.val < 64 then
    let s := (s.set R.HIKER_PC_pc c.pc.toNat k).set R.HIKER_STATUS_mode (bits c.status.toNat 31 30) k
    (s.setFlag R.HIKER_STATUS_in_lock c.lock.isSome k).setFlag R.HIKER_STATUS_halt_pending c.deferred.isSome k
  else s

/-- Change a core. -/
def modCore (s : State) (k : Fin 66) (f : Core → Core) : State := s.setCore k (f (s.core k))

/-- The pending bit of a line sets (R404). -/
def pendLine (s : State) (k : Fin 66) (line : Nat) : State :=
  s.modCore k fun c => { c with irqPend := c.irqPend ||| BitVec.ofNat 16 (2 ^ line) }

/-- A line of a tile's core fires (R404). -/
def raiseLine (s : State) (n : Fin 64) (line : Nat) : State := s.pendLine (coreIx n) line

/-- Canopy runs as two cores (R549). -/
def split (s : State) : Bool := s.get R.CANOPY_STATUS_mode = 1

/-- The lines that core 1 has in split mode: the scan tick, Dusk, a tile's Lull or Fault, software lines (R550). -/
def splitLine (line : Nat) : Bool := line = 2 || line = 5 || line = 6 || decide (9 ≤ line)

/-- A line of Canopy fires (R542). -/
def raiseCanopy (s : State) (line : Nat) : State :=
  let s := s.pendLine canopy0 line
  if s.split && splitLine line then s.pendLine canopy1 line else s

/-- The state of a tile's core (R418). -/
def coreState (s : State) (n : Fin 64) : Nat := s.get R.HIKER_STATUS_state n

/-- Put a tile's core into a state; DBG_HALTED shows HALTED (R418, R665). -/
def putCoreState (s : State) (n : Fin 64) (v : Nat) : State :=
  (s.set R.HIKER_STATUS_state v n).setMaskBit R.DBG_HALTED_LO_tiles R.DBG_HALTED_HI_tiles n (decide (v = 4))

/-- The core's state behind SLEEPING (R420). -/
def innerState (s : State) (n : Fin 64) : Nat :=
  if s.coreState n = 7 then (s.core (coreIx n)).wasState else s.coreState n

/-- Put the core into a state, or into the state kept behind SLEEPING. -/
def putInner (s : State) (n : Fin 64) (v : Nat) : State :=
  if s.coreState n = 7 then s.modCore (coreIx n) fun c => { c with wasState := v } else s.putCoreState n v

/-- Memory of a tile's Hiker region at address `a` of the core's map. -/
def hikerMem (n a : Nat) : Nat := tileSram n + a

/-- `k` bytes that the spec leaves undefined, from address `a`. Log: DEDUCED notes/assumptions/45.md. -/
def scramble (s : State) (a : Nat) : Nat → State
  | 0 => s
  | k + 1 => ((s.fresh).2.setByte a (BitVec.ofNat 8 (s.fresh).1)).scramble (a + 1) k

/-- The core's clock stops (R420): a deferred halt is taken first, and the state is kept behind SLEEPING.
Log: DEDUCED notes/assumptions/37.md. -/
def coreSleep (s : State) (n : Fin 64) : State :=
  if s.coreState n = 7 then s
  else
    let was := match (s.core (coreIx n)).deferred with
      | some true => 4
      | some false => 3
      | none => s.coreState n
    (s.modCore (coreIx n) fun c => { c with wasState := was, deferred := none }).putCoreState n 7

/-- The wake returns the core to its previous state (R420). A halt requested in sleep takes effect (R669). -/
def coreWake (s : State) (n : Fin 64) : State :=
  if s.coreState n = 7 then
    let c := s.core (coreIx n)
    let v := match c.deferred with
      | some true => if c.wasState = 2 then 4 else c.wasState
      | some false => if c.wasState = 2 then 3 else c.wasState
      | none => c.wasState
    (s.modCore (coreIx n) fun c => { c with deferred := none }).putCoreState n v
  else s

/-- The core's state becomes FAULTED (R420); a load in progress ends READ_ERROR (R423, R426). -/
def coreFault (s : State) (n : Fin 64) : State :=
  let s := if s.innerState n = 1 then
      ((s.set R.HIKER_STATUS_load_error 0x07 n).scramble (hikerMem n 0x18000) 32768).event 0x06 n ([7, 0, 0, 0] ++ bytesLE 4 0)
    else s
  s.putCoreState n 6

/-- The core's registers at their reset values, its interface kept (R419, R425).
Log: DESIGN CHOICE notes/assumptions/2.md. -/
def coreClear (c : Core) : Core :=
  { c with g := Core.reset.g, pc := 0, status := Core.reset.status, estatus := Core.reset.estatus, epc := 0, ecause := 0,
           ebadaddr := 0, vbase := 0, loops := Core.reset.loops, kscr := Core.reset.kscr, delay := none, shadow := false,
           lock := none, waiting := false, deferred := none, stepping := false, fetchBuf := [], stale := [] }

/-- The core returns to RESET, behind SLEEPING while its tile is Asleep (R418 to R420); a locked sequence is discarded. A core
already in RESET is unchanged. -/
def coreReset (s : State) (n : Fin 64) : State :=
  if s.innerState n = 0 then s
  else
    let s := if (s.core (coreIx n)).lock.isSome then s.setFlag R.HIKER_STATUS_lock_broken true n else s
    (s.modCore (coreIx n) coreClear).putInner n 0

/-- A write of the words that hold `bytes` bytes from on-chip address `a` breaks every reservation of another core on
them (R412). -/
def breakLocks (s : State) (writer : Option (Fin 66)) (a bytes : Nat) : State :=
  { s with cores := Vector.ofFn fun k : Fin 66 =>
      let c := s.cores[k]
      match c.lock with
      | some l =>
        if some k ≠ writer ∧ l.reserved.any (fun w => decide (w < a + bytes) && decide (a < w + 4)) then
          { c with lock := some { l with broken := true } }
        else c
      | none => c }

/-- Write bytes into the Hiker region or the shared SRAM. -/
def sharedWrite (s : State) (writer : Option (Fin 66)) (a : Nat) (b : List Byte) : State :=
  (s.setBytes a b).breakLocks writer a b.length

end State
end Sys2Proof.Machine
end

