-- ==== Sys2Proof/Machine/CurrentOps.lean ====
section
/-! DEFINITION. Shape table, electrical index and set-points (04_microsteps_and_chopper.md R111 to R121), current levels
(R122 to R129), chopper thresholds (R130, R131). -/

namespace Sys2Proof.Machine

/-- Reset shape table, entries 0 to 15 (R117). -/
def shapeRow0 : List Nat := [0, 25, 50, 75, 100, 126, 151, 176, 201, 226, 251, 276, 301, 326, 351, 376]

/-- Reset shape table, entries 16 to 31 (R117). -/
def shapeRow1 : List Nat := [401, 426, 451, 476, 501, 526, 551, 576, 601, 626, 651, 675, 700, 725, 750, 774]

/-- Reset shape table, entries 32 to 47 (R117). -/
def shapeRow2 : List Nat := [799, 824, 848, 873, 897, 922, 946, 971, 995, 1019, 1044, 1068, 1092, 1116, 1141, 1165]

/-- Reset shape table, entries 48 to 63 (R117). -/
def shapeRow3 : List Nat := [1189, 1213, 1237, 1261, 1285, 1308, 1332, 1356, 1380, 1403, 1427, 1450, 1474, 1497, 1521, 1544]

/-- Reset shape table, entries 64 to 79 (R117). -/
def shapeRow4 : List Nat := [1567, 1590, 1613, 1636, 1659, 1682, 1705, 1728, 1751, 1774, 1796, 1819, 1841, 1864, 1886, 1908]

/-- Reset shape table, entries 80 to 95 (R117). -/
def shapeRow5 : List Nat := [1930, 1952, 1975, 1997, 2018, 2040, 2062, 2084, 2105, 2127, 2148, 2170, 2191, 2212, 2233, 2254]

/-- Reset shape table, entries 96 to 111 (R117). -/
def shapeRow6 : List Nat := [2275, 2296, 2317, 2337, 2358, 2378, 2399, 2419, 2439, 2460, 2480, 2500, 2519, 2539, 2559, 2578]

/-- Reset shape table, entries 112 to 127 (R117). -/
def shapeRow7 : List Nat := [2598, 2617, 2636, 2656, 2675, 2694, 2713, 2731, 2750, 2769, 2787, 2805, 2824, 2842, 2860, 2878]

/-- Reset shape table, entries 128 to 143 (R117). -/
def shapeRow8 : List Nat := [2896, 2913, 2931, 2948, 2966, 2983, 3000, 3017, 3034, 3051, 3068, 3084, 3101, 3117, 3133, 3149]

/-- Reset shape table, entries 144 to 159 (R117). -/
def shapeRow9 : List Nat := [3165, 3181, 3197, 3213, 3228, 3244, 3259, 3274, 3289, 3304, 3319, 3333, 3348, 3362, 3377, 3391]

/-- Reset shape table, entries 160 to 175 (R117). -/
def shapeRow10 : List Nat := [3405, 3419, 3433, 3446, 3460, 3473, 3486, 3499, 3512, 3525, 3538, 3551, 3563, 3575, 3588, 3600]

/-- Reset shape table, entries 176 to 191 (R117). -/
def shapeRow11 : List Nat := [3611, 3623, 3635, 3646, 3658, 3669, 3680, 3691, 3702, 3713, 3723, 3733, 3744, 3754, 3764, 3774]

/-- Reset shape table, entries 192 to 207 (R117). -/
def shapeRow12 : List Nat := [3783, 3793, 3802, 3811, 3821, 3830, 3838, 3847, 3856, 3864, 3872, 3880, 3888, 3896, 3904, 3911]

/-- Reset shape table, entries 208 to 223 (R117). -/
def shapeRow13 : List Nat := [3919, 3926, 3933, 3940, 3947, 3953, 3960, 3966, 3972, 3978, 3984, 3990, 3996, 4001, 4006, 4011]

/-- Reset shape table, entries 224 to 239 (R117). -/
def shapeRow14 : List Nat := [4016, 4021, 4026, 4030, 4035, 4039, 4043, 4047, 4051, 4054, 4058, 4061, 4064, 4067, 4070, 4073]

/-- Reset shape table, entries 240 to 255 (R117). -/
def shapeRow15 : List Nat := [4075, 4078, 4080, 4082, 4084, 4086, 4087, 4089, 4090, 4091, 4092, 4093, 4094, 4094, 4095, 4095]

/-- Reset shape table, entries 256 to 256 (R117). -/
def shapeRow16 : List Nat := [4095]

/-- T[i] = round(4,095 × sin(i × 90° / 256)) (R117). -/
def shapeTable : List Nat :=
  shapeRow0 ++ shapeRow1 ++ shapeRow2 ++ shapeRow3 ++ shapeRow4 ++ shapeRow5 ++ shapeRow6 ++ shapeRow7 ++ shapeRow8 ++ shapeRow9 ++ shapeRow10 ++ shapeRow11 ++ shapeRow12 ++ shapeRow13 ++ shapeRow14 ++ shapeRow15 ++ shapeRow16

/-- One 32.32 position in planner units (R49). -/
def p38 : Int := 2 ^ 38

namespace State

/-- A change to a tile's regulator of phase `x`. -/
def modChop (s : State) (n : Fin 64) (x : Fin 2) (f : Chop → Chop) : State :=
  s.modTile n fun t => { t with chop := t.chop.set x (f t.chop[x]) }

/-- The regulator of phase `x`. -/
def chop (s : State) (n : Fin 64) (x : Fin 2) : Chop := (s.tile n).chop[x]

/-- A change to a tile's legs. -/
def modLegs (s : State) (n : Fin 64) (f : Legs → Legs) : State := s.modTile n fun t => { t with legs := f t.legs }

/-- The legs of a tile. -/
def legs (s : State) (n : Fin 64) : Legs := (s.tile n).legs

/-- TILE_STATE.state (R17). -/
def st (s : State) (n : Fin 64) : Nat := s.get R.TILE_STATE_state n

/-- The tile regulates current: Holding, Moving, or on its way from Idle to Holding (R127, R254). -/
def energised (s : State) (n : Fin 64) : Bool :=
  s.st n = 2 || s.st n = 3 || (s.st n = 1 && (s.tile n).cur.energising)

/-! ### Shape and set-points -/

/-- Entry `i` of shape bank `b` (R117). -/
def shapeEntry (s : State) (n : Fin 64) (b i : Nat) : Nat :=
  (sparseFind (512 * b + i) (s.tile n).shape).getD (shapeTable.getD i 0)

/-- Write entry `i` of shape bank `b`. -/
def setShape (s : State) (n : Fin 64) (b i v : Nat) : State :=
  s.modTile n fun t => { t with shape := sparsePut (shapeTable.getD i 0) (512 * b + i) v t.shape }

/-- σ of R111. -/
def sigma (s : State) (n : Fin 64) : Int := if s.flag R.USTEP_CTL_dir_inv n then -1 else 1

/-- P as the 32.32 position accumulator at the end of the last tick (R56). -/
def pos32 (s : State) (n : Fin 64) : Int := Int.fdiv (s.plan n).p p38

/-- The accumulator at the present clock (R56): within the tick that ran last the rate multiplier is on its way from Pr at
the tick's start to Pr at its end. -/
def accumulator (s : State) (n : Fin 64) : Int :=
  match (s.plan n).ran with
  | none => s.pos32 n
  | some (t, old, new) =>
    if t ≤ s.now ∧ s.now < t + 1000 then old + Int.fdiv ((new - old) * ((s.now - t) / 10 : Nat)) 100 else s.pos32 n

/-- The electrical index e at the present clock (R111). -/
def elecIndex (s : State) (n : Fin 64) : Nat :=
  (Int.emod (s.sigma n * Int.fdiv (s.accumulator n) (2 ^ 32) + s.get R.USTEP_CTL_elec_off n) 1024).toNat

/-- The shape value a(e) (R114). -/
def shapeValue (s : State) (n : Fin 64) (e : Nat) : Int :=
  let b := s.get R.USTEP_STATUS_active_bank n
  let r := e % 256
  match e / 256 % 4 with
  | 0 => s.shapeEntry n b r
  | 1 => s.shapeEntry n b (256 - r)
  | 2 => -(s.shapeEntry n b r : Int)
  | _ => -(s.shapeEntry n b (256 - r) : Int)

/-- The signed set-point for shape value `a` under level code `c` (R115). -/
def setPoint (c : Nat) (a : Int) : Int := a.sign * (((c * a.natAbs + 2048) / 4096 : Nat) : Int)

/-- Level code in force c: the ramped code limited to CUR_CAP.cap, 0 while the chopper is stopped (R127). -/
def levelCode (s : State) (n : Fin 64) : Nat :=
  if s.energised n then min (s.tile n).cur.ramped (s.get R.CUR_CAP_cap n) else 0

/-- The set-point of phase `x` (R115). -/
def sp (s : State) (n : Fin 64) (x : Fin 2) : Int :=
  if x = 0 then s.getInt R.PHASE_SP_sp_a n else s.getInt R.PHASE_SP_sp_b n

/-! ### Chopper values (R130, R131) -/

/-- A set-point quantity in sense codes: value × 2 × fs_ma / sense_ma, rounded (R130); 0 without a scale. -/
def toSense (s : State) (n : Fin 64) (v : Int) : Int :=
  let sense := s.get R.CUR_SCALE_sense_ma n
  if sense = 0 then 0 else roundDiv (v * 2 * s.get R.CUR_SCALE_fs_ma n) sense

/-- half of R130. -/
def halfBand (s : State) (n : Fin 64) : Int := s.toSense n (s.get R.CHOP_CTL_band n) / 2

/-- Phase `x` is in duty mode (R148). -/
def inDuty (s : State) (n : Fin 64) (x : Fin 2) : Bool :=
  if x = 0 then s.flag R.CHOP_STATUS_duty_a n else s.flag R.CHOP_STATUS_duty_b n

/-- o_fix of phase `x`, 1/16 sense code (R139). -/
def offset16 (s : State) (n : Fin 64) (x : Fin 2) : Int :=
  if x = 0 then s.getInt R.CHOP_OFFSET_off_a n else s.getInt R.CHOP_OFFSET_off_b n

/-- hi_x and lo_x of phase `x`, in sense codes (R130); in duty mode the offset is not applied (R141). -/
def chopBounds (s : State) (n : Fin 64) (x : Fin 2) : Rat × Rat :=
  let m : Int := (s.toSense n (s.sp n x)).natAbs
  let o : Rat := if s.inDuty n x then 0 else (s.offset16 n x : Rat) / 16
  let hi : Rat := (m + s.halfBand n : Int) + o
  let lo : Rat := (m - s.halfBand n : Int) + o
  (if 8191 < hi then 8191 else hi, if lo < 0 then 0 else lo)

/-- dir of R131: the sign of the set-point, or the direction of the last ON state. -/
def chopDir (s : State) (n : Fin 64) (x : Fin 2) : Int :=
  if s.sp n x = 0 then (s.chop n x).dir else (s.sp n x).sign

/-- Set the threshold codes of window `w`; a change starts its 40 ns of R329. -/
def putThr (s : State) (n : Fin 64) (w : Fin 6) (upper lower : Nat) : State :=
  if s.get (R.WIN_THR_upper.nth w) n = upper ∧ s.get (R.WIN_THR_lower.nth w) n = lower then s
  else
    let s := (s.set (R.WIN_THR_upper.nth w) upper n).set (R.WIN_THR_lower.nth w) lower n
    s.modLegs n fun l => { l with thrAt := l.thrAt.set w (some s.now) }

/-- The chopper writes both thresholds of phase `x`'s window while the tile is energised (R131). -/
def putThresholds (s : State) (n : Fin 64) (x : Fin 2) : State :=
  if ¬ s.energised n then s
  else
    let b := s.chopBounds n x
    let d := s.chopDir n x
    let code (r : Rat) : Nat := (clampInt 0 4095 (2048 + d * roundRat (r / 4))).toNat
    s.putThr n (if x = 0 then 0 else 1) (code b.1) (code b.2)

/-- The active shape bank becomes the inactive one (R120). -/
def flipBank (s : State) (n : Fin 64) : State :=
  (s.set R.USTEP_STATUS_active_bank (1 - s.get R.USTEP_STATUS_active_bank n) n).setFlag R.USTEP_STATUS_swap_pending false n

/-- While the tile is Moving, a pending swap takes effect on the clock at which e enters a multiple of 256, and the set-points
of that clock use the new bank (R120, R154). -/
def swapAtEntry (s : State) (n : Fin 64) (e : Nat) : State :=
  if s.flag R.USTEP_STATUS_swap_pending n ∧ s.st n = 3 ∧ e ≠ s.get R.USTEP_STATUS_e n ∧ e % 256 = 0 then s.flipBank n else s

/-- e, CMD_ANGLE, both set-points and the chopper thresholds follow the position and the level (R111 to R116,
R131). -/
def refreshPhase (s : State) (n : Fin 64) : State :=
  let e := s.elecIndex n
  let c := s.levelCode n
  let s := s.swapAtEntry n e
  let s := (s.set R.USTEP_STATUS_e e n).set R.CMD_ANGLE_angle (64 * e) n
  let s := s.setInt R.PHASE_SP_sp_a (setPoint c (s.shapeValue n e)) n
  let s := s.setInt R.PHASE_SP_sp_b (setPoint c (s.shapeValue n ((e + 256) % 1024))) n
  (s.putThresholds n 0).putThresholds n 1

/-- The present index of a tile whose position moves within its tick comes into force on this clock (R111). -/
def clockPhase (s : State) (n : Fin 64) : State :=
  if (s.plan n).ran.isSome ∧ s.elecIndex n ≠ s.get R.USTEP_STATUS_e n then s.refreshPhase n else s

/-! ### Levels (R127 to R129) -/

/-- The level code that puts row `j` of a map walk on the current vector (R165, R193). -/
def walkLevel (s : State) (n : Fin 64) (j : Nat) : Nat :=
  let fs := s.get R.CUR_SCALE_fs_ma n
  if fs = 0 then 0
  else min 4095 (roundDiv (((j + 1) * s.get R.WALK_CFG_i_max_ma n * 4096 : Nat) : Int) (32 * fs)).toNat

/-- The target level: its code in CUR_STATUS.level and its level code (R127). -/
def targetLevel (s : State) (n : Fin 64) : Nat × Nat :=
  let c := (s.tile n).cur
  let run := s.get R.CUR_RUN_run n
  let hold := s.get R.CUR_LEVEL_hold n
  let park := s.get R.CUR_LEVEL_park n
  if ¬ s.energised n then (0, 0)
  else if c.energising then (2, hold)
  else if c.deenergising then (0, 0)
  else if (s.tile n).sd.walk.isSome ∧ s.get R.WALK_STATUS_phase n = 1 then (2, hold)
  else if (s.tile n).sd.walk.isSome ∧ 2 ≤ s.get R.WALK_STATUS_phase n then
    (if s.st n = 3 then 1 else 2, s.walkLevel n (s.get R.WALK_STATUS_row n))
  else if s.st n = 3 then (1, run)
  else if c.keep then (1, run)
  else if ¬ c.stood ∧ s.get R.CUR_TIMING_stand_delay n ≠ 0 then (1, run)
  else if c.parked ∧ park ≠ 0 ∧ s.get R.CUR_TIMING_park_delay n ≠ 0 then (3, park)
  else (2, hold)

/-- The code in force is at hold, or at the cap, and hold is its target (R127). -/
def atHold (s : State) (n : Fin 64) : Bool :=
  decide (s.st n = 2 ∧ (s.targetLevel n).1 = 2 ∧ s.levelCode n = min (s.get R.CUR_LEVEL_hold n) (s.get R.CUR_CAP_cap n))

/-- CUR_STATUS shows the target level and the code in force; with ramp_step 0 the ramped code follows at once
(R126, R129). -/
def showLevel (s : State) (n : Fin 64) : State :=
  let t := s.targetLevel n
  let s := if s.get R.CUR_TIMING_ramp_step n = 0 then s.modCur n fun c => { c with ramped := t.2 } else s
  let s := (s.set R.CUR_STATUS_level t.1 n).set R.CUR_STATUS_target t.2 n
  let s := s.modCur n fun c => { c with heldAt := if s.atHold n then some (c.heldAt.getD s.now) else none }
  let s := s.setFlag R.CUR_STATUS_ramping (decide ((s.tile n).cur.ramped ≠ t.2)) n
  (s.set R.CUR_STATUS_code (s.levelCode n) n).refreshPhase n

/-- CUR_CAP takes a new value; a rise lets the ramp start from the capped code (R128). -/
def putCap (s : State) (n : Fin 64) (v : Nat) : State :=
  let old := s.get R.CUR_CAP_cap n
  let s := if old < v then s.modCur n fun c => { c with ramped := min c.ramped old } else s
  (s.set R.CUR_CAP_cap v n).showLevel n

/-- The run current of a starting segment comes into force, and the code steps at once to run (R125, R128). -/
def startCurrent (s : State) (n : Fin 64) (g0 : Nat) : State :=
  let run := bits g0 31 20
  let s := if run ≠ 0 then s.set R.CUR_RUN_run run n else s
  (s.modCur n fun c => { c with ramped := s.get R.CUR_RUN_run n, keep := false, stood := false, parked := false }).showLevel n

end State
end Sys2Proof.Machine
end

