-- ==== Sys2Proof/Machine/Ripple.lean ====
section
/-! DEFINITION. Bridge states as the registers and the tags show them, and the ripple buffer: samples, edge log, decimation
(04_microsteps_and_chopper.md R134, R136, R148 to R153, 09_converters.md R285 to R288, R301). -/

namespace Sys2Proof.Machine

/-- The phase of leg `k`. -/
def legPhase (k : Nat) : Fin 2 := if k < 2 then 0 else 1

/-- The 16 bits of a sample word: result in [15:2], tag in [1:0] (R150). -/
def sampleWord (x : Sample) : Nat := wrapNat 14 x.code * 4 + x.tag % 4

/-- The multiples of `g` from `a` up to but not at `b`. -/
def gridBetween (g a b : Nat) : List Nat :=
  (List.range ((b + g - 1) / g - (a + g - 1) / g)).map fun i => ((a + g - 1) / g + i) * g

namespace State

/-! ### Bridge states -/

/-- The bridge state of phase `x` in hysteresis mode (R134). -/
def bstate (s : State) (n : Fin 64) (x : Fin 2) : Nat :=
  if x = 0 then s.get R.CHOP_STATUS_bstate_a n else s.get R.CHOP_STATUS_bstate_b n

/-- Set the bridge state of phase `x`. -/
def setBstate (s : State) (n : Fin 64) (x : Fin 2) (v : Nat) : State :=
  if x = 0 then s.set R.CHOP_STATUS_bstate_a v n else s.set R.CHOP_STATUS_bstate_b v n

/-- A refresh pulse is in progress on a leg of phase `x` (R137). -/
def refreshing (s : State) (n : Fin 64) (x : Fin 2) : Bool := decide ((s.legs n).refresh / 4 ^ x.val % 4 ≠ 0)

/-- The drive of a phase in duty mode: 0b01 in direction dir, 0b10 against it, 0b00 while both legs freewheel (R150). -/
def driveState (s : State) (n : Fin 64) (x : Fin 2) : Nat :=
  match (s.legs n).want / 16 ^ x.val % 16 with
  | 6 => if 0 < s.chopDir n x then 1 else 2
  | 9 => if 0 < s.chopDir n x then 2 else 1
  | _ => 0

/-- The bridge state of phase `x` as CHOP_STATUS, the tags and the edge log give it: REFRESH inside ON and FAST (R134, R148, R150).
Log: DEDUCED notes/assumptions/103.md. -/
def shownState (s : State) (n : Fin 64) (x : Fin 2) : Nat :=
  if s.inDuty n x then s.driveState n x
  else if s.bstate n x ≠ 0 ∧ s.refreshing n x then 3
  else s.bstate n x

/-- Phase `x` is blanked for the chopper at `t`, sixths of a ns (R136). -/
def blankedAt (s : State) (n : Fin 64) (x : Fin 2) (t : Nat) : Bool :=
  decide (t < 6 * ((s.chop n x).lastEdge + 5 * s.get R.CHOP_TIME_blank n))

/-- The tag of a sample of phase `x` at `t`: 0b11 while blanked and in the 2 µs after a change of reference (R150, R301). -/
def tagAt (s : State) (n : Fin 64) (x : Fin 2) (t : Nat) : Nat :=
  if s.blankedAt n x t ∨ (s.tile n).adc.fellBack.any (fun r => decide (t < 6 * (r + 2000))) then 3 else s.shownState n x

/-! ### Decimation (R153, R180) -/

/-- The decimation of phase `x`: the larger of decim and 1 while Sundial runs REDUCED and the phase's last cycle was shorter than
20 µs (R153, R180). -/
def decimOf (s : State) (n : Fin 64) (x : Fin 2) : Nat :=
  max (s.get R.RIPPLE_CTL_decim n)
    (if s.get R.SD_STATUS_mode n = 2 ∧ (s.chop n x).lastLen.any (fun t => decide (t < 20000)) then 1 else 0)

/-- decim_eff shows the larger decimation of both phases (R153). Log: DEDUCED notes/assumptions/103.md. -/
def showDecim (s : State) (n : Fin 64) : State :=
  s.set R.RIPPLE_STATUS_decim_eff (max (s.decimOf n 0) (s.decimOf n 1)) n

/-! ### Samples and edges (R149 to R152) -/

/-- The buffer takes entries: enabled and not frozen (R152). -/
def rippleOn (s : State) (n : Fin 64) : Bool := s.flag R.RIPPLE_CTL_enable n && !s.flag R.RIPPLE_STATUS_frozen n

/-- Phase `x`'s part of the ripple buffer (R149). -/
def rippleBase (n : Fin 64) (x : Fin 2) : Nat := tileSram n + 0x10000 + 0x4000 * x.val

/-- The fields of RIPPLE_PTR and RIPPLE_EDGE of phase `x`: index and wrap (R152). -/
def rippleIdx (x : Fin 2) : Fld := if x = 0 then R.RIPPLE_PTR_idx_a else R.RIPPLE_PTR_idx_b
def rippleWrap (x : Fin 2) : Fld := if x = 0 then R.RIPPLE_PTR_wrap_a else R.RIPPLE_PTR_wrap_b
def edgeIdx (x : Fin 2) : Fld := if x = 0 then R.RIPPLE_EDGE_eidx_a else R.RIPPLE_EDGE_eidx_b
def edgeWrap (x : Fin 2) : Fld := if x = 0 then R.RIPPLE_EDGE_wrap_a else R.RIPPLE_EDGE_wrap_b

/-- An index goes on and its wrap bit toggles when it returns to 0 (R152). -/
def advanceIdx (s : State) (n : Fin 64) (idx wrap : Fld) (size : Nat) : State :=
  let i := s.get idx n + 1
  if i < size then s.set idx i n else (s.set idx 0 n).set wrap (1 - s.get wrap n) n

/-- A sample word enters the buffer (R149, R150, R152). -/
def putSample (s : State) (n : Fin 64) (x : Fin 2) (p : Sample) : State :=
  let s := s.store (rippleBase n x + 2 * s.get (rippleIdx x) n) 2 (sampleWord p)
  s.advanceIdx n (rippleIdx x) (rippleWrap x) 7168

/-- The sample of phase `x` at instant `t`: its code, tagged, at a limit with over_range_f, and stored in a stored cycle
(R150, R153, R287). -/
def takeSample (s : State) (n : Fin 64) (x : Fin 2) (t : Nat) : State :=
  let code := signed 14 (Config.senseCode n x t)
  let s := if code = -8192 ∨ code = 8191 then s.setFlag R.ADC_EVENTS_over_range_f true n else s
  if s.rippleOn n ∧ (s.chop n x).storing then s.putSample n x ⟨s.tagAt n x t, code, t⟩ else s

/-- The two words of an edge-log entry (R151). -/
def edgeBytes (sample state : Nat) (starts : Bool) (time : Nat) : List Byte :=
  bytesLE 4 (sample + state * 2 ^ 14 + b2n starts * 2 ^ 16) ++ bytesLE 4 time

/-- The present cycle of phase `x` starts with this edge: the cycle is stored when its turn has come (R153). -/
def startStored (s : State) (n : Fin 64) (x : Fin 2) : State :=
  let d := s.decimOf n x
  s.modChop n x fun c => { c with cycleDue := false, storing := decide (c.skip = 0 ∨ d = 0),
                                  skip := if c.skip = 0 ∨ d = 0 then d else min c.skip d - 1 }

/-- A gate edge of phase `x` enters the edge log of a stored cycle; the edge that ends one is part of it (R151, R153). In duty mode
the first edge of a period bears its cycle_start. Log: DESIGN CHOICE notes/assumptions/102.md. -/
def putEdge (s : State) (n : Fin 64) (x : Fin 2) : State :=
  let starts := (s.chop n x).cycleDue
  let was := (s.chop n x).storing
  let s := if starts then s.startStored n x else s
  if s.rippleOn n ∧ (was ∨ (s.chop n x).storing) then
    let b := edgeBytes (s.get (rippleIdx x) n) (s.shownState n x) starts s.now
    let s := s.setBytes (rippleBase n x + 0x3800 + 8 * s.get (edgeIdx x) n) b
    s.advanceIdx n (edgeIdx x) (edgeWrap x) 256
  else s

/-- Phase `x`'s fast converter has three positions: 60 MS/s (R288, R296). -/
def slowConv (s : State) (n : Fin 64) (x : Fin 2) : Bool :=
  decide ((if x = 0 then (s.tile n).adc.conv[0] else (s.tile n).adc.conv[1]).pos.length = 3)

/-- The rate of phase `x`'s samples: within a cycle that of its start (R154). -/
def rate60 (s : State) (n : Fin 64) (x : Fin 2) : Bool := if s.energised n then (s.chop n x).rate60 else s.slowConv n x

/-- The samples that both fast converters of an energised tile, or of one in Lull, take from `old` to the present, ns
(R149, R285, R286). Log: DESIGN CHOICE notes/assumptions/102.md. -/
def capture (s : State) (n : Fin 64) (old : Nat) : State :=
  if ¬ s.energised n ∧ s.st n ≠ 4 then s
  else
    ([0, 1] : List (Fin 2)).foldl (fun (s : State) (x : Fin 2) =>
      (gridBetween (if s.rate60 n x then 100 else 75) (6 * old) (6 * s.now)).foldl (fun (s : State) t => s.takeSample n x t) s) s

/-- A cycle of phase `x` begins: the rate of its converter is that of the present positions (R154). -/
def cycleRate (s : State) (n : Fin 64) (x : Fin 2) : State :=
  let r := s.slowConv n x
  s.modChop n x fun c => { c with rate60 := r, ratePrev := c.rate60, cycleDue := true }

end State
end Sys2Proof.Machine
end

