-- ==== Sys2Proof/Machine/Gates.lean ====
section
/-! DEFINITION. Gate requests with dead time, interlock, refresh and precharge (08_bridge_legs_and_trips.md R249 to R263,
04_microsteps_and_chopper.md R137), the start and stop of the regulators (R127, R134, R145), and the windows' raw bits and latches
(10_window_monitors.md R328 to R343). -/

namespace Sys2Proof.Machine

namespace State

/-! ### Gates (R249 to R254) -/

/-- Gates of a phase's two legs for a bridge state and direction (R134), bit 2k + 1 the high side of leg k. -/
def bridgeGates (state : Nat) (dir : Int) : Nat :=
  match state with
  | 1 => if 0 < dir then 6 else 9
  | 2 => if 0 < dir then 9 else 6
  | _ => 5

/-- Both gates of leg `k` are requested. -/
def bothOn (g k : Nat) : Bool := g.testBit (2 * k) && g.testBit (2 * k + 1)

/-- A request with the legs that name both gates turned off (R252). -/
def interlock (g : Nat) : Nat :=
  (List.range 4).foldl (fun a k => if bothOn g k then a else a + g / 4 ^ k % 4 * 4 ^ k) 0

/-- The request of leg `k`, two bits, from the chopper or the duty compares: none before the leg has left OFF, and the low side
in place of the high side during its precharge (R249, R254). Log: DEDUCED notes/assumptions/97.md. -/
def legRequest (s : State) (n : Fin 64) (k : Nat) : Nat :=
  let l := s.legs n
  let x := legPhase k
  let g := if s.inDuty n x then l.cmp / 4 ^ k % 4 else bridgeGates (s.bstate n x) (s.chop n x).dir / 4 ^ (k % 2) % 4
  if ¬ l.live.testBit k then 0 else if l.pre.testBit k ∧ 2 ≤ g then 1 else g

/-- The gates that sources 2 to 4 of R249 request, before the interlock. -/
def baseRequest (s : State) (n : Fin 64) : Nat :=
  if s.energised n then ((List.range 4).map fun k => s.legRequest n k * 4 ^ k).sum
  else if s.st n = 1 ∧ s.flag R.LEG_OVR_enable n then s.get R.LEG_OVR_gates n
  else 0

/-- The gates that the first applying source of R249 requests: a leg in a refresh pulse its low side. -/
def gateRequest (s : State) (n : Fin 64) : Nat :=
  let g := s.baseRequest n
  ((List.range 4).map fun k => (if (s.legs n).refresh.testBit k then 1 else g / 4 ^ k % 4) * 4 ^ k).sum

/-- The dead time before gate `i` may turn on, ns (R250). -/
def deadNs (s : State) (n : Fin 64) (i : Nat) : Nat :=
  5 * (if i % 2 = 0 then (s.legs n).deadHl else (s.legs n).deadLh)

/-- The other gate of a gate's leg. -/
def otherGate (i : Nat) : Nat := if i % 2 = 0 then i + 1 else i - 1

/-- The interlock lets leg `k` turn on: both gates have been off for the longer dead time, or 5 ns, since a request began
to name both (R252). -/
def unblocked (s : State) (n : Fin 64) (k : Nat) : Bool :=
  let l := s.legs n
  match l.blockAt.toList.getD k none with
  | some t => decide (t + 5 * max 1 (max l.deadHl l.deadLh) ≤ s.now)
  | none => true

/-- Gate `i` may turn on now: the other gate of its leg is off and has been for the dead time (R250, R252). -/
def mayTurnOn (s : State) (n : Fin 64) (i : Nat) : Bool :=
  s.unblocked n (i / 2) && !s.fbit R.LEG_STATUS_gates (otherGate i) n &&
    decide ((s.legs n).offAt.toList.getD (otherGate i) 0 + s.deadNs n i ≤ s.now)

/-- Set a gate's level, noting an edge: the phase is blanked from it, and its edge log takes it (R136, R151). -/
def putGate (s : State) (n : Fin 64) (i : Fin 8) (on : Bool) : State :=
  if s.fbit R.LEG_STATUS_gates i n = on then s
  else
    let x := legPhase (i.val / 2)
    let s := s.setBit R.LEG_STATUS_gates i on n
    let s := s.modLegs n fun l => if on then { l with onAt := l.onAt.set i s.now } else { l with offAt := l.offAt.set i s.now }
    (s.modChop n x fun c => { c with lastEdge := s.now }).putEdge n x

/-- The eight gates. -/
def gateList : List (Fin 8) := [0, 1, 2, 3, 4, 5, 6, 7]

/-- A boundary-scan instruction has taken the pins from the core (R664). -/
def pinsTaken (s : State) : Bool := [0x00, 0x03, 0x04, 0x05, 0x06].contains s.tap.ir

/-- Dawn has ended: until then every tile is held in Idle and every energise and wake waits (R658).
Log: DESIGN CHOICE notes/assumptions/20.md. -/
def dawnDone (s : State) : Bool := decide (s.get R.DAWN_STATUS_stage = 5)

/-- The gates may leave L: Dawn has enabled the tiles and no reset waits for its Dawn (R262). -/
def tilesEnabled (s : State) : Bool := s.dawnDone && s.lookout.dawnCause.isNone

/-- Level of the pin of gate `i`: none is Z, without VDDIO in Off (R262, R604). -/
def gatePin (s : State) (n : Fin 64) (i : Fin 8) : Option Bool :=
  if s.lookout.off then none else some (s.fbit R.LEG_STATUS_gates i n)

/-- Canopy is in bench mode (R552). -/
def bench (s : State) : Bool := s.flag R.CANOPY_STATUS_bench

/-- A request `r` reaches the interlock: each leg that it names both gates of is blocked, which st_blocked and a SHOOT_THROUGH
event show (R252, R260). -/
def noteBlocked (s : State) (n : Fin 64) (r : Nat) : State :=
  let blocked := (List.range 4).foldl (fun a k => if bothOn r k then a + 2 ^ k else a) 0
  let was := s.get R.LEG_STATUS_st_blocked n
  let s := s.set R.LEG_STATUS_st_blocked (was ||| blocked) n
  let s := if was ||| blocked ≠ was then s.event 0x40 n (bytesLE 1 (was ||| blocked)) else s
  s.modLegs n fun l => { l with
    both := blocked
    blockAt := Vector.ofFn fun (k : Fin 4) =>
      if blocked.testBit k.val && !l.both.testBit k.val then some s.now else l.blockAt[k] }

/-- The gates outside `g` go L, then those of `g` that may turn on go H. -/
def putGates (s : State) (n : Fin 64) (g : Nat) (may : State → Fin 8 → Bool) : State :=
  let s := gateList.foldl (fun (s : State) (i : Fin 8) => if g.testBit i then s else s.putGate n i false) s
  gateList.foldl (fun (s : State) (i : Fin 8) => if g.testBit i && may s i then s.putGate n i true else s) s

/-- Bring the gate levels to the present request: turn-offs at once, turn-ons where the dead time has passed; the
others wait for DEAD_TIME_EXPIRY (R250). The interlock blocks a leg that names both gates (R252). Before Dawn has enabled the tiles,
and while the gate-off path holds the tile or a boundary-scan instruction the pins, nothing turns on (R262, R276, R664). -/
def applyGates (s : State) (n : Fin 64) : State :=
  if s.flag R.LEG_STATUS_held_off n ∨ s.pinsTaken ∨ ¬ s.tilesEnabled then s
  else
    let r := s.gateRequest n
    let s := s.noteBlocked n r
    let s := s.modLegs n fun l => { l with want := interlock r }
    s.putGates n (interlock r) fun s i => s.mayTurnOn n i

/-- Both gates of leg `k` have been off for more than 10 µs (R254). -/
def longOff (s : State) (n : Fin 64) (k : Nat) : Bool :=
  let off (i : Nat) : Bool := !s.fbit R.LEG_STATUS_gates i n && decide ((s.legs n).offAt.toList.getD i 0 + 10000 < s.now)
  off (2 * k) && off (2 * k + 1)

/-- The legs of `m` for which `f` holds. -/
def legsOf (m : Nat) (f : Nat → Bool) : Nat := ((List.range 4).filter fun k => m.testBit k && f k).foldl (fun a k => a + 2 ^ k) 0

/-- A leg of an energised tile that has been off for more than 10 µs waits for the next period start (R254). -/
def dropStale (s : State) (n : Fin 64) : State :=
  if s.energised n then s.modLegs n fun l => { l with live := legsOf l.live fun k => !s.longOff n k } else s

/-- The gates follow the present request (R249 to R254). -/
def updateGates (s : State) (n : Fin 64) : State := (s.dropStale n).applyGates n

/-- Every gate L at once, pending turn-ons cancelled, a refresh ended (R271, R283). -/
def gatesLow (s : State) (n : Fin 64) : State :=
  let s := s.modLegs n fun l => { l with want := 0, pre := 0, refresh := 0 }
  let s := gateList.foldl (fun (s : State) (i : Fin 8) => s.putGate n i false) s
  s.setFlag R.LEG_STATUS_precharging false n

/-- The gate levels that the scan cells of tile `n` hold, coded as LEG_OVR.gates (R664). -/
def cellGates (s : State) (n : Fin 64) : Nat := (sparseFind n.val s.tap.cells).getD 0

/-- The scan cells drive a tile's gate pins under the interlock (R252, R263, R664). Log: DEDUCED notes/assumptions/74.md. -/
def driveCells (s : State) (n : Fin 64) : State :=
  let g := s.cellGates n
  (s.noteBlocked n g).putGates n (interlock g) fun s i => s.unblocked n (i.val / 2)

/-- A dead time ends: the pending turn-ons of leg `k` take effect (R250, R252); under a boundary-scan instruction in bench mode
those of the scan cells (R263). -/
def deadTimeOver (s : State) (n : Fin 64) (k : Fin 4) : State :=
  if s.pinsTaken then (if s.bench then s.driveCells n else s)
  else if s.flag R.LEG_STATUS_held_off n ∨ ¬ s.tilesEnabled then s
  else
    [2 * k.val, 2 * k.val + 1].foldl (fun (s : State) i =>
      if (s.legs n).want.testBit i ∧ s.mayTurnOn n i then s.putGate n ⟨i % 8, Nat.mod_lt _ (by decide)⟩ true else s) s

/-- The refresh pulses whose low side has been on for the refresh width end (R137, R258). -/
def endRefresh (s : State) (n : Fin 64) : State :=
  let l := s.legs n
  let ends (k : Nat) : Bool := s.fbit R.LEG_STATUS_gates (2 * k) n &&
    decide (l.onAt.toList.getD (2 * k) 0 + 5 * s.get R.CHOP_LIMIT_refresh n ≤ s.now)
  let left := legsOf l.refresh fun k => !ends k
  if left = l.refresh then s else (s.modLegs n fun l => { l with refresh := left }).updateGates n

/-- CHOP_PEAK of phase `x`. -/
def setPeak (s : State) (n : Fin 64) (x : Fin 2) (v : Int) : State :=
  if x = 0 then s.set R.CHOP_PEAK_peak_a (satSigned 16 v) n else s.set R.CHOP_PEAK_peak_b (satSigned 16 v) n

/-- An ON state that a trip, a Lull or a Fault ends has its measured peak too (R138): no operand brings its samples, so the value is
free; an ON state that has been blanked throughout has none. Log: DESIGN CHOICE notes/assumptions/96.md. -/
def cutPeak (s : State) (n : Fin 64) (x : Fin 2) : State :=
  if s.bstate n x = 1 ∧ ¬ s.inDuty n x ∧ ¬ s.blankedAt n x (6 * s.now) then
    let r := s.fresh
    r.2.setPeak n x (signed 16 r.1)
  else s

/-- The unregulated mark of a phase, from `t` on (R147). -/
def markUnreg (s : State) (n : Fin 64) (x : Fin 2) (t : Nat) : State :=
  let s := if x = 0 then s.setFlag R.CHOP_STATUS_unreg_a true n else s.setFlag R.CHOP_STATUS_unreg_b true n
  s.modChop n x fun c => { c with unregAt := some (c.unregAt.getD t), cycleBad := true }

/-- An ON state or a decay of a phase in hysteresis mode that has lasted 1 ms without its window output is unregulated
(R147). -/
def noteLong (s : State) (n : Fin 64) (x : Fin 2) : State :=
  let c := s.chop n x
  if (s.legs n).live = 0 ∨ s.inDuty n x ∨ c.seen ∨ s.now < c.partAt + 1000000 then s
  else s.markUnreg n x (c.partAt + 1000000)

/-- The regulators stop: duty mode and integrators end, both phases in SLOW (R127, R143). -/
def regulatorsOff (s : State) (n : Fin 64) : State :=
  let s := (((s.noteLong n 0).noteLong n 1).cutPeak n 0).cutPeak n 1
  let s := (s.setFlag R.CHOP_STATUS_duty_a false n).setFlag R.CHOP_STATUS_duty_b false n
  let s := (s.setBstate n 0 0).setBstate n 1 0
  let f : Chop → Chop := fun c => { c with integ := 0, duty := 0, cycleAt := none, tOn := 0, tFast := 0, lastCycle := none,
                                           fromOn := false, cycleDue := false }
  let s := (s.modChop n 0 f).modChop n 1 f
  (s.modLegs n fun l => { l with live := 0, refresh := 0, cmp := 0 }).updateGates n

/-- The tile energises: each phase starts in SLOW with min_off elapsed and dir the sign of its set-point; the legs leave
OFF at the next period start, to which the timer aligns (R134, R254, R256). -/
def energiseLegs (s : State) (n : Fin 64) : State :=
  let s := (s.setBstate n 0 0).setBstate n 1 0
  let f (x : Fin 2) : Chop → Chop := fun c =>
    { c with dir := s.chopDir n x, since := s.now - 5 * s.get R.CHOP_TIME_min_off n, fromOn := false,
             integ := 0, duty := 0, unregAt := none, cycleAt := none, tOn := 0, tFast := 0, lastCycle := none,
             partAt := s.now, seen := false, cycleBad := false, storing := true, skip := 0,
             rate60 := s.slowConv n x, ratePrev := s.slowConv n x }
  let s := (s.modChop n 0 (f 0)).modChop n 1 (f 1)
  (s.modLegs n fun l => { l with live := 0, refresh := 0, cmp := 0, start := none }).updateGates n

/-- The wanted regulator of both phases (R145); automatic mode decides on a plan tick only. -/
def wantRegulator (s : State) (n : Fin 64) (onTick : Bool) : State :=
  let v := (s.getInt R.VEL_vel n).natAbs
  let up := s.get R.DUTY_UP_up n
  let down := min (s.get R.DUTY_DOWN_down n) up
  let want (old : Bool) : Bool := match s.get R.CHOP_CTL_mode n with
    | 0 => false
    | 1 => true
    | _ => if ¬ onTick then old else if up ≤ v then true else if v < down then false else old
  let f : Chop → Chop := fun c => { c with wantDuty := want c.wantDuty }
  (s.modChop n 0 f).modChop n 1 f

/-- The wanted regulator of both phases on a plan tick (R145). -/
def chooseRegulator (s : State) (n : Fin 64) : State := s.wantRegulator n true

/-- A write of CHOP_CTL: a reserved mode or decay is refused whole (R132). -/
def writeChopCtl (s : State) (n : Fin 64) (v : Word) : State :=
  if bits v.toNat 31 30 = 3 ∨ bits v.toNat 29 28 = 3 then s.setFlag R.USTEP_STATUS_cfg_refused true n
  else ((s.wr (R.CHOP_CTL.at n) (v &&& 0xF0FFFFFF)).wantRegulator n false).refreshPhase n

/-! ### Windows (R328, R334) -/

/-- above of window `w` (R341). -/
def winAbove (s : State) (n : Fin 64) (w : Nat) : Bool := s.fbit R.WIN_STATUS_raw (2 * w + 1) n
/-- below of window `w` (R341). -/
def winBelow (s : State) (n : Fin 64) (w : Nat) : Bool := s.fbit R.WIN_STATUS_raw (2 * w) n

/-- A window condition (R328). -/
def condHolds (cond : Nat) (above below : Bool) : Bool :=
  match cond with
  | 0 => above
  | 1 => below
  | 2 => above || below
  | _ => !above && !below

/-- Window `w` runs (R331, R332). -/
def winRuns (s : State) (n : Fin 64) (w : Nat) : Bool :=
  decide (s.st n ≠ 0) || (decide (4 ≤ w) && s.flag (R.WIN_CFG_wake_en.nth w) n)

/-- Set the raw bits of window `w` (R341). -/
def setRaw (s : State) (n : Fin 64) (w : Nat) (above below : Bool) : State :=
  (s.setBit R.WIN_STATUS_raw (2 * w + 1) above n).setBit R.WIN_STATUS_raw (2 * w) below n

/-- Trip window `x`'s outside condition holds: LEG_TRIP.active (R269). -/
def tripActive (s : State) (n : Fin 64) (x : Fin 2) : Bool :=
  if x = 0 then s.flag R.LEG_TRIP_active_w0 n else s.flag R.LEG_TRIP_active_w1 n

/-- The active bit of trip window `x` follows its raw bits, 0 in test; the time since which it has been absent is kept
for R272. -/
def showTripActive (s : State) (n : Fin 64) (x : Fin 2) : State :=
  let w := 2 + x.val
  let act := decide (s.get (R.WIN_CFG_test.nth w) n = 0) && (s.winAbove n w || s.winBelow n w)
  let s := if s.tripActive n x && !act then s.modLegs n fun l => { l with tripFrom := l.tripFrom.set x s.now } else s
  if x = 0 then s.setFlag R.LEG_TRIP_active_w0 act n else s.setFlag R.LEG_TRIP_active_w1 act n

/-- Window `w` is to act on its comparison at the next clock on which it runs. -/
def stirWindow (s : State) (n : Fin 64) (w : Fin 6) : State :=
  s.modLegs n fun l => { l with thrAt := l.thrAt.set w (some (l.thrAt[w].getD (s.now - 40))) }

/-- A window that does not run reports above and below as 0 (R331): in Asleep every one that no wake keeps running. Once it runs it
acts on its comparison. -/
def stopWindows (s : State) (n : Fin 64) : State :=
  let s := ([0, 1, 2, 3, 4, 5] : List (Fin 6)).foldl (fun (s : State) (w : Fin 6) =>
    if s.winRuns n w then s else (s.setRaw n w false false).stirWindow n w) s
  if s.winRuns n 0 then s
  else
    let f : Chop → Chop := fun c => { c with above := false, below := false }
    (((s.modChop n 0 f).modChop n 1 f).showTripActive n 0).showTripActive n 1

/-- House window `h` runs (R332). -/
def hwinRuns (s : State) (h : Nat) : Bool :=
  decide (h = 0) || decide (s.get R.PWR_STATUS_state < 2) || s.flag R.HWIN_CFG_wake_en h

/-- House window `h` is to act on its comparison at the next clock on which it runs. -/
def stirHouseWindow (s : State) (h : Fin 8) : State :=
  { s with hwinThrAt := s.hwinThrAt.set h (some (s.hwinThrAt[h].getD (s.now - 40))) }

/-- A house window that does not run reports above and below as 0 (R331, R332). -/
def stopHouseWindows (s : State) : State :=
  ([0, 1, 2, 3, 4, 5, 6, 7] : List (Fin 8)).foldl (fun (s : State) (h : Fin 8) => if s.hwinRuns h then s
    else ((s.setBit R.HWIN_STATUS_raw (2 * h + 1) false).setBit R.HWIN_STATUS_raw (2 * h) false).stirHouseWindow h) s

/-- Window `w`'s output condition holds now; in test its results reach no latch (R338). -/
def winHolds (s : State) (n : Fin 64) (w : Nat) : Bool :=
  decide (s.get (R.WIN_CFG_test.nth w) n = 0) && s.winRuns n w &&
    condHolds (s.get (R.WIN_CFG_cond.nth w) n) (s.winAbove n w) (s.winBelow n w)

/-- Clear the latch of window `w` unless its condition holds (R334, R335, R343). -/
def winClear (s : State) (n : Fin 64) (w : Nat) : State :=
  if s.winHolds n w then s
  else (s.setBit R.WIN_STATUS_latched w false n).setBit R.WIN_STATUS_cap_valid w false n

/-- Clear the latches whose clear route is `route`, of the windows listed (R334). -/
def winClearRoute (s : State) (n : Fin 64) (route : Nat) (ws : List Nat) : State :=
  ws.foldl (fun (s : State) w => if s.get (R.WIN_CFG_clr.nth w) n = route then s.winClear n w else s) s

end State
end Sys2Proof.Machine
end

