-- ==== Sys2Proof/Machine/StoreOps.lean ====
section
/-! DEFINITION. The parameter store as an array of records: lines, headers, validity, the record in force, appending
and compaction, wear (21_parameter_store.md R611 to R619). The array is kept by logical offset (R612), each byte as its
difference from the cleared value 0xFF (notes/assumptions/13.md). -/

namespace Sys2Proof.Machine

/-- A record header as read from a line (R613). -/
structure PsHead where
  line : Nat
  cls : Nat
  opened : Bool
  index : Nat
  gen : Nat
  len : Nat
  time : Nat
  epoch : Nat
  deriving DecidableEq, Repr

/-- Lines of a record with a payload of `len` bytes (R613). -/
def psLines (len : Nat) : Nat := 3 + (len + 63) / 64

/-- First block and number of blocks of a log region: parameters, keys and counters, fault log (R612). -/
def psRegion : Fin 3 → Nat × Nat
  | 0 => (256, 256)
  | 1 => (1280, 16)
  | 2 => (1296, 256)

/-- The log region of a record class (R616). -/
def psRegionOf (cls : Nat) : Fin 3 :=
  if cls = 0x08 ∨ cls = 0x09 then 1 else if cls = 0x0A ∨ cls = 0x0B then 2 else 0

/-- The commit word of a generation (R613). -/
def psCommit (gen : Nat) : Nat := 0x434D4954 ^^^ gen

/-- The header line of a record (R613). -/
def psHeader (cls : Nat) (opened : Bool) (index gen len time epoch : Nat) : List Byte :=
  bytesLE 4 0x50535231 ++ bytesLE 1 cls ++ bytesLE 1 (b2n opened) ++ bytesLE 2 index ++ bytesLE 4 gen ++ bytesLE 4 len
    ++ bytesLE 8 time ++ bytesLE 1 epoch ++ List.replicate 39 0

/-- A byte string padded with 0x00 to whole lines. -/
def psPad (b : List Byte) : List Byte := b ++ List.replicate ((64 - b.length % 64) % 64) 0

/-- The CRC line and the commit line of a record (R613). -/
def psTail (header payload : List Byte) (gen : Nat) : List Byte :=
  bytesLE 4 (crc32c (header ++ psPad payload)) ++ List.replicate 60 0
    ++ bytesLE 4 (psCommit gen) ++ bytesLE 4 (2 ^ 32 - 1 - psCommit gen) ++ List.replicate 56 0

namespace State

/-- A logical block lies in a region that has become volatile (R627). -/
def psVolatileAt (s : State) (b : Nat) : Bool :=
  if b < 128 then s.ps.volatile_.testBit 4
  else if b < 256 then s.ps.volatile_.testBit 5
  else if b < 512 then s.ps.volatile_.testBit 1
  else if b < 1024 then s.ps.mapLost.testBit ((b - 512) / 8)
  else if b < 1280 then s.ps.volatile_.testBit 0
  else if b < 1296 then s.ps.volatile_.testBit 2
  else if b < 1552 then s.ps.volatile_.testBit 3
  else false

/-- Where the bytes of a logical offset are kept: a volatile region's records lie in Canopy SRAM (R627), here above the array.
Log: DESIGN CHOICE notes/assumptions/13.md. -/
def psAddr (s : State) (off : Nat) : Nat := paramStore + off + (if s.psVolatileAt (off / 4096) then 0x800000 else 0)

/-- `k` bytes of the store from a logical offset; a cleared byte reads 0xFF (R611). Log: DESIGN CHOICE notes/assumptions/13.md. -/
def psBytes (s : State) (off k : Nat) : List Byte := (s.bytes (s.psAddr off) k).map (· ^^^ 0xFF)

/-- Program lines of the store from line `line` (R611). Log: DESIGN CHOICE notes/assumptions/13.md. -/
def psProgram (s : State) (line : Nat) (b : List Byte) : State :=
  s.setBytes (s.psAddr (64 * line)) (b.map (· ^^^ 0xFF))

/-- The physical block of a logical one (R624). Log: DESIGN CHOICE notes/assumptions/13.md. -/
def psPhys (s : State) (b : Nat) : Nat := (sparseFind b s.ps.remap).getD b

/-- Every byte of `count` lines from `line` is cleared. -/
def psCleared (s : State) (line count : Nat) : Bool :=
  let lo := s.psAddr (64 * line)
  s.mem.all fun c => decide (c.1 < lo) || decide (lo + 64 * count ≤ c.1)

/-- Clear a block (R611): every byte reads 0xFF, and its wear counts (R632); a volatile region takes no store write (R627). -/
def psClear (s : State) (b : Nat) : State :=
  let lo := s.psAddr (4096 * b)
  let p := s.psPhys b
  let k := (sparseFind p s.ps.clears).getD 0 + 1
  let s := { s with mem := s.mem.filter fun c => decide (c.1 < lo) || decide (lo + 4096 ≤ c.1) }
  if s.psVolatileAt b then s else
  let s := { s with ps := { s.ps with clears := sparseInsert p k s.ps.clears } }
  s.set R.PS_WEAR_max_clears (max k (s.get R.PS_WEAR_max_clears))

/-- Clear `k` blocks from `b`. -/
def psClears (s : State) (b : Nat) : Nat → State
  | 0 => s
  | k + 1 => (s.psClear b).psClears (b + 1) k

/-- The header at a line, when its magic matches (R613). -/
def psHeadAt (s : State) (line : Nat) : Option PsHead :=
  let h := s.psBytes (64 * line) 32
  if fieldLE h 0 4 = 0x50535231 then
    some { line := line, cls := fieldLE h 4 1, opened := (fieldLE h 5 1).testBit 0, index := fieldLE h 6 2,
           gen := fieldLE h 8 4, len := fieldLE h 12 4, time := fieldLE h 16 8, epoch := fieldLE h 24 1 }
  else none

/-- The payload bytes of a record. -/
def psPayload (s : State) (h : PsHead) : List Byte := s.psBytes (64 * (h.line + 1)) h.len

/-- The record is valid: its CRC and both commit words match (R614). -/
def psValid (s : State) (h : PsHead) : Bool :=
  let n := 1 + (h.len + 63) / 64
  decide (h.len ≤ 0x80000) &&
    decide (natLE (s.psBytes (64 * (h.line + n)) 4) = crc32c (s.psBytes (64 * h.line) (64 * n))) &&
    decide (s.psBytes (64 * (h.line + n + 1)) 8 = bytesLE 4 (psCommit h.gen) ++ bytesLE 4 (2 ^ 32 - 1 - psCommit h.gen))

/-- The readable headers of a run of lines, in order of place. -/
def psScan (s : State) (line : Nat) : (skip count : Nat) → List PsHead
  | _, 0 => []
  | k + 1, n + 1 => s.psScan (line + 1) k n
  | 0, n + 1 =>
    match s.psHeadAt line with
    | none => s.psScan (line + 1) 0 n
    | some h => h :: s.psScan (line + 1) (psLines h.len - 1) n

/-- Lines at which a record of a class outside the log regions may begin (R612, R619, R620, R624). -/
def psPlaces (cls index : Nat) : List Nat :=
  match cls with
  | 0x01 => [8192 * (index % 2)]
  | 0x06 => [32768 + 512 * index, 64 * 1688, 64 * 1696]
  | 0x07 => (List.range 512).map fun k => 64 * 1024 + 32 * k
  | 0x0C => [64 * 1680, 64 * 1684]
  | _ => []

/-- Readable headers of a class and index. -/
def psHeads (s : State) (cls index : Nat) : List PsHead :=
  let l := match cls with
    | 0x01 | 0x06 | 0x07 | 0x0C => (psPlaces cls index).filterMap s.psHeadAt
    | _ => let r := psRegion (psRegionOf cls); s.psScan (64 * r.1) 0 (64 * r.2)
  l.filter fun h => decide (h.cls = cls) && decide (h.index = index)

/-- A record stands before another under R615: a higher generation, or the lower physical place. -/
def psBefore (s : State) (a b : PsHead) : Bool :=
  decide (b.gen < a.gen) || (decide (a.gen = b.gen) &&
    decide (64 * s.psPhys (a.line / 64) + a.line % 64 ≤ 64 * s.psPhys (b.line / 64) + b.line % 64))

/-- The record in force for a class and index (R615). -/
def psInForce (s : State) (cls index : Nat) : Option PsHead :=
  (s.psHeads cls index).foldl (fun a h =>
    if ¬ s.psValid h then a
    else match a with
      | none => some h
      | some b => if s.psBefore h b then some h else some b) none

/-- The generation of a new record: one above the highest in any readable header (R615). -/
def psNextGen (s : State) (cls index : Nat) : Nat :=
  ((s.psHeads cls index).foldl (fun a h => max a h.gen) 0 + 1) % 2 ^ 32

/-- No block of the store can be written (R632). -/
def psFailed (s : State) : Bool := s.get R.PS_STATUS_mode = 2

/-- Program a whole record at a line, in the order of R614. -/
def psPutRecord (s : State) (line cls index gen : Nat) (opened : Bool) (payload : List Byte) : State :=
  let h := psHeader cls opened index gen payload.length s.now (s.get R.TIME_EPOCH_epoch)
  s.psProgram line (h ++ psPad payload ++ psTail h payload gen)

/-! ### Log regions (R618) -/

/-- The append point of a region, as a line. -/
def psAt (s : State) (r : Fin 3) : Nat := s.ps.appendAt[r]

/-- Move the append point of a region. -/
def psMoveAt (s : State) (r : Fin 3) (line : Nat) : State :=
  { s with ps := { s.ps with appendAt := s.ps.appendAt.set r line } }

/-- The `i`-th block from the append block of a region, round its end, passing over victims (R627). -/
def psBlockFrom (s : State) (r : Fin 3) (i : Nat) : Nat :=
  let (first, count) := psRegion r
  let ring := (List.range count).map fun j => first + (s.psAt r / 64 - first + j) % count
  let use := ring.filter fun b => !s.ps.victims.contains b || decide (b = s.psAt r / 64)
  use.getD (i % max 1 use.length) first

/-- Cleared blocks that lie ahead of the append point without a break. -/
def psAhead (s : State) (r : Fin 3) : (i fuel : Nat) → Nat
  | _, 0 => 0
  | i, k + 1 => if s.psCleared (64 * s.psBlockFrom r i) 64 then 1 + s.psAhead r (i + 1) k else 0

/-- Where the next record of `len` payload bytes goes: at the append point, or at the next block when it does not fit in
the block or in the region. -/
def psSlot (s : State) (r : Fin 3) (len : Nat) : Nat :=
  let (first, count) := psRegion r
  let l := s.psAt r
  let n := psLines len
  if n ≤ 64 then (if l % 64 + n ≤ 64 then l else 64 * s.psBlockFrom r 1)
  else
    let l' := if l % 64 = 0 then l else 64 * s.psBlockFrom r 1
    if l' + n ≤ 64 * (first + count) then l' else 64 * first

/-- Place a record at the append point with a given generation; false when the lines are not cleared. -/
def psPlace (s : State) (r : Fin 3) (cls index gen : Nat) (payload : List Byte) : State × Bool :=
  let l := s.psSlot r payload.length
  if s.psCleared l (psLines payload.length) then
    let (first, count) := psRegion r
    let e := l + psLines payload.length
    let s := s.psPutRecord l cls index gen false payload
    (s.psMoveAt r (if e = 64 * (first + count) then 64 * first else e), true)
  else (s, false)

/-- The oldest block of a region: the first that is not cleared after the append block. -/
def psOldest (s : State) (r : Fin 3) : (i fuel : Nat) → Option Nat
  | _, 0 => none
  | i, k + 1 =>
    let b := s.psBlockFrom r i
    if s.psCleared (64 * b) 64 then s.psOldest r (i + 1) k else some b

/-- Compact a region by its oldest block: records in force that begin in it are copied forward with their generation,
then it is cleared; the fault-log region copies nothing (R618). -/
def psCompactOne (s : State) (r : Fin 3) : State :=
  match s.psOldest r 1 ((psRegion r).2 - 1) with
  | none => s
  | some b =>
    let l := if r = 2 then [] else (s.psScan (64 * b) 0 64).filter fun h => decide (s.psInForce h.cls h.index = some h)
    (l.foldl (fun (s : State) h => (s.psPlace r h.cls h.index h.gen (s.psPayload h)).1) s).psClear b

/-- Compact until two cleared blocks lie ahead of the append point (R618). -/
def psCompact (s : State) (r : Fin 3) : Nat → State
  | 0 => s
  | k + 1 => if s.psAhead r 1 ((psRegion r).2 - 1) < 2 then (s.psCompactOne r).psCompact r k else s

/-- Append a new record to its log region (R614, R615, R618); false is NO_SPACE or a failed store. -/
def psWrite (s : State) (cls index : Nat) (payload : List Byte) : State × Bool :=
  if s.psFailed then (s, false)
  else
    let r := psRegionOf cls
    let gen := s.psNextGen cls index
    let s := s.psCompact r ((psRegion r).2)
    s.psPlace r cls index gen payload

/-- The index of the next fault-log record, and an event's record entered in the log (R616, R633). -/
def faultLog (s : State) (record : List Byte) : State :=
  let i := s.ps.logIndex
  let s := { s with ps := { s.ps with logIndex := (i + 1) % 65536 } }
  let r := s.psWrite 0x0A i (record ++ List.replicate 32 0)
  let n := ((r.1.psScan (64 * 1296) 0 (64 * 256)).filter fun h => decide (h.cls = 0x0A)).length
  r.1.set R.PS_LOG_COUNT_count n

/-! ### Register records (R617, R689, R690) -/

/-- Offsets of a row's registers at instance `i`. -/
def rowOffsets (r : RegRow) (i : Nat) : List Nat := (List.range r.reg.subCount).map fun k => r.reg.at i k

/-- An offset entered in rising order. -/
def insertRising (x : Nat) : List Nat → List Nat
  | [] => [x]
  | y :: l => if x < y then x :: y :: l else if x = y then y :: l else y :: insertRising x l

/-- Offsets that a TILE record holds: registers that persist, and ADC_SLICES for the failed-slice map (R297, R689). -/
def tileOffsets (n : Nat) : List Nat :=
  ((R.tileRows.filter fun r => r.keeps || decide (r.reg = R.ADC_SLICES)).flatMap fun r => rowOffsets r n).foldl
    (fun l x => insertRising x l) []

/-- Offsets that the DEVICE record of index 0 holds; HOUSE_STATUS carries the failed-slice map (R297, R689). -/
def deviceOffsets : List Nat :=
  (((List.range 16).flatMap R.globalRows).filter fun r => r.keeps || decide (r.reg = R.HOUSE_STATUS)).flatMap
    (fun r => (List.range r.reg.count).flatMap fun i => rowOffsets r i) |>.foldl (fun l x => insertRising x l) []

/-- A register payload (R617). -/
def regPayload (l : List (Nat × Nat)) : List Byte :=
  bytesLE 4 l.length ++ l.flatMap fun e => bytesLE 4 e.1 ++ bytesLE 4 e.2

/-- The pairs of a register payload. -/
def regPairs (b : List Byte) : List (Nat × Nat) :=
  (List.range (fieldLE b 0 4)).map fun i => (fieldLE b (4 + 8 * i) 4, fieldLE b (8 + 8 * i) 4)

/-- The pairs of a TILE record: registers, then the segment store and the active shape bank under their record-only
aliases (R690). -/
def tilePairs (s : State) (n : Fin 64) : List (Nat × Nat) :=
  let base := 0x10000 + 0x1000 * n.val
  let bank := s.get R.USTEP_STATUS_active_bank n
  ((tileOffsets n).map fun o => (o, (s.rd o).toNat))
    ++ ((List.range 32).map fun i => (base + 0x900 + 4 * i, ((sparseFind i (s.tile n).force.segStore).getD 0).toNat))
    ++ (List.range 257).map fun i => (base + 0xA00 + 4 * i, s.shapeEntry n bank i)

/-- The pairs of the DEVICE record of index 0, the split ownership of the next Dawn among them (R549, R689). -/
def devicePairs (s : State) : List (Nat × Nat) :=
  let own := s.canopy.ownNext.getD (s.get64 R.SPLIT_OWN_LO_tiles R.SPLIT_OWN_HI_tiles)
  (deviceOffsets.foldl (fun l o => insertRising o l) [R.SPLIT_OWN_LO.off, R.SPLIT_OWN_HI.off]).map fun o =>
    (o, if o = R.SPLIT_OWN_LO.off then own % 2 ^ 32 else if o = R.SPLIT_OWN_HI.off then own / 2 ^ 32 else (s.rd o).toNat)

/-- Canopy commits the TILE record of a tile. -/
def commitTile (s : State) (n : Fin 64) : State × Bool := s.psWrite 0x03 n (regPayload (s.tilePairs n))

/-- Canopy commits the DEVICE record of index 0. -/
def commitDevice (s : State) : State × Bool := s.psWrite 0x02 0 (regPayload s.devicePairs)

/-! ### Motor maps (R619) -/

/-- Commit a motor map of tile `n` through a staging slot; false when the store cannot be written. -/
def psWriteMap (s : State) (n : Nat) (payload : List Byte) : State × Bool :=
  if s.psFailed then (s, false)
  else
    let gen := s.psNextGen 0x06 n
    let age (b : Nat) : Nat := ((s.psHeadAt (64 * b)).map fun h => h.time + 1).getD 0
    let stage := if age 1688 ≤ age 1696 then 1688 else 1696
    let s := (s.psClears stage 8).psPutRecord (64 * stage) 0x06 n gen false payload
    ((s.psClears (512 + 8 * n) 8).psPutRecord (32768 + 512 * n) 0x06 n gen false payload, true)

end State
end Sys2Proof.Machine
end

