-- ==== Sys2Proof/Machine/Scale.lean ====
section
/-! DEFINITION. A tile's trail slots and its group membership as every block of the tile meets them, the plan tick in force, and
the scale requests of groups (02_trails_and_profiles.md R31 to R37, 03_coordinated_motion.md R80 to R96,
17_site_time_and_event_order.md R531). -/

namespace Sys2Proof.Machine

/-- Segment type of W0 (R36). -/
def segType (g : Seg) : Nat := bits g.w0 3 0
/-- Start condition of W0 (R37). -/
def segCond (g : Seg) : Nat := bits g.w0 19 16
/-- blend_pct of W0 (R35). -/
def segBlend (g : Seg) : Nat := bits g.w0 15 9
/-- A segment from its 32 bytes (R35). -/
def segOfBytes (b : List Byte) : Seg :=
  ⟨fieldLE b 0 4, fieldLE b 4 4, fieldLE b 8 4, fieldLE b 12 4, fieldLE b 16 4, fieldLE b 20 4, fieldLE b 24 4,
   fieldLE b 28 4⟩

/-- A segment's 32 bytes (R35). -/
def segBytes (g : Seg) : List Byte :=
  bytesLE 4 g.w0 ++ bytesLE 4 g.w1 ++ bytesLE 4 g.w2 ++ bytesLE 4 g.w3 ++ bytesLE 4 g.w4 ++ bytesLE 4 g.w5
    ++ bytesLE 4 g.w6 ++ bytesLE 4 g.w7

/-- The address of trail slot `ptr` of tile `n` (R31). -/
def slotAddr (n ptr : Nat) : Nat := tileSram n + 0x20000 + 32 * (ptr % 1024)

namespace State

/-- Begin of the plan tick in force (R48). Log: DEDUCED notes/assumptions/22.md. -/
def tickStart (s : State) : Nat := s.now - s.now % 1000

/-- End of the plan tick in force (R48). Log: DEDUCED notes/assumptions/22.md. -/
def tickEnd (s : State) : Nat := s.tickStart + 1000

/-! ### Trail (R31 to R34) -/

/-- Head pointer with phase. -/
def head (s : State) (n : Fin 64) : Nat := s.get R.TRAIL_PTR_head n
/-- Tail pointer with phase. -/
def tail (s : State) (n : Fin 64) : Nat := s.get R.TRAIL_PTR_tail n

/-- Occupied slots (R32). -/
def trailCount (s : State) (n : Fin 64) : Nat := (s.tail n + 2048 - s.head n) % 2048

/-- The segment in the slot that `ptr` names. -/
def segAt (s : State) (n : Fin 64) (ptr : Nat) : Seg := segOfBytes (s.bytes (slotAddr n ptr) 32)

/-! ### Groups (R80 to R82) -/

/-- The tile is a group member (R81). -/
def isMember (s : State) (n : Fin 64) : Bool := s.flag R.GROUP_CFG_member_en n

/-- The group slot of a member tile. -/
def groupOf (s : State) (n : Fin 64) : Option GroupSlot :=
  if s.isMember n then s.groups.toList.getD (s.get R.GROUP_CFG_slot n) none else none

/-- Replace a local group slot. -/
def setGroup (s : State) (k : Nat) (g : Option GroupSlot) : State :=
  if h : k < 16 then { s with groups := s.groups.set k g } else s

/-- The local group slot `k`. -/
def group (s : State) (k : Nat) : Option GroupSlot := s.groups.toList.getD k none

/-- The member tiles of local group slot `k` on this device. -/
def localMembers (s : State) (k : Nat) : List (Fin 64) :=
  allTiles.filter fun m => s.isMember m && decide (s.get R.GROUP_CFG_slot m = k)

/-- A member of the group lies on this device. -/
def memberHere (s : State) (m : Member) : Bool := decide (m.route = s.ownRoute) && decide (m.depth = s.ownDepth)

/-- From 500 µs before a pending step no group frame of a new decision is sent (R531). -/
def stepHolds (s : State) : Bool :=
  let a := s.get64 R.TIME_STEP_AT_LO_at_ R.TIME_STEP_AT_HI_at_
  s.flag R.TIME_STATUS_step_pending && decide (a ≤ s.now + 500000) && decide (s.now < a)

/-- A decision waits for the pending step (R531). -/
def waitStep (s : State) (w : StepWait) : State :=
  { s with clock := { s.clock with waits := s.clock.waits.filter (fun x => decide (x ≠ w)) ++ [w] } }

/-! ### Group scale requests (R93 to R95) -/

/-- One component of a request: the cap over the member's share. -/
def shareRequest (limit dist len cap : Nat) : Nat :=
  let v := if len = 0 then 0 else limit * dist / len
  if dist = 0 ∨ v = 0 then 32768 else min 32768 (32768 * cap / v)

/-- The least of the requests of this device's members in group slot `k`. -/
def deviceRequest (s : State) (k : Nat) : Nat × Nat :=
  (s.localMembers k).foldl (fun (a : Nat × Nat) (m : Fin 64) => (min a.1 (s.get R.GROUP_REQ_req_v m), min a.2 (s.get R.GROUP_REQ_req_a m)))
    (32768, 32768)

/-- The lead of a group in ns. -/
def leadNs (g : GroupSlot) : Nat := 1000 * g.lead

/-- The first tick start at or after `t`. -/
def tickAtOrAfter (t : Nat) : Nat := (t + 999) / 1000 * 1000

/-- Group slot `k` has members on more than one device (R95). -/
def spread (s : State) (g : GroupSlot) : Bool :=
  g.devices.any fun d => !(decide (d.1 = s.ownRoute) && decide (d.2 = s.ownDepth))

/-- A changed device request is noted with its apply time and, in a spread group, flooded (R95). -/
def distributeRequest (s : State) (k : Nat) : State :=
  match s.group k with
  | none => s
  | some g =>
    let r := s.deviceRequest k
    let last := (g.scales.filter fun q => decide (q.device = s.ownRoute)).getLast?
    if (last.map fun q => (q.reqV, q.reqA)).getD (32768, 32768) = r then s
    else if s.spread g ∧ s.stepHolds then s.waitStep (.scale k)
    else
      let apply := if s.spread g then tickAtOrAfter (s.tickStart + leadNs g) else s.tickEnd
      let seq := (g.reqSeq + 1) % 65536
      let s := s.setGroup k (some { g with
        reqSeq := seq,
        scales := g.scales ++ [{ device := s.ownRoute, seq := seq, reqV := r.1, reqA := r.2, apply := apply }] })
      if s.spread g then
        s.flood 0x02 (bytesLE 2 g.tag ++ bytesLE 2 seq ++ bytesLE 2 r.1 ++ bytesLE 2 r.2 ++ bytesLE 8 apply)
      else s

/-- The segment that a member's request follows: the GROUP_MOVE that executes, else the one that waits at the head, else the one
that executed last (R93, R110). Log: DEDUCED notes/assumptions/33.md. -/
def requestSeg (s : State) (n : Fin 64) : Option Seg :=
  let head := s.segAt n (s.head n)
  match (s.plan n).exec with
  | some e => if segType e.seg = 6 then some e.seg else (s.plan n).lastGroup
  | none => if 0 < s.trailCount n ∧ segType head = 6 then some head else (s.plan n).lastGroup

/-- A member tile recomputes its request (R93, R110). -/
def scaleRequest (s : State) (n : Fin 64) : State :=
  match s.requestSeg n with
  | none => s
  | some g =>
    if ¬ s.isMember n then s
    else
      let d := (signed 32 g.w1).natAbs
      let rv := shareRequest g.w3 d g.w2 (s.get R.PLAN_CAP_V_cap_v n)
      let ra := shareRequest g.w4 d g.w2 (max 1 (s.get R.PLAN_CAP_A_cap_a n))
      let s := (s.set R.GROUP_REQ_req_v rv n).set R.GROUP_REQ_req_a ra n
      s.distributeRequest (s.get R.GROUP_CFG_slot n)

/-! ### Scale in force (R94) -/

/-- The latest request of a device that applies at or before `t`. -/
def latestReq (g : GroupSlot) (dev t : Nat) : Nat × Nat :=
  match (g.scales.filter fun q => decide (q.device = dev) && decide (q.apply ≤ t)).getLast? with
  | some q => (q.reqV, q.reqA)
  | none => (32768, 32768)

/-- The group scale in force on the tick that starts at `t`: the componentwise minimum of the devices' latest requests
(R94), shown in GROUP_SCALE of the local members. -/
def applyScale (s : State) (k t : Nat) : State :=
  match s.group k with
  | none => s
  | some g =>
    let r := g.devices.foldl (fun (a : Nat × Nat) d =>
      let q := latestReq g d.1 t
      (min a.1 q.1, min a.2 q.2)) (32768, 32768)
    s.forTiles (s.localMembers k) fun n s => (s.set R.GROUP_SCALE_scale_v r.1 n).set R.GROUP_SCALE_scale_a r.2 n

end State
end Sys2Proof.Machine
end

