-- ==== Sys2Proof/Machine/Budget.lean ====
section
/-! DEFINITION. Sundial's clear, its map in tile SRAM and its walk's end (05_sundial.md R158, R164 to R168, R195), and the
force budget's ceilings, reference runs and profile (06_force_budget.md R203, R205 to R209, R214, R215), as the tile's
other blocks meet them. -/

namespace Sys2Proof.Machine
namespace State

/-! ### Sundial -/

/-- Change Sundial's state of a tile. -/
def modSd (s : State) (n : Fin 64) (f : Sundial → Sundial) : State := s.modTile n fun t => { t with sd := f t.sd }

/-- Sundial's state of a tile. -/
def sd (s : State) (n : Fin 64) : Sundial := (s.tile n).sd

/-- Change the force budget's state of a tile. -/
def modForce (s : State) (n : Fin 64) (f : Force → Force) : State := s.modTile n fun t => { t with force := f t.force }

/-- The force budget's state of a tile. -/
def force (s : State) (n : Fin 64) : Force := (s.tile n).force

/-- SD_HYPk shows the scores (R174). -/
def showScores (s : State) (n : Fin 64) : State :=
  (List.range 32).foldl (fun (s : State) (k : Nat) =>
    let j := (s.sd n).score.toList
    (s.set (R.SD_HYP_even.nth k) (min 0xFFFF (j.getD (2 * k) 0 / 4096)) n).set (R.SD_HYP_odd.nth k)
      (min 0xFFFF (j.getD (2 * k + 1) 0 / 4096)) n) s

/-- FORCE_CAP_HOLD re-arms once the force is below seven eighths of the cap (R213). -/
def capRearm (s : State) (n : Fin 64) : State :=
  if (s.getInt R.FB_FORCE_force n).natAbs < 7 * s.get R.FB_FCAP_f_cap n / 8 then
    s.modForce n fun q => { q with capArmed := true }
  else s

/-- A new confidence; through a Lull it is held against lull_conf (R25), and its time below stall_conf runs from the last value that
reached it (R187). -/
def putConf (s : State) (n : Fin 64) (c : Nat) : State :=
  let s := s.set R.SD_CONF_conf c n
  let s := if c < s.get R.SD_STALL_stall_conf n then s
    else s.modSd n fun d => { d with lowAt := s.now }
  s.modLull n fun l => { l with confHeld := l.confHeld && decide (s.get R.HOME_TOL_lull_conf n ≤ c) }

/-- Sundial clears its state (R158); the force with it (R203). -/
def sundialClear (s : State) (n : Fin 64) : State :=
  let s := s.modSd n fun d => { d with score := Vector.replicate 64 0, lastAt := none }
  let s := (s.showScores n).set R.SD_ANGLE_load_angle 0 n
  let s := s.set R.SD_SLIP_unwrapped 0 n
  let s := s.putConf n 0
  let s := s.set R.SD_ANGLE_rotor_angle (s.get R.CMD_ANGLE_angle n) n
  (s.set R.FB_FORCE_force 0 n).capRearm n

/-- r_est and T_w stand in SD_TEMP (R173). -/
def putTemp (s : State) (n : Fin 64) (r t : Rat) : State :=
  let s := s.modSd n fun d => { d with rEst := r, tW := t }
  (s.set R.SD_TEMP_r_est (satUnsigned 16 (roundRat r)) n).set R.SD_TEMP_t_w (satSigned 16 (roundRat (64 * t))) n

/-- A map walk is in progress (R196). -/
def walking (s : State) (n : Fin 64) : Bool := (s.sd n).walk.isSome

/-! ### Grants and loans (18_canopy.md R541, R560 to R563) -/

/-- The lend register's word for a loan (R541). -/
def lendWord (lender borrower : Fin 64) : Nat := 2 ^ 31 + 256 * lender.val + borrower.val

/-- GOV_STATUS.grants follows one grant or loan made (`on`) or ended. -/
def countGrant (s : State) (on : Bool) : State :=
  let k := s.get R.GOV_STATUS_grants
  s.set R.GOV_STATUS_grants (if on then k + 1 else k - 1)

/-- The full-mode grant line of a tile drives SD_STATUS.grant (R541); GOV_GRANT and GOV_STATUS.grants show it (R560). -/
def setGrant (s : State) (n : Fin 64) (on : Bool) : State :=
  if s.flag R.SD_STATUS_grant n = on then s
  else ((s.setFlag R.SD_STATUS_grant on n).setMaskBit R.GOV_GRANT_LO_tiles R.GOV_GRANT_HI_tiles n on).countGrant on

/-- A loan to tile `n` ends (R181). -/
def dropLoan (s : State) (n : Fin 64) : State :=
  if s.flag R.SD_STATUS_borrowing n then
    let lender := tileOf (s.get R.SD_STATUS_peer n)
    let s := ((s.setFlag R.SD_STATUS_borrowing false n).set R.SD_STATUS_peer 0 n).set R.SD_STATUS_peer 0 lender
    let s := if s.get R.GOV_LEND_word = lendWord lender n then s.set R.GOV_LEND_word 0 else s
    s.countGrant false
  else s

/-- A loan of the lender's vector unit to tile `n` (R181, R563). Log: DEDUCED notes/assumptions/26.md. -/
def makeLoan (s : State) (lender n : Fin 64) : State :=
  let s := (s.setFlag R.SD_STATUS_borrowing true n).set R.SD_STATUS_peer lender.val n
  ((s.set R.SD_STATUS_peer n.val lender).set R.GOV_LEND_word (lendWord lender n)).countGrant true

/-- Priority of a tile with the governor (R560). -/
def govPrio (s : State) (n : Fin 64) : Nat := s.get (R.GOV_PRIO_nibbles) (n.val / 8) / 16 ^ (n.val % 8) % 16

/-- The tile requests a full-mode grant (R561). -/
def govRequests (s : State) (n : Fin 64) : Bool :=
  let st := s.st n
  decide (s.govPrio n ≠ 0) && s.flag R.SD_CTL_enable n &&
    (decide (st = 2) || decide (st = 3) || decide (st = 4) || s.walking n)

/-- GOV_REQ and its count follow a tile, and one that stops requesting loses its grant at once (R560, R561). -/
def govTile (s : State) (n : Fin 64) : State :=
  let r := s.govRequests n
  let was := s.maskBit R.GOV_REQ_LO_tiles R.GOV_REQ_HI_tiles n
  let k := s.get R.GOV_STATUS_requests
  let s := if r = was then s
    else (s.setMaskBit R.GOV_REQ_LO_tiles R.GOV_REQ_HI_tiles n r).set R.GOV_STATUS_requests (if r then k + 1 else k - 1)
  if r then s else s.setGrant n false

/-- Report V and A in VEL and ACC (R59), scaled by d/L on a group member (R90). -/
def syncRates (s : State) (n : Fin 64) (num den : Int) : State :=
  let v := roundRat ((s.plan n).v * num * (256 * 1000000) / (den * 2 ^ 70) : Rat)
  let a := roundRat ((s.plan n).a * num * 1000000000000 / (den * 2 ^ 70) : Rat)
  (s.set R.VEL_vel (satSigned 32 v) n).set R.ACC_acc (satSigned 32 a) n

/-- The walk ends with a result (R195); a loan for it ends too (R181). -/
def walkEnd (s : State) (n : Fin 64) (result : Nat) : State :=
  let s := s.dropLoan n
  let kept := (s.sd n).walk.bind (·.kept)
  let s := match kept with
    | some k => if result = 0 ∨ result = 0x0A then s else s.putTemp n k.1 k.2
    | none => s
  let s := (s.modSd n fun d => { d with walk := none }).setFlag R.SD_STATUS_walk_busy false n
  let s := if result = 0 then s.set R.WALK_STATUS_progress 100 n else s
  let s := (s.set R.WALK_STATUS_phase (if result = 0 ∨ result = 0x0A then 6 else 7) n).set R.WALK_STATUS_result result n
  s.govTile n

/-- A walk in progress is aborted (R195). -/
def walkAbort (s : State) (n : Fin 64) : State :=
  if s.walking n then
    ((s.modPlan n fun p => { p with v := 0, a := 0 }).syncRates n 1 1).walkEnd n 0x09
  else s

/-- A wake request to a lender of its vector unit ends the loan; its Sundial starts cleared (R181). -/
def endLoan (s : State) (n : Fin 64) : State :=
  allTiles.foldl (fun (s : State) (m : Fin 64) =>
    if s.flag R.SD_STATUS_borrowing m ∧ s.get R.SD_STATUS_peer m = n.val ∧ m ≠ n then
      (s.dropLoan m).sundialClear n
    else s) s

/-- The motor map's field of `k` bytes at offset `o` (R165, R166), in the map in force. -/
def mapField (s : State) (n : Fin 64) (o k : Nat) : Nat := s.load (tileSram n + o) k

/-- pole_pairs of the map in force. -/
def polePairs (s : State) (n : Fin 64) : Nat := s.mapField n 6 2

/-- The mechanics are valid (R203). -/
def mechValid (s : State) (n : Fin 64) : Bool :=
  decide (0 < s.get R.FB_GEAR_gear n) && decide (0 < s.get R.FB_RADIUS_radius n) && s.flag R.SD_STATUS_map_valid n

/-! ### Velocity ceiling (R214, R215) -/

/-- A cap written into PLAN_CAP_V, and the member's new scale request (R93). -/
def putCapV (s : State) (n : Fin 64) (v : Nat) : State := (s.set R.PLAN_CAP_V_cap_v v n).scaleRequest n

/-- A ceiling applied to PLAN_CAP_V (R215): a fall below the cap replaces and saves it; a rise gives back what was saved,
unless a lower value was written since. -/
def applyCeil (s : State) (n : Fin 64) (old new : Nat) : State :=
  let cap := s.get R.PLAN_CAP_V_cap_v n
  if new < cap then
    let saved := if (s.force n).capKept then cap else ((s.plan n).savedCap).getD cap
    ((s.modPlan n fun p => { p with savedCap := some saved }).modForce n fun f => { f with capKept := false }).putCapV n new
  else if old < new ∧ ¬ (s.force n).capKept then
    match (s.plan n).savedCap with
    | none => s
    | some v =>
      let s := s.modPlan n fun p => { p with savedCap := if v ≤ new then none else some v }
      s.putCapV n (min v new)
  else s

/-- The energy term of the ceiling in the velocity format; none while inactive (R214). -/
def energyCeil (s : State) (n : Fin 64) : Option Nat :=
  let e := s.get R.FB_ECAP_e_cap n
  let i := s.get R.FB_INERTIA_inertia n
  if e = 0 ∨ i = 0 ∨ ¬ s.mechValid n then none
  else
    let v := floorRat (f64Mul (f64Div (1024 * s.polePairs n : Nat) (2 * pi64)) (f64Sqrt (f64Div (2000 * e : Nat) (i : Rat))))
    some (satUnsigned 31 (256 * v))

/-- Bring FB_CEIL, its terms and PLAN_CAP_V up to date (R214, R215), and FB_STATUS.mech_invalid (R222). -/
def budgetCeil (s : State) (n : Fin 64) : State :=
  let s := s.setFlag R.FB_STATUS_mech_invalid (!s.mechValid n) n
  let on := s.flag R.FB_CTL_enable n
  let e := if on then s.energyCeil n else none
  let w := if on then (s.force n).warnCeil else none
  let b := if on then (s.force n).blindCeil else none
  let old := s.get R.FB_CEIL_ceil n
  let new := min (e.getD 0x7FFFFFFF) (min (w.getD 0x7FFFFFFF) (b.getD 0x7FFFFFFF))
  let s := (s.setFlag R.FB_STATUS_ceil_energy e.isSome n).setFlag R.FB_STATUS_ceil_warn w.isSome n
  let s := (s.setFlag R.FB_STATUS_ceil_blind b.isSome n).set R.FB_CEIL_ceil new n
  if new = old then s else s.applyCeil n old new

/-- PLAN_CAP_V written by the host or a Hiker core under the ceiling (R60, R215). -/
def writeCapV (s : State) (n : Fin 64) (v : Nat) : State :=
  let ceil := s.get R.FB_CEIL_ceil n
  if ceil < v then
    ((s.modPlan n fun p => { p with savedCap := some v }).modForce n fun f => { f with capKept := false }).putCapV n ceil
  else (s.modForce n fun f => { f with capKept := true }).putCapV n v

/-! ### Profile (R205 to R209) -/

/-- The travel is valid (R205). -/
def travelValid (s : State) (n : Fin 64) : Bool :=
  decide (s.getInt R.FB_TRAVEL_LO_lo n < s.getInt R.FB_TRAVEL_HI_hi n)

/-- The bucket of a position (R205). -/
def bucketOf (s : State) (n : Fin 64) (p : Int) : Nat :=
  let lo := s.getInt R.FB_TRAVEL_LO_lo n
  (clampInt 0 255 (Int.fdiv (256 * (p - lo)) (s.getInt R.FB_TRAVEL_HI_hi n - lo))).toNat

/-- A profile entry: mean drive force and count (R205). -/
def profEntry (s : State) (n : Fin 64) (i : Nat) : Int × Nat :=
  let w := ((sparseFind i (s.force n).prof).getD 0).toNat
  (signed 24 (w / 256), w % 256)

/-- Write a profile entry. -/
def putProf (s : State) (n : Fin 64) (i : Nat) (mean : Int) (count : Nat) : State :=
  s.modForce n fun f => { f with
    prof := sparsePut 0 i (BitVec.ofNat 32 (satSigned 24 mean * 256 + count % 256)) f.prof }

/-- A direction's learned mark: 0 increasing, 1 decreasing (R222). -/
def learned (s : State) (n : Fin 64) (dir : Nat) : Bool :=
  if dir = 0 then s.flag R.FB_STATUS_learned_pos n else s.flag R.FB_STATUS_learned_neg n

/-- A direction is learning (R206). -/
def learning (s : State) (n : Fin 64) (dir : Nat) : Bool :=
  if dir = 0 then s.flag R.FB_STATUS_learning_pos n else s.flag R.FB_STATUS_learning_neg n

/-- Set or clear a direction's learning mark. -/
def setLearning (s : State) (n : Fin 64) (dir : Nat) (b : Bool) : State :=
  if dir = 0 then s.setFlag R.FB_STATUS_learning_pos b n else s.setFlag R.FB_STATUS_learning_neg b n

/-- Set or clear a direction's learned mark. -/
def setLearned (s : State) (n : Fin 64) (dir : Nat) (b : Bool) : State :=
  if dir = 0 then s.setFlag R.FB_STATUS_learned_pos b n else s.setFlag R.FB_STATUS_learned_neg b n

/-- A flag of FB_EVENTS sets: line 4, and its event record (R223, R404). -/
def fbEvent (s : State) (n : Fin 64) (flag : Fld) (kind : Nat) (payload : List Byte) : State :=
  ((s.setFlag flag true n).raiseLine n 4).event kind n payload

/-- The learn_dir code of a direction. -/
def dirCode (dir : Nat) : Nat := if dir = 0 then 1 else 2

/-- The profile record of R616: 512 words, map_gen, learned marks. -/
def profPayload (s : State) (n : Fin 64) : List Byte :=
  ((List.range 512).flatMap fun i => bytesLE 4 ((sparseFind i (s.force n).prof).getD 0).toNat)
    ++ bytesLE 4 (s.get R.FB_PROF_INFO_map_gen n)
    ++ bytesLE 1 (b2n (s.learned n 0) + 2 * b2n (s.learned n 1))

/-- Canopy commits the tile's profile (R209). -/
def commitProfile (s : State) (n : Fin 64) : State :=
  let s := (s.psWrite 0x04 n (s.profPayload n)).1
  s.modForce n fun f => { f with adapted := false, committed := s.now }

/-- The executing segment's sum and count in a bucket. -/
def bucketSum (s : State) (n : Fin 64) (b : Nat) : Int × Nat := (sparseFind b (s.force n).sums).getD (0, 0)

/-- Buckets from one to another, in either order. -/
def bucketSpan (a b : Nat) : List Nat := (List.range 256).filter fun k => decide (min a b ≤ k) && decide (k ≤ max a b)

/-- A reference run retires (R206). -/
def referenceEnd (s : State) (n : Fin 64) (dir start status : Nat) : State :=
  let stop := s.bucketOf n (s.getInt R.POS_HI_pos_int n)
  let crossed := bucketSpan start stop
  let ok := decide (status = 0x00) && s.travelValid n && s.learning n dir && !(s.force n).refFailed &&
    crossed.all fun b => decide (4 ≤ (s.bucketSum n b).2)
  if ok then
    let s := (List.range 256).foldl (fun (s : State) (b : Nat) =>
      let e := s.profEntry n (256 * dir + b)
      if crossed.contains b then
        let q := s.bucketSum n b
        s.putProf n (256 * dir + b) (roundDiv q.1 q.2) (min 255 q.2)
      else s.putProf n (256 * dir + b) e.1 0) s
    let s := (s.setLearning n dir false).setLearned n dir true
    let s := s.setFlag R.FB_STATUS_profile_stale false n
    let s := s.set R.FB_PROF_INFO_map_gen (s.mapField n 0x20 4) n
    (s.fbEvent n R.FB_EVENTS_learn_done 0x33 (bytesLE 1 (dirCode dir) ++ bytesLE 1 status ++ [0, 0]
      ++ bytesLE 4 (s.get R.FB_PROF_INFO_map_gen n))).commitProfile n
  else
    s.fbEvent n R.FB_EVENTS_learn_failed 0x34 (bytesLE 1 (dirCode dir) ++ bytesLE 1 status ++ [0, 0]
      ++ bytesLE 4 (s.get R.FB_PROF_INFO_map_gen n))

/-- A segment of a learned direction adapts its profile (R207). -/
def adaptProfile (s : State) (n : Fin 64) (dir : Nat) : State :=
  let lim : Int := ((s.get R.FB_MARGIN_margin_abs n / 4 : Nat) : Int)
  let s := (List.range 256).foldl (fun (s : State) (b : Nat) =>
    let e := s.profEntry n (256 * dir + b)
    let q := s.bucketSum n b
    if 1 ≤ e.2 ∧ 4 ≤ q.2 then
      s.putProf n (256 * dir + b) (e.1 + clampInt (-lim) lim (Int.fdiv (roundDiv q.1 q.2 - e.1) 8)) e.2
    else s) s
  s.modForce n fun f => { f with adapted := true }

/-- What the force budget does when a segment that started retires: the reference run's outcome, adaptation, the warning
and blind ceilings released, RETRY's count and policy_busy cleared, but for a group segment that its member's RETRY ended (R101,
R206, R207, R214, R218). `dir` is the segment's
direction, 0 increasing, 1 decreasing, when it has one. -/
def budgetOnRetire (s : State) (n : Fin 64) (status ptr : Nat) (dir : Option Nat) : State :=
  let f := s.force n
  let s := match f.refRun with
    | some (d, start) => s.referenceEnd n d start status
    | none =>
      match dir with
      | some d =>
        if s.flag R.FB_CTL_adapt n ∧ status = 0x00 ∧ s.learned n d ∧ ¬ s.learning n d ∧ s.travelValid n ∧ ¬ f.decided ∧
            ¬ f.ceilHeld then s.adaptProfile n d else s
      | none => s
  let retry := decide (f.groupAct = some 3) && decide (status = 0x07)
  let s := s.modForce n fun f =>
    { f with refRun := none, refFailed := false, sums := [], decided := false, ceilHeld := false, warnCeil := none, blindCeil := none,
             due := false, groupAct := if retry then f.groupAct else none, restedAt := s.now,
             retract := f.retract.filter fun p => decide (p ≠ ptr) }
  let s := if retry then s
    else ((s.set R.FB_STATUS_retries_used 0 n).setFlag R.FB_STATUS_policy_busy false n).setFlag R.FB_STATUS_suspended false n
  s.budgetCeil n

/-- Lull or Fault stops the axis: a waiting decision and the RETRY count are dropped (R231). -/
def budgetStopped (s : State) (n : Fin 64) : State :=
  let s := s.modForce n fun f => { f with due := false, groupAct := none }
  let s := s.modSd n fun d => { d with stallDue := false }
  let s := (s.set R.FB_STATUS_retries_used 0 n).setFlag R.FB_STATUS_policy_busy false n
  s.setFlag R.FB_STATUS_suspended false n

/-- A segment starts (R184, R206, R212, R214, R219), or a held one executes `again`, which keeps its reference run, its sums and
what it carried. `tested` tells a MOVE or GROUP_MOVE segment, `dir` its direction. -/
def budgetStart (s : State) (n : Fin 64) (ptr : Nat) (tested : Bool) (dir : Option Nat) (pos : Int) (again : Bool) : State :=
  let s := s.modSd n fun d => { d with candidates := 0 }
  let run : Option (Nat × Nat) := match dir with
    | some d => if tested ∧ s.learning n d then some (d, s.bucketOf n pos) else none
    | none => none
  let s := s.modForce n fun f =>
    if again then { f with assessedAt := s.now }
    else { f with refRun := run, refFailed := false, sums := [], decided := false, ceilHeld := false, assessedAt := s.now }
  let s := s.set R.FB_STATUS_breach_count 0 n
  s.setFlag R.FB_STATUS_suspended ((s.force n).retract.contains ptr) n

/-! ### Maps (R167, R208, R619) -/

/-- A checked map becomes valid: with another generation than map_gen both directions lose their learned mark (R208); the
loop resistance starts at r_total (R163). A reference run under way will fail (R231). -/
def mapNowValid (s : State) (n : Fin 64) : State :=
  let gen := s.mapField n 0x20 4
  let old := s.get R.FB_PROF_INFO_map_gen n
  let s := s.setFlag R.SD_STATUS_map_valid true n
  let s := s.modForce n fun f => { f with refFailed := f.refFailed || f.refRun.isSome }
  let s := s.putTemp n (s.mapField n 0x0C 2 : Nat) ((signed 16 (s.mapField n 0x10 2) : Rat) / 64)
  let s := if gen ≠ old then
      let s := (s.setLearned n 0 false).setLearned n 1 false
      let s := s.setFlag R.FB_STATUS_profile_stale true n
      s.fbEvent n R.FB_EVENTS_profile_stale 0x35 ([0, 0, 0, 0] ++ bytesLE 4 old ++ bytesLE 4 gen)
    else s
  s.budgetCeil n

/-- The map is no longer valid (R167): the confidence is 0. -/
def mapInvalid (s : State) (n : Fin 64) : State :=
  ((s.setFlag R.SD_STATUS_map_valid false n).putConf n 0).budgetCeil n

/-- The checks of a present map (R167). -/
def mapChecks (s : State) (n : Fin 64) : Bool :=
  let pp := s.mapField n 6 2
  let b := s.bytes (tileSram n) 0x7FFC
  decide (s.mapField n 4 2 = 1) && decide (pp ≠ 0) && decide (pp ≤ 1000) && decide (s.mapField n 0x0A 2 ≤ 31) &&
    decide (50 ≤ s.mapField n 8 2) && decide (s.mapField n 0x7FFC 4 = crc32c b)

/-- A map's magic (R166). -/
def mapMagic (s : State) (n : Fin 64) : Bool := decide (s.mapField n 0 4 = 0x53440001)

/-- Copy a MAP payload into tile SRAM, the part not stored filled with zero (R619). -/
def placeMap (s : State) (n : Fin 64) (payload : List Byte) : State :=
  let s := s.setBytes (tileSram n) (payload.take 0x4140 ++ List.replicate (0x7FFC - 0x4140) 0)
  s.setBytes (tileSram n + 0x7FFC) ((payload.drop 0x4140).take 4)

end State
end Sys2Proof.Machine
end

