-- ==== Sys2Proof/Machine/TileBase.lean ====
section
/-! DEFINITION. What a tile's changes of state and retirements do in its other blocks: the estimator, the Hiker core, the
force budget, homing status and the checkpoint request. -/

namespace Sys2Proof.Machine
namespace State

/-- The device is in Run (R23). -/
def deviceRuns (s : State) : Bool := s.get R.PWR_STATUS_state = 0

/-- A wake source is enabled; the supply always is after a Dusk that ended in Night (R600). -/
def wakeEnabled (s : State) (b : Nat) : Bool := s.fbit R.WAKE_EN_en b || (decide (b = 5) && s.lookout.duskNight)

/-- A wake source of Lookout fires: latched while the device is not in Run and WAKE_EN names it (R600).
Log: DEDUCED notes/assumptions/36.md. -/
def wakeFires (s : State) (b : Nat) : State :=
  if ¬ s.deviceRuns ∧ s.wakeEnabled b then s.setBit R.WAKE_CAUSE_cause b true else s

/-- A wake-enabled window of the tile runs in low-power mode, and one that does not run reports 0 (R331, R332, R341). -/
def showLowPower (s : State) (n : Fin 64) : State :=
  let wakes := s.flag (R.WIN_CFG_wake_en.nth 4) n || s.flag (R.WIN_CFG_wake_en.nth 5) n
  (s.setFlag R.WIN_STATUS_low_power (wakes && (decide (s.st n = 0) || !s.deviceRuns)) n).stopWindows n

/-- Push detection owns the tile's general window while it is enabled and the tile is Asleep or Idle and not energising
(R230): it sets the window on VA<nn> to 1.25 V ± thr_mv with wake enabled. -/
def showPush (s : State) (n : Fin 64) : State :=
  let st := s.st n
  let mv := s.get R.PUSH_CTL_thr_mv n
  let owns := s.flag R.PUSH_CTL_enable n && decide (mv ≠ 0) && (decide (st = 0) || decide (st = 1)) &&
    !(s.tile n).cur.energising
  let was := s.flag R.WIN_STATUS_push_owned n
  let s := s.setFlag R.WIN_STATUS_push_owned owns n
  if owns ∧ (¬ was ∨ s.get (R.WIN_THR_upper.nth 5) n ≠ min 1023 ((1250 + mv) * 1024 / 2500)) then
    let s := s.putThr n 5 (min 1023 ((1250 + mv) * 1024 / 2500)) ((1250 - min 1250 mv) * 1024 / 2500)
    let s := (s.set (R.WIN_CFG_input.nth 5) 0 n).set (R.WIN_CFG_cond.nth 5) 2 n
    (s.set (R.WIN_CFG_test.nth 5) 0 n).setFlag (R.WIN_CFG_wake_en.nth 5) true n
  else s

/-- The hours of Run that the store's refresh counts stand still outside Run (R629). -/
def countRun (s : State) (v : Nat) : State :=
  if s.deviceRuns ∧ v ≠ 0 then { s with lookout := { s.lookout with leftRun := s.now } }
  else if ¬ s.deviceRuns ∧ v = 0 then { s with ps := { s.ps with refreshed := s.ps.refreshed + (s.now - s.lookout.leftRun) } }
  else s

/-- PWR_STATUS.state changes, and is counted (R601). -/
def putPower (s : State) (v : Nat) : State :=
  let s : State := { s.countRun v with ppsOut := s.ppsOut && decide (v < 2) }
  allTiles.foldl (fun (s : State) (n : Fin 64) => s.showLowPower n) ((s.set R.PWR_STATUS_state v).bump R.PWR_STATUS_changes).stopHouseWindows

/-- The WAKE event of a wake from state `was` (R600, R609). -/
def noteWake (s : State) (was : Nat) : State :=
  s.event 0x81 0xFF (bytesLE 1 (s.get R.WAKE_CAUSE_cause) ++ bytesLE 1 was)

/-- In Doze a wake request for a tile, a doorbell or an arriving command frame returns the device to Run (R599). -/
def dozeWake (s : State) : State := if s.get R.PWR_STATUS_state = 1 then (s.putPower 0).noteWake 1 else s

/-- A checkpoint is requested with a cause of R620 (R621); frugal mode ignores the end of a move and the timer (R626). -/
def wantCheckpoint (s : State) (cause : Nat) : State :=
  if cause ≤ 1 ∧ s.get R.PS_STATUS_mode ≠ 0 then s
  else if cause = 0 ∧ ¬ s.flag R.PS_CKPT_CFG_move_end then s
  else if s.ps.want.isSome ∧ cause ≠ 2 then s
  else
    let s := if cause ≤ 1 then s.raiseCanopy 8 else s
    { s with ps := { s.ps with want := some cause } }

/-- The device is acquiring site time after a wake, for at most 100 ms (R532). -/
def acquiring (s : State) : Bool := decide (s.get R.TIME_STATUS_state = 3) && s.clock.woke.isSome

/-- The device holds good time: it is the master, LOCKED or in HOLDOVER (R527). Log: DEDUCED notes/assumptions/53.md. -/
def timeGood (s : State) : Bool := [1, 2, 4, 5].contains (s.get R.TIME_STATUS_state)

/-- A HOME segment retires: HOME_STATUS, homing_required, and its HOME_DONE or HOME_FAILED event (R233, R238, R239). A
method that could not complete has named its result; a cut-off or a flush records INTERRUPTED. -/
def homeRetired (s : State) (n : Fin 64) (ptr : Nat) (g : Seg) (status : Nat) (h : Option HomeRun) (time : Nat) : State :=
  let method := bits g.w1 31 28
  let result : Nat := if status = 0x00 then 0x00 else if status = 0x05 then 0x09
    else ((h.bind (·.fail)).getD 0x07)
  let s := (s.set R.HOME_STATUS_result result n).set R.HOME_STATUS_method method n
  let s := (s.set R.HOME_STATUS_phase 0 n).setFlag R.HOME_STATUS_busy false n
  let s := s.setFlag R.TILE_STATE_homing_required (decide (status ≠ 0x00)) n
  let s := if status = 0x00 then s.setFlag R.HOME_STATUS_homed true n else s
  s.eventAt time (if status = 0x00 then 0x14 else 0x15) n (bytesLE 1 result ++ bytesLE 1 method ++ bytesLE 2 ptr
    ++ bytesLE 4 (s.get R.HOME_LATCH_HI_latch_int n)
    ++ bytesLE 4 (match h.bind (·.formed) with
      | some q => wrapNat 32 (Int.fdiv q (2 ^ 32))
      | none => g.w2))

/-- The direction of a started segment: 0 increasing, 1 decreasing (R206, R207). -/
def execDirOf (e : Exec) : Option Nat :=
  let d : Int := match bits e.seg.w0 3 0 with
    | 3 => signed 32 e.seg.w3
    | 6 => signed 32 e.seg.w1
    | _ => e.ownTarget - e.start
  if 0 < d then some 0 else if d < 0 then some 1 else none

/-- What Sundial and the force budget do at a segment start (R184, R206, R212), or as a held segment executes `again`. -/
def estimatorStart (s : State) (n : Fin 64) (again : Bool) : State :=
  match (s.plan n).exec with
  | none => s
  | some e =>
    let typ := bits e.seg.w0 3 0
    s.budgetStart n e.ptr (typ = 1 || typ = 2 || typ = 6) (execDirOf e) e.startPos again

/-- Line of a checkpoint generation's record (R620). -/
def ckptLine (g : Nat) : Nat := 64 * (1024 + g / 2 % 256) + 32 * (g % 2)

/-- A moving tick: the first after a commit opens the header of the next checkpoint (R622). -/
def movingTick (s : State) : State :=
  let s := { s with ps := { s.ps with moved := true } }
  if s.ps.openGen.isSome ∨ s.psFailed then s
  else
    let g := s.psNextGen 0x07 0
    let s := if g % 2 = 0 ∧ ¬ s.psCleared (ckptLine g) 64 then s.psClear (1024 + g / 2 % 256) else s
    let s := s.psProgram (ckptLine g) (psHeader 0x07 true 0 g 1600 s.now (s.get R.TIME_EPOCH_epoch))
    { s with ps := { s.ps with openGen := some g } }.setFlag R.PS_STATUS_open_ true

end State
end Sys2Proof.Machine
end

