-- ==== Sys2Proof/Machine/TileOps.lean ====
section
/-! DEFINITION. The shared operations of a tile: its states and transitions (01_how_a_move_travels.md R16 to R30), its
trail and retirements (02_trails_and_profiles.md R31 to R47, R76 to R79), entry to Lull and to Fault, group and chain
alarms (R99, R105, R499). -/

namespace Sys2Proof.Machine

/-- The codes of TILE_STATE.state (R18). -/
def stAsleep : Nat := 0
def stIdle : Nat := 1
def stHolding : Nat := 2
def stMoving : Nat := 3
def stLull : Nat := 4
def stFault : Nat := 5

/-- The end statuses of R47. -/
def endDone : Nat := 0x00
def endBlended : Nat := 0x01
def endStopped : Nat := 0x02
def endAborted : Nat := 0x03
def endFlushed : Nat := 0x04
def endStalled : Nat := 0x05
def endLull : Nat := 0x06
def endObstructed : Nat := 0x07
def endLateStart : Nat := 0x08
def endFault : Nat := 0x09
def endEpoch : Nat := 0x0A

/-- The distance or target in W1 and W2 as a signed 32.32 number (R35). -/
def segPos (g : Seg) : Int := signed 64 (g.w1 + 2 ^ 32 * g.w2)
/-- MOVE_ABS or MOVE_REL. -/
def segIsMove (g : Seg) : Bool := segType g = 1 || segType g = 2

namespace State

/-! ### States -/

/-- What a tile's change of state starts and stops; a scan under way is abandoned (R286): R16, R127, R158, R260, R420. -/
def onEnter (s : State) (n : Fin 64) (new : Nat) : State :=
  let stood := decide (s.get R.TILE_STATE_prev_state n ≠ stMoving)
  let s := s.modCur n fun c => { c with enteredAt := s.now, parked := false, stood := stood }
  let s := if new = stAsleep ∨ new = stIdle ∨ new = stFault then s.sundialClear n else s
  let s := if new = stHolding ∨ new = stMoving then s
    else ((s.modCur n fun c => { c with ramped := 0, energising := false, deenergising := false, belowLoA := false,
                                        belowLoB := false }).regulatorsOff n)
  let s := if new = stAsleep then s.coreSleep n else if new = stFault then s.coreFault n else s.coreWake n
  let s := (s.showLowPower n).showPush n
  let s := if new = stAsleep ∨ new = stFault then
      (s.modTile n fun t => { t with adc := { t.adc with run := none, waiting := none, due := [] } }).setFlag R.ADC_STATUS_scan_busy
        false n
    else s
  s.showLevel n

/-- A transition to a new state: prev_state, state, and the STATE event (R17, R24). -/
def goState (s : State) (n : Fin 64) (new : Nat) (time : Nat) : State :=
  let old := s.st n
  let s := (s.set R.TILE_STATE_prev_state old n).set R.TILE_STATE_state new n
  let s := ((s.onEnter n new).govTile n).raiseLine n 9
  let s := if old < 2 ∧ 2 ≤ new then s.endLoan n else s
  let s := if new = stLull then (s.raiseLine n 10).raiseCanopy 6 else if new = stFault then s.raiseCanopy 6 else s
  let cause := if new = stLull ∨ new = stFault then (s.tile n).lull.alarmCause else 0
  s.eventAt time 0x01 n (bytesLE 1 old ++ bytesLE 1 new ++ bytesLE 1 (s.get R.TILE_STATE_fault_cause n)
    ++ bytesLE 1 (s.get R.TILE_STATE_lull_source n) ++ bytesLE 1 cause)

/-- Freeze the trail (R79). -/
def freeze (s : State) (n : Fin 64) : State := s.setFlag R.TILE_STATE_trail_frozen true n

/-- The trail is frozen. -/
def frozen (s : State) (n : Fin 64) : Bool := s.flag R.TILE_STATE_trail_frozen n

/-- Set homing_required (R232). -/
def needHoming (s : State) (n : Fin 64) : State := s.setFlag R.TILE_STATE_homing_required true n

/-! ### Trail (R31 to R34) -/

/-- The segment whose ON_INPUT or ON_HIKER condition can be met: the head that waits, or the one behind a VELOCITY that runs or
ends with its duration (R37, R55). -/
def awaited (s : State) (n : Fin 64) : Option Seg :=
  match (s.plan n).exec with
  | none => if 0 < s.trailCount n then some (s.segAt n (s.head n)) else none
  | some e =>
    if segType e.seg = 3 ∧ (e.stop = .none ∨ e.stop = .durationEnd) ∧ 2 ≤ s.trailCount n then
      some (s.segAt n ((s.head n + 1) % 2048))
    else none

/-- Bring POS_LO and POS_HI to the accumulator (R57). -/
def syncPos (s : State) (n : Fin 64) : State :=
  let w := wrapNat 64 (s.pos32 n)
  ((s.set R.POS_LO_pos_frac (w % 2 ^ 32) n).set R.POS_HI_pos_int (w / 2 ^ 32) n).refreshPhase n

/-- The position has jumped by `d`: what the rate multiplier spreads moves with it (R56). -/
def shiftRan (s : State) (n : Fin 64) (d : Int) : State :=
  s.modPlan n fun p => { p with ran := p.ran.map fun r => (r.1, r.2.1 + d, r.2.2 + d) }

/-- The plan tick in force has run on the tile. -/
def hasRun (s : State) (n : Fin 64) : Bool := decide ((s.plan n).ran.map (·.1) = some s.tickStart)

/-- The integer position. -/
def posInt (s : State) (n : Fin 64) : Int := s.getInt R.POS_HI_pos_int n

/-! ### Retirement -/

/-- The event payload of SEGMENT_END (R478). -/
def segEndPayload (s : State) (n : Fin 64) (status typ ptr : Nat) : List Byte :=
  bytesLE 1 status ++ bytesLE 1 typ ++ bytesLE 2 ptr ++ bytesLE 4 (s.get R.POS_HI_pos_int n)
    ++ bytesLE 4 (s.get R.POS_LO_pos_frac n)

/-- The MOVE_SUMMARY body of R480. -/
def summaryBody (s : State) (n : Fin 64) (status : Nat) (e : Exec) (time : Nat) : List Byte :=
  bytesLE 1 status ++ bytesLE 1 (segType e.seg) ++ bytesLE 2 e.ptr ++ bytesLE 4 ((time - e.startTime) / 1000)
    ++ bytesLE 4 (wrapNat 32 e.startPos) ++ bytesLE 4 (s.get R.POS_HI_pos_int n) ++ bytesLE 4 e.peakForce
    ++ bytesLE 4 e.peakEnergy ++ bytesLE 1 e.leastConf ++ bytesLE 3 (e.peakDelta / 256) ++ bytesLE 4 e.peakVel
    ++ bytesLE 8 e.startTime

/-- DONE or BLENDED. -/
def endGood (status : Nat) : Bool := decide (status = endDone) || decide (status = endBlended)

/-- Member indexes of a move that ended as `good` says, as a mask. -/
def endedMask (m : GroupMove) (good : Bool) : Nat :=
  ((m.ended.filter fun e => endGood e.2 == good).map fun e => 2 ^ e.1).sum

/-- The end of a member's segment entered for a move; members on other devices end with the last of the local members.
Log: DEDUCED notes/assumptions/9.md. -/
def markEnded (s : State) (n : Fin 64) (k status : Nat) (m : GroupMove) : GroupMove :=
  let mine := s.get R.GROUP_CFG_member n
  let isHere (i : Nat) : Bool := (s.localMembers k).any fun t => decide (s.get R.GROUP_CFG_member t = i)
  let open_ (l : List (Nat × Nat)) (i : Nat) : Bool := l.all fun e => decide (e.1 ≠ i)
  let own := if open_ m.ended mine then m.ended ++ [(mine, status)] else m.ended
  let last := m.dists.all fun d => !(isHere d.1 && open_ own d.1)
  let far := m.dists.filter fun d => !isHere d.1 && open_ own d.1
  { m with ended := if last then own ++ far.map fun d => (d.1, status) else own }

/-- What a segment of distances `dists` leaves when it stops at path position `sr`, 32.32, on a path of length `len` (R89, R101). -/
def remainder (dists : List (Nat × Int)) (sr : Int) (len : Nat) : List (Nat × Int) :=
  dists.map fun d => (d.1, d.2 - Int.fdiv (d.2 * sr) (len * 2 ^ 32))

/-- The leader's moves of local slot `k` without those that have ended on every member, whose descriptors complete (R102, R471). -/
def movesDone (s : State) (k : Nat) (g : GroupSlot) : State :=
  let isOver (m : GroupMove) : Bool := decide (m.dists.length ≤ m.ended.length)
  let done := g.moves.filter isOver
  let s := s.setGroup k (some { g with
    retract := if done.any (fun m => some m.seq = g.retract) then none else g.retract, moves := g.moves.filter fun m => !isOver m })
  done.foldl (fun (s : State) m => match m.ref with
    | some ref => s.complete ref (if endedMask m false = 0 then 0x00 else 0x0B)
        (endedMask m true + 65536 * endedMask m false)
    | none => s) s

/-- The leader's view of a member's retirement of the segment with sequence number `seq`: the move completes when its
last member has retired (R102, R471); a cut-off breaks the expected base of the member, and of those on other devices (R87).
`ran` tells a segment that had started. Log: DEDUCED notes/assumptions/9.md. -/
def memberEnded (s : State) (n : Fin 64) (seq status : Nat) (ran : Option Seg) : State :=
  let k := s.get R.GROUP_CFG_slot n
  match s.group k with
  | none => s
  | some g =>
    let mine := s.get R.GROUP_CFG_member n
    let ms := if endGood status then g.members
      else g.members.map fun m => if m.index = mine ∨ ¬ s.memberHere m then { m with chained := false } else m
    let dists := ((g.moves.find? fun m => decide (m.seq = seq)).map (·.dists)).getD []
    let cut := match ran with
      | some w => if endGood status ∨ w.w2 = 0 then g.cut
                  else some (remainder dists (Int.fdiv (s.plan n).path p38) w.w2, w)
      | none => g.cut
    s.movesDone k { g with members := ms, cut := cut,
                           moves := g.moves.map fun m => if m.seq = seq then s.markEnded n k status m else m }

/-- The bases that a retired segment leaves: its own target for a MOVE (R40), base + distance for a GROUP_MOVE
(R87). A condition that ended a VELOCITY stays met for the segment behind it (R55). -/
def retirePlan (ptr status : Nat) (g : Seg) (e : Option Exec) (p : Planner) : Planner :=
  { p with exec := none, held := none, retry := false, headRepl := none,
           condMet := p.condMet && decide (segType g = 3) && endGood status && e.isSome,
           discard := p.discard.filter fun q => decide (q.1 ≠ ptr),
           slots := p.slots.filter fun q => decide (q.1 ≠ ptr),
           lastTarget := if segIsMove g && endGood status then e.map (·.ownTarget) else none,
           lastGroupEnd := if decide (segType g = 6) && endGood status then
               e.map fun x => x.base + signed 32 g.w1 * 2 ^ 32 else none }

/-- The SEGMENT_END event and the checkpoint request of a retirement (R35, R41). -/
def retireEvent (s : State) (n : Fin 64) (status ptr : Nat) (g : Seg) (time : Nat) : State :=
  let s := if bit g.w0 8 || s.flag R.TRAIL_CTL_event_every_end n then
      s.eventAt time 0x10 n (s.segEndPayload n status (segType g) ptr) else s
  if decide (status = endDone) && (bit g.w0 7 || s.flag R.TRAIL_CTL_ckpt_every_end n) then s.wantCheckpoint 0 else s

/-- A segment that started leaves its keep_current flag, its budget and its journal summary (R127, R480). -/
def retireStarted (s : State) (n : Fin 64) (status : Nat) (x : Exec) (time : Nat) : State :=
  let s := (s.modCur n fun c => { c with keep := bit x.seg.w0 6 }).budgetOnRetire n status x.ptr (execDirOf x)
  if s.flag R.HAMPER_JROUTE_summary_en && [1, 2, 3, 5, 6].contains (segType x.seg) then
    s.journal (s.get R.HAMPER_JROUTE_summary_ring) 0x01 n x.startTime (s.summaryBody n status x time)
  else s

/-- The trail has become empty: the timers of R21 start again. -/
def noteEmpty (s : State) (n : Fin 64) : State :=
  if s.trailCount n = 0 then s.modCur n fun c => { c with emptyAt := s.now } else s

/-- A segment retires: TRAIL_STATUS, its event, its checkpoint request, its journal summary, its completion, and the
head's advance (R33, R35, R41, R46, R469, R471, R480). `e` is the segment as it executed, `none` when it never
started. -/
def retire (s : State) (n : Fin 64) (status : Nat) (e : Option Exec) (time : Nat) : State :=
  let ptr := s.head n
  let g : Seg := (e.map (·.seg)).getD (s.segAt n ptr)
  let s := (s.set R.TRAIL_STATUS_last_status status n).set R.TRAIL_STATUS_last_ptr ptr n
  let s := (s.set R.TRAIL_PTR_head ((ptr + 1) % 2048) n).raiseLine n 1
  let s := (s.modPlan n (retirePlan ptr status g e)).noteEmpty n
  let s := s.retireEvent n status ptr g time
  let s := match e with
    | some x => s.retireStarted n status x time
    | none => s
  let s := if segType g = 5 then s.homeRetired n ptr g status (e.map (·.home)) time else s
  let s := if segType g = 6 then s.setFlag R.GROUP_STATUS_waiting_start false n else s
  let s := s.completeAt (.segment n ptr) (if endGood status then 0x00 else 0x0B)
    (status + 256 * ptr + 2 ^ 32 * (time % 2 ^ 32))
  if decide (segType g = 6) && s.isMember n then s.memberEnded n (bits g.w6 14 4) status (e.map (·.seg)) else s

/-- Retire every waiting segment with FLUSHED: `k` of them at most (R43). -/
def flushWaiting (s : State) (n : Fin 64) : Nat → State
  | 0 => s
  | k + 1 => if s.trailCount n = 0 then s else (s.retire n endFlushed none s.now).flushWaiting n k

/-! ### Wake and energise -/

/-- A wake request (R22, R23): the tile leaves Asleep when its clocks run. -/
def wakeRequest (s : State) (n : Fin 64) : State :=
  let s := s.endLoan n
  let s := s.dozeWake
  if s.st n = stAsleep then s.modLull n fun l => { l with wakePending := true } else s

/-- A window of the tile is in test (R339). -/
def anyTest (s : State) (n : Fin 64) : Bool :=
  (List.range 6).any fun w => decide (s.get (R.WIN_CFG_test.nth w) n ≠ 0)

/-- Nothing bars the tile from leaving Idle for Holding: Dawn has ended (R658), a valid scale (R123), settled references
(R300), the scan converter lost (R298), time not being acquired (R532), no window in test (R339). -/
def mayEnergise (s : State) (n : Fin 64) : Bool :=
  s.dawnDone && !s.flag R.CUR_STATUS_scale_invalid n && s.flag R.ADC_REF_f_settled n &&
    !s.flag R.ADC_STATUS_scan_lost n && !s.acquiring && !s.anyTest n

/-- Begin the Idle to Holding transition (R22, R128): the legs start under R254. Log: DEDUCED notes/assumptions/35.md. -/
def beginEnergise (s : State) (n : Fin 64) : State :=
  if s.st n = stIdle ∧ s.mayEnergise n ∧ ¬ (s.tile n).cur.energising then
    let s := s.modForce n fun f => { f with pushAt := none }
    (((s.modCur n fun c => { c with energising := true, deenergising := false, ramped := 0 }).energiseLegs n).showPush n).showLevel n
  else s

/-- A tile in Idle with a segment at the head of a trail that is not frozen begins to energise (R22). -/
def energiseIfDue (s : State) (n : Fin 64) : State :=
  if s.trailCount n > 0 ∧ ¬ s.frozen n then s.beginEnergise n else s

/-- The site time that a release word stands for (R85). -/
def fullTime (s : State) (lo : Nat) : Nat := ((s.now : Int) + signed 32 (lo + 2 ^ 32 - s.now % 2 ^ 32)).toNat

/-- The full release time of a segment that is received now (R85). -/
def releaseOf (s : State) (g : Seg) : Option Nat := if segType g = 6 ∧ bit g.w6 15 then some (s.fullTime g.w7) else none

/-- Place a segment at the tail (R33) and wake the tile (R22). -/
def placeSeg (s : State) (n : Fin 64) (g : Seg) : State :=
  let ptr := s.tail n
  let s := s.setBytes (slotAddr n ptr) (segBytes g)
  let s := s.set R.TRAIL_PTR_tail ((ptr + 1) % 2048) n
  let t := s.tickStart
  let s := s.modPlan n fun p => { p with slots := p.slots ++ [(ptr, s.epoch, s.releaseOf g)]
                                         placed := (t, if p.placed.1 = t then p.placed.2 + 1 else 1) }
  -- with a push firing of the same tick the segment wins (R231)
  let s := s.modForce n fun f => { f with pushAt := f.pushAt.filter fun u => decide (u < t) }
  (s.wakeRequest n).energiseIfDue n

/-! ### Lull (R77, R274 to R282) -/

/-- The segment that RETRY holds at rest during its wait (R218). -/
def restingRetry (s : State) (n : Fin 64) : Option Exec :=
  match (s.plan n).exec, (s.plan n).held with
  | none, some e => if e.stop = .retrying then some e else none
  | _, _ => none

/-- The executing segment, or the one that RETRY holds at rest, is cut off: V and A become zero; it retires, or stays held under lull_retry (R77, R102,
R239). -/
def cutOff (s : State) (n : Fin 64) (status : Nat) : State :=
  let cut := (s.plan n).exec.or (s.restingRetry n)
  let s := (s.modPlan n fun p => { p with v := 0, a := 0, handover := false }).syncRates n 1 1
  match cut with
  | none => s
  | some e =>
    if status = endLull ∧ s.flag R.TRAIL_CTL_lull_retry n ∧ ¬ s.isMember n then
      let s := s.modPlan n fun p => { p with exec := none, retry := false, held := some { e with stop := .none } }
      if segType e.seg = 5 then (s.set R.HOME_STATUS_phase 0 n).setFlag R.HOME_STATUS_busy false n else s
    else s.retire n status (some e) s.now

/-- The tile's Lull choice is BRAKE (R274). -/
def brakeChoice (s : State) (n : Fin 64) : Bool :=
  s.flag R.LEG_CTL_lull_brake n && !(s.flag R.LEG_CTL_win_off n && s.fbit R.TILE_STATE_lull_source 1 n)

/-- A change of the Lull choice while the gate-off path holds the tile (R274). -/
def rechoose (s : State) (n : Fin 64) : State :=
  if s.flag R.LEG_STATUS_held_off n then
    if s.brakeChoice n then
      (if s.flag R.LEG_STATUS_brake_engaged n then s else s.modLull n fun l => { l with brakeArmed := true })
    else ((s.gatesLow n).setFlag R.LEG_STATUS_brake_engaged false n).modLull n fun l => { l with brakeArmed := false }
  else s

/-- The gate-off path takes hold of the tile: every gate L, pending turn-ons cancelled, the BRAKE delay line armed by the
choice (R271, R274). Where it holds the tile already it goes on at the Lull choice (R276). -/
def gateOff (s : State) (n : Fin 64) : State :=
  if s.flag R.LEG_STATUS_held_off n then s.rechoose n
  else
    let s := (s.gatesLow n).setFlag R.LEG_STATUS_held_off true n
    let s := (s.setFlag R.LEG_STATUS_brake_engaged false n).setMaskBit R.LULL_MAP_LO_tiles_lo R.LULL_MAP_HI_tiles_hi n true
    s.modLull n fun l => { l with brakeArmed := s.brakeChoice n }

/-- Entry to Lull without its effects on a group or a chain (R22, R25, R77). In Fault the source is recorded only
(R27). -/
def enterLullCore (s : State) (n : Fin 64) : State :=
  let st := s.st n
  if st = stLull ∨ st = stFault then s
  else
    let s := s.modLull n fun l =>
      { l with fromMoving := decide (st = stMoving), wakePending := false,
               confHeld := decide (s.get R.SD_CONF_conf n ≥ s.get R.HOME_TOL_lull_conf n) }
    let s := (s.walkAbort n).cutOff n endLull
    let s := s.budgetStopped n
    let s := s.freeze n
    let s := s.goState n stLull s.now
    let s := s.gateOff n
    if s.flag R.RIPPLE_CTL_freeze_on_lull n then s.setFlag R.RIPPLE_STATUS_frozen true n else s

/-- Latch a bit of lull_source, [23:16] counted from 0, and enter Lull (R275, R27). -/
def latchLull (s : State) (n : Fin 64) (b : Nat) : State :=
  let s := if s.fbit R.TILE_STATE_lull_source b n then s else s.raiseLine n 10
  ((s.setBit R.TILE_STATE_lull_source b true n).enterLullCore n).rechoose n

/-- Alarm domains that this device raises (R499): a tile of d holds a source other than [22], or a port that names d
is down after having been UP. -/
def domainsRaised (s : State) : Nat :=
  (List.range 16).foldl (fun a d =>
    let byTile := allTiles.any fun n =>
      s.maskBit R.USF_DOM_LO_tiles_lo R.USF_DOM_HI_tiles_hi n d &&
        decide (s.get R.TILE_STATE_lull_source n / 128 * 128 + s.get R.TILE_STATE_lull_source n % 64 ≠ 0)
    let byPort := allPorts.any fun p => (s.port p).wasUp && !(s.port p).parked && !s.portUp p && s.fbit R.USF_PCFG_down_domains d p
    if byTile ∨ byPort then a + 2 ^ d else a) 0

/-- Note at the present time the domains of a mask as named by a CHAIN_ALARM (R499). -/
def noteDomains (s : State) (mask : Nat) : State :=
  (List.range 16).foldl (fun s d =>
    if mask.testBit d then
      { s with usfen := { s.usfen with domSeen := sparseInsert d s.now s.usfen.domSeen } } else s) s

/-- Flood a CHAIN_ALARM naming the domains raised (R498, R499). -/
def sendChainAlarm (s : State) (mask : Nat) : State :=
  let c := s.usfen.alarmCount
  let s := { s with usfen := { s.usfen with alarmCount := (c + 1) % 2 ^ 32, alarmSent := s.now } }
  (s.flood 0x01 (bytesLE 2 mask ++ [0, 0] ++ bytesLE 4 c)).noteDomains mask

/-- The commands of local group slot `k` that are due on the tick in force are dropped; a descriptor's completes CMD_REFUSED
(R110, R469). -/
def dropCmds (s : State) (k : Nat) : State :=
  match s.group k with
  | none => s
  | some g =>
    let s' := s.setGroup k (some { g with cmds := g.cmds.filter fun c => decide (s.tickStart < c.apply) })
    (g.cmds.filter fun c => decide (c.apply ≤ s.tickStart)).foldl (fun (s : State) (c : GroupCmd) =>
      match c.ref with
      | some r => s.complete r 0x08
      | none => s) s'

/-- Raise the alarm of local group slot `k` (R105, R500): the local members enter Lull over the on-die line and the
first of three copies is flooded. A group command due on the tick is dropped (R110). -/
def raiseGroupAlarm (s : State) (k cause origin : Nat) : State :=
  match s.group k with
  | none => s
  | some g =>
    let s := s.setGroup k (some { g with alarmUntil := s.now + 1200000, alarmAt := s.now, alarmCopies := 2, alarmCause := cause, alarmOrigin := origin })
    let s := s.dropCmds k
    let s := s.flood 0x00 (bytesLE 2 g.tag ++ bytesLE 1 cause ++ bytesLE 1 1 ++ bytesLE 4 origin ++ bytesLE 8 s.now)
    s.forTiles (s.localMembers k) fun m s =>
      (s.modLull m fun l => { l with alarmCause := cause }).latchLull m 6

/-- The group consequence of a member's own Lull, stall or fault (R105). Log: DEDUCED notes/assumptions/39.md. -/
def memberAlarm (s : State) (n : Fin 64) (cause : Nat) : State :=
  if s.isMember n then s.raiseGroupAlarm (s.get R.GROUP_CFG_slot n) cause (s.get R.GROUP_CFG_member n) else s

/-- A Lull source takes the tile to Lull and its group's alarm follows: the cause stands in the STATE event of its transition (R105). -/
def lullAlarm (s : State) (n : Fin 64) (b : Nat) : State :=
  let st := s.st n
  if st = stLull ∨ st = stFault then s.latchLull n b
  else
    let s := if s.isMember n then s.modLull n fun l => { l with alarmCause := 4 } else s
    (s.latchLull n b).memberAlarm n 4

/-- Latch lull_source bit [22] on the local tiles of every domain of `mask` (R499); a group member's group alarms (R105). -/
def latchDomains (s : State) (mask : Nat) : State :=
  s.forTiles allTiles fun n s =>
    if (List.range 16).any (fun d => mask.testBit d && s.maskBit R.USF_DOM_LO_tiles_lo R.USF_DOM_HI_tiles_hi n d)
    then s.lullAlarm n 6 else s

/-- Bring the alarm domains up to date: a newly raised domain is flooded at once, asserts here and latches bit [22] on
its local tiles, as a tile that joins a domain asserted here does; a change of what is asserted writes a CHAIN_ALARM event
(R499, R518). -/
def updateDomains (s : State) : State :=
  let raised := s.domainsRaised
  let old := s.get R.USF_DOM_STATE_raised
  let was := s.get R.USF_DOM_STATE_asserted
  let s := s.set R.USF_DOM_STATE_raised raised
  let s := if raised % 65536 ≠ old ∧ raised ≠ 0 then s.sendChainAlarm raised else s
  let now := was ||| raised
  let s := s.set R.USF_DOM_STATE_asserted now
  let s := if now ≠ was then s.event 0x73 0xFF (bytesLE 2 now ++ bytesLE 2 raised) else s
  s.latchDomains now

/-- A Lull source of the tile's own sets: it enters Lull, its group alarms, its domains are raised (R22, R105,
R499). Entering from Lull or Fault only records the source (R27). -/
def lullSource (s : State) (n : Fin 64) (b : Nat) : State := (s.lullAlarm n b).updateDomains

/-- A halt that took effect at the entry to Asleep, or takes effect on waking, sets lull_source bit [20] (R278, R420, R669). -/
def haltLull (s : State) (n : Fin 64) : State :=
  if s.coreState n = 4 ∧ ¬ s.fbit R.TILE_STATE_lull_source 4 n then s.lullSource n 4 else s

/-- Clear a bit of lull_source by its route; the tile leaves Lull on a later plan tick (R279, R281). -/
def releaseLull (s : State) (n : Fin 64) (b : Nat) : State :=
  let s := if s.fbit R.TILE_STATE_lull_source b n then s.raiseLine n 10 else s
  ((s.setBit R.TILE_STATE_lull_source b false n).rechoose n).updateDomains

/-! ### Fault (R19, R22, R282) -/

/-- The FAULT_DUMP body of R480: the tile's 4 KB register block as the debug view reads it. -/
def faultDump (s : State) (n : Fin 64) : List Byte :=
  bytesLE 4 (s.rd (R.TILE_STATE.at n)).toNat ++ bytesLE 4 (s.rd (R.HIKER_PC.at n)).toNat
    ++ bytesLE 4 (s.rd (R.HIKER_EXC.at n)).toNat ++ List.replicate 28 0
    ++ (List.range 1024).flatMap fun i => bytesLE 4 (s.rd (0x10000 + 0x1000 * n + 4 * i)).toNat

/-- A fault condition takes the tile to Fault: gates at the Lull choice, the segment cut off, a fault dump written,
the group alarmed (R22, R105, R282, R480). -/
def tileFault (s : State) (n : Fin 64) (cause : Nat) : State :=
  if s.st n = stFault then s
  else
    let s := (s.walkAbort n).cutOff n endFault
    let s := s.budgetStopped n
    let s := (s.freeze n).set R.TILE_STATE_fault_cause cause n
    let s := s.modLull n fun l => { l with wakePending := false, alarmCause := if s.isMember n then 6 else 0 }
    let s := s.goState n stFault s.now
    let s := s.gateOff n
    let s := if s.flag R.HAMPER_JROUTE_fault_en then
        s.journal (s.get R.HAMPER_JROUTE_fault_ring) 0x04 n s.now (s.faultDump n) else s
    s.memberAlarm n 6

end State
end Sys2Proof.Machine
end

