-- ==== Sys2Proof/Machine/FeedOps.lean ====
section
/-! DEFINITION. The feedback ports and the emulation outputs as the tiles meet them: counting, speed, errors, the measured
axis position, re-basing and jumps (11_feedback_ports_and_emulation.md R348 to R371). -/

namespace Sys2Proof.Machine
namespace State

/-- The sixteen ports. -/
def allFeeds : List (Fin 16) := List.finRange 16

/-- The eight outputs. -/
def allEmus : List (Fin 8) := List.finRange 8

/-- A port beside its registers. -/
def feed (s : State) (k : Fin 16) : Feed := s.feeds[k]

/-- Change a port beside its registers. -/
def modFeed (s : State) (k : Fin 16) (f : Feed → Feed) : State := { s with feeds := s.feeds.set k (f (s.feed k)) }

/-- An output beside its registers. -/
def emu (s : State) (j : Fin 8) : Emu := s.emus[j]

/-- Change an output beside its registers. -/
def modEmu (s : State) (j : Fin 8) (f : Emu → Emu) : State := { s with emus := s.emus.set j (f (s.emu j)) }

/-- The feedback domain and the sensor front end run: Run and Doze (R363, R388). -/
def fieldRuns (s : State) : Bool := decide (s.get R.PWR_STATUS_state ≤ 1)

/-- A port is enabled and its domain runs. -/
def feedRuns (s : State) (k : Fin 16) : Bool := s.flag R.FB_CFG_enable k && s.fieldRuns

/-- The mode of a port (R346). -/
def feedMode (s : State) (k : Fin 16) : Nat := s.get R.FB_CFG_mode k

/-- The filter count in force; 0 acts as 1 (R346). -/
def feedFilt (s : State) (k : Fin 16) : Nat := max 1 (s.get R.FB_CFG_filt k)

/-- The inverted levels of a port's pins (R344, R346): bits 0 FP, 1 FQ, 2 FZ. -/
def feedLevels (s : State) (k : Fin 16) (pins : Nat) : Nat :=
  let inv := (if s.feedMode k = 5 then 0 else s.get R.FB_CFG_inv_p k) + 2 * s.get R.FB_CFG_inv_q k + 4 * s.get R.FB_CFG_inv_z k
  Nat.xor (pins % 8) inv

/-- The index edge of a port passes z_gate, which needs FP and FQ high in quadrature mode (R346, R356). -/
def indexPasses (s : State) (k : Fin 16) : Bool :=
  !(decide (s.feedMode k = 0) && s.flag R.FB_CFG_z_gate k && decide (s.get R.FBK_STATUS_levels k % 4 ≠ 3))

/-- The level of a port's pin as homing and ON_INPUT see it: FP and FQ of a reed port after its holdoff (R366). -/
def portPin (s : State) (k : Fin 16) (pin : Nat) : Bool :=
  if s.feedMode k = 3 ∧ pin < 2 then (s.feed k).acc.testBit pin else s.fbit R.FBK_STATUS_levels pin k

/-- A port gives edges of a pin to homing: it runs, and in SSI mode only FQ is an input; FZ gives the index edge (R366). -/
def portEdges (s : State) (k : Fin 16) (pin : Nat) : Bool :=
  s.feedRuns k && (s.feedMode k != 5 || decide (pin = 1)) && (decide (pin ≠ 2) || s.indexPasses k)

/-- Reduce a counter value into the modulus (R355); `v` is signed. -/
def feedReduce (m : Nat) (v : Int) : Nat := if m = 0 then wrapNat 32 v else (Int.fmod v m).toNat

/-- The counter as a number: signed without a modulus (R355). -/
def feedCount (s : State) (k : Fin 16) : Int :=
  if s.get R.FB_REV_rev k = 0 then s.getInt R.FB_POS_pos k else s.get R.FB_POS_pos k

/-- axpos follows the increment sum (R364). -/
def showAxpos (s : State) (k : Fin 16) : State :=
  let f := s.feed k
  s.setInt R.FB_AXPOS_axpos (f.base + roundDiv (f.sum * s.get R.FB_SCALE_num k) (max 1 (s.get R.FB_SCALE_den k))) k

/-- Re-base the measured position of a bound port (R364). Log: DEDUCED notes/assumptions/41.md. -/
def rebase (s : State) (k : Fin 16) : State :=
  if s.flag R.FB_AXIS_bind k then
    (s.modFeed k fun f => { f with base := s.posInt (tileOf (s.get R.FB_AXIS_tile k)), sum := 0 }).showAxpos k
  else s

/-- `d` counts enter the counter and the increment sum (R355, R364). -/
def feedAdd (s : State) (k : Fin 16) (d : Int) : State :=
  let s := s.set R.FB_POS_pos (feedReduce (s.get R.FB_REV_rev k) (s.feedCount k + d)) k
  let s := s.modFeed k fun f => { f with sum := f.sum + d }
  if s.flag R.FB_AXIS_bind k then s.showAxpos k else s

/-- The speed of `clocks` between counts, in the velocity format: round(256 × 10^8 / clocks), saturating at 8,388,607
counts/s (R357). -/
def feedSpeed (clocks : Nat) (up : Bool) : Int :=
  let v : Int := min (roundDiv (256 * 10 ^ 8) clocks) (8388607 * 256)
  if up then v else -v

/-- A counted edge of sign `d`, before dir_inv (R346, R357, R359). -/
def countEdge (s : State) (k : Fin 16) (d : Int) : State :=
  let d := if s.flag R.FB_CFG_dir_inv k then -d else d
  let up := decide (0 < d)
  let time := s.now - 10 * s.feedFilt k
  let s := s.feedAdd k d
  let s := (s.set R.FB_TIME_time (time % 2 ^ 32) k).setFlag R.FBK_STATUS_dir up k
  let s := s.setFlag R.FBK_STATUS_standstill false k
  let s := match (s.feed k).prev with
    | some (t, u) =>
      if u = up then
        let clocks := max 1 ((time - t) / 10)
        (s.set R.FB_INTVL_interval (clocks % 2 ^ 32) k).setInt R.FB_SPEED_speed (feedSpeed clocks up) k
      else (s.set R.FB_INTVL_interval 0 k).set R.FB_SPEED_speed 0 k
    | none => (s.set R.FB_INTVL_interval 0 k).set R.FB_SPEED_speed 0 k
  s.modFeed k fun f => { f with prev := some (time, up) }

/-- FB_SPEEDk while it falls with the time since the last edge (R358). -/
def liveSpeed (s : State) (k : Fin 16) : Nat :=
  match (s.feed k).prev with
  | some (t, up) =>
    let e := (s.now - 10 * s.feedFilt k - t) / 10
    let i := s.get R.FB_INTVL_interval k
    if s.feedMode k ≠ 5 ∧ s.feedRuns k ∧ i ≠ 0 ∧ i < e then wrapNat 32 (feedSpeed e up) else s.get R.FB_SPEED_speed k
  | none => s.get R.FB_SPEED_speed k

/-- At least `wait` ns have passed at `now` since `t`, if it is given. -/
def passedSince (t : Option Nat) (wait now : Nat) : Bool :=
  match t with
  | some t => decide (t + wait ≤ now)
  | none => true

/-- An error of a port (R362): kind 0 quadrature, 1 Hall, 2 SSI; at most one event of a kind in 1 ms. -/
def feedError (s : State) (k : Fin 16) (kind : Fin 3) (time : Nat) : State :=
  let s := if kind = 0 then s.setFlag R.FBK_STATUS_quad_err true k else if kind = 1 then s.setFlag R.FBK_STATUS_hall_err true k
           else s.setFlag R.FBK_STATUS_ssi_err true k
  let s := s.bump R.FBK_STATUS_err_count k
  if passedSince (s.feed k).errAt[kind] 1000000 s.now then
    let s := s.modFeed k fun f => { f with errAt := f.errAt.set kind (some s.now) }
    s.event 0x51 0xFF (bytesLE 1 k ++ bytesLE 1 (kind + 1) ++ [0, 0] ++ bytesLE 4 (time % 2 ^ 32)
      ++ bytesLE 4 (s.get R.FBK_STATUS_err_count k))
  else s

/-- The speed state clears (R347, R363). -/
def feedStill (s : State) (k : Fin 16) : State :=
  let s := (s.set R.FB_SPEED_speed 0 k).set R.FB_INTVL_interval 0 k
  s.modFeed k fun f => { f with prev := none, still := none }

/-- A filtered edge of pin `pin` meets the ON_INPUT conditions that name it (R37, R366). -/
def inputMeets (s : State) (k : Fin 16) (pin : Nat) (rising : Bool) : State :=
  s.forTiles allTiles fun n s =>
    match s.awaited n with
    | none => s
    | some g =>
      let edge := bits g.w6 7 6
      if segCond g = 3 ∧ bits g.w6 3 0 = k.val ∧ bits g.w6 5 4 = pin ∧ (edge = 2 ∨ edge = (if rising then 0 else 1)) then
        s.modPlan n fun p => { p with condMet := true }
      else s

/-! ### Emulation (R367 to R371) -/

/-- The source position of an output, 32.32 (R368). -/
def emuSource (s : State) (j : Fin 8) : Int :=
  let n := tileOf (s.get R.EMU_CFG_tile j)
  if s.flag R.EMU_CFG_src_est j then s.accumulator n - s.sigma n * roundDiv (s.getInt R.SD_SLIP_unwrapped n) 64 * 2 ^ 32
  else s.accumulator n

/-- The target T of an output (R368). -/
def emuTarget (s : State) (j : Fin 8) : Int :=
  Int.fdiv (4 * s.get R.EMU_LINES_lines j * (s.emuSource j - (s.emu j).jump)) ((max 1 (s.get R.EMU_USTEPS_ustep_rev j) : Nat) * 2 ^ 32)

/-- Bring an output's status to its target (R367): lag, lag_seen after 1 µs of lag, the largest lag, low_conf.
Log: DEDUCED notes/assumptions/43.md. -/
def emuShow (s : State) (j : Fin 8) : State :=
  let on := s.flag R.EMU_CFG_enable j
  let lag := (s.emuTarget j - s.getInt R.EMU_COUNT_count j).natAbs
  let behind := on && decide (lag ≠ 0)
  let s := if (s.emu j).lagAt.isSome ∧ passedSince (s.emu j).lagAt 1001 s.now then s.setFlag R.EMU_STATUS_lag_seen true j else s
  let s := s.modEmu j fun e => { e with lagAt := if behind then some (e.lagAt.getD s.now) else none }
  let s := s.setFlag R.EMU_STATUS_lag behind j
  let s := if behind then s.set R.EMU_LAG_max_lag (max (s.get R.EMU_LAG_max_lag j) (min lag 65535)) j else s
  s.setFlag R.EMU_STATUS_low_conf
    (s.flag R.EMU_CFG_src_est j && decide (s.get R.SD_CONF_conf (tileOf (s.get R.EMU_CFG_tile j)) < 64)) j

/-- The levels of EAj and EBj for c mod 4 (R348, R369). -/
def emuLines (c : Int) : Nat :=
  match (Int.fmod c 4).toNat with
  | 0 => 0
  | 1 => 1
  | 2 => 3
  | _ => 2

/-- The pins of output `j` take the state of c: EAj and EBj, and with z_en EZj, H while c is a whole number of revolutions; a disabled
output drives L (R367, R369, R370). -/
def emuPins (s : State) (j : Fin 8) : State :=
  let c := s.getInt R.EMU_COUNT_count j
  let z := s.flag R.EMU_CFG_z_en j && decide (Int.fmod c (4 * s.get R.EMU_LINES_lines j) = 0)
  let v := if s.flag R.EMU_CFG_enable j then emuLines c + 4 * b2n z else 0
  s.modEmu j fun e => { e with pins := v }

/-- Put the emulated count at `c`: EMU_COUNT and the state of its pins (R369). Log: DEDUCED notes/assumptions/43.md. -/
def emuPut (s : State) (j : Fin 8) (c : Int) : State :=
  ((s.setInt R.EMU_COUNT_count c j).set R.EMU_STATUS_state (Int.fmod c 4).toNat j).emuPins j

/-- The position of a tile has changed without motion from `before` (32.32): bound ports re-base (R364), and a holding
output takes the change into its jump offset (R371). -/
def posJumped (s : State) (n : Fin 64) (before : Int) : State :=
  let d := s.pos32 n - before
  let s := allFeeds.foldl (fun (s : State) (k : Fin 16) => if s.get R.FB_AXIS_tile k = n.val then s.rebase k else s) s
  allEmus.foldl (fun (s : State) (j : Fin 8) =>
    if s.get R.EMU_CFG_tile j = n.val ∧ s.flag R.EMU_CFG_enable j then
      (if s.flag R.EMU_CFG_jump j then s else s.modEmu j fun e => { e with jump := e.jump + d }).emuShow j
    else s) s

end State
end Sys2Proof.Machine
end

