-- ==== Sys2Proof/Machine/PlanOps.lean ====
section
/-! DEFINITION. The planner's arithmetic (02_trails_and_profiles.md R49 to R62), targets and soft limits
(07_homing_and_limits.md R243, R246), position events (R71 to R74), reassignment (R238), group scale requests (R93 to
R95), and the start and the end of segments on a plan tick. -/

namespace Sys2Proof.Machine

/-! ### Limits in per-tick units (R50) -/

/-- One µstep in planner units. -/
def one70 : Int := 2 ^ 70

/-- J of R50, from a W5 jerk. -/
def jerkTick (jerk : Nat) : Nat := (roundDiv ((jerk : Int) * 16 * one70) (10 ^ 18)).toNat

/-- Am of R50, from µsteps/s². -/
def accTick (acc : Nat) : Nat := (roundDiv ((acc : Int) * one70) (10 ^ 12)).toNat

/-- Vm of R50, from the velocity format. -/
def velTick (vel : Nat) : Nat := (roundDiv ((vel : Int) * one70) (256 * 10 ^ 6)).toNat

/-- Limits of one tick (R49, R50). -/
structure Limits where
  j : Nat
  am : Nat
  vm : Nat
  deriving DecidableEq, Repr

/-- Acceleration, velocity and position of a profile (R49). -/
structure Motion where
  p : Int
  v : Int
  a : Int
  deriving DecidableEq, Repr

/-! ### The plan tick (R51, R52) -/

/-- Insert into a list that falls, without repeats. -/
def insertFalling (c : Int) : List Int → List Int
  | [] => [c]
  | d :: l => if c = d then d :: l else if d < c then c :: d :: l else d :: insertFalling c l

/-- The candidates of R51, high to low. -/
def candidates (lim : Limits) (af : Int) : List Int :=
  ([af + lim.j, af, af - lim.j, 0, (lim.am : Int), -(lim.am : Int)].filter fun c =>
    decide ((c - af).natAbs ≤ lim.j)).foldl (fun l c => insertFalling c l) []

/-- The velocity test of a candidate (R51). Log: DEDUCED notes/assumptions/8.md. -/
def velocityOk (lim : Limits) (vf c : Int) : Bool :=
  let c64 := b64Of c
  let rise := b64Div (b64Mul c64 (b64Abs c64)) (b64Mul (b64Of 2) (b64Of lim.j))
  b64Le (b64Abs (b64Add (b64Of (vf + c)) rise)) (b64Of lim.vm)

/-- The stop test of a candidate (R51); `df` is none when the segment has no target.
Log: DEDUCED notes/assumptions/8.md. -/
def stopOk (lim : Limits) (vf : Int) (df : Option Int) (wf c : Int) : Bool :=
  match df with
  | none => true
  | some d =>
    if vf + c ≤ 0 then true
    else b64Le (stopDist (b64Of (vf + c)) (b64Of c) (b64Of wf) (b64Of lim.j) (b64Of lim.am)) (b64Of (d - (vf + c)))

/-- Every test of a candidate (R51); the test of |c| compares the exact fixed-point values, as the comparisons between
candidates do. Log: DEDUCED notes/assumptions/8.md. -/
def candidateOk (lim : Limits) (af vf : Int) (df : Option Int) (wf c : Int) : Bool :=
  (decide (c.natAbs ≤ lim.am) || decide (c.natAbs < af.natAbs)) && velocityOk lim vf c && stopOk lim vf df wf c

/-- The first of a list nearest to `x`. -/
def nearest (x : Int) : List Int → Int
  | [] => x
  | [c] => c
  | c :: l => let d := nearest x l
    if (c - x).natAbs ≤ (d - x).natAbs then c else d

/-- The acceleration that R51 chooses, in the frame of s. -/
def chooseAcc (lim : Limits) (af vf : Int) (df : Option Int) (wf : Int) : Int :=
  let cand := candidates lim af
  match cand.find? (candidateOk lim af vf df wf) with
  | some c => c
  | none => nearest (if 0 < vf then -(lim.am : Int) else if vf < 0 then lim.am else 0) cand

/-- The bound of the landing test, 2^-16 (R51). -/
def landBound : Nat := 2 ^ 54

/-- The direction s of a tick (R51). -/
def tickSign (d v a : Int) : Int := if d ≠ 0 then d.sign else if v ≠ 0 then -v.sign else -a.sign

/-- The landing test of R51. -/
def lands (lim : Limits) (m : Motion) (t w : Int) : Bool :=
  decide ((t - m.p).natAbs ≤ landBound) && decide (m.v.natAbs ≤ landBound) && decide (m.a.natAbs ≤ lim.j) &&
    decide (w = 0)

/-- One tick's motion after the choice of an acceleration. -/
def advance (m : Motion) (a : Int) : Motion := ⟨m.p + (m.v + a), m.v + a, a⟩

/-- How a tick of R51 ended. -/
inductive TickEnd where
  | runs | landed | joint
  deriving DecidableEq, Repr

/-- One plan tick of R51: `t` is the target, none for a VELOCITY that runs on at `dir`; `w` the joint velocity. -/
def planStep (lim : Limits) (m : Motion) (t : Option Int) (dir w : Int) : Motion × TickEnd :=
  match t with
  | none => (advance m (dir * chooseAcc lim (dir * m.a) (dir * m.v) none 0), .runs)
  | some t =>
    if lands lim m t w then (⟨t, 0, 0⟩, .landed)
    else
      let s := tickSign (t - m.p) m.v m.a
      let wf := if 0 < s * w then s * w else 0
      let m' := advance m (s * chooseAcc lim (s * m.a) (s * m.v) (some (s * (t - m.p))) wf)
      (m', if w ≠ 0 ∧ s * (t - m'.p) ≤ 0 then .joint else .runs)

/-- The stopping point of R45, rounded away from the present position to 32.32. -/
def stoppingPoint (lim : Limits) (m : Motion) : Int :=
  let sg := if m.v ≠ 0 then m.v.sign else m.a.sign
  if sg = 0 then m.p
  else
    let sd := stopDist (b64Of (sg * m.v)) (b64Of (sg * m.a)) (b64Of 0) (b64Of lim.j) (b64Of lim.am)
    -- exact P + σ·d in units of 2^-70, then away from P to 2^-32
    let r : Rat := if 0 ≤ sd.e then (sd.m * 2 ^ sd.e.toNat : Int) else (sd.m : Rat) / (2 ^ (-sd.e).toNat : Nat)
    let x : Rat := ((m.p : Rat) + sg * r) / (p38 : Rat)
    -- on the side of P on which it lies; on σ's side where the distance is 0
    let up := if r = 0 then decide (0 < sg) else decide ((m.p : Rat) < x * (p38 : Rat))
    (if up then -(floorRat (-x)) else floorRat x) * p38

namespace State

/-! ### Effective limits (R50, R94, R217, R220) -/

/-- The motion that a tile plans: the path of a GROUP_MOVE, else the axis. -/
def motion (s : State) (n : Fin 64) : Motion :=
  let p := s.plan n
  match p.exec with
  | some e => if segType e.seg = 6 then ⟨p.path, p.v, p.a⟩ else ⟨p.p, p.v, p.a⟩
  | none => ⟨p.p, p.v, p.a⟩

/-- Magnitude of a segment's velocity limit in the present phase (R35, R238). -/
def segVel (g : Seg) (h : Option HomePhase) : Nat :=
  if segType g = 3 then (signed 32 g.w3).natAbs
  else if segType g = 5 then
    (match h with
     | some .release => g.w6
     | some .latch => g.w6
     | some .index => g.w6
     | _ => g.w3)
  else g.w3

/-- vel_eff of a segment (R50, R94). -/
def effVel (s : State) (n : Fin 64) (g : Seg) (h : Option HomePhase) : Nat :=
  if segType g = 6 then g.w3 * s.get R.GROUP_SCALE_scale_v n / 32768
  else min (segVel g h) (s.get R.PLAN_CAP_V_cap_v n)

/-- acc_eff of a segment (R50, R60, R94). -/
def effAcc (s : State) (n : Fin 64) (g : Seg) : Nat :=
  if segType g = 6 then max 1 (g.w4 * s.get R.GROUP_SCALE_scale_a n / 32768)
  else min g.w4 (max 1 (s.get R.PLAN_CAP_A_cap_a n))

/-- The limits of a segment that is not being braked by a policy. -/
def segLimits (s : State) (n : Fin 64) (g : Seg) (h : Option HomePhase) : Limits :=
  ⟨jerkTick g.w5, accTick (s.effAcc n g), velTick (s.effVel n g h)⟩

/-- The limits of the executing segment: while a policy brakes, acceleration and jerk are raised and PLAN_CAP_A does
not lower them (R217, R220). -/
def execLimits (s : State) (n : Fin 64) (e : Exec) : Limits :=
  let l := s.segLimits n e.seg (some e.home.phase)
  if e.accStop = 0 ∧ e.jerkStop = 0 then l
  else
    let acc := if segType e.seg = 6 then max (s.effAcc n e.seg) e.accStop else max e.seg.w4 e.accStop
    ⟨jerkTick (max e.seg.w5 e.jerkStop), accTick acc, l.vm⟩

/-! ### Targets (R40, R243, R246) -/

/-- A target in the 32.32 format of R13, rounded and saturated (R14), in planner units. -/
def satPos (t : Int) : Int := clampInt (-(2 ^ 63)) (2 ^ 63 - 1) (roundDiv t (2 ^ 38)) * p38

/-- A target resolved under the wrap (R246). -/
def wrapTarget (s : State) (n : Fin 64) (t : Int) : Int :=
  let m : Int := s.get R.POS_WRAP_modulus n * 2 ^ 32
  if m = 0 then t
  else
    let pr := s.pos32 n
    let d0 := Int.fmod (Int.fmod (Int.fdiv t p38) m - pr) m
    let d := match s.get R.WRAP_CTL_mode n with
      | 1 => d0
      | 2 => if d0 ≠ 0 then d0 - m else 0
      | _ => if 2 * d0 ≤ m then d0 else d0 - m
    (pr + d) * p38

/-- Soft limits act (R243). -/
def softActive (s : State) (n : Fin 64) : Bool :=
  s.flag R.SOFT_CTL_enable n && decide (s.getInt R.SOFT_LO_lo n < s.getInt R.SOFT_HI_hi n) &&
    !s.flag R.TILE_STATE_homing_required n && decide (s.get R.POS_WRAP_modulus n = 0)

/-- The target that soft limits allow (R243): clamped to the limit, or the present position when the move would lead
further out from outside. -/
def softClamp (s : State) (n : Fin 64) (t : Int) : Int :=
  if ¬ s.softActive n then t
  else
    let lo := s.getInt R.SOFT_LO_lo n * one70
    let hi := s.getInt R.SOFT_HI_hi n * one70
    let p := (s.plan n).p
    if hi < p ∧ p < t then p
    else if p < lo ∧ t < p then p
    else if hi < t then hi
    else if t < lo then lo
    else t

/-- Integer µsteps of a planner position. -/
def intOf (t : Int) : Int := Int.fdiv t one70

/-- The SOFT_LIMIT event (R478). -/
def softEvent (s : State) (n : Fin 64) (ptr : Nat) (asked clamped time : Int) : State :=
  s.eventAt time.toNat 0x12 n ([0, 0] ++ bytesLE 2 ptr ++ bytesLE 4 (wrapNat 32 (intOf asked))
    ++ bytesLE 4 (wrapNat 32 (intOf clamped)))

/-- Fix a target of the executing segment: clamp it, write the SOFT_LIMIT event of a clamp, and leave the planner
with it (R243). -/
def fixTarget (s : State) (n : Fin 64) (e : Exec) (t : Int) : State :=
  let c := s.softClamp n t
  let s := s.modPlan n fun p => { p with exec := some { e with target := some c, ownTarget := c,
                                                               clamp := if c ≠ t then some (t, c) else none } }
  if c ≠ t then s.softEvent n e.ptr t c s.now else s

/-! ### Joints (R61, R91) -/

/-- The segment behind the executing one, if placed. -/
def nextSeg (s : State) (n : Fin 64) : Option (Nat × Seg) :=
  if 2 ≤ s.trailCount n then
    let q := (s.head n + 1) % 2048
    some (q, s.segAt n q)
  else none

/-- The epoch of placement and the release time noted for a slot. -/
def slotNote (s : State) (n : Fin 64) (ptr : Nat) : Nat × Option Nat :=
  (((s.plan n).slots.find? fun q => decide (q.1 = ptr)).map (·.2)).getD (s.epoch, none)

/-- The present start of the executing segment's direction (R61). -/
def execDir (e : Exec) : Int := ((e.target.getD e.start) - e.start).sign

/-- Joint velocity magnitude in the velocity format and its conversion (R61). -/
def jointSpeed (pct v vNext : Nat) : Int := (velTick (pct * min v vNext / 100) : Int)

/-- L ≥ Am³/J² of R61, exactly. -/
def longEnough (len : Int) (lim : Limits) : Bool := decide ((lim.am : Int) ^ 3 ≤ len * (lim.j : Int) ^ 2)

/-- The end status with which slot `ptr` retires without starting, if it is so marked (R107, R691). -/
def dropped (s : State) (n : Fin 64) (ptr : Nat) : Option Nat :=
  ((s.plan n).discard.find? fun q => decide (q.1 = ptr)).map (·.2)

/-- The head segment is held back by the homing gate (R244). -/
def gated (s : State) (n : Fin 64) (g : Seg) : Bool :=
  s.flag R.SOFT_CTL_gate n && s.flag R.TILE_STATE_homing_required n && [1, 2, 3, 6].contains (segType g)

/-- The joint velocity w of this tick (R61, R91); the direction and the length of a following MOVE_ABS take its target as the
segment words give it, under a wrap too. A clamped segment whose end freezes the trail (R243) hands over to none. Log: DEDUCED notes/assumptions/10.md. -/
def jointVel (s : State) (n : Fin 64) (e : Exec) (tick : Nat) : Int :=
  if segBlend e.seg = 0 ∨ s.frozen n ∨ e.stop ≠ .none ∨ (e.clamp.isSome ∧ s.flag R.SOFT_CTL_freeze n) then 0
  else
    match s.nextSeg n with
    | none => 0
    | some (q, g) =>
      if s.gated n g ∨ (s.dropped n q).isSome then 0 else
      let lim := s.segLimits n g none
      let speed := jointSpeed (segBlend e.seg) (s.effVel n e.seg none) (s.effVel n g none)
      if segType e.seg = 6 then
        let rel := (s.slotNote n q).2.getD (2 ^ 64)
        if segType g = 6 ∧ segCond g = 0 ∧ bits g.w6 3 0 = bits e.seg.w6 3 0 ∧ bit g.w6 15 ∧ rel ≤ tick ∧
            longEnough (g.w2 * one70) lim then speed else 0
      else if ¬ segIsMove e.seg ∨ segCond g ≠ 0 then 0
      else
        let dir := execDir e
        let len := match segType g with
          | 1 => segPos g * p38 - e.ownTarget
          | 2 => segPos g * p38
          | _ => signed 32 g.w3
        if (segIsMove g ∨ segType g = 3) ∧ dir ≠ 0 ∧ len.sign = dir ∧ (segType g = 3 ∨ longEnough len.natAbs lim)
        then dir * speed else 0

/-! ### Start conditions (R37, R97) -/

/-- A tile has been energised for settle (R20, R37). -/
def settled (s : State) (n : Fin 64) (tick : Nat) : Bool :=
  decide ((s.tile n).cur.energisedAt + 100000 * s.get R.TILE_TIMEOUTS_settle n ≤ tick)

/-- The start condition of a segment in slot `ptr` is met for the tick that begins at `tick`. `atHead` holds for the
segment that stands at the head. In CONTEST no segment starts (R514). Log: DEDUCED notes/assumptions/40.md. -/
def condMet (s : State) (n : Fin 64) (ptr : Nat) (g : Seg) (tick : Nat) (atHead : Bool) : Bool :=
  decide (s.get R.USF_AUTH_state ≠ 3) && match segCond g with
  | 0 => if segType g = 6 ∧ bit g.w6 15 then decide ((s.slotNote n ptr).2.getD 0 ≤ tick) else true
  | 1 => decide ((s.slotNote n ptr).1 < s.epoch) ||
         (decide ((s.slotNote n ptr).1 = s.epoch) && decide (g.w6 + 2 ^ 32 * g.w7 ≤ tick))
  | 5 => bit g.w6 15 && decide ((s.slotNote n ptr).2.getD (2 ^ 64) ≤ tick)
  | _ => atHead && (s.plan n).condMet

/-- An AT_TIME segment is late on a tick when an earlier tick was already the first at or after its time (R38).
Log: DEDUCED notes/assumptions/40.md. -/
def isLate (s : State) (n : Fin 64) (ptr : Nat) (g : Seg) (tick : Nat) : Bool :=
  decide (segCond g = 1) && (decide ((s.slotNote n ptr).1 < s.epoch) ||
    decide (g.w6 + 2 ^ 32 * g.w7 + 1000 ≤ tick))

/-- The executing segment is held by RETRY or by lull_retry and may execute again on this tick (R77, R218), but not while the tile
de-energises (R128). -/
def retryReady (s : State) (n : Fin 64) (tick : Nat) : Bool :=
  (s.plan n).retry && !(s.tile n).cur.deenergising && decide (s.get R.USF_AUTH_state ≠ 3) && !s.frozen n && s.settled n tick

/-- The head segment may start on the tick that begins at `tick`, its tile energised and at rest or handing over
(R37); one that becomes startable while the tile de-energises waits for the next energising (R128). -/
def headReady (s : State) (n : Fin 64) (tick : Nat) : Bool :=
  let g := s.segAt n (s.head n)
  decide (0 < s.trailCount n) && !s.frozen n && (s.plan n).held.isNone && !(s.tile n).cur.deenergising && s.settled n tick &&
    (s.dropped n (s.head n)).isNone && !s.gated n g && s.condMet n (s.head n) g tick true

/-! ### Position events (R71 to R76) -/

/-- The side of a position: some false below the band, some true above, none inside (R71). -/
def bandSide (t h x : Int) : Option Bool := if x < t - h then some false else if t + h ≤ x then some true else none

/-- The side that a slot takes from a position when it is armed or the position is moved (R73). -/
def armedSide (dir : Nat) (t h x : Int) : Option Bool :=
  match bandSide t h x with
  | some b => some b
  | none => if dir = 1 then some false else if dir = 2 then some true else none

/-- Slot `k` of a tile. -/
def evtSlot (s : State) (n : Fin 64) (k : Fin 8) : EvtSlot := (s.tile n).evts[k]

/-- Replace slot `k` of a tile. -/
def setEvtSlot (s : State) (n : Fin 64) (k : Fin 8) (e : EvtSlot) : State :=
  s.modTile n fun t => { t with evts := t.evts.set k e }

/-- The eight slots. -/
def evtSlots : List (Fin 8) := [0, 1, 2, 3, 4, 5, 6, 7]

/-- Every armed slot takes its side from the present position, without firing (R58, R73, R247).
Log: DEDUCED notes/assumptions/26.md. -/
def retakeSides (s : State) (n : Fin 64) : State :=
  evtSlots.foldl (fun (s : State) (k : Fin 8) =>
    if s.fbit R.POS_EVT_STATUS_armed k n then
      s.setEvtSlot n k { s.evtSlot n k with
        side := armedSide (s.get (R.POS_EVT_CFG_dir.nth k) n) (s.getInt (R.POS_EVT_THR_threshold.nth k) n)
          (s.get (R.POS_EVT_CFG_band.nth k) n) (s.posInt n) }
    else s) s

/-- A firing of position-event slot `k` of tile `m` meets the ON_EVENT conditions that name it (R37). -/
def eventMeets (s : State) (m : Fin 64) (k : Fin 8) : State :=
  s.forTiles allTiles fun n s =>
    let g := s.segAt n (s.head n)
    if 0 < s.trailCount n ∧ (s.plan n).exec.isNone ∧ segCond g = 2 ∧ bits g.w6 5 0 = m.val ∧ bits g.w6 10 8 = k.val
    then s.modPlan n fun p => { p with condMet := true } else s

/-- Slot `k` fires in a direction: its record, its fired bit, its ON_EVENT segments, and a once slot disarms
(R72 to R74). -/
def firePosEvent (s : State) (n : Fin 64) (k : Fin 8) (rising : Bool) (time : Nat) : State :=
  let e := s.evtSlot n k
  let thr := ((if rising then e.rose else e.fell).getD time)
  let s := s.setBit R.POS_EVT_STATUS_fired k true n
  let s := if s.flag (R.POS_EVT_CFG_each.nth k) n then s else s.setBit R.POS_EVT_STATUS_armed k false n
  let s := s.setEvtSlot n k { e with rose := none, fell := none }
  let s := s.raiseLine n 2
  let s := s.eventAt time 0x11 n (bytesLE 1 k ++ bytesLE 1 (if rising then 1 else 2) ++ [0, 0]
    ++ bytesLE 4 (s.get R.POS_HI_pos_int n) ++ bytesLE 8 thr)
  s.eventMeets n k

/-- One slot at the end of a tick: the integer position was `old` at the end of the tick before and is `x` now (R71 to R74).
Log: DEDUCED notes/assumptions/26.md. -/
def stepPosEvent (s : State) (n : Fin 64) (k : Fin 8) (old x : Int) (time : Nat) : State :=
  if ¬ s.fbit R.POS_EVT_STATUS_armed k n then s
  else
    let e := s.evtSlot n k
    let t := s.getInt (R.POS_EVT_THR_threshold.nth k) n
    let e := { e with rose := if old < t ∧ t ≤ x then some time else e.rose
                      fell := if t ≤ old ∧ x < t then some time else e.fell }
    let new := bandSide t (s.get (R.POS_EVT_CFG_band.nth k) n) x
    let dir := s.get (R.POS_EVT_CFG_dir.nth k) n
    match new with
    | none => s.setEvtSlot n k e
    | some b =>
      let s := s.setEvtSlot n k { e with side := some b }
      if e.side = some (!b) ∧ dir.testBit (if b then 0 else 1) then s.firePosEvent n k b time else s

/-- Every slot at the end of a tick. -/
def stepPosEvents (s : State) (n : Fin 64) (time : Nat) : State :=
  evtSlots.foldl (fun (s : State) (k : Fin 8) => s.stepPosEvent n k (s.plan n).endInt (s.posInt n) time) s

/-- A stall cancels every armed slot (R76). -/
def cancelPosEvents (s : State) (n : Fin 64) (time : Nat) : State :=
  evtSlots.foldl (fun (s : State) (k : Fin 8) =>
    if s.fbit R.POS_EVT_STATUS_armed k n then
      let s := (s.setBit R.POS_EVT_STATUS_armed k false n).setBit R.POS_EVT_STATUS_cancelled k true n
      (s.raiseLine n 2).eventAt time 0x11 n (bytesLE 1 k ++ [0x80, 0, 0] ++ bytesLE 4 (s.get R.POS_HI_pos_int n) ++ bytesLE 8 0)
    else s) s

/-! ### Position changes that are not motion -/

/-- Reassign the position at a reference point Q, 32.32, to `homePos`, 32.32 (R238): HOME_LATCH takes Q, P and the
targets still to be reached shift, elec_off keeps the electrical index, armed slots take their sides again.
Log: DEDUCED notes/assumptions/34.md. -/
def reassign (s : State) (n : Fin 64) (q homePos : Int) : State :=
  let w := wrapNat 64 q
  let s := (s.set R.HOME_LATCH_LO_latch_frac (w % 2 ^ 32) n).set R.HOME_LATCH_HI_latch_int (w / 2 ^ 32) n
  let before := s.posInt n
  let was := s.pos32 n
  let sh := (homePos - q) * p38
  let s := s.modPlan n fun p => { p with
    p := p.p + sh,
    exec := p.exec.map fun e => { e with target := e.target.map (· + sh), ownTarget := e.ownTarget + sh,
                                         start := e.start + sh } }
  let s := s.syncPos n
  let adj := s.sigma n * (before - s.posInt n)
  let s := (s.set R.USTEP_CTL_elec_off (wrapNat 10 (s.get R.USTEP_CTL_elec_off n + adj)) n).refreshPhase n
  let s := s.posJumped n was
  s.retakeSides n

/-- The wrap at the end of a tick (R247): position, targets and stored base shift by M. -/
def wrapTick (s : State) (n : Fin 64) : State :=
  let m : Int := s.get R.POS_WRAP_modulus n * 2 ^ 32
  let pr := s.pos32 n
  if m = 0 ∨ (0 ≤ pr ∧ pr < m) then s
  else
    let sh := (if m ≤ pr then -m else m) * p38
    let s := s.modPlan n fun p => { p with
      p := p.p + sh,
      lastTarget := p.lastTarget.map (· + sh),
      exec := p.exec.map fun e => { e with target := e.target.map (· + sh), ownTarget := e.ownTarget + sh,
                                           start := e.start + sh } }
    ((s.syncPos n).posJumped n pr).retakeSides n

/-! ### Ends of segments on a tick -/

/-- After a retirement that leaves the axis at rest, the tile holds, unless its next segment starts on the next tick
(R22). Log: DEDUCED notes/assumptions/10.md. -/
def restAfterEnd (s : State) (n : Fin 64) (time : Nat) : State :=
  if s.st n = stMoving ∧ ¬ s.headReady n time ∧ ¬ (s.plan n).handover then s.goState n stHolding time else s

/-- Retire the executing segment at rest: freeze where the end asks for it, hold (R43, R78, R243).
Log: DEDUCED notes/assumptions/10.md. -/
def endAtRest (s : State) (n : Fin 64) (status : Nat) (e : Exec) (freezes : Bool) (time : Nat) : State :=
  let s := if freezes ∨ (e.clamp.isSome ∧ s.flag R.SOFT_CTL_freeze n) then s.freeze n else s
  let s := if freezes ∧ status = endObstructed then s.modForce n fun f => { f with froze := true } else s
  let s := s.modPlan n fun p => { p with v := 0, a := 0, handover := false }
  (s.retire n status (some e) time).restAfterEnd n time

/-- YIELD's current cap (R218). -/
def yieldCap (s : State) (n : Fin 64) : State :=
  let cap := s.get R.CUR_CAP_cap n
  let code := s.get R.FB_POLICY_yield_code n
  let s := s.modCur n fun c => { c with savedCurCap := some (c.savedCurCap.getD cap) }
  (s.putCap n (min cap code)).setFlag R.FB_STATUS_yield_active true n

/-- The end status of a segment that reached its target or joint: OBSTRUCTED on the member whose obstruction replaced the path's
target (R78, R101). -/
def goodStatus (s : State) (n : Fin 64) (e : Exec) (status : Nat) : Nat :=
  if segType e.seg = 6 ∧ (s.force n).groupAct = some 1 then endObstructed else status

/-- The YIELD policy's current cap and REVERSE's flush come with the end of the segment (R218). -/
def finishStop (s : State) (n : Fin 64) (e : Exec) (time : Nat) : State :=
  match e.stop with
  | .aborted => ((s.endAtRest n endAborted e true time).flushWaiting n 1024).restAfterEnd n time
  | .stopped => s.endAtRest n endStopped e true time
  | .obstructed => s.endAtRest n endObstructed e true time
  | .yielding =>
    -- in a group the obstructed member's current falls once it stands (R101)
    let s := if segType e.seg = 6 then s.yieldCap n else s
    s.endAtRest n endObstructed e true time
  | .reversing =>
    let s := if e.clamp.isSome ∧ s.flag R.SOFT_CTL_freeze n then s.freeze n else s
    let s := s.modPlan n fun p => { p with v := 0, a := 0 }
    ((s.retire n endObstructed (some e) time).flushWaiting n 1024).restAfterEnd n time
  | .retrying =>
    if segType e.seg = 6 then s.endAtRest n endObstructed e true time
    else (s.modPlan n fun p => { p with v := 0, a := 0, exec := none, held := some e }).modForce n fun f => { f with restedAt := s.now }
  | .durationEnd => s.endAtRest n endDone e false time
  | .none => s.endAtRest n (s.goodStatus n e endDone) e false time
  | .limit => s.endAtRest n endStopped e false time

/-- Bring the executing segment to its stopping point under its limits (R45). A MOVE that was clamped stays a clamped segment; a
VELOCITY loses the landing that would be its clamp (R243). -/
def brake (s : State) (n : Fin 64) (how : Stopping) (accStop jerkStop : Nat) : State :=
  match (s.plan n).exec with
  | none => s
  | some e =>
    let e := { e with stop := how, accStop := accStop, jerkStop := jerkStop,
                      clamp := if segIsMove e.seg then e.clamp else none }
    let t := stoppingPoint (s.execLimits n e) (s.motion n)
    s.modPlan n fun p => { p with exec := some { e with target := some t } }

/-! ### Homing (R238) -/

/-- Search direction of a HOME segment. -/
def homeDir (g : Seg) : Int := if bit g.w1 27 then -1 else 1

/-- A method before its first step, begun on a tick (R238, R248). -/
def homeFresh (tick : Nat) : HomeRun :=
  { phase := .idle, captured := none, toSearch := false, resting := false, switchSeen := false, fail := none, began := tick,
    formed := none }

/-- Code of a phase in HOME_STATUS (R237). -/
def phaseCode : HomePhase → Nat
  | .idle => 0
  | .search => 1
  | .release => 2
  | .latch => 3
  | .index => 4
  | .backOff => 5
  | .confirm => 6

/-- Begin a phase that moves by `dist` µsteps from the present position. -/
def homePhase (s : State) (n : Fin 64) (e : Exec) (ph : HomePhase) (dist : Int) : State :=
  let p := (s.plan n).p
  let t := satPos (p + dist * one70)
  let h := { e.home with phase := ph, captured := none, resting := false, switchSeen := false }
  (s.modPlan n fun q => { q with exec := some { e with home := h, target := some t, ownTarget := t, stop := .none,
                                                       accStop := 0, jerkStop := 0 } }).set
    R.HOME_STATUS_phase (phaseCode ph) n

/-- A method that cannot complete: ABORTED, the trail frozen, its result recorded (R239). -/
def homeFail (s : State) (n : Fin 64) (e : Exec) (result time : Nat) : State :=
  let s := (s.modPlan n fun p => { p with v := 0, a := 0 }).syncRates n 1 1
  s.endAtRest n endAborted { e with home := { e.home with fail := some result } } true time

/-- A method completes: reassign at Q and retire DONE (R238). -/
def homeDone (s : State) (n : Fin 64) (q homePos : Int) (time : Nat) : State :=
  let s := s.reassign n q homePos
  match (s.plan n).exec with
  | none => s
  | some e => s.endAtRest n endDone { e with home := { e.home with formed := some homePos } } false time

/-- The switch of a HOME segment is active (R234). -/
def switchActive (s : State) (g : Seg) : Bool :=
  s.portPin (Fin.ofNat 16 (bits g.w1 23 20)) (bits g.w1 25 24) != bit g.w1 19

/-- Sundial can take a stall decision: it is enabled, has ripple and a checked map (R156, R159, R167).
Log: DEDUCED notes/assumptions/34.md. -/
def stallUsable (s : State) (n : Fin 64) : Bool :=
  s.flag R.SD_CTL_enable n && s.flag R.RIPPLE_CTL_enable n && s.flag R.SD_STATUS_map_valid n

/-- The first step of a method (R238). -/
def homeStart (s : State) (n : Fin 64) (e : Exec) (time : Nat) : State :=
  let g := e.seg
  let far : Int := homeDir g * g.w7
  let pos := s.pos32 n
  match bits g.w1 31 28 with
  | 0 => s.homeDone n pos (signed 32 g.w2 * 2 ^ 32) time
  | 1 => s.homePhase n e .search far
  | 4 => s.homePhase n e .index far
  | 5 =>
    let force := s.get R.HOME_FORCE_force n
    let cap := s.get R.FB_FCAP_f_cap n
    if (force = 0 ∧ ¬ s.stallUsable n) ∨ (cap ≠ 0 ∧ cap ≤ force) then s.homeFail n e 0x01 time
    else if ¬ s.mechValid n then s.homeFail n e 0x08 time
    else s.homePhase n e .search far
  | 6 =>
    let unc := s.get R.RESTORE_UNC_unc n
    if unc = 2 ^ 32 - 1 then s.homeFail n e 0x04 time
    else if min 448 (s.get R.HOME_TOL_restore_tol n) < unc then s.homeFail n e 0x05 time
    else s.homePhase n e .confirm 0
  | _ =>
    if s.switchActive g then s.homePhase n { e with home := { e.home with toSearch := true } } .release (-far)
    else s.homePhase n e .search far

/-- A phase has come to rest after its edge or its distance (R238). -/
def homeRest (s : State) (n : Fin 64) (e : Exec) (time : Nat) : State :=
  let g := e.seg
  let far : Int := homeDir g * g.w7
  let home := signed 32 g.w2 * 2 ^ 32
  let method := bits g.w1 31 28
  match e.home.phase with
  | .search =>
    if ¬ e.home.resting then s
    else if method = 5 then s.homePhase n e .backOff (-homeDir g * s.get R.HOME_BACKOFF_backoff n)
    else s.homePhase n { e with home := { e.home with toSearch := false } } .release (-far)
  | .release =>
    if ¬ e.home.resting then s
    else if e.home.toSearch then s.homePhase n e .search far
    else if method = 3 then s.homePhase n e .index far
    else s.homePhase n e .latch far
  | .backOff => s.homeDone n (s.pos32 n) home time
  | _ => if e.home.resting then s.homeDone n (e.home.captured.getD (s.pos32 n)) home time else s

/-- The awaited edge or force: note the captured position and come to rest (R238). Log: DEDUCED notes/assumptions/34.md. -/
def homeCapture (s : State) (n : Fin 64) (e : Exec) (q : Option Int) (accStop jerkStop : Nat) : State :=
  let s := s.modPlan n fun p => { p with exec := some { e with home := { e.home with captured := q, resting := true } } }
  s.brake n .none accStop jerkStop

/-! ### Starting the head segment (R37 to R40, R87) -/

/-- The executing record of the head segment at its start. -/
def newExec (s : State) (n : Fin 64) (g : Seg) (tick : Nat) : Exec :=
  let p := s.plan n
  { ptr := s.head n, seg := g, target := none, ownTarget := p.p, start := p.p, base := s.pos32 n, ticks := 0,
    stop := .none, accStop := 0, jerkStop := 0, clamp := none,
    home := homeFresh tick,
    startTime := tick, startPos := s.posInt n, peakForce := 0, peakEnergy := 0, leastConf := 255, peakDelta := 0,
    peakVel := 0 }

/-- The target of a MOVE segment on its start tick (R40, R65, R246). -/
def moveTarget (s : State) (n : Fin 64) (g : Seg) : Int :=
  let p := s.plan n
  match p.headRepl with
  | some r => s.wrapTarget n r.target
  | none =>
    if segType g = 1 then s.wrapTarget n (segPos g * p38)
    else
      let base := if s.flag R.TRAIL_CTL_rel_base n then Int.fdiv p.p p38 * p38
                  else p.lastTarget.getD (Int.fdiv p.p p38 * p38)
      satPos (base + segPos g * p38)

/-- Limits of a replacement made before the start come into the segment (R65). -/
def replacedSeg (g : Seg) (l : Option (Nat × Nat × Nat)) : Seg :=
  match l with
  | some (v, a, j) => { g with w3 := v, w4 := a, w5 := j }
  | none => g

/-- Retire a segment that ends on its start tick. -/
def endOnStart (s : State) (n : Fin 64) (e : Exec) (time : Nat) : State := s.endAtRest n endDone e false time

/-- The work of a start tick by segment type. -/
def beginType (s : State) (n : Fin 64) (e : Exec) (joint : Option Int) (time : Nat) : State :=
  let g := e.seg
  match segType g with
  | 0 => s.endOnStart n e time
  | 1 => s.fixTarget n e (s.moveTarget n g)
  | 2 => s.fixTarget n e (s.moveTarget n g)
  | 3 =>
    if s.softActive n then
      let lim := if 0 < signed 32 g.w3 then s.getInt R.SOFT_HI_hi n * one70 else s.getInt R.SOFT_LO_lo n * one70
      let p := (s.plan n).p
      let t := if (0 < signed 32 g.w3 ∧ lim < p) ∨ (signed 32 g.w3 < 0 ∧ p < lim) then p else lim
      s.modPlan n fun q => { q with exec := some { e with target := some t, ownTarget := t, clamp := some (t, t) } }
    else s
  | 5 => (s.setFlag R.HOME_STATUS_busy true n).homeStart n { e with home := homeFresh (time - 1000) } time
  | 6 =>
    let base := (joint.map fun _ => (s.plan n).lastGroupEnd.getD (s.pos32 n)).getD (s.pos32 n)
    let e := { e with target := some (g.w2 * one70), ownTarget := g.w2 * one70, base := base, start := joint.getD 0 }
    let s := s.modPlan n fun q => { q with
      path := joint.getD 0, exec := some e, lastGroup := some g,
      groupRan := (bits g.w6 31 16, bits g.w6 14 4) :: q.groupRan.take 2047 }
    let s := ((s.setFlag R.GROUP_STATUS_waiting_start false n).setFlag R.GROUP_STATUS_ready false n).scaleRequest n
    if g.w2 = 0 then s.endOnStart n e time else s
  | _ => s

/-- The head segment starts on the tick that begins at `tick`. `joint` holds the path position that a BLENDED group
joint carries over (R91). -/
def startHead (s : State) (n : Fin 64) (tick : Nat) (joint : Option Int) : State :=
  let g0 := s.segAt n (s.head n)
  let g := replacedSeg g0 ((s.plan n).headRepl.bind (·.limits))
  let s := if s.isLate n (s.head n) g0 tick then s.setFlag R.TRAIL_STATUS_late_start true n else s
  let s := s.setFlag R.TILE_STATE_stalled false n
  let s := if s.st n = stMoving then s else s.goState n stMoving tick
  let e := s.newExec n g tick
  let s := s.modPlan n fun p => { p with exec := some e, handover := false, condMet := false, startedOn := some tick }
  let s := s.startCurrent n g.w0
  let lim := s.segLimits n g none
  let s := s.modPlan n fun p => { p with j := lim.j, am := lim.am, vm := lim.vm }
  (s.beginType n e joint (tick + 1000)).estimatorStart n false

/-- The held segment executes again from the present position toward its target (R77, R218); a HOME method restarts
from its first step (R248). -/
def restartHeld (s : State) (n : Fin 64) (h : Exec) (tick : Nat) : State :=
  let s := if s.st n = stMoving then s else s.goState n stMoving tick
  let s := s.setFlag R.TILE_STATE_stalled false n
  let p := (s.plan n).p
  let e := { h with target := if segIsMove h.seg then some h.ownTarget else none, start := p, ticks := 0, stop := .none,
                    accStop := 0, jerkStop := 0 }
  let s := s.modPlan n fun q => { q with exec := some e, held := none, retry := false, startedOn := some tick }
  let s := s.startCurrent n h.seg.w0
  (if segIsMove h.seg then s else s.beginType n e none (tick + 1000)).estimatorStart n true

/-- The tick on which a decision of this moment acts: the one in force, or the next when the tile has run it. -/
def actTick (s : State) (n : Fin 64) : Nat := if s.hasRun n then s.tickEnd else s.tickStart

/-- A hand-over that is decided and whose next segment has not yet started starts it, so that a stop takes the new
segment (R69); a freeze that comes after the decision does not undo it. Log: DEDUCED notes/assumptions/10.md. -/
def settleHandover (s : State) (n : Fin 64) : State :=
  let p := s.plan n
  if p.handover then
    s.startHead n (s.actTick n) (if segType (s.segAt n (s.head n)) = 6 then some p.path else none)
  else s

/-- The head segment at the start of a tick (R37, R38, R107, R244); once the tile has run the tick nothing starts on it (R26). -/
def startDue (s : State) (n : Fin 64) (tick : Nat) : State :=
  let ptr := s.head n
  let g := s.segAt n ptr
  if s.hasRun n then s
  else if (s.plan n).handover then s.settleHandover n
  else match (s.plan n).held with
  | some h => if s.retryReady n tick ∧ (s.st n = stHolding ∨ s.st n = stMoving) then s.restartHeld n h tick else s
  | none =>
  if s.trailCount n = 0 ∨ s.frozen n ∨ (s.plan n).exec.isSome ∨ s.walking n then s
  else match s.dropped n ptr with
  | some status => s.retire n status none tick
  | none =>
  if s.gated n g then
    let s := s.retire n endFlushed none tick
    (s.freeze n).eventAt tick 0x13 n ([0, 0] ++ bytesLE 2 ptr)
  else if s.isLate n ptr g tick ∧ s.flag R.TRAIL_CTL_freeze_on_late n then
    (s.retire n endLateStart none tick).freeze n
  else if (s.st n = stHolding ∨ s.st n = stMoving) ∧ s.headReady n tick then s.startHead n tick none
  else s

/-! ### One tick of the executing segment -/

/-- The tick in force ends at the present P (R56). -/
def noteRun (s : State) (n : Fin 64) : State :=
  s.modPlan n fun p => { p with ran := p.ran.map fun r => (r.1, r.2.1, s.pos32 n) }

/-- Write the new axis state of a tick: P, V, A, and for a GROUP_MOVE the path and the member's share (R56, R89,
R90), with the epoch and seq that its plan checksum names (R103). Log: DEDUCED notes/assumptions/101.md. -/
def putMotion (s : State) (n : Fin 64) (e : Exec) (m : Motion) : State :=
  if segType e.seg = 6 then
    let sr := Int.fdiv m.p p38
    let d := signed 32 e.seg.w1
    let q := Int.fdiv (d * sr) e.seg.w2
    let s := s.modPlan n fun p => { p with
      path := m.p, v := m.v, a := m.a, p := (e.base + q) * p38,
      groupRun := some (s.tickEnd, bits e.seg.w6 31 16, bits e.seg.w6 14 4) }
    let w := wrapNat 64 sr
    let s := (s.set R.GROUP_PATH_LO_path_frac (w % 2 ^ 32) n).set R.GROUP_PATH_HI_path_int (w / 2 ^ 32) n
    ((s.syncPos n).syncRates n d e.seg.w2).noteRun n
  else (((s.modPlan n fun p => { p with p := m.p, v := m.v, a := m.a }).syncPos n).syncRates n 1 1).noteRun n

/-- What a segment's landing means (R55, R238, R243). -/
def landed (s : State) (n : Fin 64) (e : Exec) (time : Nat) : State :=
  if segType e.seg = 5 ∧ e.stop = .none then s.homeRest n e time
  else if segType e.seg = 3 ∧ e.stop = .none then
    (s.softEvent n e.ptr e.ownTarget e.ownTarget time).finishStop n { e with stop := .limit } time
  else s.finishStop n e time

/-- A joint: BLENDED, and the next segment starts on the following tick from the same P, V and A (R62, R91). -/
def blended (s : State) (n : Fin 64) (e : Exec) (time : Nat) : State :=
  let s := s.retire n (s.goodStatus n e endBlended) (some e) time
  if segType e.seg = 6 then
    s.modPlan n fun p => { p with handover := true, path := p.path - e.seg.w2 * one70,
                                  lastGroupEnd := some (e.base + signed 32 e.seg.w1 * 2 ^ 32) }
  else s.modPlan n fun p => { p with handover := true }

/-- A VELOCITY that is not stopping hands over to, or brakes for, the next segment whose condition is met (R55); for a late
segment that will freeze the trail (R38) it brakes. Log: DEDUCED notes/assumptions/40.md. -/
def velocityOver (s : State) (n : Fin 64) (e : Exec) (time : Nat) : State :=
  if segType e.seg ≠ 3 ∨ e.stop ≠ .none ∨ s.frozen n then s
  else
    match s.nextSeg n with
    | none => s
    | some (q, g) =>
      if ¬ s.condMet n q g time (segCond g = 3 || segCond g = 4) then s
      else if s.isLate n q g time ∧ s.flag R.TRAIL_CTL_freeze_on_late n then s.brake n .durationEnd 0 0
      else if (segIsMove g ∨ segType g = 3) ∧ ¬ s.gated n g ∧ (s.dropped n q).isNone then s.blended n e time
      else s.brake n .durationEnd 0 0

/-- One tick of the executing segment: R51 on its motion, position events, then its end. -/
def runTick (s : State) (n : Fin 64) (e : Exec) (tick : Nat) : State :=
  let time := tick + 1000
  let lim := s.execLimits n e
  let w := s.jointVel n e tick
  let dir := (signed 32 e.seg.w3).sign
  let r := planStep lim (s.motion n) e.target dir w
  let s := s.modPlan n fun p => { p with j := lim.j, am := lim.am, vm := lim.vm }
  let s := s.putMotion n e r.1
  let e := { e with ticks := e.ticks + 1, peakVel := max e.peakVel (s.getInt R.VEL_vel n).natAbs }
  let s := s.modPlan n fun p => { p with exec := some e }
  let s := s.movingTick
  let s := s.stepPosEvents n time
  match r.2 with
  | .landed => s.landed n e time
  | .joint => s.blended n e time
  | .runs => s.velocityOver n e time

end State
end Sys2Proof.Machine
end

