-- ==== Sys2Proof/Machine/GroupOps.lean ====
section
/-! DEFINITION. Shared operations of trail commands and of group commands: freezing and unfreezing, stops, flushes,
replacements (02_trails_and_profiles.md R43 to R45, R64 to R66, 03_coordinated_motion.md R99, R100). -/

namespace Sys2Proof.Machine
namespace State

/-- TRAIL_STATUS.cmd_refused (R44). -/
def refuseCmd (s : State) (n : Fin 64) : State := s.setFlag R.TRAIL_STATUS_cmd_refused true n

/-- A GROUP_MOVE executes on the tile, or takes over at a joint on the next tick (R62, R91). -/
def runsGroup (s : State) (n : Fin 64) : Bool :=
  match (s.plan n).exec with
  | some e => decide (segType e.seg = 6)
  | none => (s.plan n).handover && decide (segType (s.segAt n (s.head n)) = 6)

/-- Release the freeze (R79); the current cap that YIELD replaced returns unless it was written since (R218); an Idle
tile with a segment waiting energises (R22). -/
def unfreeze (s : State) (n : Fin 64) : State :=
  let s := if s.frozen n then s.modCur n fun c => { c with thawedAt := s.now } else s
  let s := (s.setFlag R.TILE_STATE_trail_frozen false n).modForce n fun f => { f with froze := false }
  let s := match (s.tile n).cur.savedCurCap with
    | some c => s.putCap n c
    | none => s
  let s := (s.modCur n fun c => { c with savedCurCap := none }).setFlag R.FB_STATUS_yield_active false n
  s.energiseIfDue n

/-- A tile still Moving with nothing executing, held or handed over holds, since its next segment starts on no coming tick
(R69: DONE and STOP in one tick). -/
def restIfDone (s : State) (n : Fin 64) : State :=
  if (s.plan n).exec.isNone ∧ (s.plan n).held.isNone ∧ ¬ s.walking n then s.restAfterEnd n s.tickEnd else s

/-- Replacements of the same tick are refused after all when a STOP or ABORT comes (R69). -/
def undoReplace (s : State) (n : Fin 64) : State :=
  match (s.plan n).replaced with
  | none => s
  | some r =>
    let s := s.modPlan n fun p => { p with replaced := none }
    if r.tick ≠ s.tickStart then r.refs.foldl (fun (s : State) (c : CmdRef) => s.complete c 0x00) s
    else
      let s := (s.modPlan n fun p => { p with exec := r.exec, headRepl := r.headRepl }).setFlag R.TRAIL_STATUS_replace_refused true n
      r.refs.foldl (fun (s : State) (c : CmdRef) => s.complete c 0x08) s

/-- The next plan tick makes the replacements accepted before it good, and their descriptors complete (R65). -/
def keepReplace (s : State) (n : Fin 64) : State :=
  match (s.plan n).replaced with
  | none => s
  | some r => r.refs.foldl (fun (s : State) (c : CmdRef) => s.complete c 0x00) (s.modPlan n fun p => { p with replaced := none })

/-- STOP or ABORT on one tile (R45): freeze, then bring the executing segment to its stopping point; with none
executing, ABORT flushes at once. A segment that RETRY holds at rest ends there, and in the tick in which a policy acts
STOP only freezes (R231). Log: DEDUCED notes/assumptions/27.md. -/
def stopTile (s : State) (n : Fin 64) (abort : Bool) (accStop jerkStop : Nat) (how : Stopping := .stopped) : State :=
  let s := (((s.settleHandover n).undoReplace n).freeze n).modPlan n fun p => { p with stoppedOn := some s.tickStart }
  match (s.plan n).exec with
  | some e =>
    if ¬ abort ∧ (s.force n).acted then s
    else s.brake n (if abort ∨ e.stop = .aborted then .aborted else how) accStop jerkStop
  | none =>
    let time := s.tickStart
    let s := match s.restingRetry n with
      | some e => s.endAtRest n (if abort then endAborted else endStopped) e true time
      | none => s
    (if abort then s.flushWaiting n 1024 else s).restIfDone n

/-- The commands of a group as GROUP_CMD codes them (R466). -/
def gcStop : Nat := 0x01
def gcAbort : Nat := 0x02
def gcFreeze : Nat := 0x04
def gcResume : Nat := 0x05
def gcReplace : Nat := 0x08

/-- Issue a group command on this device: it applies on every member on one tick, chosen as for a scale request
(R95, R99), and is sent to the other member devices. -/
def issueGroupCmd (s : State) (k cmd : Nat) (target : Int) (accStop jerkStop : Nat) (ref : Option CmdRef := none) :
    State :=
  match s.group k with
  | none => s
  | some g =>
    if s.spread g ∧ s.stepHolds then s.waitStep (.cmd k cmd target accStop jerkStop ref) else
    let apply := if s.spread g then tickAtOrAfter (s.tickStart + leadNs g) else s.tickEnd
    let s := s.setGroup k (some { g with cmds := g.cmds ++
      [{ cmd := cmd, target := target, apply := apply, accStop := accStop, jerkStop := jerkStop, ref := ref }] })
    let body := bytesLE 2 g.tag ++ bytesLE 1 cmd ++ [0] ++ bytesLE 4 (wrapNat 32 target) ++ bytesLE 8 apply
    g.devices.foldl (fun (s : State) d =>
      if d.1 = s.ownRoute ∧ d.2 = s.ownDepth then s else s.sendRouted 0x86 d.1 d.2 body) s

/-- FREEZE (R43); on a tile that executes a GROUP_MOVE it becomes the group command (R99). -/
def freezeCmd (s : State) (n : Fin 64) : Bool × State :=
  if s.runsGroup n then (true, s.issueGroupCmd (s.get R.GROUP_CFG_slot n) gcFreeze 0 0 0)
  else (true, (s.freeze n).restIfDone n)

/-- STOP or ABORT as a trail command (R43, R45, R99). -/
def stopCmd (s : State) (n : Fin 64) (abort : Bool) : Bool × State :=
  if s.runsGroup n then
    (true, s.issueGroupCmd (s.get R.GROUP_CFG_slot n) (if abort then gcAbort else gcStop) 0 0 0)
  else (true, s.stopTile n abort 0 0)

/-- Segments placed since the last plan tick, within the tick in force (R69). -/
def placedNow (s : State) (n : Fin 64) : Nat := if (s.plan n).placed.1 = s.tickStart then (s.plan n).placed.2 else 0

/-- FLUSH (R43, R44); segments placed in the same tick stay (R69). -/
def flushCmd (s : State) (n : Fin 64) : Bool × State :=
  if s.st n = stMoving then (false, s.refuseCmd n)
  else (true, s.flushWaiting n (s.trailCount n - s.placedNow n))

/-- RESUME (R43, R44, R77): a segment held by lull_retry retires with LULL. -/
def resumeCmd (s : State) (n : Fin 64) : Bool × State :=
  if s.st n = stLull ∨ s.st n = stFault ∨ s.runsGroup n then (false, s.refuseCmd n)
  else
    match (s.plan n).held with
    | some e => if e.stop = .none then (true, (s.retire n endLull (some e) s.now).unfreeze n) else (true, s.unfreeze n)
    | none => (true, s.unfreeze n)

/-- RESUME_RETRY (R43, R44, R77). -/
def resumeRetryCmd (s : State) (n : Fin 64) : Bool × State :=
  if s.st n = stLull ∨ s.st n = stFault ∨ s.runsGroup n then (false, s.refuseCmd n)
  else
    match (s.plan n).held with
    | some e =>
      if e.stop = .none then (true, (s.modPlan n fun p => { p with retry := true }).unfreeze n)
      else (false, s.refuseCmd n)
    | none => (false, s.refuseCmd n)

/-- A walk comes to rest at a stop: it reports Holding (R196), with no rate planned. -/
def walkRest (s : State) (n : Fin 64) : State :=
  let s := (s.modPlan n fun p => { p with v := 0, a := 0 }).syncRates n 1 1
  if s.st n = stMoving then s.goState n stHolding s.tickEnd else s

/-- A walk fails with a result (R195, R196): the axis stands where it is. -/
def walkFail (s : State) (n : Fin 64) (result : Nat) : State := (s.walkRest n).walkEnd n result

/-- A trail command aborts a map walk (R196); a pass it cuts leaves the tile Holding. -/
def walkAbortHold (s : State) (n : Fin 64) : State :=
  if s.walking n then
    let s := s.walkAbort n
    if s.st n = stMoving then s.goState n stHolding s.now else s
  else s

/-- A trail command that R44 refuses, which changes nothing. -/
def trailRefused (s : State) (n : Fin 64) (cmd : Nat) : Bool :=
  match cmd with
  | 0 | 1 | 2 | 4 => false
  | 3 => decide (s.st n = stMoving)
  | 5 => !(s.resumeCmd n).1
  | 6 => !(s.resumeRetryCmd n).1
  | _ => true

/-- A trail command by its code (R43, R44); false when it is refused. -/
def trailCmd (s : State) (n : Fin 64) (cmd : Nat) : Bool × State :=
  let s := if cmd = 0 ∨ s.trailRefused n cmd then s else s.walkAbortHold n
  match cmd with
  | 0 => (true, s)
  | 1 => s.stopCmd n false
  | 2 => s.stopCmd n true
  | 3 => s.flushCmd n
  | 4 => s.freezeCmd n
  | 5 => s.resumeCmd n
  | 6 => s.resumeRetryCmd n
  | _ => (false, s.refuseCmd n)

/-! ### Replacement (R64 to R66) -/

/-- The limits of a replacement pass R39. -/
def limitsOk (l : Option (Nat × Nat × Nat)) : Bool :=
  match l with
  | some (v, a, j) => decide (0 < v) && decide (v < 2 ^ 31) && decide (0 < a) && decide (0 < j)
  | none => true

/-- A refused replacement: TRAIL_STATUS.replace_refused, with its completion status. -/
def refuseReplace (s : State) (n : Fin 64) (status : Nat) : Nat × State :=
  (status, s.setFlag R.TRAIL_STATUS_replace_refused true n)

/-- `ptr` names a retired segment of the trail: one of the 1,024 pointers behind the head, also where the trail has not yet
held as many. Log: DESIGN CHOICE notes/assumptions/100.md. -/
def retiredPtr (s : State) (n : Fin 64) (ptr : Nat) : Bool :=
  let back := (s.head n + 2048 - ptr % 2048) % 2048
  decide (1 ≤ back) && decide (back ≤ 1024)

/-- What a replacement replaces is kept until the next plan tick (R69); `ref` waits for it. -/
def noteReplaced (s : State) (n : Fin 64) (ref : Option CmdRef) : State :=
  s.modPlan n fun p =>
    let r := match p.replaced with
      | some r => if r.tick = s.tickStart then r else { r with tick := s.tickStart, exec := p.exec, headRepl := p.headRepl }
      | none => { tick := s.tickStart, exec := p.exec, headRepl := p.headRepl, refs := [] }
    { p with replaced := some { r with refs := r.refs ++ ref.toList } }

/-- Replace the target, and the limits if given, of a MOVE segment (R65); with a STOP of the same tick it is refused (R69).
Answers a completion status of R472; an accepted one completes `ref` on the next plan tick.
Log: DEDUCED notes/assumptions/106.md. -/
def replaceTarget (s : State) (n : Fin 64) (ptr : Nat) (target : Int) (lim : Option (Nat × Nat × Nat))
    (ref : Option CmdRef := none) : Nat × State :=
  if s.retiredPtr n ptr then s.refuseReplace n 0x07
  else if (s.plan n).stoppedOn = some s.tickStart ∨ ¬ limitsOk lim ∨ s.runsGroup n ∨ ptr ≠ s.head n ∨ s.trailCount n = 0 ∨ (s.plan n).held.isSome then
    s.refuseReplace n 0x08
  else
    match (s.plan n).exec with
    | some e =>
      if ¬ segIsMove e.seg ∨ e.stop ≠ .none then s.refuseReplace n 0x08
      else (0x00, (s.noteReplaced n ref).fixTarget n { e with seg := replacedSeg e.seg lim } (s.wrapTarget n (target * p38)))
    | none =>
      if ¬ segIsMove (s.segAt n ptr) then s.refuseReplace n 0x08
      else
        let old := (s.plan n).headRepl.bind (·.limits)
        (0x00, (s.noteReplaced n ref).modPlan n fun p => { p with
          headRepl := some { ptr := ptr, target := target * p38, limits := lim.or old } })

/-! ### A group command on the members (R99, R100) -/

/-- How a group STOP ends a member's segment: the member whose obstruction asked for it retires OBSTRUCTED (R78, R101). -/
def groupHow (s : State) (m : Fin 64) : Stopping :=
  match (s.force m).groupAct with
  | none => .stopped
  | some 2 => .yielding
  | some 3 => .retrying
  | some _ => .obstructed

/-- One group command acts on one member, with the completion status it gives. -/
def groupCmdOn (s : State) (m : Fin 64) (c : GroupCmd) : Nat × State :=
  if c.cmd = gcStop then (0x00, s.stopTile m false c.accStop c.jerkStop (s.groupHow m))
  else if c.cmd = gcAbort then (0x00, s.stopTile m true c.accStop c.jerkStop)
  else if c.cmd = gcFreeze then (0x00, s.freeze m)
  else if c.cmd = gcResume then
    (if s.st m = stLull ∨ s.st m = stFault then (0x08, s.refuseCmd m) else (0x00, s.unfreeze m))
  else
    let s := if s.runsGroup m then s.settleHandover m else s
    match (s.plan m).exec with
    | some e =>
      if segType e.seg = 6 ∧ e.stop = .none then
        (0x00, s.modPlan m fun p => { p with exec := some { e with target := some (c.target * one70),
                                                                   accStop := c.accStop, jerkStop := c.jerkStop } })
      else s.refuseReplace m 0x08
    | none => s.refuseReplace m 0x07

/-- A group command acts on every local member; the worst status answers its descriptor. -/
def groupCmdAll (s : State) (k : Nat) (c : GroupCmd) : State :=
  let r := (s.localMembers k).foldl (fun (a : Nat × State) (m : Fin 64) =>
    let r := a.2.groupCmdOn m c
    (max a.1 r.1, r.2)) (0, s)
  match c.ref with
  | some ref => r.2.complete ref r.1
  | none => r.2

/-- The order of group commands on one tick (R100). -/
def cmdOrder : List Nat := [gcAbort, gcStop, gcFreeze, gcReplace, gcResume]

/-- The group commands due on the tick that begins at `tick` act on every local member, after a scale that applies on it (R99,
R100). Log: DEDUCED notes/assumptions/33.md. -/
def applyGroupCmds (s : State) (k tick : Nat) : State :=
  match s.group k with
  | none => s
  | some g =>
    let s := s.applyScale k tick
    let due := g.cmds.filter fun c => decide (c.apply ≤ tick)
    let s := s.setGroup k (some { g with cmds := g.cmds.filter fun c => decide (tick < c.apply) })
    cmdOrder.foldl (fun (s : State) code =>
      (due.filter fun c => decide (c.cmd = code)).foldl (fun (s : State) c =>
        s.groupCmdAll k c) s) s

end State
end Sys2Proof.Machine
end

