-- ==== Sys2Proof/Machine/SundialOps.lean ====
section
/-! DEFINITION. Sundial's arithmetic and decisions (05_sundial.md R155 to R190) and the map walk (R191 to R196). The
procedures are evaluated in binary64, the reference of R162 and R169 to R172; R200 gives other devices tolerances around it
(notes/assumptions/14.md). -/

namespace Sys2Proof.Machine

/-! ### Fitting a cycle (R161 to R163) -/

/-- A run of samples with one tag (R161): its start index, its tag, its numbered codes. -/
structure SdRun where
  start : Nat
  tag : Nat
  pts : List (Nat × Int)
  deriving DecidableEq, Repr

/-- A valid fit of a cycle (R162), in SI units; `sp`, `sq` are in A/s. -/
structure SdFit where
  lm : Rat
  e : Rat
  im : Rat
  up : Rat
  uq : Rat
  sp : Rat
  sq : Rat
  ip : Rat
  iq : Rat
  deriving DecidableEq, Repr

/-- Split numbered samples into maximal runs of one tag other than 0b11 (R161). -/
def sdRuns : Nat → List Sample → List SdRun
  | _, [] => []
  | k, x :: l =>
    let rest := sdRuns (k + 1) l
    if x.tag % 4 = 3 then rest
    else match rest with
      | r :: rs => if r.start = k + 1 ∧ r.tag = x.tag then { r with start := k, pts := (k, x.code) :: r.pts } :: rs
                   else { start := k, tag := x.tag, pts := [(k, x.code)] } :: r :: rs
      | [] => [{ start := k, tag := x.tag, pts := [(k, x.code)] }]

/-- The site time of the gate edge that began a run (R161). -/
def sdRunEdge (c : Cycle) (r : SdRun) : Nat :=
  ((c.edges.filter fun e => decide (e.sample ≤ r.start)).getLast?.map (·.time)).getD 0

/-- Samples nearer than ring_ns to the edge that began the run are dropped (R161). -/
def sdTrim (c : Cycle) (ring : Nat) (r : SdRun) : SdRun :=
  let t := sdRunEdge c r
  { r with pts := r.pts.filter fun p =>
      decide (6 * (t + ring) ≤ ((c.samples.drop p.1).head?.map (·.time)).getD 0) }

/-- A binary64 sum, from the left. -/
def f64Sum (l : List Rat) : Rat := l.foldl f64Add 0

/-- Slope and mean of a run's samples multiplied by dir (R162). -/
def sdLine (dir : Int) (r : SdRun) : Rat × Rat :=
  let n : Rat := r.pts.length
  let kbar := f64Div ((r.pts.map fun p => p.1).sum : Nat) n
  let xbar := f64Div (dir * (r.pts.map fun p => p.2).sum : Int) n
  let dk (p : Nat × Int) : Rat := f64Sub p.1 kbar
  let num := f64Sum (r.pts.map fun p => f64Mul (dk p) (f64Sub (dir * p.2 : Int) xbar))
  let den := f64Sum (r.pts.map fun p => f64Mul (dk p) (dk p))
  (f64Div num den, xbar)

/-- The applied voltage of a run in the phase's direction frame (R161). -/
def sdVolts (vm : Rat) (tag : Nat) : Rat := if tag = 1 then vm else if tag = 2 then -vm else 0

/-- The longest run of a list, the earliest on a tie. -/
def sdLongest : List SdRun → Option SdRun
  | [] => none
  | r :: l => match sdLongest l with
    | none => some r
    | some q => if q.pts.length ≤ r.pts.length then some r else some q

/-- What a fit takes from the tile: direction, bridge supply in V, amps per code, amps per second per code per sample,
loop resistance in Ω, ring_ns, cable inductance in H. -/
structure SdFitIn where
  dir : Int
  vm : Rat
  gi : Rat
  gs : Rat
  rt : Rat
  ring : Nat
  lCable : Rat
  deriving DecidableEq, Repr

/-- The fit of a cycle (R162). Log: DEDUCED notes/assumptions/24.md. -/
def sdFit (q : SdFitIn) (c : Cycle) : Option SdFit :=
  let runs := ((sdRuns 0 c.samples).map (sdTrim c q.ring)).filter fun r => decide (8 ≤ r.pts.length)
  match sdLongest (runs.filter fun r => decide (0 < sdVolts q.vm r.tag)) with
  | none => none
  | some p =>
    let up := sdVolts q.vm p.tag
    match sdLongest (runs.filter fun r => decide (sdVolts q.vm r.tag < up)) with
    | none => none
    | some r =>
      let uq := sdVolts q.vm r.tag
      let lp := sdLine q.dir p
      let lq := sdLine q.dir r
      let ds := f64Mul (f64Sub lp.1 lq.1) q.gs
      let du := f64Sub up uq
      if ds ≤ 0 ∨ du < 1 then none
      else
        let lfit := f64Div du ds
        let lm := f64Sub lfit q.lCable
        if lm < r64 (10 / 1000000) ∨ r64 (65534 / 1000000) < lm then none
        else
          let ip := f64Mul lp.2 q.gi
          let iq := f64Mul lq.2 q.gi
          let part (u i s : Rat) : Rat := f64Sub (f64Sub u (f64Mul q.rt i)) (f64Mul (f64Mul lfit s) q.gs)
          some { lm := lm, e := q.dir * f64Add (part up ip lp.1) (part uq iq lq.1) / 2, im := q.dir * f64Add ip iq / 2,
                 up := up, uq := uq, sp := f64Mul lp.1 q.gs, sq := f64Mul lq.1 q.gs, ip := ip, iq := iq }

/-- A signed 16-bit wrap. -/
def wrap16 (i : Int) : Int := signed 16 (wrapNat 16 i)

/-- A rational held to an interval. -/
def clampRat (lo hi v : Rat) : Rat := if v < lo then lo else if hi < v then hi else v

/-- Truncation of a rational toward zero. -/
def truncRat (q : Rat) : Int := Int.tdiv q.num q.den

/-- Circular distance of two hypotheses (R175). -/
def hypDistance (a b : Nat) : Nat := min ((a + 64 - b) % 64) ((b + 64 - a) % 64)

/-- U in slips: nearest, ties toward zero (R185). -/
def slipCount (u : Int) : Int :=
  let m : Int := ((u.natAbs + 32767) / 65536 : Nat)
  u.sign * m

namespace State

/-- A quotient of R163 or R193; a denominator of 0 leaves a free value. Log: DESIGN CHOICE notes/assumptions/98.md. -/
def quotient (s : State) (num den : Rat) : Rat × State :=
  if den = 0 then
    let r := s.fresh
    ((signed 64 r.1 : Rat) / 65536, r.2)
  else (num / den, s)

/-- Loop resistance that one fit shows at standstill, Ω (R163). Log: DEDUCED notes/assumptions/24.md. -/
def sdResistance (s : State) (f : SdFit) : Rat × State :=
  s.quotient (f.up * f.sq - f.uq * f.sp) (f.ip * f.sq - f.iq * f.sp)

/-! ### Mode (R178 to R180) -/

/-- The mode that R178 names now. Log: DEDUCED notes/assumptions/24.md. -/
def sdMode (s : State) (n : Fin 64) : Nat :=
  let st := s.st n
  let lent := !s.flag R.SD_STATUS_borrowing n && allTiles.any fun m =>
    s.flag R.SD_STATUS_borrowing m && decide (s.get R.SD_STATUS_peer m = n.val) && decide (m ≠ n)
  if ¬ s.flag R.SD_CTL_enable n ∨ st = stFault ∨ ((st = stAsleep ∨ st = stIdle) ∧ ¬ lent) then 0
  else if (st = stAsleep ∨ st = stIdle) ∧ lent then 3
  else if s.walking n then 4
  else if s.flag R.SD_STATUS_grant n ∧ ¬ s.flag R.SD_STATUS_rate_60 n then 1
  else 2

/-- A score of REDUCED's inactive hypotheses on the change to FULL (R179). -/
def fillScore (j : Vector Nat 64) (h : Nat) : Nat :=
  let at_ (k : Nat) : Nat := j.toList.getD (k % 64) 0
  if h % 4 = 0 then at_ h else (at_ (h / 4 * 4) + at_ (h / 4 * 4 + 4)) / 2

/-- The mode that applies from this update (R178, R179). -/
def sdEnterMode (s : State) (n : Fin 64) : State :=
  let old := s.get R.SD_STATUS_mode n
  let new := s.sdMode n
  if new = old then s
  else
    let s := s.modSd n fun d => { d with
      score := if old = 2 ∧ new = 1 then Vector.ofFn fun (h : Fin 64) => fillScore d.score h.val else d.score,
      since := if (old = 1 ∧ new = 2) ∨ (old = 2 ∧ new = 1) then 0 else d.since }
    (((s.set R.SD_STATUS_mode new n).showDecim n).setFlag R.SD_EVENTS_mode_change true n).raiseLine n 3

/-! ### Map look-ups (R168) -/

/-- Offset in tile SRAM of the map that Sundial reads: the workspace while a walk verifies (R194). -/
def mapBase (s : State) (n : Fin 64) : Nat :=
  if s.walking n ∧ s.get R.WALK_STATUS_phase n = 5 then 0x8000 else 0

/-- A map is there to score against. -/
def mapUsed (s : State) (n : Fin 64) : Bool :=
  if s.walking n then decide (s.get R.WALK_STATUS_phase n = 5) else s.flag R.SD_STATUS_map_valid n

/-- A field of the map that Sundial reads. -/
def mapHere (s : State) (n : Fin 64) (o k : Nat) : Nat := s.mapField n (s.mapBase n + o) k

/-- The current-vector magnitude i_v, mA (R168). -/
def vectorMa (s : State) (n : Fin 64) : Rat :=
  let a := s.getInt R.PHASE_SP_sp_a n
  let b := s.getInt R.PHASE_SP_sp_b n
  f64Mul (f64Sqrt ((a * a + b * b : Int) : Rat)) (s.get R.CUR_SCALE_fs_ma n) / 4096

/-- The row position before and after clamping (R168). -/
def rowPos (s : State) (n : Fin 64) : Rat × Rat :=
  let r := f64Sub (f64Div (32 * s.vectorMa n) (s.mapHere n 8 2)) 1
  (r, clampRat (s.mapHere n 0x0A 2 : Nat) 31 r)

/-- The four cells of a look-up with their weights: row, column, weight (R168). Log: DEDUCED notes/assumptions/24.md. -/
def lookCells (rho : Rat) (theta : Nat) : List (Nat × Nat × Rat) :=
  let j := (floorRat rho).toNat
  let fj := rho - j
  let c := theta / 1024 % 64
  let fc : Rat := (theta % 1024 : Nat) / 1024
  [(j, c, (1 - fj) * (1 - fc)), (j, (c + 1) % 64, (1 - fj) * fc), (min 31 (j + 1), c, fj * (1 - fc)),
   (min 31 (j + 1), (c + 1) % 64, fj * fc)].filter fun e => decide (e.2.2 ≠ 0)

/-- L by interpolation, µH; none where it touches a cell without data (R168). -/
def lookupL (s : State) (n : Fin 64) (x : Fin 2) (rho : Rat) (theta : Nat) : Option Rat :=
  let cells := (lookCells rho theta).map fun e => (s.mapHere n (0x100 + 2 * ((x.val * 32 + e.1) * 64 + e.2.1)) 2, e.2.2)
  if cells.any fun e => decide (e.1 = 0xFFFF) then none
  else some (f64Sum (cells.map fun e => f64Mul e.1 (r64 e.2)))

/-- K by interpolation, corrected for temperature, µV·s/rad (R168). -/
def lookupK (s : State) (n : Fin 64) (x : Fin 2) (rho : Rat) (theta : Nat) : Rat :=
  let k := f64Sum ((lookCells rho theta).map fun e =>
    f64Mul (signed 16 (s.mapHere n (0x2100 + 2 * ((x.val * 32 + e.1) * 64 + e.2.1)) 2)) (r64 e.2.2))
  let dT := f64Sub (s.sd n).tW ((signed 16 (s.mapHere n 0x10 2) : Rat) / 64)
  f64Mul k (f64Add 1 (f64Mul (f64Div (signed 16 (s.mapHere n 0x12 2)) 1000000) dT))

/-! ### One update (R156 to R163, R169 to R176) -/

/-- The commanded velocity vcmd, µsteps/s (R169). -/
def vcmd (s : State) (n : Fin 64) : Rat := (s.getInt R.VEL_vel n : Rat) / 256

/-- ring_ns and l_cable_nh that Sundial applies: those of the map in force, and from phase 2 of a walk on those that its phase 1 measured
(R164, R167, R193). -/
def cableIn (s : State) (n : Fin 64) : Nat × Nat :=
  match (s.sd n).walk with
  | some w => if 2 ≤ s.get R.WALK_STATUS_phase n then (w.cable.1, w.cable.2.2.1) else (0, 0)
  | none => if s.flag R.SD_STATUS_map_valid n then (s.mapField n 0x4100 2, s.mapField n 0x4104 2) else (0, 0)

/-- What the fit takes from the tile for phase `x` (R161 to R163); the rate is that of the cycle (R154). -/
def sdFitIn (s : State) (n : Fin 64) (x : Fin 2) : SdFitIn :=
  let fsamp : Nat := if (s.chop n x).ratePrev then 60000000 else 80000000
  let sense : Rat := s.get R.CUR_SCALE_sense_ma n
  { dir := (s.chop n x).dir, vm := f64Div (s.get R.ADC_VM_vm_mv n) 1000, gi := f64Div sense 8192000,
    gs := f64Div (f64Mul sense fsamp) 8192000, rt := f64Div (s.sd n).rEst 1000,
    ring := (s.cableIn n).1, lCable := f64Div (s.cableIn n).2 1000000000 }

/-- The weight w_e of the induced-voltage term (R169, R190). -/
def blendWeight (s : State) (n : Fin 64) : Nat :=
  let v : Rat := (s.getInt R.VEL_vel n).natAbs
  let lo := s.get R.SD_BLEND_LO_blend_lo n
  let hi := s.get R.SD_BLEND_HI_blend_hi n
  if hi ≤ lo then (if (lo : Rat) ≤ v then 256 else 0)
  else (floorRat (256 * clampRat 0 1 (f64Div (v - lo) ((hi - lo : Nat) : Rat)))).toNat

/-- Active hypotheses of the mode (R169). -/
def sdActive (s : State) (n : Fin 64) : List Nat :=
  if s.get R.SD_STATUS_mode n = 2 then (List.range 16).map (4 * ·) else List.range 64

/-- The forgetting shift (R159). -/
def forget (s : State) (n : Fin 64) : Nat := max 1 (min 8 (s.get R.SD_CTL_forget n))

/-- Rotor speed in rad/s electrical (R169). -/
def sdOmega (s : State) (n : Fin 64) : Rat := s.sigma n * f64Mul (2 * pi64) (s.sd n).vrot / 1024

/-- The rotor angle under hypothesis `h` (R169). -/
def hypAngle (s : State) (n : Fin 64) (h : Nat) : Nat := (s.get R.CMD_ANGLE_angle n + 65536 - h * 1024 % 65536) % 65536

/-- The cost of hypothesis `h` in an update (R169). -/
def hypCost (s : State) (n : Fin 64) (x : Fin 2) (f : SdFit) (salOk : Bool) (h : Nat) : Nat :=
  let rho := (s.rowPos n).2
  let th := s.hypAngle n h
  let we := s.blendWeight n
  let om := s.sdOmega n
  let kp : Rat := s.mapHere n 0x14 2
  let sal : Int :=
    if salOk then
      let lp := (s.lookupL n x rho th).getD 0
      let rs : Int := if lp = 0 then 1024 else clampInt (-1024) 1024 (truncRat (f64Div (f64Sub (f64Mul f.lm 1000000) lp * 1024) lp))
      ((256 - we : Nat) : Int) * rs * rs
    else 0
  let micro := r64 (1 / 1000000)
  let w := f64Mul (f64Mul kp micro) (if om < 0 then -om else om)
  let enorm : Rat := if w < 1 / 4 then 1 / 4 else w
  let ep := f64Mul (f64Mul (s.lookupK n x rho th) micro) om
  let re := clampInt (-1024) 1024 (truncRat (f64Div (f64Sub f.e ep * 1024) enorm))
  ((sal + we * re * re) / 256).toNat

/-- The scores after a valid fit of phase `x`, with the costs by hypothesis (R169). -/
def sdScore (s : State) (n : Fin 64) (x : Fin 2) (f : SdFit) : State :=
  let act := s.sdActive n
  let rho := (s.rowPos n).2
  let salOk := act.all fun h => (s.lookupL n x rho (s.hypAngle n h)).isSome
  let sh := s.forget n
  let score := Vector.ofFn fun (h : Fin 64) =>
    let j := (s.sd n).score[h]
    if act.contains h.val then (j - j / 2 ^ sh + s.hypCost n x f salOk h.val) % 2 ^ 32 else j
  s.modSd n fun d => { d with score := score }

/-- A score by hypothesis, modulo 64. -/
def scoreOf (s : State) (n : Fin 64) (h : Nat) : Nat := (s.sd n).score.toList.getD (h % 64) 0

/-- The active hypothesis with the least score, the lowest on a tie (R170). -/
def sdBest (s : State) (n : Fin 64) : Nat :=
  (s.sdActive n).foldl (fun (b : Nat) h => if s.scoreOf n h < s.scoreOf n b then h else b) 0

/-- The drawn load angle of R170. -/
def sdDraw (s : State) (n : Fin 64) : Int :=
  let step := if s.get R.SD_STATUS_mode n = 2 then 4 else 1
  let h := s.sdBest n
  let jm : Int := s.scoreOf n (h + 64 - step)
  let jp : Int := s.scoreOf n (h + step)
  let den := jm - 2 * s.scoreOf n h + jp
  let fr : Rat := if 0 < den then clampRat (-1 / 2) (1 / 2) (f64Div (jm - jp : Int) (2 * den : Int)) else 0
  wrap16 (roundRat (f64Add h (fr * step) * 1024))

/-- The tracked load angle, the unwrapped load angle and the rotor speed (R170, R171). Two updates on one clock give
no dt, and the speed is then a free value. Log: DEDUCED notes/assumptions/24.md. -/
def sdTrack (s : State) (n : Fin 64) (time : Nat) : State :=
  let old := s.getInt R.SD_ANGLE_load_angle n
  let tr := min 4 (s.get R.SD_CTL_track n)
  let new := wrap16 (old + Int.fdiv (wrap16 (s.sdDraw n - old)) (2 ^ tr : Nat))
  let dd := wrap16 (new - old)
  let s := s.setInt R.SD_SLIP_unwrapped (s.getInt R.SD_SLIP_unwrapped n + dd) n
  let s := s.setInt R.SD_ANGLE_load_angle new n
  let s := s.set R.SD_ANGLE_rotor_angle (wrapNat 16 ((s.get R.CMD_ANGLE_angle n : Int) - new)) n
  let s := s.set R.SD_CONF_best_h (s.sdBest n) n
  match (s.sd n).lastAt with
  | none => s.modSd n fun d => { d with vrot := s.vcmd n }
  | some t =>
    if time ≤ t then
      let r := s.fresh
      r.2.modSd n fun d => { d with vrot := (signed 40 r.1 : Rat) / 256 }
    else
      let vinst := f64Sub (s.vcmd n) (f64Div (s.sigma n * (dd : Rat) / 64) (f64Div ((time - t : Nat) : Rat) 1000000000))
      s.modSd n fun d => { d with vrot := f64Add d.vrot (f64Sub vinst d.vrot / 8) }

/-- The torque estimate, µN·m (R172). -/
def sdTorque (s : State) (n : Fin 64) : Int :=
  let rho := (s.rowPos n).2
  let th := s.get R.SD_ANGLE_rotor_angle n
  let im := (s.sd n).im
  let part (x : Fin 2) : Rat := f64Mul (s.lookupK n x rho th) im[x]
  roundRat (f64Mul (s.mapHere n 6 2) (f64Add (part 0) (part 1)))

/-- The confidence after an update (R175). -/
def sdConf (s : State) (n : Fin 64) : Nat :=
  let h1 := s.sdBest n
  let far := (s.sdActive n).filter fun h => decide (8 ≤ hypDistance h h1)
  let j1 := s.scoreOf n h1
  let j2 := far.foldl (fun (a : Nat) h => min a (s.scoreOf n h)) (2 ^ 32)
  let c := 255 * (j2 - j1) / (j2 + 2 ^ s.forget n)
  let c := if (s.rowPos n).1 < (s.mapHere n 0x0A 2 : Nat) then min c 127 else c
  let c := if (s.sd n).tempOut then min c 127 else c
  if (s.sd n).since < 16 then min c 191 else c

/-- A map gives r_total, r_cable and t_map: the one in force, or the workspace's while a walk verifies (R163, R194). -/
def tempMap (s : State) (n : Fin 64) : Bool := s.flag R.SD_STATUS_map_valid n || s.mapUsed n

/-- With temp_fixed r_est stays at r_total and T_w at t_map (R159, R163). -/
def fixTemp (s : State) (n : Fin 64) : State :=
  if s.tempMap n ∧ s.flag R.SD_CTL_temp_fixed n then
    s.putTemp n (s.mapHere n 0x0C 2 : Nat) ((signed 16 (s.mapHere n 0x10 2) : Rat) / 64)
  else s

/-- The tile has stood in Holding with VEL = 0 for 10 ms (R163); during a walk at its stop (R193). -/
def stillFor10 (s : State) (n : Fin 64) : Bool :=
  decide (s.st n = stHolding) && decide (s.getInt R.VEL_vel n = 0) &&
    match (s.sd n).walk with
    | some w => w.atGoal && decide (10000 ≤ w.ticks)
    | none => decide ((s.tile n).cur.enteredAt + 10000000 ≤ s.now)

/-- A fit may tell the resistance: the tile has stood for 10 ms and both runs carry at least 10 % of `imax` mA (R163). -/
def fitTellsR (s : State) (n : Fin 64) (imax : Nat) (f : SdFit) : Bool :=
  let least : Rat := (imax : Rat) / 10000
  s.stillFor10 n && decide (least ≤ f.ip) && decide (least ≤ f.iq)

/-- The resistance in force and the winding temperature (R163, R167). -/
def sdResist (s : State) (n : Fin 64) (f : Option SdFit) : State :=
  if s.tempMap n ∧ s.flag R.SD_CTL_temp_fixed n then s.fixTemp n
  else match f with
    | none => s
    | some f =>
      if s.fitTellsR n (s.mapHere n 8 2) f then
        let q := s.sdResistance f
        let r := (s.sd n).rEst + (1000 * q.1 - (s.sd n).rEst) / 256
        let s := q.2
        if s.tempMap n then
          let rTotal : Rat := s.mapHere n 0x0C 2
          let dT := s.quotient (r - rTotal) (393 / 100000 * (rTotal - (s.mapHere n 0x0E 2 : Rat)))
          dT.2.putTemp n r ((signed 16 (s.mapHere n 0x10 2) : Rat) / 64 + dT.1)
        else s.putTemp n r (s.sd n).tW
      else s

/-- A flag of SD_EVENTS sets: line 3, and its event record (R189, R404). -/
def sdEvent (s : State) (n : Fin 64) (flag : Fld) (kind : Nat) (payload : List Byte) : State :=
  ((s.setFlag flag true n).raiseLine n 3).event kind n payload

/-- |T_w − t_map| passes 80 K (R175, R189). -/
def sdTempRange (s : State) (n : Fin 64) : State :=
  let tm := signed 16 (s.mapHere n 0x10 2)
  let d := (s.sd n).tW - (tm : Rat) / 64
  let out := decide ((if d < 0 then -d else d) > 80)
  let was := (s.sd n).tempOut
  let s := s.modSd n fun d => { d with tempOut := out }
  if out ∧ ¬ was then
    s.sdEvent n R.SD_EVENTS_temp_range 0x24 (bytesLE 2 (s.get R.SD_TEMP_t_w n) ++ bytesLE 2 (wrapNat 16 tm))
  else s

/-- The SD_SNAPSHOT body (R480). -/
def snapshotBody (s : State) (n : Fin 64) : List Byte :=
  [R.SD_ANGLE, R.SD_CONF, R.SD_EMF, R.SD_TORQUE, R.SD_LINC, R.SD_SLIP, R.SD_SPEED, R.SD_TEMP, R.CMD_ANGLE,
   R.PHASE_SP].flatMap fun r => bytesLE 4 (s.rd (r.at n)).toNat

/-- Write a Sundial snapshot journal record (R189, R480). -/
def snapshot (s : State) (n : Fin 64) : State :=
  if s.flag R.HAMPER_JROUTE_snap_en then
    s.journal (s.get R.HAMPER_JROUTE_snap_ring) 0x02 n s.now (s.snapshotBody n)
  else s

/-- The scored outputs of an update: scores, load angle, speed, torque, confidence (R169 to R175). -/
def sdOutputs (s : State) (n : Fin 64) (x : Fin 2) (f : Option SdFit) (time : Nat) : State :=
  let s := match f with
    | some f => s.sdScore n x f
    | none => s
  let s := (s.sdTrack n time).showScores n
  let s := s.set R.SD_SPEED_vrot (satSigned 32 (roundRat (256 * (s.sd n).vrot))) n
  let s := s.set R.SD_TORQUE_torque (satSigned 32 (s.sdTorque n)) n
  s.putConf n (s.sdConf n)

/-- The fit's own outputs: SD_LINC, SD_EMF, SD_TIME, fit_x, update_seq (R157, R167, R173). -/
def sdFitOutputs (s : State) (n : Fin 64) (x : Fin 2) (f : Option SdFit) (time : Nat) : State :=
  let l := match f with
    | some f => (roundRat (f.lm * 1000000)).toNat
    | none => 0xFFFF
  let s := if x = 0 then (s.set R.SD_LINC_l_a l n).setFlag R.SD_CONF_fit_a f.isSome n
           else (s.set R.SD_LINC_l_b l n).setFlag R.SD_CONF_fit_b f.isSome n
  let s := match f with
    | some f =>
      let e := satSigned 16 (roundRat (f.e * 250))
      let s := s.modSd n fun d => { d with im := d.im.set x f.im, fitAt := s.now }
      if x = 0 then s.set R.SD_EMF_e_a e n else s.set R.SD_EMF_e_b e n
    | none => s
  let s := s.set R.SD_TIME_time (time % 2 ^ 32) n
  s.set R.SD_CONF_update_seq ((s.get R.SD_CONF_update_seq n + 1) % 65536) n

/-! ### Decisions of an update (R184 to R188) -/

/-- Move the position by whole µsteps without motion (R185); position events see the new position at the end of the tick. -/
def correctPos (s : State) (n : Fin 64) (by_ : Int) : State :=
  let was := s.pos32 n
  let s := (s.modPlan n fun p => { p with p := p.p + by_ * one70 }).syncPos n
  s.shiftRan n (s.pos32 n - was)

/-- A lost step (R185): its correction in Holding, homing_required otherwise, a stall decision while Moving. -/
def lostStep (s : State) (n : Fin 64) (change : Int) : State :=
  let conf := s.get R.SD_CONF_conf n
  let u := s.getInt R.SD_SLIP_unwrapped n
  let fix := s.st n = stHolding ∧ s.flag R.SD_STALL2_slip_correct n ∧ s.get R.SD_STALL2_pos_conf n ≤ conf
  let action := if s.st n = stMoving then 2 else if fix then 0 else 1
  let s := (s.sdEvent n R.SD_EVENTS_slip 0x21 (bytesLE 1 conf ++ bytesLE 1 action ++ bytesLE 2 (wrapNat 16 change)
    ++ bytesLE 4 (wrapNat 32 u))).snapshot n
  if action = 2 then s.modSd n fun d => { d with stallDue := true }
  else if action = 0 then (s.correctPos n (-(s.sigma n * 1024 * change))).setInt R.SD_SLIP_unwrapped (u - 65536 * change) n
  else s.needHoming n

/-- The stall candidate count of an update (R184). -/
def sdCandidate (s : State) (n : Fin 64) : State :=
  if s.st n = stMoving ∧ s.get R.SD_STALL_stall_conf n ≤ s.get R.SD_CONF_conf n then
    if s.get R.SD_STALL_stall_angle n ≤ (s.getInt R.SD_ANGLE_load_angle n).natAbs then
      let c := (s.sd n).candidates + 1
      s.modSd n fun d => { d with candidates := c,
                                  stallDue := d.stallDue || decide (max 1 (s.get R.SD_STALL_stall_cnt n) ≤ c) }
    else s.modSd n fun d => { d with candidates := 0 }
  else s

/-- The drift level of an update (R188): `cost` was added to the best score. -/
def sdDrift (s : State) (n : Fin 64) (cost : Option Int) : State :=
  match cost with
  | none => s
  | some c =>
    if s.get R.SD_CONF_conf n < 192 then s
    else
      let d := (s.sd n).drift + truncDiv (c - (s.sd n).drift) 4096
      let level := min 0xFFFF (d.toNat / 16)
      let s := (s.modSd n fun q => { q with drift := d }).set R.SD_DRIFT_drift_level level n
      let thr := s.get R.SD_DRIFT_drift_thr n
      if thr ≤ level ∧ (s.sd n).driftArmed then
        (s.modSd n fun q => { q with driftArmed := false }).sdEvent n R.SD_EVENTS_map_drift 0x23 (bytesLE 2 level)
      else if level < thr / 2 then s.modSd n fun q => { q with driftArmed := true }
      else s

/-- What an update decides: lost step, stall candidate, re-arming of CONF_LOW (R184 to R187). -/
def sdDecide (s : State) (n : Fin 64) (slip : Int) : State :=
  let conf := s.get R.SD_CONF_conf n
  let change := slipCount (s.getInt R.SD_SLIP_unwrapped n) - slip
  let ok := decide (s.get R.SD_STALL_stall_conf n ≤ conf)
  let st := s.st n
  let s := if change ≠ 0 ∧ ok ∧ (st = stHolding ∨ st = stMoving ∨ st = stLull) then s.lostStep n change else s
  let s := s.sdCandidate n
  if ok then s.modSd n fun d => { d with lowArmed := true } else s

/-- What every update counts, scored or not: the time of the edge that ended it, the updates since a change of mode, the snapshot's turn
(R159, R171, R175). -/
def sdCount (s : State) (n : Fin 64) (time : Nat) : State :=
  let s := s.modSd n fun d => { d with lastAt := some time, since := min 16 (d.since + 1) }
  let k := (s.sd n).snap + 1
  let div := s.get R.SD_CTL_snap_div n
  if div ≠ 0 ∧ div ≤ k then (s.modSd n fun d => { d with snap := 0 }).snapshot n
  else s.modSd n fun d => { d with snap := k }

/-- The executing segment's journal extremes (R480). -/
def noteExtremes (s : State) (n : Fin 64) : State :=
  s.modPlan n fun p => { p with exec := p.exec.map fun e =>
    { e with leastConf := min e.leastConf (s.get R.SD_CONF_conf n),
             peakDelta := max e.peakDelta (s.getInt R.SD_ANGLE_load_angle n).natAbs } }

/-! ### The walk's fits (R193) -/

/-- Add a value to a sum and count kept at a key. -/
def addFit (k : Nat) (v : Rat) (l : List (Nat × (Rat × Nat))) : List (Nat × (Rat × Nat)) :=
  let e := (sparseFind k l).getD (0, 0)
  sparseInsert k (e.1 + v, e.2 + 1) l

/-- A valid fit of phase `x` during a walk (R193). -/
def walkFit (s : State) (n : Fin 64) (w : Walk) (x : Fin 2) (f : SdFit) : State :=
  let ang := s.get R.CMD_ANGLE_angle n
  let put (w : Walk) : State := s.modSd n fun d => { d with walk := some w }
  match s.get R.WALK_STATUS_phase n with
  | 2 =>
    if s.fitTellsR n (s.get R.WALK_CFG_i_max_ma n) f then
      let q := s.sdResistance f
      q.2.modSd n fun d => { d with walk := some { w with rFit := some (1000 * q.1) } }
    else s
  | 3 =>
    if w.atGoal ∧ 50 * s.get R.WALK_CFG_dwell n ≤ w.ticks then
      put { w with lSum := addFit ((x.val * 32 + w.row) * 64 + ang / 1024 % 64) f.lm w.lSum }
    else s
  | 4 =>
    let v := s.vcmd n
    if (s.plan n).a = 0 ∧ (s.getInt R.VEL_vel n).natAbs = s.get R.WALK_SPEED_speed n ∧ v ≠ 0 then
      let om := s.sigma n * f64Mul (2 * pi64) v / 1024
      let pass := w.row / 8
      put { w with kSum := addFit (((b2n w.back * 2 + x.val) * 4 + pass) * 64 + (ang + 512) / 1024 % 64) (f.e / om) w.kSum }
    else s
  | _ => s

/-- The scored part of an update (R169 to R175, R184 to R188). -/
def sdScored (s : State) (n : Fin 64) (x : Fin 2) (f : Option SdFit) (time : Nat) : State :=
  let slip := slipCount (s.getInt R.SD_SLIP_unwrapped n)
  let before := (s.sd n).score
  let s := (s.sdOutputs n x f time).noteExtremes n
  if s.walking n then
    s.modSd n fun d => { d with walk := d.walk.map fun w => { w with least := min w.least (s.get R.SD_CONF_conf n) } }
  else
    let h := s.sdBest n
    let j : Int := before.toList.getD h 0
    let cost : Option Int := f.map fun _ => (s.scoreOf n h : Int) - (j - j / (2 ^ s.forget n : Nat))
    (s.sdDrift n cost).sdDecide n slip

/-- The walk has a vector unit: a grant of its own or a loan (R192). Log: DEDUCED notes/assumptions/25.md. -/
def walkUnit (s : State) (n : Fin 64) : Bool := s.flag R.SD_STATUS_grant n || s.flag R.SD_STATUS_borrowing n

/-- One update of phase `x` (R156, R157, R167): fit and its outputs always; scores and decisions with a map. A walk without a vector
unit makes none (R196). Answers the state and whether outputs were scored. -/
def sdUpdate (s : State) (n : Fin 64) (x : Fin 2) (c : Cycle) : State × Bool :=
  let s := s.setFlag R.SD_STATUS_no_ripple (!s.flag R.RIPPLE_CTL_enable n) n
  if ¬ s.flag R.RIPPLE_CTL_enable n then (s, false)
  else
    let s := s.sdEnterMode n
    let mode := s.get R.SD_STATUS_mode n
    if mode = 0 ∨ mode = 3 ∨ (mode = 4 ∧ ¬ s.walkUnit n) then (s, false)
    else
      let time := (c.edges.getLast?.map (·.time)).getD s.now
      let s := s.fixTemp n
      let f := sdFit (s.sdFitIn n x) c
      let s := (s.sdResist n f).sdFitOutputs n x f time
      let s : State := match f, (s.sd n).walk with
        | some f, some w => s.walkFit n w x f
        | _, _ => s
      let s := if s.tempMap n then s.sdTempRange n else s
      if ¬ s.mapUsed n then ((s.putConf n (if s.walking n then s.get R.SD_CONF_conf n else 0)).sdCount n time, false)
      else ((s.sdScored n x f time).sdCount n time, true)

/-! ### Acting on decisions (R76, R184 to R187) -/

/-- The STALL method's search, or HARD_STOP's with force 0, ends on a stall decision (R238). -/
def stallEndsSearch (s : State) (n : Fin 64) (e : Exec) : Bool :=
  decide (segType e.seg = 5) && decide (e.stop = .none) && decide (e.home.phase = .search) && !e.home.resting &&
    (decide (bits e.seg.w1 31 28 = 1) ||
      (decide (bits e.seg.w1 31 28 = 5) && decide (s.get R.HOME_FORCE_force n = 0)))

/-- A stall decision is acted on (R76, R186, R22, R105): with conf ≥ pos_conf the position is corrected to the rotor;
otherwise homing_required sets. -/
def stallNow (s : State) (n : Fin 64) : State :=
  match (s.plan n).exec with
  | none => s.modSd n fun d => { d with stallDue := false }
  | some e =>
    let time := s.tickStart
    let conf := s.get R.SD_CONF_conf n
    let sure := decide (s.get R.SD_STALL2_pos_conf n ≤ conf)
    let delta := s.get R.SD_ANGLE_load_angle n
    let k := roundDiv (s.getInt R.SD_SLIP_unwrapped n) 64
    let s := s.modSd n fun d => { d with stallDue := false, candidates := 0 }
    let s := s.modPlan n fun p => { p with v := 0, a := 0, handover := false }
    let s := if sure then
        let q := (s.posInt n - s.sigma n * k) * one70
        (s.modPlan n fun p => { p with p := q }).syncPos n
      else s
    let s := s.syncRates n 1 1
    let s := s.sdEvent n R.SD_EVENTS_stall 0x20 (bytesLE 1 conf ++ [0] ++ bytesLE 2 delta
      ++ bytesLE 4 (if sure then wrapNat 32 k else 0) ++ bytesLE 4 (s.get R.POS_HI_pos_int n))
    let s := s.snapshot n
    if s.stallEndsSearch n e then
      let s := s.sundialClear n
      if ¬ sure then s.homeFail n e 0x03 time
      else s.homePhase n e .backOff (-homeDir e.seg * s.get R.HOME_BACKOFF_backoff n)
    else
      let s := if sure then s else s.needHoming n
      let s := s.cancelPosEvents n time
      let s := ((s.retire n endStalled (some e) time).freeze n).modForce n fun f => { f with froze := true }
      let s := (s.setFlag R.TILE_STATE_stalled true n).goState n stHolding time
      (s.sundialClear n).memberAlarm n 5

/-- STALL_DECISION: the decision of an earlier update acts (R184). -/
def stallDecisionOf (s : State) (n : Fin 64) : State :=
  if (s.sd n).stallDue ∧ s.st n = stMoving then s.stallNow n else s

/-- 100 µs without a valid fit of either phase (R176). -/
def confDecayOf (s : State) (n : Fin 64) : State :=
  if (s.sd n).fitAt + 100000 ≤ s.now then
    (s.putConf n (s.get R.SD_CONF_conf n * 3 / 4)).modSd n fun d => { d with fitAt := s.now }
  else s

/-- Confidence has stayed below stall_conf for blind_limit while Moving (R187). -/
def confLowOf (s : State) (n : Fin 64) : State :=
  let conf := s.get R.SD_CONF_conf n
  let from_ := max (s.sd n).lowAt (s.tile n).cur.enteredAt
  if s.st n = stMoving ∧ (s.sd n).lowArmed ∧ s.get R.SD_STALL2_blind_limit n ≠ 0 ∧
      conf < s.get R.SD_STALL_stall_conf n ∧ from_ + 100000 * s.get R.SD_STALL2_blind_limit n ≤ s.now then
    let act := s.get R.SD_STALL2_blind_action n
    let s := s.modSd n fun d => { d with lowArmed := false }
    let s := s.sdEvent n R.SD_EVENTS_conf_low 0x22 (bytesLE 1 conf ++ bytesLE 1 act)
    let s := if act.testBit 1 then s.needHoming n else s
    if act.testBit 0 then (s.trailCmd n 1).2 else s
  else s

/-! ### Maps (R167) -/

/-- map_load and map_check are refused while the tile is Holding, Moving or Lull (R167). -/
def mapRefused (s : State) (n : Fin 64) : Bool := s.st n = stHolding || s.st n = stMoving || s.st n = stLull

/-- A refused map load or check (R167, R189). -/
def mapError (s : State) (n : Fin 64) : State := (s.setFlag R.SD_EVENTS_map_error true n).raiseLine n 3

/-- Check the map in tile SRAM (R167). -/
def mapVerify (s : State) (n : Fin 64) : State :=
  if ¬ s.mapMagic n then s.mapInvalid n
  else if s.mapChecks n then s.mapNowValid n
  else (s.mapInvalid n).tileFault n 0x02

/-- Copy the tile's map from the parameter store (R167, R619): an empty slot has nothing to copy and leaves no valid map.
Log: DEDUCED notes/assumptions/25.md. -/
def mapRestore (s : State) (n : Fin 64) : State :=
  match s.psInForce 0x06 n with
  | none => s.mapInvalid n
  | some h => (s.placeMap n (s.psPayload h)).mapVerify n

/-- SD_CTL.map_load (R167). -/
def mapLoadOf (s : State) (n : Fin 64) : State := if s.mapRefused n then s.mapError n else s.mapRestore n

/-- SD_CTL.map_check (R167). -/
def mapCheckOf (s : State) (n : Fin 64) : State := if s.mapRefused n then s.mapError n else s.mapVerify n

/-! ### The walk (R191 to R196) -/

/-- +1 or −1: the side of travel (R193). -/
def walkSide (s : State) (n : Fin 64) : Int := if s.flag R.WALK_CFG_neg n then -1 else 1

/-- WALK_CTL.start (R192). -/
def walkStartOf (s : State) (n : Fin 64) : State :=
  let i := s.get R.WALK_CFG_i_max_ma n
  let sp := s.get R.WALK_SPEED_speed n
  let refuse (r : Nat) : State := (s.set R.WALK_STATUS_phase 7 n).set R.WALK_STATUS_result r n
  if s.walking n then s
  else if s.st n ≠ stHolding ∨ s.trailCount n ≠ 0 ∨ s.frozen n ∨ s.isMember n then refuse 0x01
  else if s.flag R.CUR_STATUS_scale_invalid n ∨ i < 50 ∨ s.get R.CUR_SCALE_fs_ma n < i ∨ s.get R.WALK_CFG_dwell n = 0 ∨
      ¬ s.flag R.RIPPLE_CTL_enable n ∨ s.get R.RIPPLE_CTL_decim n ≠ 0 ∨ sp < 262144 ∨ 14680064 < sp then refuse 0x02
  else if s.flag R.SD_STATUS_rate_60 n then refuse 0x04
  else
    let e := s.elecIndex n
    let off : Int := if e % 16 < 8 then -((e % 16 : Nat) : Int) else 16 - ((e % 16 : Nat) : Int)
    let home := s.posInt n + s.sigma n * off
    let w : Walk := { s0 := home, row := 0, stop := 0, back := false, ticks := 0, goal := home, atGoal := false,
                      done := false, lSum := [], kSum := [], rFit := none, cable := (0, 0, 0, 0), tMap := 0, least := 255, lone := 0, kept := none }
    let s := (s.modSd n fun d => { d with walk := some w }).setFlag R.SD_STATUS_walk_busy true n
    let s := ((s.set R.WALK_STATUS_phase 1 n).set R.WALK_STATUS_result 0 n).govTile n
    (((s.set R.WALK_STATUS_row 0 n).set R.WALK_STATUS_progress 0 n).set R.WALK_STATUS_verify_conf 0 n).showLevel n

/-- Replace the walk's progress. -/
def putWalk (s : State) (n : Fin 64) (w : Walk) : State := s.modSd n fun d => { d with walk := some w }

/-- One µstep toward the goal on a plan tick (R193). -/
def walkCreep (s : State) (n : Fin 64) (w : Walk) : State :=
  let old := s.posInt n
  let d := w.goal - old
  if d = 0 then s.putWalk n { w with atGoal := true, ticks := 0 }
  else
    let s := s.modPlan n fun p => { p with p := (old + d.sign) * one70 }
    let s := (s.syncPos n).noteRun n
    s.putWalk n { w with atGoal := decide (d.natAbs = 1), ticks := 0 }

/-- One planned tick of a pass toward the goal (R193); the tile reports Moving in it (R196). -/
def walkPass (s : State) (n : Fin 64) (w : Walk) : State :=
  let sp := s.get R.WALK_SPEED_speed n
  let s := if s.st n = stMoving then s else s.goState n stMoving s.tickStart
  let lim : Limits := ⟨(roundDiv (sp * one70) (10 ^ 18)).toNat, (roundDiv (16 * sp * one70) (256 * 10 ^ 12)).toNat,
                       velTick sp⟩
  let old := s.posInt n
  let p := s.plan n
  let r := planStep lim ⟨p.p, p.v, p.a⟩ (some (w.goal * one70)) 0 0
  let s := s.modPlan n fun p => { p with p := r.1.p, v := r.1.v, a := r.1.a, j := lim.j, am := lim.am,
                                         vm := lim.vm }
  let s := ((s.syncPos n).syncRates n 1 1).noteRun n
  if r.2 = .landed then
    let s := s.putWalk n { w with atGoal := true }
    s
  else s

/-- A pass has come to its goal: back to S, or the next row, or the end of the phase (R193). -/
def walkTurn (s : State) (n : Fin 64) (w : Walk) : State :=
  if ¬ w.back then s.putWalk n { w with back := true, goal := w.s0, atGoal := false }
  else if s.get R.WALK_STATUS_phase n = 4 ∧ w.row < 31 then
    let w := { w with row := w.row + 8, back := false, goal := w.s0 + s.walkSide n * 8192, atGoal := false }
    ((s.putWalk n w).set R.WALK_STATUS_row w.row n).showLevel n
  else (s.putWalk n { w with done := true }).walkRest n

/-- The position of stop `k` of phase 2 or 3 (R193). Log: DEDUCED notes/assumptions/25.md. -/
def walkStop (s : State) (n : Fin 64) (w : Walk) (k : Nat) : Int :=
  w.s0 + s.walkSide n * ((if s.get R.WALK_STATUS_phase n = 2 then 256 * k else 16 * k : Nat) : Int)

/-- A dwell at a stop has ended: the next stop, the next row, or the end of the phase (R193). -/
def walkNextStop (s : State) (n : Fin 64) (w : Walk) : State :=
  if s.get R.WALK_STATUS_phase n = 2 then
    if w.stop < 3 then s.putWalk n { w with stop := w.stop + 1, goal := s.walkStop n w (w.stop + 1), atGoal := false }
    else s.putWalk n { w with done := true }
  else
    let ends := if w.row % 2 = 0 then decide (w.stop = 255) else decide (w.stop = 0)
    if ends ∧ w.row = 31 then s.putWalk n { w with done := true }
    else if ends then
      let w := { w with row := w.row + 1, ticks := 0 }
      ((s.putWalk n w).set R.WALK_STATUS_row w.row n).showLevel n
    else
      let k := if w.row % 2 = 0 then w.stop + 1 else w.stop - 1
      s.putWalk n { w with stop := k, goal := s.walkStop n w k, atGoal := false }

/-- Ticks that the walk stays at a stop of the phase in progress (R193). -/
def walkDwell (s : State) (n : Fin 64) : Nat :=
  match s.get R.WALK_STATUS_phase n with
  | 2 => 20000
  | 3 => 100 * s.get R.WALK_CFG_dwell n
  | 5 => 1000000
  | _ => 0

/-- Without a vector unit the walk holds at its stop, a pass under way at its end (R196); a dwell that has ended goes on to the next stop
(R201). -/
def walkHeld (s : State) (n : Fin 64) (w : Walk) : Bool :=
  let ph := s.get R.WALK_STATUS_phase n
  !s.walkUnit n &&
    if ph = 2 ∨ ph = 3 then w.atGoal && decide (w.ticks < s.walkDwell n)
    else w.atGoal || (decide (4 ≤ ph) && decide (s.st n = stHolding))

/-- One plan tick of a walk (R193, R196). -/
def walkTick (s : State) (n : Fin 64) (w : Walk) : State :=
  let ph := s.get R.WALK_STATUS_phase n
  let w := { w with lone := if s.walkUnit n then 0 else w.lone + 1 }
  let s := s.putWalk n w
  if w.done then s
  else if s.walkHeld n w then s.walkRest n
  else if ph = 1 then (if w.atGoal then s.putWalk n { w with done := true } else s.walkCreep n w)
  else if ph = 2 ∨ ph = 3 then
    if ¬ w.atGoal then s.walkCreep n w
    else if s.walkDwell n ≤ w.ticks then s.walkNextStop n { w with ticks := 0 }
    else s.putWalk n { w with ticks := w.ticks + 1 }
  else if ph = 5 ∧ w.goal = w.s0 ∧ ¬ w.back then
    if s.walkDwell n ≤ w.ticks then
      s.putWalk n { w with ticks := 0, goal := w.s0 + s.walkSide n * 8192, atGoal := false }
    else s.putWalk n { w with ticks := w.ticks + 1 }
  else if w.atGoal then s.walkTurn n w
  else s.walkPass n w

/-- Store a little-endian field of the new map in the workspace (R194). -/
def newMap (s : State) (n : Fin 64) (o k v : Nat) : State := s.store (tileSram n + 0x8000 + o) k v

/-- The inductance cell of the new map at row `j`: the mean of the kept fits in µH; 0xFFFF with fewer than 4 (R193). -/
def walkCell (w : Walk) (x j c : Nat) : Nat :=
  let e := (sparseFind ((x * 32 + j) * 64 + c) w.lSum).getD (0, 0)
  if e.2 < 4 then 0xFFFF else min 65534 (roundRat (e.1 / e.2 * 1000000)).toNat

/-- Every cell index of one table of the map. -/
def mapCells : List Nat := List.range 4096

/-- The inductance table of the new map (R193); rows below lo_row take lo_row's values. -/
def walkBuildL (s : State) (n : Fin 64) (w : Walk) : State :=
  let lo := s.get R.WALK_CFG_lo_row n
  mapCells.foldl (fun (s : State) (i : Nat) =>
    let j := i / 64 % 32
    s.newMap n (0x100 + 2 * i) 2 (walkCell w (i / 2048) (max j lo) (i % 64))) s

/-- Cells with data in rows lo_row to 31 (R195). -/
def walkFilled (s : State) (n : Fin 64) (w : Walk) : Nat × Nat :=
  let lo := s.get R.WALK_CFG_lo_row n
  let cells := mapCells.filter fun i => decide (lo ≤ i / 64 % 32)
  ((cells.filter fun i => decide (walkCell w (i / 2048) (i / 64 % 32) (i % 64) ≠ 0xFFFF)).length, cells.length)

/-- The flux slope of a pass at one column, V·s/rad: the mean over the directions that gave fits; none when empty. -/
def walkSlope (w : Walk) (x pass c : Nat) : Option Rat :=
  let at_ (d : Nat) : Option Rat := (sparseFind (((d * 2 + x) * 4 + pass) * 64 + c) w.kSum).map fun e => e.1 / e.2
  match at_ 0, at_ 1 with
  | some a, some b => some ((a + b) / 2)
  | some a, none => some a
  | none, b => b

/-- Distance to the nearest filled column at or after `c` in one sense, and its value. -/
def walkNear (w : Walk) (x pass : Nat) (up : Bool) (c : Nat) : (k : Nat) → Nat → Option (Nat × Rat)
  | 0, _ => none
  | k + 1, d =>
    match walkSlope w x pass (if up then (c + d) % 64 else (c + 64 - d) % 64) with
    | some v => some (d, v)
    | none => walkNear w x pass up c k (d + 1)

/-- The flux slope of a pass at one column, empty columns interpolated circularly (R193). -/
def walkFlux (w : Walk) (x pass c : Nat) : Rat :=
  match walkNear w x pass false c 64 0, walkNear w x pass true c 64 0 with
  | some (0, v), _ => v
  | some (a, u), some (b, v) => (u * b + v * a) / ((a + b : Nat) : Rat)
  | _, _ => 0

/-- The flux slope of a row: rows below 7 copy row 7, rows between passes are interpolated (R193). -/
def walkFluxRow (w : Walk) (x j c : Nat) : Rat :=
  if j ≤ 7 then walkFlux w x 0 c
  else
    let p := (j - 7) / 8
    let f : Rat := ((j - 7) % 8 : Nat) / 8
    walkFlux w x p c * (1 - f) + walkFlux w x (min 3 (p + 1)) c * f

/-- The flux table, k_peak and kt_ppm of the new map (R193). -/
def walkBuildK (s : State) (n : Fin 64) (w : Walk) : State :=
  let r := mapCells.foldl (fun (a : State × Nat) (i : Nat) =>
    let v := clampInt (-32768) 32767 (roundRat (1000000 * walkFluxRow w (i / 2048) (i / 64 % 32) (i % 64)))
    (a.1.newMap n (0x2100 + 2 * i) 2 (wrapNat 16 v), max a.2 v.natAbs)) (s, 0)
  (r.1.newMap n 0x14 2 r.2).newMap n 0x12 2 (wrapNat 16 (-1000))

/-- k_peak × ω at a speed in the velocity format, V (R193, R195). -/
def walkVolts (s : State) (n : Fin 64) (speed : Nat) : Rat :=
  (s.mapField n 0x8014 2 : Rat) / 1000000 * 2 * pi64 * ((speed : Rat) / 256) / 1024

/-- The blend speed at which k_peak × ω equals `v` volts, in the velocity format (R194). -/
def walkBlend (s : State) (n : Fin 64) (v : Nat) : Nat :=
  satUnsigned 31 (roundRat (256 * (1024 * v : Nat) / (2 * pi64 * (s.mapField n 0x8014 2 : Nat) / 1000000)))

/-- The header of the new map (R166, R194). The spec names no source of pole_pairs; it is a free value in its range. -/
def walkHeader (s : State) (n : Fin 64) (w : Walk) : State :=
  let gen := if s.mapMagic n then s.mapField n 0x20 4 + 1 else 1
  let pp := s.fresh
  let s := pp.2
  let s := ((s.newMap n 0 4 0x53440001).newMap n 4 2 1).newMap n 6 2 (pp.1 % 1000 + 1)
  let s := (s.newMap n 8 2 (s.get R.WALK_CFG_i_max_ma n)).newMap n 0x0A 2 (s.get R.WALK_CFG_lo_row n)
  let s := (s.newMap n 0x0C 2 (satUnsigned 16 (roundRat (w.rFit.getD (s.sd n).rEst)))).newMap n 0x0E 2
    (s.get R.WALK_CABLE_r_cable n)
  let s := (s.newMap n 0x10 2 (wrapNat 16 w.tMap)).newMap n 0x16 2 0
  let s := ((s.newMap n 0x18 8 s.now).newMap n 0x20 4 (gen % 2 ^ 32)).newMap n 0x24 4 0
  let s := s.newMap n 0x28 1 s.epoch
  s.setBytes (tileSram n + 0x8029) (List.replicate (0x100 - 0x29) 0)

/-- The cable model of the new map (R164, R193). -/
def walkCableModel (s : State) (n : Fin 64) (w : Walk) : State :=
  let (ring, cap, l, f) := w.cable
  let s := ((s.newMap n 0x4100 2 ring).newMap n 0x4102 2 cap).newMap n 0x4104 2 l
  let s := (s.newMap n 0x4106 2 f).newMap n 0x4108 2 (s.get R.WALK_CABLE_len_dm n)
  s.setBytes (tileSram n + 0xC10A) (List.replicate (0x7FFC - 0x410A) 0)

/-- A walk succeeds (R194): header, CRC, copy, map_valid, clear, blend speeds, commit.
Log: DEDUCED notes/assumptions/25.md. -/
def walkSucceed (s : State) (n : Fin 64) (w : Walk) : State :=
  let s := (s.newMap n 0x18 8 s.now).newMap n 0x28 1 s.epoch
  let s := s.newMap n 0x7FFC 4 (crc32c (s.bytes (tileSram n + 0x8000) 0x7FFC))
  let lo := s.walkBlend n 1
  let hi := s.walkBlend n 4
  let s := s.setBytes (tileSram n) (s.bytes (tileSram n + 0x8000) 0x8000)
  let s := (s.mapNowValid n).sundialClear n
  let s := if s.flag R.WALK_CTL_set_blend n then
      (s.set R.SD_BLEND_LO_blend_lo lo n).set R.SD_BLEND_HI_blend_hi hi n else s
  if s.flag R.WALK_CTL_store n then
    let r := s.psWriteMap n (s.bytes (tileSram n) 0x4140 ++ s.bytes (tileSram n + 0x7FFC) 4)
    r.1.walkEnd n (if r.2 then 0x00 else 0x0A)
  else s.walkEnd n 0x00

/-- The walk goes on to a phase (R193). Log: DEDUCED notes/assumptions/25.md. -/
def walkPhase (s : State) (n : Fin 64) (w : Walk) (ph row : Nat) (goal : Int) : State :=
  let p := s.fresh
  let s := p.2.putWalk n { w with row := row, stop := 0, back := false, ticks := 0, goal := goal,
                                  atGoal := decide (goal = s.posInt n), done := false }
  let s := (s.set R.WALK_STATUS_phase ph n).set R.WALK_STATUS_row row n
  (s.set R.WALK_STATUS_progress (p.1 % 100) n).showLevel n

/-- Verification starts with the new map's resistance and temperature in force (R163, R194). -/
def walkTemp (s : State) (n : Fin 64) : State :=
  s.putTemp n (s.mapHere n 0x0C 2 : Nat) ((signed 16 (s.mapHere n 0x10 2) : Rat) / 64)

/-- ring_ns of phase 1 (R193): `settle` the settling times of the edges in ns. -/
def walkRing (settle : List Nat) : Nat := (settle.foldl max 0 * 5 + 19) / 20 * 5

/-- ring_ns, c_cable, l_cable_nh and f_ring of phase 1 (R193): `charge` the charge of the edge spike in pC, `freq` the
ringing frequency in Hz. -/
def walkCable (s : State) (n : Fin 64) (ring charge freq : Nat) : (Nat × Nat × Nat × Nat) × State :=
  let farad := s.quotient ((charge : Rat) / 1000000000000) ((s.get R.ADC_VM_vm_mv n : Rat) / 1000)
  let w := 2 * pi64 * (freq : Nat)
  let henry := farad.2.quotient 1 (w * w * farad.1)
  ((ring, satUnsigned 16 (roundRat (farad.1 * 100000000000)), satUnsigned 16 (roundRat (1000000000 * henry.1)),
    satUnsigned 16 (roundRat ((freq : Rat) / 1000))), henry.2)

/-- WALK_PHASE_COMPLETE (R193 to R195), with the measurements of phase 1. -/
def walkCompleteOf (s : State) (n : Fin 64) (settle : List Nat) (charge freq : Nat) : State :=
  match (s.sd n).walk with
  | none => s
  | some w =>
    if ¬ w.done ∨ ¬ s.walkUnit n then s
    else match s.get R.WALK_STATUS_phase n with
    | 1 =>
      let ring := walkRing settle
      if 4000 < ring then (s.walkEnd n 0x05).showLevel n
      else
        let c := s.walkCable n ring charge freq
        c.2.walkPhase n { w with cable := c.1 } 2 31 w.s0
    | 2 => s.walkPhase n { w with tMap := s.getInt R.ADC_NTC_t_ntc n } 3 0 w.s0
    | 3 =>
      let k := s.walkFilled n w
      if 4 * k.1 < 3 * k.2 then (s.walkEnd n 0x06).showLevel n
      else (((s.walkBuildL n w).walkCableModel n w).walkPhase n w 4 7 (w.s0 + s.walkSide n * 8192))
    | 4 =>
      let s := s.walkBuildK n w
      if s.walkVolts n (s.get R.WALK_SPEED_speed n) < 1 then (s.walkEnd n 0x07).showLevel n
      else
        let keep := ((s.sd n).rEst, (s.sd n).tW)
        ((s.walkHeader n w).walkPhase n { w with least := 255, kept := some keep } 5 23 w.s0).walkTemp n
    | 5 =>
      let s := s.set R.WALK_STATUS_verify_conf w.least n
      if w.least < 160 then (s.walkEnd n 0x08).showLevel n else (s.walkSucceed n w).showLevel n
    | _ => s

/-- WALK_GRANT_TIMEOUT: 1 s without a vector unit (R192, R196). -/
def walkTimeoutOf (s : State) (n : Fin 64) : State :=
  if ((s.sd n).walk.any fun w => decide (1000000 ≤ w.lone)) ∧ ¬ s.walkUnit n then (s.walkFail n 0x03).showLevel n else s

/-- WALK_CTL.abort (R195). Log: DEDUCED notes/assumptions/25.md. -/
def walkAbortOf (s : State) (n : Fin 64) : State := (s.walkAbortHold n).showLevel n

end State
end Sys2Proof.Machine
end

