-- ==== Sys2Proof/Machine/Trail.lean ====
section
/-! DEFINITION. The commands of the trail and the planner (02_trails_and_profiles.md): plan ticks, segment starts and
ends, trail commands, position writes, replacements, caps, position-event slots. -/

namespace Sys2Proof.Machine
namespace State

/-- One bound port at the end of a plan tick of its tile (R351, R365). `at_` is the slot that executed on the tick. -/
def deviation (s : State) (n : Fin 64) (k : Fin 16) (at_ : Option Nat) : State :=
  let v := s.getInt R.VEL_vel n
  let s := if v = 0 then s else s.modFeed k fun f => { f with sign := v.sign }
  if s.st n ≠ stHolding ∧ s.st n ≠ stMoving then s
  else
    let dev := s.posInt n - s.getInt R.FB_AXPOS_axpos k
    let lim := s.get R.FB_AXIS_dev_limit k
    let s := s.setInt R.FB_DEV_dev dev k
    if lim ≠ 0 ∧ lim < dev.natAbs then
      let s := s.setFlag R.FBK_STATUS_deviation true k
      if ¬ (s.feed k).armed then s
      else
        let s := s.modFeed k fun f => { f with armed := false }
        let s := s.eventAt s.tickEnd 0x52 0xFF (bytesLE 1 k ++ [0, 0, 0] ++ bytesLE 4 (wrapNat 32 dev))
        if s.flag R.FB_AXIS_dev_stop k ∧ s.st n = stMoving ∧ at_.isSome ∧ at_ = (s.plan n).exec.map (·.ptr) then
          (s.trailCmd n 1).2
        else s
    else if dev.natAbs ≤ lim / 2 then s.modFeed k fun f => { f with armed := true }
    else s

/-- The end of a plan tick at the ports bound to the tile and at the outputs that show it (R365, R367). -/
def fieldTick (s : State) (n : Fin 64) (at_ : Option Nat) : State :=
  let s := allFeeds.foldl (fun (s : State) (k : Fin 16) =>
    if s.flag R.FB_AXIS_bind k ∧ s.get R.FB_AXIS_tile k = n.val then s.deviation n k at_ else s) s
  allEmus.foldl (fun (s : State) (j : Fin 8) =>
    if s.flag R.EMU_CFG_enable j ∧ s.get R.EMU_CFG_tile j = n.val then s.emuShow j else s) s

/-- A DWELL at the end of its n-th tick (R55). -/
def dwellEndOf (s : State) (n : Fin 64) : State :=
  match (s.plan n).exec with
  | some e =>
    if segType e.seg = 4 ∧ e.stop = .none ∧ e.seg.w1 ≤ e.ticks then s.endAtRest n endDone e false s.tickEnd else s
  | none => s

/-- A VELOCITY at the end of its duration brakes to rest as for STOP (R55). -/
def velocityDurationEndOf (s : State) (n : Fin 64) : State :=
  match (s.plan n).exec with
  | some e =>
    if segType e.seg = 3 ∧ e.stop = .none ∧ e.seg.w1 ≠ 0 ∧ e.seg.w1 ≤ e.ticks then s.brake n .durationEnd 0 0 else s
  | none => s

/-- The segment words of a SEGMENT descriptor (R466). -/
def descSeg (d : Desc) : Seg := segOfBytes (d.slot.drop 0x20)

/-- A segment of a descriptor takes a trail slot; a tracked one then waits for its retirement (R33, R469). -/
def placeTracked (s : State) (d : Desc) (g : Seg) : State :=
  let ptr := s.tail d.tile
  let res := 0xFF + 256 * ptr + 2 ^ 32 * (s.now % 2 ^ 32)
  let s := s.placeSeg d.tile g
  if d.ref.track then (s.track d.ref (.segment d.tile ptr)).accepted d.ref res
  else s.complete d.ref 0x00 res

/-- A leader's member segment takes a trail slot with its full release time (R85, R86); one that R107 discards is placed and
retires at the head without starting. -/
def placeGroup (s : State) (n : Fin 64) (g : Seg) (release : Option Nat) (drop : Bool) : State :=
  let ptr := s.tail n
  let s := s.placeSeg n g
  s.modPlan n fun p => { p with
    slots := p.slots.map fun q => if q.1 = ptr then (q.1, q.2.1, release) else q
    discard := if drop then p.discard ++ [(ptr, endEpoch)] else p.discard }

/-- A leader's member segment is placed, or held while the trail is full (R34). -/
def deliverGroup (s : State) (n : Fin 64) (g : Seg) (release : Option Nat) (drop : Bool := false) : State :=
  if 1024 ≤ s.trailCount n ∨ s.hamper.heldGroup.any (fun h => decide (h.1 = n.val)) then
    { s with hamper := { s.hamper with heldGroup := s.hamper.heldGroup ++ [(n.val, g, release, drop)] } }
  else s.placeGroup n g release drop

/-- The first held segment of a tile is placed once its trail has a free slot (R34). -/
def heldPlaceOf (s : State) (n : Fin 64) : State :=
  match s.hamper.heldGroup.find? fun h => decide (h.1 = n.val) with
  | some h =>
    if 1024 ≤ s.trailCount n then s
    else { s with hamper := { s.hamper with heldGroup := s.hamper.heldGroup.erase h } }.placeGroup n h.2.1 h.2.2.1 h.2.2.2
  | none =>
  match s.hamper.heldSegs.find? fun d => decide (d.tile = n) with
  | none => s
  | some d =>
    if 1024 ≤ s.trailCount n then s
    else
      let s := { s with hamper := { s.hamper with heldSegs := s.hamper.heldSegs.erase d } }
      s.placeTracked d (descSeg d)

/-- The tile's condition for a position write, at the start of a tick (R58). -/
def mayWritePos (s : State) (n : Fin 64) : Bool :=
  let st := s.st n
  (st = stAsleep || st = stIdle || st = stHolding || st = stLull) && (s.plan n).exec.isNone &&
    !(st = stHolding && (s.headReady n s.tickStart || ((s.plan n).held.isSome && s.retryReady n s.tickStart))) &&
    decide ((s.plan n).startedOn ≠ some s.tickStart)

/-- Put the position at a 32.32 value that is not reached by motion (R58): V and A zero, no firing.
Log: DEDUCED notes/assumptions/39.md. -/
def commitPos (s : State) (n : Fin 64) (v : Int) : State :=
  let was := s.pos32 n
  let s := s.modPlan n fun p => { p with p := v * p38, v := 0, a := 0 }
  let s := ((s.syncPos n).syncRates n 1 1).sundialClear n
  let s := (s.posJumped n was).shiftRan n (v - was)
  s.retakeSides n

/-- A waiting position write is judged (R58). -/
def positionWriteOf (s : State) (n : Fin 64) : State :=
  match (s.plan n).posWrite with
  | none => s
  | some v =>
    let ok := s.mayWritePos n
    let s := s.modPlan n fun p => { p with posWrite := none }
    if ok then s.commitPos n (signed 64 v) else s.setFlag R.TRAIL_STATUS_pos_write_refused true n

/-- REPLACE_CTL.go: a replacement with the register values (R64, R65). -/
def targetReplaceOf (s : State) (n : Fin 64) : State :=
  let t := signed 64 (s.get64 R.REPLACE_LO_new_frac R.REPLACE_HI_new_int n)
  let lim := if s.flag R.REPLACE_CTL_new_limits n then
    some (s.get R.REPLACE_VEL_value n, s.get R.REPLACE_ACC_value n, s.get R.REPLACE_JERK_value n) else none
  (s.replaceTarget n (s.get R.REPLACE_CTL_ptr n) t lim).2

/-- A cap written by the host or a Hiker core (R60, R215), and the member's new scale request (R93).
Log: DEDUCED notes/assumptions/39.md. -/
def capWriteOf (s : State) (n : Fin 64) (ofVel : Bool) (v : Word) : State :=
  if ofVel then s.writeCapV n (v.toNat % 2 ^ 31) else (s.set R.PLAN_CAP_A_cap_a v.toNat n).scaleRequest n

/-- A write of POS_EVTk_CFG arms or disarms slot k (R73). -/
def posEventArmOf (s : State) (n : Fin 64) (k : Fin 8) (v : Word) : State :=
  let w := v.toNat
  let s := s.set (R.POS_EVT_CFG_enable.nth k) (bits w 31 31) n
  let s := s.set (R.POS_EVT_CFG_each.nth k) (bits w 30 30) n
  let s := s.set (R.POS_EVT_CFG_dir.nth k) (bits w 29 28) n
  let s := s.set (R.POS_EVT_CFG_band.nth k) (bits w 23 0) n
  if bit w 31 then
    let side := armedSide (bits w 29 28) (s.getInt (R.POS_EVT_THR_threshold.nth k) n) (bits w 23 0) (s.posInt n)
    (s.setBit R.POS_EVT_STATUS_armed k true n).setEvtSlot n k { side := side, rose := none, fell := none }
  else s.setBit R.POS_EVT_STATUS_armed k false n

end State

/-- SEGMENT_START (R37). -/
def execSegmentStart (n : Fin 64) (s : State) : Res := .next (s.startDue n s.tickStart)

/-- DWELL_END (R55). -/
def execDwellEnd (n : Fin 64) (s : State) : Res := .next (s.dwellEndOf n)

/-- VELOCITY_DURATION_END (R55). -/
def execVelocityDurationEnd (n : Fin 64) (s : State) : Res := .next (s.velocityDurationEndOf n)

/-- HELD_SEGMENT_PLACE (R34). -/
def execHeldSegmentPlace (n : Fin 64) (s : State) : Res := .next (s.heldPlaceOf n)

/-- STOP (R43, R45). -/
def execStop (n : Fin 64) (s : State) : Res := .next (s.trailCmd n 1).2

/-- ABORT (R43, R45). -/
def execAbort (n : Fin 64) (s : State) : Res := .next (s.trailCmd n 2).2

/-- FLUSH (R43). -/
def execFlush (n : Fin 64) (s : State) : Res := .next (s.trailCmd n 3).2

/-- FREEZE (R43). -/
def execFreeze (n : Fin 64) (s : State) : Res := .next (s.trailCmd n 4).2

/-- RESUME (R43). -/
def execResume (n : Fin 64) (s : State) : Res := .next (s.trailCmd n 5).2

/-- RESUME_RETRY (R43, R77). -/
def execResumeRetry (n : Fin 64) (s : State) : Res := .next (s.trailCmd n 6).2

/-- POSITION_WRITE (R58). -/
def execPositionWrite (n : Fin 64) (s : State) : Res := .next (s.positionWriteOf n)

/-- TARGET_REPLACE (R65). -/
def execTargetReplace (n : Fin 64) (s : State) : Res := .next (s.targetReplaceOf n)

/-- PLAN_CAP_WRITE (R60): `ofVel` names PLAN_CAP_V, else PLAN_CAP_A. -/
def execPlanCapWrite (n : Fin 64) (ofVel : Bool) (v : Word) (s : State) : Res := .next (s.capWriteOf n ofVel v)

/-- POS_EVENT_ARM (R73). -/
def execPosEventArm (n : Fin 64) (k : Fin 8) (v : Word) (s : State) : Res := .next (s.posEventArmOf n k v)

end Sys2Proof.Machine
end

