-- ==== Sys2Proof/Machine/TileState.lean ====
section
/-! DEFINITION. The commands that move a tile between its states (01_how_a_move_travels.md R16 to R30, with R128, R281
and R691). -/

namespace Sys2Proof.Machine
namespace State

/-- sleep_delay has run in Idle since the trail became empty (R20, R21). -/
def sleepRun (s : State) (n : Fin 64) : Bool :=
  let c := (s.tile n).cur
  let d := s.get R.TILE_TIMEOUTS_sleep_delay n
  decide (d ≠ 0) && decide (max c.enteredAt c.emptyAt + 10000000 * d ≤ s.now)

/-- hold_timeout has run in Holding since the trail became empty and not frozen (R20, R21). -/
def holdRun (s : State) (n : Fin 64) : Bool :=
  let c := (s.tile n).cur
  let d := s.get R.TILE_TIMEOUTS_hold_timeout n
  decide (d ≠ 0) && decide (max c.enteredAt (max c.emptyAt c.thawedAt) + 1000000000 * d ≤ s.now)

/-- sleep_delay expires in Idle with an empty trail (R20 to R22); entry waits for the end of a locked sequence of the
tile's core (R426). Log: DEDUCED notes/assumptions/37.md. -/
def sleepExpiry (s : State) (n : Fin 64) : State :=
  if s.dawnDone ∧ s.st n = stIdle ∧ s.trailCount n = 0 ∧ s.sleepRun n ∧ ¬ (s.tile n).cur.energising ∧
      ¬ (s.core (coreIx n)).lock.isSome ∧ (s.core (coreIx n)).deferred ≠ some true then
    s.goState n stAsleep s.now
  else s

/-- Begin the de-energising transition (R128). -/
def deEnergise (s : State) (n : Fin 64) : State :=
  if s.st n = stHolding ∧ ¬ (s.tile n).cur.deenergising then
    (s.modCur n fun c => { c with deenergising := true, belowLoA := false, belowLoB := false }).showLevel n
  else s

/-- hold_timeout expires with an empty trail that is not frozen (R21, R22). -/
def holdExpiry (s : State) (n : Fin 64) : State :=
  if s.st n = stHolding ∧ s.trailCount n = 0 ∧ ¬ s.frozen n ∧ s.holdRun n then s.deEnergise n else s

/-- The tile's clocks run after a wake request: Asleep to Idle (R22, R23). -/
def wakeDone (s : State) (n : Fin 64) : State :=
  if s.st n = stAsleep ∧ (s.tile n).lull.wakePending ∧ s.deviceRuns ∧ s.dawnDone then
    (((s.modLull n fun l => { l with wakePending := false }).goState n stIdle s.now).haltLull n).energiseIfDue n
  else s

/-- The ramped code has reached hold, or the cap (R128, R154): Idle to Holding. -/
def energiseDone (s : State) (n : Fin 64) : State :=
  if s.st n = stIdle ∧ (s.tile n).cur.energising ∧ ¬ s.flag R.CUR_STATUS_scale_invalid n ∧
      min (s.get R.CUR_LEVEL_hold n) (s.get R.CUR_CAP_cap n) ≤ s.levelCode n then
    let s := s.modCur n fun c => { c with energising := false, energisedAt := s.now }
    s.goState n stHolding s.now
  else s

/-- The ramped code has reached 0 and each phase has reached below lo in decay: Holding to Idle, gates OFF (R128). -/
def deenergiseDone (s : State) (n : Fin 64) : State :=
  let c := (s.tile n).cur
  if s.st n = stHolding ∧ c.deenergising ∧ c.ramped = 0 ∧ c.belowLoA ∧ c.belowLoB then
    (s.goState n stIdle s.now).energiseIfDue n
  else s

/-- The gate-off path lets go: every gate L, the legs next leave OFF under R254 (R276, R281). -/
def releaseGates (s : State) (n : Fin 64) : State :=
  let s := s.setFlag R.LEG_STATUS_brake_engaged false n
  let s := s.modLull n fun l => { l with brakeArmed := false, alarmCause := 0 }
  if s.pinsTaken then s
  else
    let s := (s.gatesLow n).setFlag R.LEG_STATUS_held_off false n
    s.setMaskBit R.LULL_MAP_LO_tiles_lo R.LULL_MAP_HI_tiles_hi n false

/-- The first plan tick that begins with every lull_source bit clear (R25, R281). -/
def lullExit (s : State) (n : Fin 64) : State :=
  if s.st n = stLull ∧ s.get R.TILE_STATE_lull_source n = 0 then
    let l := (s.tile n).lull
    let held := l.confHeld && decide (s.get R.HOME_TOL_lull_conf n ≤ s.get R.SD_CONF_conf n)
    let s := if l.fromMoving ∧ ¬ held then s.needHoming n else s
    let s := (s.releaseGates n).setFlag R.RIPPLE_STATUS_frozen false n
    s.goState n stIdle s.now
  else s

/-- While a segment executes, every segment behind it retires FLUSHED when it reaches the head (R33, R691). -/
def flushLater (s : State) (n : Fin 64) : State :=
  let h := s.head n
  let behind := (List.range (s.trailCount n - 1)).map fun i => ((h + 1 + i) % 2048, endFlushed)
  s.modPlan n fun p => { p with discard := p.discard ++ behind }

/-- TILE_RESET (R22, R27, R691), with the outcome of the tile self-check. In Fault with a Lull source latched it does
nothing yet; outside Fault it clears and flushes without a transition. Log: DEDUCED notes/assumptions/39.md. -/
def tileResetOf (s : State) (n : Fin 64) (pass : Bool) : State :=
  if s.st n = stFault ∧ s.get R.TILE_STATE_lull_source n ≠ 0 then s
  else
    let s := s.set R.TILE_STATE_fault_cause 0 n
    let s := if s.st n = stMoving then s.flushLater n else s.flushWaiting n 1024
    let s := (((s.set R.CHOP_OFFSET_off_a 0 n).set R.CHOP_OFFSET_off_b 0 n).putThresholds n 0).putThresholds n 1
    let s := (s.sundialClear n).coreReset n
    if s.st n = stFault then
      if pass then ((s.releaseGates n).needHoming n).goState n stIdle s.now
      else (s.set R.TILE_STATE_fault_cause 0x03 n)
    else s

end State

/-- SLEEP_DELAY_EXPIRY (R22). -/
def execSleepDelayExpiry (n : Fin 64) (s : State) : Res := .next (s.sleepExpiry n)

/-- HOLD_TIMEOUT_EXPIRY (R22). -/
def execHoldTimeoutExpiry (n : Fin 64) (s : State) : Res := .next (s.holdExpiry n)

/-- WAKE_COMPLETE (R23). -/
def execWakeComplete (n : Fin 64) (s : State) : Res := .next (s.wakeDone n)

/-- ENERGISE_COMPLETE (R128). -/
def execEnergiseComplete (n : Fin 64) (s : State) : Res := .next (s.energiseDone n)

/-- DEENERGISE_COMPLETE (R128). -/
def execDeenergiseComplete (n : Fin 64) (s : State) : Res := .next (s.deenergiseDone n)

/-- TILE_LULL_EXIT (R281). -/
def execTileLullExit (n : Fin 64) (s : State) : Res := .next (s.lullExit n)

/-- SRAM_ECC_ERROR (R19). -/
def execSramEccError (n : Fin 64) (s : State) : Res := .next (s.tileFault n 0x01)

/-- LEG_SELFTEST_FAIL (R19). -/
def execLegSelftestFail (n : Fin 64) (s : State) : Res := .next (s.tileFault n 0x03)

/-- TILE_WAKE (R22). -/
def execTileWake (n : Fin 64) (s : State) : Res := .next (s.wakeRequest n)

/-- ENERGISE (R22). -/
def execEnergise (n : Fin 64) (s : State) : Res := .next (s.beginEnergise n)

/-- RELEASE (R22, R128). -/
def execRelease (n : Fin 64) (s : State) : Res := .next (s.deEnergise n)

/-- TILE_RESET (R691): `pass` is the outcome of the self-check. -/
def execTileReset (n : Fin 64) (pass : Bool) (s : State) : Res := .next (s.tileResetOf n pass)

end Sys2Proof.Machine
end

