-- ==== Sys2Proof/Machine/Windows.lean ====
section
/-! DEFINITION. The window monitors: results, trips, latches, captures, configuration and self-check
(10_window_monitors.md R323 to R343, 08_bridge_legs_and_trips.md R269, R270). -/

namespace Sys2Proof.Machine
namespace State

/-! ### Results -/

/-- The code of the full input range of a window's converter: 12 bits for windows 0 and 1, 10 bits otherwise (R323). -/
def winFull (w : Nat) : Nat := if w < 2 then 4096 else 1024

/-- above and below of an input at `level`, in sixteenths of a code: each sets at its threshold and clears past its hysteresis; with
`dir` below 0 both senses turn round (R326, R327). -/
def winCompare (dir : Int) (upper lower hyst : Nat) (above below : Bool) (level : Int) : Bool × Bool :=
  let up : Int := 16 * ((upper : Int) - if above then hyst else 0)
  let lo : Int := 16 * ((lower : Int) + if below then hyst else 0)
  if dir < 0 then (decide (level ≤ up), decide (lo ≤ level)) else (decide (up ≤ level), decide (level ≤ lo))

/-- The hysteresis that a hyst field chooses, in codes (R326). -/
def hystCodes (hyst : Nat) : Nat :=
  match hyst with
  | 0 => 0
  | 1 => 2
  | 2 => 4
  | _ => 8

/-- What a window reports under its test field (R338): a tie compares the lowest or the highest level with the thresholds, swap
turns each result round. `was` are its present results. -/
def winReport (test full : Nat) (dir : Int) (upper lower hyst : Nat) (was : Bool × Bool) (level : Int) : Bool × Bool :=
  match test with
  | 0 => winCompare dir upper lower hyst was.1 was.2 level
  | 1 => (fun r : Bool × Bool => (!r.1, !r.2)) (winCompare dir upper lower hyst (!was.1) (!was.2) level)
  | 2 => winCompare dir upper lower hyst was.1 was.2 0
  | _ => winCompare dir upper lower hyst was.1 was.2 (16 * (full : Int))

/-- The sense of window `w`'s comparisons: the chopper's dir on windows 0 and 1 (R327). -/
def winDir (s : State) (n : Fin 64) (w : Nat) : Int := if w = 0 then s.chopDir n 0 else if w = 1 then s.chopDir n 1 else 1

/-- Window `w` is blanked now; blanking acts only while the leg clock runs (R333). -/
def winBlanked (s : State) (n : Fin 64) (w : Nat) : Bool :=
  let e (x : Fin 2) : Nat := (s.chop n x).lastEdge
  let in_ (t ns : Nat) : Bool := decide (s.now < t + ns)
  (s.legs n).clocksRun[1] &&
    match w with
    | 0 => in_ (e 0) (5 * s.get R.CHOP_TIME_blank n)
    | 1 => in_ (e 1) (5 * s.get R.CHOP_TIME_blank n)
    | 2 => in_ (e 0) (5 * s.get R.LEG_TRIP_blank n)
    | 3 => in_ (e 1) (5 * s.get R.LEG_TRIP_blank n)
    | w => s.flag (R.WIN_CFG_blank_en.nth w) n && in_ (max (e 0) (e 1)) (5 * s.get (R.WIN_CFG_blank_w.nth w) n)

/-! ### Trip windows (R269, R270) -/

/-- Trip window `x` is enabled. -/
def tripEnabled (s : State) (n : Fin 64) (x : Fin 2) : Bool :=
  if x = 0 then s.flag R.LEG_TRIP_en_w0 n else s.flag R.LEG_TRIP_en_w1 n

/-- Trip window `x`'s sticky bit. -/
def tripSticky (s : State) (n : Fin 64) (x : Fin 2) : Bool :=
  if x = 0 then s.flag R.LEG_TRIP_sticky_w0 n else s.flag R.LEG_TRIP_sticky_w1 n

/-- Set or clear trip window `x`'s sticky bit. -/
def putTripSticky (s : State) (n : Fin 64) (x : Fin 2) (b : Bool) : State :=
  if x = 0 then s.setFlag R.LEG_TRIP_sticky_w0 b n else s.setFlag R.LEG_TRIP_sticky_w1 b n

/-- An enabled trip window's active output that is not blanked trips (R270). -/
def tripEval (s : State) (n : Fin 64) (x : Fin 2) : State :=
  if s.tripEnabled n x && s.tripActive n x && !s.winBlanked n (2 + x.val) then
    if s.tripSticky n x then s
    else
      let s := s.putTripSticky n x true
      let s := s.event 0x41 n (bytesLE 1 1 ++ bytesLE 1 x.val)
      (s.lullSource n 1).wakeFires 6
  else s

/-! ### Latches (R334 to R337) -/

/-- At least 1 ms of site time has passed since a window's last WINDOW event (R336). -/
def eventDue (s : State) (last : Option Nat) : Bool :=
  match last with
  | some t => decide (t + 1000000 ≤ s.now)
  | none => true

/-- A WINDOW event of window `w`, no more than one in 1 ms (R336). -/
def winEvent (s : State) (n : Fin 64) (w : Fin 6) : State :=
  if s.eventDue ((s.legs n).winEvent[w]) then
    (s.modLegs n fun l => { l with winEvent := l.winEvent.set w (some s.now) }).event 0x42 n
      (bytesLE 1 w ++ bytesLE 1 (s.get (R.WIN_CFG_cond.nth w) n) ++ bytesLE 1 (b2n (s.winAbove n w))
        ++ bytesLE 1 (b2n (s.winBelow n w)) ++ bytesLE 4 (s.get (R.WIN_CAP_time.nth w) n))
  else s.bump R.WIN_DROPPED_count n

/-- The latch of window `w` sets while its output condition holds and it is not blanked; its first setting captures,
interrupts and wakes (R334 to R337). -/
def winLatch (s : State) (n : Fin 64) (w : Fin 6) : State :=
  if ¬ (s.winRuns n w && decide (s.get (R.WIN_CFG_test.nth w) n = 0) &&
        condHolds (s.get (R.WIN_CFG_cond.nth w) n) (s.winAbove n w) (s.winBelow n w) && !s.winBlanked n w) then s
  else if s.fbit R.WIN_STATUS_latched w n then s
  else
    let s := s.setBit R.WIN_STATUS_latched w true n
    -- a firing of the window that push detection owns starts its 500 ms (R230)
    let s := if w = 5 ∧ s.flag R.WIN_STATUS_push_owned n ∧ (s.plan n).placed.1 ≠ s.tickStart then s.modForce n fun f => { f with pushAt := some s.now } else s
    let s := if s.flag (R.WIN_CFG_cap_en.nth w) n then
        (s.set (R.WIN_CAP_time.nth w) ((s.now - s.now % 5) % 2 ^ 32) n).setBit R.WIN_STATUS_cap_valid w true n else s
    let s := if s.flag (R.WIN_CFG_irq_en.nth w) n then (s.raiseLine n 0).winEvent n w else s
    if s.flag (R.WIN_CFG_wake_en.nth w) n then (s.wakeRequest n).wakeFires 2 else s

/-- 40 ns have not passed since a threshold code of a window changed (R329). -/
def thrHolds (s : State) (at_ : Option Nat) : Bool := at_.any fun t => decide (s.now < t + 40)

/-- Window `w` acts on the comparison of its input with its thresholds (R326 to R328): raw bits, chopper, trip path, latch. -/
def winAct (s : State) (n : Fin 64) (w : Fin 6) : State :=
  let s := s.modLegs n fun l => { l with thrAt := l.thrAt.set w none }
  let test := s.get (R.WIN_CFG_test.nth w) n
  let r := if s.winRuns n w then
      winReport test (winFull w) (s.winDir n w) (s.get (R.WIN_THR_upper.nth w) n) (s.get (R.WIN_THR_lower.nth w) n)
        (if w.val < 2 then 0 else hystCodes (s.get (R.WIN_CFG_hyst.nth w) n)) (s.winAbove n w, s.winBelow n w)
        (s.legs n).winLevel[w]
    else (false, false)
  let s := s.setRaw n w r.1 r.2
  let s := if w.val < 2 ∧ s.winRuns n w ∧ test = 0 then
      s.modChop n (if w = 0 then 0 else 1) fun c => { c with above := r.1, below := r.2 } else s
  let s := if w = 2 then (s.showTripActive n 0).tripEval n 0
    else if w = 3 then (s.showTripActive n 1).tripEval n 1 else s
  s.winLatch n w

/-- The input of tile window `w` is at `level`; within 40 ns of a change of its threshold codes the window holds its results and acts
on the comparison afterwards (R329). -/
def winResult (s : State) (n : Fin 64) (w : Fin 6) (level : Int) : State :=
  let s := s.modLegs n fun l => { l with winLevel := l.winLevel.set w level }
  if s.thrHolds (s.legs n).thrAt[w] then s else s.winAct n w

/-- The windows of a tile that run and whose 40 ns have passed act on the comparison with their new thresholds (R329). -/
def endHolds (s : State) (n : Fin 64) : State :=
  ([0, 1, 2, 3, 4, 5] : List (Fin 6)).foldl (fun (s : State) (w : Fin 6) =>
    if (s.legs n).thrAt[w].isNone || s.thrHolds (s.legs n).thrAt[w] || !s.winRuns n w then s else s.winAct n w) s

/-! ### House windows (R324, R342, R603) -/

/-- above of house window `h`. -/
def hwinAbove (s : State) (h : Nat) : Bool := s.fbit R.HWIN_STATUS_raw (2 * h + 1)

/-- below of house window `h`. -/
def hwinBelow (s : State) (h : Nat) : Bool := s.fbit R.HWIN_STATUS_raw (2 * h)

/-- House window `h`'s output condition holds and reaches its latch. -/
def hwinHolds (s : State) (h : Nat) : Bool :=
  s.hwinRuns h && decide (s.get R.HWIN_CFG_test h = 0) &&
    condHolds (s.get R.HWIN_CFG_cond h) (s.hwinAbove h) (s.hwinBelow h)

/-- supply_good follows house window 0's above, and the time since which it holds is kept (R607); a rise is a wake source (R600, R601). -/
def showSupply (s : State) : State :=
  let good := s.hwinAbove 0
  let rose := good && !s.flag R.PWR_STATUS_supply_good
  let s := if rose then s.wakeFires 5 else s
  let from_ := if rose then some s.now else if good then s.lookout.goodFrom else none
  let s : State := { s with lookout := { s.lookout with goodFrom := from_ } }
  (s.setFlag R.PWR_STATUS_supply_good good).setFlag R.PWR_STATUS_dusk_armed
    (decide (s.get R.HWIN_THR_lower 0 ≠ 0))

/-- A WINDOW event of house window `h`, no more than one in 1 ms (R336, R342). -/
def hwinEventOf (s : State) (h : Fin 8) : State :=
  if s.eventDue (s.hwinEvent[h]) then
    { s with hwinEvent := s.hwinEvent.set h (some s.now) }.event 0x42 0xFF
      (bytesLE 1 (0x80 + h) ++ bytesLE 1 (s.get R.HWIN_CFG_cond h) ++ bytesLE 1 (b2n (s.hwinAbove h))
        ++ bytesLE 1 (b2n (s.hwinBelow h)) ++ bytesLE 4 (s.get R.HWIN_CAP_time h))
  else s

/-- The latch of house window `h` (R334 to R337, R342); a latch of windows 1 to 6 writes a SUPPLY event (R603). -/
def hwinLatch (s : State) (h : Fin 8) : State :=
  if ¬ s.hwinHolds h ∨ s.fbit R.HWIN_STATUS_latched h then s
  else
    let s := s.setBit R.HWIN_STATUS_latched h true
    let s := if s.flag R.HWIN_CFG_cap_en h then
        (s.set R.HWIN_CAP_time ((s.now - s.now % 10) % 2 ^ 32) h).setBit R.HWIN_STATUS_cap_valid h true else s
    let s := if s.flag R.HWIN_CFG_irq_en h then s.hwinEventOf h else s
    let s := if 1 ≤ h.val ∧ h.val ≤ 6 then
        s.event 0x83 0xFF (bytesLE 1 h ++ bytesLE 1 (b2n (s.hwinAbove h)) ++ bytesLE 1 (b2n (s.hwinBelow h))) else s
    if s.flag R.HWIN_CFG_wake_en h then s.wakeFires 2 else s

/-- House window `h` acts on the comparison of its input with its thresholds (R326). -/
def hwinAct (s : State) (h : Fin 8) : State :=
  let s : State := { s with hwinThrAt := s.hwinThrAt.set h none }
  let r := if s.hwinRuns h then
      winReport (s.get R.HWIN_CFG_test h) 1024 1 (s.get R.HWIN_THR_upper h) (s.get R.HWIN_THR_lower h)
        (hystCodes (s.get R.HWIN_CFG_hyst h)) (s.hwinAbove h, s.hwinBelow h) s.hwinLevel[h]
    else (false, false)
  let s := (s.setBit R.HWIN_STATUS_raw (2 * h + 1) r.1).setBit R.HWIN_STATUS_raw (2 * h) r.2
  (if h = 0 then s.showSupply else s).hwinLatch h

/-- The input of house window `h` is at `level`, its results held for 40 ns after a change of its threshold codes (R329). -/
def hwinResult (s : State) (h : Fin 8) (level : Int) : State :=
  let s : State := { s with hwinLevel := s.hwinLevel.set h level }
  if s.thrHolds s.hwinThrAt[h] then s else s.hwinAct h

/-- The house windows that run and whose 40 ns have passed act on the comparison with their new thresholds (R329). -/
def endHouseHolds (s : State) : State :=
  ([0, 1, 2, 3, 4, 5, 6, 7] : List (Fin 8)).foldl (fun (s : State) (h : Fin 8) =>
    if s.hwinThrAt[h].isNone || s.thrHolds s.hwinThrAt[h] || !s.hwinRuns h then s else s.hwinAct h) s

/-- What the clocks of a tile bring about by themselves from `old` to the present: samples, the index within a tick, the ends of
refresh pulses and of held window results (R111, R137, R149, R329). Log: DESIGN CHOICE notes/assumptions/12.md. -/
def clockTile (old : Nat) (n : Fin 64) (s : State) : State :=
  let s := (s.capture n old).clockPhase n
  let s := if (s.legs n).refresh = 0 then s else s.endRefresh n
  if (s.legs n).thrAt.toList.all Option.isNone then s else s.endHolds n

/-- What the clocks bring about by themselves from `old` to the present. -/
def clockAll (s : State) (old : Nat) : State :=
  (s.forTiles allTiles (clockTile old)).endHouseHolds

/-- Clear the latch of house window `h` unless its condition holds (R334, R343). -/
def hwinClear (s : State) (h : Nat) : State :=
  if s.hwinHolds h then s
  else (s.setBit R.HWIN_STATUS_latched h false).setBit R.HWIN_STATUS_cap_valid h false

/-- A write of WIN_STATUS: W1C latches with the software route, W1C cfg_refused (R334, R341). -/
def writeWinStatus (s : State) (n : Fin 64) (v : Nat) : State :=
  let s := [0, 1, 2, 3, 4, 5].foldl (fun (s : State) w =>
    if v.testBit (24 + w) ∧ s.get (R.WIN_CFG_clr.nth w) n = 0 then s.winClear n w else s) s
  if v.testBit 3 then s.setFlag R.WIN_STATUS_cfg_refused false n else s

/-- A write of HWIN_STATUS (R342). -/
def writeHwinStatus (s : State) (v : Nat) : State :=
  (List.range 8).foldl (fun (s : State) h => if v.testBit (24 + h) then s.hwinClear h else s) s

/-! ### Configuration (R334, R337 to R340, R342) -/

/-- The trip and Lull configuration takes no write from this requester (R273). -/
def tripLocked (s : State) (canopy : Bool) : Bool := s.flag R.TRIP_LOCK_lock && !canopy

/-- A refused window write (R341). -/
def refuseWin (s : State) (n : Fin 64) : State := s.setFlag R.WIN_STATUS_cfg_refused true n

/-- The bits of WIN_CFGw that exist for window `w` (R340). -/
def winCfgMask (w : Nat) : Nat :=
  0xFF800000 + (if 2 ≤ w then 0x00600000 else 0) + (if w = 5 then 0x00180000 else 0) + (if 4 ≤ w then 0x0007FC00 else 0)

/-- The locked bits of WIN_CFGw: cond, clr and hyst of the trip windows (R340). -/
def winCfgLocked (w : Nat) : Nat := if w = 2 ∨ w = 3 then 0xF0600000 else 0

/-- The bits of `old` under `mask`, the rest from `new`. -/
def keepBits (mask old new : Nat) : Nat := (old &&& mask) ||| (new &&& (0xFFFFFFFF - mask))

/-- A changed test field leaves the raw bits undefined for 1 µs, after which the window acts on its comparison (R338).
Log: DESIGN CHOICE notes/assumptions/38.md. -/
def freeRaw (s : State) (n : Fin 64) (w : Fin 6) : State :=
  let r := s.fresh
  (r.2.setRaw n w (r.1.testBit 0) (r.1.testBit 1)).modLegs n fun l => { l with thrAt := l.thrAt.set w (some (s.now + 960)) }

/-- A write of WIN_CFGw (R334, R337, R339, R340); with no window left in test a tile that waits for it energises (R22). Log: DESIGN CHOICE notes/assumptions/38.md. -/
def writeWinCfg (s : State) (n : Fin 64) (w : Fin 6) (v : Word) (canopy : Bool) : State :=
  let old := (s.rd (R.WIN_CFG.at n w)).toNat
  let v := v.toNat &&& winCfgMask w
  let v := if s.tripLocked canopy then keepBits (winCfgLocked w) old v else v
  let test := bits v 24 23
  if w = 5 ∧ s.flag R.WIN_STATUS_push_owned n then (if test = 0 then s else s.refuseWin n)
  else if (4 ≤ w.val ∧ bits v 29 28 = 1) ∨ (w.val < 4 ∧ bit v 25) ∨ (test ≠ 0 ∧ s.st n ≠ stIdle ∧ s.st n ≠ stLull) ∨
      (test ≠ 0 ∧ (s.tile n).cur.energising) then s.refuseWin n
  else
    let s := s.wr (R.WIN_CFG.at n w) (BitVec.ofNat 32 v)
    let s := if test ≠ bits old 24 23 then s.freeRaw n w else if bits v 22 21 ≠ bits old 22 21 then s.stirWindow n w else s
    let s := if w = 2 then s.showTripActive n 0 else if w = 3 then s.showTripActive n 1 else s
    ((s.showLowPower n).winLatch n w).energiseIfDue n

/-- A write of WIN_THRw (R131, R340). -/
def writeWinThr (s : State) (n : Fin 64) (w : Fin 6) (v : Word) (canopy : Bool) : State :=
  if (w.val < 2 ∧ s.energised n) ∨ (w = 5 ∧ s.flag R.WIN_STATUS_push_owned n) ∨
      ((w = 2 ∨ w = 3) ∧ s.tripLocked canopy) then s
  else
    let old := s.rd (R.WIN_THR.at n w)
    let s := s.wr (R.WIN_THR.at n w) (v &&& (if w.val < 2 then 0x0FFF0FFF else 0x03FF03FF))
    if s.rd (R.WIN_THR.at n w) = old then s else s.modLegs n fun l => { l with thrAt := l.thrAt.set w (some s.now) }

/-- The bits of HWIN_CFGh that exist (R342). -/
def hwinCfgMask (h : Nat) : Nat := 0xFE600000 + (if h = 0 then 0 else 0x01800000) + (if h = 7 then 0x001C0000 else 0)

/-- A write of HWIN_CFGh (R334, R339, R342); a refused one changes nothing. -/
def writeHwinCfg (s : State) (h : Fin 8) (v : Word) (canopy : Bool) : State :=
  let old := (s.rd (R.HWIN_CFG.at h)).toNat
  let w := v.toNat &&& hwinCfgMask h
  if (h = 0 ∧ s.tripLocked canopy) ∨ bits w 29 28 ≠ 0 ∨ (h = 0 ∧ bits v.toNat 24 23 ≠ 0) then s
  else
    let s := s.wr (R.HWIN_CFG.at h) (BitVec.ofNat 32 w)
    let s := if bits w 24 23 = bits old 24 23 then (if bits w 22 21 = bits old 22 21 then s else s.stirHouseWindow h)
      else
        let r := s.fresh
        let s := (r.2.setBit R.HWIN_STATUS_raw (2 * h + 1) (r.1.testBit 0)).setBit R.HWIN_STATUS_raw (2 * h) (r.1.testBit 1)
        { s with hwinThrAt := s.hwinThrAt.set h (some (s.now + 960)) }
    s.hwinLatch h

/-- A write of HWIN_THRh (R342). -/
def writeHwinThr (s : State) (h : Fin 8) (v : Word) (canopy : Bool) : State :=
  if h = 0 ∧ s.tripLocked canopy then s
  else
    let old := s.rd (R.HWIN_THR.at h)
    let s := s.wr (R.HWIN_THR.at h) (v &&& 0x03FF03FF)
    let s : State := if s.rd (R.HWIN_THR.at h) = old then s else { s with hwinThrAt := s.hwinThrAt.set h (some s.now) }
    if h = 0 then s.showSupply else s

/-- The input of a window of either kind. -/
def windowReports (s : State) (r : WinRef) (level : Int) : State :=
  match r with
  | .tile n w => s.winResult n w level
  | .house h => s.hwinResult h level

end State

/-- WINDOW_LATCH_SET (R334): the comparators of a window see their input at `code` and `part` sixteenths.
Log: DESIGN CHOICE notes/assumptions/102.md. -/
def execWindowLatchSet (r : WinRef) (code : Int) (part : Fin 16) (s : State) : Res := .next (s.windowReports r (levelOf code part))

/-- WIN_LATCH_CLEAR (R334): a write of WIN_STATUS or HWIN_STATUS. -/
def execWinLatchClear (r : WinSet) (v : Word) (s : State) : Res :=
  .next (match r with
    | .tile n => s.writeWinStatus n v.toNat
    | .house => s.writeHwinStatus v.toNat)

/-- WIN_TEST_WRITE (R339): a host write of a window's configuration word. -/
def execWinTestWrite (r : WinRef) (v : Word) (s : State) : Res :=
  .next (match r with
    | .tile n w => s.writeWinCfg n w v false
    | .house h => s.writeHwinCfg h v false)

end Sys2Proof.Machine
end

