-- ==== Sys2Proof/Machine/Legs.lean ====
section
/-! DEFINITION. Bridge legs, trips and the release of Lull sources (08_bridge_legs_and_trips.md R249 to R283). -/

namespace Sys2Proof.Machine
namespace State

/-! ### Leg registers -/

/-- A write of LEG_OVR (R259). -/
def writeLegOvr (s : State) (n : Fin 64) (v : Word) : State :=
  ((s.setFlag R.LEG_OVR_enable (bit v.toNat 31) n).set R.LEG_OVR_gates (bits v.toNat 7 0) n).updateGates n

/-- A write of PWM_PERIOD; outside 1,000 to 25,000 it is refused (R255). -/
def writePwmPeriod (s : State) (n : Fin 64) (v : Word) : State :=
  let p := bits v.toNat 15 0
  if 1000 ≤ p ∧ p ≤ 25000 then (s.set R.PWM_PERIOD_period p n).modLegs n fun l => { l with wroteAt := some s.now } else s.setFlag R.LEG_STATUS_cfg_refused true n

/-- A write of PWM_PHASE (R255). -/
def writePwmPhase (s : State) (n : Fin 64) (v : Word) : State :=
  (s.set R.PWM_PHASE_phase (bits v.toNat 15 0) n).modLegs n fun l => { l with wroteAt := some s.now }

/-- A write of LEG_CTL: the Lull choice locks with TRIP_LOCK (R273, R274). -/
def writeLegCtl (s : State) (n : Fin 64) (v : Word) (canopy : Bool) : State :=
  let s := s.set R.LEG_CTL_precharge (bits v.toNat 15 8) n
  if s.tripLocked canopy then s
  else ((s.setFlag R.LEG_CTL_lull_brake (bit v.toNat 31) n).setFlag R.LEG_CTL_win_off (bit v.toNat 30) n).rechoose n

/-- The low side of leg `k` has been on for precharge (R254). -/
def precharged (s : State) (n : Fin 64) (k : Nat) : Bool :=
  s.fbit R.LEG_STATUS_gates (2 * k) n &&
    decide ((s.legs n).onAt.toList.getD (2 * k) 0 + 1000 * s.get R.LEG_CTL_precharge n ≤ s.now)

/-- The precharge ends of the legs whose low sides have been on for its time; high sides may turn on (R254). -/
def endPrecharge (s : State) (n : Fin 64) : State :=
  let left := legsOf (s.legs n).pre fun k => !s.precharged n k
  ((s.modLegs n fun l => { l with pre := left }).setFlag R.LEG_STATUS_precharging (decide (left ≠ 0)) n).updateGates n

/-- A write of LEG_STATUS: its W1C bits; a leg that LEG_OVR still names both gates of is blocked again (R252, R260). -/
def writeLegStatus (s : State) (n : Fin 64) (v : Word) : State :=
  let s := if bit v.toNat 13 then s.setFlag R.LEG_STATUS_cfg_refused false n else s
  let keep := s.get R.LEG_STATUS_st_blocked n &&& (15 - bits v.toNat 11 8)
  (s.set R.LEG_STATUS_st_blocked keep n).updateGates n

/-- The BRAKE delay line expires: the four low sides turn on (R274). -/
def engageBrake (s : State) (n : Fin 64) : State :=
  if s.flag R.LEG_STATUS_held_off n && (s.tile n).lull.brakeArmed && s.brakeChoice n && !s.pinsTaken && s.tilesEnabled then
    let s := s.modLull n fun l => { l with brakeArmed := false }
    let s := ([0, 2, 4, 6] : List (Fin 8)).foldl (fun (s : State) i => s.putGate n i true) s
    s.setFlag R.LEG_STATUS_brake_engaged true n
  else s

/-! ### Trip pins (R264 to R268) -/

/-- The filtered level of pin `k` is active. -/
def pinActive (s : State) (k : Fin 16) : Bool := s.pinHigh[k] != s.flag R.TRIP_CFG_active_low k

/-- Pin `k` is routed to tile `n` (R266). -/
def pinRouted (s : State) (k : Nat) (n : Fin 64) : Bool :=
  s.maskBit R.TRIP_ROUTE_LO_tiles_lo R.TRIP_ROUTE_HI_tiles_hi n k

/-- A sticky pin is routed to tile `n` (R268). -/
def stickyRouted (s : State) (n : Fin 64) : Bool :=
  (List.range 16).any fun k => s.fbit R.TRIP_STICKY_sticky k && s.pinRouted k n

/-- lull_source bit [16] of every tile follows the sticky pins routed to it (R268, R279). -/
def refreshPins (s : State) : State :=
  s.forTiles allTiles fun n s =>
    if s.stickyRouted n = s.fbit R.TILE_STATE_lull_source 0 n then s
    else if s.stickyRouted n then s.lullSource n 0 else s.releaseLull n 0

/-- The TRIP event of pin `k`; in Night it waits for the wake (R268). -/
def reportTrip (s : State) (k : Fin 16) : State :=
  if s.get R.PWR_STATUS_state = 3 then
    { s with lookout := { s.lookout with nightTrips := s.lookout.nightTrips ||| 2 ^ k.val } }
  else s.event 0x41 0xFF (bytesLE 1 0 ++ bytesLE 1 k)

/-- Pin `k` trips: its sticky bit, its TRIP event, and every routed tile to Lull (R268). -/
def pinTrip (s : State) (k : Fin 16) : State :=
  if s.fbit R.TRIP_STICKY_sticky k then s
  else
    let s := s.setBit R.TRIP_STICKY_sticky k true
    (s.reportTrip k).refreshPins.wakeFires 6

/-- The level bit of pin `k`, and its trip when it is enabled and active (R267, R268). -/
def evalPin (s : State) (k : Fin 16) : State :=
  let on := s.flag R.TRIP_CFG_enable k && s.pinActive k
  let s := s.setBit R.TRIP_STICKY_level k on
  if on then s.pinTrip k else s

/-- The filtered level of pin `k` changes (R265, R268, R272). -/
def pinLevel (s : State) (k : Fin 16) (high : Bool) : State :=
  let was := s.pinActive k
  let s := { s with pinHigh := s.pinHigh.set k high }
  let s := if was && !s.pinActive k then { s with pinFrom := s.pinFrom.set k s.now } else s
  s.evalPin k

/-- A write of TRIP_CFGk (R264, R268, R273). -/
def writeTripCfg (s : State) (k : Fin 16) (v : Word) (canopy : Bool) : State :=
  if s.tripLocked canopy then s
  else
    let was := s.pinActive k
    let s := s.wr (R.TRIP_CFG.at k) (v &&& 0xF000FF00)
    let s := if was && !s.pinActive k then { s with pinFrom := s.pinFrom.set k s.now } else s
    s.evalPin k

/-- A committed write of pin `k`'s route (R266, R268, R273). -/
def writeTripRoute (s : State) (k : Nat) (lo hi : Word) (canopy : Bool) : State :=
  if s.tripLocked canopy then s
  else ((s.wr (R.TRIP_ROUTE_LO.at k) lo).wr (R.TRIP_ROUTE_HI.at k) hi).refreshPins

/-- Pin `k`'s filtered level has been inactive for its qual (R272). -/
def pinQualifies (s : State) (k : Fin 16) : Bool :=
  !s.pinActive k && decide (s.pinFrom[k] + 1000 * max 1 (s.get R.TRIP_CFG_qual k) ≤ s.now)

/-- A W1C write of TRIP_STICKY (R272). -/
def clearPins (s : State) (v : Nat) : State :=
  let asked := (List.finRange 16).filter fun (k : Fin 16) => v.testBit k.val && s.fbit R.TRIP_STICKY_sticky k.val
  let refused := asked.filter fun k => !s.pinQualifies k
  let s := (asked.filter s.pinQualifies).foldl (fun (s : State) (k : Fin 16) => s.setBit R.TRIP_STICKY_sticky k false) s
  let s := if refused.isEmpty then s
    else (s.set R.TRIP_CLEAR_REFUSED_last ((refused.map fun k => 2 ^ k.val).sum)).bump R.TRIP_CLEAR_REFUSED_count
  s.refreshPins

/-! ### Trip windows' sticky bits and configuration (R269, R272, R273) -/

/-- Trip window `x`'s outside condition has been absent for LEG_TRIP.qual (R272). -/
def tripQualifies (s : State) (n : Fin 64) (x : Fin 2) : Bool :=
  !s.tripActive n x && decide ((s.legs n).tripFrom[x] + 1000 * max 1 (s.get R.LEG_TRIP_qual n) ≤ s.now)

/-- A clear was refused (R272, R280). -/
def countRefused (s : State) (n : Fin 64) : State := s.bump R.CLEAR_REFUSED_count n

/-- A W1C write of LEG_TRIP's sticky bits (R272, R279). -/
def clearTripWindows (s : State) (n : Fin 64) (v : Nat) : State :=
  let asked := ([0, 1] : List (Fin 2)).filter fun x => v.testBit (8 + x.val) && s.tripSticky n x
  let refused := asked.filter fun x => !s.tripQualifies n x
  let s := (asked.filter fun x => s.tripQualifies n x).foldl (fun (s : State) (x : Fin 2) => s.putTripSticky n x false) s
  let s := if refused.isEmpty then s
    else (s.set R.CLEAR_REFUSED_last_win ((refused.map fun x => 2 ^ x.val).sum) n).countRefused n
  if s.fbit R.TILE_STATE_lull_source 1 n ∧ ¬ s.tripSticky n 0 ∧ ¬ s.tripSticky n 1 then s.releaseLull n 1 else s

/-- A write of LEG_TRIP: its configuration while unlocked, and its sticky bits (R269, R272, R273). -/
def writeLegTrip (s : State) (n : Fin 64) (v : Word) (canopy : Bool) : State :=
  let s := if s.tripLocked canopy then s
    else
      let s := (s.setFlag R.LEG_TRIP_en_w1 (bit v.toNat 31) n).setFlag R.LEG_TRIP_en_w0 (bit v.toNat 30) n
      let s := (s.set R.LEG_TRIP_blank (bits v.toNat 29 22) n).set R.LEG_TRIP_qual (bits v.toNat 21 14) n
      (s.tripEval n 0).tripEval n 1
  s.clearTripWindows n v.toNat

/-! ### Clock-stop monitor (R277) and LULL_CLR (R279, R280) -/

/-- The tile clock (0) or the leg clock (1) of a tile stops or runs again (R277). A stopped clock of a tile that is not
Asleep latches lull_source bit [21]; a blanked trip window acts at once (R270, R343). -/
def clockChange (s : State) (n : Fin 64) (leg : Bool) (stops : Bool) : State :=
  let x : Fin 2 := if leg then 1 else 0
  let s := s.modLegs n fun l => { l with clocksRun := l.clocksRun.set x (!stops),
                                         clockFrom := if stops then l.clockFrom else l.clockFrom.set x s.now }
  let s := if leg && stops then (s.tripEval n 0).tripEval n 1 else s
  if stops ∧ s.st n ≠ stAsleep then
    (if leg then s.setFlag R.LEG_STATUS_cs_leg true n else s.setFlag R.LEG_STATUS_cs_tile true n).lullSource n 5
  else s

/-- Both clocks have run without a break for LEG_TRIP.qual (R279). -/
def clocksQualify (s : State) (n : Fin 64) : Bool :=
  let l := s.legs n
  let q := 1000 * max 1 (s.get R.LEG_TRIP_qual n)
  l.clocksRun[0] && l.clocksRun[1] && decide (l.clockFrom[0] + q ≤ s.now) && decide (l.clockFrom[1] + q ≤ s.now)

/-- An alarm of the tile's group or of one of its domains is still asserted (R279, R499, R500). -/
def alarmAsserted (s : State) (n : Fin 64) : Bool :=
  (match s.groupOf n with
    | some g => decide (s.now < g.alarmUntil)
    | none => false) ||
  (List.range 16).any fun d => s.fbit R.USF_DOM_STATE_asserted d &&
    s.maskBit R.USF_DOM_LO_tiles_lo R.USF_DOM_HI_tiles_hi n d

/-- lull_source bit `b` + 16 is releasable through LULL_CLR now (R279). -/
def lullClearable (s : State) (n : Fin 64) (b : Nat) : Bool :=
  match b with
  | 4 => decide (s.coreState n ≠ 4)
  | 5 => s.clocksQualify n
  | 6 => !s.alarmAsserted n
  | _ => false

/-- A write of LULL_CLR (R279, R280): bits [23:18] of `v`. -/
def lullClr (s : State) (n : Fin 64) (v : Nat) : State :=
  let asked := [2, 3, 4, 5, 6, 7].filter fun b => v.testBit (16 + b) && s.fbit R.TILE_STATE_lull_source b n
  let refused := asked.filter fun b => !s.lullClearable n b
  let s := if refused.isEmpty then s
    else (s.set R.CLEAR_REFUSED_last_lull ((refused.map fun b => 2 ^ b).sum) n).countRefused n
  (asked.filter fun b => s.lullClearable n b).foldl (fun (s : State) b =>
    let s := if b = 5 then (s.setFlag R.LEG_STATUS_cs_leg false n).setFlag R.LEG_STATUS_cs_tile false n else s
    s.releaseLull n b) s

end State

/-- LEG_OVR_WRITE (R259). -/
def execLegOvrWrite (n : Fin 64) (v : Word) (s : State) : Res := .next (s.writeLegOvr n v)

/-- PWM_PERIOD_WRITE (R255): PWM_PERIOD, or PWM_PHASE when `phase`. -/
def execPwmPeriodWrite (n : Fin 64) (phase : Bool) (v : Word) (s : State) : Res :=
  .next (if phase then s.writePwmPhase n v else s.writePwmPeriod n v)

/-- PRECHARGE_END (R254). -/
def execPrechargeEnd (n : Fin 64) (s : State) : Res := .next (s.endPrecharge n)

/-- TRIP_PIN (R268): the filtered level of pin TRIPk. -/
def execTripPin (k : Fin 16) (high : Bool) (s : State) : Res := .next (s.pinLevel k high)

/-- TRIP_CFG_WRITE (R268). -/
def execTripCfgWrite (k : Fin 16) (v : Word) (s : State) : Res := .next (s.writeTripCfg k v false)

/-- TRIP_WINDOW (R270): the comparators of trip window `x` see their input at `code` and `part` sixteenths. -/
def execTripWindow (n : Fin 64) (x : Fin 2) (code : Int) (part : Fin 16) (s : State) : Res :=
  .next (s.winResult n (if x = 0 then 2 else 3) (levelOf code part))

/-- TRIP_STICKY_CLEAR (R272). -/
def execTripStickyClear (v : Word) (s : State) : Res := .next (s.clearPins v.toNat)

/-- LEG_TRIP_STICKY_CLEAR (R272). -/
def execLegTripStickyClear (n : Fin 64) (v : Word) (s : State) : Res := .next (s.clearTripWindows n v.toNat)

/-- BRAKE_ENGAGE (R274). -/
def execBrakeEngage (n : Fin 64) (s : State) : Res := .next (s.engageBrake n)

/-- CLOCK_STOP (R277): the tile clock, or the leg clock, stops or runs again. -/
def execClockStop (n : Fin 64) (leg stops : Bool) (s : State) : Res := .next (s.clockChange n leg stops)

/-- LULL_CLR_VETO (R279): a write of LULL_CLR bit [18]. -/
def execLullClrVeto (n : Fin 64) (s : State) : Res := .next (s.lullClr n (2 ^ 18))

/-- LULL_CLR_MISMATCH (R279): a write of LULL_CLR bit [19]. -/
def execLullClrMismatch (n : Fin 64) (s : State) : Res := .next (s.lullClr n (2 ^ 19))

/-- LULL_CLR_DEBUG (R279): a write of LULL_CLR bit [20]. -/
def execLullClrDebug (n : Fin 64) (s : State) : Res := .next (s.lullClr n (2 ^ 20))

/-- LULL_CLR_CLOCK (R279): a write of LULL_CLR bit [21]. -/
def execLullClrClock (n : Fin 64) (s : State) : Res := .next (s.lullClr n (2 ^ 21))

/-- LULL_CLR_ALARM (R279): a write of LULL_CLR bit [22]. -/
def execLullClrAlarm (n : Fin 64) (s : State) : Res := .next (s.lullClr n (2 ^ 22))

/-- LULL_CLR_DUSK (R279): a write of LULL_CLR bit [23]. -/
def execLullClrDusk (n : Fin 64) (s : State) : Res := .next (s.lullClr n (2 ^ 23))

end Sys2Proof.Machine
end

