-- ==== Sys2Proof/Machine/Group.lean ====
section
/-! DEFINITION. Interpolation groups: formation, group moves, readiness, scale, plan checksums and group commands
(03_coordinated_motion.md R80 to R110, 15_hamper_rings.md R466, R467). -/

namespace Sys2Proof.Machine

/-- Sixteen members or groups at most (R80). -/
def groupMax : Nat := 16

/-- One entry of a GROUP_MOVE descriptor (R467). -/
structure GroupEntry where
  index : Nat
  dist : Int
  vel : Nat
  acc : Nat
  jerk : Nat
  deriving DecidableEq, Repr

/-- The three entries of an EXT slot (R467). -/
def extEntries (e : List Byte) : List GroupEntry :=
  [0x04, 0x18, 0x2C].map fun o =>
    { index := fieldLE e o 1, dist := signed 32 (fieldLE e (o + 4) 4), vel := fieldLE e (o + 8) 4,
      acc := fieldLE e (o + 12) 4, jerk := fieldLE e (o + 16) 4 }

/-- The entries of a GROUP_MOVE (R467). -/
def moveEntries (d : Desc) : List GroupEntry := (d.ext.flatMap extEntries).take (fieldLE d.slot 0x22 1)

/-- The path length: the largest distance (R86). -/
def pathLen (l : List (Nat × Int)) : Nat := (l.map fun e => e.2.natAbs).foldl max 0

/-- A path limit: the smallest of limit_i × L / |d_i| over the members that move, truncated (R86); the smallest limit of
all when none moves. -/
def pathLimit (len : Nat) (lims : List (Int × Nat)) : Nat :=
  let moving := lims.filter fun e => decide (e.1 ≠ 0)
  let vals := if moving.isEmpty then lims.map (·.2) else moving.map fun e => e.2 * len / e.1.natAbs
  vals.foldl min (2 ^ 32 - 1)

/-- Two segments' distances are collinear: d_i × L_next = d_next,i × L for every member (R92). -/
def collinear (a b : List (Nat × Int)) : Bool :=
  a.all fun e => decide (e.2 * (pathLen b : Int) = ((b.find? fun x => decide (x.1 = e.1)).map (·.2)).getD 0 * pathLen a)

/-- A site time rounded up to a whole microsecond (R92, R97). -/
def upToUs (t : Nat) : Nat := (t + 999) / 1000 * 1000

namespace State

/-! ### Authority over motion (R514, R515) -/

/-- The level-0 unit number of the root that a command comes from (R511, R515). -/
def rootUnit (s : State) (r : CmdRef) : Nat := if r.own then s.get R.USF_ID_unit else routeField r.srcRoute 0

/-- The status that refuses a motion command, if any (R514, R515). -/
def motionRefusal (s : State) (r : CmdRef) : Option Nat :=
  match s.get R.USF_AUTH_state with
  | 0 => none
  | 1 => if s.rootUnit r = s.get R.USF_AUTH_holder then none else some 0x0F
  | 2 => some 0x0F
  | _ => some 0x0E

/-- Perform a motion command unless it is refused, which USF_AUTH_REFUSED counts (R515, R517). -/
def ifMotion (s : State) (r : CmdRef) (f : State → State) : State :=
  match s.motionRefusal r with
  | some st => (s.bump R.USF_AUTH_REFUSED_count).complete r st
  | none => f s

/-! ### Formation (R80 to R83, R466) -/

/-- The local slot that holds a group tag. -/
def slotOfTag (s : State) (tag : Nat) : Option Nat :=
  (List.range groupMax).find? fun k => ((s.group k).map (·.tag)) = some tag

/-- The local slot of a group tag that this device leads. -/
def ledSlot (s : State) (tag : Nat) : Option Nat :=
  (s.slotOfTag tag).bind fun k => if ((s.group k).map (·.leaderHere)) = some true then some k else none

/-- Route and depth of the device with a serial, where the latest roll call found it (R505). Root B holds no roll-call
entries: what it knows of the others is left open. -/
def rollPlace (s : State) (serial : Nat) : Option (Nat × Nat) :=
  if serial = Config.serial ∧ s.ownDepth ≠ 0 then some (s.ownRoute, s.ownDepth)
  else if s.flag R.USF_ID_root_b then Config.rollRoute (s.get R.USF_ROLL_GEN_generation) serial
  else (s.usfen.units.find? fun u => decide (u.1 = serial)).map fun u => (u.2.1, u.2.2.1)

/-- A handle of the unit's table as a tile of a device that the latest roll call found (R505). -/
def resolveHandle (s : State) (h : Nat) : Option AxisRef :=
  (s.hamper.handles.find? fun e => decide (e.1 = h)).bind fun e =>
    (s.rollPlace e.2.1).map fun u => { route := u.1, depth := u.2, tile := tileOf e.2.2 }

/-- The member handles of a GROUP_FORM: 12 in the first slot, four in an EXT slot (R466).
Log: DEDUCED notes/assumptions/81.md. -/
def formHandles (d : Desc) : List Nat :=
  let n := fieldLE d.slot 0x24 1
  let first := (List.range 12).map fun i => fieldLE d.slot (0x28 + 2 * i) 2
  let rest := match d.ext with
    | e :: _ => (List.range 4).map fun i => fieldLE e (4 + 2 * i) 2
    | [] => []
  (first ++ rest).take n

/-- A member's tile is a tile of this device. -/
def isHere (s : State) (a : AxisRef) : Bool := decide (a.route = s.ownRoute) && decide (a.depth = s.ownDepth)

/-- A tag for a formation that asks for one: a value the manual leaves open, nonzero and not held here (R466). -/
def assignTag (s : State) : Nat × State :=
  let r := s.fresh
  let tag := ((List.range 65535).map fun i => (r.1 + i) % 65535 + 1).find? fun t => (r.2.slotOfTag t).isNone
  (tag.getD 0, r.2)

/-- Set a local tile's membership (R81, R82, R94). -/
def joinTile (s : State) (n : Fin 64) (tag slot idx lead : Nat) (here : Bool) : State :=
  let s := (s.set R.GROUP_CFG_group_tag tag n).set R.GROUP_CFG_slot slot n
  let s := (s.set R.GROUP_CFG_member idx n).setFlag R.GROUP_CFG_leader_here here n
  let s := (s.setFlag R.GROUP_CFG_member_en true n).set R.GROUP_LEAD_lead lead n
  let s := (s.set R.GROUP_LEAD_epoch 0 n).set R.GROUP_STATUS_discards 0 n
  let s := (s.set R.GROUP_STATUS_stale_frames 0 n).set R.GROUP_SCALE_scale_v 32768 n
  let s := (s.set R.GROUP_REQ_req_v 32768 n).set R.GROUP_REQ_req_a 32768 n
  (s.set R.GROUP_SCALE_scale_a 32768 n).modPlan n fun p => { p with lastGroupEnd := none, groupRan := [], lastGroup := none }

/-- The members' devices, each once. -/
def devicesOf (ms : List AxisRef) : List (Nat × Nat) := (ms.map fun a => (a.route, a.depth)).eraseDups

/-- A member as formation enters it: its stop limits (R220), and where it stands. What only its own device knows of a member on
another device is open until that device tells it. Log: DEDUCED notes/assumptions/28.md, notes/assumptions/33.md. -/
def newMember (s : State) (a : AxisRef) (i : Nat) : Member :=
  let free (j : Nat) : Nat := Config.freeValue (s.freeCtr + 3 * i + j) % 2 ^ 32
  let here := s.isHere a
  let at_ := if here then s.posInt a.tile else signed 32 (free 0)
  { index := i, depth := a.depth, tile := a.tile, route := a.route, base := at_, chained := false, reqV := 32768, reqA := 32768,
    accStop := if here then s.get R.FB_STOP_ACC_acc_stop a.tile else free 1,
    jerkStop := if here then s.get R.FB_STOP_JERK_jerk_stop a.tile else free 2, ready := none, reported := at_ }

/-- Form a group on this device: `lead` names the leader, none when this device leads (R80 to R83, R247). Answers a completion
status and result. Log: DEDUCED notes/assumptions/33.md. -/
def formGroup (s : State) (tag lead : Nat) (ms : List AxisRef) (leader : Option (Nat × Nat)) : Nat × Nat × State :=
  let here := ms.filter fun a => s.isHere a
  let taken (a : AxisRef) : Bool := s.groups.toList.any fun g => (g.map (·.members)).getD [] |>.any fun m =>
    decide (m.route = a.route) && decide (m.depth = a.depth) && decide (m.tile = a.tile.val)
  let slot := (List.range groupMax).find? fun k => (s.group k).isNone
  if lead < 50 ∨ 1000 < lead ∨ here.any (fun a => s.isMember a.tile || decide (s.get R.POS_WRAP_modulus a.tile ≠ 0)) ∨
      ms.any taken ∨ groupMax < ms.length ∨
      (tag ≠ 0 ∧ (s.slotOfTag tag).isSome) ∨ ¬ ms.Nodup then (0x03, 0, s)
  else match slot with
  | none => (0x03, 0, s)
  | some k =>
    let r := if tag = 0 then s.assignTag else (tag, s)
    let s := r.2
    let idx := ms.zipIdx
    let g : GroupSlot :=
      { tag := r.1, epoch := 0, lead := lead, leaderHere := leader.isNone,
        leaderRoute := (leader.map (·.1)).getD s.ownRoute, leaderDepth := (leader.map (·.2)).getD s.ownDepth,
        devices := devicesOf ms,
        members := idx.map fun e => s.newMember e.1 e.2,
        nextSeq := 0, startPending := false, last := none, lastSeg := none, cut := none, moves := [], scales := [], reqSeq := 0,
        cmds := [], checks := [], retract := none, alarmUntil := 0, alarmAt := 0, alarmCopies := 0, alarmCause := 0,
        alarmOrigin := 0, migrate := none }
    let s := { s.setGroup k (some g) with freeCtr := s.freeCtr + 3 * ms.length }
    (0x00, if tag = 0 then r.1 else 0,
      idx.foldl (fun (s : State) e =>
        if s.isHere e.1 then s.joinTile e.1.tile r.1 k e.2 lead leader.isNone else s) s)

/-- GROUP_FORM (R83, R466): the handles are resolved at the root; a forwarded command names routes (R505).
Log: DEDUCED notes/assumptions/33.md. -/
def groupFormDesc (s : State) (d : Desc) (leader : Option (Nat × Nat)) (ms : List AxisRef) : State :=
  s.ifMotion d.ref fun s =>
    let n := fieldLE d.slot 0x24 1
    let found := (formHandles d).map s.resolveHandle
    let l : Option (List AxisRef) := if s.isRoot ∧ d.ref.own then
      (if found.all (·.isSome) then some (found.filterMap id) else none) else some ms
    match l with
    | none => s.complete d.ref 0x05
    | some l =>
      if n = 0 ∨ groupMax < n ∨ l.length ≠ n then s.complete d.ref 0x02
      else
        let r := s.formGroup (fieldLE d.slot 0x20 2) (fieldLE d.slot 0x22 2) l leader
        r.2.2.finish d.ref r.1 r.2.1

/-- A local tile leaves its group (R81, R82). -/
def leaveTile (s : State) (n : Fin 64) : State :=
  (s.wr (R.GROUP_CFG.at n) (resetWord (R.GROUP_CFG.at n))).wr (R.GROUP_LEAD.at n) (resetWord (R.GROUP_LEAD.at n))

/-- Dissolve local slot `k`: moves still in flight complete INTERRUPTED (R81). Log: DEDUCED notes/assumptions/11.md. -/
def dissolve (s : State) (k : Nat) : State :=
  match s.group k with
  | none => s
  | some g =>
    let s := g.moves.foldl (fun (s : State) m =>
      let left := m.dists.filter fun d => m.ended.all fun e => decide (e.1 ≠ d.1)
      let m' := { m with ended := m.ended ++ left.map fun d => (d.1, endAborted) }
      match m.ref with
      | some ref => s.complete ref 0x0B (endedMask m' true + 65536 * endedMask m' false)
      | none => s) s
    (s.forTiles (s.localMembers k) fun n s => s.leaveTile n).setGroup k none

/-- GROUP_DISSOLVE (R81, R466). -/
def groupDissolveDesc (s : State) (d : Desc) : State :=
  match s.slotOfTag (fieldLE d.slot 0x20 2) with
  | none => s.complete d.ref 0x05
  | some k => ((s.accepted d.ref).dissolve k).complete d.ref 0x00

/-! ### Issuing a group segment (R84 to R87, R92, R467) -/

/-- A member's expected base (R87): the end of the segments issued, or the position that it reports. -/
def expectedBase (s : State) (m : Member) : Int :=
  if m.chained then m.base
  else if s.memberHere m then s.posInt (tileOf m.tile)
  else m.reported

/-- The distances of a GROUP_MOVE by member index: given, or from absolute targets (R87, R467).
Log: DEDUCED notes/assumptions/33.md. -/
def moveDists (s : State) (g : GroupSlot) (es : List GroupEntry) (absolute : Bool) : List (Nat × Int) :=
  es.map fun e =>
    (e.index, if absolute then
      e.dist - ((g.members.find? fun m => decide (m.index = e.index)).map s.expectedBase).getD 0 else e.dist)

/-- A group segment of a sequence number without its blend_pct (R92). -/
def unblendSeg (seq : Nat) (g : Seg) : Seg :=
  if segType g = 6 ∧ bits g.w6 14 4 = seq then { g with w0 := g.w0 - segBlend g * 2 ^ 9 } else g

/-- blend_pct of a segment already placed on a member's trail, held for it or executing becomes 0 (R92). -/
def unblendTile (s : State) (n : Fin 64) (seq : Nat) : State :=
  let s := (s.plan n).slots.foldl (fun (s : State) q =>
    s.setBytes (slotAddr n q.1) (segBytes (unblendSeg seq (s.segAt n q.1)))) s
  let s := { s with hamper := { s.hamper with heldGroup := s.hamper.heldGroup.map fun (h : Nat × Seg × Option Nat × Bool) =>
    if h.1 = n.val then (h.1, unblendSeg seq h.2.1, h.2.2) else h } }
  s.modPlan n fun p => { p with exec := p.exec.map fun (e : Exec) => { e with seg := unblendSeg seq e.seg } }

/-- blend_pct of a segment already issued becomes 0 on every member (R92): the members on other devices receive the segment
again without it. Log: DEDUCED notes/assumptions/33.md. -/
def unblend (s : State) (g : GroupSlot) (k seq : Nat) (dists : List (Nat × Int)) : State :=
  let s := s.forTiles (s.localMembers k) fun n s => s.unblendTile n seq
  match g.lastSeg with
  | none => s
  | some w =>
    g.members.foldl (fun (s : State) (m : Member) =>
      match dists.find? fun e => decide (e.1 = m.index) with
      | some e =>
        if s.memberHere m then s
        else s.sendRouted 0x82 m.route m.depth (bytesLE 2 g.tag ++ bytesLE 1 m.index ++ [0] ++
          segBytes (unblendSeg seq { w with w1 := wrapNat 32 e.2 }))
      | none => s) s

/-- A GROUP_MOVE's fields are well formed for the group (R467): one entry for each member, reserved bits 0. -/
def moveFieldsOk (d : Desc) (g : GroupSlot) (es : List GroupEntry) : Bool :=
  let w0 := fieldLE d.slot 0x24 4
  decide (es.length = g.members.length) && decide (fieldLE d.slot 0x22 1 = g.members.length) &&
    (g.members.all fun m => es.any fun e => decide (e.index = m.index)) &&
    decide (fieldLE d.slot 0x23 1 < 4) && decide (bits w0 3 0 = 0) && decide (bits w0 19 16 = 0)

/-- A member's end of a group segment lies outside its soft limits (R243). What the limits of a member on another device are is no
part of this device's state. Log: DESIGN CHOICE notes/assumptions/15.md. -/
def outsideSoft (s : State) (g : GroupSlot) (e : Nat × Int) : Bool :=
  g.members.any fun m => decide (m.index = e.1) &&
    (let n := tileOf m.tile
     if s.memberHere m then
       s.softActive n && (decide (s.expectedBase m + e.2 < s.getInt R.SOFT_LO_lo n) ||
         decide (s.getInt R.SOFT_HI_hi n < s.expectedBase m + e.2))
     else decide (Config.freeValue (s.freeCtr + m.index) % 2 = 1))

/-- One member's segment words (R84, R86). -/
def memberSeg (w0 len vel acc jerk epoch seq slot : Nat) (dist : Int) (release : Option Nat) : Seg :=
  { w0 := w0, w1 := wrapNat 32 dist, w2 := len, w3 := vel, w4 := acc, w5 := jerk,
    w6 := epoch * 65536 + (if release.isSome then 32768 else 0) + seq * 16 + slot,
    w7 := (release.getD 0) % 2 ^ 32 }

/-- A group move as the leader issues it: from a descriptor, or of its own (R101, R227, R467). -/
structure MoveReq where
  ref : Option CmdRef
  onGroup : Bool
  absolute : Bool
  w0 : Nat
  earliest : Nat
  deriving DecidableEq, Repr

/-- A MoveReq's answer to its descriptor. -/
def answerMove (s : State) (q : MoveReq) (status : Nat) : State :=
  match q.ref with
  | some ref => s.complete ref status
  | none => s

/-- Build and distribute the member segments of a group move from group slot `k` (R86, R92). -/
def issueMove (s : State) (q : MoveReq) (k : Nat) (g : GroupSlot) (es : List GroupEntry) : State :=
  let dists := s.moveDists g es q.absolute
  let len := pathLen dists
  let lim (f : GroupEntry → Nat) : Nat := pathLimit len ((dists.map (·.2)).zip (es.map f))
  let vel := lim (·.vel)
  let acc := lim (·.acc)
  let jerk := lim (·.jerk)
  let outside := dists.any (s.outsideSoft g)
  let s := { s with freeCtr := s.freeCtr + groupMax }
  if vel = 0 ∨ 2 ^ 31 ≤ vel ∨ acc = 0 ∨ jerk = 0 ∨ 100 < bits q.w0 15 9 ∨ outside then s.answerMove q 0x03
  else
    let seq := g.nextSeq
    let release := if q.onGroup then none else some (upToUs (s.now + leadNs g))
    let w0 := q.w0 + 6 + (if q.onGroup then 5 * 65536 else 0)
    let s := match g.last with
      | some l => if collinear l.2 dists then s else s.unblend g k l.1 l.2
      | none => s
    let ms := g.members.map fun m =>
      { m with base := s.expectedBase m + ((dists.find? fun e => decide (e.1 = m.index)).map (·.2)).getD 0,
               chained := true }
    let s := s.setGroup k (some { g with
      members := ms, nextSeq := (seq + 1) % 2048, last := some (seq, dists),
      lastSeg := some (memberSeg w0 len vel acc jerk g.epoch seq 0 0 release),
      startPending := q.onGroup || g.startPending,
      moves := g.moves ++ [({ seq := seq, ref := q.ref, earliest := q.earliest, start := release, dists := dists, ended := [] } : GroupMove)] })
    let s := match q.ref with
      | some ref => (s.track ref (.groupMove k seq)).accepted ref
      | none => s
    dists.foldl (fun (s : State) e =>
      match g.members.find? fun m => decide (m.index = e.1) with
      | none => s
      | some m =>
        if s.memberHere m then
          s.deliverGroup (tileOf m.tile) (memberSeg w0 len vel acc jerk g.epoch seq k e.2 release) release
        else
          s.sendRouted 0x82 m.route m.depth (bytesLE 2 g.tag ++ bytesLE 1 m.index ++ [0] ++
            segBytes (memberSeg w0 len vel acc jerk g.epoch seq 0 e.2 release))) s

/-- The request of a GROUP_MOVE descriptor (R467). -/
def moveReqOf (d : Desc) : MoveReq :=
  { ref := some d.ref, onGroup := (fieldLE d.slot 0x23 1).testBit 0, absolute := (fieldLE d.slot 0x23 1).testBit 1,
    w0 := fieldLE d.slot 0x24 4, earliest := fieldLE d.slot 0x28 8 }

/-- GROUP_MOVE at the leader (R467). -/
def groupMoveDesc (s : State) (d : Desc) : State :=
  s.ifMotion d.ref fun s =>
    match s.ledSlot (fieldLE d.slot 0x20 2) with
    | none => s.complete d.ref 0x05
    | some k =>
      match s.group k with
      | none => s.complete d.ref 0x05
      | some g =>
        let es := moveEntries d
        if moveFieldsOk d g es then s.issueMove (moveReqOf d) k g es else s.complete d.ref 0x02

/-! ### Ready and START (R97) -/

/-- A late frame: late_frame on the local members, and the group alarm (R104). Log: DEDUCED notes/assumptions/101.md. -/
def lateFrame (s : State) (k origin : Nat) : State :=
  (s.forTiles (s.localMembers k) fun n s => s.setFlag R.GROUP_STATUS_late_frame true n).raiseGroupAlarm k 0x03 origin

/-- A START reaches a local member: T0 into W7 of its head segment of that seq, rel_valid set (R97). -/
def giveStart (s : State) (n : Fin 64) (epoch seq t0 : Nat) : State :=
  match (s.plan n).slots.find? fun q =>
      let g := s.segAt n q.1
      decide (segType g = 6) && decide (segCond g = 5) && decide (bits g.w6 14 4 = seq) && decide (bits g.w6 31 16 = epoch)
  with
  | none => s
  | some q =>
    let g := s.segAt n q.1
    let s := s.setBytes (slotAddr n q.1) (segBytes { g with
      w6 := if bit g.w6 15 then g.w6 else g.w6 + 32768, w7 := t0 % 2 ^ 32 })
    let s := s.modPlan n fun p => { p with slots := p.slots.map fun x => if x.1 = q.1 then (x.1, x.2.1, some t0) else x }
    let s := s.setFlag R.GROUP_STATUS_waiting_start false n
    if t0 < s.now then s.lateFrame (s.get R.GROUP_CFG_slot n) (s.get R.GROUP_CFG_member n) else s

/-- Every member has signalled ready: the leader fixes T0 and sends START (R97). The rounding up to a whole microsecond is of the
last ready plus the lead; an earliest start later than that stands as the descriptor gives it.
Log: DEDUCED notes/assumptions/33.md. -/
def fixStart (s : State) (k epoch seq : Nat) : State :=
  match s.group k with
  | none => s
  | some g =>
    if s.spread g ∧ s.stepHolds then s.waitStep (.start k epoch seq) else
    let early := ((g.moves.find? fun m => decide (m.seq = seq)).map (·.earliest)).getD 0
    let t0 := max early (upToUs (s.now + leadNs g))
    let moves := g.moves.map fun m => if m.seq = seq then { m with start := some t0 } else m
    let s := s.setGroup k (some { g with startPending := moves.any (·.start.isNone), moves := moves,
                                         members := g.members.map fun m => { m with ready := none } })
    let s := g.devices.foldl (fun (s : State) d =>
      if d.1 = s.ownRoute ∧ d.2 = s.ownDepth then s
      else s.sendRouted 0x83 d.1 d.2 (bytesLE 2 g.tag ++ bytesLE 2 epoch ++ bytesLE 2 seq ++ [0, 0] ++ bytesLE 8 t0)) s
    s.forTiles (s.localMembers k) fun n s => s.giveStart n epoch seq t0

/-- The remainder of a group move that a member's RETRY stopped, issued by the leader as a new ON_GROUP segment under the limits of
the segment that stopped; the trails that the group STOP froze are released (R101). Log: DEDUCED notes/assumptions/28.md. -/
def reissue (s : State) (k : Nat) (g : GroupSlot) : State :=
  match g.cut with
  | none => s
  | some (rest, w) =>
    let es := rest.map fun d => ({ index := d.1, dist := d.2, vel := w.w3, acc := w.w4, jerk := w.w5 } : GroupEntry)
    let s := s.setGroup k (some { g with cut := none })
    let s := s.issueMove { ref := none, onGroup := true, absolute := false, earliest := 0,
                           w0 := w.w0 - segType w - segCond w * 2 ^ 16 } k { g with cut := none } es
    s.issueGroupCmd k gcResume 0 0 0

/-- What remains of the segment last issued when a member of it stands at `pos` (R89): from the local members' own end, else from
that member's share of the path. -/
def restOf (g : GroupSlot) (idx : Nat) (pos : Int) : Option (List (Nat × Int) × Seg) :=
  match g.cut, g.last, g.lastSeg with
  | some c, _, _ => some c
  | none, some l, some w =>
    let d := ((l.2.find? fun e => decide (e.1 = idx)).map (·.2)).getD 0
    let end_ := ((g.members.find? fun m => decide (m.index = idx)).map (·.base)).getD 0
    some (l.2.map fun e => (e.1, if d = 0 then 0 else Int.fdiv (e.2 * (end_ - pos)) d), w)
  | _, _, _ => none

/-- The leader receives a member's ready with its position (R87, R97). A ready for the segment last issued that has had its START
asks for the remainder of it (R101). Log: DEDUCED notes/assumptions/28.md. -/
def leaderReady (s : State) (k idx epoch seq : Nat) (pos : Int) : State :=
  match s.group k with
  | none => s
  | some g =>
    if ¬ g.leaderHere then s
    else if g.last.map (·.1) = some seq ∧ (g.moves.all fun m => decide (m.seq ≠ seq) || m.start.isSome) then
      s.reissue k { g with cut := restOf g idx pos }
    else
      let dist := (g.moves.find? fun m => decide (m.seq = seq)).bind fun m => (m.dists.find? fun e => decide (e.1 = idx)).map (·.2)
      let ms := g.members.map fun m => if m.index = idx then
          (match dist with
           | none => { m with ready := some seq, reported := pos }
           | some x =>
             if m.chained ∧ (g.moves.any fun y => decide (y.seq ≠ seq)) then { m with ready := some seq, reported := pos }
             else { m with ready := some seq, reported := pos, base := pos + x, chained := true }) else m
      let s := s.setGroup k (some { g with members := ms })
      if ms.all (fun m => decide (m.ready = some seq)) then s.fixStart k epoch seq else s

/-- The ready condition of a member (R97). -/
def readyNow (s : State) (n : Fin 64) : Bool :=
  let g := s.segAt n (s.head n)
  s.isMember n && decide (0 < s.trailCount n) && decide (segType g = 6) && decide (segCond g = 5) && !s.frozen n &&
    decide (s.st n = stHolding) && s.settled n s.now && (s.plan n).exec.isNone && (s.dropped n (s.head n)).isNone

/-- The READY frame of a member for a group segment (R97, R498). -/
def sendReady (s : State) (n : Fin 64) (x : GroupSlot) (g : Seg) : State :=
  s.sendRouted 0x85 x.leaderRoute x.leaderDepth (bytesLE 2 x.tag ++ bytesLE 1 (s.get R.GROUP_CFG_member n) ++ [0] ++
    bytesLE 2 (bits g.w6 31 16) ++ bytesLE 2 (bits g.w6 14 4) ++ bytesLE 4 (s.get R.POS_LO_pos_frac n) ++
    bytesLE 4 (s.get R.POS_HI_pos_int n))

/-- A member signals ready (R97). -/
def signalReady (s : State) (n : Fin 64) : State :=
  let g := s.segAt n (s.head n)
  if ¬ s.readyNow n ∨ ¬ s.timeGood then s.setFlag R.GROUP_STATUS_ready false n
  else
    let s := s.setFlag R.GROUP_STATUS_ready true n
    if s.flag R.GROUP_STATUS_waiting_start n ∨ bit g.w6 15 then s
    else
      let s := s.setFlag R.GROUP_STATUS_waiting_start true n
      let k := s.get R.GROUP_CFG_slot n
      match s.group k with
      | none => s
      | some x =>
        if x.leaderHere then s.leaderReady k (s.get R.GROUP_CFG_member n) (bits g.w6 31 16) (bits g.w6 14 4) (s.posInt n)
        else s.sendReady n x g

/-! ### Plan checksums (R103, R104) -/

/-- The 48-byte record of a member at the end of the tick (R103): epoch and seq are those in W6 of the segment that ran on the
tick, on a joint tick of the one that has just retired. Log: DEDUCED notes/assumptions/101.md. -/
def planRecord (s : State) (n : Fin 64) (time epoch seq : Nat) : List Byte :=
  let p := s.plan n
  bytesLE 8 time ++ bytesLE 13 (wrapNat 104 p.path) ++ bytesLE 12 (wrapNat 96 p.v) ++ bytesLE 8 (wrapNat 64 p.a) ++
    bytesLE 2 (s.get R.GROUP_SCALE_scale_v n) ++ bytesLE 2 (s.get R.GROUP_SCALE_scale_a n) ++ bytesLE 2 epoch ++
    bytesLE 1 seq

/-- Divergence: two checksums of one tick differ (R104); the device that finds it, a missing checksum or a late frame sets the bit
on every local member. Log: DEDUCED notes/assumptions/101.md. -/
def divergence (s : State) (k origin : Nat) : State :=
  (s.forTiles (s.localMembers k) fun n s => s.setFlag R.GROUP_STATUS_diverged true n).raiseGroupAlarm k 0x01 origin

/-- The leader enters a device's checksum for a tick and compares it with the others (R104). -/
def leaderChecksum (s : State) (k : Nat) (c : Checksum) : State :=
  match s.group k with
  | none => s
  | some g =>
    let others := g.checks.filter fun x => decide (x.tick = c.tick)
    let s := s.setGroup k (some { g with checks := g.checks ++ [c] })
    if others.any fun x => decide (x.crc ≠ c.crc) then s.divergence k 0 else s

/-- The members of slot `k` that ran a GROUP_MOVE on the tick in force. -/
def ranNow (s : State) (k : Nat) : List (Fin 64 × Nat × Nat) :=
  (s.localMembers k).filterMap fun n => match (s.plan n).groupRun with
    | some r => if r.1 = s.tickEnd then some (n, r.2) else none
    | none => none

/-- The plan checksum of a tick that ends on a whole 10 ms (R103). -/
def planChecksum (s : State) (k : Nat) : State :=
  if s.tickEnd % 10000000 ≠ 0 ∨ ¬ s.timeGood then s
  else match s.ranNow k with
  | [] => s
  | (n, epoch, seq) :: rest =>
    match s.group k with
    | none => s
    | some g =>
      let crc (e : Fin 64 × Nat × Nat) : Nat := crc32c (s.planRecord e.1 s.tickEnd e.2.1 e.2.2)
      let mine := crc (n, epoch, seq)
      let s := if rest.any fun e => decide (crc e ≠ mine) then s.divergence k (s.get R.GROUP_CFG_member n) else s
      if g.leaderHere then
        s.leaderChecksum k { tick := s.tickEnd, device := s.ownRoute, crc := mine, covered := rest.length + 1 }
      else
        s.sendRouted 0x50 g.leaderRoute g.leaderDepth (bytesLE 2 g.tag ++ bytesLE 2 epoch ++ bytesLE 4 mine ++
          bytesLE 8 s.tickEnd ++ bytesLE 1 seq ++ bytesLE 1 (rest.length + 1) ++ [0, 0])

/-- A leader without a member of its own has seen no checksum of a tick on which a move of its had started: whether the move has
ended by then, or its members are lost, it cannot tell (R102, R104). Log: DEDUCED notes/assumptions/9.md. -/
def farEnded (s : State) (k tick : Nat) (g : GroupSlot) : Bool × State :=
  let begun (m : GroupMove) : Bool := match m.start with
    | some t => decide (t ≤ tick)
    | none => false
  if (s.localMembers k).isEmpty ∧ g.moves.any begun then
    let r := s.fresh
    if r.1 % 2 = 0 then (true, r.2)
    else
      let allOver (m : GroupMove) : GroupMove := { m with ended := m.dists.map fun d => (d.1, endDone) }
      (false, r.2.movesDone k { g with moves := g.moves.map fun m => if begun m then allOver m else m })
  else (false, s)

/-- 2 ms after a tick: a checksum that has not reached the leader is a lost member (R104). -/
def checksumDue (s : State) (k tick : Nat) : State :=
  match s.group k with
  | none => s
  | some g =>
    let got := g.checks.filter fun c => decide (c.tick = tick)
    let g := { g with checks := g.checks.filter fun c => decide (c.tick ≠ tick) }
    let s := s.setGroup k (some g)
    let r := if got = [] then s.farEnded k tick g
             else (g.devices.any (fun d => got.all fun c => decide (c.device ≠ d.1)), s)
    if g.leaderHere ∧ r.1 then
      (r.2.forTiles (r.2.localMembers k) fun n s => s.setFlag R.GROUP_STATUS_member_lost true n).raiseGroupAlarm k 0x02 0
    else if g.leaderHere then r.2 else s

/-! ### Group commands as descriptors (R99, R466) -/

/-- A GROUP_CMD descriptor at the leader: the command is scheduled on every member, and completes when it has acted. -/
def groupCmdDesc (s : State) (d : Desc) (cmd : Nat) (target : Int) : State :=
  match s.ledSlot (fieldLE d.slot 0x20 2) with
  | none => s.complete d.ref 0x05
  | some k => ((s.track d.ref .action).accepted d.ref).issueGroupCmd k cmd target 0 0 (some d.ref)

end State

/-- GROUP_FORM (R83): `leader` is none on the device that is to lead, else the route and depth of the leader that passes
the formation on; `ms` the members, where the command was forwarded with routes (R505). -/
def execGroupForm (d : Desc) (leader : Option (Nat × Nat)) (ms : List AxisRef) (s : State) : Res :=
  .next (s.groupFormDesc d leader ms)

/-- GROUP_DISSOLVE (R81). -/
def execGroupDissolve (d : Desc) (s : State) : Res := .next (s.groupDissolveDesc d)

/-- GROUP_MOVE (R467). -/
def execGroupMove (d : Desc) (s : State) : Res := .next (s.groupMoveDesc d)

/-- GROUP_READY (R97). -/
def execGroupReady (n : Fin 64) (s : State) : Res := .next (s.signalReady n)

/-- SCALE_APPLY (R94): the scale of local slot `k` for the tick in force. -/
def execScaleApply (k : Fin 16) (s : State) : Res := .next (s.applyScale k s.tickStart)

/-- PLAN_CHECKSUM_TICK (R103). -/
def execPlanChecksumTick (k : Fin 16) (s : State) : Res := .next (s.planChecksum k)

/-- CHECKSUM_TIMEOUT (R104): 2 ms after the tick that ended at `tick`. -/
def execChecksumTimeout (k : Fin 16) (tick : Nat) (s : State) : Res := .next (s.checksumDue k tick)

/-- GROUP_STOP (R99). -/
def execGroupStop (d : Desc) (s : State) : Res := .next (s.groupCmdDesc d State.gcStop 0)

/-- GROUP_ABORT (R99). -/
def execGroupAbort (d : Desc) (s : State) : Res := .next (s.groupCmdDesc d State.gcAbort 0)

/-- GROUP_FREEZE (R99). -/
def execGroupFreeze (d : Desc) (s : State) : Res := .next (s.groupCmdDesc d State.gcFreeze 0)

/-- GROUP_RESUME (R99): motion under R515. -/
def execGroupResume (d : Desc) (s : State) : Res :=
  .next (s.ifMotion d.ref fun s => s.groupCmdDesc d State.gcResume 0)

/-- GROUP_REPLACE (R99): motion under R515. -/
def execGroupReplace (d : Desc) (s : State) : Res :=
  .next (s.ifMotion d.ref fun s => s.groupCmdDesc d State.gcReplace (signed 32 (fieldLE d.slot 0x24 4)))

/-- GROUP_CMD_APPLY (R99). -/
def execGroupCmdApply (k : Fin 16) (s : State) : Res := .next (s.applyGroupCmds k s.tickStart)

end Sys2Proof.Machine
end

