-- ==== Sys2Proof/Machine/Homing.lean ====
section
/-! DEFINITION. The happenings of a homing method and the wrap's modulus (07_homing_and_limits.md R234 to R248). -/

namespace Sys2Proof.Machine
namespace State

/-- The executing HOME segment whose phase still waits for its edge or force. -/
def homeWaits (s : State) (n : Fin 64) : Option Exec :=
  match (s.plan n).exec with
  | some e => if segType e.seg = 5 ∧ e.stop = .none ∧ ¬ e.home.resting then some e else none
  | none => none

/-- A filtered edge of the segment's port at the tile: `pin` 0 FP, 1 FQ, 2 FZ (R238, R240), which captures the integer part of the
accumulator on its clock. Edges outside their own phase are ignored. Log: DEDUCED notes/assumptions/34.md. -/
def homeEdgeOf (s : State) (n : Fin 64) (pin : Fin 3) (high : Bool) : State :=
  match s.homeWaits n with
  | none => s
  | some e =>
    let g := e.seg
    if ¬ s.portEdges (Fin.ofNat 16 (bits g.w1 23 20)) pin then s else
    let switch := decide (pin.val = bits g.w1 25 24)
    let active := switch && (high != bit g.w1 19)
    let q : Option Int := some (Int.fdiv (s.accumulator n) (2 ^ 32) * 2 ^ 32)
    match e.home.phase with
    | .search => if bits g.w1 31 28 ≠ 1 ∧ bits g.w1 31 28 ≠ 5 ∧ active then s.homeCapture n e none 0 0 else s
    | .release => if switch ∧ ¬ active then s.homeCapture n e none 0 0 else s
    | .latch => if active then s.homeCapture n e q 0 0 else s
    | .index =>
      if pin = 2 then
        (if high ∧ (bits g.w1 31 28 = 4 ∨ e.home.switchSeen) then s.homeCapture n e q 0 0 else s)
      else if active then
        s.modPlan n fun p => { p with exec := some { e with home := { e.home with switchSeen := true } } }
      else s
    | _ => s

/-- A search, latch or release phase has covered max_travel without its condition (R238, R239). -/
def homeTravelled (s : State) (n : Fin 64) : State :=
  match s.homeWaits n with
  | none => s
  | some e =>
    if e.target ≠ some (s.plan n).p then s
    else match e.home.phase with
    | .search => s.homeFail n e 0x02 s.tickEnd
    | .latch => s.homeFail n e 0x02 s.tickEnd
    | .index => s.homeFail n e 0x02 s.tickEnd
    | .release => s.homeFail n e 0x06 s.tickEnd
    | _ => s

/-- RESTORE has held for settle since its first step: it confirms the restored position or ends with LOW_CONF (R238); the wrap then
tests the new P (R248). -/
def homeSettled (s : State) (n : Fin 64) : State :=
  match s.homeWaits n with
  | none => s
  | some e =>
    if e.home.phase ≠ .confirm ∨ s.tickEnd < e.home.began + 100000 * s.get R.TILE_TIMEOUTS_settle n then s
    else if s.get R.SD_STALL2_pos_conf n ≤ s.get R.SD_CONF_conf n then
      let q := s.pos32 n
      (s.homeDone n q (q - s.sigma n * roundDiv (s.getInt R.SD_ANGLE_load_angle n) 64 * 2 ^ 32) s.tickEnd).wrapTick n
    else s.homeFail n e 0x03 s.tickEnd

/-- A waiting write of POS_WRAP is judged at the start of a tick (R245). Log: DEDUCED notes/assumptions/43.md. -/
def posWrapOf (s : State) (n : Fin 64) : State :=
  match (s.plan n).wrapWrite with
  | none => s
  | some m =>
    let ok := s.mayWritePos n && decide (m % 1024 = 0) && decide (m ≤ 2 ^ 31)
    let s := s.modPlan n fun p => { p with wrapWrite := none }
    if ¬ ok then s.setFlag R.TRAIL_STATUS_pos_write_refused true n
    else
      let s := s.set R.POS_WRAP_modulus m n
      if m = 0 then s
      else
        let sh := -(Int.fdiv (s.posInt n) m * m) * one70
        let was := s.pos32 n
        let s := s.modPlan n fun p => { p with p := p.p + sh, lastTarget := p.lastTarget.map (· + sh) }
        let s := (s.syncPos n).posJumped n was
        s.retakeSides n

/-- A write of WRAP_CTL; mode 0b11 is refused (R245). -/
def writeWrapCtl (s : State) (n : Fin 64) (v : Word) : State :=
  if bits v.toNat 1 0 = 3 then s.setFlag R.TRAIL_STATUS_pos_write_refused true n
  else s.set R.WRAP_CTL_mode (bits v.toNat 1 0) n

end State

/-- HOME_EDGE (R240). -/
def execHomeEdge (n : Fin 64) (pin : Fin 3) (high : Bool) (s : State) : Res := .next (s.homeEdgeOf n pin high)

/-- HOME_MAX_TRAVEL (R238). -/
def execHomeMaxTravel (n : Fin 64) (s : State) : Res := .next (s.homeTravelled n)

/-- HOME_SETTLE_END (R238). -/
def execHomeSettleEnd (n : Fin 64) (s : State) : Res := .next (s.homeSettled n)

/-- POS_WRAP_WRITE (R245). -/
def execPosWrapWrite (n : Fin 64) (s : State) : Res := .next (s.posWrapOf n)

end Sys2Proof.Machine
end

