-- ==== Sys2Proof/Machine/ForceOps.lean ====
section
/-! DEFINITION. The force budget (06_force_budget.md R202 to R222): force and energy, breaches, decisions and policies;
Gust and push-to-open (R224 to R230); and the rules that a segment passes before it is placed (02_trails_and_profiles.md
R39, R84, R85, 07_homing_and_limits.md R236). -/

namespace Sys2Proof.Machine

/-! ### Segments that may be placed (R39) -/

/-- The bits of W6 that a start condition uses (R37); R39 holds the others to zero.
Log: DEDUCED notes/assumptions/23.md. -/
def argMask (cond : Nat) : Nat :=
  match cond with
  | 2 => 0x73F
  | 3 => 0xFF
  | 4 => 0xFFFF
  | _ => 0

/-- A start argument obeys R37 and R39. Log: DEDUCED notes/assumptions/23.md. -/
def argLegal (g : Seg) : Bool :=
  let c := segCond g
  if c = 1 then true
  else decide (g.w6 &&& argMask c = g.w6) && decide (g.w7 = 0) &&
    (c != 3 || (decide (bits g.w6 5 4 ≠ 3) && decide (bits g.w6 7 6 ≠ 3)))

/-- The fields that a HOME method uses: home_pos, search limits, latch velocity, port and pin (R235). -/
def homeUses : Nat → (Bool × Bool × Bool × Bool × Bool)
  -- home_pos, vel, acc jerk max_travel neg, latch_vel and port, pin and active_low
  | 0 => (true, false, false, false, false)
  | 1 => (true, true, true, false, false)
  | 2 => (true, true, true, true, true)
  | 3 => (true, true, true, true, true)
  | 4 => (true, false, true, true, false)
  | 5 => (true, true, true, false, false)
  | _ => (false, false, false, false, false)

/-- A used field is greater than 0 and an unused one is 0. -/
def usedRight (used : Bool) (v : Nat) : Bool := if used then decide (0 < v) else decide (v = 0)

/-- A HOME segment obeys R234 to R236. -/
def homeLegal (g : Seg) : Bool :=
  let (pos, vel, lim, latch, pin) := homeUses (bits g.w1 31 28)
  decide (bits g.w1 31 28 ≤ 6) && decide (segCond g = 0) && decide (segBlend g = 0) && decide (bits g.w1 18 0 = 0) &&
    !bit g.w1 26 && decide (bits g.w1 25 24 < 2) && (pos || decide (g.w2 = 0)) && usedRight vel g.w3 &&
    (!vel || decide (g.w3 < 2 ^ 31)) && usedRight lim g.w4 && usedRight lim g.w5 && usedRight latch g.w6 &&
    (!latch || decide (g.w6 < 2 ^ 31)) && usedRight lim g.w7 && (lim || !bit g.w1 27) &&
    (latch || decide (bits g.w1 23 20 = 0)) && (pin || (decide (bits g.w1 25 24 = 0) && !bit g.w1 19))

/-- A GROUP_MOVE segment's words obey R84 and R85. -/
def groupLegal (g : Seg) : Bool :=
  (segCond g = 0 || segCond g = 5) && decide (0 < g.w3) && decide (g.w3 < 2 ^ 31) && decide (0 < g.w4) &&
    decide (0 < g.w5) && decide ((signed 32 g.w1).natAbs ≤ g.w2)

/-- A segment of a type that plans its own motion, or waits, obeys R39. -/
def plainLegal (g : Seg) : Bool :=
  let t := segType g
  decide (segCond g ≠ 5) && argLegal g &&
    (if t = 1 ∨ t = 2 then decide (0 < g.w3) && decide (g.w3 < 2 ^ 31) && decide (0 < g.w4) && decide (0 < g.w5)
     else if t = 3 then decide (g.w3 ≠ 0) && decide (g.w3 ≠ 2 ^ 31) && decide (0 < g.w4) && decide (0 < g.w5) && decide (g.w2 = 0)
     else if t = 4 then decide (0 < g.w1) && decide (g.w2 = 0)
     else true)

namespace State

/-- A segment may be placed on the tile's trail (R39, R84, R85, R236). Log: DEDUCED notes/assumptions/23.md. -/
def segLegal (s : State) (n : Fin 64) (g : Seg) : Bool :=
  let t := segType g
  decide (t ≤ 6) && decide (segCond g ≤ 5) && decide (bits g.w0 5 4 = 0) && decide (segBlend g ≤ 100) &&
    (if t = 5 then homeLegal g
     else if t = 6 then groupLegal g && s.isMember n && decide (bits g.w6 3 0 = s.get R.GROUP_CFG_slot n)
     else plainLegal g)

/-! ### Force and energy of an update (R203, R204) -/

/-- Radians at the motor shaft per µstep (R203). -/
def radPerStep (s : State) (n : Fin 64) : Rat := f64Div (2 * pi64) (1024 * s.polePairs n : Nat)

/-- The force of an update before its filter, mN (R203), in binary64 in the order that the rule writes. -/
def rawForce (s : State) (n : Fin 64) : Rat :=
  let tAcc := f64Div (f64Mul (s.get R.FB_INERTIA_inertia n) (f64Mul (s.getInt R.ACC_acc n) (s.radPerStep n))) 1000
  let t := f64Mul 1000 (f64Sub (s.getInt R.SD_TORQUE_torque n) tAcc)
  f64Div (f64Mul t ((s.get R.FB_GEAR_gear n : Rat) / 65536)) (s.get R.FB_RADIUS_radius n)

/-- The energy of an update, µJ (R203). -/
def rawEnergy (s : State) (n : Fin 64) : Int :=
  let om := f64Mul ((s.getInt R.SD_SPEED_vrot n : Rat) / 256) (s.radPerStep n)
  roundRat (f64Div (f64Mul (f64Mul ((s.get R.FB_INERTIA_inertia n : Rat) / 2) om) om) 1000)

/-- The update is assessed (R203). -/
def isAssessed (s : State) (n : Fin 64) : Bool :=
  s.flag R.FB_CTL_enable n && s.mechValid n && (s.st n = stHolding || s.st n = stMoving) &&
    decide (s.get R.FB_CTL_min_conf n ≤ s.get R.SD_CONF_conf n)

/-- f_f (R203). -/
def forceNow (s : State) (n : Fin 64) : Int := s.getInt R.FB_FORCE_force n

/-- Sign of VEL (R204). -/
def velSign (s : State) (n : Fin 64) : Int := (s.getInt R.VEL_vel n).sign

/-- The executing segment is one that R211 tests (R212). -/
def testedSeg (g : Seg) : Bool := [1, 2, 3, 6].contains (segType g)

/-- The segment that the tests of R211 look at: executing, or held by RETRY during its wait (R219). -/
def budgetSeg (s : State) (n : Fin 64) : Option Exec :=
  (s.plan n).exec.or (s.restingRetry n)

/-- thr of R211 for a mean. -/
def forceThr (s : State) (n : Fin 64) (mean : Int) : Int :=
  s.get R.FB_MARGIN_margin_abs n + ((s.get R.FB_MARGIN_margin_pct n * mean.natAbs / 256 : Nat) : Int)

/-- The profile test of this update, when it can be made: excess and thr (R211, R219). -/
def profileTest (s : State) (n : Fin 64) : Option (Int × Int) :=
  let sg := s.velSign n
  let dir : Nat := if 0 < sg then 0 else 1
  let b := s.bucketOf n (s.posInt n)
  let e := s.profEntry n (256 * dir + b)
  if sg = 0 ∨ ¬ s.travelValid n ∨ ¬ s.learned n dir ∨ s.learning n dir ∨ s.flag R.FB_STATUS_profile_stale n ∨
      s.flag R.FB_STATUS_suspended n ∨ e.2 = 0 then none
  else some (sg * s.forceNow n - e.1, s.forceThr n e.1)

/-- The cause of a breach: 0 for none (R211). -/
def breachCause (s : State) (n : Fin 64) (t : Option (Int × Int)) : Nat :=
  let f := s.get R.FB_FCAP_f_cap n
  let e := s.get R.FB_ECAP_e_cap n
  if f ≠ 0 ∧ f < (s.forceNow n).natAbs then 1
  else if e ≠ 0 ∧ e < s.get R.FB_ENERGY_energy n then 2
  else match t with
    | some (x, thr) => if thr < x then 3 else 0
    | none => 0

/-- v_seg of R214. -/
def vSeg (s : State) (n : Fin 64) (e : Exec) : Nat :=
  match segType e.seg with
  | 6 => if e.seg.w2 = 0 then 0 else e.seg.w3 * (signed 32 e.seg.w1).natAbs / e.seg.w2
  | 3 => (signed 32 e.seg.w3).natAbs
  | _ => e.seg.w3

/-- A warning ceiling becomes active (R214). -/
def warnCeiling (s : State) (n : Fin 64) (e : Exec) (t : Option (Int × Int)) : State :=
  let warn := s.get R.FB_SLOW_warn n
  match t with
  | none => s
  | some (x, thr) =>
    if warn = 0 ∨ (s.force n).warnCeil.isSome ∨ x < Int.fdiv (warn * thr) 256 then s
    else
      let c := s.get R.FB_SLOW_slow n * s.vSeg n e / 256
      let s := (s.modForce n fun f => { f with warnCeil := some c, ceilHeld := true }).budgetCeil n
      s.fbEvent n R.FB_EVENTS_warn 0x31 (bytesLE 4 (s.get R.FB_CEIL_ceil n) ++ bytesLE 4 (wrapNat 32 x))

/-- The policy that a decision applies: 0 STOP, 1 REVERSE, 2 YIELD, 3 RETRY; after n RETRY decisions the final one
(R216, R218). -/
def policyNow (s : State) (n : Fin 64) : Nat :=
  let p := s.get R.FB_POLICY_policy n
  let fin := s.get R.FB_POLICY_final n
  let fin := if fin = 1 ∨ fin = 2 then fin else 0
  match (s.plan n).exec with
  | some e =>
    if segType e.seg = 5 then 0
    else if p = 3 ∧ max 1 (s.get R.FB_POLICY_retries n) ≤ s.get R.FB_STATUS_retries_used n then fin else p
  | none => fin

/-- An obstruction decision: the event, and the policy for the next plan tick (R212). -/
def obstruct (s : State) (n : Fin 64) (cause : Nat) (excess : Int) : State :=
  let s := (s.set R.FB_STATUS_last_cause cause n).modForce n fun f => { f with due := true, decided := true }
  s.fbEvent n R.FB_EVENTS_obstruction 0x30 (bytesLE 1 cause ++ bytesLE 1 (s.policyNow n)
    ++ bytesLE 1 (s.get R.FB_STATUS_bucket n) ++ [0] ++ bytesLE 4 (wrapNat 32 (s.forceNow n))
    ++ bytesLE 4 (wrapNat 32 excess) ++ bytesLE 4 (s.get R.FB_ENERGY_energy n))

/-- The breach tests of an assessed update while Moving (R211, R212, R241); in the wait of RETRY one breach decides
(R219). Log: DEDUCED notes/assumptions/27.md. -/
def breachTests (s : State) (n : Fin 64) (e : Exec) : State :=
  let home := decide (segType e.seg = 5)
  let t := if home then none else s.profileTest n
  let s := s.setInt R.FB_EXCESS_excess ((t.map (·.1)).getD 0) n
  let s := if home then s else s.warnCeiling n e t
  let c := s.breachCause n t
  if c = 0 then s.set R.FB_STATUS_breach_count 0 n
  else
    let k := s.get R.FB_STATUS_breach_count n + 1
    let s := s.set R.FB_STATUS_breach_count (min 15 k) n
    let least := if (s.plan n).exec.isNone then 1 else max 1 (s.get R.FB_CTL_obs_cnt n)
    if least ≤ k then s.obstruct n c ((t.map (·.1)).getD 0) else s

/-- The segment's sums and journal extremes take an assessed update (R206, R207, R480). -/
def sumUpdate (s : State) (n : Fin 64) : State :=
  let b := s.bucketOf n (s.posInt n)
  let q := s.bucketSum n b
  let drive := s.velSign n * s.forceNow n
  let s := if s.velSign n = 0 ∨ ¬ s.travelValid n then s
    else s.modForce n fun f => { f with sums := sparseInsert b (q.1 + drive, q.2 + 1) f.sums }
  s.modPlan n fun p => { p with exec := p.exec.map fun e =>
    { e with peakForce := max e.peakForce (s.forceNow n).natAbs,
             peakEnergy := max e.peakEnergy (s.get R.FB_ENERGY_energy n) } }

/-- HARD_STOP's own test: obs_cnt assessed updates in a row with s × f_f ≥ force (R238); braking under the stop limits
of R217. -/
def hardStop (s : State) (n : Fin 64) (e : Exec) : State :=
  let force := s.get R.HOME_FORCE_force n
  if segType e.seg = 5 ∧ bits e.seg.w1 31 28 = 5 ∧ e.stop = .none ∧ e.home.phase = .search ∧ ¬ e.home.resting ∧ force ≠ 0 then
    if (force : Int) ≤ homeDir e.seg * s.forceNow n then
      let k := (e.home.captured.getD 0).toNat + 1
      if max 1 (s.get R.FB_CTL_obs_cnt n) ≤ k then
        s.homeCapture n e none (max 1 (s.get R.FB_STOP_ACC_acc_stop n)) (max 1 (s.get R.FB_STOP_JERK_jerk_stop n))
      else s.modPlan n fun p => { p with exec := some { e with home := { e.home with captured := some (k : Int) } } }
    else s.modPlan n fun p => { p with exec := some { e with home := { e.home with captured := none } } }
  else s

/-- The force cap while Holding (R213). -/
def capHold (s : State) (n : Fin 64) : State :=
  let cap := s.get R.FB_FCAP_f_cap n
  if s.st n = stHolding ∧ cap ≠ 0 ∧ cap < (s.forceNow n).natAbs ∧ (s.force n).capArmed then
    (s.modForce n fun q => { q with capArmed := false }).fbEvent n R.FB_EVENTS_cap_hold 0x37
      ([0, 0, 0, 0] ++ bytesLE 4 (wrapNat 32 (s.forceNow n)))
  else s.capRearm n

/-- The force budget's part of an update (R203 to R213). -/
def forceUpdate (s : State) (n : Fin 64) : State :=
  let s := s.modForce n fun f => { f with updated := s.now }
  let ok := s.isAssessed n
  let s := s.setFlag R.FB_STATUS_assessed ok n
  if ¬ ok then s
  else
    let filt := min 7 (s.get R.FB_CTL_filt n)
    let f := s.forceNow n
    let r := signed 32 (satSigned 32 (roundRat (s.rawForce n)))
    let s := s.set R.FB_FORCE_force (satSigned 32 (f + Int.fdiv (r - f) (2 ^ filt : Nat))) n
    let s := s.set R.FB_ENERGY_energy (satUnsigned 32 (s.rawEnergy n)) n
    let s := if s.travelValid n then s.set R.FB_STATUS_bucket (s.bucketOf n (s.posInt n)) n else s
    let s := (s.modForce n fun q => { q with assessedAt := s.now }).sumUpdate n
    let s := s.capHold n
    let quiet := s.setInt R.FB_EXCESS_excess 0 n
    if s.st n ≠ stMoving then quiet
    else match s.budgetSeg n with
    | none => quiet
    | some e => if testedSeg e.seg ∨ segType e.seg = 5 then (s.hardStop n e).breachTests n e else quiet

/-! ### Policies (R216 to R220, R101) -/

/-- The raised limits of R217. -/
def stopAcc (s : State) (n : Fin 64) : Nat := max 1 (s.get R.FB_STOP_ACC_acc_stop n)
def stopJerk (s : State) (n : Fin 64) : Nat := max 1 (s.get R.FB_STOP_JERK_jerk_stop n)

/-- A policy acts: policy_busy, and the profile test is suspended (R219, R222). -/
def policyBusy (s : State) (n : Fin 64) : State :=
  (s.setFlag R.FB_STATUS_policy_busy true n).setFlag R.FB_STATUS_suspended true n

/-- Direction of travel at a decision: the sign of VEL, or the segment's direction (R218). -/
def travelSign (s : State) (n : Fin 64) (e : Exec) : Int :=
  if s.velSign n ≠ 0 then s.velSign n
  else match execDirOf e with
    | some 0 => 1
    | some _ => -1
    | none => 0

/-- REVERSE fixes its back-off point, under the soft limits (R218, R243), and the segment moves there. -/
def reverseTo (s : State) (n : Fin 64) (e : Exec) : State :=
  let t := satPos ((s.plan n).p - s.travelSign n e * s.get R.FB_BACKOFF_backoff n * one70)
  let c := s.softClamp n t
  let e' := { e with stop := .reversing, accStop := s.stopAcc n, jerkStop := s.stopJerk n, target := some c,
                     clamp := if c ≠ t then some (t, c) else e.clamp }
  let s := s.modPlan n fun p => { p with held := none, retry := false, exec := some e' }
  if c ≠ t then s.softEvent n e.ptr t c s.now else s

/-- The policy on a segment that executes, on a tile that is no group member (R218, R241). -/
def policyAct (s : State) (n : Fin 64) (e : Exec) (policy : Nat) : State :=
  let s := (s.policyBusy n).modForce n fun f => { f with acted := true }
  let acc := s.stopAcc n
  let jerk := s.stopJerk n
  if segType e.seg = 5 then
    -- a decision ends the method with INTERRUPTED (R241)
    s.brake n .obstructed acc jerk
  else match policy with
  | 1 =>
    if segType e.seg = 3 then s.brake n .obstructed acc jerk
    else s.reverseTo n e
  | 2 => (s.brake n .yielding acc jerk).yieldCap n
  | 3 =>
    let s := s.set R.FB_STATUS_retries_used (min 15 (s.get R.FB_STATUS_retries_used n + 1)) n
    s.brake n .retrying acc jerk
  | _ => s.brake n .obstructed acc jerk

/-- The policy on a segment held by RETRY at rest (R219): it retires OBSTRUCTED where it stands; REVERSE backs off.
Log: DEDUCED notes/assumptions/27.md. -/
def policyHeld (s : State) (n : Fin 64) (e : Exec) (policy : Nat) : State :=
  if policy = 1 ∧ segType e.seg ≠ 3 then (s.policyBusy n).reverseTo n e
  else
    let s := if policy = 2 then s.yieldCap n else s
    s.endAtRest n endObstructed e true s.tickStart

/-- The distances of the group segment that a member executes, as this device knows them: the leader all of them, a member device
those of its own members (R220). -/
def segDists (s : State) (k : Nat) (g : GroupSlot) (seq : Nat) : List (Nat × Int) :=
  match g.moves.find? fun m => decide (m.seq = seq) with
  | some m => m.dists
  | none => (s.localMembers k).filterMap fun n => (s.plan n).exec.map fun e => (s.get R.GROUP_CFG_member n, signed 32 e.seg.w1)

/-- The least of a stop limit × L / |d_i| over the members that move and have one (R220).
Log: DEDUCED notes/assumptions/28.md. -/
def groupStop (len : Nat) (dists : List (Nat × Int)) (ms : List Member) (f : Member → Nat) : Nat :=
  let vals := ms.filterMap fun m => match dists.find? fun d => decide (d.1 = m.index) with
    | some d => if d.2 ≠ 0 ∧ f m ≠ 0 then some (f m * len / d.2.natAbs) else none
    | none => none
  match vals with
  | [] => 0
  | v :: l => l.foldl min v

/-- An obstruction on a group member acts on the group (R101, R220), and ends the member's own segment OBSTRUCTED (R78). A path
target is a whole number: the back-off is taken from S rounded down. Log: DEDUCED notes/assumptions/28.md. -/
def policyGroup (s : State) (n : Fin 64) (e : Exec) (policy : Nat) : State :=
  let k := s.get R.GROUP_CFG_slot n
  match s.group k with
  | none => s.policyAct n e policy
  | some g =>
    let dists := s.segDists k g (bits e.seg.w6 14 4)
    let acc := groupStop e.seg.w2 dists g.members (·.accStop)
    let jerk := groupStop e.seg.w2 dists g.members (·.jerkStop)
    let s := (s.policyBusy n).modForce n fun f => { f with groupAct := some policy }
    if policy = 1 then
      let d := (signed 32 e.seg.w1).natAbs
      let back : Int := if d = 0 then 0 else ((s.get R.FB_BACKOFF_backoff n * e.seg.w2 + d - 1) / d : Nat)
      let dir : Int := if (s.plan n).v < 0 then -1 else 1
      s.issueGroupCmd k gcReplace (Int.fdiv (s.plan n).path one70 - dir * back) acc jerk
    else
      let s := if policy = 3 then s.set R.FB_STATUS_retries_used (min 15 (s.get R.FB_STATUS_retries_used n + 1)) n else s
      s.issueGroupCmd k gcStop 0 acc jerk

/-- OBSTRUCTION_DECISION: the decision of an earlier update acts (R212, R218, R231); a stall decision of the same tick
wins. Log: DEDUCED notes/assumptions/28.md. -/
def obstructionOf (s : State) (n : Fin 64) : State :=
  if ¬ (s.force n).due ∨ s.st n ≠ stMoving ∨ (s.sd n).stallDue then s
  else
    let policy := s.policyNow n
    let s := s.modForce n fun f => { f with due := false }
    match (s.plan n).exec, (s.plan n).held with
    | some e, _ => if segType e.seg = 6 ∧ s.isMember n then s.policyGroup n e policy else s.policyAct n e policy
    | none, some e => s.policyHeld n e policy
    | none, none => s

/-- retry_wait has passed since the axis came to rest (R218). -/
def retryWaited (s : State) (n : Fin 64) : Bool :=
  decide ((s.force n).restedAt + 10000000 * s.get R.FB_POLICY_retry_wait n ≤ s.now)

/-- RETRY_WAIT_EXPIRY: retry_wait has passed at rest (R218). A group member asks its leader for the remainder: one on another
device by its READY for the segment that has ended (R101). Log: DEDUCED notes/assumptions/27.md, notes/assumptions/28.md. -/
def retryOver (s : State) (n : Fin 64) : State :=
  if ¬ s.retryWaited n then s
  else match (s.plan n).held with
  | some e =>
    if e.stop = .retrying then
      ((s.modPlan n fun p => { p with retry := true }).setFlag R.FB_STATUS_policy_busy false n).setFlag
        R.FB_STATUS_suspended false n
    else s
  | none =>
    match s.groupOf n, (s.plan n).lastGroup with
    | some g, some w =>
      if (s.force n).groupAct = some 3 ∧ (s.plan n).exec.isNone ∧ s.flag R.FB_STATUS_policy_busy n then
        let s := (s.setFlag R.FB_STATUS_policy_busy false n).setFlag R.FB_STATUS_suspended false n
        let s := s.modForce n fun f => { f with groupAct := none }
        if g.leaderHere then s.reissue (s.get R.GROUP_CFG_slot n) g
        else s.sendReady n g w
      else s
    | _, _ => s

/-- BLIND_CEILING: no assessed update for blind_ms (R214). -/
def blindOf (s : State) (n : Fin 64) : State :=
  match (s.plan n).exec with
  | none => s
  | some e =>
    if s.flag R.FB_CTL_enable n ∧ s.get R.FB_SLOW_blind_ms n ≠ 0 ∧ s.st n = stMoving ∧ testedSeg e.seg ∧
        (s.force n).blindCeil.isNone ∧ (s.force n).assessedAt + 1000000 * s.get R.FB_SLOW_blind_ms n ≤ s.now then
      let c := s.get R.FB_SLOW_blind_pct n * s.vSeg n e / 256
      let s := (s.modForce n fun f => { f with blindCeil := some c, ceilHeld := true }).budgetCeil n
      s.fbEvent n R.FB_EVENTS_blind 0x32 (bytesLE 4 (s.get R.FB_CEIL_ceil n))
    else s

/-! ### Learning (R206) and data ports (R205, R228) -/

/-- The lock stands: host and Hiker writes to the locked budget registers have no effect (R221). -/
def fbLocked (s : State) (n : Fin 64) : Bool := s.flag R.FB_LOCK_lock n

/-- FB_CTL.learn with learn_dir as written (R206). -/
def learnOf (s : State) (n : Fin 64) (dir : Nat) : State :=
  if dir % 4 = 0 ∨ ¬ s.travelValid n then
    s.fbEvent n R.FB_EVENTS_learn_failed 0x34 (bytesLE 1 (dir % 4) ++ [0xFF, 0, 0]
      ++ bytesLE 4 (s.get R.FB_PROF_INFO_map_gen n))
  else
    let s := if dir.testBit 0 then s.setLearning n 0 true else s
    if dir.testBit 1 then s.setLearning n 1 true else s

/-- FB_CTL.learn_abort (R206). -/
def learnAbortOf (s : State) (n : Fin 64) : State :=
  ((s.setLearning n 0 false).setLearning n 1 false).modForce n fun f => { f with refRun := none }

/-- An access of FB_PROF_DATA (R205, R221): it answers or writes the entry and the index goes on by one. `force` is a
keyed write of Canopy, which the lock does not stop. -/
def profAccess (s : State) (n : Fin 64) (write : Option Word) (keyed : Bool) : State :=
  let i := s.get R.FB_PROF_ADDR_index n
  let s := match write with
    | some w => if s.fbLocked n ∧ ¬ keyed then s
                else s.modForce n fun f => { f with prof := sparsePut 0 i w f.prof }
    | none => { s with readData := ((sparseFind i (s.force n).prof).getD 0).toNat }
  s.set R.FB_PROF_ADDR_index ((i + 1) % 512) n

/-- A word of the segment store (R228). -/
def segWord (s : State) (n : Fin 64) (i : Nat) : Nat := ((sparseFind i (s.force n).segStore).getD 0).toNat

/-- A segment of the store (R228). -/
def storeSeg (s : State) (n : Fin 64) (slot : Nat) : Seg :=
  let w (i : Nat) : Nat := s.segWord n (8 * slot + i)
  ⟨w 0, w 1, w 2, w 3, w 4, w 5, w 6, w 7⟩

/-- An access of FB_SEG_DATA (R228). -/
def segAccess (s : State) (n : Fin 64) (write : Option Word) : State :=
  let i := 8 * s.get R.FB_SEG_ADDR_slot n + s.get R.FB_SEG_ADDR_word n
  let s := match write with
    | some w => s.modForce n fun f => { f with segStore := sparsePut 0 i w f.segStore }
    | none => { s with readData := s.segWord n i }
  let j := (i + 1) % 32
  (s.set R.FB_SEG_ADDR_slot (j / 8) n).set R.FB_SEG_ADDR_word (j % 8) n

/-! ### Gust (R224 to R227) -/

/-- win of R224. -/
def gustWin (s : State) (n : Fin 64) : Nat := max 4 (min 10 (s.get R.GUST_CTL_win n))

/-- The level of a window of N forces, mN (R225): the root over N of N times the sum of the squares less the square of the sum,
rounded to nearest. -/
def gustLevel (l : List Int) : Nat :=
  let k := l.length
  let d := ((k : Int) * (l.map fun x => x * x).sum - l.sum * l.sum).toNat
  satUnsigned 32 ((isqrt (4 * d) + k) / (2 * k) : Nat)

/-- Segments that wait on the trail retire FLUSHED: at once, or behind an executing segment as they reach the head
(R33, R226). -/
def flushBehind (s : State) (n : Fin 64) : State :=
  match (s.plan n).exec with
  | none => s.flushWaiting n 1024
  | some _ =>
    let h := s.head n
    let l := (List.range (s.trailCount n - 1)).map fun i => ((h + 1 + i) % 2048, endFlushed)
    s.modPlan n fun p => { p with discard := p.discard ++ l }

/-- Place the retract segments that are due, in order, as long as the trail has room (R226). -/
def placeRetracts (s : State) (n : Fin 64) : State :=
  (s.force n).retractDue.foldl (fun (s : State) (slot : Nat) =>
    if s.trailCount n < 1024 then
      let p := s.tail n
      (s.placeSeg n (s.storeSeg n slot)).modForce n fun f =>
        { f with retract := f.retract ++ [p], retractDue := f.retractDue.drop 1 }
    else s) s

/-- A gust on a group member asks the leader (R227). Log: DESIGN CHOICE notes/assumptions/15.md. -/
def gustRequest (s : State) (n : Fin 64) (level : Nat) : State :=
  match s.groupOf n with
  | none => s
  | some g =>
    s.sendRouted 0x04 g.leaderRoute g.leaderDepth (bytesLE 2 g.tag ++ bytesLE 1 (s.get R.GROUP_CFG_member n) ++ [0]
      ++ bytesLE 4 level)

/-- The leader acts on a GUST request: group ABORT, then one GROUP_MOVE to the targets of store slot 0 of each member
(R227). What stands in the store of a member on another device is open here.
Log: DESIGN CHOICE notes/assumptions/15.md. -/
def gustLead (s : State) (k : Nat) : State :=
  match s.group k with
  | none => s
  | some g =>
    if ¬ g.leaderHere ∨ g.retract.isSome then s
    else
      let s := s.issueGroupCmd k gcAbort 0 0 0
      match s.group k with
      | none => s
      | some g =>
        let es := g.members.map fun m =>
          let free (j : Nat) : Nat := Config.freeValue (s.freeCtr + 4 * m.index + j)
          let q := s.storeSeg (tileOf m.tile) 0
          if s.memberHere m then
            ({ index := m.index, dist := signed 32 q.w2, vel := q.w3, acc := q.w4, jerk := q.w5 } : GroupEntry)
          else { index := m.index, dist := signed 32 (free 0 % 2 ^ 32), vel := free 1 % (2 ^ 31 - 1) + 1,
                 acc := free 2 % (2 ^ 32 - 1) + 1, jerk := free 3 % (2 ^ 32 - 1) + 1 }
        let s := { s with freeCtr := s.freeCtr + 4 * groupMax }
        let s := s.setGroup k (some { g with retract := some g.nextSeq })
        s.issueMove { ref := none, onGroup := false, absolute := true, w0 := 0, earliest := 0 } k
          { g with retract := some g.nextSeq } es

/-- A gust is acted on (R226, R227). The event bears the retract segments that pass R39's check; on a trail that is full of waiting
segments they are placed once those have retired FLUSHED. Log: DEDUCED notes/assumptions/28.md. -/
def gustAct (s : State) (n : Fin 64) (level : Nat) : State :=
  let s := s.setFlag R.GUST_STATUS_latched true n
  let k := s.get R.GUST_CTL_retract n
  let member := s.isMember n
  let legal := (List.range k).filter fun i => s.segLegal n (s.storeSeg n i)
  let s := s.fbEvent n R.FB_EVENTS_gust 0x36 (bytesLE 4 level ++ bytesLE 1 (if member then 0 else legal.length))
  if member then
    let g := s.groupOf n
    if (g.map (·.leaderHere)) = some true then s.gustLead (s.get R.GROUP_CFG_slot n) else s.gustRequest n level
  else if k = 0 then s
  else
    let keep := (s.frozen n ∧ (s.force n).froze) ∨ (s.restingRetry n).isSome
    let s := match s.restingRetry n with
      | some e => s.endAtRest n endStopped e false s.tickStart
      | none => s
    let s := s.flushBehind n
    let s := if (s.plan n).exec.isSome ∧ ¬ (s.force n).acted then s.brake n .limit (s.stopAcc n) (s.stopJerk n) else s
    let s := if legal.length < k then s.setFlag R.GUST_STATUS_refused true n else s
    let s := (s.modForce n fun f => { f with retractDue := legal }).placeRetracts n
    if keep then s else s.unfreeze n

/-- GUST_SAMPLE: each 1 ms (R225). Holding without in_hold nothing is evaluated, so no evaluations in a row pass over it.
Log: DEDUCED notes/assumptions/28.md. -/
def gustSample (s : State) (n : Fin 64) : State :=
  let st := s.st n
  if ¬ s.flag R.GUST_CTL_enable n then s
  else if ¬ (st = stMoving ∨ (st = stHolding)) then
    ((s.modForce n fun f => { f with window := [], above := 0 }).set R.GUST_LEVEL_level 0 n).set R.GUST_STATUS_samples 0 n
  else if st = stHolding ∧ ¬ s.flag R.GUST_CTL_in_hold n then s.modForce n fun f => { f with above := 0 }
  else
    let win := s.gustWin n
    let take := s.flag R.FB_STATUS_assessed n ∧ s.now < (s.force n).updated + 1000000
    let l := (s.force n).window ++ (if take then [(s.now, s.forceNow n)] else [])
    let l := l.filter fun e => decide (s.now < e.1 + 2 ^ win * 1000000)
    let level := if 2 ^ (win - 1) ≤ l.length then gustLevel (l.map (·.2)) else 0
    let ab := if s.get R.GUST_THR_thr n ≤ level ∧ ¬ s.flag R.GUST_STATUS_latched n then (s.force n).above + 1 else 0
    let s := s.modForce n fun f => { f with window := l, above := ab }
    (s.set R.GUST_LEVEL_level level n).set R.GUST_STATUS_samples (min 2047 l.length) n

/-- GUST: hold_ms evaluations in a row at or above the threshold (R225, R226). -/
def gustOf (s : State) (n : Fin 64) : State :=
  if s.flag R.GUST_CTL_enable n ∧ ¬ s.flag R.GUST_STATUS_latched n ∧
      max 1 (s.get R.GUST_CTL_hold_ms n) ≤ (s.force n).above then
    (s.modForce n fun f => { f with above := 0 }).gustAct n (s.get R.GUST_LEVEL_level n)
  else s

/-! ### Push-to-open (R229, R230) -/

/-- The sense of rotation between two crossings of 1.25 V, each by phase A or B and in a sense, rising or falling: increasing when
phase B follows phase A in the same sense, or phase A follows phase B in the other (R230). Two crossings by one phase give none. -/
def quarterSense (a c : Bool × Bool) : Option Bool :=
  if a.1 = c.1 then none else some ((a.2 == c.2) == c.1)

/-- The first `p` quarter-periods in a row that agree in direction: the direction, increasing true, their number and the time
they took, ns (R230). `last` is the crossing before, `dir` and `k` the direction and number so far since `since`. -/
def pushFind (p : Nat) (last : Option (Bool × Bool × Nat)) (dir : Option Bool) (k since : Nat) :
    List (Bool × Bool × Nat) → Option (Bool × Nat × Nat)
  | [] => none
  | c :: l =>
    match last.bind fun a => (quarterSense (a.1, a.2.1) (c.1, c.2.1)).map fun d => (a.2.2, d) with
    | none => pushFind p (some c) none 0 c.2.2 l
    | some (t, d) =>
      let again := decide (dir = some d)
      let k := if again then k + 1 else 1
      let since := if again then since else t
      if p ≤ k then some (d, k, c.2.2 - since) else pushFind p (some c) (some d) k since l

/-- PUSH_CONFIRM: enough quarter-periods agree in direction within 500 ms of a firing (R230). `crossings` are those that the scan
converter's samples of VA and VB show: by phase B, rising, and the time after the firing in ns.
Log: DEDUCED notes/assumptions/28.md. -/
def pushConfirm (s : State) (n : Fin 64) (crossings : List (Bool × Bool × Nat)) : State :=
  match (s.force n).pushAt with
  | none => s
  | some t =>
    let seen := crossings.filter fun c => decide (c.2.2 ≤ 500000000) && decide (t + c.2.2 ≤ s.now)
    match pushFind (max 1 (s.get R.PUSH_CTL_periods n)) none none 0 0 seen with
    | none => s
    | some (increasing, k, time) =>
      let rate := s.quotient (1000000000 * k : Nat) (time : Nat)
      let s := rate.2.modForce n fun f => { f with pushAt := none }
      let dir := if increasing then 1 else 2
      let s := s.fbEvent n R.FB_EVENTS_push 0x38 (bytesLE 1 dir ++ [0, 0, 0] ++ bytesLE 4 (satUnsigned 32 (roundRat rate.1)))
      let g := s.storeSeg n 3
      if s.flag R.PUSH_CTL_place n ∧ (s.get R.PUSH_CTL_dir n).testBit (dir - 1) ∧ s.segLegal n g ∧ s.trailCount n < 1024 then
        s.placeSeg n g
      else s

/-- PUSH_TIMEOUT: 500 ms without a confirmation (R230). -/
def pushTimeoutOf (s : State) (n : Fin 64) : State :=
  if (s.force n).pushAt.any fun t => decide (t + 500000000 ≤ s.now) then s.modForce n fun f => { f with pushAt := none } else s

end State
end Sys2Proof.Machine
end

