-- ==== Sys2Proof/Machine/PlanTick.lean ====
section
/-! DEFINITION. One plan tick of a tile: the decisions that it takes first, the motion of R51, position events, the wrap, and the
blocks that follow the position (02_trails_and_profiles.md R48 to R74, 01_how_a_move_travels.md R26, R29). -/

namespace Sys2Proof.Machine
namespace State

/-- The motion of a plan tick of a tile (R48, R51): a decided hand-over starts its next segment, then the executing segment
runs; with none executing, in a DWELL, the accumulator stands. Position events are judged at the end of every tick
(R72). -/
def moveTick (s : State) (n : Fin 64) : State :=
  let tick := s.tickStart
  let s := s.settleHandover n
  let s := if s.energised n then s.chooseRegulator n else s
  match (s.plan n).exec with
  | none =>
    let s : State := match (s.sd n).walk with
      | some w => s.walkTick n w
      | none => s
    s.stepPosEvents n s.tickEnd
  | some e =>
    if segType e.seg = 4 ∧ e.stop = .none then
      (s.modPlan n fun p => { p with exec := some { e with ticks := e.ticks + 1 } }).stepPosEvents n s.tickEnd
    else s.runTick n e tick

/-- The decisions that a tick takes before it moves, in the order of R26: a stall decision, then an obstruction's policy. -/
def tickDecisions (s : State) (n : Fin 64) : State := (s.stallDecisionOf n).obstructionOf n

/-- One plan tick of a tile that is clocked, and of the blocks that follow its position: decisions, the motion, the wrap at its
end (R247), ports and outputs. An Asleep tile has no tick. -/
def planTickOf (s : State) (n : Fin 64) : State :=
  if s.st n = stAsleep then s
  else
    let s := (s.keepReplace n).tickDecisions n
    let s := s.modPlan n fun p =>
      { p with ran := some (s.tickStart, s.pos32 n, s.pos32 n), placed := (0, 0), stoppedOn := none, startedOn := none }
    let at_ := (s.plan n).exec.map (·.ptr)
    let s := ((s.moveTick n).wrapTick n).modForce n fun f => { f with acted := false }
    ((s.placeRetracts n).modPlan n fun p => { p with endInt := s.posInt n }).fieldTick n at_

end State

/-- PLAN_TICK (R51). -/
def execPlanTick (n : Fin 64) (s : State) : Res := .next (s.planTickOf n)

end Sys2Proof.Machine
end

