-- ==== Sys2Proof/Machine/Sundial.lean ====
section
/-! DEFINITION. The commands of Sundial (05_sundial.md). -/

namespace Sys2Proof.Machine

/-- SUNDIAL_UPDATE (R156): a stored cycle of phase `x` ends; the force budget follows on a scored update (R203). -/
def execSundialUpdate (n : Fin 64) (x : Fin 2) (c : Cycle) (s : State) : Res :=
  let r := s.sdUpdate n x c
  .next (if r.2 then r.1.forceUpdate n else r.1)

/-- STALL_DECISION (R184). -/
def execStallDecision (n : Fin 64) (s : State) : Res := .next (s.stallDecisionOf n)

/-- CONF_DECAY (R176). -/
def execConfDecay (n : Fin 64) (s : State) : Res := .next (s.confDecayOf n)

/-- CONF_LOW (R187). -/
def execConfLow (n : Fin 64) (s : State) : Res := .next (s.confLowOf n)

/-- MAP_LOAD (R167). -/
def execMapLoad (n : Fin 64) (s : State) : Res := .next (s.mapLoadOf n)

/-- MAP_CHECK (R167). -/
def execMapCheck (n : Fin 64) (s : State) : Res := .next (s.mapCheckOf n)

/-- SD_CLEAR (R158). -/
def execSdClear (n : Fin 64) (s : State) : Res := .next (s.sundialClear n)

/-- WALK_START (R192). -/
def execWalkStart (n : Fin 64) (s : State) : Res := .next (s.walkStartOf n)

/-- WALK_ABORT (R195). -/
def execWalkAbort (n : Fin 64) (s : State) : Res := .next (s.walkAbortOf n)

/-- WALK_PHASE_COMPLETE (R193): in phase 1 `settle` holds the settling times of its edges in ns, `charge` the spike's
charge in pC, `freq` the ringing frequency in Hz. -/
def execWalkPhaseComplete (n : Fin 64) (settle : List Nat) (charge freq : Nat) (s : State) : Res :=
  .next (s.walkCompleteOf n settle charge freq)

/-- WALK_GRANT_TIMEOUT (R192, R196). -/
def execWalkGrantTimeout (n : Fin 64) (s : State) : Res := .next (s.walkTimeoutOf n)

end Sys2Proof.Machine
end

