-- ==== Sys2Proof/Machine/Force.lean ====
section
/-! DEFINITION. The commands of the force budget, Gust and push-to-open (06_force_budget.md). -/

namespace Sys2Proof.Machine

/-- LEARN (R206, R221): FB_CTL.learn written with a learn_dir; `keyed` is Canopy's write under an accepted keyed command. -/
def execLearn (n : Fin 64) (dir : Fin 4) (keyed : Bool) (s : State) : Res :=
  .next (if s.fbLocked n ∧ ¬ keyed then s else s.learnOf n dir)

/-- LEARN_ABORT (R206, R221). -/
def execLearnAbort (n : Fin 64) (keyed : Bool) (s : State) : Res :=
  .next (if s.fbLocked n ∧ ¬ keyed then s else s.learnAbortOf n)

/-- OBSTRUCTION_DECISION (R212). -/
def execObstructionDecision (n : Fin 64) (s : State) : Res := .next (s.obstructionOf n)

/-- RETRY_WAIT_EXPIRY (R218). -/
def execRetryWaitExpiry (n : Fin 64) (s : State) : Res := .next (s.retryOver n)

/-- BLIND_CEILING (R214). -/
def execBlindCeiling (n : Fin 64) (s : State) : Res := .next (s.blindOf n)

/-- GUST_SAMPLE (R225). -/
def execGustSample (n : Fin 64) (s : State) : Res := .next (s.gustSample n)

/-- GUST (R226). -/
def execGust (n : Fin 64) (s : State) : Res := .next (s.gustOf n)

/-- PUSH_CONFIRM (R230): the crossings of 1.25 V that the scan converter's samples show, `edges` by phase B and rising,
`times` in ns after the firing. -/
def execPushConfirm (n : Fin 64) (edges : List (Bool × Bool)) (times : List Nat) (s : State) : Res :=
  .next (s.pushConfirm n ((edges.zip times).map fun c => (c.1.1, c.1.2, c.2)))

/-- PUSH_TIMEOUT (R230). -/
def execPushTimeout (n : Fin 64) (s : State) : Res := .next (s.pushTimeoutOf n)

/-- FB_PROF_DATA_ACCESS (R205): a read, or a write of a word. -/
def execFbProfDataAccess (n : Fin 64) (write : Option Word) (keyed : Bool) (s : State) : Res :=
  .next (s.profAccess n write keyed)

/-- FB_SEG_DATA_ACCESS (R228): a read, or a write of a word. -/
def execFbSegDataAccess (n : Fin 64) (write : Option Word) (s : State) : Res := .next (s.segAccess n write)

end Sys2Proof.Machine
end

