-- ==== Sys2Proof/Machine/Converters.lean ====
section
/-! DEFINITION. The converters: slices, rotation and failure, references, scans, buffers, alarms, the site-trigger and the
house converter (09_converters.md). Samples and measurements are the commands' operands. -/

namespace Sys2Proof.Machine

/-- One step of a slice toward its measurement, and its trim (R291). `pos` positions share the frame of 16 clocks.
Log: DEDUCED notes/assumptions/29.md. -/
def sliceStep (r : Rotation) (pos least : Nat) (c : Slice) : Slice :=
  let g2 : Int := (r.shadow.map fun e => e.2 * e.2).sum
  let dg : Int := (r.shadow.map fun e => e.1 * e.2).sum
  -- |Δt| exceeds half a trim step of 1/64 clock, an instant lasting 16/pos clocks
  let far := decide ((least : Int) ≤ g2) && decide (g2 * pos < 2 * 64 * 16 * (dg.natAbs : Int))
  let trim := if far then c.trim + dg.sign else c.trim
  let off := c.off + truncDiv (r.off - c.off) 8
  let gain := ((c.gain : Int) + truncDiv ((r.gain : Int) - c.gain) 8).toNat
  let bad := decide (1024 < r.off.natAbs) || decide (r.gain * 10 < 0x8000 * 9) || decide (0x8000 * 11 < r.gain * 10) ||
    decide (63 < trim.natAbs) || decide (8 < r.residual)
  { off := off, gain := gain, trim := trim, bad := if bad then c.bad + 1 else 0 }

/-- The delivered result of a slice's raw result `x`, limited to a code range (R289). -/
def sliceCode (c : Slice) (least most x : Int) : Int :=
  clampInt least most (roundRat (((x : Rat) - (c.off : Rat) / 16) * (c.gain : Rat) / 32768))

/-- The number of a converter's slices. -/
def convSize (c : Fin 4) : Nat := if c.val < 2 then 5 else 3

/-- The code that a spare field gives for no spare (R303). -/
def noSpare (c : Fin 4) : Nat := if c.val < 2 then 7 else 3

/-- A result value of summed samples (R305). -/
def scanValue (shift : Nat) (codes : List Nat) : Nat :=
  if shift = 0 then codes.sum else (codes.sum + 2 ^ (shift - 1)) / 2 ^ shift

namespace State

/-! ### Places: a tile's converters, or the house converter (R284) -/

/-- The converters of a tile, or of the house. -/
def adc (s : State) (u : Option (Fin 64)) : Adc :=
  match u with
  | some n => (s.tile n).adc
  | none => s.house

/-- Change the converters of a tile, or of the house. -/
def modAdc (s : State) (u : Option (Fin 64)) (f : Adc → Adc) : State :=
  match u with
  | some n => s.modTile n fun t => { t with adc := f t.adc }
  | none => { s with house := f s.house }

/-- Converter `c`: 0 F0, 1 F1, 2 scan of a tile; 3 the house converter. -/
def convOf (s : State) (u : Option (Fin 64)) (c : Fin 4) : Conv :=
  match c.val with
  | 0 => (s.adc u).conv[0]
  | 1 => (s.adc u).conv[1]
  | _ => (s.adc u).conv[2]

/-- Replace converter `c`. -/
def setConv (s : State) (u : Option (Fin 64)) (c : Fin 4) (v : Conv) : State :=
  s.modAdc u fun a => { a with conv :=
    match c.val with
    | 0 => a.conv.set 0 v
    | 1 => a.conv.set 1 v
    | _ => a.conv.set 2 v }

/-- The field that names the spare, its instance, and the failed-slice field of a converter (R303, R321). -/
def spareFld (c : Fin 4) : Fld :=
  match c.val with
  | 0 => R.ADC_SLICES_spare_f0
  | 1 => R.ADC_SLICES_spare_f1
  | 2 => R.ADC_SLICES_spare_scan
  | _ => R.HOUSE_STATUS_spare

/-- The failed-slice field of a converter. -/
def failedFld (c : Fin 4) : Fld :=
  match c.val with
  | 0 => R.ADC_SLICES_failed_f0
  | 1 => R.ADC_SLICES_failed_f1
  | 2 => R.ADC_SLICES_failed_scan
  | _ => R.HOUSE_STATUS_failed

/-- The register instance of a place. -/
def placeIx (u : Option (Fin 64)) : Nat := (u.map (·.val)).getD 0

/-- The slice now spare; none when there is none. -/
def spareOf (s : State) (u : Option (Fin 64)) (c : Fin 4) : Option Nat :=
  let v := s.get (spareFld c) (placeIx u)
  if v = noSpare c then none else some v

/-- Background calibration is enabled for the converter. -/
def calEnabled (s : State) (u : Option (Fin 64)) : Bool :=
  match u with
  | some n => s.flag R.ADC_CTL_cal_en n
  | none => s.flag R.HOUSE_CTL_cal_en

/-- cal_stop_f, cal_stop_scan and SD_STATUS.cal_stopped (R160, R294, R303). -/
def showCal (s : State) (u : Option (Fin 64)) : State :=
  match u with
  | none => s
  | some n =>
    let off := !s.calEnabled u
    let f := off || (s.spareOf u 0).isNone || (s.spareOf u 1).isNone
    let s := (s.setFlag R.ADC_STATUS_cal_stop_f f n).setFlag R.SD_STATUS_cal_stopped f n
    s.setFlag R.ADC_STATUS_cal_stop_scan (off || (s.spareOf u 2).isNone) n

/-! ### Rotation and failure (R290, R291, R295 to R298) -/

/-- The tile of a place in an event. -/
def placeTile (u : Option (Fin 64)) : Nat := (u.map (·.val)).getD 0xFF

/-- Slices of a converter that have failed. -/
def failedCount (s : State) (u : Option (Fin 64)) (c : Fin 4) : Nat :=
  let v := s.get (failedFld c) (placeIx u)
  ((List.range 5).filter fun i => v.testBit i).length

/-- A visit ends, or none is in progress. -/
def sfeIdle (s : State) : State :=
  let s := { s with sfe := { s.sfe with visit := none } }
  ((s.setFlag R.SFE_STATUS_busy false).setFlag R.SFE_STATUS_checking false).setFlag R.SFE_STATUS_voltage false

/-- The house converter is lost: a voltage conversion or tone check under way is abandoned, and a channel in recovery has no
valid result, its verdict kept (R389, R391). -/
def sfeHouseLost (s : State) : State :=
  let s := s.setFlag R.SFE_STATUS_house_lost true
  let s := (List.range 8).foldl (fun (s : State) k =>
    if s.fbit R.SFE_STATUS_recovery k then s.setFlag R.SFE_TEMP_valid false k else s) s
  match s.sfe.visit with
  | some v => if v.volt ∨ v.check then s.sfeIdle else s
  | none => s

/-- What the converter's remaining positions mean for its rate and its tile (R182, R296, R298). -/
def convDegrade (s : State) (u : Option (Fin 64)) (c : Fin 4) : State :=
  let pos := (s.convOf u c).pos.length
  match u with
  | none =>
    let s := s.setFlag R.HOUSE_STATUS_rate_20 (decide (pos = 1))
    if pos = 0 ∧ ¬ s.flag R.HOUSE_STATUS_lost then
      let s := ((s.setFlag R.HOUSE_STATUS_lost true).sfeHouseLost.setFlag R.HOUSE_STATUS_busy false).modAdc none fun a => { a with run := none }
      s.event 0x45 0xFF []
    else s
  | some n =>
    if c.val < 2 then
      if 3 ≤ s.failedCount u c then s.tileFault n 0x06
      else if pos = 3 then
        let s := (s.setFlag R.RIPPLE_STATUS_rate_60 true n).setFlag R.ADC_STATUS_rate_60 true n
        let s := s.setFlag R.SD_STATUS_rate_60 true n
        if s.walking n then (s.walkFail n 0x04).showLevel n else s
      else s
    else
      let s := s.setFlag R.ADC_STATUS_scan_20 (decide (pos = 1)) n
      if pos = 0 then
        let s := (s.setFlag R.ADC_STATUS_scan_lost true n).set R.ADC_VM_vm_mv 0 n
        (s.setFlag R.ADC_STATUS_scan_busy false n).modAdc u fun a => { a with run := none, waiting := none }
      else s

/-- Slice `k` of a converter fails (R295 to R297): reason 1 calibration, 2 stuck while active. -/
def sliceFail (s : State) (u : Option (Fin 64)) (c : Fin 4) (k reason : Nat) : State :=
  if convSize c ≤ k ∨ s.fbit (failedFld c) k (placeIx u) ∨ (reason = 2 ∧ ¬ (s.convOf u c).pos.contains k) then s
  else
    let s := s.setBit (failedFld c) k true (placeIx u)
    let spare := s.spareOf u c
    let v := s.convOf u c
    let pos := if spare = some k then v.pos
      else match spare with
        | some p => v.pos.map fun x => if x = k then p else x
        | none => v.pos.filter fun x => decide (x ≠ k)
    let s := (s.setConv u c { v with pos := pos }).set (spareFld c) (noSpare c) (placeIx u)
    let s := s.modAdc u fun a => { a with run := a.run.map fun r => if 2 ≤ c.val then { r with degraded := true } else r }
    let s := match u with
      | some n =>
        let s := s.setFlag R.ADC_EVENTS_slice_failed true n
        if spare = some k ∨ 2 ≤ c.val then s
        else s.modChop n (if c = 0 then 0 else 1) fun h => { h with spoiled := true }
      | none => s
    let left := convSize c - s.failedCount u c
    let s := s.event 0x43 (placeTile u) (bytesLE 1 c ++ bytesLE 1 k ++ bytesLE 1 reason ++ bytesLE 1 left)
    let s := (s.showCal u).convDegrade u c
    match u with
    | some n => (s.commitTile n).1
    | none => s.commitDevice.1

/-- The fast converters run (R286). -/
def fastRuns (s : State) (n : Fin 64) : Bool :=
  let st := s.st n
  st = stHolding || st = stMoving || st = stLull || (st = stIdle && s.flag R.ADC_CTL_f_idle n)

/-- The scan converter, or the house converter, runs (R286, R298). -/
def scanRuns (s : State) (u : Option (Fin 64)) : Bool :=
  match u with
  | some n => decide (s.st n ≠ stAsleep) && decide (s.st n ≠ stFault) && !s.flag R.ADC_STATUS_scan_lost n
  | none => decide (s.get R.PWR_STATUS_state < 2) && !s.flag R.HOUSE_STATUS_lost

/-- Converter `c` runs (R286). -/
def convRuns (s : State) (u : Option (Fin 64)) (c : Fin 4) : Bool :=
  match u with
  | some n => if c.val < 2 then s.fastRuns n else s.scanRuns u
  | none => s.scanRuns none

/-- ns between rotation steps (R290); the house converter's interval, which the spec does not give, is 0: its steps come as they are
commanded. Log: DEDUCED notes/assumptions/29.md. -/
def rotNs (s : State) (u : Option (Fin 64)) : Nat :=
  match u with
  | some n => 1000000 * max 1 (s.get R.ADC_CTL_rot_ms n)
  | none => 0

/-- One rotation step (R290, R291) of a converter that runs, one interval or more after the last: the spare measured, its
coefficients moved, the exchange with the shadowed slice; then its failure after two bad measurements in a row (R295, R322). -/
def rotate (s : State) (u : Option (Fin 64)) (c : Fin 4) (r : Rotation) : State :=
  match s.spareOf u c with
  | none => s
  | some k =>
    if ¬ s.calEnabled u ∨ ¬ s.convRuns u c ∨ s.now < (s.convOf u c).rotAt + s.rotNs u then s
    else
      let v := s.convOf u c
      let p := v.next % max 1 v.pos.length
      let old := v.slices.getD k Slice.reset
      let r := { r with shadow := r.shadow.take (if c.val < 2 then 8192 else 1024) }
      let new := sliceStep r v.pos.length (2 ^ 20) old
      let out := v.pos.getD p k
      let s := s.setConv u c { slices := v.slices.set k new, pos := v.pos.set p k, next := (p + 1) % max 1 v.pos.length,
                                 rotAt := s.now }
      let s := s.set (spareFld c) out (placeIx u)
      if 2 ≤ new.bad then s.sliceFail u c k 1 else s

/-! ### References (R299 to R302) -/

/-- f_settled: the chosen fast reference is settled (R300, R303). -/
def showSettled (s : State) (n : Fin 64) : State :=
  s.setFlag R.ADC_REF_f_settled (if s.flag R.ADC_REF_f_ref n then s.flag R.ADC_REF_vref_ok n else s.flag R.ADC_REF_int_ok n) n

/-- A write of ADC_REF (R300, R303). -/
def writeAdcRef (s : State) (n : Fin 64) (v : Word) : State :=
  let s := if v.getLsbD 7 then s.setFlag R.ADC_REF_fallback false n else s
  let st := s.st n
  if st = stHolding ∨ st = stMoving ∨ st = stLull then
    (if v.getLsbD 31 = s.flag R.ADC_REF_f_ref n then s else s.setFlag R.ADC_EVENTS_cfg_refused true n)
  else ((s.setFlag R.ADC_REF_f_ref (v.getLsbD 31) n).showSettled n).energiseIfDue n

/-- VREFq of quadrant `q` loses its settled flag (R299, R301). -/
def refLost (s : State) (q : Fin 4) : State :=
  s.forTiles (allTiles.filter fun (n : Fin 64) => decide (n.val / 16 = q.val)) fun n s =>
    let s := s.setFlag R.ADC_REF_vref_ok false n
    let s := if s.flag R.ADC_REF_f_ref n ∧ s.fastRuns n then
        let s := ((s.setFlag R.ADC_REF_f_ref false n).setFlag R.ADC_REF_fallback true n).modAdc (some n) fun a => { a with fellBack := some s.now }
        (s.setFlag R.ADC_EVENTS_ref_lost true n).event 0x44 n (bytesLE 1 q)
      else s
    s.showSettled n

/-- ADC_CAL_DATA read (R303): the coefficient, sign-extended; the slice goes on, 12 to 0.
Log: DEDUCED notes/assumptions/29.md. -/
def calRead (s : State) (n : Fin 64) : State :=
  let k := s.get R.ADC_CAL_ADDR_slice n
  let a := s.adc (some n)
  let c : Option Slice := if k < 5 then a.conv[0].slices[k]? else if k < 10 then a.conv[1].slices[k - 5]?
    else a.conv[2].slices[k - 10]?
  let s := match c with
    | some c =>
      let v : Int := match s.get R.ADC_CAL_ADDR_coeff n with
        | 0 => c.off
        | 1 => (c.gain : Int)
        | 2 => c.trim
        | _ => 0
      { s with readData := wrapNat 32 v }
    | none => let r := s.fresh; { r.2 with readData := r.1 % 2 ^ 32 }
  s.set R.ADC_CAL_ADDR_slice (if 12 ≤ k then 0 else k + 1) n

/-! ### Scans (R304 to R309, R315 to R318) -/

/-- The source that triggers scans (R308, R321). -/
def scanSrc (s : State) (u : Option (Fin 64)) : Nat :=
  match u with
  | some n => s.get R.SCAN_TRIG_src n
  | none => s.get R.HOUSE_CTL_src

/-- Show that a scan is in progress. -/
def showBusy (s : State) (u : Option (Fin 64)) (b : Bool) : State :=
  match u with
  | some n => s.setFlag R.ADC_STATUS_scan_busy b n
  | none => s.setFlag R.HOUSE_STATUS_busy b

/-- ns of a slot (R285, R296). -/
def slotNs (s : State) (u : Option (Fin 64)) : Nat :=
  let slow := match u with
    | some n => s.flag R.ADC_STATUS_scan_20 n
    | none => s.flag R.HOUSE_STATUS_rate_20
  if slow then 50 else 25

/-- The first slot at or after a time (R285, R309). -/
def slotFrom (s : State) (u : Option (Fin 64)) (t : Nat) : Nat := (t + s.slotNs u - 1) / s.slotNs u * s.slotNs u

/-- The channels that a place scans (R305, R320). -/
def scanMask (s : State) (u : Option (Fin 64)) : Nat :=
  match u with
  | some n => s.get R.SCAN_MASK_mask n
  | none => s.get R.HOUSE_MASK_mask

/-- The settings of settle [23:20], shift [19:16] and navg [7:0] as SCAN_AVG lays them out (R315, R321). -/
def scanAvg (s : State) (u : Option (Fin 64)) : Nat :=
  match u with
  | some n => (s.rd (R.SCAN_AVG.at n)).toNat
  | none => s.get R.HOUSE_CTL_settle * 2 ^ 20 + s.get R.HOUSE_CTL_shift * 65536 + s.get R.HOUSE_CTL_navg

/-- Samples summed for a channel, and the slots that it takes (R305). -/
def runSum (r : ScanRun) : Nat := r.avg % 256 + 1
def runSlots (r : ScanRun) : Nat := r.avg / 2 ^ 20 % 16 + runSum r

/-- The channels of a scan, in order (R305). -/
def runChannels (r : ScanRun) : List Nat := (List.range 32).filter fun k => r.mask.testBit k

/-- The end of a scan's last slot (R305). -/
def runEnd (s : State) (u : Option (Fin 64)) (r : ScanRun) : Nat :=
  r.start + (runChannels r).length * runSlots r * s.slotNs u

/-- A scan starts from a source at a slot, under the settings in force (R305, R309). -/
def scanBegin (s : State) (u : Option (Fin 64)) (src start : Nat) (late : Bool) : State :=
  let mask := s.scanMask u
  if mask = 0 then s
  else
    let refs := match u with
      | some n => s.get R.SCAN_REFSEL_refs n
      | none => s.get R.HOUSE_REFSEL_vdda
    let r : ScanRun := { supply := false, src := src, late := late, mask := mask, avg := s.scanAvg u, refs := refs,
                         start := start, epoch := s.epoch, toBuf := true, degraded := false }
    let s := (s.modAdc u fun a => { a with run := some r }).showBusy u true
    match u with
    | some n => if late then s.setFlag R.ADC_EVENTS_late true n else s
    | none => s

/-- Count a dropped trigger (R309). -/
def scanDrop (s : State) (u : Option (Fin 64)) : State :=
  match u with
  | some n => s.bump R.ADC_STATUS_drops n
  | none => s.bump R.HOUSE_STATUS_drops

/-- A scan is to start at the first slot from a time: with an empty mask nothing happens; a start in a scan is dropped, one in a supply
conversion waits and is late (R309), and one on the slot on which either ends follows it (R322).
Log: DEDUCED notes/assumptions/31.md. -/
def scanStart (s : State) (u : Option (Fin 64)) (src time : Nat) : State :=
  let start := s.slotFrom u time
  if ¬ s.scanRuns u ∨ s.scanMask u = 0 then s
  else match (s.adc u).run with
  | none => s.scanBegin u src start false
  | some r =>
    let inside := decide (start < s.runEnd u r)
    if (inside && !r.supply) || (s.adc u).waiting.isSome then s.scanDrop u
    else s.modAdc u fun a => { a with waiting := some (src, start, inside) }

/-- The time from a trigger's event to its start (R309, R310, R320). -/
def scanDelay (s : State) (u : Option (Fin 64)) : Nat :=
  match u with
  | some n => 25 * s.get R.SCAN_TRIG_delay n
  | none => 0

/-- An event of a source at the present time: every (div + 1)th of the selected source triggers (R308), and its scan starts after the
delay (R309). -/
def scanEvent (s : State) (u : Option (Fin 64)) (src : Nat) : State :=
  if s.scanSrc u ≠ src ∨ src = 0 then s
  else
    let div := match u with
      | some n => s.get R.SCAN_TRIG_div n
      | none => 0
    let k := (s.adc u).div + 1
    if div < k then
      let s := s.modAdc u fun a => { a with div := 0 }
      if s.scanDelay u = 0 then s.scanStart u src s.now
      else s.modAdc u fun a => { a with due := a.due ++ [(s.now + s.scanDelay u, src)] }
    else s.modAdc u fun a => { a with div := k }

/-- Starts of a place whose time has come (R309). -/
def scanDue (s : State) (u : Option (Fin 64)) : State :=
  let l := (s.adc u).due.filter fun e => decide (e.1 ≤ s.now)
  if l = [] then s
  else
    l.foldl (fun (s : State) e => s.scanStart u e.2 e.1)
      (s.modAdc u fun a => { a with due := a.due.filter fun e => decide (s.now < e.1) })

/-- Starts of every place whose time has come. -/
def scansDue (s : State) : State := (s.forTiles allTiles fun n s => s.scanDue (some n)).scanDue none

/-- The reference code of channel `k` under a scan's settings: 0 internal, 1 VREFq, 2 VDDA (R315, R321). -/
def refOf (u : Option (Fin 64)) (refs k : Nat) : Nat :=
  match u with
  | some _ => refs / 4 ^ k % 4
  | none => if refs.testBit k then 2 else 0

/-- The reference of a channel is settled (R302). -/
def refSettled (s : State) (u : Option (Fin 64)) (code : Nat) : Bool :=
  match u with
  | some n => if code = 1 then s.flag R.ADC_REF_vref_ok n else if code = 2 then s.flag R.ADC_REF_vdda_ok n
              else s.flag R.ADC_REF_int_ok n
  | none => if code = 2 then s.flag R.HOUSE_STATUS_vdda_ok else s.flag R.HOUSE_STATUS_int_ok

/-- The derived value of a settled tile result (R306). `norm` is the mean code.
Log: DESIGN CHOICE notes/assumptions/30.md. -/
def derive (s : State) (n : Fin 64) (k code : Nat) (norm : Rat) : State :=
  match k with
  | 2 =>
    -- on VDDA the reference voltage is one that the spec does not fix
    let r := s.fresh
    let vref : Rat := if code = 2 then (r.1 : Rat) / 1000 else 5 / 2
    let s := if code = 2 then r.2 else s
    s.set R.ADC_VM_vm_mv (satUnsigned 32 (roundRat (norm * s.get R.VM_SCALE_vm_fs n * 10 * vref / (16384 * (5 / 2))))) n
  | 3 =>
    let beta := s.get R.NTC_CFG_beta n
    let rnom := s.get R.NTC_CFG_r_nom n
    let rpu := s.get R.NTC_RPU_r_pu n
    if code ≠ 2 ∨ beta = 0 ∨ rnom = 0 ∨ rpu = 0 then s.set R.ADC_NTC_t_ntc 0x8000 n
    else
      let x := norm / 16384
      let r := (rpu : Rat) * x / (1 - x)
      if x ≤ 0 ∨ 1 ≤ x then
        -- the formula has no value here
        let f := s.fresh
        f.2.set R.ADC_NTC_t_ntc (f.1 % 65536) n
      else
        let t : Rat := 1 / (1 / (29815 / 100) + lnRat (r / rnom) / beta) - 27315 / 100
        s.set R.ADC_NTC_t_ntc (satSigned 16 (roundRat (64 * t))) n
  | 6 => s.set R.ADC_TEMP_t_die (satSigned 16 (Config.dieTemp n norm)) n
  | _ => s

/-- One channel's result enters its register and its derived value (R302, R305, R306); answers the result word.
Log: DESIGN CHOICE notes/assumptions/30.md. -/
def scanResult (s : State) (u : Option (Fin 64)) (r : ScanRun) (k : Nat) (codes : List Nat) : State × Nat :=
  let shift := r.avg / 65536 % 16
  let v := scanValue shift codes % 2 ^ 24
  let code := refOf u r.refs k
  let uns := !s.refSettled u code
  let outside := codes.any fun c => decide (c = 0) || decide (16383 ≤ c)
  let flags := 8 * b2n uns + 4 * b2n r.degraded + 2 * b2n outside
  let w := 2 ^ 31 + flags / 2 * 2 ^ 28 + v
  let norm : Rat := (v : Rat) * (2 ^ shift : Nat) / (r.avg % 256 + 1 : Nat)
  let s := match u with
    | some n =>
      let s := if k = 2 then s.modAdc u fun a => { a with vmAt := s.now } else s
      let s := s.wr (R.ADC_RES.at n k) (BitVec.ofNat 32 w)
      let s := if outside then s.setFlag R.ADC_EVENTS_over_range_scan true n else s
      if uns then s else s.derive n k code norm
    | none => s.wr (R.HOUSE_RES.at k) (BitVec.ofNat 32 w)
  (s, k * 2 ^ 28 + flags * 2 ^ 24 + v)

/-- Words free or held in a scan buffer: the fill (R318). -/
def bufFill (wIdx wWrap rIdx rWrap len : Nat) : Nat :=
  if wWrap = rWrap then wIdx - rIdx else wIdx + len - rIdx

/-- Write one word at the buffer's write pointer (R316, R317). -/
def bufPut (s : State) (n : Fin 64) (w : Nat) : State :=
  let len := 16 * s.get R.SCAN_BUF_len n
  let i := s.get R.SCAN_WPTR_idx n
  let s := s.sharedWrite none (tileSram n + 64 * s.get R.SCAN_BUF_base n + 4 * i) (bytesLE 4 w)
  if i + 1 < len then s.set R.SCAN_WPTR_idx (i + 1) n
  else (s.set R.SCAN_WPTR_idx 0 n).set R.SCAN_WPTR_wrap (1 - s.get R.SCAN_WPTR_wrap n) n

/-- A completed scan goes to the buffer and the journal (R317 to R319). -/
def scanRecord (s : State) (u : Option (Fin 64)) (r : ScanRun) (results : List Nat) : State :=
  let h0 := 0xF * 2 ^ 28 + r.src * 2 ^ 25 + b2n r.late * 2 ^ 24 + (s.adc u).count % 256 * 65536 + r.epoch % 256 * 256
  let words := h0 :: (r.start % 2 ^ 32) :: results
  let body := words.flatMap (bytesLE 4)
  let s := s.modAdc u fun a => { a with count := (a.count + 1) % 256 }
  match u with
  | none =>
    if s.flag R.HOUSE_CTL_journal then s.journal (s.get R.HOUSE_CTL_jring) 0x06 0xFF r.start body else s
  | some n =>
    let len := 16 * s.get R.SCAN_BUF_len n
    let fill := bufFill (s.get R.SCAN_WPTR_idx n) (s.get R.SCAN_WPTR_wrap n) (s.get R.SCAN_RPTR_idx n)
      (s.get R.SCAN_RPTR_wrap n) len
    let s := if ¬ s.flag R.SCAN_BUF_dma_en n ∨ ¬ r.toBuf then s
      else if s.flag R.SCAN_BUF_stop_full n ∧ len < fill + words.length then s.bump R.ADC_STATUS_lost n
      else words.foldl (fun (s : State) (w : Nat) => s.bufPut n w) s
    if s.flag R.SCAN_BUF_journal n then s.journal (s.get R.SCAN_BUF_jring n) 0x05 n r.start body else s

/-- The delivered codes of the `j`th channel of a scan (R288, R289, R305): the raw results of its summed slots, each corrected by the
slice at the slot's position. A raw result that the command does not bring is open. -/
def runCodes (s : State) (u : Option (Fin 64)) (r : ScanRun) (j : Nat) (raw : List Nat) : List Nat :=
  let v := s.convOf u (if u.isSome then 2 else 3)
  (List.range (runSum r)).map fun i =>
    let slot := r.start / s.slotNs u + j * runSlots r + (runSlots r - runSum r) + i
    let x := raw.getD i (Config.freeValue (s.freeCtr + i) % 16384)
    (sliceCode (v.slices.getD (v.pos.getD (slot % max 1 v.pos.length) 0) Slice.reset) 0 16383 x).toNat

/-- The results of a scan's channels in order, and its result words (R305, R317). `res` brings the raw results of each channel's
summed slots. -/
def scanResults (s : State) (u : Option (Fin 64)) (r : ScanRun) (res : List (Nat × List Nat)) : State × List Nat :=
  (runChannels r).zipIdx.foldl (fun (a : State × List Nat) (e : Nat × Nat) =>
    let s := a.1
    let codes := s.runCodes u r e.2 (((res.find? fun q => decide (q.1 = e.1)).map (·.2)).getD [])
    let x := State.scanResult { s with freeCtr := s.freeCtr + runSum r } u r e.1 codes
    (x.1, a.2 ++ [x.2])) (s, [])

/-- A scan or a supply conversion that has taken its slots ends with the results of its channels (R305, R307, R317): the scan-done
line, a waiting start, the continuous source. -/
def scanEnd (s : State) (u : Option (Fin 64)) (res : List (Nat × List Nat)) : State :=
  match (s.adc u).run with
  | none => s
  | some r =>
    let ends := s.runEnd u r
    if s.now < ends then s
    else
      let q := ((s.modAdc u fun a => { a with run := none }).showBusy u false).scanResults u r res
      let s := if r.supply then q.1 else q.1.scanRecord u r q.2
      let s := match u with
        | some n => if r.supply then s else s.raiseLine n 5
        | none => s
      match (s.adc u).waiting with
      | some w => (s.modAdc u fun a => { a with waiting := none }).scanBegin u w.1 (max w.2.1 (s.slotFrom u ends)) w.2.2
      | none => if ¬ r.supply ∧ s.scanSrc u = 5 then s.scanStart u 5 ends else s

/-- A supply conversion between scans, when 100 µs have passed since the last result of channel 2 (R307). -/
def supplyStart (s : State) (n : Fin 64) : State :=
  let st := s.st n
  if (st = stHolding ∨ st = stMoving ∨ st = stLull) ∧ (s.adc (some n)).run.isNone ∧ s.scanRuns (some n) ∧
      (s.adc (some n)).vmAt + 100000 ≤ s.now then
    let r : ScanRun := { supply := true, src := 0, late := false, mask := 4, avg := (s.rd (R.SCAN_AVG.at n)).toNat,
                         refs := s.get R.SCAN_REFSEL_refs n, start := s.slotFrom (some n) s.now, epoch := s.epoch, toBuf := false,
                         degraded := false }
    (s.modAdc (some n) fun a => { a with run := some r }).showBusy (some n) true
  else s

/-- A write of SCAN_BUF (R316, R322). -/
def writeScanBuf (s : State) (n : Fin 64) (v : Word) : State :=
  let base := bits v.toNat 23 12
  let len := bits v.toNat 8 0
  if len = 0 ∨ 512 < len ∨ 64 * base < 0x18000 ∨ 0x20000 < 64 * (base + len) then s.setFlag R.ADC_EVENTS_cfg_refused true n
  else
    let s := s.wr (R.SCAN_BUF.at n) (v &&& 0xF8FFF1FF)
    let s := (s.wr (R.SCAN_WPTR.at n) 0).wr (R.SCAN_RPTR.at n) 0
    s.modAdc (some n) fun a => { a with run := a.run.map fun r => { r with toBuf := false } }

/-- A write of SCAN_RPTR (R318). -/
def writeScanRptr (s : State) (n : Fin 64) (v : Word) : State :=
  let i := bits v.toNat 12 0
  let w := bits v.toNat 31 31
  let len := 16 * s.get R.SCAN_BUF_len n
  let wi := s.get R.SCAN_WPTR_idx n
  let ww := s.get R.SCAN_WPTR_wrap n
  -- a reader ahead of the writer on the same lap, or behind it on the next, would make the fill exceed the length
  if len ≤ i ∨ (ww = w ∧ wi < i) ∨ (ww ≠ w ∧ i < wi) then s.setFlag R.ADC_EVENTS_cfg_refused true n
  else s.wr (R.SCAN_RPTR.at n) (v &&& 0x80001FFF)

/-- A refused register write of a tile's converters (R315). -/
def adcRefuse (s : State) (n : Fin 64) : State := s.setFlag R.ADC_EVENTS_cfg_refused true n

/-- A write of SCAN_TRIG: the div counter restarts (R308). -/
def writeScanTrig (s : State) (n : Fin 64) (v : Word) : State :=
  if 6 ≤ bits v.toNat 31 29 then s.adcRefuse n
  else
    let s := (s.wr (R.SCAN_TRIG.at n) (v &&& 0xE0FFFFFF)).modAdc (some n) fun a => { a with div := 0 }
    if bits v.toNat 31 29 = 5 ∧ (s.adc (some n)).run.isNone then s.scanStart (some n) 5 s.now else s

/-- A write of SCAN_MASK (R315). -/
def writeScanMask (s : State) (n : Fin 64) (v : Word) : State :=
  if bits v.toNat 15 9 ≠ 0 ∨ 12 ≤ bits v.toNat 19 16 then s.adcRefuse n
  else s.wr (R.SCAN_MASK.at n) (v &&& 0x000FFFFF)

/-- A write of SCAN_REFSEL (R315). -/
def writeScanRefsel (s : State) (n : Fin 64) (v : Word) : State :=
  if (List.range 16).any fun k => decide (v.toNat / 4 ^ k % 4 = 3) then s.adcRefuse n else s.wr (R.SCAN_REFSEL.at n) v

/-- A write of SCAN_AVG (R315). -/
def writeScanAvg (s : State) (n : Fin 64) (v : Word) : State :=
  if 8 < bits v.toNat 19 16 then s.adcRefuse n else s.wr (R.SCAN_AVG.at n) (v &&& 0x00FF00FF)

/-- A write of HOUSE_CTL (R321, R324): a reserved source, a shift above 8 or a dac_sel above 15 leaves it unchanged. -/
def writeHouseCtl (s : State) (v : Word) : State :=
  let src := bits v.toNat 30 28
  if ¬ (src = 0 ∨ src = 3 ∨ src = 4 ∨ src = 5) ∨ 8 < bits v.toNat 15 12 ∨ 15 < bits v.toNat 24 20 then s
  else
    let s := s.wr (R.HOUSE_CTL.at 0) (v &&& 0xFFFFF0FF)
    if src = 5 ∧ s.house.run.isNone then s.scanStart none 5 s.now else s

/-- A write of HOUSE_MASK (R320). -/
def writeHouseMask (s : State) (v : Word) : State :=
  if bits v.toNat 31 30 ≠ 0 then s else s.wr (R.HOUSE_MASK.at 0) v

/-! ### Alarms (R311, R321) -/

/-- The alarm time of a place. -/
def alarmTime (s : State) (u : Option (Fin 64)) : Nat :=
  match u with
  | some n => s.get64 R.SCAN_ALARM_LO_time_lo R.SCAN_ALARM_HI_time_hi n
  | none => s.get64 R.HOUSE_ALARM_LO_time_lo R.HOUSE_ALARM_HI_time_hi

/-- Set the alarm time of a place. -/
def setAlarm (s : State) (u : Option (Fin 64)) (t : Nat) : State :=
  match u with
  | some n => s.set64 R.SCAN_ALARM_LO_time_lo R.SCAN_ALARM_HI_time_hi t n
  | none => s.set64 R.HOUSE_ALARM_LO_time_lo R.HOUSE_ALARM_HI_time_hi t

/-- The alarm of a place is armed; the house alarm has no register bit for it. Log: DEDUCED notes/assumptions/32.md. -/
def alarmArmed (s : State) (u : Option (Fin 64)) : Bool :=
  match u with
  | some n => s.flag R.ADC_STATUS_alarm_armed n
  | none => s.houseArmed

/-- Arm or disarm the alarm of a place. Log: DEDUCED notes/assumptions/32.md. -/
def armAlarm (s : State) (u : Option (Fin 64)) (b : Bool) : State :=
  match u with
  | some n => s.setFlag R.ADC_STATUS_alarm_armed b n
  | none => { s with houseArmed := b }

/-- A period added until the time lies after the present (R311). -/
def nextAlarm (t step now : Nat) : Nat := if step = 0 ∨ now < t then t else t + ((now - t) / step + 1) * step

/-- The armed alarm of a place fires from its time on (R311). -/
def alarmFire (s : State) (u : Option (Fin 64)) : State :=
  if ¬ s.alarmArmed u ∨ s.now < s.alarmTime u then s
  else
    let p := match u with
      | some n => s.get R.SCAN_ALARM_PER_period n
      | none => s.get R.HOUSE_ALARM_PER_period
    let s := if p = 0 then s.armAlarm u false else s.setAlarm u (nextAlarm (s.alarmTime u) (1000 * p) s.now % 2 ^ 64)
    s.scanEvent u 4

/-! ### Waveform (R319) -/

/-- The mean of the codes of one µs, × 4 (R319). -/
def waveValue (l : List Int) : Int := roundRat (4 * (l.sum : Int) / (l.length : Rat))

/-- One µs of waveform; a record of 250 pairs goes to the journal (R319, R480). -/
def waveTick (s : State) (n : Fin 64) (a b : List Int) : State :=
  if ¬ s.flag R.WAVE_CTL_enable n ∨ ¬ s.fastRuns n ∨ a = [] ∨ b = [] then s
  else
    let w := (s.adc (some n)).wave
    let s := s.modAdc (some n) fun q => { q with wave := w ++ [(waveValue a, waveValue b)],
                                                 waveAt := if w = [] then s.now - s.now % 1000 else q.waveAt }
    let w := (s.adc (some n)).wave
    if w.length < 250 then s
    else
      let body := w.flatMap fun e => bytesLE 2 (satSigned 16 e.1) ++ bytesLE 2 (satSigned 16 e.2)
      let at_ := (s.adc (some n)).waveAt
      (s.modAdc (some n) fun q => { q with wave := [] }).journal (s.get R.WAVE_CTL_jring n) 0x03 n at_ body

/-! ### Site-trigger (R312 to R314) -/

/-- An arm at the time held: refused less than 2 µs ahead (R313). -/
def siteArm (s : State) : Bool × State :=
  let t := s.get64 R.SITE_TRIG_LO_time_lo R.SITE_TRIG_HI_time_hi
  if t < s.now + 2000 then (false, s.setFlag R.SITE_TRIG_STATUS_refused true)
  else (true, { s with siteTrig := some (t, s.epoch) }.setFlag R.SITE_TRIG_STATUS_armed true)

/-- Disarm the site-trigger (R312). -/
def siteCancel (s : State) : State := { s with siteTrig := none }.setFlag R.SITE_TRIG_STATUS_armed false

/-- A snapshot of a tile (R314). Samples that the firing did not deliver are undetermined. -/
def snapTile (s : State) (n : Fin 64) (snap : Option (Sample × Sample)) : State :=
  if ¬ s.fastRuns n then
    (s.wr (R.ADC_SNAP.at n) 0x00030003).set R.ADC_SNAP_TIME_time (s.now % 2 ^ 32) n
  else match snap with
  | some (a, b) =>
    let word (x : Fin 2) (p : Sample) : Nat := sampleWord { p with tag := s.tagAt n x p.time }
    let s := (s.set R.ADC_SNAP_snap_a (word 0 a) n).set R.ADC_SNAP_snap_b (word 1 b) n
    s.set R.ADC_SNAP_TIME_time (a.time / 6 % 2 ^ 32) n
  | none =>
    let r := s.fresh
    let q := r.2.fresh
    (q.2.wr (R.ADC_SNAP.at n) (BitVec.ofNat 32 r.1)).set R.ADC_SNAP_TIME_time (q.1 % 2 ^ 32) n

/-- The site-trigger fires at its time (R313): scans, snapshots, the event; it disarms. -/
def siteFire (s : State) (snaps : List (Fin 64 × Sample × Sample)) : State :=
  match s.siteTrig with
  | none => s
  | some (t, ep) =>
    if s.now < t then s else
    let lo := s.get R.SITE_TRIG_MASK_LO_tiles_lo
    let hi := s.get R.SITE_TRIG_MASK_HI_tiles_hi
    let chosen := allTiles.filter fun (n : Fin 64) => s.maskBit R.SITE_TRIG_MASK_LO_tiles_lo R.SITE_TRIG_MASK_HI_tiles_hi n
    let s := s.siteCancel
    let s := s.setFlag R.SITE_TRIG_STATUS_fired true
    let s := (s.set R.SITE_TRIG_STATUS_epoch (s.epoch % 256)).setFlag R.SITE_TRIG_STATUS_epoch_changed
      (decide (ep ≠ s.epoch) || s.flag R.SITE_TRIG_STATUS_epoch_changed)
    let s := s.forTiles chosen fun n s =>
      (s.scanEvent (some n) 3).snapTile n ((snaps.find? fun e => decide (e.1 = n)).map (·.2))
    let s := if s.flag R.SITE_TRIG_CTL_house then s.scanEvent none 3 else s
    s.event 0x46 0xFF (bytesLE 1 s.epoch ++ List.replicate 7 0 ++ bytesLE 4 lo ++ bytesLE 4 hi)

/-- The SITE_TRIGGER descriptor (R466). -/
def siteDesc (s : State) (d : Desc) : State :=
  let s := s.set64 R.SITE_TRIG_LO_time_lo R.SITE_TRIG_HI_time_hi (fieldLE d.slot 0x20 8)
  let s := s.set64 R.SITE_TRIG_MASK_LO_tiles_lo R.SITE_TRIG_MASK_HI_tiles_hi (fieldLE d.slot 0x28 8)
  let s := s.setFlag R.SITE_TRIG_CTL_house (decide (fieldLE d.slot 0x30 1 % 2 = 1))
  let r := s.siteArm
  r.2.finish d.ref (if r.1 then 0x00 else 0x03)

end State

/-- ROTATION_STEP (R290) of converter `c`: 0 F0, 1 F1, 2 scan of tile `u`; 3 the house converter. -/
def execRotationStep (u : Option (Fin 64)) (c : Fin 4) (r : Rotation) (s : State) : Res :=
  .next (if u.isNone ∧ c ≠ 3 ∨ u.isSome ∧ c = 3 then s else s.rotate u c r)

/-- SLICE_FAILURE (R296). -/
def execSliceFailure (u : Option (Fin 64)) (c : Fin 4) (k : Nat) (reason : Nat) (s : State) : Res :=
  .next (if u.isNone ∧ c ≠ 3 ∨ u.isSome ∧ c = 3 then s else s.sliceFail u c k reason)

/-- REF_LOST (R301). -/
def execRefLost (q : Fin 4) (s : State) : Res := .next (s.refLost q)

/-- ADC_REF_WRITE (R300). -/
def execAdcRefWrite (n : Fin 64) (v : Word) (s : State) : Res := .next (s.writeAdcRef n v)

/-- ADC_CAL_DATA_READ (R303). -/
def execAdcCalDataRead (n : Fin 64) (s : State) : Res := .next (s.calRead n)

/-- SCAN_TRIGGER (R309): an event of source `src` at a tile or the house converter. Log: DEDUCED notes/assumptions/31.md. -/
def execScanTrigger (u : Option (Fin 64)) (src : Fin 8) (s : State) : Res := .next (s.scanEvent u src)

/-- SCAN_GO (R308). -/
def execScanGo (n : Fin 64) (s : State) : Res := .next (s.scanStart (some n) 7 s.now)

/-- SCAN_DISARM (R310). -/
def execScanDisarm (n : Fin 64) (s : State) : Res := .next (s.armAlarm (some n) false)

/-- SCAN_COMPLETE (R317): the raw results of the summed slots of each converted channel. -/
def execScanComplete (u : Option (Fin 64)) (res : List (Nat × List Nat)) (s : State) : Res := .next (s.scanEnd u res)

/-- SUPPLY_CONVERSION (R307). -/
def execSupplyConversion (n : Fin 64) (s : State) : Res := .next (s.supplyStart n)

/-- SCAN_ALARM_ARM (R311): the completed write of both words. -/
def execScanAlarmArm (n : Fin 64) (t : BitVec 64) (s : State) : Res :=
  .next ((s.setAlarm (some n) t.toNat).armAlarm (some n) true)

/-- SCAN_ALARM_FIRE (R311). -/
def execScanAlarmFire (n : Fin 64) (s : State) : Res := .next (s.alarmFire (some n))

/-- SCAN_BUF_WRITE (R316). -/
def execScanBufWrite (n : Fin 64) (v : Word) (s : State) : Res := .next (s.writeScanBuf n v)

/-- SCAN_RPTR_WRITE (R318). -/
def execScanRptrWrite (n : Fin 64) (v : Word) (s : State) : Res := .next (s.writeScanRptr n v)

/-- WAVEFORM_TICK (R319): the codes of both phases in this µs. -/
def execWaveformTick (n : Fin 64) (a b : List Int) (s : State) : Res := .next (s.waveTick n a b)

/-- SITE_TRIG_ARM (R313). -/
def execSiteTrigArm (s : State) : Res := .next s.siteArm.2

/-- SITE_TRIG_CANCEL (R312). -/
def execSiteTrigCancel (s : State) : Res := .next s.siteCancel

/-- SITE_TRIG_FIRE (R313), with the samples that the snapshots latch. -/
def execSiteTrigFire (snaps : List (Fin 64 × Sample × Sample)) (s : State) : Res := .next (s.siteFire snaps)

/-- SITE_TRIGGER (R466). -/
def execSiteTrigger (d : Desc) (s : State) : Res := .next (s.siteDesc d)

/-- HOUSE_GO (R320). -/
def execHouseGo (s : State) : Res := .next (s.scanStart none 7 s.now)

/-- HOUSE_DISARM (R321). -/
def execHouseDisarm (s : State) : Res := .next (s.armAlarm none false)

/-- HOUSE_ALARM_ARM (R321). -/
def execHouseAlarmArm (t : BitVec 64) (s : State) : Res := .next ((s.setAlarm none t.toNat).armAlarm none true)

/-- HOUSE_ALARM_FIRE (R321). -/
def execHouseAlarmFire (s : State) : Res := .next (s.alarmFire none)

end Sys2Proof.Machine
end

