-- ==== Sys2Proof/Machine/Feedback.lean ====
section
/-! DEFINITION. The commands of the feedback ports and the emulation outputs (11_feedback_ports_and_emulation.md). -/

namespace Sys2Proof.Machine

/-- Place of the quadrature state (A, B) in its cycle (L,L), (H,L), (H,H), (L,H) (R348); `v` holds A in bit 0, B in
bit 1. -/
def quadPlace (v : Nat) : Nat := match v % 4 with | 0 => 0 | 1 => 1 | 3 => 2 | _ => 3

/-- Place of the Hall state in its cycle (R352), none for (L,L,L) and (H,H,H); `v` holds H1, H2, H3 from bit 0.
Log: DEDUCED notes/assumptions/42.md. -/
def hallPlace (v : Nat) : Option Nat :=
  match v % 8 with
  | 1 => some 0
  | 3 => some 1
  | 2 => some 2
  | 6 => some 3
  | 4 => some 4
  | 5 => some 5
  | _ => none

/-- A Gray-coded value of `n` bits as a number (R354). -/
def grayDecode (n v : Nat) : Nat := (List.range n).foldl (fun a k => Nat.xor a (v / 2 ^ k)) 0 % 2 ^ n

namespace State

/-- Refuse a write of a port (R347, R361). -/
def feedRefuse (s : State) (k : Fin 16) : State := s.setFlag R.FBK_STATUS_cfg_refused true k

/-- The sign of a reed count (R351). Log: DEDUCED notes/assumptions/42.md. -/
def reedSign (s : State) (k : Fin 16) : Int :=
  if s.flag R.FB_AXIS_bind k then
    let v := s.getInt R.VEL_vel (s.get R.FB_AXIS_tile k)
    if v = 0 then (s.feed k).sign else v.sign
  else 1

/-- An accepted change of a reed pin: its holdoff starts, and a rising FP counts (R351).
Log: DEDUCED notes/assumptions/42.md. -/
def reedAccept (s : State) (k : Fin 16) (pin : Fin 2) (high : Bool) : State :=
  let acc := (s.feed k).acc
  let acc := acc - (if acc.testBit pin then 2 ^ pin.val else 0) + (if high then 2 ^ pin.val else 0)
  let s := s.modFeed k fun f => { f with acc := acc, hold := f.hold.set pin (some (s.now + 10000 * f.holdoff)) }
  let s := s.inputMeets k pin high
  if pin = 0 ∧ high then s.countEdge k (s.reedSign k) else s

/-- The levels of reed pin `pin` have changed to `high`: accepted unless its holdoff runs. -/
def reedPin (s : State) (k : Fin 16) (pin : Fin 2) (high : Bool) : State :=
  if (s.feed k).acc.testBit pin = high ∨ (s.feed k).hold[pin].isSome then s else s.reedAccept k pin high

/-- The ON_INPUT conditions see each changed level (R366). -/
def inputEdges (s : State) (k : Fin 16) (old new : Nat) (pins : List Nat) : State :=
  pins.foldl (fun (s : State) (p : Nat) =>
    if old.testBit p = new.testBit p then s else s.inputMeets k p (new.testBit p)) s

/-- The decoder of a port on a clock on which the filtered levels change (R348 to R352). -/
def feedDecode (s : State) (k : Fin 16) (old new : Nat) : State :=
  let rise : Nat → Bool := fun p => !old.testBit p && new.testBit p
  let time := s.now - 10 * s.feedFilt k
  match s.feedMode k with
  | 0 =>
    match (quadPlace new + 4 - quadPlace old) % 4 with
    | 1 => s.countEdge k 1
    | 3 => s.countEdge k (-1)
    | 2 => s.feedError k 0 time
    | _ => s
  | 1 => if rise 0 then s.countEdge k (if new.testBit 1 then 1 else -1) else s
  | 2 =>
    if rise 0 && rise 1 then s
    else if rise 0 then s.countEdge k 1
    else if rise 1 then s.countEdge k (-1)
    else s
  | 3 => (s.reedPin k 0 (new.testBit 0)).reedPin k 1 (new.testBit 1)
  | 4 =>
    match hallPlace new, (s.feed k).hall with
    | none, _ => (s.modFeed k fun f => { f with hall := none }).feedError k 1 time
    | some b, none => s.modFeed k fun f => { f with hall := some b }
    | some b, some a =>
      match (b + 6 - a) % 6 with
      | 0 => s
      | 1 => (s.modFeed k fun f => { f with hall := some b }).countEdge k 1
      | 5 => (s.modFeed k fun f => { f with hall := some b }).countEdge k (-1)
      | _ => (s.modFeed k fun f => { f with hall := none }).feedError k 1 time
  | _ => s

/-- The pins of a port have held new levels for the filter's time (R344). A stopped domain counts nothing (R363).
Log: DEDUCED notes/assumptions/41.md. -/
def feedbackEdgeOf (s : State) (k : Fin 16) (pins : Fin 8) : State :=
  let s := s.modFeed k fun f =>
    let before := (f.stir.map (·.2)).getD f.pins
    { f with pins := pins.val, stir := if before = pins.val then none else some (s.now, before) }
  if ¬ s.feedRuns k then s
  else
      let old := s.get R.FBK_STATUS_levels k
      let new := s.feedLevels k pins.val
      let s := s.set R.FBK_STATUS_levels new k
      let s := s.modFeed k fun f => { f with zRose := new.testBit 2 && (f.zRose || !old.testBit 2) }
      let s := s.inputEdges k old new (if s.feedMode k = 3 then [2] else if s.feedMode k = 5 then [1] else [0, 1, 2])
      s.feedDecode k old new

/-- A change of a port's pins that has held for 100 µs is a wake source where wake_en is set (R363). -/
def feedStirred (s : State) (k : Fin 16) : State :=
  match (s.feed k).stir with
  | none => s
  | some (t, _) =>
    if s.now < t + 100000 then s
    else
      let s := s.modFeed k fun f => { f with stir := none }
      if s.flag R.FB_CFG_wake_en k then s.wakeFires 3 else s

/-- An index edge (R356): the rising filtered edge of FZ, which z_gate qualifies in quadrature mode. -/
def indexEdgeOf (s : State) (k : Fin 16) : State :=
  let mode := s.get R.FB_CFG_idx_mode k
  let rose := (s.feed k).zRose
  let s := s.modFeed k fun f => { f with zRose := false }
  if ¬ rose ∨ ¬ s.feedRuns k ∨ mode = 0 ∨ ¬ s.indexPasses k then s
  else
    let v := s.get R.FB_POS_pos k
    let s := (s.set R.FB_IDX_idx_pos v k).setFlag R.FBK_STATUS_idx_seen true k
    let s := if mode = 2 ∧ s.flag R.FBK_STATUS_idx_armed k then
        (s.set R.FB_POS_pos 0 k).setFlag R.FBK_STATUS_idx_armed false k else s
    s.event 0x50 0xFF (bytesLE 1 k ++ [0, 0, 0] ++ bytesLE 4 v ++ bytesLE 4 ((s.now - 10 * s.feedFilt k) % 2 ^ 32))

/-- The holdoff of a reed pin ends (R351). -/
def reedHoldoffOf (s : State) (k : Fin 16) (pin : Fin 2) : State :=
  match (s.feed k).hold[pin] with
  | none => s
  | some t =>
    if s.now < t ∨ s.feedMode k ≠ 3 ∨ ¬ s.feedRuns k then s
    else
      let s := s.modFeed k fun f => { f with hold := f.hold.set pin none }
      s.reedPin k pin ((s.get R.FBK_STATUS_levels k).testBit pin)

/-- The ns from a frame's first falling edge to its last rising edge (R353). -/
def ssiNs (s : State) (k : Fin 16) : Nat :=
  (2 * s.get R.FB_MODECFG_bits k - 1) * (s.get R.FB_MODECFG_div k + 1) * 10

/-- The pause after the last SSI frame has passed (R353). -/
def ssiPaused (s : State) (k : Fin 16) : Bool :=
  passedSince (s.feed k).frameEnd (1000 * max 1 (s.get R.FB_MODECFG_mono k)) s.now

/-- An SSI frame starts, or waits for the end and the pause of the last (R353). -/
def ssiStart (s : State) (k : Fin 16) : State :=
  if ¬ s.feedRuns k ∨ s.feedMode k ≠ 5 then s
  else if (s.feed k).frame.isSome ∨ ¬ s.ssiPaused k then
    (s.setFlag R.FBK_STATUS_ssi_late true k).modFeed k fun f => { f with late := true }
  else s.modFeed k fun f => { f with frame := some (s.now, (s.get R.FBK_STATUS_levels k).testBit 1), late := false }

/-- The period of SSI frames has elapsed (R353). -/
def ssiPeriod (s : State) (k : Fin 16) : State :=
  if passedSince (s.feed k).startAt (10000 * max 1 (s.get R.FB_MODECFG_period k)) s.now then
    (s.modFeed k fun f => { f with startAt := some s.now }).ssiStart k
  else s

/-- A start that waits begins its frame once the pause has passed (R353). -/
def ssiLate (s : State) (k : Fin 16) : State :=
  if (s.feed k).late && (s.feed k).frame.isNone && s.ssiPaused k then s.ssiStart k else s

/-- What the feedback domain's clock brings about by itself at a port (R353, R363). -/
def clockFeeds (s : State) : State :=
  allFeeds.foldl (fun (s : State) (k : Fin 16) => (s.feedStirred k).ssiLate k) s

/-- The speed of an accepted SSI frame (R360). -/
def ssiSpeed (s : State) (k : Fin 16) (d : Int) (at_ before : Nat) : State :=
  let dt := at_ - before
  let s := s.setFlag R.FBK_STATUS_dir (if d = 0 then s.flag R.FBK_STATUS_dir k else decide (0 < d)) k
  let s := s.set R.FB_INTVL_interval (dt / 10 % 2 ^ 32) k
  let s := s.set R.FB_SPEED_speed (satSigned 32 (roundDiv (256 * d * 10 ^ 9) (max 1 dt))) k
  if d = 0 then
    let from_ := ((s.feed k).still).getD before
    let s := s.modFeed k fun f => { f with still := some from_ }
    if from_ + 10000 * max 1 (s.get R.FB_STAND_stand k) ≤ at_ then s.setFlag R.FBK_STATUS_standstill true k else s
  else (s.modFeed k fun f => { f with still := none }).setFlag R.FBK_STATUS_standstill false k

/-- An SSI frame has brought its bits in, at its last rising edge (R353, R354). Log: DEDUCED notes/assumptions/42.md. -/
def ssiEndOf (s : State) (k : Fin 16) (raw : Nat) : State :=
  match (s.feed k).frame with
  | none => s
  | some (at_, idle) =>
    if s.now < at_ + s.ssiNs k then s else
    let w := s.get R.FB_MODECFG_bits k
    let s := s.modFeed k fun f => { f with frame := none, frameEnd := some (at_ + s.ssiNs k) }
    let s := s.set R.FB_SSIRAW_raw (raw % 2 ^ w) k
    let v := if s.flag R.FB_MODECFG_gray k then grayDecode w (raw % 2 ^ w) else raw % 2 ^ w
    if s.flag R.FB_MODECFG_line_chk k ∧ ¬ idle then s.feedError k 2 at_
    else
      match (s.feed k).last with
      | none => s.modFeed k fun f => { f with last := some (v, at_) }
      | some (v0, before) =>
        let d := signed w (v + 2 ^ w - v0)
        if 2 ^ (w - 2) < d.natAbs then s.feedError k 2 at_
        else
          let d := if s.flag R.FB_CFG_dir_inv k then -d else d
          let s := s.modFeed k fun f => { f with last := some (v, at_) }
          let s := (s.feedAdd k d).set R.FB_TIME_time (at_ % 2 ^ 32) k
          s.ssiSpeed k d at_ before

/-- stand elapses without a counted edge (R358). -/
def standstillOf (s : State) (k : Fin 16) : State :=
  match (s.feed k).prev with
  | none => s
  | some (t, _) =>
    if ¬ s.feedRuns k ∨ s.feedMode k = 5 ∨ s.now - 10 * s.feedFilt k < t + 10000 * max 1 (s.get R.FB_STAND_stand k) then s
    else
      let s := (s.set R.FB_SPEED_speed 0 k).set R.FB_INTVL_interval 0 k
      (s.setFlag R.FBK_STATUS_standstill true k).modFeed k fun f => { f with prev := none }

/-- The decoder takes the present levels without counting (R347). Log: DEDUCED notes/assumptions/41.md. -/
def feedTake (s : State) (k : Fin 16) : State :=
  let l := s.feedLevels k (s.feed k).pins
  (s.set R.FBK_STATUS_levels l k).modFeed k fun f =>
    { f with acc := l % 4, hold := Vector.replicate 2 none, hall := hallPlace l }

/-- A write of FB_CFGk (R346, R347). -/
def writeFeedCfg (s : State) (k : Fin 16) (v : Word) : State :=
  let w := v.toNat
  let old := (s.rd (R.FB_CFG.at k)).toNat
  let mode := bits w 30 28
  let idx := bits w 23 22
  if (bit old 31 ∧ bit w 31 ∧ bits w 30 24 ≠ bits old 30 24) ∨ 6 ≤ mode ∨ idx = 3 ∨ (idx ≠ 0 ∧ 4 ≤ mode) then s.feedRefuse k
  else
    let s := s.wr (R.FB_CFG.at k) (BitVec.ofNat 32 (w / 2 ^ 10 * 2 ^ 10))
    if bit w 31 ∧ ¬ bit old 31 then ((s.feedStill k).modFeed k fun f => { f with last := none, startAt := none, zRose := false }).feedTake k
    else if ¬ bit w 31 then s.modFeed k fun f => { f with frame := none, late := false }
    else s

/-- A write of FB_REVk (R355). -/
def writeFeedRev (s : State) (k : Fin 16) (v : Word) : State :=
  if 2 ^ 31 < v.toNat then s.feedRefuse k
  else
    let c := s.feedCount k
    (s.set R.FB_REV_rev v.toNat k).set R.FB_POS_pos (feedReduce v.toNat c) k

/-- A write of FB_MODECFGk in the layout of the mode (R354). -/
def writeFeedMode (s : State) (k : Fin 16) (v : Word) : State :=
  let w := v.toNat
  match s.feedMode k with
  | 5 =>
    if bits w 31 26 < 8 ∨ 32 < bits w 31 26 ∨ bits w 23 15 < 24 ∨ 499 < bits w 23 15 then s.feedRefuse k
    else s.wr (R.FB_MODECFG.at k) v
  | 3 => s.modFeed k fun f => { f with holdoff := w % 65536 }
  | _ => s

/-- A write of FB_AXISk, or of FB_SCALEk when `scale` holds (R361, R364). Log: DEDUCED notes/assumptions/41.md. -/
def writeFeedAxis (s : State) (k : Fin 16) (scale : Bool) (v : Word) : State :=
  if scale then
    if v.toNat % 65536 = 0 then s.feedRefuse k else (s.wr (R.FB_SCALE.at k) v).rebase k
  else (s.wr (R.FB_AXIS.at k) v).rebase k

/-- The feedback domain restarts (R363): gap on a port whose pins have changed, the speed state clears, the levels are
taken from the pins. -/
def feedRestart (s : State) : State :=
  allFeeds.foldl (fun (s : State) (k : Fin 16) =>
    if s.flag R.FB_CFG_enable k then
      let s := if s.feedLevels k (s.feed k).pins = s.get R.FBK_STATUS_levels k then s else s.setFlag R.FBK_STATUS_gap true k
      (s.feedStill k).feedTake k
    else s) s

/-! ### Emulation -/

/-- A write of EMU_CFGj (R367, R369). -/
def writeEmuCfg (s : State) (j : Fin 8) (v : Word) : State :=
  let w := v.toNat
  let old := (s.rd (R.EMU_CFG.at j)).toNat
  if bit old 31 ∧ (bit w 30 ≠ bit old 30 ∨ bit w 28 ≠ bit old 28 ∨ bits w 25 20 ≠ bits old 25 20) then
    s.setFlag R.EMU_STATUS_cfg_refused true j
  else
    let s := s.wr (R.EMU_CFG.at j) (BitVec.ofNat 32 (bits w 31 28 * 2 ^ 28 + bits w 25 10 * 2 ^ 10))
    if bit w 31 ∧ ¬ bit old 31 then
      let s := s.modEmu j fun e => { e with jump := 0, edge := none, lagAt := none }
      (s.emuPut j (s.emuTarget j)).emuShow j
    else (s.emuPins j).emuShow j

/-- A write of EMU_LINESj or EMU_USTEPSj (R367). -/
def writeEmuGear (s : State) (j : Fin 8) (lines : Bool) (v : Word) : State :=
  let w := if lines then v.toNat % 2 ^ 17 else v.toNat
  let bad := decide (w = 0) || (if lines then decide (65536 < w) else decide (2 ^ 31 < w))
  if s.flag R.EMU_CFG_enable j ∨ bad then s.setFlag R.EMU_STATUS_cfg_refused true j
  else if lines then s.set R.EMU_LINES_lines w j
  else s.set R.EMU_USTEPS_ustep_rev w j

/-- The emulated count moves one count toward its target once the spacing has passed (R369). -/
def emuStepOf (s : State) (j : Fin 8) : State :=
  let s := s.emuShow j
  let c := s.getInt R.EMU_COUNT_count j
  let t := s.emuTarget j
  if ¬ s.flag R.EMU_CFG_enable j ∨ ¬ s.fieldRuns ∨ c = t ∨
      ¬ passedSince (s.emu j).edge (10 * max 4 (s.get R.EMU_CFG_gap j)) s.now then s
  else ((s.modEmu j fun e => { e with edge := some s.now }).emuPut j (c + (t - c).sign)).emuShow j

end State

/-- FEEDBACK_EDGE (R348): the pins of port `k` have held the levels `pins` for the filter's time. -/
def execFeedbackEdge (k : Fin 16) (pins : Fin 8) (s : State) : Res := .next (s.feedbackEdgeOf k pins)

/-- INDEX_EDGE (R356). -/
def execIndexEdge (k : Fin 16) (s : State) : Res := .next (s.indexEdgeOf k)

/-- REED_HOLDOFF_END (R351). -/
def execReedHoldoffEnd (k : Fin 16) (pin : Fin 2) (s : State) : Res := .next (s.reedHoldoffOf k pin)

/-- SSI_FRAME_START (R353). -/
def execSsiFrameStart (k : Fin 16) (s : State) : Res := .next (s.ssiPeriod k)

/-- SSI_NOW (R353). -/
def execSsiNow (k : Fin 16) (s : State) : Res := .next (s.ssiStart k)

/-- SSI_FRAME_END (R354): the bits sampled, most significant first. -/
def execSsiFrameEnd (k : Fin 16) (raw : Nat) (s : State) : Res := .next (s.ssiEndOf k raw)

/-- STANDSTILL (R358). -/
def execStandstill (k : Fin 16) (s : State) : Res := .next (s.standstillOf k)

/-- FB_CFG_WRITE (R347). -/
def execFbCfgWrite (k : Fin 16) (v : Word) (s : State) : Res := .next (s.writeFeedCfg k v)

/-- FB_POS_WRITE (R355). -/
def execFbPosWrite (k : Fin 16) (v : Word) (s : State) : Res :=
  .next (s.set R.FB_POS_pos (State.feedReduce (s.get R.FB_REV_rev k) v.toInt) k)

/-- FB_REV_WRITE (R355). -/
def execFbRevWrite (k : Fin 16) (v : Word) (s : State) : Res := .next (s.writeFeedRev k v)

/-- IDX_ARM (R356). -/
def execIdxArm (k : Fin 16) (s : State) : Res := .next (s.setFlag R.FBK_STATUS_idx_armed true k)

/-- FB_AXIS_WRITE (R364). -/
def execFbAxisWrite (k : Fin 16) (scale : Bool) (v : Word) (s : State) : Res := .next (s.writeFeedAxis k scale v)

/-- EMU_CFG_WRITE (R369). -/
def execEmuCfgWrite (j : Fin 8) (v : Word) (s : State) : Res := .next (s.writeEmuCfg j v)

/-- EMU_COUNT_STEP (R369). -/
def execEmuCountStep (j : Fin 8) (s : State) : Res := .next (s.emuStepOf j)

end Sys2Proof.Machine
end

