-- ==== Sys2Proof/Machine/Sfe.lean ====
section
/-! DEFINITION. The sensor front end: visits, conversions, tone checks, verdicts, recovery and test
(12_sensor_front_end.md). The counts, sums and admittances are the commands' operands. -/

namespace Sys2Proof.Machine

/-- The IEC 60751 ratio R/R0 at `t` °C (R383). -/
def platinum (t : Rat) : Rat :=
  1 + 39083 / 10 ^ 7 * t - 5775 / 10 ^ 10 * t ^ 2 + (if t < 0 then -4183 / 10 ^ 15 * (t - 100) * t ^ 3 else 0)

/-- The greatest of the 2^`k` codes from `lo` whose lower rounding bound, in 1/64 °C, lies at or below the ratio.
Log: DEDUCED notes/assumptions/44.md. -/
def platinumSearch (ratio : Rat) (lo : Int) : Nat → Int
  | 0 => lo
  | k + 1 =>
    let mid := lo + 2 ^ k
    platinumSearch ratio (if platinum ((2 * mid - 1 : Int) / 128 : Rat) ≤ ratio then mid else lo) k

/-- Temperature of a platinum element in 1/64 °C, to within 1/128 °C (R383). -/
def platinumTemp (r r0 : Nat) : Nat := wrapNat 16 (max (-32767) (platinumSearch ((r : Rat) / r0) (-32768) 16))

/-- Two- or three-wire wiring of a visit's channel (R377). -/
def Visit.three (v : Visit) : Bool := bit v.cfg 30

/-- The wait for settling before the conversion, ns (R377, R379). -/
def Visit.settleNs (v : Visit) : Nat := bits v.cfg 15 8 * 100000

/-- The gate of a frequency conversion, ns; 0 acts as 1 ms (R377). -/
def Visit.gateNs (v : Visit) : Nat := max 1 (bits v.cfg 23 16) * 1000000

/-- The lead resistance that R385 adds to the expected value: `lead` of the channel in three-wire wiring. -/
def Visit.leads (v : Visit) (lead : Nat) : Nat := if v.three then 2 * lead else bits v.aux 15 0

/-- The tests of R385 on one resistance in mΩ: OPEN, SHORT, RANGE, or none of them. -/
def Visit.tests (v : Visit) (r : Nat) (compliance range : Bool) : Nat :=
  if compliance ∨ bits v.lim 11 0 * 100000 < r then 2
  else if r < bits v.lim 23 12 * 1000 then 3
  else if range then 5
  else 1

namespace State

/-- The eight channels. -/
def sfeAll : List (Fin 8) := [0, 1, 2, 3, 4, 5, 6, 7]

/-- A channel beside its registers. -/
def sfeCh (s : State) (k : Fin 8) : SfeCh := s.sfe.chans[k]

/-- Change a channel beside its registers. -/
def modSfeCh (s : State) (k : Fin 8) (f : SfeCh → SfeCh) : State :=
  { s with sfe := { s.sfe with chans := s.sfe.chans.set k (f (s.sfeCh k)) } }

/-- Refuse a front-end write (R378). -/
def sfeRefuse (s : State) : State := s.setFlag R.SFE_STATUS_cfg_refused true

/-- A channel starts with no conversion and no check: verdict NONE (R385, R386). -/
def sfeFresh (s : State) (k : Fin 8) : State :=
  let s := s.modSfeCh k fun _ => { visits := 0, left := 0, checkAt := s.now, checked := false, conv := none }
  let s := (s.set R.SFE_TEMP_verdict 0 k).setFlag R.SFE_TEMP_valid false k
  (s.set R.SFE_TEMP_t 0x8000 k).setBit R.SFE_STATUS_recovery k false

/-- The next enabled channel at or after `from_`, in the circular order of R379. Log: DEDUCED notes/assumptions/44.md. -/
def sfeNext (s : State) (from_ : Nat) : Option (Fin 8) :=
  (List.range 8).findSome? fun i =>
    let k : Fin 8 := ⟨(from_ + i) % 8, Nat.mod_lt _ (by decide)⟩
    if s.flag R.SFE_CFG_enable k then some k else none

/-- A visit of channel `k` begins (R379, R381, R382, R384). Log: DEDUCED notes/assumptions/44.md. -/
def sfeBegin (s : State) (k : Fin 8) (check volt : Bool) : State :=
  let c := s.sfeCh k
  let due := !check && s.flag R.SFE_CFG_three k && decide (s.get R.SFE_CFG_lead_div k ≤ c.visits)
  let s := if check then s.modSfeCh k fun c => { c with checkAt := s.now }
           else s.modSfeCh k fun c => { c with visits := if due then 0 else c.visits + 1 }
  let v : Visit :=
    { ch := k, check := check, volt := volt, lead := false, leadDue := due, began := s.now,
      cfg := (s.rd (R.SFE_CFG.at k)).toNat, par := (s.rd (R.SFE_PAR.at k)).toNat,
      aux := (s.rd (R.SFE_AUX.at k)).toNat, lim := (s.rd (R.SFE_LIM.at k)).toNat }
  let s := { s with sfe := { s.sfe with visit := some v } }
  let s := (s.setFlag R.SFE_STATUS_busy true).set R.SFE_STATUS_channel k
  (s.setFlag R.SFE_STATUS_checking check).setFlag R.SFE_STATUS_voltage (volt && !check)

/-- A scheduled visit of channel `k`: a due tone check takes its place; in recovery it uses the house converter, and
after 16 such visits tries a frequency conversion again (R382, R384, R389). -/
def sfeScheduled (s : State) (k : Fin 8) : State :=
  let s := { s with sfe := { s.sfe with next := k + 1 } }
  let lost := s.flag R.SFE_STATUS_house_lost
  let period := s.get R.SFE_CTL_check_s
  if period ≠ 0 ∧ ¬ lost ∧ (s.sfeCh k).checkAt + period * 10 ^ 9 ≤ s.now then s.sfeBegin k true false
  else if (s.sfeCh k).left = 0 then (s.setBit R.SFE_STATUS_recovery k false).sfeBegin k false false
  else
    let s := s.modSfeCh k fun c => { c with left := c.left - 1 }
    if lost then s.setFlag R.SFE_TEMP_valid false k else s.sfeBegin k false true

/-- The front end visits the next channel (R379): checks and conversions asked for come first (R384, R389). -/
def sfeVisitOf (s : State) : State :=
  if ¬ s.flag R.SFE_CTL_enable ∨ s.flag R.SFE_CTL_test ∨ s.sfe.visit.isSome ∨ ¬ s.fieldRuns then s
  else
    match s.sfe.asked with
    | (k, check) :: rest =>
      let s := { s with sfe := { s.sfe with asked := rest } }
      let k : Fin 8 := ⟨k % 8, Nat.mod_lt _ (by decide)⟩
      if s.flag R.SFE_STATUS_house_lost ∨ ¬ s.flag R.SFE_CFG_enable k then s else s.sfeBegin k check true
    | [] =>
      match s.sfeNext s.sfe.next with
      | some k => s.sfeScheduled k
      | none => s

/-- The channel of a visit. -/
def sfeOf (v : Visit) : Fin 8 := ⟨v.ch % 8, Nat.mod_lt _ (by decide)⟩

/-- The reference resistor of a visit's channel, mΩ (R376). -/
def sfeRef (v : Visit) : Nat := Config.rref (bits v.cfg 27 27) % 2 ^ 32

/-- A frequency conversion may end: settling and the gate are over (R379, R380). -/
def sfeGated (s : State) (v : Visit) : Bool := decide (v.began + v.settleNs + v.gateNs ≤ s.now)

/-- A voltage conversion may end: settling and 64 slots are over and no house scan is in progress (R381). Log: DEDUCED
notes/assumptions/44.md. -/
def sfeSlotted (s : State) (v : Visit) : Bool :=
  decide (v.began + v.settleNs + 64 * s.slotNs none ≤ s.now) && s.house.run.isNone

/-- A tone check ends settle + 72 ms after it begins (R384). -/
def sfeToned (s : State) (v : Visit) : Bool := decide (v.began + v.settleNs + 72000000 ≤ s.now)

/-- The temperature of resistance `r` mΩ under the channel's type (R383). Log: DEDUCED notes/assumptions/44.md. -/
def sfeTemp (s : State) (v : Visit) (r : Nat) : State :=
  let k := sfeOf v
  let r0 := v.par
  let beta := bits v.aux 31 16
  match bits v.cfg 29 28 with
  | 1 => if r0 = 0 then s.set R.SFE_TEMP_t 0x8000 k else s.set R.SFE_TEMP_t (platinumTemp r r0) k
  | 2 =>
    if r0 = 0 ∨ beta = 0 then s.set R.SFE_TEMP_t 0x8000 k
    else
      let t : Rat := 1 / (1 / (29815 / 100) + lnRat ((r : Rat) / r0) / beta) - 27315 / 100
      s.set R.SFE_TEMP_t (satSigned 16 (roundRat (64 * t))) k
  | _ => s.set R.SFE_TEMP_t 0x8000 k

/-- r_ac of the latest tone check lies below the expected value by more than the leakage margin (R385); `r` is the
resistance in mΩ. -/
def sfeLeaks (s : State) (v : Visit) (r : Nat) : Bool :=
  let exp := r + v.leads (s.get R.SFE_LEAD_lead (sfeOf v))
  (s.sfeCh (sfeOf v)).checked && decide (256 * s.get R.SFE_ZAC_r_ac (sfeOf v) < exp * (256 - bits v.lim 31 24))

/-- A verdict is decided: a change writes SFE_CHECK; while it is not OK there is no valid result (R386). -/
def sfeDecide (s : State) (k : Fin 8) (v : Nat) : State :=
  let old := s.get R.SFE_TEMP_verdict k
  let s := s.set R.SFE_TEMP_verdict v k
  let s := if v = 1 then s else (s.setFlag R.SFE_TEMP_valid false k).set R.SFE_TEMP_t 0x8000 k
  if v = old then s
  else s.event 0x54 0xFF (bytesLE 1 k ++ bytesLE 1 v ++ [0, 0] ++ bytesLE 4 (s.get R.SFE_ZAC_r_ac k)
    ++ bytesLE 2 (s.get R.SFE_LEAD_c_ac k))

/-- A sensor conversion of ratio `q` (R383, R385, R386). -/
def sfeSensor (s : State) (v : Visit) (q : Rat) (compliance volt : Bool) : State :=
  let k := sfeOf v
  let loop : Nat := if v.three then 0 else bits v.aux 15 0
  let r := satUnsigned 32 (roundRat (q * sfeRef v) - loop)
  let test := v.tests r compliance (decide (4 ≤ q))
  let w := if test = 1 ∧ s.sfeLeaks v r then 4 else test
  let s := (s.modSfeCh k fun c => { c with conv := some test }).sfeDecide k w
  if w ≠ 1 then s
  else
    let s := (s.set R.SFE_RES_r r k).sfeTemp v r
    ((s.setFlag R.SFE_TEMP_valid true k).setFlag R.SFE_TEMP_fresh true k).setFlag R.SFE_TEMP_volt volt k

/-- A lead conversion of ratio `q` (R383). -/
def sfeLead (s : State) (v : Visit) (q : Rat) : State :=
  s.set R.SFE_LEAD_lead (satUnsigned 16 (roundRat (q * sfeRef v / 3))) (sfeOf v)

/-- After a visit's conversion comes its lead conversion, or its end (R379). -/
def sfeNextStage (s : State) (v : Visit) : State :=
  if v.leadDue ∧ ¬ v.lead then { s with sfe := { s.sfe with visit := some { v with lead := true, began := s.now } } } else s.sfeIdle

/-- A channel enters recovery (R382). -/
def sfeRecover (s : State) (k : Fin 8) : State :=
  let s := (s.modSfeCh k fun c => { c with left := 16 }).setBit R.SFE_STATUS_recovery k true
  s.event 0x53 0xFF (bytesLE 1 k)

/-- A lead conversion in frequency mode ends: one that does not complete brings recovery unless the channel's verdict of
OPEN or RANGE explains it (R380, R382, R383). -/
def sfeLeadEnd (s : State) (v : Visit) (m nc : Nat) (compliance : Bool) : State :=
  let k := sfeOf v
  let q : Rat := m / nc
  if m < 2 ∨ nc = 0 ∨ compliance ∨ 4 ≤ q then
    (if s.get R.SFE_TEMP_verdict k = 2 ∨ s.get R.SFE_TEMP_verdict k = 5 then s else s.sfeRecover k).sfeIdle
  else (s.sfeLead v q).sfeIdle

/-- A frequency conversion ends with its counts and the compliance flag (R380). -/
def sfeFrequency (s : State) (m nc : Nat) (compliance : Bool) : State :=
  match s.sfe.visit with
  | none => s
  | some v =>
    if v.check ∨ v.volt ∨ ¬ s.sfeGated v then s
    else
      let k := sfeOf v
      let s := (s.set R.SFE_MCNT_m (m % 2 ^ 32) k).set R.SFE_NCNT_nc (nc % 2 ^ 32) k
      if v.lead then s.sfeLeadEnd v m nc compliance
      else if m < 2 ∨ nc = 0 then (if compliance then s.sfeDecide k 2 else s.sfeRecover k).sfeIdle
      else (s.sfeSensor v ((m : Rat) / nc) compliance false).sfeNextStage v

/-- A voltage conversion ends with the sum of its 64 codes (R381). -/
def sfeVoltage (s : State) (sum : Int) (compliance : Bool) : State :=
  match s.sfe.visit with
  | none => s
  | some v =>
    if v.check ∨ ¬ v.volt then s
    else if s.flag R.SFE_STATUS_house_lost then s.sfeIdle
    else if ¬ s.sfeSlotted v then s
    else
      let q : Rat := 4 * sum / (64 * 16384)
      if v.lead then (if compliance then s else s.sfeLead v q).sfeIdle
      else (s.sfeSensor v q compliance true).sfeNextStage v

/-- r_ac in mΩ from Re(Y) in pS; a conductance that is not positive has no resistance that the spec states (R384). -/
def sfeAc (s : State) (re : Int) : Nat × State :=
  if 0 < re then (satUnsigned 32 (roundDiv (10 ^ 15) re.toNat), s) else ((s.fresh).1 % 2 ^ 32, (s.fresh).2)

/-- A tone check ends with the admittance Re and Im in pS and the compliance flag (R384, R385). -/
def sfeTone (s : State) (re im : Int) (compliance : Bool) : State :=
  match s.sfe.visit with
  | none => s
  | some v =>
    if ¬ v.check then s
    else if s.flag R.SFE_STATUS_house_lost then s.sfeIdle
    else if ¬ s.sfeToned v then s
    else
      let k := sfeOf v
      let a := s.sfeAc re
      let s := a.2.set R.SFE_ZAC_r_ac a.1 k
      let s := s.set R.SFE_LEAD_c_ac (satUnsigned 16 (roundRat (im / (2 * pi64 * 100000)))) k
      let s := s.modSfeCh k fun c => { c with checked := true }
      let test := if compliance then 2 else ((s.sfeCh k).conv).getD (v.tests a.1 false false)
      let w := if test = 1 ∧ s.sfeLeaks v (s.get R.SFE_RES_r k) then 4 else test
      (s.sfeDecide k w).sfeIdle

/-- The pins that sources A and B drive now, 31: off, and their current code (R374, R379, R380, R384, R388, R390). Every
other pin is high impedance. In test mode SFE_STEER steers them; in a visit they stand on the channel's pair and exchange
at the gate's midpoint; with the front end stopped only a wake-enabled house window 7 keeps source A on. -/
def sfeSources (s : State) : Nat × Nat × Nat :=
  if ¬ s.fieldRuns then
    let ch := s.get R.HWIN_CFG_input 7
    if s.flag R.HWIN_CFG_wake_en 7 then (2 * ch, 31, s.get R.SFE_CFG_exc ch) else (31, 31, 0)
  else if s.flag R.SFE_CTL_test then (s.get R.SFE_STEER_pin_a, s.get R.SFE_STEER_pin_b, s.get R.SFE_STEER_exc)
  else
    match s.sfe.visit with
    | none => (31, 31, 0)
    | some v =>
      let exc := bits v.cfg 26 24
      let first := 2 * v.ch
      let length := if v.volt then 64 * s.slotNs none else v.gateNs
      let swapped := decide (v.began + v.settleNs + length / 2 ≤ s.now)
      if v.check ∨ ¬ v.three then (first, 31, exc)
      else if swapped then (first + 1, first, exc)
      else (first, first + 1, exc)

/-- Run a tone check on every enabled channel, in channel order (R384, R391). -/
def sfeCheckNow (s : State) : State :=
  { s with sfe := { s.sfe with asked := s.sfe.asked ++
      ((sfeAll.filter fun (k : Fin 8) => s.flag R.SFE_CFG_enable k).map fun (k : Fin 8) => (k.val, true)) } }

/-- Dawn asks one voltage conversion and one tone check of each enabled channel, in channel order (R389). -/
def sfeDawn (s : State) : State :=
  { s with sfe := { s.sfe with asked :=
      ((sfeAll.filter fun (k : Fin 8) => s.flag R.SFE_CFG_enable k).flatMap fun (k : Fin 8) => [(k.val, false), (k.val, true)]) } }

/-- Entry to Twilight or Night: the conversion in progress is abandoned (R388, R391). -/
def sfeStop (s : State) : State := s.sfeIdle

/-- A write of SFE_CFGn (R378). -/
def writeSfeCfg (s : State) (k : Fin 8) (v : Word) : State :=
  let w := v.toNat
  let old := (s.rd (R.SFE_CFG.at k)).toNat
  if (bit old 31 ∧ bit w 31 ∧ bits w 30 24 ≠ bits old 30 24) ∨ bits w 29 28 = 3 ∨ bits w 26 24 = 7 then s.sfeRefuse
  else
    let s := s.wr (R.SFE_CFG.at k) (BitVec.ofNat 32 (w / 16 * 16))
    let here := s.sfe.visit.any fun x => decide (x.ch = k.val)
    let s := if here ∧ ¬ bit w 31 then s.sfeIdle else s
    if bit w 31 ∧ ¬ bit old 31 then s.sfeFresh k else s

/-- A write of SFE_STEER (R375, R390). -/
def writeSfeSteer (s : State) (v : Word) : State :=
  let w := v.toNat
  let a := bits w 4 0
  if ¬ s.flag R.SFE_CTL_test ∨ (a < 16 ∧ a = bits w 12 8) ∨ bits w 26 24 = 7 then s.sfeRefuse
  else ((s.set R.SFE_STEER_exc (bits w 26 24)).set R.SFE_STEER_pin_b (bits w 12 8)).set R.SFE_STEER_pin_a a

/-- A write of SFE_CTL.test (R389, R390). -/
def sfeTest (s : State) (on : Bool) : State :=
  if on then
    if s.flag R.SFE_STATUS_house_lost then s.sfeRefuse
    else if s.flag R.SFE_CTL_test then s
    else (s.setFlag R.SFE_CTL_test true).sfeIdle
  else if s.flag R.SFE_CTL_test then
    let s := ((s.setFlag R.SFE_CTL_test false).set R.SFE_STEER_pin_a 0x1F).set R.SFE_STEER_pin_b 0x1F
    { s with sfe := { s.sfe with next := 0 } }
  else s

/-- A write of SFE_CTL (R376): a refused test leaves the whole register unchanged. -/
def writeSfeCtl (s : State) (v : Word) : State :=
  let w := v.toNat
  if bit w 30 ∧ s.flag R.SFE_STATUS_house_lost then s.sfeRefuse
  else
    let was := s.flag R.SFE_CTL_enable
    let s := (s.setFlag R.SFE_CTL_enable (bit w 31)).set R.SFE_CTL_check_s (bits w 15 0)
    let s := if bit w 31 ∧ ¬ was then
        sfeAll.foldl (fun (s : State) (k : Fin 8) => if s.flag R.SFE_CFG_enable k then s.sfeFresh k else s)
          { s with sfe := { s.sfe with next := 0 } }
      else if ¬ bit w 31 then s.sfeIdle else s
    let s := s.sfeTest (bit w 30)
    if bit w 29 then s.sfeCheckNow else s

end State

/-- SFE_VISIT (R379). -/
def execSfeVisit (s : State) : Res := .next s.sfeVisitOf

/-- FREQUENCY_CONVERSION_DONE (R380): the counts of measuring and reference cycles. -/
def execFrequencyConversionDone (m nc : Nat) (compliance : Bool) (s : State) : Res := .next (s.sfeFrequency m nc compliance)

/-- VOLTAGE_CONVERSION_DONE (R381): the sum of 64 slots. -/
def execVoltageConversionDone (sum : Int) (compliance : Bool) (s : State) : Res := .next (s.sfeVoltage sum compliance)

/-- TONE_CHECK (R384): the admittance measured, Re and Im in pS. -/
def execToneCheck (re im : Int) (compliance : Bool) (s : State) : Res := .next (s.sfeTone re im compliance)

/-- CHECK_NOW (R384). -/
def execCheckNow (s : State) : Res := .next s.sfeCheckNow

/-- SFE_STEER_WRITE (R390). -/
def execSfeSteerWrite (v : Word) (s : State) : Res := .next (s.writeSfeSteer v)

/-- SFE_TEST_WRITE (R390). -/
def execSfeTestWrite (on : Bool) (s : State) : Res := .next (s.sfeTest on)

end Sys2Proof.Machine
end

