-- ==== Sys2Proof/Machine/CanopyOps.lean ====
section
/-! DEFINITION. What a failure of Canopy does to the device, and its status word (18_canopy.md R545 to R557). -/

namespace Sys2Proof.Machine
namespace State

/-- Canopy core 1 owns the tile in split mode (R549). -/
def ownedByOne (s : State) (n : Fin 64) : Bool := s.split && s.maskBit R.SPLIT_OWN_LO_tiles R.SPLIT_OWN_HI_tiles n

/-- safety_claim follows the pair's state (R557). -/
def showClaim (s : State) : State :=
  let bad := s.flag R.CANOPY_STATUS_dbg_split || s.flag R.CANOPY_STATUS_bench || s.flag R.CANOPY_STATUS_mismatch ||
    s.flag R.CANOPY_STATUS_selftest_fail || s.flag R.CANOPY_STATUS_scan_wd || s.flag R.CANOPY_STATUS_double_exc
  s.setFlag R.CANOPY_STATUS_safety_claim (decide (s.get R.CANOPY_STATUS_mode = 0) && !bad)

/-- Every tile of a Canopy core takes lull_source bit [19] (R545, R548, R551, R670): every tile in lockstep. -/
def canopyLull (s : State) (one : Bool) : State :=
  s.forTiles allTiles fun n s => if s.split ∧ s.ownedByOne n ≠ one then s else s.lullSource n 3

/-- A Canopy core stops. -/
def canopyHold (s : State) (one : Bool) : State :=
  if s.split then s.modCore (if one then canopy1 else canopy0) fun c => { c with stopped := true }
  else (s.modCore canopy0 fun c => { c with stopped := true }).modCore canopy1 fun c => { c with stopped := true }

/-- A mismatch, a failed self-test, a scan-watchdog expiry, a double exception or an ECC mismatch (R545 to R548): `kind`
codes it as the CANOPY_FAULT event does. Log: DESIGN CHOICE notes/assumptions/47.md. -/
def canopyFail (s : State) (kind lane : Nat) (one : Bool) : State :=
  let s := match kind with
    | 2 => (s.setFlag R.CANOPY_STATUS_selftest_fail true).setFlag R.CANOPY_STATUS_mismatch true
    | 3 => s.setFlag R.CANOPY_STATUS_scan_wd true
    | 4 => s.setFlag R.CANOPY_STATUS_double_exc true
    | _ => s.setFlag R.CANOPY_STATUS_mismatch true
  -- CYCLE of core A at detection: the spec gives a clock count that the model leaves open
  let s := if kind = 3 ∨ kind = 4 then s
    else ((s.fresh).2.set R.CANOPY_MISMATCH_lane lane).set R.CANOPY_MISMATCH_cycle ((s.fresh).1 % 2 ^ 28)
  let s := (s.canopyHold one).showClaim
  let s := s.event 0x61 0xFF (bytesLE 1 kind ++ bytesLE 1 lane ++ [0, 0] ++ bytesLE 4 (s.get R.CANOPY_MISMATCH_cycle))
  s.canopyLull one

/-! ### The veto (R541, R553 to R556) -/

/-- Word `w` of entry `e` of the safety table (R553). -/
def safety (s : State) (e w : Nat) : Nat := ((sparseFind (8 * e + w) s.canopy.safety).getD 0).toNat

/-- Write a word of the safety table. -/
def putSafety (s : State) (e w v : Nat) : State :=
  { s with canopy := { s.canopy with safety := sparsePut 0 (8 * e + w) (BitVec.ofNat 32 v) s.canopy.safety } }

/-- The veto line of a tile is raised. -/
def vetoed (s : State) (n : Fin 64) : Bool := s.maskBit R.VETO_LO_tiles R.VETO_HI_tiles n

/-- The veto line of a tile rises: lull_source bit [18] (R275, R541). -/
def vetoLine (s : State) (n : Fin 64) : State := (s.setMaskBit R.VETO_LO_tiles R.VETO_HI_tiles n true).lullSource n 2

/-- The veto line of a tile drops, and bit [18] clears by its route (R279, R541). -/
def vetoDrop (s : State) (n : Fin 64) : State :=
  if s.vetoed n then (s.setMaskBit R.VETO_LO_tiles R.VETO_HI_tiles n false).releaseLull n 2 else s

/-- Canopy raises a tile's veto with its cause: W7, the line, the VETO event (R554, R559).
Log: DEDUCED notes/assumptions/50.md. -/
def raiseVeto (s : State) (n : Fin 64) (cause : Nat) (value : Int) (limit : Nat) : State :=
  let w7 := s.safety n 7
  let s := s.putSafety n 7 (cause * 2 ^ 24 + bits w7 23 16 * 2 ^ 16 + min 0xFFFF (bits w7 15 0 + 1))
  let s := s.event 0x60 n (bytesLE 1 cause ++ bytesLE 1 (bits w7 23 16) ++ [0, 0] ++ bytesLE 4 (wrapNat 32 value) ++ bytesLE 4 limit)
  s.vetoLine n

/-- The tiles of a mask word that a Canopy core may act on: in split mode its own (R550). -/
def maskTiles (s : State) (one hi : Bool) (v : Word) : List (Fin 64) :=
  allTiles.filter fun n =>
    (decide (32 ≤ n.val) == hi) && v.toNat.testBit (n.val % 32) && (!s.split || s.ownedByOne n == one)

/-- A write of VETO_RAISE by a Canopy core (R541). -/
def writeVetoRaise (s : State) (one hi : Bool) (v : Word) : State := s.forTiles (s.maskTiles one hi v) fun n s => s.vetoLine n

/-- A write of VETO_DROP by a Canopy core: tiles of the release ticket only (R541, R556). -/
def writeVetoDrop (s : State) (one hi : Bool) (v : Word) : State :=
  s.forTiles (s.maskTiles one hi v) fun n s => if s.canopy.ticket.testBit n then s.vetoDrop n else s

/-- A write of SCAN_KICK by a Canopy core (R548). -/
def writeScanKick (s : State) (one : Bool) : State :=
  let k : Fin 2 := if s.split && one then 1 else 0
  { s with canopy := { s.canopy with kickAt := s.canopy.kickAt.set k s.now } }

/-- A write of LOCKS by a Canopy core: only Dawn clears the locks (R541). Log: DEDUCED notes/assumptions/52.md. -/
def writeLocks (s : State) (one : Bool) (v : Word) : State :=
  let s := if v.getLsbD 0 then s.setFlag R.TRIP_LOCK_lock true else s
  if v.getLsbD 1 then
    s.forTiles allTiles fun n s => if s.split ∧ s.ownedByOne n ≠ one then s else s.setFlag R.FB_LOCK_lock true n
  else s

/-- A write of GRANT by a Canopy core: the grant lines of 32 tiles; core 1 has none (R541, R550). -/
def writeGrant (s : State) (one hi : Bool) (v : Word) : State :=
  if s.split && one then s
  else
    s.forTiles (allTiles.filter fun n => decide (32 ≤ n.val) == hi) fun n s => s.setGrant n (v.toNat.testBit (n.val % 32))

/-- A tile's vector unit may be lent to its neighbour (R181): same quadrant, Asleep or Idle, in no loan. -/
def mayLend (s : State) (lender n : Fin 64) : Bool :=
  decide (lender.val / 16 = n.val / 16) && (decide (lender.val + 1 = n.val) || decide (n.val + 1 = lender.val)) &&
    (decide (s.st lender = stAsleep) || decide (s.st lender = stIdle)) && !s.flag R.SD_STATUS_borrowing lender &&
    !(allTiles.any fun m => s.flag R.SD_STATUS_borrowing m && decide (s.get R.SD_STATUS_peer m = lender.val))

/-- A write of LEND by a Canopy core (R181, R541): the loan that the register held ends, and a valid loan is made.
Log: DEDUCED notes/assumptions/52.md. -/
def writeLend (s : State) (one : Bool) (v : Word) : State :=
  if s.split && one then s
  else
    let old := s.get R.GOV_LEND_word
    let s := if bit old 31 then s.dropLoan (tileOf (bits old 5 0)) else s
    let lender := tileOf (bits v.toNat 13 8)
    let n := tileOf (bits v.toNat 5 0)
    if v.getLsbD 31 ∧ s.mayLend lender n ∧ s.walking n ∧ ¬ s.flag R.SD_STATUS_borrowing n then s.makeLoan lender n else s

/-- The mailbox message of the host is sent by the write of CMB_TO3, or refused while one waits (R558, R401). -/
def canopyMail (s : State) (w : Word) : State :=
  let s := s.set (R.CMB_TO_word) w.toNat 3
  if s.flag R.CMB_CTL_to_full then s.bump R.CMB_CTL_to_refused
  else
    let m : Vector Word 4 := Vector.ofFn fun i => BitVec.ofNat 32 (s.get R.CMB_TO_word i)
    ((s.modCore canopy0 fun c => { c with inBox := m }).setFlag R.CMB_CTL_to_full true).raiseCanopy 1

end State
end Sys2Proof.Machine
end

