-- ==== Sys2Proof/Machine/StoreBuffer.lean ====
section
/-! DEFINITION. The stores of a Hiker core on their way to memory: Canopy's data cache and the store buffer of four entries
(14_hiker_instructions.md R441, R445, R446, 18_canopy.md R540). -/

namespace Sys2Proof.Machine

/-- Address `a` lies in `size` bytes from `lo`. -/
def within (a lo size : Nat) : Bool := decide (lo ≤ a) && decide (a < lo + size)

namespace State

/-- A word of memory as a fetch or a cache reads it, by on-chip address. -/
def memBytes (s : State) (a len : Nat) : List Byte :=
  if within a paramStore 0x800000 then (s.bytes a len).map (· ^^^ 0xFF) else s.bytes a len

/-- The line of a buffer that holds address `a`. -/
def lineOf (b : List Line) (a : Nat) : Option Line := b.find? fun l => decide (l.addr = a / 32 * 32)

/-- Write a line back when it is dirty. -/
def writeLine (s : State) (k : Fin 66) (l : Line) : State := if l.dirty then s.sharedWrite (some k) l.addr l.bytes else s

/-- The line that holds `a` leaves the data cache, written back when `back` holds. Log: DEDUCED notes/assumptions/92.md. -/
def dropData (s : State) (k : Fin 66) (a : Nat) (back : Bool) : State :=
  match lineOf (s.core k).dcache a with
  | none => s
  | some l =>
    let s := if back then s.writeLine k l else s
    s.modCore k fun c => { c with dcache := c.dcache.filter fun x => decide (x.addr ≠ l.addr) }

/-- The line that a miss brings in; which line it evicts, if any, is open but for the 1,024 that the cache holds. -/
def dataLine (s : State) (k : Fin 66) (a : Nat) : Line × State :=
  match lineOf (s.core k).dcache a with
  | some l => (l, s)
  | none =>
    let r := s.fresh
    let held := (s.core k).dcache
    let victim := if 1024 ≤ held.length ∨ r.1 % 2 = 1 then (held.drop (r.1 / 2 % max 1 held.length)).head? else none
    let s := match victim with
      | some v => r.2.dropData k v.addr true
      | none => r.2
    let l : Line := { addr := a / 32 * 32, bytes := s.memBytes (a / 32 * 32) 32, dirty := false }
    (l, s.modCore k fun c => { c with dcache := c.dcache ++ [l] })

/-- Bytes written into the data cache: the line becomes dirty. Log: DEDUCED notes/assumptions/92.md. -/
def cacheStore (s : State) (k : Fin 66) (a : Nat) (b : List Byte) : State :=
  let r := s.dataLine k a
  let new := r.1.bytes.take (a % 32) ++ b ++ r.1.bytes.drop (a % 32 + b.length)
  r.2.modCore k fun c =>
    { c with dcache := c.dcache.map fun x => if x.addr = a / 32 * 32 then { x with bytes := new, dirty := true } else x }

/-- Words of the Hiker region that the core writes may still be fetched as they were until a SYNC (R446).
Log: DEDUCED notes/assumptions/92.md. -/
def noteStale (s : State) (k : Fin 66) (a : Nat) : State :=
  let w := a / 4 * 4
  if k.val < 64 ∧ within a (tileSram k.val + 0x18000) 0x8000 ∧ (sparseFind w (s.core k).stale).isNone then
    let old := BitVec.ofNat 32 (natLE (s.bytes w 4))
    s.modCore k fun c => { c with stale := sparseInsert w old c.stale }
  else s

/-! ### The store buffer (R445) -/

/-- A store takes effect in the Hiker region, the shared SRAM or Canopy's SRAM, by on-chip address. -/
def ramStore (s : State) (k : Fin 66) (a : Nat) (b : List Byte) : State :=
  if k.val < 64 then (s.noteStale k a).sharedWrite (some k) a b else s.cacheStore k a b

/-- The oldest store of the buffer takes effect (R445). -/
def leaveOne (s : State) (k : Fin 66) : State :=
  match (s.core k).stores with
  | [] => s
  | e :: rest => (s.modCore k fun c => { c with stores := rest }).ramStore k e.1 e.2

/-- Every store of the buffer takes effect, oldest first (R445). -/
def leaveAll (s : State) (k : Fin 66) : State :=
  (s.core k).stores.foldl (fun (s : State) _ => s.leaveOne k) s

/-- A store enters the buffer, whose oldest entry leaves when four are held (R445). Log: DESIGN CHOICE
notes/assumptions/105.md. -/
def bufferStore (s : State) (k : Fin 66) (a : Nat) (b : List Byte) : State :=
  let s := if 4 ≤ (s.core k).stores.length then s.leaveOne k else s
  s.modCore k fun c => { c with stores := c.stores ++ [(a, b)] }

/-- The buffered value of byte `a`, that of the youngest store. -/
def heldByte (l : List (Nat × List Byte)) (a : Nat) : Option Byte :=
  l.reverse.findSome? fun e => if e.1 ≤ a then e.2[a - e.1]? else none

/-- A value loaded from `a` as the core's own buffered stores leave it (R445). -/
def bufferedLoad (c : Core) (a size v : Nat) : Nat :=
  natLE ((bytesLE size v).zipIdx.map fun x => (heldByte c.stores (a + x.2)).getD x.1)

/-- With time the stores of every core take effect. Log: DESIGN CHOICE notes/assumptions/105.md. -/
def leaveCores (s : State) : State :=
  if s.cores.toList.all fun c => c.stores.isEmpty then s
  else (List.finRange 66).foldl (fun (s : State) (k : Fin 66) => s.leaveAll k) s

end State
end Sys2Proof.Machine
end

