-- ==== Sys2Proof/Machine/HikerOps.lean ====
section
/-! DEFINITION. The tile cores as the host and the tile interface control them: paired 64-bit registers (00_scope.md R11),
start, stop, halt and reset, image loading, mailboxes, the alarm and placement (13_hiker_cores.md R399 to R426). -/

namespace Sys2Proof.Machine
namespace State

/-! ### Pairs (R11) -/

/-- The reader of a low word captures the high word. -/
def pairCapture (s : State) (key : Nat) (who : Requester) (high : Word) : State :=
  { s with shadows := sparseInsert key (who, high) s.shadows }

/-- A read of the high word: the owner's shadow, which empties, or the live word. -/
def pairHigh (s : State) (key : Nat) (who : Requester) (live : Word) : Word × State :=
  match sparseFind key s.shadows with
  | some (o, w) => if o = who then (w, { s with shadows := sparseErase key s.shadows }) else (live, s)
  | none => (live, s)

/-- A write of the low word is held. -/
def pairHold (s : State) (key : Nat) (who : Requester) (low : Word) : State :=
  { s with holds := sparseInsert key (who, low) s.holds }

/-- A write of the high word takes the owner's held low word, or the low word in the register. -/
def pairTake (s : State) (key : Nat) (who : Requester) (live : Word) : Word × State :=
  match sparseFind key s.holds with
  | some (o, w) => if o = who then (w, { s with holds := sparseErase key s.holds }) else (live, s)
  | none => (live, s)

/-- Key of a pair of the tile interface of core `n`. -/
def tiKey (n off : Nat) : Nat := 0x100000 + 0x1000 * n + off

/-! ### States and boundaries -/

/-- A boundary at which an interrupt, a stop or a halt may act (R405): no delay slot, shadow or locked sequence is open. -/
def atBoundary (c : Core) : Bool := c.delay.isNone && !c.shadow && c.lock.isNone

/-- Loop level `i` is active (R394). -/
def loopOn (c : Core) (i : Fin 2) : Bool := c.status.getLsbD (26 + i)

/-- Set or clear lp of level `i`. -/
def setLoop (c : Core) (i : Fin 2) (on : Bool) : Core :=
  { c with status := insertBits c.status (26 + i) (26 + i) (b2n on) }

/-- One level at the completion of the instruction at `pc` (R410), with the start and end addresses of `old`: the core
after it, and whether control passes on. -/
def loopEnd (c : Core) (i : Fin 2) (old : LoopLevel) : Core × Bool :=
  if ¬ loopOn c i ∨ c.pc ≠ old.le then (c, true)
  else
    let l := c.loops[i]
    if 1 < l.lc.toNat then
      ({ c with loops := c.loops.set i { l with lc := l.lc - 1 }, pc := old.ls }, false)
    else (setLoop { c with loops := c.loops.set i { l with lc := 0 } } i false, true)

/-- The instruction at `pc` completes (R410, R438): a delay slot passes control to the branch's target, a loop end goes
back, any other instruction goes on. `old` holds the loop registers before it. -/
def complete' (c : Core) (old : Vector LoopLevel 2) : Core :=
  match c.delay with
  | some (_, dst) => { c with pc := dst, delay := none }
  | none =>
    let r := loopEnd c 1 old[1]
    if ¬ r.2 then r.1
    else
      let r := loopEnd r.1 0 old[0]
      if r.2 then { r.1 with pc := c.pc + 4 } else r.1

/-- A WAIT in progress ends: the core stands at the instruction after it (R442). -/
def endWait (c : Core) : Core := if c.waiting then complete' { c with waiting := false } c.loops else c

/-- A stop or a halt of a tile core takes effect: a WAIT ends (R442); a halt sets lull_source bit [20] (R278). -/
def takeStop (s : State) (n : Fin 64) (halt : Bool) : State :=
  let s := (s.leaveAll (coreIx n)).modCore (coreIx n) fun c => { endWait c with deferred := none, stepping := false }
  let s := s.putCoreState n (if halt then 4 else 3)
  if halt then s.lullSource n 4 else s

/-! ### Exceptions (R402 to R404) -/

/-- What an exception carries beside its cause. -/
structure Exc where
  cause : Nat
  epc : Word
  ds : Bool
  bad : Option Word
  line : Nat
  deriving DecidableEq, Repr

/-- The core at exception entry (R403): `mode` is keeper (1) on a tile core, steward (2) on Canopy. -/
def enterExc (c : Core) (mode : Nat) (x : Exc) : Core :=
  let abort := c.lock.isSome
  { c with estatus := c.status,
           epc := match c.lock with
             | some l => l.lockPc
             | none => x.epc,
           ecause := BitVec.ofNat 32 (b2n (x.ds && !abort) * 2 ^ 31 + b2n abort * 2 ^ 30 + x.line * 2 ^ 16 + x.cause),
           ebadaddr := x.bad.getD c.ebadaddr,
           status := BitVec.ofNat 32 (mode * 2 ^ 30 + 2 ^ 28 + c.status.toNat % 16),
           pc := c.vbase + BitVec.ofNat 32 (0x40 * x.cause),
           delay := none, shadow := false, lock := none, waiting := false }

/-- An exception is taken; one that finds eh set is a double exception: a tile core takes its tile to Fault with cause
0x05, Canopy stops (R403, R548). -/
def takeExc (s : State) (k : Fin 66) (x : Exc) : State :=
  let c := s.core k
  if c.status.getLsbD 28 then
    if h : k.val < 64 then
      let n : Fin 64 := ⟨k.val, h⟩
      ((s.modCore k fun c => { c with lock := none }).tileFault n 5).putCoreState n 6
    else s.canopyFail 4 0 (k = canopy1)
  else if h : k.val < 64 then
    let n : Fin 64 := ⟨k.val, h⟩
    let s := s.setCore k (enterExc c 1 x)
    (s.set R.HIKER_EXC_cause x.cause n).bump R.HIKER_EXC_count n
  else s.setCore k (enterExc c 2 x)

/-- The instruction in progress raises an exception (R403, R410): in a delay slot it returns to the branch. -/
def raise (s : State) (k : Fin 66) (cause : Nat) (bad : Option Word) : State :=
  match (s.core k).delay with
  | some d => s.takeExc k { cause := cause, epc := d.1, ds := true, bad := bad, line := 0 }
  | none => s.takeExc k { cause := cause, epc := (s.core k).pc, ds := false, bad := bad, line := 0 }

/-- The pending enabled lines of a core. -/
def readyLines (c : Core) : Nat := (c.irqPend &&& c.irqEn).toNat

/-- The core executes: a tile core in RUNNING (R418), a Canopy core that runs and has not stopped. -/
def coreRuns (s : State) (k : Fin 66) : Bool :=
  if h : k.val < 64 then decide (s.coreState ⟨k.val, h⟩ = 2)
  else decide ((s.core k).wasState = 2) && !(s.core k).stopped && !s.fbit R.DBG_CANOPY_halted (k - 64) &&
    (decide (k.val = 64) || s.split)

/-- An enabled pending line is taken at an allowed boundary, the lowest first (R404, R405).
Log: DEDUCED notes/assumptions/93.md. -/
def takeInterrupt (s : State) (k : Fin 66) : State :=
  let lines := readyLines (s.core k)
  let c := endWait (s.core k)
  if ¬ s.coreRuns k ∨ ¬ atBoundary c ∨ ¬ c.status.getLsbD 29 ∨ lines = 0 ∨ c.stepping then s
  else
    (s.setCore k c).takeExc k { cause := 0x0F, epc := c.pc, ds := false, bad := none,
                                line := ((List.range 16).find? lines.testBit).getD 0 }

/-- A stop, or a debug halt when `halt` holds, is requested (R416, R417, R669): at once at an allowed boundary, deferred
elsewhere; a halt wins over a stop (R426). -/
def requestStop (s : State) (n : Fin 64) (halt : Bool) : State :=
  let c := s.core (coreIx n)
  let h := halt || c.deferred = some true
  if s.coreState n = 2 then
    if atBoundary (endWait c) then s.takeStop n h else s.modCore (coreIx n) fun c => { c with deferred := some h }
  else if s.coreState n = 7 ∧ c.wasState = 2 then s.modCore (coreIx n) fun c => { c with deferred := some h }
  else if halt ∧ s.coreState n = 3 then s.takeStop n true
  else s

/-! ### Images (R421 to R425) -/

/-- A section of an image (R421). -/
structure Section where
  typ : Nat
  flags : Nat
  rsv : Nat
  dest : Nat
  size : Nat
  off : Nat
  deriving DecidableEq, Repr

/-- The sections of an image. -/
def imageSections (img : List Byte) : List Section :=
  (List.range (fieldLE img 0x18 2)).map fun i =>
    let b := 0x40 + 16 * i
    ⟨fieldLE img b 1, fieldLE img (b + 1) 1, fieldLE img (b + 2) 2, fieldLE img (b + 4) 4, fieldLE img (b + 8) 4,
     fieldLE img (b + 12) 4⟩

/-- Sections overlap in the core's map. -/
def sectionsMeet (a b : Section) : Bool := decide (a.dest < b.dest + b.size) && decide (b.dest < a.dest + a.size)

/-- No two sections overlap. -/
def sectionsApart : List Section → Bool
  | [] => true
  | a :: l => l.all (fun b => !sectionsMeet a b) && sectionsApart l

/-- A section lies within [lo, hi). -/
def sectionIn (a : Section) (lo hi : Nat) : Bool := decide (lo ≤ a.dest) && decide (a.dest + a.size ≤ hi)

/-- One section's own rules (R421, R422): `lo` to `hi` is the region of LOAD and ZERO sections, `xip` the image's offset in
the XIP window. -/
def sectionOk (len lo hi xip : Nat) (a : Section) : Bool :=
  decide (a.rsv = 0) && decide (a.flags < 4) && decide (0 < a.size) && decide (a.size % 4 = 0) &&
    match a.typ with
    | 1 => sectionIn a lo hi && decide (a.off + a.size ≤ len)
    | 2 => sectionIn a lo hi && decide (a.off = 0)
    | 3 => sectionIn a 0x60000000 0x70000000 && decide (a.off + a.size ≤ len) && decide (a.dest = 0x60000000 + xip + a.off) &&
        decide (a.flags / 2 = 0)
    | _ => false

/-- The result of the checks of R422 in the order of R423, 0 when the image is accepted: none is a source that failed
to deliver, an empty string an empty record. Log: DEDUCED notes/assumptions/45.md. -/
def imageCheck (img : Option (List Byte)) (steward : Bool) (lo hi xip : Nat) : Nat :=
  match img with
  | none => 7
  | some b =>
    let len := fieldLE b 8 4
    let entry := fieldLE b 0x0C 4
    let vbase := fieldLE b 0x10 4
    let keeper := fieldLE b 0x14 4
    let nsect := fieldLE b 0x18 2
    let secs := imageSections b
    if b.length < 4 ∨ fieldLE b 0 4 ≠ 0x4B480001 then 1
    else if fieldLE b 4 2 ≠ 1 then 2
    else if len < 0x54 ∨ 16 * 2 ^ 20 < len ∨ b.length < len ∨ crc32c (b.take (len - 4)) ≠ fieldLE b (len - 4) 4 then 3
    else if nsect = 0 ∨ 16 < nsect ∨ len < 0x44 + 16 * nsect ∨ ¬ (secs.all (sectionOk (len - 4) lo hi xip)) ∨ ¬ sectionsApart secs ∨
        fieldLE b 6 2 / 2 ≠ 0 ∨ fieldLE b 0x1A 2 ≠ 0 ∨ ((b.drop 0x24).take 28).any (· ≠ 0) ∨
        keeper % 1024 ≠ 0 ∨ 32768 < keeper then 4
    else if entry % 4 ≠ 0 ∨ ¬ (secs.any fun a => a.flags.testBit 0 && decide (a.dest ≤ entry) && decide (entry < a.dest + a.size)) ∨
        vbase % 1024 ≠ 0 ∨ vbase < lo ∨ lo + keeper < vbase + 1024 then 5
    else if (fieldLE b 6 2 = 1) ≠ steward then 6
    else 0

/-- The sections of an accepted image are copied and filled (R424). -/
def copySections (s : State) (base : Nat) (img : List Byte) : State :=
  (imageSections img).foldl (fun (s : State) (a : Section) =>
    match a.typ with
    | 1 => s.setBytes (base + a.dest) ((img.drop a.off).take a.size)
    | 2 => s.setBytes (base + a.dest) (List.replicate a.size 0)
    | _ => s) s

/-- A core starts at the entry of a loaded image (R425). -/
def coreStart (s : State) (k : Fin 66) (img : List Byte) : State :=
  s.modCore k fun c =>
    { coreClear c with pc := BitVec.ofNat 32 (fieldLE img 0x0C 4), vbase := BitVec.ofNat 32 (fieldLE img 0x10 4 / 1024 * 1024),
                       keeperSize := fieldLE img 0x14 4 }

/-- An image load of a tile core ends (R422 to R425). -/
def loadDone (s : State) (n : Fin 64) (img : Option (List Byte)) : State :=
  let xip := s.get R.HIKER_XIP_offset n
  let r := imageCheck img false 0x18000 0x20000 xip
  let b := img.getD []
  let s := (s.leaveAll (coreIx n)).set R.HIKER_STATUS_load_error r n
  if r ≠ 0 then
    ((s.scramble (hikerMem n 0x18000) 32768).putInner n 5).event 0x06 n
      (bytesLE 1 r ++ [0, 0, 0] ++ bytesLE 4 (fieldLE b 0x1C 4))
  else
    let s := (s.copySections (tileSram n) b).set R.HIKER_IMAGE_ID_id (fieldLE b 0x1C 4) n
    let s := s.event 0x05 n (bytesLE 4 (fieldLE b 0x1C 4) ++ bytesLE 4 (fieldLE b 0x20 4))
    (s.coreStart (coreIx n) b).putInner n 2

/-! ### Host control (R417 to R419) -/

/-- HIKER_CTL.start (R419), which empties the fetch buffer (R446). `v` is the value written. -/
def hikerStart (s : State) (n : Fin 64) (v : Word) : State :=
  let src := bits v.toNat 28 27
  let st := s.innerState n
  if st = 1 ∨ st = 2 ∨ st = 4 ∨ (src = 0 ∧ st ≠ 3) then
    s.event 0x07 n (bytesLE 4 v.toNat ++ bytesLE 4 (s.coreState n))
  else if src = 0 then (s.modCore (coreIx n) fun c => { c with fetchBuf := [] }).putInner n 2
  else (s.modCore (coreIx n) fun c => { c with loadSrc := src, fetchBuf := [] }).putInner n 1

/-- A write of HIKER_CTL (R417): its fields, then reset, stop and start. Log: DEDUCED notes/assumptions/45.md. -/
def writeHikerCtl (s : State) (n : Fin 64) (v : Word) : State :=
  let w := v.toNat
  let s := ((s.set R.HIKER_CTL_src (bits w 28 27) n).set R.HIKER_CTL_autostart (bits w 26 26) n).set R.HIKER_CTL_image (bits w 7 0) n
  let s := if bit w 29 then s.coreReset n else s
  let s := if bit w 30 then s.requestStop n false else s
  if bit w 31 then s.hikerStart n v else s

/-! ### The tile interface (R399 to R401) -/

/-- TI_PLACE: the staged segment is placed, or refused at once (R400). -/
def tiPlace (s : State) (n : Fin 64) : State :=
  let c := s.core (coreIx n)
  let w : Fin 8 → Nat := fun i => c.seg[i].toNat
  let g : Seg := ⟨w 0, w 1, w 2, w 3, w 4, w 5, w 6, w 7⟩
  let old := c.place.toNat % 2 ^ 11
  let put : State → Nat → Nat → State := fun s r p =>
    s.modCore (coreIx n) fun c => { c with place := BitVec.ofNat 32 (r * 2 ^ 24 + p) }
  if segType g = 6 then put s 3 old
  else if ¬ s.segLegal n g then put s 1 old
  else if 1024 ≤ s.trailCount n then put s 2 old
  else put (s.placeSeg n g) 0 (s.tail n)

/-- TI_RELEASE: the ON_HIKER condition of the waiting head with this code is met (R37). -/
def tiRelease (s : State) (n : Fin 64) (code : Nat) : State :=
  match s.awaited n with
  | none => s
  | some g => if segCond g = 4 ∧ g.w6 % 65536 = code then s.modPlan n fun p => { p with condMet := true } else s

/-- The alarm fires once, at or after its time, while the core's clock runs (R400, R420). -/
def tiAlarmFire (s : State) (n : Fin 64) : State :=
  let c := s.core (coreIx n)
  if c.armed ∧ c.alarm ≤ s.now ∧ s.coreState n ≠ 7 then
    (s.modCore (coreIx n) fun c => { c with armed := false }).raiseLine n 8
  else s

/-- The alarm is armed for a site time; one already passed fires at the next clock (R311, R400). -/
def tiAlarmArm (s : State) (n : Fin 64) (time : Nat) : State :=
  s.modCore (coreIx n) fun c => { c with alarm := time, armed := true }

/-- One HIKER_USER event with the four payload words (R399). -/
def tiUser (s : State) (n : Fin 64) (w : Word) : State :=
  let s := s.modCore (coreIx n) fun c => { c with events := c.events.set 3 w }
  s.event 0x03 n ((s.core (coreIx n)).events.toList.flatMap fun w => bytesLE 4 w.toNat)

/-- The core sends a message, or is refused while the last is not acknowledged (R401). -/
def tiSend (s : State) (n : Fin 64) (w : Word) : State :=
  let s := s.modCore (coreIx n) fun c => { c with outBox := c.outBox.set 3 w }
  if s.flag R.HIKER_MBOX_CTL_from_full n then s.modCore (coreIx n) fun c => { c with outRefused := true }
  else
    let c := s.core (coreIx n)
    let s := s.setFlag R.HIKER_MBOX_CTL_from_full true n
    let s := [(0 : Fin 4), 1, 2, 3].foldl (fun (s : State) (i : Fin 4) =>
      s.set (R.HIKER_MBOX_FROM_word.nth i) (c.outBox[i]).toNat n) s
    s.event 0x04 n (c.outBox.toList.flatMap fun w => bytesLE 4 w.toNat)

/-- in_ack releases the host message (R399). -/
def tiInAck (s : State) (n : Fin 64) : State := s.setFlag R.HIKER_MBOX_CTL_to_full false n

/-- The host's message is sent by the write of its last word, or refused while one waits (R401, R417). -/
def hostMail (s : State) (n : Fin 64) (w : Word) : State :=
  let s := s.set (R.HIKER_MBOX_TO_word.nth 3) w.toNat n
  if s.flag R.HIKER_MBOX_CTL_to_full n then s.bump R.HIKER_MBOX_CTL_to_refused n
  else
    let m : Vector Word 4 := Vector.ofFn fun i => BitVec.ofNat 32 (s.get (R.HIKER_MBOX_TO_word.nth i) n)
    let s := (s.modCore (coreIx n) fun c => { c with inBox := m }).setFlag R.HIKER_MBOX_CTL_to_full true n
    (s.raiseLine n 6).wakeRequest n

/-- from_ack releases the core's message (R417). Log: DEDUCED notes/assumptions/45.md. -/
def fromAck (s : State) (n : Fin 64) : State := (s.setFlag R.HIKER_MBOX_CTL_from_full false n).raiseLine n 7

/-- A word written to the tile interface of core `n` at offset `off` (R399). Log: DEDUCED notes/assumptions/45.md. -/
def tiWrite (s : State) (n : Fin 64) (off : Nat) (v : Word) : State :=
  let k := coreIx n
  if off < 0x20 then
    s.modCore k fun c => { c with seg := c.seg.set (off / 4 % 8) v (Nat.mod_lt _ (by decide)) }
  else if 0x40 ≤ off ∧ off < 0x4C then
    s.modCore k fun c => { c with events := c.events.set (off / 4 % 4) v (Nat.mod_lt _ (by decide)) }
  else if 0x60 ≤ off ∧ off < 0x6C then
    s.modCore k fun c => { c with outBox := c.outBox.set (off / 4 % 4) v (Nat.mod_lt _ (by decide)) }
  else
    match off with
    | 0x20 => s.tiPlace n
    | 0x24 => s.tiRelease n (v.toNat % 65536)
    | 0x30 => s.pairHold (tiKey n 0x30) (.tile n) v
    | 0x34 =>
      let (lo, s) := s.pairTake (tiKey n 0x30) (.tile n) (BitVec.ofNat 32 (s.core k).alarm)
      s.tiAlarmArm n (lo.toNat + 2 ^ 32 * v.toNat)
    | 0x38 => if v.getLsbD 0 then s.modCore k fun c => { c with armed := false } else s
    | 0x4C => s.tiUser n v
    | 0x6C => s.tiSend n v
    | 0x70 =>
      let s := if v.getLsbD 29 then s.tiInAck n else s
      if v.getLsbD 28 then s.modCore k fun c => { c with outRefused := false } else s
    | 0x80 =>
      let en := (s.core k).irqEn
      s.modCore k fun c => { c with irqPend := (c.irqPend &&& ~~~(v.setWidth 16)) ||| (v.setWidth 16 &&& en &&& ~~~c.irqPend &&& 0xF800#16) }
    | 0x84 => s.modCore k fun c => { c with irqEn := v.setWidth 16 }
    | _ => s

/-- A word read from the tile interface of core `n` at offset `off` (R399). -/
def tiRead (s : State) (n : Fin 64) (off : Nat) : Word × State :=
  let c := s.core (coreIx n)
  if off < 0x20 then (c.seg[off / 4 % 8]'(Nat.mod_lt _ (by decide)), s)
  else if 0x40 ≤ off ∧ off < 0x50 then (c.events[off / 4 % 4]'(Nat.mod_lt _ (by decide)), s)
  else if 0x50 ≤ off ∧ off < 0x60 then (c.inBox[off / 4 % 4]'(Nat.mod_lt _ (by decide)), s)
  else if 0x60 ≤ off ∧ off < 0x70 then (c.outBox[off / 4 % 4]'(Nat.mod_lt _ (by decide)), s)
  else
    match off with
    | 0x20 => (c.place, s)
    | 0x28 => (BitVec.ofNat 32 s.now, s.pairCapture (tiKey n 0x28) (.tile n) (BitVec.ofNat 32 (s.now / 2 ^ 32)))
    | 0x2C => s.pairHigh (tiKey n 0x28) (.tile n) (BitVec.ofNat 32 (s.now / 2 ^ 32))
    | 0x30 => (BitVec.ofNat 32 c.alarm, s.pairCapture (tiKey n 0x30) (.tile n) (BitVec.ofNat 32 (c.alarm / 2 ^ 32)))
    | 0x34 => s.pairHigh (tiKey n 0x30) (.tile n) (BitVec.ofNat 32 (c.alarm / 2 ^ 32))
    | 0x38 => (BitVec.ofNat 32 (b2n c.armed * 2 ^ 31), s)
    | 0x70 => (BitVec.ofNat 32 (b2n (s.flag R.HIKER_MBOX_CTL_to_full n) * 2 ^ 31 + b2n (s.flag R.HIKER_MBOX_CTL_from_full n) * 2 ^ 30
        + b2n c.outRefused * 2 ^ 28), s)
    | 0x80 => (c.irqPend.setWidth 32, s)
    | 0x84 => (c.irqEn.setWidth 32, s)
    | _ => (0, s)

end State
end Sys2Proof.Machine
end

