-- ==== Sys2Proof/Machine/Store.lean ====
section
/-! DEFINITION. The parameter store's commands: checkpoints, failures and victims, refresh, image loads, the fault log and
register saves (21_parameter_store.md R620 to R634, 25_register_map.md R692). -/

namespace Sys2Proof.Machine
namespace State

/-- Canopy runs: core A in lockstep, core 0 in split mode. -/
def canopyUp (s : State) : Bool := s.coreRuns canopy0

/-! ### Checkpoints (R620 to R622) -/

/-- The uncertainty bound of a velocity in 1/256 µsteps/s (R606); none is a bound that overflows or is not assured.
Log: DEDUCED notes/assumptions/48.md. -/
def uncertainty (coast : Nat) (v : Int) : Nat :=
  if v = 0 then 0
  else if coast = 0 then 0xFFFFFFFF
  else
    let x : Rat := (v.natAbs : Rat) / 256
    min 0xFFFFFFFF (Int.toNat (-(floorRat (-(x * x / (2 * coast) + x / 1000000)))))

/-- FB_POSk of the lowest-numbered enabled port bound to the tile (R620). -/
def boundPort (s : State) (n : Fin 64) : Option (Fin 16) :=
  allFeeds.find? fun k => s.flag R.FB_CFG_enable k && s.flag R.FB_AXIS_bind k && decide (s.get R.FB_AXIS_tile k = n.val)

/-- The entry of a tile in a checkpoint (R606, R620). `old` is the previous checkpoint's payload.
Log: DEDUCED notes/assumptions/48.md. -/
def ckptEntry (s : State) (cause : Nat) (old : List Byte) (n : Fin 64) : List Byte :=
  let entry := cause = 2 ∨ cause = 3
  let latch := if entry then s.lookout.latched.find? fun d => decide (d.tile = n.val) else none
  if (entry ∨ s.st n = stAsleep) ∧ latch.isNone then
    let e := padTo 24 ((old.drop (24 * n.val)).take 24)
    e.set 0x0E (BitVec.ofNat 8 ((e.getD 0x0E 0).toNat % 16 + 16))
  else
    let l : DuskLatch := latch.getD { tile := n.val, posInt := s.get R.POS_HI_pos_int n, posFrac := s.get R.POS_LO_pos_frac n,
                                      state := s.st n, vel := s.getInt R.VEL_vel n }
    let homing := s.flag R.TILE_STATE_homing_required n
    bytesLE 4 l.posFrac ++ bytesLE 4 l.posInt ++ bytesLE 4 (uncertainty (s.get R.DUSK_COAST_coast n) l.vel)
      ++ bytesLE 2 (s.get R.USTEP_CTL_elec_off n)
      ++ bytesLE 1 (1 + 6 * b2n homing + 8 * b2n (decide (l.state = stMoving))) ++ bytesLE 1 l.state
      ++ bytesLE 4 (match s.boundPort n with
        | some k => s.get R.FB_POS_pos k
        | none => 0)
      ++ bytesLE 4 (s.mapField n 0x20 4)

/-- The payload of a checkpoint (R620). -/
def ckptPayload (s : State) (cause : Nat) : List Byte :=
  let old := ((s.psInForce 0x07 0).map s.psPayload).getD []
  let moving := if cause = 2 then s.lookout.duskMoving
    else (allTiles.filter fun n => decide (s.st n = stMoving)).length
  allTiles.flatMap (fun n => s.ckptEntry cause old n)
    ++ padTo 64 (bytesLE 8 s.now ++ bytesLE 1 (s.get R.TIME_EPOCH_epoch) ++ bytesLE 1 cause ++ bytesLE 1 moving)

/-- The payload of the journal index (R616). -/
def journalIndex (s : State) : List Byte :=
  (List.range 4).flatMap fun j =>
    bytesLE 8 (s.get64 R.JR_TAIL_LO_tail R.JR_TAIL_HI_tail j) ++ bytesLE 4 ((sparseFind j s.hamper.jrSeq).getD 0) ++ bytesLE 4 0

/-- Adapted profiles and the journal index follow a checkpoint as their own records (R209, R621). -/
def commitBeside (s : State) : State :=
  let s := s.forTiles allTiles fun n s =>
    if (s.force n).adapted ∧ (s.force n).committed + 3600 * 10 ^ 9 ≤ s.now then s.commitProfile n else s
  (s.psWrite 0x0B 0 s.journalIndex).1

/-- A generation whose block still belongs to the ring, from `g` on (R620, R627). -/
def ckptGen (s : State) (g : Nat) : Nat → Nat
  | 0 => g
  | k + 1 => if s.ps.victims.contains (1024 + g / 2 % 256) then s.ckptGen (g + 1) k else g

/-- Commit a checkpoint of every tile (R620 to R622): beneath the open header when one is there; before a record goes to
line 32 of a block the next block is cleared. -/
def commitCkpt (s : State) (cause : Nat) : State :=
  let done : State → Nat → State := fun s g =>
    let s := (s.set R.PS_CKPT_GEN_gen g).set64 R.PS_CKPT_TIME_LO_time R.PS_CKPT_TIME_HI_time s.now
    let s := { s with ps := { s.ps with want := none, lastCommit := s.now, moved := false, openGen := none } }
    (s.setFlag R.PS_STATUS_open_ false).raiseCanopy 4
  if s.psFailed then { s with ps := { s.ps with want := none } }
  else
    let g := s.ps.openGen.getD (s.ckptGen (s.psNextGen 0x07 0) 512)
    let pay := s.ckptPayload cause
    let blk := 1024 + g / 2 % 256
    let s := if s.ps.openGen.isNone ∧ g % 2 = 0 ∧ ¬ s.psCleared (ckptLine g) 64 then s.psClear blk else s
    let nxt := 1024 + (g / 2 + 1) % 256
    let s := if g % 2 = 1 ∧ ¬ s.psCleared (64 * nxt) 64 then s.psClear nxt else s
    let head := if s.ps.openGen.isSome then s.psBytes (64 * ckptLine g) 64
      else psHeader 0x07 false 0 g 1600 s.now (s.get R.TIME_EPOCH_epoch)
    let s := if s.ps.openGen.isSome then s else s.psProgram (ckptLine g) head
    let s := s.psProgram (ckptLine g + 1) (pay ++ psTail head pay g)
    let next := 1024 + (g + 1) / 2 % 256
    let s := s.set R.PS_WEAR_CKPT_ckpt_clears ((sparseFind (s.psPhys next) s.ps.clears).getD 0)
    done s g

/-- Enter the waiting event records in the fault log while Canopy runs and no Dusk is in progress (R633).
Log: DESIGN CHOICE notes/assumptions/12.md. -/
def drainLog (s : State) : State :=
  if ¬ s.canopyUp ∨ s.flag R.PWR_STATUS_dusk_active then s
  else
    let l := s.ps.log
    l.foldl (fun (s : State) (b : List Byte) => s.faultLog b) { s with ps := { s.ps with log := [] } }

/-- A waiting checkpoint request is served: at once for Dusk, otherwise from min_gap after the last commit (R621). -/
def checkpointDue (s : State) : State :=
  match s.ps.want with
  | none => s
  | some cause =>
    let gap := 10000000 * s.get R.PS_CKPT_CFG_min_gap
    if ¬ s.canopyUp ∨ (cause ≠ 2 ∧ s.get R.PS_CKPT_GEN_gen ≠ 0 ∧ s.now < s.ps.lastCommit + gap) then s
    else if cause = 2 then s.commitCkpt 2
    else (s.commitCkpt cause).commitBeside.drainLog

/-- The checkpoint timer (R621). -/
def ckptTimerOf (s : State) : State :=
  if s.flag R.PS_CKPT_CFG_timer_en ∧ s.ps.moved ∧
      s.ps.lastCommit + 60 * 10 ^ 9 * max 1 (s.get R.PS_CKPT_CFG_timer_min) ≤ s.now then s.wantCheckpoint 1
  else s

/-! ### Failures (R625 to R628) -/

/-- A logical block's region as PS_VOLATILE numbers it (R632); 6 is a map slot, 7 any other block. -/
def psRegionBit (b : Nat) : Nat :=
  if b < 128 then 4 else if b < 256 then 5 else if b < 512 then 1 else if b < 1024 then 6 else if b < 1280 then 0
  else if b < 1296 then 2 else if b < 1552 then 3 else 7

/-- The REMAP record of both copies (R616, R624). -/
def writeRemap (s : State) : State :=
  let pay := s.ps.remap.flatMap fun e => bytesLE 2 e.1 ++ bytesLE 2 e.2
  let gen := s.psNextGen 0x0C 0
  let s := (s.psClears 1680 4).psPutRecord (64 * 1680) 0x0C 0 gen false pay
  (s.psClears 1684 4).psPutRecord (64 * 1684) 0x0C 1 gen false pay

/-- What the replacement of a failed block holds of the block's older records: the spec leaves it open whether they were
copied. -/
def replaceContents (s : State) (b : Nat) : State :=
  let r := s.fresh
  if r.1 % 2 = 0 then r.2
  else
    let lo := paramStore + 4096 * b
    { r.2 with mem := r.2.mem.filter fun c => decide (c.1 < lo) || decide (lo + 4096 ≤ c.1) }

/-- A failed block is retired to physical block `p` (R625): the remap, the interrupted record again under a new
generation, its event and count. Log: DEDUCED notes/assumptions/48.md. -/
def retireBlock (s : State) (b p : Nat) : State :=
  let last := (s.psScan (64 * b) 0 64).getLast?
  let pay := last.map s.psPayload
  let s := ({ s with ps := { s.ps with remap := sparseInsert b p s.ps.remap } }.replaceContents b).writeRemap
  let s := match last, pay with
    | some h, some bytes =>
      if h.cls = 0x07 then s.commitCkpt ((fieldLE bytes 0x609 1))
      else if h.cls = 0x06 then (s.psWriteMap h.index bytes).1
      else if h.cls = 0x01 then
        (s.psClears (128 * (h.index % 2)) 128).psPutRecord (8192 * (h.index % 2)) 0x01 h.index (s.psNextGen 0x01 h.index) false bytes
      else (s.psWrite h.cls h.index bytes).1
    | _, _ => s
  let s := { (s.bump R.PS_STATUS_retired) with ps := { s.ps with retired := s.ps.retired + 1 } }
  s.event 0x91 0xFF (bytesLE 2 b ++ bytesLE 2 p ++ bytesLE 1 (s.get R.PS_STATUS_spares))

/-- The lowest spare of the pool that has not been taken. Log: DEDUCED notes/assumptions/48.md. -/
def freeSpare (s : State) : Option Nat := if s.ps.used < 128 then some (1552 + s.ps.used) else none

/-- Checkpoint blocks that hold the newest two valid records (R627). -/
def newestCkpts (s : State) : List Nat :=
  let heads := (s.psHeads 0x07 0).filter s.psValid
  let top := heads.foldl (fun (a : List PsHead) h => insertGen h a) []
  (top.take 2).map fun h => h.line / 64
where
  /-- Insert by falling generation. -/
  insertGen (h : PsHead) : List PsHead → List PsHead
    | [] => [h]
    | g :: l => if g.gen < h.gen then h :: g :: l else g :: insertGen h l

/-- The victims left, in the order of R627: fault-log blocks from the oldest, then checkpoint blocks from the oldest.
Log: DEDUCED notes/assumptions/48.md. -/
def victimsLeft (s : State) : List Nat :=
  let log := ((List.range 256).map fun i => s.psBlockFrom 2 (i + 1)).eraseDups.filter fun b =>
    !s.ps.victims.contains b && decide (b ≠ s.psAt 2 / 64)
  let next := s.get R.PS_CKPT_GEN_gen / 2 + 1
  let keep := s.newestCkpts
  let ck := ((List.range 256).map fun i => 1024 + (next + i) % 256).filter fun b =>
    !s.ps.victims.contains b && !keep.contains b
  log ++ ck

/-- First block and number of blocks of the region of a logical block, a map slot being a region of its own (R612, R632). -/
def psRegionBlocks (b : Nat) : Nat × Nat :=
  match psRegionBit b with
  | 0 => (1024, 256)
  | 1 => (256, 256)
  | 2 => (1280, 16)
  | 3 => (1296, 256)
  | 4 => (0, 128)
  | 5 => (128, 128)
  | 6 => (512 + (b - 512) / 8 * 8, 8)
  | _ => (0, 0)

/-- The records of a region pass into Canopy SRAM (R627). -/
def keepRegion (s : State) (b : Nat) : State :=
  let lo := paramStore + 4096 * (psRegionBlocks b).1
  let hi := lo + 4096 * (psRegionBlocks b).2
  (s.mem.filter fun c => decide (lo ≤ c.1) && decide (c.1 < hi)).foldl (fun (s : State) c => s.setByte (c.1 + 0x800000) c.2) s

/-- A region becomes volatile (R627); once every region is, no block can be written (R632). Log: DEDUCED notes/assumptions/48.md. -/
def makeVolatile (s : State) (b : Nat) : State :=
  let k := psRegionBit b
  let s : State := if s.psVolatileAt b then s else s.keepRegion b
  let s := if k = 6 then
      let n := (b - 512) / 8
      let s := { s with ps := { s.ps with mapLost := if s.ps.mapLost.testBit n then s.ps.mapLost else s.ps.mapLost + 2 ^ n } }
      s.set64 R.PS_MAP_LOST_LO_tiles R.PS_MAP_LOST_HI_tiles s.ps.mapLost
    else if k < 6 then
      let s := { s with ps := { s.ps with volatile_ := if s.ps.volatile_.testBit k then s.ps.volatile_ else s.ps.volatile_ + 2 ^ k } }
      s.set R.PS_VOLATILE_regions s.ps.volatile_
    else s
  let s : State := if s.ps.volatile_ = 63 ∧ s.ps.mapLost = 2 ^ 64 - 1 then s.set R.PS_STATUS_mode 2 else s
  s.event 0x92 0xFF (bytesLE 4 (s.get R.PS_VOLATILE_regions) ++ bytesLE 4 (s.get R.PS_MAP_LOST_LO_tiles)
    ++ bytesLE 4 (s.get R.PS_MAP_LOST_HI_tiles))

/-- A block failure in frugal mode (R627): a victim replaces it, one being kept for the keys region. -/
def frugalFailure (s : State) (b : Nat) : State :=
  match s.victimsLeft with
  | v :: rest =>
    if psRegionBit b = 2 ∨ rest ≠ [] then
      let p := s.psPhys v
      let s := (s.psClear v)
      { s with ps := { s.ps with victims := s.ps.victims ++ [v] } }.retireBlock b p
    else s.makeVolatile b
  | [] => s.makeVolatile b

/-- The pool is empty: frugal mode (R626). -/
def enterFrugal (s : State) : State :=
  let s := s.set R.PS_STATUS_mode 1
  let s := match s.ps.want with
    | some c => if c ≤ 1 then { s with ps := { s.ps with want := none } } else s
    | none => s
  s.event 0x90 0xFF (bytesLE 2 (s.get R.PS_STATUS_retired))

/-- A block fails (R625 to R627). During a Dusk commit nothing is relocated: the record stays open (R634). -/
def blockFailed (s : State) (b : Nat) : State :=
  if s.flag R.PWR_STATUS_dusk_active then
    let g := s.get R.PS_CKPT_GEN_gen
    ((s.psProgram (ckptLine g + 27) (List.replicate 64 0xFF)).setFlag R.PS_STATUS_open_ true)
  else
    match s.freeSpare with
    | some p =>
      { (s.set R.PS_STATUS_spares (127 - s.ps.used)) with ps := { s.ps with used := s.ps.used + 1 } }.retireBlock b p
    | none => (if s.get R.PS_STATUS_mode = 0 then s.enterFrugal else s).frugalFailure b

/-! ### Refresh (R629) -/

/-- Five years of 365.25 days, in ns. Log: DEDUCED notes/assumptions/48.md. -/
def fiveYears : Nat := 157788000 * 10 ^ 9

/-- Records in force of a log region whose stamp is old are copied forward with their generation. -/
def refreshRegion (s : State) (r : Fin 3) : State :=
  let (first, count) := psRegion r
  let old := (s.psScan (64 * first) 0 (64 * count)).filter fun h =>
    decide (h.time + fiveYears < s.now) && decide (s.psInForce h.cls h.index = some h)
  old.foldl (fun (s : State) h => ((s.psCompact r count).psPlace r h.cls h.index h.gen (s.psPayload h)).1) s

/-- Old records are copied forward, unless site time runs FREE (R629). -/
def refreshAll (s : State) : State :=
  if s.get R.TIME_STATUS_state = 0 ∨ ¬ s.canopyUp then s
  else
    let s := { s with ps := { s.ps with refreshed := s.now } }
    let s := (s.refreshRegion 0).refreshRegion 1
    s.forTiles allTiles fun n s =>
      match s.psInForce 0x06 n with
      | some h =>
        if h.time + fiveYears < s.now then
          let pay := s.psPayload h
          (s.psClears (512 + 8 * n) 8).psPutRecord (32768 + 512 * n) 0x06 n h.gen false pay
        else s
      | none => s

/-- Old records are copied forward every 24 h of Run (R629). -/
def refreshOf (s : State) : State := if s.now < s.ps.refreshed + 86400 * 10 ^ 9 ∨ ¬ s.deviceRuns then s else s.refreshAll

/-! ### Image loads (R631) -/

/-- PS_STATUS.busy: a load or a save is in progress; every other operation of the store ends in the step that it begins in (R632).
Log: DEDUCED notes/assumptions/48.md. -/
def showStoreBusy (s : State) : State := s.setFlag R.PS_STATUS_busy (s.flag R.PS_LOAD_CTL_busy || s.flag R.PARAM_SAVE_busy)

/-- A TUNNEL_READ of `len` bytes of host memory goes to the root at a route (R498, R507). -/
def tunnelAsk (s : State) (addr len : Nat) (load : Option Desc) (route depth : Nat) (store : Bool := false) : State :=
  let tag := s.usfen.readTag
  let r : TunnelRead := { tag := tag, load := load, store := store, len := len, got := [] }
  let s := { s with usfen := { s.usfen with reads := s.usfen.reads ++ [r], readTag := (tag + 1) % 65536 } }
  s.sendRouted 0xC1 route depth (bytesLE 8 addr ++ bytesLE 2 len ++ bytesLE 2 tag ++ [0, 0, 0, 0])

/-- A non-root device reads the image of a load through the tunnel, 4,096 bytes each at most (R507, R631).
Log: DEDUCED notes/assumptions/84.md. -/
def psTunnel (s : State) : State :=
  let addr := s.get64 R.PS_LOAD_LO_addr R.PS_LOAD_HI_addr
  let len := s.get R.PS_LOAD_LEN_length
  (List.range ((len + 4095) / 4096)).foldl (fun (s : State) (i : Nat) =>
    s.tunnelAsk (addr + 4096 * i) (min 4096 (len - 4096 * i)) none (rootRoute false) 1 true) s

/-- PS_LOAD_CTL is written with go (R631). Log: DEDUCED notes/assumptions/48.md. -/
def psLoadGo (s : State) (kind number : Nat) : State :=
  if s.flag R.PS_LOAD_CTL_busy then s.set R.PS_LOAD_CTL_result 1
  else
    let s := (s.set R.PS_LOAD_CTL_kind kind).set R.PS_LOAD_CTL_number number
    let s := (s.setFlag R.PS_LOAD_CTL_busy true).showStoreBusy
    if s.isRoot then s else s.psTunnel

/-- A slot's payload passes its check (R630): the image is accepted and its signature verifies.
Log: DESIGN CHOICE notes/assumptions/17.md; DEDUCED notes/assumptions/49.md. -/
def bootImageOk (b : List Byte) : Bool :=
  let img := b.take (b.length - 64)
  decide (64 ≤ b.length) && decide (imageCheck (some img) true 0 0x100000 0 = 0) &&
    Config.imageSignatureOk (img.take (fieldLE img 8 4)) (b.drop (b.length - 64))

/-- The XIP offset for which a tile image's first RESIDENT section is linked (R422, R449); no tile is named yet.
Log: DEDUCED notes/assumptions/49.md. -/
def impliedXip (img : List Byte) : Nat :=
  match (imageSections img).find? fun a => decide (a.typ = 3) with
  | some a => a.dest - 0x60000000 - a.off
  | none => 0

/-- The image of a load has been read, or not delivered (R631); answers its result and the store. -/
def psLoadResult (s : State) (img : Option (List Byte)) : Nat × State :=
  let boot := s.get R.PS_LOAD_CTL_kind = 0
  let number := s.get R.PS_LOAD_CTL_number
  let len := s.get R.PS_LOAD_LEN_length
  match img with
  | none => if boot ∧ number = s.get R.DAWN_STATUS_booted then (2, s) else (5, s)
  | some b =>
    let b := b.take len
    if boot then
      if number = s.get R.DAWN_STATUS_booted then (2, s)
      else if 524032 < len then (4, s)
      else if 1 < number ∨ ¬ bootImageOk b then (3, s)
      else if s.psFailed then (7, s)
      else
        let gen := s.psNextGen 0x01 number
        (0, (s.psClears (128 * number) 128).psPutRecord (8192 * number) 0x01 number gen false b)
    -- in recovery the boot ROM loads boot slots only (R661)
    else if s.get R.DAWN_STATUS_stage = 6 then (3, s)
    else if 65536 < len then (4, s)
    else if imageCheck (some b) false 0x18000 0x20000 (impliedXip b) ≠ 0 then (3, s)
    else if s.psFailed then (7, s)
    else
      let w := s.psWrite 0x05 number b
      (if w.2 then 0 else 6, w.1)

/-- A load ends: result and STORE_LOAD event (R631, R633). -/
def psLoadDone (s : State) (img : Option (List Byte)) : State :=
  if ¬ s.flag R.PS_LOAD_CTL_busy then s
  else
    let r := s.psLoadResult img
    let s := ((r.2.set R.PS_LOAD_CTL_result r.1).setFlag R.PS_LOAD_CTL_busy false).showStoreBusy
    (s.raiseCanopy 4).event 0x94 0xFF (bytesLE 1 r.1 ++ bytesLE 1 (s.get R.PS_LOAD_CTL_kind)
      ++ bytesLE 1 (s.get R.PS_LOAD_CTL_number) ++ [0] ++ bytesLE 4 (fieldLE (img.getD []) 0x1C 4))

/-! ### Fault log and saves (R632, R692) -/

/-- The addressed word of the fault log (R632). -/
def logWord (s : State) : Nat :=
  let e := s.get R.PS_LOG_ADDR_entry
  if s.get R.PS_LOG_COUNT_count ≤ e then 0
  else
    let i := (s.ps.logIndex + 65536 - 1 - e) % 65536
    match s.psInForce 0x0A i with
    | some h => fieldLE (s.psPayload h) (4 * s.get R.PS_LOG_ADDR_word) 4
    | none => 0

/-- A read of PS_LOG_DATA (R632). Log: DEDUCED notes/assumptions/48.md. -/
def readLog (s : State) : Nat × State :=
  let s := s.drainLog
  (s.logWord, s.set R.PS_LOG_ADDR_word ((s.get R.PS_LOG_ADDR_word + 1) % 16))

/-- A save that Dusk abandons: STORE_FAILED, nothing written (R693). -/
def saveAbandoned (s : State) : State :=
  (((s.setFlag R.PARAM_SAVE_busy false).set R.PARAM_SAVE_result 2).set R.PARAM_SAVE_records 0).showStoreBusy

/-- PARAM_SAVE.go (R692); during Dusk the save is abandoned (R693). -/
def paramSaveGo (s : State) : State :=
  if s.flag R.PARAM_SAVE_busy then s.set R.PARAM_SAVE_result 1
  else if s.flag R.PWR_STATUS_dusk_active then s.saveAbandoned
  else (s.setFlag R.PARAM_SAVE_busy true).showStoreBusy

/-- A record whose payload differs from the one in force is written; answers the results so far. -/
def saveOne (cls index : Nat) (payload : List Byte) (a : State × Nat × Nat) : State × Nat × Nat :=
  let (s, result, count) := a
  if ((s.psInForce cls index).map s.psPayload) = some payload then a
  else
    let w := s.psWrite cls index payload
    if w.2 then (w.1, result, count + 1) else (w.1, (if s.psFailed then 2 else 3), count)

/-- A PARAM_SAVE ends (R692). -/
def paramSaveDone (s : State) : State :=
  if ¬ s.flag R.PARAM_SAVE_busy then s
  else if ¬ s.canopyUp then (((s.setFlag R.PARAM_SAVE_busy false).set R.PARAM_SAVE_result 4).set R.PARAM_SAVE_records 0).showStoreBusy
  else
    let a := saveOne 0x02 0 (regPayload s.devicePairs) (s, 0, 0)
    let a := allTiles.foldl (fun (a : State × Nat × Nat) (n : Fin 64) => saveOne 0x03 n (regPayload (a.1.tilePairs n)) a) a
    (((a.1.setFlag R.PARAM_SAVE_busy false).set R.PARAM_SAVE_result a.2.1).set R.PARAM_SAVE_records a.2.2).showStoreBusy

end State

/-- CHECKPOINT_COMMIT (R621). -/
def execCheckpointCommit (s : State) : Res := .next s.checkpointDue

/-- CKPT_TIMER (R621). -/
def execCkptTimer (s : State) : Res := .next s.ckptTimerOf

/-- BLOCK_FAILURE (R625): the logical block that failed. -/
def execBlockFailure (b : Fin 1704) (s : State) : Res := .next (s.blockFailed b)

/-- RECORD_REFRESH (R629). -/
def execRecordRefresh (s : State) : Res := .next s.refreshOf

/-- PS_LOAD_GO (R631). -/
def execPsLoadGo (kind : Fin 2) (number : Byte) (s : State) : Res := .next (s.psLoadGo kind number.toNat)

/-- PS_LOG_DATA_READ (R632). -/
def execPsLogDataRead (s : State) : Res :=
  .next ({ s.readLog.2 with readData := s.readLog.1 })

/-- PARAM_SAVE (R692). -/
def execParamSave (s : State) : Res := .next s.paramSaveGo

end Sys2Proof.Machine
end

