-- ==== Sys2Proof/Machine/Canopy.lean ====
section
/-! DEFINITION. Canopy's scan, self-test, watchdogs, special registers, mailbox and power governor (18_canopy.md). -/

namespace Sys2Proof.Machine
namespace State

/-! ### The scan (R554) -/

/-- A breached test: cause, value tested, limit. -/
structure Breach where
  cause : Nat
  value : Int
  limit : Nat
  deriving DecidableEq, Repr

/-- The first breached test of a tile in the order of R554. -/
def scanTests (s : State) (n : Fin 64) : Option Breach :=
  let w0 := s.safety n 0
  let st := s.st n
  let f := s.safety n 1
  let e := s.safety n 2
  let v := s.safety n 3
  let lo := signed 32 (s.safety n 4)
  let hi := signed 32 (s.safety n 5)
  let vel := s.getInt R.VEL_vel n
  let rotor := s.getInt R.SD_SPEED_vrot n
  let pos := s.getInt R.POS_HI_pos_int n
  let hold := decide (st = stHolding) || decide (st = stMoving)
  let period := bits (s.safety 64 0) 15 0
  let idle := s.now - s.canopy.hostKick
  if (bit w0 30 || bit w0 29) ∧ s.get R.FB_FCAP_f_cap n ≠ f then some ⟨5, s.get R.FB_FCAP_f_cap n, f⟩
  else if (bit w0 30 || bit w0 29) ∧ s.get R.FB_ECAP_e_cap n ≠ e then some ⟨5, s.get R.FB_ECAP_e_cap n, e⟩
  else if st = stMoving ∧ bit w0 30 ∧ f ≠ 0 ∧ f < (s.getInt R.FB_FORCE_force n).natAbs then some ⟨1, s.getInt R.FB_FORCE_force n, f⟩
  else if st = stMoving ∧ bit w0 29 ∧ e ≠ 0 ∧ e < s.get R.FB_ENERGY_energy n then some ⟨2, s.get R.FB_ENERGY_energy n, e⟩
  else if hold ∧ bit w0 28 ∧ v < vel.natAbs then some ⟨3, vel, v⟩
  else if hold ∧ bit w0 28 ∧ 128 ≤ s.get R.SD_CONF_conf n ∧ v < rotor.natAbs then some ⟨3, rotor, v⟩
  else if hold ∧ bit w0 27 ∧ ¬ s.flag R.TILE_STATE_homing_required n ∧ pos < lo then some ⟨4, pos, s.safety n 4⟩
  else if hold ∧ bit w0 27 ∧ ¬ s.flag R.TILE_STATE_homing_required n ∧ hi < pos then some ⟨4, pos, s.safety n 5⟩
  else if bit w0 26 ∧ period ≠ 0 ∧ 1000000 * period < idle then some ⟨6, idle / 1000000, period⟩
  else none

/-- A breach of this cause raises the veto now (R554): `k` counts the breaching scans, `from_` is the time of the first. -/
def vetoDue (s : State) (n : Fin 64) (cause k from_ : Nat) : Bool :=
  let w0 := s.safety n 0
  let enough := decide (max 1 (bits w0 25 22) ≤ k)
  let grace := bits w0 21 12
  match cause with
  | 5 => true
  | 6 => true
  | 3 => enough
  | 4 => enough
  | _ => enough && (!s.flag R.FB_STATUS_policy_busy n || decide (grace = 0) || decide (from_ + 1000000 * grace ≤ s.now))

/-- One tile's scan (R554): a veto that stands already is not raised again. Log: DEDUCED notes/assumptions/50.md. -/
def scanTile (s : State) (n : Fin 64) : State :=
  if s.st n = stAsleep ∨ ¬ bit (s.safety n 0) 31 then s
  else
    let w7 := s.safety n 7
    match s.scanTests n with
    | none =>
      let s := s.putSafety n 7 (w7 - bits w7 23 16 * 2 ^ 16)
      { s with canopy := { s.canopy with breachAt := s.canopy.breachAt.set n none, latest := s.canopy.latest.set n 0 } }
    | some b =>
      let k := min 255 (bits w7 23 16 + 1)
      let from_ := (s.canopy.breachAt[n]).getD s.now
      let s := s.putSafety n 7 (w7 - bits w7 23 16 * 2 ^ 16 + k * 2 ^ 16)
      let s : State := { s with canopy := { s.canopy with breachAt := s.canopy.breachAt.set n (some from_),
                                                          latest := s.canopy.latest.set n b.cause } }
      if s.vetoDue n b.cause k from_ ∧ ¬ s.vetoed n then s.raiseVeto n b.cause b.value b.limit else s

/-- The Canopy core that `one` names, in split mode, or the pair. -/
def canopyCore (s : State) (one : Bool) : Fin 66 := if s.split && one then canopy1 else canopy0

/-- A multiple of `d` of site time has come since the stamp (R542). Log: DEDUCED notes/assumptions/52.md. -/
def gridDue (s : State) (last : Option Nat) (d : Nat) : Bool :=
  match last with
  | some t => decide (t / d < s.now / d)
  | none => true

/-- Index of a Canopy core among what each core has. -/
def canopyIndex (s : State) (one : Bool) : Fin 2 := if s.split && one then 1 else 0

/-- The scan tick of a Canopy core every 50 µs of site time (R542, R554): a core that runs scans its tiles and kicks its watchdog.
Log: DEDUCED notes/assumptions/50.md, notes/assumptions/52.md. -/
def scanTick (s : State) (one : Bool) : State :=
  if ¬ s.gridDue s.canopy.scanAt[s.canopyIndex one] 50000 then s else
  let s := { s with canopy := { s.canopy with scanAt := s.canopy.scanAt.set (s.canopyIndex one) (some s.now) } }
  let s := s.pendLine (s.canopyCore one) 2
  if ¬ s.coreRuns (s.canopyCore one) then s
  else
    let s := s.forTiles allTiles fun n s => if s.split ∧ s.ownedByOne n ≠ one then s else s.scanTile n
    s.writeScanKick one

/-- 200 µs without a SCAN_KICK (R548): not while the pair is halted in bench mode (R565), nor after it has stopped. -/
def scanWatchdogOf (s : State) (one : Bool) : State :=
  let c := s.core (s.canopyCore one)
  let k := s.canopyIndex one
  if c.stopped ∨ c.wasState = 0 ∨ (s.fbit R.DBG_CANOPY_halted k ∧ s.bench) ∨ s.now < s.canopy.kickAt[k] + 200000 then s
  else s.canopyFail 3 0 one

/-! ### Lockstep (R545 to R547) -/

/-- A difference on a lane of the comparator, which runs in lockstep only (R545, R549, R551).
Log: DESIGN CHOICE notes/assumptions/47.md. -/
def mismatch (s : State) (lane : Nat) : State :=
  if s.get R.CANOPY_STATUS_mode ≠ 0 ∨ (s.core canopy0).stopped then s else s.canopyFail 1 lane false

/-- A self-test of the comparator (R547): `ok` tells that every shadow lane reported its difference. It runs every 100 ms ± 1 ms.
Log: DEDUCED notes/assumptions/52.md. -/
def selftest (s : State) (ok : Bool) : State :=
  if s.get R.CANOPY_STATUS_mode ≠ 0 ∨ (s.core canopy0).stopped ∨ s.recent s.canopy.testAt 99000000 then s
  else
    let s := { s with canopy := { s.canopy with testAt := some s.now } }
    let w := s.get R.CANOPY_SELFTEST_word
    let passed := if ok then (w / 256 + 1) % 2 ^ 24 else w / 256
    let s := (s.set R.CANOPY_SELFTEST_word (passed * 256 + (w % 256 + 1) % 256)).raiseCanopy 7
    if ok then s else s.canopyFail 2 6 false

/-- An ECC error of a Canopy cache line (R546): `b` names core B or core 1. -/
def canopyEcc (s : State) (b correctable dirty : Bool) (addr : Nat) : State :=
  let drop : Core → Core := fun c => { c with fetchBuf := c.fetchBuf.filter fun l => decide (l.addr ≠ addr / 32 * 32),
                                              dcache := c.dcache.filter fun l => decide (l.addr ≠ addr / 32 * 32) }
  if correctable then (if b then s.bump R.CANOPY_ECC_corr_b else s.bump R.CANOPY_ECC_corr_a)
  else if dirty then s.canopyFail 5 7 b
  else if s.split then s.modCore (s.canopyCore b) drop
  else (s.modCore canopy0 drop).modCore canopy1 drop

/-! ### The governor (R560 to R563) -/

/-- The capacity k (R561). -/
def govCapacity (s : State) : Nat :=
  let full := s.get R.GOV_COST_full_mw
  let red := s.get R.GOV_COST_red_mw
  if full ≤ red then 64 else min 64 (s.get R.GOV_CAP_budget_mw / (full - red))

/-- A tile holds a grant or a loan. -/
def govHolds (s : State) (n : Fin 64) : Bool := s.flag R.SD_STATUS_grant n || s.flag R.SD_STATUS_borrowing n

/-- A loan candidate (R563). -/
def loanCandidate (s : State) (n : Fin 64) : Bool :=
  decide (s.govPrio n = 0) && s.walking n && s.flag R.WALK_CTL_lend_ok n

/-- The key of a tile; a loan and a loan candidate have key 1 (R561, R563). -/
def govKey (s : State) (n : Fin 64) : Nat :=
  if s.flag R.SD_STATUS_borrowing n ∨ s.loanCandidate n then 1
  else 2 * s.govPrio n + b2n (decide (s.st n = stMoving) || s.walking n)

/-- The tiles that hold grants and loans. -/
def govHolders (s : State) : List (Fin 64) := allTiles.filter s.govHolds

/-- The holder of the least key, the highest tile number among equals. -/
def govLeast (s : State) : Option (Fin 64) :=
  s.govHolders.foldl (fun (b : Option (Fin 64)) (n : Fin 64) =>
    match b with
    | none => some n
    | some m => if s.govKey n ≤ s.govKey m then some n else some m) none

/-- The tile of a list with the greatest key, the lowest number among equals. -/
def govGreatest (s : State) (l : List (Fin 64)) : Option (Fin 64) :=
  l.foldl (fun (b : Option (Fin 64)) (n : Fin 64) =>
    match b with
    | none => some n
    | some m => if s.govKey m < s.govKey n then some n else some m) none

/-- A grant or a loan is revoked (R562, R563). -/
def govRevoke (s : State) (n : Fin 64) : State := (s.setGrant n false).dropLoan n

/-- The lender of a loan to tile `n`: tile n − 1, or failing that n + 1 (R563). -/
def lenderOf (s : State) (n : Fin 64) : Option (Fin 64) :=
  let below := if 0 < n.val then some (tileOf (n.val - 1)) else none
  let above := if n.val < 63 then some (tileOf (n.val + 1)) else none
  (below.filter fun m => s.mayLend m n).or (above.filter fun m => s.mayLend m n)

/-- Step 1: while more than k tiles hold grants the least is revoked. -/
def govTrim (s : State) (k : Nat) : Nat → State
  | 0 => s
  | f + 1 =>
    if s.govHolders.length ≤ k then s
    else match s.govLeast with
      | some n => (s.govRevoke n).govTrim k f
      | none => s

/-- Step 2: while fewer than k tiles hold grants the greatest requester is granted, or a loan candidate served when a
lender is found. -/
def govFill (s : State) (k : Nat) : Nat → State
  | 0 => s
  | f + 1 =>
    if k ≤ s.govHolders.length then s
    else
      let l := allTiles.filter fun n => !s.govHolds n && (s.govRequests n || (s.loanCandidate n && (s.lenderOf n).isSome))
      match s.govGreatest l with
      | none => s
      | some n =>
        if s.loanCandidate n then
          match s.lenderOf n with
          | some m => (s.makeLoan m n).govFill k f
          | none => s
        else (s.setGrant n true).govFill k f

/-- Step 3: a requester of a greater key than the least holder's takes its grant. -/
def govMove (s : State) : Nat → State
  | 0 => s
  | f + 1 =>
    match s.govGreatest (allTiles.filter fun n => !s.govHolds n && s.govRequests n), s.govLeast with
    | some n, some m => if s.govKey m < s.govKey n then ((s.govRevoke m).setGrant n true).govMove f else s
    | _, _ => s

/-- A governor round every 100 µs of site time (R542, R562): core A, or core 0 in split mode (R550). -/
def governorRoundOf (s : State) : State :=
  if ¬ s.gridDue s.canopy.roundAt 100000 then s else
  let s := { s with canopy := { s.canopy with roundAt := some s.now } }.raiseCanopy 3
  if ¬ s.canopyUp then s
  else
    let s := s.forTiles allTiles fun n s => s.govTile n
    let k := s.govCapacity
    let s := ((s.govTrim k 64).govFill k 64).govMove 64
    if allTiles.any fun n => s.govRequests n && !s.flag R.SD_STATUS_grant n then s.bump R.GOV_STATUS_denied else s

/-! ### The mailbox (R558) -/

/-- Canopy answers the waiting request: code, status, reply words 1 to 3. Log: DEDUCED notes/assumptions/51.md. -/
def cmbReply (s : State) (code status w1 w2 w3 : Nat) : State :=
  let s := (s.set R.CMB_FROM_word (code + 256 * status) 0).set R.CMB_FROM_word w1 1
  let s := (s.set R.CMB_FROM_word w2 2).set R.CMB_FROM_word w3 3
  (s.setFlag R.CMB_CTL_from_full true).setFlag R.CMB_CTL_to_full false

/-- The code of the request that waits, while Canopy runs and its last answer has been taken. -/
def cmbWaiting (s : State) : Option Nat :=
  if s.flag R.CMB_CTL_to_full ∧ ¬ s.flag R.CMB_CTL_from_full ∧ s.canopyUp then
    some (((s.core canopy0).inBox[0]).toNat % 256)
  else none

/-- Canopy takes a waiting request of `code` and answers by `f`; a code that R558 does not list is answered UNKNOWN.
Log: DEDUCED notes/assumptions/51.md. -/
def cmbServe (s : State) (code : Nat) (f : State → State) : State :=
  match s.cmbWaiting with
  | none => s
  | some c => if c = code then f s else if c = 0 ∨ 3 < c then s.cmbReply c 1 0 0 0 else s

/-- STATUS. -/
def cmbStatusOf (s : State) : State :=
  s.cmbServe 1 fun s => s.cmbReply 1 0 (s.rd R.CANOPY_STATUS.off).toNat (s.rd R.GOV_STATUS.off).toNat (s.get R.VETO_LO_tiles)

/-- CHECKPOINT: one of every tile is committed now, cause mailbox (R620); BUSY while Dusk commits its own. -/
def cmbCheckpointOf (s : State) : State :=
  s.cmbServe 2 fun s =>
    if s.flag R.PWR_STATUS_dusk_active then s.cmbReply 2 2 0 0 0
    else
      let s := (s.commitCkpt 4).commitBeside
      s.cmbReply 2 0 (s.get R.PS_CKPT_GEN_gen) 0 0

/-- The safety table's 520 words as bytes (R553). -/
def safetyBytes (s : State) : List Byte :=
  (List.range 520).flatMap fun i => bytesLE 4 ((sparseFind i s.canopy.safety).getD 0).toNat

/-- VERSION. -/
def cmbVersionOf (s : State) : State :=
  s.cmbServe 3 fun s => s.cmbReply 3 0 (s.get R.CANOPY_FW_build) (s.get R.CANOPY_FW_ID_image_id) (crc32c s.safetyBytes)

end State

/-- CANOPY_SCAN (R554): of core 1 in split mode when `one` holds. -/
def execCanopyScan (one : Bool) (s : State) : Res := .next (s.scanTick one)

/-- GOVERNOR_ROUND (R562). -/
def execGovernorRound (s : State) : Res := .next s.governorRoundOf

/-- LOCKSTEP_MISMATCH (R545): a difference on lane 1 to 5. -/
def execLockstepMismatch (lane : Fin 5) (s : State) : Res := .next (s.mismatch (lane.val + 1))

/-- COMPARATOR_SELFTEST (R547). -/
def execComparatorSelftest (ok : Bool) (s : State) : Res := .next (s.selftest ok)

/-- SCAN_WATCHDOG (R548). -/
def execScanWatchdog (one : Bool) (s : State) : Res := .next (s.scanWatchdogOf one)

/-- CANOPY_ECC_ERROR (R546). -/
def execCanopyEccError (b correctable dirty : Bool) (addr : Word) (s : State) : Res :=
  .next (s.canopyEcc b correctable dirty addr.toNat)

/-- VETO_RAISE (R541): a steward write by core 1 when `one` holds, of the _HI register when `hi` does. -/
def execVetoRaise (one hi : Bool) (v : Word) (s : State) : Res := .next (s.writeVetoRaise one hi v)

/-- VETO_DROP (R541). -/
def execVetoDrop (one hi : Bool) (v : Word) (s : State) : Res := .next (s.writeVetoDrop one hi v)

/-- SCAN_KICK (R548). -/
def execScanKick (one : Bool) (s : State) : Res := .next (s.writeScanKick one)

/-- LOCKS_SET (R541). -/
def execLocksSet (one : Bool) (v : Word) (s : State) : Res := .next (s.writeLocks one v)

/-- HOST_KICK (R554, R557). -/
def execHostKick (s : State) : Res := .next { s with canopy := { s.canopy with hostKick := s.now } }

/-- CMB_STATUS (R558). -/
def execCmbStatus (s : State) : Res := .next s.cmbStatusOf

/-- CMB_CHECKPOINT (R558). -/
def execCmbCheckpoint (s : State) : Res := .next s.cmbCheckpointOf

/-- CMB_VERSION (R558). -/
def execCmbVersion (s : State) : Res := .next s.cmbVersionOf

end Sys2Proof.Machine
end

