-- ==== Sys2Proof/Machine/Current.lean ====
section
/-! DEFINITION. The commands of the shape table, the electrical index and the current levels
(04_microsteps_and_chopper.md R111 to R129). -/

namespace Sys2Proof.Machine
namespace State

/-- The rules of R119 on the inactive bank. -/
def shapeOk (s : State) (n : Fin 64) : Bool :=
  let b := 1 - s.get R.USTEP_STATUS_active_bank n
  decide (s.shapeEntry n b 0 = 0) && decide (2048 ≤ s.shapeEntry n b 256) &&
    (List.range 256).all fun i => decide (s.shapeEntry n b i ≤ s.shapeEntry n b (i + 1)) &&
      decide (s.shapeEntry n b (i + 1) ≤ s.shapeEntry n b i + 512)

/-- A swap request (R119, R120): ignored while one is pending. -/
def swapRequest (s : State) (n : Fin 64) : State :=
  if s.flag R.USTEP_STATUS_swap_pending n then s
  else if s.shapeOk n then s.setFlag R.USTEP_STATUS_swap_pending true n
  else s.setFlag R.USTEP_STATUS_shape_error true n

/-- A pending swap takes effect: at once, but while the tile is Moving on the clock at which e enters a multiple of 256 (R120). -/
def swapDue (s : State) (n : Fin 64) : State :=
  if s.flag R.USTEP_STATUS_swap_pending n ∧ s.st n ≠ stMoving then (s.flipBank n).refreshPhase n else s.refreshPhase n

/-- A write of USTEP_CTL (R112, R113, R158). -/
def writeUstepCtl (s : State) (n : Fin 64) (v : Word) : State :=
  let inv := bits v.toNat 30 30
  let off := bits v.toNat 9 0
  let changes := inv ≠ s.get R.USTEP_CTL_dir_inv n ∨ off ≠ s.get R.USTEP_CTL_elec_off n
  let s :=
    if ¬ changes then s
    else if s.st n = stMoving then s.setFlag R.USTEP_STATUS_cfg_refused true n
    else (((s.set R.USTEP_CTL_dir_inv inv n).set R.USTEP_CTL_elec_off off n).refreshPhase n).sundialClear n
  if bit v.toNat 31 then s.swapRequest n else s

/-- An access of USTEP_TBL_DATA (R118): the entry that a read returns, and the state after it. -/
def tblAccess (s : State) (n : Fin 64) (w : Option Word) : Nat × State :=
  let i := s.get R.USTEP_TBL_ADDR_index n
  let sel := s.flag R.USTEP_TBL_ADDR_active_sel n
  let act := s.get R.USTEP_STATUS_active_bank n
  let b := if sel then act else 1 - act
  let val := if i ≤ 256 then s.shapeEntry n b i else 0
  let s := s.set R.USTEP_TBL_ADDR_index ((i + 1) % 512) n
  match w with
  | none => (val, s)
  | some v =>
    if 256 < i ∨ sel then (0, s)
    else if s.flag R.USTEP_STATUS_swap_pending n then (0, s.setFlag R.USTEP_STATUS_cfg_refused true n)
    else (0, s.setShape n b i (bits v.toNat 11 0))

/-- A write of CUR_SCALE (R122, R123). -/
def writeScale (s : State) (n : Fin 64) (v : Word) : State :=
  if s.st n = stHolding ∨ s.st n = stMoving then s.setFlag R.USTEP_STATUS_cfg_refused true n
  else
    let sense := bits v.toNat 31 16
    let fs := bits v.toNat 15 0
    let s := (s.set R.CUR_SCALE_sense_ma sense n).set R.CUR_SCALE_fs_ma fs n
    let s := s.setFlag R.CUR_STATUS_scale_invalid (!(decide (50 ≤ fs) && decide (fs ≤ sense))) n
    (s.refreshPhase n).energiseIfDue n

/-- The plan tick in force is the start of a ramp unit that has not stepped yet (R126). -/
def rampDue (s : State) (n : Fin 64) : Bool :=
  decide ((s.tile n).cur.rampedOn ≠ some s.tickStart) &&
    (!s.flag R.CUR_TIMING_ramp_unit n || decide (s.tickStart % 1000000 = 0))

/-- One ramp unit (R126, R128). -/
def rampStep (s : State) (n : Fin 64) : State :=
  if ¬ s.energised n ∨ ¬ s.rampDue n then s
  else
    let t := (s.targetLevel n).2
    let k := s.get R.CUR_TIMING_ramp_step n
    let step (c : Nat) : Nat := if k = 0 then t else if c < t then min t (c + k) else max t (c - k)
    (s.modCur n fun c => { c with ramped := step c.ramped, rampedOn := some s.tickStart }).showLevel n

/-- stand_delay has elapsed since Holding was entered from Moving (R127). -/
def standExpiry (s : State) (n : Fin 64) : State :=
  if s.st n = stHolding ∧ (s.tile n).cur.enteredAt + 10000000 * s.get R.CUR_TIMING_stand_delay n ≤ s.now then (s.modCur n fun c => { c with stood := true }).showLevel n else s

/-- park_delay has elapsed since c reached hold or the cap (R127). -/
def parkExpiry (s : State) (n : Fin 64) : State :=
  let d := s.get R.CUR_TIMING_park_delay n
  let run := (s.tile n).cur.heldAt.any fun t => decide (t + 1000000000 * d ≤ s.now)
  if s.atHold n ∧ d ≠ 0 ∧ run then
    (s.modCur n fun c => { c with parked := true }).showLevel n
  else s

end State

/-- SHAPE_SWAP_REQUEST (R119). -/
def execShapeSwapRequest (n : Fin 64) (s : State) : Res := .next (s.swapRequest n)

/-- SHAPE_SWAP (R120). -/
def execShapeSwap (n : Fin 64) (s : State) : Res := .next (s.swapDue n)

/-- USTEP_CTL_WRITE (R113). -/
def execUstepCtlWrite (n : Fin 64) (v : Word) (s : State) : Res := .next (s.writeUstepCtl n v)

/-- USTEP_TBL_DATA_ACCESS (R118): a write of `w`, or a read. -/
def execUstepTblDataAccess (n : Fin 64) (w : Option Word) (s : State) : Res :=
  let r := s.tblAccess n w
  .next (if w.isNone then { r.2 with readData := r.1 } else r.2)

/-- CUR_SCALE_WRITE (R123). -/
def execCurScaleWrite (n : Fin 64) (v : Word) (s : State) : Res := .next (s.writeScale n v)

/-- CURRENT_RAMP_STEP (R128). -/
def execCurrentRampStep (n : Fin 64) (s : State) : Res := .next (s.rampStep n)

/-- STAND_DELAY_EXPIRY (R127). -/
def execStandDelayExpiry (n : Fin 64) (s : State) : Res := .next (s.standExpiry n)

/-- PARK_DELAY_EXPIRY (R127). -/
def execParkDelayExpiry (n : Fin 64) (s : State) : Res := .next (s.parkExpiry n)

end Sys2Proof.Machine
end

