-- ==== Sys2Proof/Machine/Chopper.lean ====
section
/-! DEFINITION. The hysteresis chopper, adaptive offset, duty regulator and regulation loss
(04_microsteps_and_chopper.md R130 to R148) and the leg timer's period start (08_bridge_legs_and_trips.md R254 to
R257). -/

namespace Sys2Proof.Machine

/-- The least-squares line of samples in their times, evaluated at `t` (R138); the mean when all times agree. -/
def lineAt (l : List Sample) (t : Nat) : Rat :=
  let k : Rat := l.length
  let tm : Rat := ((l.map fun p => (p.time : Rat)).sum) / k
  let xm : Rat := ((l.map fun p => (p.code : Rat)).sum) / k
  let sxx : Rat := (l.map fun p => ((p.time : Rat) - tm) * ((p.time : Rat) - tm)).sum
  let sxy : Rat := (l.map fun p => ((p.time : Rat) - tm) * ((p.code : Rat) - xm)).sum
  if sxx = 0 then xm else xm + sxy / sxx * ((t : Rat) - tm)

namespace State

/-- The last 16 unblanked samples (R138). -/
def peakSamples (l : List Sample) : List Sample :=
  let u := l.filter fun p => decide (p.tag ≠ 3)
  u.drop (u.length - 16)

/-- The measured peak of an ON state that ends at `edge`, sixths of a ns (R138). One sample gives no line: the value is
free. -/
def measurePeak (s : State) (n : Fin 64) (x : Fin 2) (l : List Sample) (edge : Nat) : Int × State :=
  let u := peakSamples l
  let d := (s.chop n x).dir
  if u.length = 1 then
    let r := s.fresh
    (signed 16 r.1, r.2)
  else (roundRat ((d : Rat) * lineAt u edge), s)

/-- o_fix of phase `x` set. -/
def setOffset (s : State) (n : Fin 64) (x : Fin 2) (v : Int) : State :=
  if x = 0 then s.setInt R.CHOP_OFFSET_off_a v n else s.setInt R.CHOP_OFFSET_off_b v n

/-- CHOP_OFFSET was written since the present hysteresis cycle began (R140). Log: DEDUCED notes/assumptions/97.md. -/
def writtenInCycle (c : Chop) : Bool := c.offWritten.any fun t => c.cycleAt.all fun a => decide (a ≤ t)

/-- The adaptive offset after a usable ON state (R139), unless CHOP_OFFSET was written in this cycle (R140) or the
cycle lost a slice (R154, R296). -/
def adapt (s : State) (n : Fin 64) (x : Fin 2) (peak : Int) : State :=
  if ¬ s.flag R.CHOP_ADAPT_enable n ∨ writtenInCycle (s.chop n x) ∨ (s.chop n x).spoiled then s
  else
    let m : Int := (s.toSense n (s.sp n x)).natAbs
    let o := s.offset16 n x + (m + s.halfBand n - peak)
    let lim : Int := s.get R.CHOP_ADAPT_clamp n
    let o' := clampInt (-lim) lim o
    let s := s.setOffset n x o'
    let s := if o' ≠ o then
        (if x = 0 then s.setFlag R.CHOP_STATUS_clamp_a true n else s.setFlag R.CHOP_STATUS_clamp_b true n) else s
    s.putThresholds n x

/-- An ON state ends: its peak, and its adaptive offset when it is usable (R138, R139). Without an unblanked sample there is no
line, and CHOP_PEAK keeps the last measured peak. Log: DESIGN CHOICE notes/assumptions/96.md. -/
def endOn (s : State) (n : Fin 64) (x : Fin 2) (byAbove : Bool) (l : List Sample) (edge : Nat) : State :=
  let u := l.filter fun p => decide (p.tag ≠ 3)
  if u.isEmpty then s
  else
    let r := s.measurePeak n x l edge
    let s := r.2.setPeak n x r.1
    if byAbove ∧ 4 ≤ u.length then s.adapt n x r.1 else s

/-- Windows of a phase: its chopper and its trip window. -/
def phaseWindows (x : Fin 2) : List Nat := if x = 0 then [0, 2] else [1, 3]

/-- A phase enters a bridge state (R134, R146, R334). -/
def enterBridge (s : State) (n : Fin 64) (x : Fin 2) (new : Nat) : State :=
  let old := s.bstate n x
  let c := s.chop n x
  let dt := s.now - c.since
  let tOn := if old = 1 then c.tOn + dt else c.tOn
  let tFast := if old = 2 then c.tFast + dt else c.tFast
  let c := { c with since := s.now, fromOn := decide (old = 1), tOn := tOn, tFast := tFast }
  let c := if old = 1 then { c with partAt := s.now, seen := false } else c
  let starts := decide (new = 1)
  let c := if starts then
      { c with dir := (s.sp n x).sign, cycleAt := some s.now, tOn := 0, tFast := 0, spoiled := false,
               lastCycle := c.cycleAt.map fun t => (tOn, tFast, s.now - t)
               lastLen := (c.cycleAt.map fun t => s.now - t).or c.lastLen
               partAt := s.now, seen := false, cycleBad := false, unregAt := if c.cycleBad then c.unregAt else none } else c
  let s := (s.modChop n x fun _ => c).setBstate n x new
  let s := if starts then ((s.winClearRoute n 1 (phaseWindows x)).cycleRate n x).showDecim n else s
  (s.putThresholds n x).updateGates n

/-- A de-energising phase whose ramped code is 0 is below lo in decay (R128); a phase in duty mode is never ON.
Log: DEDUCED notes/assumptions/97.md. -/
def noteLow (s : State) (n : Fin 64) (x : Fin 2) (below : Bool) : State :=
  let cu := (s.tile n).cur
  if below ∧ s.bstate n x ≠ 1 ∧ cu.deenergising ∧ cu.ramped = 0 then
    s.modCur n fun c => if x = 0 then { c with belowLoA := true } else { c with belowLoB := true }
  else s

/-- The output of phase `x`'s chopper window is below lo and not blanked (R135). -/
def belowNow (s : State) (n : Fin 64) (x : Fin 2) : Bool := (s.chop n x).below && !s.blankedAt n x (6 * s.now)

/-- The output of phase `x`'s chopper window is above hi and not blanked (R135). -/
def aboveNow (s : State) (n : Fin 64) (x : Fin 2) : Bool := (s.chop n x).above && !s.blankedAt n x (6 * s.now)

/-- The bridge state that the table of R135 names for one phase in hysteresis mode on the present times and window outputs, none where no
row applies; during a precharge of a leg of the phase it stays in SLOW (R254). -/
def chopNext (s : State) (n : Fin 64) (x : Fin 2) : Option Nat :=
  let c := s.chop n x
  let above := s.aboveNow n x
  let below := s.belowNow n x
  let dt := s.now - c.since
  let sp := s.sp n x
  let decay := s.get R.CHOP_CTL_decay n
  let minOn := 5 * max (s.get R.CHOP_TIME_min_on n) (s.get R.CHOP_TIME_blank n)
  let slow := 2000 * s.get R.CHOP_LIMIT_slow_limit n
  let st := s.bstate n x
  if (s.legs n).pre / 4 ^ x.val % 4 ≠ 0 ∨ (s.legs n).live / 4 ^ x.val % 4 ≠ 3 then none
  else if st = 1 then
    if minOn ≤ dt ∧ (sp = 0 ∨ sp.sign ≠ c.dir) then some 2
    else if minOn ≤ dt ∧ above then some (if decay = 0 then 0 else 2)
    else none
  else if st = 2 ∧ c.fromOn ∧ decay = 2 ∧ 5 * s.get R.CHOP_CTL_mixed_fast n ≤ dt ∧ ¬ below then some 0
  else if 5 * s.get R.CHOP_TIME_min_off n ≤ dt ∧ below ∧ sp ≠ 0 then some 1
  else if st = 0 ∧ slow ≠ 0 ∧ slow ≤ dt ∧ ¬ below then some 2
  else if st = 2 ∧ sp = 0 ∧ below then some 0
  else none

/-- The table of R135 for one phase in hysteresis mode. -/
def stepChop (s : State) (n : Fin 64) (x : Fin 2) (l : List Sample) (edge : Nat) : State :=
  if ¬ s.energised n ∨ (s.legs n).live = 0 then s
  else
    let s := s.noteLow n x (s.belowNow n x)
    if s.inDuty n x then s
    else
      let s := s.noteLong n x
      let out := if s.bstate n x = 1 then s.aboveNow n x else s.belowNow n x
      let s := if out then s.modChop n x fun c => { c with seen := true } else s
      match s.chopNext n x with
      | none => s
      | some new =>
        let c := s.chop n x
        (if s.bstate n x = 1 then s.endOn n x (decide (s.sp n x ≠ 0 ∧ (s.sp n x).sign = c.dir)) l edge else s).enterBridge n x new

/-- The comparators of a chopper window see its input at `level` (R131, R135): raw bits and latch, and the chopper, which a window in
test does not reach (R338); within 40 ns of a change of its threshold codes the window holds its results (R329). -/
def chopOutput (s : State) (n : Fin 64) (x : Fin 2) (level : Int) (l : List Sample) (edge : Nat) : State :=
  (s.winResult n (if x = 0 then 0 else 1) level).stepChop n x l edge

/-- A refresh pulse may start on leg `k`: refresh is enabled, the high side has been on for max_on, and no chopper transition is due
(R137, R258). -/
def refreshDue (s : State) (n : Fin 64) (k : Fin 4) : Bool :=
  let x := legPhase k
  s.get R.CHOP_LIMIT_refresh n ≠ 0 && s.fbit R.LEG_STATUS_gates (2 * k.val + 1) n && !(s.legs n).refresh.testBit k &&
    decide ((s.legs n).onAt.toList.getD (2 * k.val + 1) 0 + 1000 * max 1 (s.get R.CHOP_LIMIT_max_on n) ≤ s.now) &&
    (!s.energised n || s.inDuty n x || (s.chopNext n x).isNone)

/-- A high side has been on for max_on: its leg's refresh pulse begins (R137, R258). -/
def refreshPulse (s : State) (n : Fin 64) (k : Fin 4) : State :=
  if ¬ s.refreshDue n k then s
  else
    let s := if legPhase k = 0 then s.setFlag R.CHOP_STATUS_refresh_a true n else s.setFlag R.CHOP_STATUS_refresh_b true n
    (s.modLegs n fun l => { l with refresh := l.refresh + 2 ^ k.val }).updateGates n

/-- A write of CHOP_OFFSET (R140). -/
def writeOffset (s : State) (n : Fin 64) (v : Word) : State :=
  let s := (s.set R.CHOP_OFFSET_off_b (bits v.toNat 31 16) n).set R.CHOP_OFFSET_off_a (bits v.toNat 15 0) n
  let f : Chop → Chop := fun c => { c with offWritten := some s.now }
  (((s.modChop n 0 f).modChop n 1 f).putThresholds n 0).putThresholds n 1

/-! ### Duty mode (R142 to R146) -/

/-- The feed-forward term ff of R143. -/
def feedForward (s : State) (n : Fin 64) (x : Fin 2) : Int :=
  let vm : Rat := (s.get R.ADC_VM_vm_mv n : Rat) / 1000
  if ¬ s.flag R.DUTY_FF_ff_en n ∨ vm < 1 then 0
  else
    let ve : Rat := ((if x = 0 then s.getInt R.SD_EMF_e_a n else s.getInt R.SD_EMF_e_b n) : Rat) * 4 / 1000
    let isp : Rat := (s.sp n x * s.get R.CUR_SCALE_fs_ma n : Int) / 4096
    roundRat (32768 * (ve + (s.get R.DUTY_FF_res_mohm n : Rat) * isp / 1000000) / vm)

/-- The duty for the next period from the period's samples (R143, R147). No unblanked sample: i_meas is free. -/
def dutyUpdate (s : State) (n : Fin 64) (x : Fin 2) (l : List Int) : State :=
  let r : Int × State := if l.isEmpty then let f := s.fresh; (signed 16 f.1, f.2)
    else (roundDiv l.sum l.length, s)
  let s := r.2
  let err := s.toSense n (s.sp n x) - r.1
  let dmax : Int := s.get R.DUTY_FF_dmax n
  let c := s.chop n x
  let integ := clampInt (-dmax) dmax (c.integ + Int.fdiv (s.get R.DUTY_GAIN_ki n * err) (2 ^ 14))
  let raw := s.feedForward n x + Int.fdiv (s.get R.DUTY_GAIN_kp n * err) (2 ^ 10) + integ
  let d := clampInt (-dmax) dmax raw
  let bandX := s.toSense n (s.get R.CHOP_CTL_band n)
  let s := s.modChop n x fun c => { c with integ := integ, duty := d }
  if d ≠ raw ∧ bandX < err.natAbs then s.markUnreg n x s.now else s.modChop n x fun c => { c with unregAt := none }

/-- The flag of duty mode of phase `x`. -/
def setDuty (s : State) (n : Fin 64) (x : Fin 2) (b : Bool) : State :=
  if x = 0 then s.setFlag R.CHOP_STATUS_duty_a b n else s.setFlag R.CHOP_STATUS_duty_b b n

/-- A phase changes to duty mode, its integrator preset to the last cycle's mean voltage (R145, R146). -/
def toDuty (s : State) (n : Fin 64) (x : Fin 2) : State :=
  let c := s.chop n x
  let deq : Int := match c.lastCycle with
    | some (tOn, tFast, tAll) =>
      if tAll = 0 then 0 else roundDiv (32768 * c.dir * ((tOn : Int) - tFast)) tAll
    | none => 0
  let dmax : Int := s.get R.DUTY_FF_dmax n
  let ff := s.feedForward n x
  let s := s.modChop n x fun c => { c with integ := deq - ff, duty := clampInt (-dmax) dmax deq, unregAt := none,
                                           dir := s.chopDir n x }
  (((s.setDuty n x true).setBstate n x 0).setFlag R.CHOP_STATUS_handover true n).putThresholds n x

/-- A phase changes to hysteresis: SLOW, min_off elapsed, dir the sign of its set-point (R145). -/
def toHysteresis (s : State) (n : Fin 64) (x : Fin 2) : State :=
  let s := s.modChop n x fun c => { c with integ := 0, duty := 0, dir := s.chopDir n x, fromOn := false,
                                           since := s.now - 5 * s.get R.CHOP_TIME_min_off n, cycleAt := none,
                                           lastCycle := none, unregAt := none, partAt := s.now, seen := false,
                                           cycleBad := false }
  (((s.setDuty n x false).setBstate n x 0).setFlag R.CHOP_STATUS_handover true n).putThresholds n x

/-- High clocks of leg `k` in a duty period (R257). -/
def highClocks (s : State) (n : Fin 64) (k : Fin 4) : Nat :=
  let x : Fin 2 := if k.val < 2 then 0 else 1
  let h := (((s.legs n).period * (32768 + (s.chop n x).duty) + 32768) / 65536).toNat
  if k.val % 2 = 0 then h else (s.legs n).period - h

/-- The request of leg `k` in duty mode, two bits, for an interval of `len` clocks of high or low request; a gate whose on-time would
be shorter than min_pulse does not turn on (R257). -/
def dutyRequest (s : State) (n : Fin 64) (high : Bool) (len : Nat) : Nat :=
  let l := s.legs n
  if high then (if len < l.deadLh + l.minPulse then 0 else 2) else (if len < l.deadHl + l.minPulse then 0 else 1)

/-- The compares ask for `v` on leg `k`. -/
def putCmp (s : State) (n : Fin 64) (k : Fin 4) (v : Nat) : State :=
  s.modLegs n fun l => { l with cmp := l.cmp - l.cmp / 4 ^ k.val % 4 * 4 ^ k.val + v * 4 ^ k.val }

/-- A leg's duty request changes (R257). The low interval runs on into the next period, whose duty is not known yet: it is judged by the
present one. Log: DEDUCED notes/assumptions/97.md. -/
def dutyCompareOf (s : State) (n : Fin 64) (k : Fin 4) (high : Bool) : State :=
  if ¬ s.energised n ∨ ¬ s.inDuty n (legPhase k) ∨ ¬ (s.legs n).live.testBit k then s
  else
    let h := s.highClocks n k
    (s.putCmp n k (s.dutyRequest n high (if high then h else (s.legs n).period - h))).updateGates n

/-- The request of leg `k` at a period start: H where the whole period is high; else the low interval goes on with the request it has,
and begins here for a leg that was not in duty mode (R257). -/
def periodRequest (s : State) (n : Fin 64) (k : Fin 4) (was : Bool) : State :=
  if ¬ s.inDuty n (legPhase k) then s
  else
    let h := s.highClocks n k
    let N := (s.legs n).period
    if N ≤ h then s.putCmp n k (s.dutyRequest n true N)
    else if was then s
    else s.putCmp n k (s.dutyRequest n false ((N - h) / 2))

/-- The regulators at a period start: duty updates and changes of mode (R143, R145). In duty mode a period is the phase's cycle
(R151). -/
def periodPhase (s : State) (n : Fin 64) (x : Fin 2) (l : List Int) : State :=
  let want := (s.chop n x).wantDuty
  let s := if s.inDuty n x then
      (if want then (s.modChop n x fun c => { c with lastLen := some (5 * (s.legs n).period) }).dutyUpdate n x l else s.toHysteresis n x)
    else if want ∧ s.bstate n x ≠ 1 then s.toDuty n x
    else s
  if s.inDuty n x then (s.cycleRate n x).showDecim n else s

/-- Clock `c` satisfies the rule of R256 for period `N` and offset `phase`. -/
def onRule (c N phase : Nat) : Bool := decide (Int.emod ((c : Int) - phase) (max 1 N : Nat) = 0)

/-- Clocks from `c` to the next one that satisfies the rule. -/
def toRule (c N phase : Nat) : Nat := (Int.emod ((phase : Int) - c) (max 1 N : Nat)).toNat

/-- The present leg clock starts a period (R256): it satisfies the rule, or it is the end that the correction of one leg clock gives.
Before the timer has aligned, and after an end that no command brought, only the rule counts. Log: DEDUCED notes/assumptions/97.md. -/
def periodDue (s : State) (n : Fin 64) : Bool :=
  let l := s.legs n
  let c := s.now / 5
  match l.start with
  | none => onRule c l.rule l.phase
  | some b =>
    let d := toRule (b + l.period) l.rule l.phase
    let e := if d ≤ 1 ∨ l.rule ≤ d + 1 then b + l.period else if 2 * d ≤ l.rule then b + l.period + 1 else b + l.period - 1
    let e := if l.period ≠ l.rule then b + l.period else e
    decide (b < c) && (decide (c = e) || (decide (e < c) && onRule c l.rule l.phase))

/-- The values written come into force with the period that starts now; the first period after a write of period or phase ends by the
rule with the new values, at least 1,000 leg clocks on, and the compares take that length as N (R251, R255, R256). A write on the
leg clock of the start waits for the next one (R283). -/
def loadPeriod (s : State) (n : Fin 64) : State :=
  let l := s.legs n
  let c := s.now / 5
  let N := s.get R.PWM_PERIOD_period n
  let ph := s.get R.PWM_PHASE_phase n
  let new := decide (N ≠ l.rule ∨ ph ≠ l.phase) && l.wroteAt.all fun t => decide (t / 5 < c)
  s.modLegs n fun l => { l with
    deadHl := s.get R.LEG_DEAD_dead_hl n, deadLh := s.get R.LEG_DEAD_dead_lh n, minPulse := s.get R.LEG_DEAD_min_pulse n
    start := some c
    rule := if new then N else l.rule
    phase := if new then ph else l.phase
    period := if new then 1000 + toRule (c + 1000) N ph else l.rule }

/-- Legs that a period start takes out of OFF, low sides first, one bit each: all when the tile energises, and later those
whose gates have both been off for more than 10 µs (R254). -/
def legsOut (s : State) (n : Fin 64) : Nat := 15 - legsOf (s.legs n).live fun k => !s.longOff n k

/-- A period start of the leg timer (R254 to R257, R334), with the unblanked samples of the period just ended. -/
def periodStart (s : State) (n : Fin 64) (a b : List Int) : State :=
  if ¬ s.periodDue n then s
  else
    let s := (s.loadPeriod n).winClearRoute n 2 [0, 1, 2, 3, 4, 5]
    if ¬ s.energised n then s
    else
      let was := (s.inDuty n 0, s.inDuty n 1)
      let s := (s.periodPhase n 0 a).periodPhase n 1 b
      let out := s.legsOut n
      let pre := if s.get R.LEG_CTL_precharge n = 0 then 0 else (s.legs n).pre ||| out
      let s := (s.modLegs n fun l => { l with live := 15, pre := pre }).setFlag R.LEG_STATUS_precharging (decide (pre ≠ 0)) n
      let first (s : State) (k : Fin 4) : State :=
        s.periodRequest n k ((if legPhase k = 0 then was.1 else was.2) && !out.testBit k)
      (first (first (first (first s 0) 1) 2) 3).applyGates n

/-- A phase unregulated without a break for reg_loss ms: Fault with cause 0x04, even when a Lull has acted on this tick (R26, R147,
R154). -/
def lossOf (s : State) (n : Fin 64) (x : Fin 2) : State :=
  let s := s.noteLong n x
  let long := (s.chop n x).unregAt.any fun t => decide (t + 1000000 * max 1 (s.get R.CHOP_LIMIT_reg_loss n) ≤ s.now)
  if long ∧ (s.energised n ∨ (s.st n = 4 ∧ s.tickStart ≤ (s.tile n).cur.enteredAt)) then s.tileFault n 0x04 else s

end State

/-- CHOP_WINDOW_OUTPUT (R135): the input of phase `x`'s window as a code and sixteenths of one, and the samples of the ON state that may end
at `edge` (sixths of a ns). -/
def execChopWindowOutput (n : Fin 64) (x : Fin 2) (code : Int) (part : Fin 16) (l : List Sample) (edge : Nat) (s : State) : Res :=
  .next (s.chopOutput n x (levelOf code part) l edge)

/-- CHOP_TIME_EXPIRY (R135). -/
def execChopTimeExpiry (n : Fin 64) (x : Fin 2) (l : List Sample) (edge : Nat) (s : State) : Res :=
  .next (s.stepChop n x l edge)

/-- MAX_ON_REFRESH (R137). -/
def execMaxOnRefresh (n : Fin 64) (k : Fin 4) (s : State) : Res := .next (s.refreshPulse n k)

/-- CHOP_OFFSET_WRITE (R140). -/
def execChopOffsetWrite (n : Fin 64) (v : Word) (s : State) : Res := .next (s.writeOffset n v)

/-- PWM_PERIOD_START (R256). -/
def execPwmPeriodStart (n : Fin 64) (a b : List Int) (s : State) : Res := .next (s.periodStart n a b)

/-- REGULATION_LOSS (R147). -/
def execRegulationLoss (n : Fin 64) (x : Fin 2) (s : State) : Res := .next (s.lossOf n x)

end Sys2Proof.Machine
end

