-- ==== Sys2Proof/Machine/SiteTime.lean ====
section
/-! DEFINITION. Site time: its advance, its states, corrections at the master, steps, and the frames that distribute it
(17_site_time_and_event_order.md R520 to R532). -/

namespace Sys2Proof.Machine
namespace State

/-- Change the clock's state. -/
def modClock (s : State) (f : Clock → Clock) : State := { s with clock := f s.clock }

/-- The device is the time master (R521). -/
def isMaster (s : State) : Bool := s.get R.TIME_STATUS_state = 1 || s.get R.TIME_STATUS_state = 2

/-- The TIME_STATE event of the state `v` after `old` (R522). -/
def timeStateEvent (s : State) (v old : Nat) : State :=
  s.event 0x78 0xFF (bytesLE 1 v ++ bytesLE 1 old ++ bytesLE 1 (s.get R.TIME_STATUS_hops) ++ [0]
    ++ bytesLE 4 (s.get R.TIME_OFFSET_offset))

/-- A change of TIME_STATUS.state, with its TIME_STATE event; a fall from LOCKED counts in lock_losses (R522). -/
def setTimeState (s : State) (v : Nat) : State :=
  let old := s.get R.TIME_STATUS_state
  if v = old then s
  else
    let s := s.set R.TIME_STATUS_state v
    let s := if old = 4 then s.bump R.TIME_STATUS_lock_losses else s
    let s := if v = 4 then s.modClock fun c => { c with picky := false } else s
    s.timeStateEvent v old

/-- Pending step: apply time and new count. -/
def stepAt (s : State) : Nat := s.get64 R.TIME_STEP_AT_LO_at_ R.TIME_STEP_AT_HI_at_
def stepNew (s : State) : Nat := s.get64 R.TIME_STEP_NEW_LO_new R.TIME_STEP_NEW_HI_new

/-- A step is pending. -/
def stepPending (s : State) : Bool := s.flag R.TIME_STATUS_step_pending

/-! ### Advance (R528, R532, R591) -/

/-- The rate of the master's slew for a remainder in 10^-9 ns: 1,000 ppm, and proportional below 1 µs (R528).
Log: DEDUCED notes/assumptions/53.md. -/
def slewRate (rem : Int) : Int :=
  if 1000000000000 ≤ rem.natAbs then rem.sign * 1000000 else truncDiv rem 1000000

/-- Set the remainder of the master's slew. -/
def putSlew (s : State) (rem : Int) : State :=
  let r := slewRate rem
  let s := s.modClock fun c => { c with slew := if r = 0 then 0 else rem }
  (s.setFlag R.TIME_STATUS_slewing (decide (r ≠ 0))).setInt R.TIME_RATE_rate r

/-- What one step of the clock adds, 10^-9 ns: 4 ns and the rate in Run and Doze, one crystal period in Twilight and Night
(R532, R591). -/
def clockStep (s : State) : Int :=
  let st := s.get R.PWR_STATUS_state
  if st = 2 ∨ st = 3 then (if s.isMaster then 30517578125000 else 30487000000000)
  else 4000000000 + 4 * s.getInt R.TIME_RATE_rate

/-- Site time advances by one step of its clock. Log: DESIGN CHOICE notes/assumptions/12.md. -/
def advance (s : State) : State :=
  let total := s.clock.acc + s.clockStep
  let rate := s.getInt R.TIME_RATE_rate
  let s := { s with now := s.now + (total / 1000000000).toNat }.modClock fun c => { c with acc := total % 1000000000 }
  if s.isMaster ∧ s.clock.slew ≠ 0 ∧ s.get R.PWR_STATUS_state < 2 then s.putSlew (s.clock.slew - 4 * rate) else s

/-- No command waits: site time advances by one step of its clock, with what the tiles' clocks bring about by themselves in it, and
the cores' buffered stores take effect and Canopy enters waiting records in the fault log (R111, R137, R149, R329, R445, R591, R633). Log: DESIGN CHOICE notes/assumptions/12.md. -/
def idle (s : State) : State := (s.leaveCores.advance.clockAll s.now).scansDue.clockFeeds.drainLog

/-! ### A step of the count (R528 to R531) -/

/-- A stamp moved with the count. -/
def moveBy (d : Int) (t : Nat) : Nat := ((t : Int) + d).toNat

/-- A stamp of a group that lies at or after A moves with the count (R531). -/
def moveFrom (a : Nat) (d : Int) (t : Nat) : Nat := if a ≤ t then moveBy d t else t

/-- The converters' running times keep their places in real time (R530). -/
def moveAdc (m : Nat → Nat) (a : Adc) : Adc :=
  { a with
    fellBack := a.fellBack.map m, vmAt := m a.vmAt, due := a.due.map fun e => (m e.1, e.2)
    run := a.run.map fun r => { r with start := m r.start }, waiting := a.waiting.map fun w => (w.1, m w.2.1, w.2.2)
    conv := a.conv.map fun c => { c with rotAt := m c.rotAt } }

/-- A tile's running times keep their places in real time (R530); pending release times at or after A move (R531).
Log: DEDUCED notes/assumptions/54.md. -/
def moveTile (a : Nat) (d : Int) (t : Tile) : Tile :=
  let m := moveBy d
  { t with
    plan := { t.plan with
      exec := t.plan.exec.map fun e => { e with home := { e.home with began := m e.home.began } }
      held := t.plan.held.map fun e => { e with home := { e.home with began := m e.home.began } }
      ran := t.plan.ran.map fun r => (m r.1, r.2)
      groupRun := t.plan.groupRun.map fun r => (m r.1, r.2)
      slots := t.plan.slots.map fun q => (q.1, q.2.1, q.2.2.map (moveFrom a d)) }
    evts := t.evts.map fun e => { e with rose := e.rose.map m, fell := e.fell.map m }
    cur := { t.cur with rampedOn := none, heldAt := t.cur.heldAt.map m, energisedAt := m t.cur.energisedAt, enteredAt := m t.cur.enteredAt, emptyAt := m t.cur.emptyAt,
                        thawedAt := m t.cur.thawedAt }
    chop := t.chop.map fun c =>
      { c with since := m c.since, lastEdge := m c.lastEdge, cycleAt := c.cycleAt.map m, unregAt := c.unregAt.map m,
               offWritten := c.offWritten.map m, partAt := m c.partAt }
    legs := { t.legs with
      offAt := t.legs.offAt.map m, onAt := t.legs.onAt.map m, wroteAt := t.legs.wroteAt.map m
      thrAt := t.legs.thrAt.map fun w => w.map m
      blockAt := t.legs.blockAt.map fun w => w.map m, tripFrom := t.legs.tripFrom.map m, clockFrom := t.legs.clockFrom.map m,
      winEvent := t.legs.winEvent.map fun w => w.map m }
    sd := { t.sd with lastAt := t.sd.lastAt.map m, fitAt := m t.sd.fitAt, lowAt := m t.sd.lowAt }
    adc := moveAdc m t.adc
    force := { t.force with
      assessedAt := m t.force.assessedAt, restedAt := m t.force.restedAt, window := t.force.window.map fun w => (m w.1, w.2), updated := m t.force.updated,
      committed := m t.force.committed, pushAt := t.force.pushAt.map m } }

/-- A group's pending times at or after A move with the count (R531). Log: DEDUCED notes/assumptions/54.md. -/
def moveGroup (a : Nat) (d : Int) (g : GroupSlot) : GroupSlot :=
  { g with
    scales := g.scales.map fun q => { q with apply := moveFrom a d q.apply }
    moves := g.moves.map fun m => { m with start := m.start.map (moveFrom a d) }
    cmds := g.cmds.map fun c => { c with apply := moveFrom a d c.apply }
    checks := g.checks.map fun c => { c with tick := moveBy d c.tick }
    alarmUntil := moveBy d g.alarmUntil, alarmAt := moveBy d g.alarmAt }

/-- A port's running times keep their places in real time (R530). -/
def movePort (m : Nat → Nat) (q : Port) : Port :=
  { q with
    sleepAt := q.sleepAt.map m, helloAt := q.helloAt.map m, heardAt := m q.heardAt, lostAt := m q.lostAt, ackedAt := m q.ackedAt
    faultAt := m q.faultAt, ddmAt := q.ddmAt.map m }

/-- The count moves by `d` at A: what runs in real time keeps its place (R530), group times move with the count (R531),
register alarms compare counts and stay. -/
def moveCount (s : State) (a : Nat) (d : Int) : State :=
  let m := moveBy d
  { s with
    now := m s.now
    tiles := s.tiles.map (moveTile a d)
    groups := s.groups.map fun g => g.map (moveGroup a d)
    pinFrom := s.pinFrom.map m
    hwinEvent := s.hwinEvent.map fun w => w.map m
    house := moveAdc m s.house
    hwinThrAt := s.hwinThrAt.map fun w => w.map m
    usfen := { s.usfen with
      domSeen := s.usfen.domSeen.map (fun e => (e.1, m e.2)), ports := s.usfen.ports.map (movePort m)
      roll := s.usfen.roll.map fun r => { r with asked := m r.asked }
      alarmSent := m s.usfen.alarmSent, contestAt := m s.usfen.contestAt, mirrorAt := s.usfen.mirrorAt.map m }
    hamper := { s.hamper with coalAt := s.hamper.coalAt.map fun e => (e.1, m e.2) }
    spcs := s.spcs.map fun p => { p with lastEdge := m p.lastEdge, endsAt := m p.endsAt }
    ps := { s.ps with lastCommit := m s.ps.lastCommit, refreshed := m s.ps.refreshed }
    feeds := s.feeds.map fun f =>
      { f with hold := f.hold.map (fun h => h.map m), prev := f.prev.map (fun e => (m e.1, e.2)),
               frame := f.frame.map (fun e => (m e.1, e.2)), frameEnd := f.frameEnd.map m,
               last := f.last.map (fun e => (e.1, m e.2)), still := f.still.map m, errAt := f.errAt.map (fun e => e.map m),
               startAt := f.startAt.map m, stir := f.stir.map fun e => (m e.1, e.2) }
    emus := s.emus.map fun e => { e with edge := e.edge.map m, lagAt := e.lagAt.map m }
    sfe := { s.sfe with chans := s.sfe.chans.map (fun c => { c with checkAt := m c.checkAt }), visit := s.sfe.visit.map fun v => { v with began := m v.began } }
    lookout := { s.lookout with
      duskAt := m s.lookout.duskAt, leftRun := m s.lookout.leftRun, goodFrom := s.lookout.goodFrom.map m }
    canopy := { s.canopy with
      breachAt := s.canopy.breachAt.map (fun b => b.map m), kickAt := s.canopy.kickAt.map m, testAt := s.canopy.testAt.map m,
      haltAt := s.canopy.haltAt.map m, hostKick := m s.canopy.hostKick,
      lockedUntil := s.canopy.lockedUntil.map m }
    clock := { s.clock with
      ppsAt := s.clock.ppsAt.map m, setting := s.clock.setting.map (fun q => (q.1, q.2.1, m q.2.2)), syncAt := m s.clock.syncAt, sentAt := s.clock.sentAt.map m,
      sync := none, woke := s.clock.woke.map m } }

/-- A whole ms at or after `t`. -/
def upToMs (t : Nat) : Nat := (t + 999999) / 1000000 * 1000000

/-- The apply time A of a step decided at count `t` (R528). -/
def stepTime (s : State) (t : Nat) : Nat := upToMs (t + 1000000 * max 5 (s.get R.TIME_CFG_step_lead))

/-- The master announces a step of `d` ns, or an EPOCH_RESET, decided at count `t` (R528, R529). -/
def announceStep (s : State) (t : Nat) (d : Int) (reset : Bool) (ref : Option CmdRef) : State :=
  let a := s.stepTime t
  let s := s.set64 R.TIME_STEP_AT_LO_at_ R.TIME_STEP_AT_HI_at_ a
  let s := s.set64 R.TIME_STEP_NEW_LO_new R.TIME_STEP_NEW_HI_new (moveBy d a)
  (s.setFlag R.TIME_STATUS_step_pending true).modClock fun c => { c with stepReset := reset, stepRef := ref }

/-- A correction would take the master's count above 64 bits (R674). -/
def pastCount (s : State) (t : Nat) (c : Int) : Bool :=
  if c.natAbs ≤ 100000000 then decide (2 ^ 64 ≤ (t : Int) + c)
  else decide (2 ^ 64 ≤ (s.stepTime t : Int) + 1000 * roundDiv c 1000)

/-- The master applies a correction decided at count `t` (R528); a slew completes its TIME_SET at its start (R523). One that
would take the count above 64 bits is refused or not applied (R674). -/
def correct (s : State) (t : Nat) (c : Int) (ref : Option CmdRef) : State :=
  if s.pastCount t c then
    let now := s.get R.TIME_STATUS_state
    let s := s.timeStateEvent now now
    match ref with
    | some r => s.complete r 0x03
    | none => s
  else if c.natAbs ≤ 100000000 then
    let s := s.putSlew (c * 1000000000)
    match ref with
    | some r => s.complete r 0x00
    | none => s
  else
    let d := 1000 * roundDiv c 1000
    (s.putSlew ((c - d) * 1000000000)).announceStep t d false ref

/-- The decisions that waited for the step are taken (R531). Log: DEDUCED notes/assumptions/54.md. -/
def replayWaits (s : State) : State :=
  let l := s.clock.waits
  l.foldl (fun (s : State) (w : StepWait) =>
    match w with
    | .scale k => s.distributeRequest k
    | .start k e q => s.fixStart k e q
    | .cmd k c t a j r => s.issueGroupCmd k c t a j r) (s.modClock fun c => { c with waits := [] })

/-- At an EPOCH_RESET held commands of the epoch in force take epoch 0, and older ones are due at once (R534). -/
def resetScheds (s : State) (old : Nat) : State :=
  { s with hamper := { s.hamper with scheds := s.hamper.scheds.map fun q =>
      if q.epoch = old then { q with epoch := 0 } else if q.epoch < old then { q with epoch := 0, time := 0 } else q } }

/-- The announced step applies on the tick whose count is A (R528, R529, R531). Log: DEDUCED notes/assumptions/54.md. -/
def applyStep (s : State) : State :=
  if ¬ s.stepPending ∨ s.now < s.stepAt then s
  else
    let a := s.stepAt
    let d : Int := (s.stepNew : Int) - a
    let old := s.epoch
    let reset := s.clock.stepReset
    let ref := s.clock.stepRef
    let later := s.clock.ppsLater
    let s := if reset then ((s.resetScheds old).set R.TIME_EPOCH_epoch 0).setFlag R.TIME_EPOCH_saturated false
      else if 0 ≤ d then s
      else if old = 255 then s.setFlag R.TIME_EPOCH_saturated true
      else s.set R.TIME_EPOCH_epoch (old + 1)
    let s := (s.moveCount a d).setFlag R.TIME_STATUS_step_pending false
    let s := s.modClock fun c => { c with stepReset := false, stepRef := none, ppsLater := none }
    let s := s.event 0x79 0xFF (bytesLE 1 old ++ bytesLE 1 s.epoch
      ++ bytesLE 1 (b2n (s.flag R.TIME_EPOCH_saturated) + 2 * b2n reset) ++ [0, 0, 0, 0, 0] ++ bytesLE 8 (wrapNat 64 d))
    let s := match ref with
      | some r => s.complete r 0x00 (if reset then old else 0)
      | none => s
    let s := match later with
      | some c => s.correct s.now c none
      | none => s
    s.replayWaits

/-! ### PPS (R523, R524) -/

/-- The offset of a count from the nearest whole second. -/
def ppsOffset (t : Nat) : Int := (t : Int) - roundDiv t 1000000000 * 1000000000

/-- An edge of PPS_IN (R524): `fall` is its polarity. A TIME_SET with at_pps takes the edge's count (R523). -/
def ppsEdgeOf (s : State) (fall : Bool) : State :=
  let early : Bool := match s.clock.ppsAt with
    | some t => decide (s.now < t + 900000000)
    | none => false
  if ¬ s.flag R.TIME_CFG_pps_en ∨ ¬ s.isMaster ∨ s.flag R.TIME_CFG_pps_fall ≠ fall ∨ early then s
  else
    let t := s.now
    let s := (s.set64 R.TIME_PPS_LO_pps R.TIME_PPS_HI_pps t).setInt R.TIME_OFFSET_offset (ppsOffset t)
    let s := (s.modClock fun c => { c with ppsAt := some t }).setTimeState 2
    let l := s.clock.setting
    let s := s.modClock fun c => { c with setting := [] }
    if l ≠ [] then
      l.foldl (fun (s : State) (q : CmdRef × Nat × Nat) =>
        if s.stepPending then s.complete q.1 0x03 else s.correct t ((q.2.1 : Int) - t) (some q.1)) s
    else if s.stepPending then s.modClock fun c => { c with ppsLater := some (-(ppsOffset t)) }
    else s.correct t (-(ppsOffset t)) none

/-- TIME_SET (R523, R538): `value` and at_pps. Log: DEDUCED notes/assumptions/54.md. -/
def timeSetOf (s : State) (r : CmdRef) (value : Nat) (atPps : Bool) : State :=
  if ¬ s.isMaster ∨ s.stepPending then s.complete r 0x03
  else if atPps then (s.accepted r).modClock fun c => { c with setting := c.setting ++ [(r, value, s.now)] }
  else (s.accepted r).correct s.now ((value : Int) - s.now) (some r)

/-- A TIME_SET with at_pps that has seen no accepted edge within 1.1 s completes REFUSED (R523). -/
def atPpsTimeoutOf (s : State) : State :=
  let old := s.clock.setting.filter fun q => decide (q.2.2 + 1100000000 ≤ s.now)
  let s := s.modClock fun c => { c with setting := c.setting.filter fun q => decide (s.now < q.2.2 + 1100000000) }
  old.foldl (fun (s : State) (q : CmdRef × Nat × Nat) => s.complete q.1 0x03) s

/-- 1.1 s after the last accepted edge the master is no longer MASTER_PPS (R522). -/
def ppsSilenceOf (s : State) : State :=
  match s.clock.ppsAt with
  | some t => if s.get R.TIME_STATUS_state = 2 ∧ t + 1100000000 ≤ s.now then s.setTimeState 1 else s
  | none => s

/-! ### Distribution (R525, R526) -/

/-- Ports that face a child: D, B0 and B1 (R525). -/
def childPorts : List (Fin 4) := [1, 2, 3]

/-- SYNC and FOLLOW_UP go out every interval on every UP port that faces a child (R525). -/
def sendSync (s : State) : State :=
  if s.recent s.clock.sentAt (1000 * s.get R.TIME_CFG_interval) then s else
  let s := s.modClock fun c => { c with sentAt := some s.now }
  let q := s.clock.seq
  let pend := s.stepPending
  let good := s.isMaster || decide (s.get R.TIME_STATUS_state = 4)
  let flags := b2n pend + 2 * b2n (s.flag R.TIME_EPOCH_saturated) + 4 * b2n (pend && s.clock.stepReset) + 8 * b2n good
  let sync := bytesLE 2 q ++ bytesLE 1 s.epoch ++ bytesLE 1 flags ++ [0, 0, 0, 0] ++ bytesLE 8 (if pend then s.stepAt else 0)
    ++ bytesLE 8 (if pend then s.stepNew else 0)
  let follow := bytesLE 2 q ++ bytesLE 1 s.epoch ++ [0, 0, 0, 0, 0] ++ bytesLE 8 s.now
  let s := s.modClock fun c => { c with seq := (q + 1) % 65536 }
  childPorts.foldl (fun (s : State) (p : Fin 4) =>
    (s.sendOn p (s.mkFrame 0x40 0 0 false sync)).sendOn p (s.mkFrame 0x41 0 0 false follow)) s

/-- A follower receives SYNC on its U port and answers with DELAY_REQ; a step that it announces is taken over, one whose
time has passed applies at once (R525, R526, R529, R538). A SYNC still under way that carries the step this device last
applied announces nothing new. Log: DEDUCED notes/assumptions/54.md. -/
def receiveSync (s : State) (b : List Byte) : State :=
  if s.isMaster then s
  else
    let q := fieldLE b 0 2
    let flags := fieldLE b 3 1
    let s := s.modClock fun c => { c with
      syncAt := s.now, sync := some { seq := q, t1 := none, t2 := s.now, t3 := s.now, epoch := fieldLE b 2 1,
                                      saturated := bit flags 1, locked := bit flags 3 } }
    let s := if s.get R.TIME_STATUS_state = 0 then s.setTimeState 3 else s
    let s := s.sendOn 0 (s.mkFrame 0x42 0 0 false (bytesLE 2 q ++ [0, 0]))
    let again : Bool := !s.stepPending && decide (s.stepAt = fieldLE b 8 8) && decide (s.stepNew = fieldLE b 16 8)
    if bit flags 0 && !again then
      let s := s.set64 R.TIME_STEP_AT_LO_at_ R.TIME_STEP_AT_HI_at_ (fieldLE b 8 8)
      let s := s.set64 R.TIME_STEP_NEW_LO_new R.TIME_STEP_NEW_HI_new (fieldLE b 16 8)
      ((s.setFlag R.TIME_STATUS_step_pending true).modClock fun c => { c with stepReset := bit flags 2 }).applyStep
    else s

/-- FOLLOW_UP gives t1 of the SYNC that it follows (R525). -/
def receiveFollowUp (s : State) (b : List Byte) : State :=
  match s.clock.sync with
  | some x => if x.seq = fieldLE b 0 2 then s.modClock fun c => { c with sync := some { x with t1 := some (fieldLE b 8 8) } } else s
  | none => s

/-- A parent answers DELAY_REQ on the child's port with its receiving count (R525). -/
def receiveDelayReq (s : State) (p : Fin 4) (b : List Byte) : State :=
  s.sendOn p (s.mkFrame 0x43 0 0 false (bytesLE 2 (fieldLE b 0 2) ++ [0, 0, 0, 0, 0, 0] ++ bytesLE 8 s.now))

/-- A tile is Holding, Moving or in Lull. -/
def anyHeld (s : State) : Bool := allTiles.any fun n => let st := s.st n; st = stHolding || st = stMoving || st = stLull

/-- A follower steers by an offset (R525, R526): far behind while ACQUIRING it moves at once and takes the SYNC's epoch;
otherwise it slews at a rate within ±2,000 ppm that the spec leaves open, in the sense that reduces the offset.
Log: DEDUCED notes/assumptions/53.md. -/
def steer (s : State) (o : Int) (x : SyncRx) : State :=
  if s.get R.TIME_STATUS_state = 3 ∧ o < -100000000 ∧ ¬ s.anyHeld then
    let s := s.moveCount s.now (-o)
    ((s.set R.TIME_EPOCH_epoch x.epoch).setFlag R.TIME_EPOCH_saturated x.saturated).setFlag R.TIME_STATUS_slewing false
  else
    let r := s.fresh
    (r.2.setInt R.TIME_RATE_rate (-(o.sign) * ((r.1 % 2000001 : Nat) : Int))).setFlag R.TIME_STATUS_slewing (decide (o ≠ 0))

/-- The lock state after an offset (R526). Log: DEDUCED notes/assumptions/53.md. -/
def judgeOffset (s : State) (o : Int) : State :=
  let good := if o.natAbs ≤ 50 then s.clock.good + 1 else 0
  let s := s.modClock fun c => { c with good := good }
  let st := s.get R.TIME_STATUS_state
  if st = 4 then (if 1000 < o.natAbs then s.setTimeState 3 else s)
  else if 4 ≤ good then s.setTimeState 4
  else s

/-- DELAY_RESP completes an exchange: delay, offset, steering and lock (R525, R526). After a wake a device takes
corrections only from a LOCKED sender or the master (R532). -/
def receiveDelayResp (s : State) (b : List Byte) : State :=
  match s.clock.sync with
  | none => s
  | some x =>
    match x.t1 with
    | none => s
    | some t1 =>
      if s.isMaster ∨ x.seq ≠ fieldLE b 0 2 ∨ (s.clock.picky ∧ ¬ x.locked) then s
      else
        let t4 := fieldLE b 8 8
        let d := truncDiv (((x.t2 : Int) - t1) + ((t4 : Int) - x.t3)) 2
        let o := (x.t2 : Int) - t1 - d
        let s := (s.setInt R.TIME_DELAY_delay d).setInt R.TIME_OFFSET_offset (clampInt (-2147483648) 2147483647 o)
        let s := s.modClock fun c => { c with sync := none }
        (s.judgeOffset o).steer o x

/-- Ten intervals without SYNC take a LOCKED follower to HOLDOVER (R526). -/
def holdoverOf (s : State) : State :=
  if s.get R.TIME_STATUS_state = 4 ∧ s.clock.syncAt + 10000 * s.get R.TIME_CFG_interval ≤ s.now then s.setTimeState 5 else s

/-- 100 ms after a wake a device still ACQUIRING lets its tiles energise (R532). -/
def acquiringTimeoutOf (s : State) : State :=
  match s.clock.woke with
  | some t =>
    if t + 100000000 ≤ s.now then
      (s.modClock fun c => { c with woke := none }).forTiles allTiles fun n s => s.energiseIfDue n
    else s
  | none => s

end State

/-- SYNC_SEND (R525). -/
def execSyncSend (s : State) : Res := .next s.sendSync

/-- SYNC_FRAME (R525): the frame's payload, received on U. -/
def execSyncFrame (b : List Byte) (s : State) : Res := .next (s.receiveSync b)

/-- FOLLOW_UP (R525). -/
def execFollowUp (b : List Byte) (s : State) : Res := .next (s.receiveFollowUp b)

/-- DELAY_REQ (R525): received on a child's port. -/
def execDelayReq (p : Fin 4) (b : List Byte) (s : State) : Res := .next (s.receiveDelayReq p b)

/-- DELAY_RESP (R526). -/
def execDelayResp (b : List Byte) (s : State) : Res := .next (s.receiveDelayResp b)

/-- HOLDOVER_TIMEOUT (R526). -/
def execHoldoverTimeout (s : State) : Res := .next s.holdoverOf

/-- PPS_EDGE (R524): `fall` tells a falling edge. -/
def execPpsEdge (fall : Bool) (s : State) : Res := .next (s.ppsEdgeOf fall)

/-- TIME_STEP_APPLY (R529). -/
def execTimeStepApply (s : State) : Res := .next s.applyStep

end Sys2Proof.Machine
end

