-- ==== Sys2Proof/Machine/UsfenOps.lean ====
section
/-! DEFINITION. The link ports, their reception of frames, alarm domains, roll call and authority, as the chain's frames
and the rest of the device use them (16_usfen_chain_and_groups.md R487 to R517). -/

namespace Sys2Proof.Machine
namespace State

/-! ### Port states (R491 to R493, R598) -/

end State

/-- A port without what an entry to UP or a fall from it clears (R493, R496); what its module and the roll call told it stays. -/
def Port.afresh (q : Port) : Port :=
  { Port.reset with given := q.given, ddmAt := q.ddmAt, nominal := q.nominal, options := q.options }

namespace State

/-- The device is root B of a ring (R511). Log: DEDUCED notes/assumptions/81.md. -/
def isRootB (s : State) : Bool := s.flag R.USF_ID_root_b

/-- A root completes with LINK_DOWN its tracked commands whose target satisfies `lost` (R493). -/
def failTracks (s : State) (lost : Nat → Nat → Bool) : State :=
  (s.hamper.tracks.filter fun t => match t.point with
    | .remote r d => lost r d
    | _ => false).foldl (fun (s : State) (t : Track) => s.complete t.ref 0x11) s

/-- A port takes a state, with its LINK event (R491). -/
def putPort (s : State) (p : Fin 4) (v reason : Nat) : State :=
  if s.portState p = v then s
  else
    let s := (s.set R.USF_PSTATUS_state v p).set R.USF_PSTATUS_reason reason p
    let s : State := if v = 6 then s.setPort p { s.port p with faultAt := s.now } else s
    s.event 0x70 0xFF (bytesLE 1 p.val ++ bytesLE 1 v ++ bytesLE 1 reason)

/-- What a port keeps when it goes down: its buffers are discarded (R493), and it is parked within 1 ms of a sleep bit
(R598). -/
def downPort (s : State) (p : Fin 4) : State :=
  let q := s.port p
  s.setPort p { q.afresh with
    aligned := q.aligned, wasUp := true, lostAt := q.lostAt, helloAt := q.helloAt
    parked := match q.sleepAt with
      | some t => decide (s.now ≤ t + 1000000)
      | none => q.parked }

/-- An UP port goes down into state `v` (R493): ROUTE_LOST on the other ports, LINK_DOWN for commands routed through it, its
down_domains raised (R499). -/
def portDown (s : State) (p : Fin 4) (v reason : Nat) : State :=
  if ¬ s.portUp p then s.putPort p v reason
  else
    let lost := s.hamper.tracks.filterMap fun t => match t.point with
      | .remote r d => if s.nextHop r d = .port p then some (r, d) else none
      | _ => none
    let s := ((s.bump R.USF_ERR_downs p).putPort p v reason).downPort p
    let s := s.flood 0x8D (bytesLE 9 s.ownRoute ++ bytesLE 1 s.ownDepth ++ bytesLE 1 p.val ++ [0])
    let s := if s.isRoot then s.failTracks fun r d => lost.contains (r, d) else s
    s.updateDomains

/-- SFPx_TXDIS, driven high while the port is disabled or tx_disable is set (R489). -/
def txDis (s : State) (p : Fin 4) : Bool := !s.flag R.USF_PCFG_enable p || s.flag R.USF_PCFG_tx_disable p

/-- The physical layer of a port with a module: by USF_PCFG.rate, at auto by the module's nominal rate (R488, R490). -/
def chooseRate (s : State) (p : Fin 4) : State :=
  if s.flag R.USF_PSTATUS_mod_abs p then s
  else s.setFlag R.USF_PSTATUS_rate_10g (match s.get R.USF_PCFG_rate p with
    | 0 => decide (100 ≤ (s.port p).nominal)
    | 1 => true
    | _ => false) p

/-- The state of a port that is enabled and not UP, from its pins and alignment (R491). -/
def restState (s : State) (p : Fin 4) : Nat :=
  if ¬ s.flag R.USF_PCFG_enable p then 0
  else if s.flag R.USF_PSTATUS_mod_abs p then 1
  else if s.flag R.USF_PSTATUS_tx_fault p then 6
  else if (s.port p).aligned then 3
  else 2

/-- A port that leaves its state for the one that its pins and alignment give. -/
def portRest (s : State) (p : Fin 4) : State := s.portDown p (s.restState p) 0

/-- A HELLO of this device on port `p` (R498, R516). -/
def helloBytes (s : State) (p : Fin 4) : List Byte :=
  bytesLE 8 Config.serial ++ bytesLE 1 p.val ++ bytesLE 1 (b2n s.isRoot + 2 * b2n (decide (s.ownDepth ≠ 0)))
    ++ bytesLE 1 (s.get R.USF_AUTH_state) ++ bytesLE 1 s.usfen.claimEpoch ++ bytesLE 4 (s.get R.USF_AUTH_EPOCH_epoch)
    ++ bytesLE 2 (s.get R.USF_AUTH_holder) ++ bytesLE 2 (s.get R.USF_AUTH_contender) ++ bytesLE 8 s.usfen.claimTime

/-- The reason for which this device refuses a link, 0 for none (R492). -/
def refusalOf (s : State) (p : Fin 4) (b : List Byte) : Nat :=
  let peer := fieldLE b 8 1 % 4
  let root := bit (fieldLE b 9 1) 0
  let branchUp := ([1, 2, 3] : List (Fin 4)).any fun q => s.portUp q
  if (p = 0) = (peer = 0) then 1
  else if (s.isRoot ∧ p = 0 ∧ 2 ≤ peer) ∨ (root ∧ peer = 0 ∧ 2 ≤ p.val) ∨ (s.isRoot ∧ p = 0 ∧ peer = 1 ∧ branchUp) then 2
  else if fieldLE b 0 8 = Config.serial then 3
  else if s.isRootB ∧ p ≠ 0 then 6
  else 0

/-! ### Authority (R511 to R516) -/

/-- An AUTHORITY event on a root's own rings (R513, R518). -/
def authEvent (s : State) (outcome : Nat) : State :=
  if ¬ s.isRoot then s
  else s.event 0x72 0xFF (bytesLE 1 outcome ++ [0] ++ bytesLE 2 (s.get R.USF_AUTH_holder)
    ++ bytesLE 4 (s.get R.USF_AUTH_EPOCH_epoch) ++ bytesLE 2 (s.get R.USF_AUTH_contender))

/-- This device is the root of unit `u`. -/
def ownUnit (s : State) (u : Nat) : Bool := s.isRoot && decide (s.get R.USF_ID_unit = u)

/-- hold(e, u, t) of R513. -/
def authHold (s : State) (e u t ep : Nat) : State :=
  let was := s.get R.USF_AUTH_state
  let old := s.get R.USF_AUTH_holder
  let s := (s.set R.USF_AUTH_state 1).set R.USF_AUTH_holder u
  let s := (s.set R.USF_AUTH_contender 0).set R.USF_AUTH_EPOCH_epoch e
  let s := { s with usfen := { s.usfen with claimTime := t, claimEpoch := ep } }
  let s := if was = 3 then s.authEvent 3 else s
  if s.ownUnit u then s.authEvent 0
  else if was = 1 ∧ s.ownUnit old then s.authEvent 1
  else s

/-- contest(E, lo, hi) of R513. -/
def authContest (s : State) (lo hi : Nat) : State :=
  let s := (s.set R.USF_AUTH_state 3).set R.USF_AUTH_holder lo
  let s := s.set R.USF_AUTH_contender hi
  { s with usfen := { s.usfen with contestAt := s.now } }.authEvent 2

/-- A further second of CONTEST has passed: each root reports it (R514). -/
def contestReported (s : State) : State :=
  if s.get R.USF_AUTH_state ≠ 3 ∨ s.now < s.usfen.contestAt + 1000000000 then s
  else { s with usfen := { s.usfen with contestAt := s.usfen.contestAt + 1000000000 } }.authEvent 2

/-- A claim that is ignored: its root learns that it lost (R513). -/
def authIgnored (s : State) (u : Nat) : State := if s.ownUnit u then s.authEvent 1 else s

/-- A claim with epoch `e`, root unit `u`, issue time `t` and time epoch `ep` (R513). -/
def applyClaim (s : State) (e u t ep : Nat) : State :=
  let st := s.get R.USF_AUTH_state
  let e0 := s.get R.USF_AUTH_EPOCH_epoch
  let u0 := s.get R.USF_AUTH_holder
  let t0 := s.usfen.claimTime
  let within := decide (ep = s.usfen.claimEpoch) && decide (((t : Int) - t0).natAbs ≤ 100000000)
  if st = 3 then (if e0 < e then s.authHold e u t ep else s)
  else if st = 2 ∨ st = 0 ∨ e0 < e then s.authHold e u t ep
  else if e < e0 then s.authIgnored u
  else if u = u0 then s
  else if within then s.authContest (min u0 u) (max u0 u)
  else if u < u0 then s.authHold e u t ep
  else s.authIgnored u

/-- A root stamps its claim, floods it and applies it to itself (R513). -/
def claimAuthority (s : State) (e : Nat) : State :=
  let u := s.get R.USF_ID_unit
  let s := s.flood 0x8B (bytesLE 4 e ++ bytesLE 2 u ++ [0] ++ bytesLE 1 s.epoch ++ bytesLE 8 s.now)
  s.applyClaim e u s.now s.epoch

/-- The state in a peer's HELLO is applied when a link enters UP (R516). A device that knew no second root takes NONE from a
peer that reports it (R512). -/
def peerAuthority (s : State) (b : List Byte) : State :=
  let st := fieldLE b 0x0A 1
  let ep := fieldLE b 0x0B 1
  let e := fieldLE b 0x0C 4
  let t := fieldLE b 0x14 8
  match st with
  | 1 => s.applyClaim e (fieldLE b 0x10 2) t ep
  | 2 => if s.get R.USF_AUTH_state = 0 then s.set R.USF_AUTH_state 2 else s
  | 3 => (s.applyClaim e (fieldLE b 0x10 2) t ep).applyClaim e (fieldLE b 0x12 2) t ep
  | _ => s

/-! ### Reception (R495 to R498) -/

/-- The sequence number after `n` (R673). -/
def nextLseq (n : Nat) : Nat := if n ≥ 65535 then 1 else n + 1

/-- A frame of a numbered class is accepted in order; a gap asks for a replay, an older frame is dropped (R496). -/
def acceptNumbered (s : State) (p : Fin 4) (f : Frame) : Bool × State :=
  let q := s.port p
  let old (rx : Nat) : Bool := decide ((rx + 65535 - f.lseq) % 65535 < 32768)
  if frameCls f = 2 then
    if f.lseq = nextLseq q.rxCmd then
      (true, s.setPort p { q with rxCmd := f.lseq, freedCmd := q.freedCmd + frameUnits f })
    else (false, if old q.rxCmd then s else s.setPort p { q with nakCmd := true })
  else if f.lseq = nextLseq q.rxBulk then
    (true, s.setPort p { q with rxBulk := f.lseq, freedBulk := q.freedBulk + frameUnits f })
  else (false, if old q.rxBulk then s else s.setPort p { q with nakBulk := true })

/-- A type of R498. -/
def knownType (t : Nat) : Bool :=
  decide (t ≤ 0x04) || (decide (0x40 ≤ t) && decide (t ≤ 0x43)) || decide (t = 0x50) ||
    (decide (0x80 ≤ t) && decide (t ≤ 0x8D)) || decide (t = 0xBE) || decide (t = 0xBF) ||
    (decide (0xC0 ≤ t) && decide (t ≤ 0xC2))

/-- A frame arrives whole on an UP port (R494 to R497): counted, checked, a flooded one sent on. Answers whether this device
takes it further. -/
def receive (s : State) (p : Fin 4) (f : Frame) : Bool × State :=
  if ¬ s.portUp p then (false, s)
  else
    let s := (s.set R.USF_RXCNT_frames ((s.get R.USF_RXCNT_frames p + 1) % 2 ^ 32) p).setPort p { s.port p with heardAt := s.now }
    if ¬ knownType f.typ then (false, s.bump R.USF_ERR_pcrc_err p)
    else
      let a := if 2 ≤ frameCls f ∧ ¬ frameLinkOnly f then s.acceptNumbered p f else (true, s)
      if ¬ a.1 ∨ f.hops = 0 then (false, a.2)
      else (true, if f.flood then a.2.floodExcept { f with hops := f.hops - 1 } (some p) else a.2)

/-- A frame of type `typ` arrives and acts by `act`, for which its payload and source stand (R498). A routed frame that is
not for this device is left to FRAME_FORWARD. -/
def onFrame (s : State) (p : Fin 4) (f : Frame) (typ : Nat) (act : State → State) : State :=
  if f.typ ≠ typ then s
  else if ¬ f.flood ∧ f.dstDepth ≠ 0 ∧ (f.dstRoute ≠ s.ownRoute ∨ f.dstDepth ≠ s.ownDepth) then s
  else
    let r := s.receive p f
    if r.1 then act r.2 else r.2

/-! ### Credit and replay (R496) -/

/-- The source of a bulk frame that port U sends: 0 the device's own Hamper, or the port on which it arrived (R510). -/
def bulkSource (s : State) (f : Frame) : Nat :=
  match s.nextHop f.srcRoute f.srcDepth with
  | .port q => q.val
  | .consume => 0

/-- The weight of a source of bulk frames at port U (R510). -/
def bulkWeight (s : State) (i : Nat) : Nat :=
  match i with
  | 0 => s.get R.USF_BULK_W_own
  | 1 => s.get R.USF_BULK_W_d
  | 2 => s.get R.USF_BULK_W_b0
  | _ => s.get R.USF_BULK_W_b1

/-- The bytes of a frame: header, payload and payload CRC (R494). -/
def frameBytes (f : Frame) : Nat := 32 + f.payload.length + (if f.payload.isEmpty then 0 else 4)

/-- The bulk frame that port U serves next, by deficit round robin: the source in turn as long as its credit covers its oldest frame, then
the next one, which gains w × 308 bytes; an empty source loses its credit (R510). `fuel` bounds the sources looked at: a weight of 0
never gains credit. Log: DEDUCED notes/assumptions/83.md. -/
def bulkNext (s : State) (l : List Frame) : Nat → Option Frame × State
  | 0 => (none, s)
  | fuel + 1 =>
    let i := s.usfen.bulkTurn
    let have_ := s.usfen.bulkCredit.getD i 0
    let onward (left : Nat) : State :=
      let j := (i + 1) % 4
      let c := s.usfen.bulkCredit.set i left
      { s with usfen := { s.usfen with bulkTurn := j, bulkCredit := c.set j (c.getD j 0 + 308 * s.bulkWeight j) } }
    match l.find? fun f => decide (s.bulkSource f = i) with
    | none => bulkNext (onward 0) l fuel
    | some f =>
      if frameBytes f ≤ have_ then
        (some f, { s with usfen := { s.usfen with bulkCredit := s.usfen.bulkCredit.set i (have_ - frameBytes f) } })
      else bulkNext (onward have_) l fuel

/-- Bulk frames wait at port U. -/
def holdBulk (s : State) (l : List Frame) : State := s.setPort 0 { s.port 0 with waitBulk := l }

/-- Send waiting bulk frames of port U in their order of service, as its credit allows. -/
def releaseBulk (s : State) : Nat → State
  | 0 => s
  | fuel + 1 =>
    let q := s.port 0
    let r := s.bulkNext q.waitBulk 8
    match r.1 with
    | none => r.2
    | some f =>
      if q.usedBulk + frameUnits f > q.creditBulk + 256 then s
      else releaseBulk (((r.2.setPort 0 { q with waitBulk := [] }).sendOn 0 f).holdBulk (q.waitBulk.erase f)) fuel

/-- Send the waiting frames of a port as its credit allows: command frames oldest first, then bulk frames, on port U by R510. -/
def releaseWaiting (s : State) (p : Fin 4) : State :=
  let q := s.port p
  let send (s : State) (l : List Frame) : State := l.foldl (fun (s : State) (f : Frame) => s.sendOn p f) s
  let s := send (s.setPort p { q with waitCmd := [] }) q.waitCmd
  if p = 0 then s.releaseBulk q.waitBulk.length
  else send (s.setPort p { s.port p with waitBulk := [] }) q.waitBulk

/-- Replay the unacknowledged frames of the classes chosen; one that has been replayed 8 times takes the port to FAULT. -/
def replay (s : State) (p : Fin 4) (cmd bulk : Bool) : State :=
  let q := s.port p
  let again (on : Bool) (l : List (Frame × Nat)) : List (Frame × Nat) := if on then l.map fun e => (e.1, e.2 + 1) else l
  let sent := (if cmd then q.unackedCmd else []) ++ (if bulk then q.unackedBulk else [])
  if sent.any fun e => decide (8 ≤ e.2) then s.portDown p 6 0
  else
    let s := s.setPort p { q with
      unackedCmd := again cmd q.unackedCmd, unackedBulk := again bulk q.unackedBulk, ackedAt := s.now }
    sent.foldl (fun (s : State) (e : Frame × Nat) => (s.onWire p e.1).bump R.USF_ERR_replays p) s

/-- Frames after the one acknowledged; all of them when it is not among them. -/
def ackedRest (n : Nat) (l : List (Frame × Nat)) : List (Frame × Nat) :=
  if l.any fun e => decide (e.1.lseq = n) then (l.dropWhile fun e => decide (e.1.lseq ≠ n)).drop 1 else l

/-- LINK_ACK of this port: what it has received, NAKs and credit (R496, R498); `sleep` is the bit of R597. -/
def sendAck (s : State) (p : Fin 4) (sleep : Bool) : State :=
  let q := s.port p
  let b := bytesLE 2 q.rxCmd ++ bytesLE 2 q.rxBulk ++ bytesLE 1 (b2n q.nakCmd + 2 * b2n q.nakBulk + 4 * b2n sleep) ++ [0, 0, 0]
    ++ bytesLE 4 q.freedCmd ++ bytesLE 4 q.freedBulk
  (s.setPort p { q with nakCmd := false, nakBulk := false }).sendOn p (s.mkFrame 0xBF 0 0 false b)

/-! ### Roll call (R502, R504) -/

/-- The device is the roll-call root: the sole root, or root A (R502). -/
def isRollRoot (s : State) : Bool := s.isRoot && !s.isRootB

/-- Take a route and depth with a generation (R502, R504). The hops to the master follow where the route tells them (R521). -/
def takeRoute (s : State) (route depth gen : Nat) : State :=
  let s := (s.set R.USF_ROUTE0_route_lo (route % 2 ^ 32)).set R.USF_ROUTE1_route_mid (route / 2 ^ 32 % 2 ^ 32)
  let s := (s.set R.USF_ROUTE2_route_hi (route / 2 ^ 64)).set R.USF_ID_depth depth
  let s := (s.set R.USF_ID_unit (routeField route (depth - 1))).set R.USF_ROLL_GEN_generation gen
  let ones := ((List.range depth).drop 1).all fun j => decide (routeField route j = 1)
  let r := if ones then (routeField route 0 - 1 + (depth - 1), s) else s.fresh
  r.2.set R.TIME_STATUS_hops (min 7 (if ones then r.1 else r.1 % 8))

/-- A device's part in a roll call ends: the root writes the result, any other device replies to its parent. -/
def rollEnd (s : State) (next : Nat) (r : RollCall) : State :=
  let s := { s with usfen := { s.usfen with roll := none } }
  if s.isRollRoot then
    let s := (s.setFlag R.USF_ROLL_busy false).set R.USF_ROLL_result r.result
    let s := s.set R.USF_ROLL_units (min 0xFFFF (r.counted + 1))
    s.event 0x71 0xFF (bytesLE 1 r.result ++ [0, 0, 0] ++ bytesLE 4 (s.get R.USF_ROLL_GEN_generation) ++ bytesLE 4 (r.counted + 1))
  else
    s.sendOn 0 (s.mkFrame 0x89 0 0 false (bytesLE 4 (s.get R.USF_ROLL_GEN_generation) ++ bytesLE 2 next ++ bytesLE 1 r.result ++ [0]
      ++ bytesLE 4 (r.counted + 1)))

/-- A ROLL_CALL of this generation goes out on a port and the roll call waits for its reply. -/
def rollAsk (s : State) (p : Fin 4) (route depth : Nat) (r : RollCall) : State :=
  let s := { s with usfen := { s.usfen with roll := some { r with waits := p.val, asked := s.now } } }
  s.sendOn p (s.mkFrame 0x88 0 0 false (bytesLE 4 (s.get R.USF_ROLL_GEN_generation) ++ bytesLE 1 depth ++ [0, 0, 0] ++ bytesLE 9 route
    ++ [0, 0, 0]))

/-- A result of a roll call: the first that is not OK stands. Log: DEDUCED notes/assumptions/55.md. -/
def worse (a b : Nat) : Nat := if a = 0 then b else a

/-- The device visits its D port (R502). -/
def rollD (s : State) (r : RollCall) : State :=
  let k := s.ownDepth - 1
  let n := routeField s.ownRoute k + 1
  if ¬ s.portUp 1 then s.rollEnd n r
  else if 4095 < n then s.rollEnd n { r with result := worse r.result 4 }
  else s.rollAsk 1 (s.ownRoute % 2 ^ (12 * k) + n * 2 ^ (12 * k)) (k + 1) r

/-- The device visits a branch port, or goes on by `next` when it is not UP; a branch beyond depth 6 is refused (R492). -/
def rollBranch (s : State) (p : Fin 4) (r : RollCall) (next : State → RollCall → State) : State :=
  let d := s.ownDepth
  if ¬ s.portUp p then next s r
  else if 6 ≤ d then next (s.portDown p 5 5) { r with result := worse r.result 3 }
  else if 4095 < r.below then next s { r with result := worse r.result 4 }
  else s.rollAsk p (s.ownRoute + r.below * 2 ^ (12 * d)) (d + 1) r

/-- The device visits B1, then D. -/
def rollB1 (s : State) (r : RollCall) : State := s.rollBranch 3 r rollD

/-- The device, just numbered, visits B0, B1 and D (R502). Log: DEDUCED notes/assumptions/55.md. -/
def rollVisit (s : State) : State :=
  let s := (s.setPort 2 { s.port 2 with given := [] }).setPort 3 { s.port 3 with given := [] }
  s.rollBranch 2 { waits := 2, below := 1, counted := 0, result := 0, asked := s.now } rollB1

/-- The path between the two roots of a ring as this device knows it (R515): its own level-0 port, and, once a ROUTE_LOST has
named a level-0 link, nothing. -/
def ringPath (s : State) : Bool × State :=
  let p : Fin 4 := if s.isRootB then 0 else 1
  if ¬ s.portUp p then (false, s)
  else if ¬ s.usfen.ringCut then (true, s)
  else
    let r := s.fresh
    if r.1 % 2 = 0 then (false, r.2) else (true, { r.2 with usfen := { r.2.usfen with ringCut := false } })

/-- A roll call is asked for (R502). -/
def rollGo (s : State) : State :=
  if s.flag R.USF_ROLL_busy then s
  else if ¬ s.isRollRoot then s.set R.USF_ROLL_result 2
  else if s.flag R.USF_ID_ring ∧ ¬ s.ringPath.1 then s.ringPath.2.set R.USF_ROLL_result 1
  else
    let s : State := if s.flag R.USF_ID_ring then s.ringPath.2 else s
    let s := s.setFlag R.USF_ROLL_busy true
    let s := s.takeRoute 1 1 ((s.get R.USF_ROLL_GEN_generation + 1) % 2 ^ 32)
    { s with usfen := { s.usfen with units := [(Config.serial, 1, 1, true)] } }.rollVisit

/-- A ROLL_CALL numbers the device, which reports itself and visits its own ports; a second one of the same generation is a
LOOP and its link is refused (R492, R502). Log: DEDUCED notes/assumptions/55.md. -/
def rollCalled (s : State) (p : Fin 4) (b : List Byte) : State :=
  let gen := fieldLE b 0 4
  if s.ownDepth ≠ 0 ∧ s.get R.USF_ROLL_GEN_generation = gen then
    let s := s.sendOn p (s.mkFrame 0x89 0 0 false (bytesLE 4 gen ++ bytesLE 2 (routeField (fieldLE b 8 9) (fieldLE b 4 1 - 1))
      ++ [5, 0, 0, 0, 0, 0]))
    s.portDown p 5 4
  else
    let s := s.takeRoute (fieldLE b 8 9) (fieldLE b 4 1) gen
    let s := if s.isMaster then s.setTimeState 3 else s
    let s := s.sendRouted 0x8A 1 1 (bytesLE 8 Config.serial ++ bytesLE 9 s.ownRoute ++ bytesLE 1 s.ownDepth ++ bytesLE 1 (b2n s.isRoot)
      ++ [0])
    s.rollVisit

/-- A ROLL_REPLY on the port awaited: the next port is visited (R502, R503). Log: DEDUCED notes/assumptions/55.md. -/
def rollReplied (s : State) (p : Fin 4) (b : List Byte) : State :=
  match s.usfen.roll with
  | none => s
  | some r =>
    if r.waits ≠ p.val ∨ fieldLE b 0 4 ≠ s.get R.USF_ROLL_GEN_generation then s
    else
      let next := fieldLE b 4 2
      let r' := { r with counted := r.counted + fieldLE b 8 4, result := worse r.result (fieldLE b 6 1) }
      if p = 1 then s.rollEnd next r'
      else
        let s := s.setPort p { s.port p with given := (List.range (next - r.below)).map (· + r.below) }
        let r' := { r' with below := next }
        if p = 2 then s.rollB1 r' else s.rollD r'

/-- The roll-call root records a device (R502, R505); a second root makes the unit a ring (R504, R511).
Log: DEDUCED notes/assumptions/55.md. -/
def rollEntered (s : State) (b : List Byte) : State :=
  if ¬ s.isRollRoot then s
  else
    let root := bit (fieldLE b 0x12 1) 0
    let u := (fieldLE b 0 8, fieldLE b 8 9, fieldLE b 0x11 1, root)
    let s := { s with usfen := { s.usfen with units := s.usfen.units.filter (fun x => decide (x.1 ≠ u.1)) ++ [u] } }
    if root then
      let s := s.setFlag R.USF_ID_ring true
      if s.get R.USF_AUTH_state = 0 then s.set R.USF_AUTH_state 2 else s
    else s

end State
end Sys2Proof.Machine
end

