-- ==== Sys2Proof/Machine/Power.lean ====
section
/-! DEFINITION. Lookout: power states, wake sources, Dusk and the clock sources
(20_lookout_power_and_dusk.md R588 to R610). -/

namespace Sys2Proof.Machine
namespace State

/-- Change Lookout's state. -/
def modLookout (s : State) (f : Lookout → Lookout) : State := { s with lookout := f s.lookout }

/-! ### Clocks and links of a power state (R592, R593) -/

/-- The PLLs run and have locked, or are off (R592). Log: DEDUCED notes/assumptions/61.md. -/
def showLocks (s : State) (on : Bool) : State :=
  let serdes := ((List.range 4).map fun p => 2 ^ p * b2n (s.flag R.USF_PCFG_enable p)).sum
  let s := (s.set R.CLK_STATUS_quad_lock (if on then 15 else 0)).setFlag R.CLK_STATUS_central_lock on
  let s := s.set R.CLK_STATUS_serdes_lock (if on then serdes else 0)
  s.setFlag R.CLK_STATUS_pcie_lock (on && decide (s.hostKind = 1))

/-- The SerDes of a port stop: it goes down, without a frame on any other port; a port parked by its own device raises no
domain (R493, R598). -/
def quietPort (s : State) (p : Fin 4) (v : Nat) (parks : Bool) : State :=
  let up := s.portUp p
  let s := if up then (s.bump R.USF_ERR_downs p).putPort p v 0 else s.putPort p v 0
  let s := if up then s.downPort p else s
  s.setPort p { s.port p with aligned := false, parked := (s.port p).parked || (up && parks) }

/-- Every link and fast converter that a lower state stops (R593, R597). -/
def quiet (s : State) (v : Nat) (parks : Bool) : State :=
  let s := allPorts.foldl (fun (s : State) (p : Fin 4) => s.quietPort p v parks) s
  let s := if s.isRoot then s.failTracks fun _ _ => true else s
  { s.sfeStop with house := { s.house with run := none, waiting := none, due := [] } }

/-! ### Entry to a lower state (R595 to R599) -/

/-- The reason for which a request of `target` is refused, 0 for none (R596).
Log: DEDUCED notes/assumptions/56.md, notes/assumptions/58.md. -/
def powerRefusal (s : State) (target : Nat) : Nat :=
  let low := decide (target = 2) || decide (target = 3)
  let loading := s.flag R.PS_LOAD_CTL_busy || s.flag R.PARAM_SAVE_busy || allTiles.any fun n => decide (s.coreState n = 1)
  let walk := allTiles.any fun n => s.walking n
  let held := decide (s.hamper.scheds ≠ []) || decide (s.hamper.tracks ≠ []) || decide (s.hamper.staged ≠ []) ||
    (allTiles.any fun n => decide (s.trailCount n ≠ 0)) || s.groups.toList.any fun g => (g.map (·.startPending)).getD false
  if s.anyHeld then 1
  else if walk || s.flag R.KEY_STATUS_busy || loading then 2
  else if low && held then 3
  else if low && decide (s.get R.WAKE_EN_en = 0) then 4
  else if s.flag R.PWR_STATUS_dusk_active || !s.flag R.PWR_STATUS_supply_good then 5
  else if decide (3 < target) || decide (target = s.get R.PWR_STATUS_state) then 6
  else 0

/-- A POWER event (R609). Log: DEDUCED notes/assumptions/58.md. -/
def powerEvent (s : State) (new was refused : Nat) : State :=
  s.event 0x80 0xFF (bytesLE 1 new ++ bytesLE 1 was ++ bytesLE 1 refused)

/-- Idle tiles go Asleep, and what the entry's checkpoint records of them is noted (R597).
Log: DEDUCED notes/assumptions/37.md, notes/assumptions/59.md. -/
def sleepIdle (s : State) : State :=
  let idle := allTiles.filter fun n => decide (s.st n = stIdle)
  let note (n : Fin 64) : DuskLatch :=
    { tile := n.val, posInt := s.get R.POS_HI_pos_int n, posFrac := s.get R.POS_LO_pos_frac n, state := stAsleep, vel := 0 }
  (s.modLookout fun l => { l with latched := idle.map note }).forTiles idle fun n s => s.goState n stAsleep s.now

/-- An accepted entry to Doze, Twilight or Night, step by step (R597). Log: DEDUCED notes/assumptions/59.md. -/
def powerEnter (s : State) (target : Nat) : State :=
  let was := s.get R.PWR_STATUS_state
  let s := (s.set R.PWR_STATUS_refused 0).sleepIdle
  if target = 1 then (s.putPower 1).powerEvent 1 was 0
  else
    let s := (s.commitCkpt 3).commitBeside.drainLog
    let s := allPorts.foldl (fun (s : State) (p : Fin 4) => if s.portUp p then s.sendAck p true else s) s
    let s := (s.putPower target).powerEvent target was 0
    (s.quiet 0 true).showLocks false

/-- A serial frame is in progress or waits (R637). Log: DEDUCED notes/assumptions/59.md. -/
def spcBusy (s : State) : Bool := (List.range 4).any fun k => s.flag R.SPC_STATUS_busy k

/-- A request of a power state (R595, R596); entry to Twilight or Night waits for a serial frame in progress (R640). Run from Doze is a wake; in Twilight and Night none arrives.
Log: DESIGN CHOICE notes/assumptions/20.md; DEDUCED notes/assumptions/56.md, notes/assumptions/58.md. -/
def powerRequest (s : State) (target : Nat) : State :=
  let was := s.get R.PWR_STATUS_state
  if 2 ≤ was then s
  else if target = 0 ∧ was = 1 then s.dozeWake
  else
    let r := s.powerRefusal target
    if r ≠ 0 then (s.set R.PWR_STATUS_refused r).powerEvent was was r
    else if target ≠ 1 ∧ s.spcBusy then s.modLookout fun l => { l with entry := some target }
    else s.powerEnter target

/-- All tiles have been Asleep for doze_delay ms with auto_doze set (R599). Log: DEDUCED notes/assumptions/58.md. -/
def autoDozeOf (s : State) : State :=
  let slept := allTiles.all fun n =>
    decide (s.st n = stAsleep) && decide ((s.tile n).cur.enteredAt + 1000000 * s.get R.PWR_CTL_doze_delay ≤ s.now)
  if s.flag R.PWR_CTL_auto_doze ∧ s.deviceRuns ∧ slept ∧ s.powerRefusal 1 = 0 then s.powerEnter 1 else s

/-! ### Wake (R594, R600, R601) -/

/-- A wake from Twilight resumes every block where it stopped; a device that is not the master acquires site time anew
(R532, R594). -/
def twilightWake (s : State) : State :=
  let s := ((s.putPower 0).showLocks true).feedRestart
  let s := allPorts.foldl (fun (s : State) (p : Fin 4) => s.portRest p) s
  let s := if s.isMaster then s
    else (s.setTimeState 3).modClock fun c => { c with woke := some s.now, picky := true }
  s.noteWake 2

/-- The alarm is armed and its time has come; it fires once per value (R601). Log: DEDUCED notes/assumptions/36.md. -/
def lkAlarmDue (s : State) : Bool :=
  s.lookout.alarm && decide (s.get64 R.LK_ALARM_LO_time R.LK_ALARM_HI_time ≤ s.now)

/-- Wake source `b` fires (R600): in Run only the alarm is recorded, during Dusk every source is only latched (R610). -/
def deviceWakeOf (s : State) (b : Fin 7) : State :=
  let was := s.get R.PWR_STATUS_state
  if b.val = 1 ∧ ¬ s.lkAlarmDue then s
  else
    let s := if b.val = 1 then s.modLookout fun l => { l with alarm := false } else s
    let s := if s.wakeEnabled b then s.modLookout fun l => { l with entry := none } else s
    if was = 0 ∧ ¬ s.flag R.PWR_STATUS_dusk_active then (if b.val = 1 then s.setBit R.WAKE_CAUSE_cause 1 true else s)
    else if ¬ s.wakeEnabled b then s
    else
      let s := s.setBit R.WAKE_CAUSE_cause b true
      if s.flag R.PWR_STATUS_dusk_active then s
      else if was = 1 then s.dozeWake
      else if was = 2 then s.twilightWake
      else s.modLookout fun l => { l with dawnCause := some 3 }

/-- The high word of LK_ALARM arms the alarm (R11, R601). -/
def lkAlarmArmOf (s : State) (who : Requester) (v : Word) : State :=
  let r := s.pairTake 0x1010 who (s.rd 0x1010)
  ((r.2.wr 0x1010 r.1).wr 0x1014 v).modLookout fun l => { l with alarm := true }

/-! ### Dusk (R605 to R607, R610) -/

/-- What Dusk latches of the tiles that are not Asleep, before their Lull (R605). -/
def duskLatches (s : State) : List DuskLatch :=
  (allTiles.filter fun (n : Fin 64) => decide (s.st n ≠ stAsleep)).map fun (n : Fin 64) =>
    ({ tile := n.val, posInt := s.get R.POS_HI_pos_int n, posFrac := s.get R.POS_LO_pos_frac n, state := s.st n,
       vel := s.getInt R.VEL_vel n } : DuskLatch)

/-- Dusk abandons an image load in progress without effect (R605, R634); the load ends as one that left the record unwritten, and
whether a boot slot was cleared by then is open. Log: DEDUCED notes/assumptions/60.md. -/
def abandonLoad (s : State) : State :=
  if ¬ s.flag R.PS_LOAD_CTL_busy then s
  else
    let number := s.get R.PS_LOAD_CTL_number
    let r := s.fresh
    let s := if s.get R.PS_LOAD_CTL_kind = 0 ∧ number < 2 ∧ number ≠ s.get R.DAWN_STATUS_booted ∧ r.1 % 2 = 1
      then r.2.psClears (128 * number) 128 else r.2
    let s := ((s.set R.PS_LOAD_CTL_result 7).setFlag R.PS_LOAD_CTL_busy false).showStoreBusy
    let s := { s with usfen := { s.usfen with reads := s.usfen.reads.filter fun r => !r.store } }
    s.event 0x94 0xFF (bytesLE 1 7 ++ bytesLE 1 (s.get R.PS_LOAD_CTL_kind) ++ bytesLE 1 number)

/-- Dusk starts for a cause of DUSK_STATUS, in every power state except Off, and takes every tile to Lull; a second cause is
ignored. In Twilight and Night every tile was Asleep, nothing runs, and no checkpoint is committed; nor is one before Dawn has
restored the positions (R30, R605, R610). Log: DEDUCED notes/assumptions/60.md. -/
def duskRun (s : State) (cause : Nat) : State :=
  if s.flag R.PWR_STATUS_dusk_active ∨ s.lookout.off then s
  else
    let low := decide (2 ≤ s.get R.PWR_STATUS_state)
    let s := (s.setFlag R.PWR_STATUS_dusk_active true).set R.DUSK_STATUS_cause cause
    let s := (s.set R.DUSK_STATUS_outcome 0).set R.DUSK_STATUS_duration 0
    let latched := if low then [] else s.duskLatches
    let moving := (latched.filter fun d => decide (d.state = stMoving)).length
    let s := s.modLookout fun l => { l with duskAt := s.now, latched := latched, duskMoving := moving, duskSeen := !low, entry := none }
    let s := (s.forTiles allTiles fun n s => s.lullSource n 7).raiseCanopy 5
    if low then s
    else
      let s := s.forTiles allTiles fun n s =>
        (s.coreSleep n).modTile n fun t => { t with adc := { t.adc with run := none, waiting := none, due := [] } }
      let s := (s.quiet 2 false).updateDomains.abandonLoad
      let s := if s.flag R.PARAM_SAVE_busy then s.saveAbandoned else s
      let commits := if s.flag R.PS_STATUS_restored then some 2 else none
      { s with ps := { s.ps with want := commits } }

/-- The condition of a Dusk cause (R590, R603, R605). -/
def duskDue (s : State) (cause : Nat) : Bool :=
  match cause with
  | 1 => s.flag R.PWR_STATUS_dusk_armed && s.hwinBelow 0
  | 2 => s.flag R.DUSK_CFG_vdd_en && s.hwinBelow 1
  | 3 => s.flag R.DUSK_CFG_clock_en && s.flag R.CLK_STATUS_ref_lost
  | _ => s.bench

/-- A Dusk starts when its cause holds. Log: DEDUCED notes/assumptions/60.md. -/
def duskStartOf (s : State) (cause : Nat) : State := if s.duskDue cause then s.duskRun cause else s

/-- The payload of a DUSK event (R609). -/
def duskPayload (s : State) : List Byte :=
  bytesLE 1 (s.get R.DUSK_STATUS_cause) ++ bytesLE 1 (s.get R.DUSK_STATUS_outcome) ++ bytesLE 1 s.lookout.duskMoving ++ [0]
    ++ bytesLE 4 (s.get R.DUSK_STATUS_duration)

/-- Dusk ends with an outcome; the duration runs to the commit, and is open where none was made (R607).
Log: DEDUCED notes/assumptions/60.md. -/
def duskEnd (s : State) (outcome : Nat) : State :=
  let made := decide (s.lookout.duskAt ≤ s.ps.lastCommit) && s.lookout.duskSeen
  let r := if made then ((s.ps.lastCommit - s.lookout.duskAt) / 1000, s) else s.fresh
  let s := (r.2.set R.DUSK_STATUS_duration (min 0xFFFFF (if made then r.1 else r.1 % 2 ^ 20))).set R.DUSK_STATUS_outcome outcome
  (s.setFlag R.PWR_STATUS_dusk_active false).modLookout fun l => { l with duskSeen := false }

/-- RECOVERED: the blocks stopped restart and lull_source bit [23] is released (R607). -/
def duskRecover (s : State) : State :=
  let low := decide (2 ≤ s.get R.PWR_STATUS_state)
  let s := s.duskEnd 1
  let s := if low then s
    else
      let s := s.forTiles allTiles fun n s => if s.st n = stAsleep then s else s.coreWake n
      allPorts.foldl (fun (s : State) (p : Fin 4) => s.portRest p) s
  let s := s.forTiles allTiles fun n s => s.releaseLull n 7
  s.event 0x82 0xFF s.duskPayload

/-- NIGHT: the device enters Night, the supply's return armed; the DUSK event waits for rings (R607).
Log: DEDUCED notes/assumptions/60.md. -/
def duskNightOf (s : State) : State :=
  let was := s.get R.PWR_STATUS_state
  let s := s.duskEnd 2
  let s := s.modLookout fun l => { l with duskNight := true, duskEvent := some s.duskPayload }
  let s := (if was = 3 then s else s.putPower 3)
  (s.quiet 0 true).showLocks false

/-- Lookout decides the outcome once the commit of step 4 has completed (R607). Log: DEDUCED notes/assumptions/60.md. -/
def duskOutcomeOf (s : State) : State :=
  if ¬ s.flag R.PWR_STATUS_dusk_active ∨ s.ps.want = some 2 then s
  else if ¬ s.flag R.PWR_STATUS_supply_good ∨ ¬ s.flag R.PS_STATUS_restored then s.duskNightOf
  else match s.lookout.goodFrom with
    | some t => if t + 1000000 * max 1 (s.get R.DUSK_CFG_recover) ≤ s.now then s.duskRecover else s
    | none => s

/-! ### Clock sources and supplies (R589, R590, R604) -/

/-- An XTAL event (R609). Log: DEDUCED notes/assumptions/61.md. -/
def xtalEvent (s : State) : State :=
  s.event 0x84 0xFF (bytesLE 1 (b2n (s.flag R.XTAL_STATUS_x32_rc) + 2 * b2n (!s.flag R.XTAL_STATUS_x25_ok)))

/-- The 25 MHz reference is lost in Run or Doze (R590). Log: DEDUCED notes/assumptions/61.md. -/
def refClockLossOf (s : State) : State :=
  if 2 ≤ s.get R.PWR_STATUS_state then s
  else
    let s := ((s.setFlag R.CLK_STATUS_ref_lost true).setFlag R.XTAL_STATUS_x25_ok false).xtalEvent
    s.duskStartOf 3

/-- What the store keeps of itself without supply: its wear, its remap, its append points and what has become volatile (R593).
Log: DEDUCED notes/assumptions/62.md. -/
def storeKept (s : State) : Store :=
  { State.reset.ps with clears := s.ps.clears, remap := s.ps.remap, appendAt := s.ps.appendAt, logIndex := s.ps.logIndex,
                        victims := s.ps.victims, volatile_ := s.ps.volatile_, mapLost := s.ps.mapLost, used := s.ps.used,
                        retired := s.ps.retired }

/-- What Off keeps: the parameter store, and that a Dusk was on record (R593, R607); host memory and what the device has sent lie
outside it. Log: DEDUCED notes/assumptions/62.md. -/
def supplyFallOf (s : State) : State :=
  { State.reset with
    mem := s.mem.filter fun c => decide (paramStore ≤ c.1) && decide (c.1 < paramStore + 0x800000)
    host := s.host
    ps := s.storeKept
    hamper := { State.reset.hamper with sent := s.hamper.sent }
    usfen := { State.reset.usfen with wire := s.usfen.wire }
    freeCtr := s.freeCtr
    lookout := { State.reset.lookout with off := true, duskSeen := s.lookout.duskSeen, dawnCause := none }
    pending := s.pending }

end State

/-- DOZE_REQUEST (R596). -/
def execDozeRequest (s : State) : Res := .next (s.powerRequest 1)

/-- TWILIGHT_REQUEST (R596). -/
def execTwilightRequest (s : State) : Res := .next (s.powerRequest 2)

/-- NIGHT_REQUEST (R596). -/
def execNightRequest (s : State) : Res := .next (s.powerRequest 3)

/-- DUSK_TEST (R601): in bench mode Dusk runs with cause TEST. -/
def execDuskTest (s : State) : Res := .next (s.duskStartOf 4)

/-- AUTO_DOZE (R599). -/
def execAutoDoze (s : State) : Res := .next s.autoDozeOf

/-- DEVICE_WAKE (R600): wake source `b` fires. -/
def execDeviceWake (b : Fin 7) (s : State) : Res := .next (s.deviceWakeOf b)

/-- LK_ALARM_ARM (R601): the write of LK_ALARM_HI. -/
def execLkAlarmArm (who : Requester) (v : Word) (s : State) : Res := .next (s.lkAlarmArmOf who v)

/-- DUSK_START (R605): the cause VSYS, VDD or CLOCK. -/
def execDuskStart (cause : Fin 3) (s : State) : Res := .next (s.duskStartOf (cause.val + 1))

/-- DUSK_OUTCOME (R607). -/
def execDuskOutcome (s : State) : Res := .next s.duskOutcomeOf

/-- X32_LOSS (R589). -/
def execX32Loss (s : State) : Res :=
  .next ((s.setFlag R.XTAL_STATUS_x32_rc true).setFlag R.XTAL_STATUS_x32_ok false).xtalEvent

/-- X32_RESTORE (R589). -/
def execX32Restore (s : State) : Res :=
  .next ((s.setFlag R.XTAL_STATUS_x32_rc false).setFlag R.XTAL_STATUS_x32_ok true)

/-- REF_CLOCK_LOSS (R590). -/
def execRefClockLoss (s : State) : Res := .next s.refClockLossOf

/-- SUPPLY_FALL (R604). -/
def execSupplyFall (s : State) : Res := .next s.supplyFallOf

end Sys2Proof.Machine
end

