-- ==== Sys2Proof/Machine/Serial.lean ====
section
/-! DEFINITION. The SPI controller ports and execute-in-place (22_serial_ports.md R635 to R645). -/

namespace Sys2Proof.Machine
namespace State

/-! ### Controller ports -/

/-- A controller port beside its registers. -/
def spc (s : State) (k : Fin 4) : Spc := s.spcs[k]

/-- Replace a controller port; SPC_STATUS shows the levels of its FIFOs (R637). -/
def setSpc (s : State) (k : Fin 4) (p : Spc) : State :=
  ({ s with spcs := s.spcs.set k p }.set R.SPC_STATUS_tx_level p.tx.length k).set R.SPC_STATUS_rx_level p.rx.length k

/-- A go, flush or abort is refused (R638). -/
def spcRefuse (s : State) (k : Fin 4) : State := s.setFlag R.SPC_STATUS_cmd_refused true k

/-- The levels that CSk_A and CSk_B drive: active low or high as csa_low and csb_low set (R635, R636). -/
def csLevels (s : State) (k : Fin 4) : Bool × Bool :=
  ((s.spc k).csA != s.flag R.SPC_CFG_csa_low k, (s.spc k).csB != s.flag R.SPC_CFG_csb_low k)

/-- The half period h of SCK in ns (R636). -/
def spcHalf (s : State) (k : Fin 4) : Nat := 5 * (s.get R.SPC_CFG_div k + 1)

/-- From go taking effect to the last SCK edge of a frame of `words` words, in ns: the strobe of a decoded select at h, the first edge
lead × h after the select, then one edge every h (R639). -/
def spcEdges (s : State) (k : Fin 4) (words : Nat) : Nat :=
  s.spcHalf k * ((if s.get R.SPC_FRAME_sel k = 1 then 1 else 0) + max 1 (s.get R.SPC_FRAME_lead k)
    + 2 * words * (s.get R.SPC_CFG_bits k + 1) - 1)

/-- The select that SPC_FRAMEk names is asserted (R639). -/
def spcSelect (s : State) (k : Fin 4) (p : Spc) : Spc :=
  match s.get R.SPC_FRAME_sel k with
  | 1 => { p with code := s.get R.SPC_FRAME_code k, strobe := true }
  | 2 => { p with csA := true }
  | 3 => { p with csB := true }
  | _ => p

/-- The select of the frame that ends is released, whatever SPC_FRAMEk holds by then; SELk keeps its code (R639). -/
def spcRelease (p : Spc) : Spc := { p with strobe := false, csA := false, csB := false }

/-- The frame that waits starts (R639, R645). -/
def spcBegin (s : State) (k : Fin 4) : State :=
  let p := s.spcSelect k (s.spc k)
  let last := s.now + s.spcEdges k ((p.frame.map (·.1)).getD 0)
  (s.setFlag R.SPC_STATUS_xip_wait false k).setSpc k
    { p with lastEdge := last, endsAt := last + s.spcHalf k * max 1 (s.get R.SPC_FRAME_lag k) }

/-- SPC_CMD.go (R638, R639): on SPC0 a frame waits while discovery holds the port (R645).
Log: DEDUCED notes/assumptions/63.md. -/
def spcGo (s : State) (k : Fin 4) : State :=
  let need := s.get R.SPC_FRAME_count k + 1
  let p := s.spc k
  if ¬ s.flag R.SPC_CFG_enable k ∨ s.flag R.SPC_STATUS_busy k ∨ p.tx.length < need ∨ 32 - p.rx.length < need ∨
      (s.get R.SPC_FRAME_sel k = 2 ∧ k = 0 ∧ s.flag R.XIP_CFG_enable) then s.spcRefuse k
  else
    let s := (s.setFlag R.SPC_STATUS_busy true k).setSpc k { p with frame := some (need, false) }
    if k = 0 ∧ s.flag R.XIP_STATUS_busy then s.setFlag R.SPC_STATUS_xip_wait true k else s.spcBegin k

/-- SPC_CMD.flush_tx or flush_rx (R637, R638). -/
def spcFlush (s : State) (k : Fin 4) (tx : Bool) : State :=
  if s.flag R.SPC_STATUS_busy k then s.spcRefuse k
  else s.setSpc k (if tx then { s.spc k with tx := [] } else { s.spc k with rx := [] })

/-- SPC_CMD.abort (R638, R640); on the clock of the last SCK edge, and after it, the frame completes normally (R652).
Log: DEDUCED notes/assumptions/63.md. -/
def spcAbort (s : State) (k : Fin 4) (last : Bool) : State :=
  match (s.spc k).frame with
  | none => s.spcRefuse k
  | some f => if last ∨ (s.spc k).lastEdge ≤ s.now ∧ ¬ s.flag R.SPC_STATUS_xip_wait k then s else s.setSpc k { s.spc k with frame := some (f.1, true) }

/-- A write of SPC_TXk (R637). -/
def spcPush (s : State) (k : Fin 4) (w : Word) : State :=
  if 32 ≤ (s.spc k).tx.length then s.setFlag R.SPC_STATUS_tx_overflow true k
  else s.setSpc k { s.spc k with tx := (s.spc k).tx ++ [w] }

/-- A read of SPC_RXk: the word and the state after it (R637). -/
def spcPop (s : State) (k : Fin 4) : Word × State :=
  match (s.spc k).rx with
  | [] => (0, s.setFlag R.SPC_STATUS_rx_underflow true k)
  | w :: l => (w, s.setSpc k { s.spc k with rx := l })

/-- A frame ends with the words received: all of it at its time, or after an abort as many as had started (R639, R640).
Log: DEDUCED notes/assumptions/63.md. -/
def spcDone (s : State) (k : Fin 4) (got : List Word) : State :=
  match (s.spc k).frame with
  | none => s
  | some (need, abort) =>
    if s.flag R.SPC_STATUS_xip_wait k && !abort || (if abort then decide (need < got.length) else decide (got.length ≠ need) || decide (s.now < (s.spc k).endsAt)) then s
    else
      let len := s.get R.SPC_CFG_bits k + 1
      let p := s.spc k
      let words := got.map fun w => BitVec.ofNat 32 (w.toNat % 2 ^ len)
      let s := s.setSpc k (spcRelease { p with
        tx := p.tx.drop got.length, rx := p.rx ++ words, frame := none
        sent := (p.tx.take got.length).map fun w => BitVec.ofNat 32 (w.toNat % 2 ^ len) })
      let s := (s.setFlag R.SPC_STATUS_busy false k).setFlag R.SPC_STATUS_xip_wait false k
      let s := s.setFlag R.SPC_STATUS_aborted abort k
      let s := if abort then s else s.bump R.SPC_STATUS_done k
      match s.lookout.entry with
      | some t => if s.spcBusy then s else (s.modLookout fun l => { l with entry := none }).powerEnter t
      | none => s

/-- A write of SPC_CFGk (R636). -/
def writeSpcCfg (s : State) (k : Fin 4) (v : Word) : State :=
  if s.flag R.SPC_STATUS_busy k ∨ bits v.toNat 15 8 = 0 ∨ bits v.toNat 4 0 < 3 then s.setFlag R.SPC_STATUS_cfg_refused true k
  else s.wr (R.SPC_CFG.at k) (v &&& 0xFF00FF1F)

/-! ### Execute in place (R641 to R645) -/

/-- Discovery begins (R643). -/
def xipDiscover (s : State) : State :=
  if s.flag R.XIP_CFG_enable then (s.setFlag R.XIP_STATUS_ready false).setFlag R.XIP_STATUS_busy true else s

/-- A write of XIP_CFG (R642): setting enable, and rediscover, run discovery; a refused value changes nothing.
Log: DEDUCED notes/assumptions/64.md. -/
def writeXipCfg (s : State) (v : Word) : State :=
  if bits v.toNat 30 29 = 3 ∨ bits v.toNat 15 8 = 0 then s
  else
    let was := s.flag R.XIP_CFG_enable
    let s := s.wr (R.XIP_CFG.at 0) (v &&& 0xE000FF00)
    if bit v.toNat 28 || (bit v.toNat 31 && !was) then s.xipDiscover else s

/-- Size of the window in bytes (R641). -/
def xipSize (s : State) : Nat :=
  if s.flag R.XIP_STATUS_trunc then 2 ^ 24 else min (2 ^ 28) (2 ^ s.get R.XIP_STATUS_log2_bytes)

/-- An access at offset `o` of the window can be read (R641). Log: DEDUCED notes/assumptions/64.md. -/
def xipReadable (s : State) (o : Nat) : Bool :=
  s.flag R.XIP_CFG_enable && s.flag R.XIP_STATUS_ready && decide (o < s.xipSize)

/-- An access of core `k` in the window fails: XIP_ERROR, counted (R402, R641, R642). -/
def xipError (s : State) (k : Fin 66) (o : Nat) : State :=
  (s.bump R.XIP_ERR_errors).raise k 0x0B (some (BitVec.ofNat 32 (xipNor + o)))

/-- A read of one width: instruction, clocks after the address, 4-byte addresses, a truncated window (R643). -/
def xipRead (d : Sfdp) (width : Nat) : Nat × Nat × Bool × Bool :=
  let plain : Nat × Nat := match width with
    | 1 => d.quad.getD (0x0B, 8)
    | 2 => d.quadAddr.getD (0x0B, 8)
    | _ => (0x0B, 8)
  let wide (f : Nat × Nat × Nat) : Nat := match width with
    | 1 => f.2.1
    | 2 => f.2.2
    | _ => f.1
  if d.log2 ≤ 24 then (plain.1, plain.2, false, false)
  else match d.four with
    | some f => if d.addrBytes = 0 then (plain.1, plain.2, false, true) else (wide f, plain.2, true, false)
    | none => if d.addrBytes = 2 then (plain.1, plain.2, true, false) else (plain.1, plain.2, false, true)

/-- The widths that the table supports and max_width allows, widest first, 1-1-1 left out (R643).
Log: DEDUCED notes/assumptions/64.md. -/
def xipWidths (d : Sfdp) (most : Nat) : List Nat :=
  (if d.quadAddr.isSome ∧ 2 ≤ most then [2] else []) ++ (if d.quad.isSome ∧ 1 ≤ most then [1] else [])

/-- Discovery ends (R643): `d` is what it read, none without an SFDP signature; `ok` says for 1-1-4 and 1-4-4 whether the read
verifies against 0x0B in 1-1-1. A frame that waits for SPC0 starts (R645). Log: DEDUCED notes/assumptions/64.md. -/
def xipDiscovered (s : State) (d : Option Sfdp) (ok : Bool × Bool) : State :=
  if ¬ s.flag R.XIP_STATUS_busy then s
  else
    let d' := d.getD { log2 := 24, addrBytes := 0, quad := none, quadAddr := none, four := none }
    let widths := xipWidths d' (s.get R.XIP_CFG_max_width)
    let pass (w : Nat) : Bool := if w = 1 then ok.1 else ok.2
    let width := (widths.find? pass).getD 0
    let r := xipRead d' width
    let s := (s.setFlag R.XIP_STATUS_sfdp_ok d.isSome).set R.XIP_STATUS_log2_bytes d'.log2
    let s := (s.set R.XIP_STATUS_width width).set R.XIP_STATUS_instr r.1
    let s := (s.set R.XIP_STATUS_dummy r.2.1).setFlag R.XIP_STATUS_addr4 r.2.2.1
    let s := s.setFlag R.XIP_STATUS_trunc r.2.2.2
    let s := if widths.headD 0 = width then s else s.setFlag R.XIP_STATUS_fallback true
    let s := (s.setFlag R.XIP_STATUS_ready true).setFlag R.XIP_STATUS_busy false
    if s.flag R.SPC_STATUS_xip_wait 0 then s.spcBegin 0 else s

/-- Put a line into a core's fetch buffer of 32 lines (R446), or Canopy's instruction cache of 1,024 (R540); which line a full
buffer gives up is open. Log: DEDUCED notes/assumptions/64.md. -/
def bufferLine (s : State) (k : Fin 66) (l : Line) : State :=
  let b := (s.core k).fetchBuf.filter fun x => decide (x.addr ≠ l.addr)
  let most := if k.val < 64 then 32 else 1024
  let r := if b.length < most then (b, s) else (b.eraseIdx (s.fresh.1 % most), s.fresh.2)
  r.2.modCore k fun c => { c with fetchBuf := r.1 ++ [l] }

/-- A line read for core `k` at offset `o` of the window ends after `wait` units of 10 ns with its bytes, or does not complete
(R641, R644); the read of a core that has stopped is discarded (R652). Log: DEDUCED notes/assumptions/64.md. -/
def xipLine (s : State) (k : Fin 66) (o wait : Nat) (got : Option (List Byte)) : State :=
  let s := s.set R.XIP_ERR_max_wait (min 0xFFFF (max wait (s.get R.XIP_ERR_max_wait)))
  if ¬ s.coreRuns k then s
  else match got with
    | none => s.xipError k o
    | some b => s.bufferLine k { addr := xipNor + o / 32 * 32, bytes := padTo 32 b, dirty := false }

end State

/-- SPC_GO (R639). -/
def execSpcGo (k : Fin 4) (s : State) : Res := .next (s.spcGo k)

/-- SPC_FLUSH_TX (R637). -/
def execSpcFlushTx (k : Fin 4) (s : State) : Res := .next (s.spcFlush k true)

/-- SPC_FLUSH_RX (R637). -/
def execSpcFlushRx (k : Fin 4) (s : State) : Res := .next (s.spcFlush k false)

/-- SPC_ABORT (R640): `last` says that it falls on the clock of the last SCK edge. -/
def execSpcAbort (k : Fin 4) (last : Bool) (s : State) : Res := .next (s.spcAbort k last)

/-- SPC_TX_PUSH (R637). -/
def execSpcTxPush (k : Fin 4) (w : Word) (s : State) : Res := .next (s.spcPush k w)

/-- SPC_RX_POP (R637). -/
def execSpcRxPop (k : Fin 4) (s : State) : Res :=
  .next { (s.spcPop k).2 with readData := (s.spcPop k).1.toNat }

/-- SPC_FRAME_DONE (R639): the words received. -/
def execSpcFrameDone (k : Fin 4) (got : List Word) (s : State) : Res := .next (s.spcDone k got)

/-- XIP_DISCOVERY (R643). -/
def execXipDiscovery (s : State) : Res := .next s.xipDiscover

/-- XIP_DISCOVERY_DONE (R643): what the flash answered, and whether 1-1-4 and 1-4-4 verify. -/
def execXipDiscoveryDone (d : Option Sfdp) (ok114 ok144 : Bool) (s : State) : Res := .next (s.xipDiscovered d (ok114, ok144))

/-- XIP_LINE_READ (R644): the line at offset `o` for core `k`. -/
def execXipLineRead (k : Fin 66) (o : BitVec 28) (wait : Nat) (got : Option (List Byte)) (s : State) : Res :=
  .next (s.xipLine k o.toNat wait got)

end Sys2Proof.Machine
end

