-- ==== Sys2Proof/Machine/HamperOps.lean ====
section
/-! DEFINITION. Hamper's rings as the host sets them up and follows them: ring configuration, doorbells, errors, the
journal's arbitration, the mailbox (15_hamper_rings.md R454 to R460, R473 to R475, R481, R482, R485). -/

namespace Sys2Proof.Machine
namespace State

/-- Change Hamper's state. -/
def modHamper (s : State) (f : Hamper → Hamper) : State := { s with hamper := f s.hamper }

/-! ### Errors (R475) -/

/-- HAMPER_STATUS.err_rings counts the rings in ERROR (R461). Log: DEDUCED notes/assumptions/66.md. -/
def showErrRings (s : State) : State :=
  s.set R.HAMPER_STATUS_err_rings
    (((List.range 128).filter fun q => decide (s.get R.SQ_STATUS_state q = 2)).length +
     ((List.range 64).filter fun c => decide (s.get R.CQ_STATUS_state c = 2)).length + s.hamper.evErr.length)

/-- The scheduled commands of a queue that have not acted complete ABORTED (R475). Log: DEDUCED notes/assumptions/67.md. -/
def abortScheds (s : State) (q : Nat) : State :=
  let mine := s.hamper.scheds.filter fun x => x.desc.ref.own && decide (x.desc.ref.sq = q)
  let s := s.modHamper fun h => { h with scheds := h.scheds.filter fun x => !(x.desc.ref.own && decide (x.desc.ref.sq = q)) }
  mine.foldl (fun (s : State) (x : Sched) => s.complete x.desc.ref 0x10) s

/-- A submission queue enters ERROR (R475). Log: DEDUCED notes/assumptions/67.md. -/
def sqError (s : State) (q code : Nat) : State :=
  if s.get R.SQ_STATUS_state q = 2 then s
  else
    let s := ((s.set R.SQ_STATUS_state 2 q).set R.SQ_STATUS_error code q).showErrRings
    (s.sendVector (s.get R.HAMPER_CTL_err_vector)).abortScheds q

/-- A completion queue enters ERROR (R475). -/
def cqError (s : State) (c code : Nat) : State :=
  if s.get R.CQ_STATUS_state c = 2 then s
  else
    let s := ((s.set R.CQ_STATUS_state 2 c).set R.CQ_STATUS_error code c).showErrRings
    s.sendVector (s.get R.HAMPER_CTL_err_vector)

/-- An event ring enters ERROR: it takes no record (R456, R475). -/
def evError (s : State) (e : Nat) : State :=
  if s.hamper.evErr.contains e then s
  else
    let s := (s.modHamper fun h => { h with evErr := e :: h.evErr }).showErrRings
    s.sendVector (s.get R.HAMPER_CTL_err_vector)

/-! ### Ring configuration (R457 to R460, R485, R506) -/

/-- Submission and completion rings can be enabled only under a PCIe host (R485, R506). -/
def maySubmit (s : State) (v : Word) : Bool := !bit v.toNat 31 || decide (s.hostKind = 1)

/-- Event and journal rings can be enabled unless the host is on SPT (R485, R506). -/
def mayRecord (s : State) (v : Word) : Bool := !bit v.toNat 31 || decide (s.hostKind ≠ 2)

/-- k of a ring's configuration word is legal (R454). Log: DEDUCED notes/assumptions/66.md. -/
def sizeOk (v : Word) : Bool := decide (4 ≤ bits v.toNat 28 24) && decide (bits v.toNat 28 24 ≤ 16)

/-- A segment that the disabled queue holds is not placed and completes ABORTED (R486).
Log: DEDUCED notes/assumptions/67.md. -/
def abortHeld (s : State) (q : Nat) : State :=
  let mine := s.hamper.heldSegs.filter fun d => d.ref.own && decide (d.ref.sq = q)
  let s := s.modHamper fun h => { h with heldSegs := h.heldSegs.filter fun d => !(d.ref.own && decide (d.ref.sq = q)) }
  mine.foldl (fun (s : State) (d : Desc) => s.complete d.ref 0x10) s

/-- A write of SQ_CFG (R457). Log: DEDUCED notes/assumptions/66.md. -/
def writeSqCfg (s : State) (q : Nat) (v : Word) : State :=
  if ¬ sizeOk v ∨ ¬ s.maySubmit v then s
  else
    let was := s.flag R.SQ_CFG_enable q
    let s := s.wr (R.SQ_CFG.at q) (v &&& 0x9F3FF000)
    if bit v.toNat 31 ∧ ¬ was then
      ((s.set R.SQ_HEAD_head 0 q).set R.SQ_TAIL_tail 0 q).set R.SQ_STATUS_state 1 q
    else if ¬ bit v.toNat 31 ∧ was then
      (((s.set R.SQ_STATUS_state 0 q).showErrRings).abortHeld q).abortScheds q
    else s

/-- A write of CQ_CFG (R458). Log: DEDUCED notes/assumptions/66.md. -/
def writeCqCfg (s : State) (c : Nat) (v : Word) : State :=
  if ¬ sizeOk v ∨ ¬ s.maySubmit v then s
  else
    let was := s.flag R.CQ_CFG_enable c
    let s := s.wr (R.CQ_CFG.at c) (v &&& 0x9F3FFFFF)
    if bit v.toNat 31 ∧ ¬ was then
      (((s.set R.CQ_HEAD_head 0 c).set R.CQ_TAIL_tail 0 c).set R.CQ_STATUS_state 1 c).setCoal c 0
    else if ¬ bit v.toNat 31 ∧ was then (s.set R.CQ_STATUS_state 0 c).showErrRings
    else s

/-- The records that event ring `e` is owed since Dawn are written as it is enabled (R607, R656).
Log: DEDUCED notes/assumptions/71.md. -/
def giveOwed (s : State) (e : Nat) : State :=
  if s.hamper.owedTo.contains e then s
  else s.hamper.owed.foldl (fun (s : State) (o : Nat × Nat × Nat × List Byte) =>
    eventToRing e o.2.2.1 0xFF o.1 o.2.1 o.2.2.2 s) (s.modHamper fun h => { h with owedTo := e :: h.owedTo })

/-- A write of EV_CFG (R459). Log: DEDUCED notes/assumptions/66.md. -/
def writeEvCfg (s : State) (e : Nat) (v : Word) : State :=
  if ¬ sizeOk v ∨ ¬ s.mayRecord v then s
  else
    let was := s.flag R.EV_CFG_enable e
    let s := s.wr (R.EV_CFG.at e) (v &&& 0x9F3FFFFF)
    if bit v.toNat 31 ∧ ¬ was then
      (((s.set R.EV_HEAD_head 0 e).set R.EV_TAIL_tail 0 e).setCoal (64 + e) 0).giveOwed e
    else if ¬ bit v.toNat 31 ∧ was then (s.modHamper fun h => { h with evErr := h.evErr.filter (· ≠ e) }).showErrRings
    else s

/-- Head and tail of a journal ring (R460). -/
def jrHead (s : State) (j : Nat) : Nat := s.get64 R.JR_HEAD_LO_head R.JR_HEAD_HI_head j
def jrTail (s : State) (j : Nat) : Nat := s.get64 R.JR_TAIL_LO_tail R.JR_TAIL_HI_tail j

/-- A write of JR_CFG (R460). Log: DEDUCED notes/assumptions/66.md. -/
def writeJrCfg (s : State) (j : Nat) (v : Word) : State :=
  let k := bits v.toNat 29 24
  if k < 16 ∨ 52 < k ∨ ¬ s.mayRecord v then s
  else
    let was := s.flag R.JR_CFG_enable j
    let s := s.wr (R.JR_CFG.at j) (v &&& 0xBF3F003F)
    if bit v.toNat 31 ∧ ¬ was then
      (s.set64 R.JR_HEAD_LO_head R.JR_HEAD_HI_head 0 j).set64 R.JR_TAIL_LO_tail R.JR_TAIL_HI_tail 0 j
    else s

/-! ### Doorbells and heads (R455, R456, R460, R509) -/

/-- A bad doorbell or a refused head is counted. -/
def dbBad (s : State) : State := s.bump R.HAMPER_DB_BAD_count

/-- A head that stays between the present head and the tail of a ring of 2^k entries (R456). -/
def headOk (ph k tail old new : Nat) : Bool :=
  decide (new % 2 ^ ph < 2 ^ k) && decide (wrapFill ph k tail new ≤ wrapFill ph k tail old)

/-- A doorbell moves the tail of submission queue `q` (R456). -/
def sqDoorbell (s : State) (q : Nat) (v : Word) : State :=
  let idx := v.toNat % 2 ^ 17
  let k := s.get R.SQ_CFG_size_log2 q
  if ¬ s.flag R.SQ_CFG_enable q then s.dbBad
  else if bits v.toNat 23 17 ≠ 0 ∨ 2 ^ k ≤ idx % 65536 ∨ 2 ^ k < ringFill k idx (s.get R.SQ_HEAD_head q) then
    s.dbBad.sqError q 0x15
  else s.set R.SQ_TAIL_tail idx q

/-- A doorbell moves the head of completion queue `c` (R456). -/
def cqDoorbell (s : State) (c : Nat) (v : Word) : State :=
  let idx := v.toNat % 2 ^ 17
  if ¬ s.flag R.CQ_CFG_enable c then s.dbBad
  else if bits v.toNat 23 17 ≠ 0 ∨
      ¬ headOk 16 (s.get R.CQ_CFG_size_log2 c) (s.get R.CQ_TAIL_tail c) (s.get R.CQ_HEAD_head c) idx then
    s.dbBad.cqError c 0x15
  else s.set R.CQ_HEAD_head idx c

/-- A head for event ring `e`: it moves the head, or is refused (R456). -/
def evHead (s : State) (e idx : Nat) : Option State :=
  if headOk 16 (s.get R.EV_CFG_size_log2 e) (s.get R.EV_TAIL_tail e) (s.get R.EV_HEAD_head e) idx then
    some (s.set R.EV_HEAD_head idx e)
  else none

/-- A doorbell moves the head of an event ring; its remaining qids are reserved (R456). -/
def evDoorbell (s : State) (v : Word) : State :=
  let qid := bits v.toNat 31 24
  if 0xC8 ≤ qid ∨ ¬ s.flag R.EV_CFG_enable (qid - 0xC0) then s.dbBad
  else if bits v.toNat 23 17 ≠ 0 then s.dbBad.evError (qid - 0xC0)
  else (s.evHead (qid - 0xC0) (v.toNat % 2 ^ 17)).getD (s.dbBad.evError (qid - 0xC0))

/-- One 32-bit write to the doorbell range of BAR2 (R455): it needs a PCIe host whose block is not held in reset (R706), and ends Doze (R599). -/
def doorbell (s : State) (v : Word) : State :=
  let qid := bits v.toNat 31 24
  if s.hostKind ≠ 1 ∨ s.perst then s
  else
    let s := s.dozeWake
    if qid < 0x80 then s.sqDoorbell qid v
    else if qid < 0xC0 then s.cqDoorbell (qid - 0x80) v
    else s.evDoorbell v

/-- A head for journal ring `j`: it moves the head, or is refused (R460). -/
def putJrHead (s : State) (j head : Nat) : Option State :=
  let k := s.get R.JR_CFG_size_log2 j
  if head % 64 = 0 ∧ headOk 52 k (s.jrTail j) (s.jrHead j) head then
    some (s.set64 R.JR_HEAD_LO_head R.JR_HEAD_HI_head head j)
  else none

/-- The host writes JR_HEAD (R460); it is refused while the head mirror is enabled (R509). -/
def writeJrHead (s : State) (j head : Nat) : State :=
  if s.flag R.USF_MIRROR_CFG_enable then s else (s.putJrHead j (head % 2 ^ 53)).getD s.dbBad

/-! ### Coalescing and held completions (R473, R474) -/

/-- coal_us, not 0, has passed since the first unsignalled entry of ring `r` (R473). -/
def coalDue (s : State) (r us : Nat) : Bool :=
  decide (us ≠ 0) && decide ((sparseFind r s.hamper.coalAt).getD 0 + us * 1000 ≤ s.now)

/-- coal_us of ring `r` has passed since its first unsignalled entry: its vector is sent (R473). A device without a host
sends it behind a rewrite of the ring's last record. Log: DEDUCED notes/assumptions/69.md. -/
def coalTimer (s : State) (r : Nat) : State :=
  if s.coalCount r = 0 then s
  else if r < 64 then
    if ¬ s.coalDue r (s.get R.CQ_CFG_coal_us r) then s else (s.setCoal r 0).sendVector (s.get R.CQ_CFG_vector r)
  else
    let e := r - 64
    if ¬ s.coalDue r (s.get R.EV_CFG_coal_us e) then s
    else
      let s := s.setCoal r 0
      if s.isRoot then s.sendVector (s.get R.EV_CFG_vector e)
      else
        let k := s.get R.EV_CFG_size_log2 e
        let last := (s.get R.EV_TAIL_tail e % 65536 + 2 ^ k - 1) % 2 ^ k
        s.toHost (s.fbit R.USF_RING_SIDE_ev_via_d e) (s.get64 R.EV_BASE_LO_base R.EV_BASE_HI_base e + 32 * last)
          ((sparseFind e s.hamper.evLast).getD []) (some (s.get R.EV_CFG_vector e))

/-- A completion that the mailbox holds moves into its FIFO as it has space (R485). -/
def refillMailbox (s : State) : State :=
  match s.hamper.heldCpls with
  | [] => s
  | h :: l =>
    if 64 ≤ s.hamper.cplFifo.length then s
    else
      let s := s.modHamper fun x => { x with heldCpls := l, cplFifo := x.cplFifo ++ [withPhase h.bytes 1] }
      s.set R.MB_STATUS_completions s.hamper.cplFifo.length

/-- The oldest completion held for CQ `c` is written once the CQ has space (R474). -/
def releaseCpl (s : State) (c : Nat) : State :=
  if s.hostKind = 2 then s.refillMailbox
  else
    match s.hamper.heldCpls.find? fun h => decide (h.cq = c) with
    | none => s
    | some h =>
      if s.get R.CQ_STATUS_state c ≠ 1 ∨ ¬ s.cqSpace c then s
      else (s.modHamper fun x => { x with heldCpls := x.heldCpls.erase h }).cplWrite c h.bytes h.irq

/-! ### The journal (R479 to R482) -/

/-- The requester of a staged record: its tile, or 64 for the device. -/
def stagedBy (r : Staged) : Nat := min r.tile 64

/-- A requester's journal weight (R461). -/
def jrWeight (s : State) (q : Nat) : Nat :=
  if q < 64 then bits (s.get R.HAMPER_WEIGHT_nibbles (q / 8)) (4 * (q % 8) + 3) (4 * (q % 8))
  else s.get R.HAMPER_CTL_dev_weight

/-- The bytes that a record of `size` bytes takes of ring `j`, with the PAD before it (R481). -/
def jrNeed (s : State) (j size : Nat) : Nat :=
  let left := 2 ^ s.get R.JR_CFG_size_log2 j - s.jrTail j % 2 ^ 52
  if size ≤ left then size else left + size

/-- Ring `j` has the room for a staged record (R481). -/
def jrRoom (s : State) (r : Staged) : Bool :=
  let k := s.get R.JR_CFG_size_log2 r.ring
  decide (wrapFill 52 k (s.jrTail r.ring) (s.jrHead r.ring) + s.jrNeed r.ring (64 * len64 r.body.length) ≤ 2 ^ k)

/-- The first staged record of each requester and ring. Log: DEDUCED notes/assumptions/68.md. -/
def stagedFirsts : List Staged → List (Nat × Nat) → List Staged
  | [], _ => []
  | r :: l, seen =>
    if seen.contains (stagedBy r, r.ring) then stagedFirsts l seen
    else r :: stagedFirsts l ((stagedBy r, r.ring) :: seen)

/-- The staged records that can be written now. -/
def stagedReady (s : State) : List Staged := (stagedFirsts s.hamper.staged []).filter s.jrRoom

/-- The turn of the journal's round robin passes on; the requester that takes it gains its credit when it has staged
records (R482). Log: DEDUCED notes/assumptions/68.md. -/
def nextTurn (s : State) (t : Nat) : State :=
  let u := (t + 1) % 65
  let gain := if s.hamper.staged.any fun r => decide (stagedBy r = u) then 256 * s.jrWeight u else 0
  s.modHamper fun h => { h with jrTurn := u, jrCredit := sparsePut 0 u ((sparseFind u h.jrCredit).getD 0 + gain) h.jrCredit }

/-- The record that the deficit round robin serves next (R482): the requester in turn spends its credit, and a requester
gains w × 256 bytes as its turn comes. Log: DEDUCED notes/assumptions/68.md. -/
def jrServe (s : State) (ready : List Staged) : Nat → Option (Staged × State)
  | 0 => none
  | fuel + 1 =>
    let t := s.hamper.jrTurn
    let credit := (sparseFind t s.hamper.jrCredit).getD 0
    match ready.find? fun r => decide (stagedBy r = t) with
    | some r =>
      let size := 64 * len64 r.body.length
      if size ≤ credit then some (r, s.modHamper fun h => { h with jrCredit := sparsePut 0 t (credit - size) h.jrCredit })
      else (s.nextTurn t).jrServe ready fuel
    | none =>
      let idle := s.hamper.staged.all fun r => decide (stagedBy r ≠ t)
      let s := if idle then s.modHamper fun h => { h with jrCredit := sparsePut 0 t 0 h.jrCredit } else s
      (s.nextTurn t).jrServe ready fuel

/-- The record to write next: a requester of weight 0 is served only when no other waits (R482). -/
def jrNext (s : State) : Option (Staged × State) :=
  let ready := s.stagedReady
  let heavy := ready.filter fun r => decide (0 < s.jrWeight (stagedBy r))
  if heavy.isEmpty then ready.head?.map fun r => (r, s) else s.jrServe heavy 1300

/-- Bytes sent to host memory in pieces of at most 256, the vector behind the last (R498, R507). -/
def toHostAll (s : State) (viaD : Bool) (addr : Nat) (b : List Byte) (vec : Option Nat) : Nat → State
  | 0 => s
  | fuel + 1 =>
    if b.length ≤ 256 ∨ s.isRoot then s.toHost viaD addr b vec
    else (s.toHost viaD addr (b.take 256) none).toHostAll viaD (addr + 256) (b.drop 256) vec fuel

/-- Advance a journal index by `n` bytes in a ring of 2^k bytes. -/
def jrAdvance (k idx n : Nat) : Nat :=
  if idx % 2 ^ 52 + n = 2 ^ k then (1 - idx / 2 ^ 52 % 2) * 2 ^ 52 else idx + n

/-- One record at the tail of ring `j`, in `size` bytes (R479, R481): a message when the tail crosses a notify boundary. -/
def jrPut (s : State) (j kind tile time epoch flags size : Nat) (body : List Byte) : State :=
  let k := s.get R.JR_CFG_size_log2 j
  let tail := s.jrTail j
  let seq := (sparseFind j s.hamper.jrSeq).getD 0
  let b := bytesLE 1 kind ++ bytesLE 1 tile ++ bytesLE 2 (size / 64) ++ bytesLE 4 seq ++ bytesLE 8 time ++ bytesLE 1 epoch
    ++ bytesLE 1 flags ++ List.replicate 6 0 ++ body
  let new := jrAdvance k tail size
  let m := 2 ^ max 12 (s.get R.JR_CFG_notify j)
  let crosses := decide (new % 2 ^ 52 / m ≠ tail % 2 ^ 52 / m) || decide (new % 2 ^ 52 = 0)
  let s := s.modHamper fun h => { h with jrSeq := sparsePut 0 j ((seq + 1) % 2 ^ 32) h.jrSeq }
  let s := s.set64 R.JR_TAIL_LO_tail R.JR_TAIL_HI_tail new j
  s.toHostAll (s.fbit R.USF_RING_SIDE_jr_via_d j)
    (s.get64 R.JR_BASE_LO_base R.JR_BASE_HI_base j + tail % 2 ^ 52) (padTo size b)
    (if crosses then some (s.get R.JR_CFG_vector j) else none) (size / 256 + 1)

/-- Hamper writes the next staged record, behind a PAD when it does not fit before the ring's end (R481, R482). A record
whose ring is not enabled is dropped. Log: DEDUCED notes/assumptions/68.md. -/
def journalWrite (s : State) : State :=
  match s.hamper.staged.find? fun r => decide (¬ s.flag R.JR_CFG_enable r.ring) with
  | some r => s.modHamper fun h => { h with staged := h.staged.erase r }
  | none =>
    match s.jrNext with
    | none => s
    | some (r, s) =>
      let size := 64 * len64 r.body.length
      let left := 2 ^ s.get R.JR_CFG_size_log2 r.ring - s.jrTail r.ring % 2 ^ 52
      let lost := s.hamper.jrLost.contains r.ring
      let s := s.modHamper fun h => { h with staged := h.staged.erase r, jrLost := h.jrLost.filter (· ≠ r.ring) }
      let s := if left < size then s.jrPut r.ring 0xFF 0xFF r.time r.epoch 0 left [] else s
      s.jrPut r.ring r.kind r.tile r.time r.epoch (b2n lost) size r.body

/-! ### The mailbox (R485) -/

/-- The number of EXT slots that a first slot asks for (R465 to R467, R572). Log: DEDUCED notes/assumptions/77.md. -/
def extCount (slot : List Byte) : Nat :=
  let op := fieldLE slot 0 1
  if op = 0x09 then (if 12 < fieldLE slot 0x24 1 then 1 else 0)
  else if op = 0x0B then (min 16 (fieldLE slot 0x22 1) + 2) / 3
  else if op = 0x41 then 1
  else 0

/-- The slots pushed make a whole command; an EXT slot met first stands alone (R465).
Log: DEDUCED notes/assumptions/77.md. -/
def mailWhole (l : List (List Byte)) : Bool :=
  match l with
  | [] => false
  | f :: _ => decide (fieldLE f 0 1 = 0xFE) || decide (extCount f + 1 ≤ l.length)

/-- MB_CTL.go (R485): the slot is submitted as the next slot of SQ 0, or go is refused.
Log: DEDUCED notes/assumptions/77.md. -/
def mailboxGo (s : State) : State :=
  if s.hostKind ≠ 2 ∨ s.flag R.MB_CTL_busy ∨ 64 ≤ s.hamper.cplFifo.length then s
  else
    let slot := (List.range 16).flatMap fun i => bytesLE 4 (s.get (R.MB_DESC_word) i)
    let s := s.modHamper fun h => { h with mbSlots := h.mbSlots ++ [slot] }
    s.setFlag R.MB_CTL_busy (mailWhole s.hamper.mbSlots)

/-- Word `i` of the oldest entry of a FIFO; an empty FIFO reads 0 (R485). -/
def fifoWord (l : List (List Byte)) (i : Nat) : Nat :=
  match l with
  | b :: _ => fieldLE b (4 * i) 4
  | [] => 0

/-- A read of MB_CPL3 returns the last word of the oldest completion and pops it. -/
def popCpl (s : State) : Nat × State :=
  let v := fifoWord s.hamper.cplFifo 3
  let s := s.modHamper fun h => { h with cplFifo := h.cplFifo.drop 1 }
  (v, (s.set R.MB_STATUS_completions s.hamper.cplFifo.length).refillMailbox)

/-- A read of MB_EVT7 returns the last word of the oldest event record and pops it. -/
def popEvt (s : State) : Nat × State :=
  let v := fifoWord s.hamper.evFifo 7
  let s := s.modHamper fun h => { h with evFifo := h.evFifo.drop 1 }
  (v, s.set R.MB_STATUS_events s.hamper.evFifo.length)

end State
end Sys2Proof.Machine
end

