-- ==== Sys2Proof/Machine/DebugOps.lean ====
section
/-! DEFINITION. The special registers of the Hiker cores (13_hiker_cores.md R393, R394, 18_canopy.md R541), halts of the
cores by the debugger (23_dawn_and_debug.md R665 to R670, 18_canopy.md R551), and the test access port's hold on the gate
pins (R663, R664). -/

namespace Sys2Proof.Machine

/-- The bits that STATUS and ESTATUS hold (R394). -/
def statusMask : Word := 0xFC00000F#32

namespace State

/-! ### Special registers -/

/-- CORE_CFG of a Canopy core (R541). -/
def coreCfg (s : State) (one : Bool) : Word :=
  BitVec.ofNat 32 (b2n s.split * 2 ^ 31 + b2n (s.split && one) * 2 ^ 30 + b2n (s.flag R.CANOPY_STATUS_dbg_split) * 2 ^ 29
    + b2n s.bench * 2 ^ 28)

/-- A Canopy special register, 16 to 26 (R541); none where the number is reserved. -/
def readCanopySpecial (s : State) (one : Bool) (num : Nat) : Option Word :=
  match num with
  | 16 => some (s.rd R.VETO_LO.off)
  | 17 => some (s.rd R.VETO_HI.off)
  | 18 => some 0
  | 19 => some 0
  | 20 => some 0
  | 21 => some (BitVec.ofNat 32 (s.get R.TRIP_LOCK_lock + 2 * b2n (allTiles.all fun n => s.flag R.FB_LOCK_lock n)))
  | 22 => some (s.coreCfg one)
  | 23 => some (s.rd R.CANOPY_SELFTEST.off)
  | 24 => some (s.rd R.GOV_GRANT_LO.off)
  | 25 => some (s.rd R.GOV_GRANT_HI.off)
  | 26 => some (s.rd R.GOV_LEND.off)
  | _ => none

/-- A write of a Canopy special register; writes of the read-only ones have no effect (R541). -/
def writeCanopySpecial (s : State) (one : Bool) (num : Nat) (v : Word) : Option State :=
  match num with
  | 16 => some (s.writeVetoRaise one false v)
  | 17 => some (s.writeVetoRaise one true v)
  | 18 => some (s.writeVetoDrop one false v)
  | 19 => some (s.writeVetoDrop one true v)
  | 20 => some (s.writeScanKick one)
  | 21 => some (s.writeLocks one v)
  | 22 => some s
  | 23 => some s
  | 24 => some (s.writeGrant one false v)
  | 25 => some (s.writeGrant one true v)
  | 26 => some (s.writeLend one v)
  | _ => none

/-- CORE_ID (R393). -/
def coreId (k : Fin 66) : Word := if k.val < 64 then BitVec.ofNat 32 k.val else 0x80000000#32

/-- The special register `num` of a core (R393); none where the core has no such register. CYCLE counts clocks, which the
model leaves out: its value is free. Log: DESIGN CHOICE notes/assumptions/3.md; DEDUCED notes/assumptions/73.md. -/
def readSpecial (s : State) (k : Fin 66) (num : Nat) : Option (Word × State) :=
  let c := s.core k
  match num with
  | 0 => some (c.status, s)
  | 1 => some (c.estatus, s)
  | 2 => some (c.epc, s)
  | 3 => some (c.ecause, s)
  | 4 => some (c.ebadaddr, s)
  | 5 => some (c.vbase, s)
  | 6 => some (c.loops[0].ls, s)
  | 7 => some (c.loops[0].le, s)
  | 8 => some (c.loops[0].lc, s)
  | 9 => some (c.loops[1].ls, s)
  | 10 => some (c.loops[1].le, s)
  | 11 => some (c.loops[1].lc, s)
  | 12 => some (c.kscr[0], s)
  | 13 => some (c.kscr[1], s)
  | 14 => some (BitVec.ofNat 32 (s.fresh).1, (s.fresh).2)
  | 15 => some (coreId k, s)
  | _ => if k.val < 64 then none else (s.readCanopySpecial (k = canopy1) num).map fun w => (w, s)

/-- One loop level changed. -/
def setLevel (c : Core) (i : Fin 2) (f : LoopLevel → LoopLevel) : Core := { c with loops := c.loops.set i (f c.loops[i]) }

/-- A write of the special register `num` of a core (R393 to R395): STATUS and ESTATUS keep their reserved bits 0, VBASE
its low bits; none where the core has no such register. Log: DEDUCED notes/assumptions/73.md. -/
def writeSpecial (s : State) (k : Fin 66) (num : Nat) (v : Word) : Option State :=
  match num with
  | 0 => some (s.modCore k fun c => { c with status := v &&& statusMask })
  | 1 => some (s.modCore k fun c => { c with estatus := v &&& statusMask })
  | 2 => some (s.modCore k fun c => { c with epc := v })
  | 3 => some s
  | 4 => some (s.modCore k fun c => { c with ebadaddr := v })
  | 5 => some (s.modCore k fun c => { c with vbase := v &&& 0xFFFFFC00#32 })
  | 6 => some (s.modCore k fun c => setLevel c 0 fun l => { l with ls := v })
  | 7 => some (s.modCore k fun c => setLevel c 0 fun l => { l with le := v })
  | 8 => some (s.modCore k fun c => setLevel c 0 fun l => { l with lc := v })
  | 9 => some (s.modCore k fun c => setLevel c 1 fun l => { l with ls := v })
  | 10 => some (s.modCore k fun c => setLevel c 1 fun l => { l with le := v })
  | 11 => some (s.modCore k fun c => setLevel c 1 fun l => { l with lc := v })
  | 12 => some (s.modCore k fun c => { c with kscr := c.kscr.set 0 v })
  | 13 => some (s.modCore k fun c => { c with kscr := c.kscr.set 1 v })
  | 14 => some s
  | 15 => some s
  | _ => if k.val < 64 then none else s.writeCanopySpecial (k = canopy1) num v

/-- A general register; g0 reads 0 (R392). -/
def readG (c : Core) (r : Fin 16) : Word := if r = 0 then 0 else c.g[r]

/-- A write of a general register; g0 takes none (R392). -/
def writeG (c : Core) (r : Fin 16) (v : Word) : Core := if r = 0 then c else { c with g := c.g.set r v }

/-! ### Halts (R669, R670) -/

/-- Canopy is one of the pair that the debugger holds. -/
def canopyHalted (s : State) : Bool := s.get R.DBG_CANOPY_halted ≠ 0

/-- A core that the debugger may reach: halted (R667). -/
def isHalted (s : State) (k : Fin 66) : Bool :=
  if h : k.val < 64 then decide (s.coreState ⟨k.val, h⟩ = 4) else s.fbit R.DBG_CANOPY_halted (k - 64)

/-- A Canopy core stands halted, or runs on (R557, R665); its scan watchdog has stopped while it was halted in bench mode (R565). -/
def putCanopyHalted (s : State) (k : Fin 66) (on : Bool) : State :=
  let i : Fin 2 := if k = canopy1 then 1 else 0
  let c := s.canopy
  let s := if on then { s with canopy := { c with haltAt := c.haltAt.set i s.now } }
    else if s.bench then { s with canopy := { c with kickAt := c.kickAt.set i (c.kickAt[i] + (s.now - c.haltAt[i])) } }
    else s
  let s := s.setBit R.DBG_CANOPY_halted (k - 64) on
  if k = canopy0 then s.set R.CANOPY_STATUS_fw_state (if on then 2 else 1) else s

/-- A halt of a Canopy core takes effect (R551, R670): in lockstep core A halts, core B stops and the pair is broken until
Dawn; outside bench mode the core's tiles take lull_source bit [19]. -/
def takeCanopyHalt (s : State) (k : Fin 66) : State :=
  let s := s.modCore k fun c => { endWait c with deferred := none, stepping := false }
  let s : State := if ¬ s.bench then s.canopyLull (k = canopy1) else s
  let s := (s.putCanopyHalted k true).setFlag R.CANOPY_STATUS_dbg_split true
  let s : State := if s.split then s else s.set R.CANOPY_STATUS_mode 2
  s.showClaim.event 0x62 0xFF (bytesLE 1 (b2n s.bench))

/-- The Canopy core that DBG_CANOPY addresses (R665). Log: DEDUCED notes/assumptions/72.md. -/
def canopyChosen (s : State) : Fin 66 := if s.split ∧ s.flag R.DBG_CANOPY_core then canopy1 else canopy0

/-- A halt of Canopy is requested: at once at an allowed boundary, deferred elsewhere (R551, R670). A core that has not
started is not halted. Log: DEDUCED notes/assumptions/72.md. -/
def canopyHalt (s : State) : State :=
  let k := s.canopyChosen
  let c := s.core k
  if c.wasState ≠ 2 ∨ s.isHalted k then s
  else if atBoundary (endWait c) then s.takeCanopyHalt k
  else s.modCore k fun c => { c with deferred := some true }

/-- The halted Canopy core resumes at its PC, or steps one instruction (R669, R670).
Log: DEDUCED notes/assumptions/72.md. -/
def canopyGo (s : State) (step : Bool) : State :=
  let k := s.canopyChosen
  if s.isHalted k then
    (s.modCore k fun c => { c with stepping := step }).putCanopyHalted k false
  else s

/-- A halted tile core resumes at its PC, or steps one instruction (R669). -/
def tileGo (s : State) (n : Fin 64) (step : Bool) : State :=
  if s.coreState n = 4 then (s.modCore (coreIx n) fun c => { c with stepping := step }).putCoreState n 2 else s

/-- The tiles of a 32-bit mask word. -/
def wordTiles (hi : Bool) (v : Word) : List (Fin 64) :=
  allTiles.filter fun n => (decide (32 ≤ n.val) == hi) && v.toNat.testBit (n.val % 32)

/-- DBG_HALT (R669). Log: DEDUCED notes/assumptions/72.md. -/
def haltTiles (s : State) (hi : Bool) (v : Word) : State := s.forTiles (wordTiles hi v) fun n s => s.requestStop n true

/-- DBG_RESUME or DBG_STEP (R669); a core whose halt waits is not stepped (R671). Log: DEDUCED notes/assumptions/72.md. -/
def goTiles (s : State) (hi step : Bool) (v : Word) : State := s.forTiles (wordTiles hi v) fun n s => s.tileGo n step

/-- A write of DBG_CANOPY (R665, R671): a halt together with a step ignores the step. -/
def writeDbgCanopy (s : State) (v : Word) : State :=
  let s := s.set R.DBG_CANOPY_core (bits v.toNat 28 28)
  if bit v.toNat 31 then s.canopyHalt
  else if bit v.toNat 30 then s.canopyGo false
  else if bit v.toNat 29 then s.canopyGo true
  else s

/-! ### Registers of halted cores (R667) -/

/-- Why a debug access fails (R665). -/
inductive DbgFail where
  | notHalted | noCore | badAddr
  deriving DecidableEq, Repr

/-- The core that an offset in core space selects (R667). -/
def dbgCore (off : Nat) : Except DbgFail (Fin 66) :=
  let k := bits off 18 12
  if h : k < 66 then
    if bit off 19 ∨ bits off 11 9 ≠ 0 then .error .badAddr else .ok ⟨k, h⟩
  else .error .noCore

/-- A read of a halted core's register (R667). -/
def dbgCoreRead (s : State) (off : Nat) : Except DbgFail (Word × State) :=
  match dbgCore off with
  | .error e => .error e
  | .ok k =>
    if ¬ s.isHalted k then .error .notHalted
    else
      let r := bits off 8 0
      if r < 0x40 then .ok (readG (s.core k) ⟨r / 4 % 16, Nat.mod_lt _ (by decide)⟩, s)
      else if r = 0x40 then .ok ((s.core k).pc, s)
      else if 0x80 ≤ r ∧ r < 0x100 then
        match s.readSpecial k ((r - 0x80) / 4) with
        | some x => .ok x
        | none => .error .badAddr
      else .error .badAddr

/-- A debug write of STATUS names no mode that the core does not have. Log: DEDUCED notes/assumptions/72.md. -/
def dbgStatus (c : Core) (k : Fin 66) (v : Word) : Word :=
  let m := bits v.toNat 31 30
  if m = 3 ∨ (m = 2 ∧ k.val < 64) then insertBits v 31 30 (bits c.status.toNat 31 30) else v

/-- A write of a halted core's register; a PC written acts at resume (R667). Log: DEDUCED notes/assumptions/73.md. -/
def dbgCoreWrite (s : State) (off : Nat) (v : Word) : Except DbgFail State :=
  match dbgCore off with
  | .error e => .error e
  | .ok k =>
    if ¬ s.isHalted k then .error .notHalted
    else
      let r := bits off 8 0
      if r < 0x40 then .ok (s.modCore k fun c => writeG c ⟨r / 4 % 16, Nat.mod_lt _ (by decide)⟩ v)
      else if r = 0x40 then .ok (s.modCore k fun c => { c with pc := v, delay := none, shadow := false })
      else if 0x80 ≤ r ∧ r < 0x100 then
        let num := (r - 0x80) / 4
        match s.writeSpecial k num (if num = 0 then dbgStatus (s.core k) k v else v) with
        | some s => .ok s
        | none => .error .badAddr
      else .error .badAddr

/-! ### The boundary scan (R663, R664) -/

/-- The pins taken from the core: in bench mode the cells drive the gates, otherwise the gate-off path holds every gate L
(R664). Log: DEDUCED notes/assumptions/74.md. -/
def holdPins (s : State) : State :=
  if ¬ s.pinsTaken then s
  else if s.bench then s.forTiles allTiles fun n s => s.driveCells n
  else
    s.forTiles allTiles fun n s =>
      let s := ((s.gatesLow n).setFlag R.LEG_STATUS_held_off true n).setFlag R.LEG_STATUS_brake_engaged false n
      s.setMaskBit R.LULL_MAP_LO_tiles_lo R.LULL_MAP_HI_tiles_hi n true

/-- An instruction is loaded into the TAP (R664): a boundary-scan instruction takes the pins; another one after it starts
a Dawn with cause TEST_EXIT. Log: DEDUCED notes/assumptions/74.md. -/
def tapLoad (s : State) (ir : Nat) : State :=
  let was := s.pinsTaken
  let s := { s with tap := { s.tap with ir } }
  if s.pinsTaken then s.holdPins
  else if was then { s with lookout := { s.lookout with dawnCause := some 5 } }
  else s

/-- Update-DR of the boundary register: the cells take the values shifted in, and drive while they have the pins.
Log: DEDUCED notes/assumptions/74.md. -/
def tapCells (s : State) (cells : List (Fin 64 × Fin 256)) : State :=
  let l := cells.foldl (fun (l : List (Nat × Nat)) (e : Fin 64 × Fin 256) => sparsePut 0 e.1.val e.2.val l) s.tap.cells
  ({ s with tap := { s.tap with cells := l } } : State).holdPins

end State
end Sys2Proof.Machine
end

