-- ==== Sys2Proof/Machine/RegOps.lean ====
section
/-! DEFINITION. Reads and writes of the register space: access codes and 64-bit pairs (00_scope.md R7 to R11), locks, the paged
window and refused accesses (25_register_map.md R679 to R688), and the debug engine (23_dawn_and_debug.md R665 to R668). -/

namespace Sys2Proof.Machine

/-- The tile whose register block holds `off` (R15). -/
def blockTile (off : Nat) : Fin 64 := tileOf ((off - 0x10000) / 0x1000)

/-- Low words of the pairs of R11: every 64-bit quantity of the register map, and the tile masks that it splits over two
registers; the high word follows at the next offset. DBG_HALT, DBG_RESUME and DBG_STEP hold no quantity: each half asks for its
own tiles. Log: DEDUCED notes/assumptions/71.md. -/
def pairLows : List Reg :=
  [R.DEV_SERIAL_LO, R.LK_ALARM_LO, R.VETO_LO, R.JR_HEAD_LO, R.JR_TAIL_LO, R.USF_PEER_LO, R.USF_DOM_LO, R.TIME_LO,
   R.TIME_STEP_AT_LO, R.TIME_STEP_NEW_LO, R.TIME_PPS_LO, R.TRIP_ROUTE_LO, R.LULL_MAP_LO, R.HOUSE_ALARM_LO, R.SITE_TRIG_LO,
   R.SITE_TRIG_MASK_LO, R.PS_CKPT_TIME_LO, R.PS_LOAD_LO, R.PS_MAP_LOST_LO, R.DBG_HALTED_LO, R.POS_LO, R.REPLACE_LO,
   R.GROUP_PATH_LO, R.HOME_LATCH_LO, R.SCAN_ALARM_LO, R.KEY_NEXT_LO, R.SQ_BASE_LO, R.CQ_BASE_LO, R.EV_BASE_LO, R.JR_BASE_LO,
   R.USF_MIRROR_LO, R.SPLIT_OWN_LO, R.GOV_GRANT_LO, R.GOV_REQ_LO]

/-- `off` is the low word of a pair. -/
def isPairLow (off : Nat) : Bool := pairLows.any fun r => r.covers off

/-- `off` is the high word of a pair. -/
def isPairHigh (off : Nat) : Bool := decide (4 ≤ off) && pairLows.any fun r => r.covers (off - 4)

/-- What a write leaves in one field (R7). -/
def fieldWrite (locked : Bool) (v : Word) (w : Word) (f : FieldRow) : Word :=
  match f.acc with
  | .rw => insertBits w f.msb f.lsb (bits v.toNat f.msb f.lsb)
  | .rwl => if locked then w else insertBits w f.msb f.lsb (bits v.toNat f.msb f.lsb)
  | .w1c => insertBits w f.msb f.lsb (bits (w &&& ~~~v).toNat f.msb f.lsb)
  | .w1s => insertBits w f.msb f.lsb (bits (w ||| v).toNat f.msb f.lsb)
  | _ => w

/-- What a read leaves in one field (R7). -/
def fieldRead (w : Word) (f : FieldRow) : Word := if f.acc = .rc then insertBits w f.msb f.lsb 0 else w

namespace State

/-! ### Refused accesses and locks -/

/-- BAR_ERR records a refused access (R683). -/
def barErr (s : State) (kind off : Nat) : State :=
  ((s.bump R.BAR_ERR_count).set R.BAR_ERR_kind kind).set R.BAR_ERR_offset (off % 2 ^ 20)

/-- The lock bit over the locked fields at `off` stands (R688). Log: DEDUCED notes/assumptions/75.md. -/
def lockedAt (s : State) (off : Nat) : Bool :=
  if 0x10000 ≤ off ∧ 0x800 ≤ off % 0x1000 then s.fbLocked (blockTile off) else s.flag R.TRIP_LOCK_lock

/-- The locked fields of the trip windows (R340, R342). -/
def lockedWindow (off : Nat) : Bool :=
  (decide (0x10000 ≤ off) && [0x620, 0x624, 0x630, 0x634].contains (off % 0x1000)) || [0xDA00, 0xDA04].contains off

/-- A write of `off` would touch a locked field (R466, R688). Log: DEDUCED notes/assumptions/75.md. -/
def lockedField (s : State) (off : Nat) : Bool :=
  match regRow off with
  | some r => s.lockedAt off && (r.fields.any (fun f => decide (f.acc = .rwl)) || lockedWindow off)
  | none => false

/-- A write that acts by the access codes alone. -/
def plainWrite (s : State) (keyed : Bool) (off : Nat) (v : Word) : State :=
  match regRow off with
  | some r => s.wr off (r.fields.foldl (fieldWrite (s.lockedAt off && !keyed) v) (s.rd off))
  | none => s

/-! ### Writes -/

/-- A write of a queue's binding: only while the queue is not enabled (R457). -/
def writeBinding (s : State) (enabled : Bool) (off : Nat) (v : Word) : State :=
  if enabled then s else s.plainWrite false off v

/-- A ring's base is written only while the ring is not enabled, and with its low bits 0: whether the base at `low` is so open, and
its alignment (R457 to R460). -/
def baseRule (s : State) (low : Nat) : Bool × Nat :=
  if low < 0x5000 then (s.flag R.SQ_CFG_enable ((low - 0x4000) / 0x20), 0x40)
  else if low < 0x5800 then (s.flag R.CQ_CFG_enable ((low - 0x5000) / 0x20), 0x40)
  else if low < 0x5A00 then (s.flag R.EV_CFG_enable ((low - 0x5800) / 0x20), 0x40)
  else (false, 0x1000)

/-- A write to the identity and control block. -/
def writeControl (s : State) (off : Nat) (v : Word) : State :=
  match off with
  | 0x28 => if v = 0xDA0000A5#32 then { s with lookout := { s.lookout with dawnCause := some 4 } } else s
  | 0x48 =>
    if v.getLsbD 31 then s.paramSaveGo else s
  | _ => s

/-- A write of SRAM_PAGE (0) or SRAM_PAGE_DBG (1) (R685). -/
def writePage (s : State) (dbg : Bool) (v : Word) : State :=
  let t := v.toNat % 256
  if t ≤ 0x41 ∨ t = 0xFF then s.set R.SRAM_PAGE_target t (b2n dbg) else s.barErr 3 (0x40 + 4 * b2n dbg)

/-- A write of PWR_CTL (R601): its fields, then a test Dusk, then the power state asked for.
Log: DEDUCED notes/assumptions/75.md. -/
def writePwrCtl (s : State) (v : Word) : State :=
  let s := s.plainWrite false 0x1000 v
  let s : State := if v.getLsbD 26 then s.duskStartOf 4 else s
  if v.getLsbD 31 then s.powerRequest (bits v.toNat 30 28) else s

/-- A write to the Canopy block (R557 to R560). -/
def writeCanopyBlock (s : State) (off : Nat) (v : Word) : State :=
  match off with
  | 0x302C => s.canopyMail v
  | 0x3040 => if v.getLsbD 29 then s.setFlag R.CMB_CTL_from_full false else s
  | 0x3060 => { s with canopy := { s.canopy with hostKick := s.now } }
  | _ =>
    let s := s.plainWrite false off v
    if 0x3090 ≤ off ∧ off < 0x30B0 then
      s.forTiles (allTiles.filter fun n => decide (n.val / 8 = (off - 0x3090) / 4)) fun n s => s.govTile n
    else s

/-- A write to the ring registers but for the bases, which are pairs (R457 to R460). -/
def writeRings (s : State) (off : Nat) (v : Word) : State :=
  if off < 0x5000 then
    let q := (off - 0x4000) / 0x20
    let z := off % 0x20
    if z = 0x08 then s.writeSqCfg q v
    else if z = 0xC then s.writeBinding (s.flag R.SQ_CFG_enable q) off v
    else s
  else if off < 0x5800 then
    let c := (off - 0x5000) / 0x20
    let z := off % 0x20
    if z = 0x08 then s.writeCqCfg c v else s
  else if off < 0x5A00 then
    let e := (off - 0x5800) / 0x20
    let z := off % 0x20
    if z = 0x08 then s.writeEvCfg e v
    else if z = 0xC then s.plainWrite false off v
    else s
  else
    let j := (off - 0x5A00) / 0x40
    let z := off % 0x40
    if z = 0x08 then s.writeJrCfg j v else s

/-- A write of USF_PCFGp (R490): the refused rate changes nothing; enabling and disabling moves the port.
Log: DEDUCED notes/assumptions/75.md. -/
def writePortCfg (s : State) (p : Fin 4) (keyed : Bool) (v : Word) : State :=
  if bits v.toNat 30 29 = 3 then s
  else
    let was := s.flag R.USF_PCFG_enable p
    let s := (s.plainWrite keyed (R.USF_PCFG.at p) v).chooseRate p
    let on := s.flag R.USF_PCFG_enable p
    let s := s.setBit R.CLK_STATUS_serdes_lock p on
    let s : State := if was ∧ ¬ on then s.portDown p 0 0 else if on ∧ ¬ was then s.portRest p else s
    s.updateDomains

/-- A write of SFP_CMDp (R490): go is refused while an access is in progress or for another two-wire address. -/
def writeSfpCmd (s : State) (p : Fin 4) (v : Word) : State :=
  let dev := bits v.toNat 23 16
  let s : State := if v.getLsbD 29 then s.setFlag R.SFP_CMD_nak false p else s
  if s.flag R.SFP_CMD_busy p ∨ (dev ≠ 0xA0 ∧ dev ≠ 0xA2) then s
  else
    let s := s.plainWrite false (R.SFP_CMD.at p) v
    if v.getLsbD 31 then s.setFlag R.SFP_CMD_busy true p else s

/-- A write to the Usfen blocks (R490, R504). -/
def writeUsfen (s : State) (keyed : Bool) (off : Nat) (v : Word) : State :=
  let p : Fin 4 := ⟨off / 0x100 % 4, Nat.mod_lt _ (by decide)⟩
  if off < 0x8400 ∧ off % 0x100 = 0 then s.writePortCfg p keyed v
  else if off < 0x8400 ∧ off % 0x100 = 0x40 then s.writeSfpCmd p v
  else if off = 0x8410 then (if v.getLsbD 31 then s.rollGo else s)
  else s.plainWrite keyed off v

/-- A write to the serial ports (R636 to R642). -/
def writeSerial (s : State) (off : Nat) (v : Word) : State :=
  let k : Fin 4 := ⟨off / 0x100 % 4, Nat.mod_lt _ (by decide)⟩
  if off < 0xB400 then
    match off % 0x100 with
    | 0x00 => s.writeSpcCfg k v
    | 0x08 =>
      let s : State := if v.getLsbD 28 then s.spcAbort k false else s
      let s : State := if v.getLsbD 30 then s.spcFlush k true else s
      let s : State := if v.getLsbD 29 then s.spcFlush k false else s
      if v.getLsbD 31 then s.spcGo k else s
    | 0x10 => s.spcPush k v
    | _ => s.plainWrite false off v
  else if off = 0xB400 then s.writeXipCfg v
  else s.plainWrite false off v

/-- A write to the feedback ports and emulation outputs (R344 to R371). -/
def writeFeed (s : State) (off : Nat) (v : Word) : State :=
  if off < 0xC800 then
    let k : Fin 16 := ⟨off / 0x40 % 16, Nat.mod_lt _ (by decide)⟩
    match off % 0x40 with
    | 0x00 => s.writeFeedCfg k v
    | 0x04 => s.writeFeedRev k v
    | 0x08 => s.set R.FB_POS_pos (feedReduce (s.get R.FB_REV_rev k) v.toInt) k
    | 0x20 => s.writeFeedMode k v
    | 0x28 => s.writeFeedAxis k false v
    | 0x2C => s.writeFeedAxis k true v
    | 0x3C =>
      let s : State := if v.getLsbD 31 then s.setFlag R.FBK_STATUS_idx_armed true k else s
      if v.getLsbD 30 then s.ssiStart k else s
    | _ => s.plainWrite false off v
  else
    let j : Fin 8 := ⟨off / 0x20 % 8, Nat.mod_lt _ (by decide)⟩
    match off % 0x20 with
    | 0x00 => s.writeEmuCfg j v
    | 0x04 => s.writeEmuGear j true v
    | 0x08 => s.writeEmuGear j false v
    | _ => s.plainWrite false off v

/-- A write of SITE_TRIG_CTL (R312). -/
def writeSiteCtl (s : State) (v : Word) : State :=
  let s := s.plainWrite false 0xD910 v
  let s : State := if v.getLsbD 30 then s.siteCancel else s
  if v.getLsbD 31 then s.siteArm.2 else s

/-- A write to the sensor front end, the house converter, the site-trigger and the house windows. -/
def writeAnalog (s : State) (keyed : Bool) (off : Nat) (v : Word) : State :=
  if off < 0xD100 then
    match off with
    | 0xD000 => s.writeSfeCtl v
    | 0xD010 => s.writeSfeSteer v
    | _ => s.plainWrite false off v
  else if off < 0xD800 then
    if off % 0x40 = 0 then s.writeSfeCfg ⟨(off - 0xD100) / 0x40 % 8, Nat.mod_lt _ (by decide)⟩ v else s.plainWrite false off v
  else if 0xDA00 ≤ off then
    if off = 0xDA80 then s.writeHwinStatus v.toNat
    else
      let h : Fin 8 := ⟨(off - 0xDA00) / 0x10 % 8, Nat.mod_lt _ (by decide)⟩
      match off % 0x10 with
      | 0x0 => s.writeHwinCfg h v keyed
      | 0x4 => s.writeHwinThr h v keyed
      | _ => s
  else
    match off with
    | 0xD800 => (s.writeHouseCtl v).showCal none
    | 0xD804 => s.writeHouseMask v
    | 0xD818 =>
      let s : State := if v.getLsbD 30 then s.armAlarm none false else s
      if v.getLsbD 31 then s.scanStart none 7 s.now else s
    | 0xD910 => s.writeSiteCtl v
    | _ => s.plainWrite false off v

/-- A write to the parameter-store block (R631). Log: DEDUCED notes/assumptions/75.md. -/
def writeStore (s : State) (off : Nat) (v : Word) : State :=
  if off = 0xE03C then
    if v.getLsbD 31 then s.psLoadGo (bits v.toNat 8 8) (bits v.toNat 7 0)
    else if s.flag R.PS_LOAD_CTL_busy then s else s.plainWrite false off v
  else s.plainWrite false off v

/-- A write to the debug block but for DBG_CMD.go (R665); the bits of the W1S registers set and stay set (R7).
Log: DEDUCED notes/assumptions/72.md. -/
def writeDebug (s : State) (off : Nat) (v : Word) : State :=
  let t := s.plainWrite false off v
  match off with
  | 0xF010 => t.haltTiles false v
  | 0xF014 => t.haltTiles true v
  | 0xF018 => t.goTiles false false v
  | 0xF01C => t.goTiles true false v
  | 0xF020 => t.goTiles false true v
  | 0xF024 => t.goTiles true true v
  | 0xF030 => s.writeDbgCanopy v
  | _ => s.plainWrite false off v

/-- A write to a tile's converters (R303 to R318). -/
def writeTileAdc (s : State) (n : Fin 64) (off : Nat) (v : Word) : State :=
  match off % 0x1000 with
  | 0x500 => ((s.plainWrite false off v).showCal (some n)).showSettled n
  | 0x504 => s.writeAdcRef n v
  | 0x530 => s.writeScanMask n v
  | 0x534 => s.writeScanRefsel n v
  | 0x538 => s.writeScanAvg n v
  | 0x53C => s.writeScanTrig n v
  | 0x54C =>
    let s : State := if v.getLsbD 30 then s.armAlarm (some n) false else s
    if v.getLsbD 31 then s.scanStart (some n) 7 s.now else s
  | 0x550 => s.writeScanBuf n v
  | 0x558 => s.writeScanRptr n v
  | _ => s.plainWrite false off v

/-- A write to a tile's windows (R334 to R341). -/
def writeTileWin (s : State) (n : Fin 64) (keyed : Bool) (off : Nat) (v : Word) : State :=
  let z := off % 0x1000 - 0x600
  if z = 0x60 then s.writeWinStatus n v.toNat
  else if z < 0x60 then
    let w : Fin 6 := ⟨z / 0x10 % 6, Nat.mod_lt _ (by decide)⟩
    match z % 0x10 with
    | 0x0 => s.writeWinCfg n w v keyed
    | 0x4 => s.writeWinThr n w v keyed
    | _ => s
  else s

/-- A write to a tile's force budget (R204 to R230), its locked fields under FB_LOCK (R221). -/
def writeTileForce (s : State) (n : Fin 64) (keyed : Bool) (off : Nat) (v : Word) : State :=
  let shut := s.fbLocked n && !keyed
  match off % 0x1000 with
  | 0x800 =>
    if shut then s
    else
      let s := (s.plainWrite keyed off v).budgetCeil n
      if v.getLsbD 30 then s.learnAbortOf n
      else if v.getLsbD 31 then s.learnOf n (bits v.toNat 29 28) else s
  | 0x824 => if shut ∨ 4 ≤ bits v.toNat 31 29 then s else s.plainWrite keyed off v
  | 0x85C => s.profAccess n (some v) keyed
  | 0x894 => s.segAccess n (some v)
  | 0x898 => (s.plainWrite keyed off v).showPush n
  | _ => (s.plainWrite keyed off v).budgetCeil n

/-- A write to a tile's trail, group, homing and limits registers (R17 to R110). -/
def writeTileTrail (s : State) (n : Fin 64) (off : Nat) (v : Word) : State :=
  let z := off % 0x1000
  if 0x70 ≤ z ∧ z < 0xB0 ∧ z % 8 = 4 then s.posEventArmOf n ⟨(z - 0x70) / 8 % 8, Nat.mod_lt _ (by decide)⟩ v
  else
    match z with
    | 0x018 => (s.trailCmd n (v.toNat % 16)).2
    | 0x020 => s.capWriteOf n true v
    | 0x024 => s.capWriteOf n false v
    | 0x058 =>
      let s := s.plainWrite false off v
      if v.getLsbD 31 then s.targetReplaceOf n else s
    | 0x10C => s.modPlan n fun p => { p with wrapWrite := some v.toNat }
    | 0x110 => s.writeWrapCtl n v
    | _ => s.plainWrite false off v

/-- A write to a tile's current and chopper registers (R111 to R154). -/
def writeTileCur (s : State) (n : Fin 64) (off : Nat) (v : Word) : State :=
  match off % 0x1000 with
  | 0x200 => s.writeUstepCtl n v
  | 0x208 => (s.tblAccess n (some v)).2
  | 0x210 => s.writeScale n v
  | 0x214 => (s.plainWrite false off v).showLevel n
  | 0x218 => (s.plainWrite false off v).showLevel n
  | 0x21C => (s.plainWrite false off v).showLevel n
  | 0x230 => s.writeChopCtl n v
  | 0x220 => (s.modCur n fun c => { c with savedCurCap := none }).putCap n (bits v.toNat 11 0)
  | 0x240 => s.writeOffset n v
  | 0x260 =>
    let s := s.plainWrite false off v
    (s.setFlag R.SD_STATUS_no_ripple (!s.flag R.RIPPLE_CTL_enable n) n).showDecim n
  | _ => (s.plainWrite false off v).refreshPhase n

/-- A write to a tile's Sundial registers (R159, R167, R191). -/
def writeTileSd (s : State) (n : Fin 64) (off : Nat) (v : Word) : State :=
  match off % 0x1000 with
  | 0x300 =>
    let s := (s.plainWrite false off v).govTile n
    let s : State := if s.tempMap n ∧ s.flag R.SD_CTL_temp_fixed n then s.fixTemp n else s
    let s : State := if v.getLsbD 29 then s.sundialClear n else s
    let s : State := if v.getLsbD 31 then s.mapLoadOf n else s
    if v.getLsbD 30 then s.mapCheckOf n else s
  | 0x350 =>
    let s := s.plainWrite false off v
    let s : State := if v.getLsbD 30 then s.walkAbortOf n else s
    if v.getLsbD 31 then s.walkStartOf n else s
  | _ => s.plainWrite false off v

/-- A write to a tile's legs (R249 to R279). -/
def writeTileLeg (s : State) (n : Fin 64) (keyed : Bool) (off : Nat) (v : Word) : State :=
  match off % 0x1000 with
  | 0x400 => s.writeLegCtl n v keyed
  | 0x408 => s.writePwmPeriod n v
  | 0x40C => s.writePwmPhase n v
  | 0x410 => s.writeLegOvr n v
  | 0x414 => s.writeLegStatus n v
  | 0x418 => s.writeLegTrip n v keyed
  | 0x420 => s.lullClr n v.toNat
  | _ => s.plainWrite false off v

/-- A write to a tile's Hiker control registers (R417). -/
def writeTileHiker (s : State) (n : Fin 64) (off : Nat) (v : Word) : State :=
  match off % 0x1000 with
  | 0x700 => s.writeHikerCtl n v
  | 0x72C => s.hostMail n v
  | 0x740 => if v.getLsbD 29 then s.fromAck n else s
  | _ => s.plainWrite false off v

/-- A write to a tile's register block (R684). -/
def writeTile (s : State) (keyed : Bool) (off : Nat) (v : Word) : State :=
  let n := blockTile off
  let z := off % 0x1000
  if z < 0x200 then s.writeTileTrail n off v
  else if z < 0x300 then s.writeTileCur n off v
  else if z < 0x400 then s.writeTileSd n off v
  else if z < 0x500 then s.writeTileLeg n keyed off v
  else if z < 0x600 then s.writeTileAdc n off v
  else if z < 0x700 then s.writeTileWin n keyed off v
  else if z < 0x800 then s.writeTileHiker n off v
  else s.writeTileForce n keyed off v

/-- A write of one register that is not half of a pair (R681). -/
def writeSingle (s : State) (keyed : Bool) (off : Nat) (v : Word) : State :=
  if 0x10000 ≤ off then s.writeTile keyed off v
  else
    match off / 0x1000 with
    | 0x0 => if off = 0x40 ∨ off = 0x44 then s.writePage (off = 0x44) v else s.writeControl off v
    | 0x1 => if off = 0x1000 then s.writePwrCtl v else s.plainWrite keyed off v
    | 0x3 => s.writeCanopyBlock off v
    | 0x4 => s.writeRings off v
    | 0x5 => s.writeRings off v
    | 0x7 =>
      let s := s.plainWrite false off v
      if off = 0x7040 ∧ v.getLsbD 31 then s.mailboxGo else s
    | 0x8 => s.writeUsfen keyed off v
    | 0xA =>
      if off < 0xA040 then s.writeTripCfg ⟨(off - 0xA000) / 4 % 16, Nat.mod_lt _ (by decide)⟩ v keyed
      else if off = 0xA0C0 then s.clearPins v.toNat
      else s.plainWrite keyed off v
    | 0xB => s.writeSerial off v
    | 0xC => s.writeFeed off v
    | 0xD => s.writeAnalog keyed off v
    | 0xE => s.writeStore off v
    | 0xF => s.writeDebug off v
    | _ => s.plainWrite keyed off v

/-- Both halves of a pair are committed in one clock (R11); the register acts as its chapter says. -/
def commitPair (s : State) (keyed : Bool) (low : Nat) (lo hi : Word) : State :=
  let t := lo.toNat + 2 ^ 32 * hi.toNat
  let both (s : State) : State := (s.plainWrite keyed low lo).plainWrite keyed (low + 4) hi
  if 0x10000 ≤ low then
    let n := blockTile low
    match low % 0x1000 with
    | 0x030 => s.modPlan n fun p => { p with posWrite := some t }
    | 0x540 => (s.setAlarm (some n) t).armAlarm (some n) true
    | _ => both s
  else if 0xA040 ≤ low ∧ low < 0xA0C0 then s.writeTripRoute ((low - 0xA040) / 8) lo hi keyed
  else if 0x5A00 ≤ low ∧ low < 0x5B00 ∧ low % 0x40 = 0x10 then s.writeJrHead ((low - 0x5A00) / 0x40) t
  else if 0x4000 ≤ low ∧ low < 0x5B00 then
    let r := s.baseRule low
    if r.1 ∨ lo.toNat % r.2 ≠ 0 then s else both s
  else if 0x8500 ≤ low ∧ low < 0x8580 then (both s).updateDomains
  else if low = 0x1010 then (both s).modLookout fun l => { l with alarm := true }
  else if low = 0xD80C then (s.setAlarm none t).armAlarm none true
  else both s

/-- A write of a register by a requester (R7 to R11, R688). `keyed` is Canopy executing an accepted SAFETY_WRITE. A low word
is held, unless its lock refuses the pair. -/
def regWrite (s : State) (who : Requester) (keyed : Bool) (off : Nat) (v : Word) : State :=
  if (regRow off).isNone then s
  else if isPairLow off then
    if s.lockedField off ∧ ¬ keyed then { s with holds := sparseErase off s.holds } else s.pairHold off who v
  else if isPairHigh off then
    let low := off - 4
    let r := s.pairTake low who (s.rd low)
    if r.2.lockedField off ∧ ¬ keyed then r.2 else r.2.commitPair keyed low r.1 v
  else s.writeSingle keyed off v

/-! ### Reads -/

/-- The seconds that a lockout has left, begun ones counted (R579). Log: DEDUCED notes/assumptions/76.md. -/
def lockoutLeft (s : State) : Nat :=
  match s.canopy.lockedUntil with
  | some t => (t - s.now + 999999999) / 1000000000
  | none => 0

/-- The word that a register shows, without any effect of a read. -/
def liveWord (s : State) (off : Nat) : Word :=
  let w := s.rd off
  if off < 0x10 then
    match off with
    | 0x8 => BitVec.ofNat 32 Config.serial
    | 0xC => BitVec.ofNat 32 (Config.serial / 2 ^ 32)
    | _ => w
  else if off = 0x3054 then BitVec.ofNat 32 (s.safety (s.get R.SAFE_ADDR_index / 8) (s.get R.SAFE_ADDR_index % 8))
  else if 0x7050 ≤ off ∧ off < 0x7060 then BitVec.ofNat 32 (fifoWord s.hamper.cplFifo ((off - 0x7050) / 4))
  else if 0x7060 ≤ off ∧ off < 0x7080 then BitVec.ofNat 32 (fifoWord s.hamper.evFifo ((off - 0x7060) / 4))
  else if off = R.KEY_STATUS.off then insertBits w 11 0 s.lockoutLeft
  else if off = R.TIME_LO.off then BitVec.ofNat 32 s.now
  else if off = R.TIME_HI.off then BitVec.ofNat 32 (s.now / 2 ^ 32)
  else if 0x10000 ≤ off ∧ off % 0x1000 = 0x30 then BitVec.ofNat 32 (wrapNat 64 (s.accumulator (blockTile off)))
  else if 0x10000 ≤ off ∧ off % 0x1000 = 0x34 then BitVec.ofNat 32 (wrapNat 64 (s.accumulator (blockTile off)) / 2 ^ 32)
  else if R.CHOP_STATUS.covers off then
    insertBits (insertBits w 27 26 (s.shownState (blockTile off) 1)) 25 24 (s.shownState (blockTile off) 0)
  else if R.GROUP_STATUS.covers off then insertBits w 0 0 (b2n (s.readyNow (blockTile off)))
  else if R.FB_SPEED.covers off then BitVec.ofNat 32 (s.liveSpeed ⟨off / 0x40 % 16, Nat.mod_lt _ (by decide)⟩)
  else if R.FB_MODECFG.covers off then
    let k : Fin 16 := ⟨off / 0x40 % 16, Nat.mod_lt _ (by decide)⟩
    if s.feedMode k = 5 then w else BitVec.ofNat 32 (if s.feedMode k = 3 then (s.feed k).holdoff else 0)
  else if off = R.SFE_RREF0.off then BitVec.ofNat 32 (Config.rref 0)
  else if off = R.SFE_RREF1.off then BitVec.ofNat 32 (Config.rref 1)
  else w

/-- The next of a wrapping index. -/
def wrapNext (i last : Nat) : Nat := if last ≤ i then 0 else i + 1

/-- A read of a register by a requester: the word it returns and the state after its side effects (R7, R11).
Log: DEDUCED notes/assumptions/78.md. -/
def regRead (s : State) (who : Requester) (off : Nat) : Word × State :=
  match regRow off with
  | none => (0, s)
  | some r =>
    let w := s.liveWord off
    if isPairLow off then (w, s.pairCapture off who (s.liveWord (off + 4)))
    else if isPairHigh off then s.pairHigh (off - 4) who w
    else if off = 0x3054 then (w, s.set R.SAFE_ADDR_index (wrapNext (s.get R.SAFE_ADDR_index) 519))
    else if off = 0x705C then ((BitVec.ofNat 32 s.popCpl.1), s.popCpl.2)
    else if off = 0x707C then ((BitVec.ofNat 32 s.popEvt.1), s.popEvt.2)
    else if R.SPC_RX.covers off then s.spcPop ⟨off / 0x100 % 4, Nat.mod_lt _ (by decide)⟩
    else if off = R.PS_LOG_DATA.off then ((BitVec.ofNat 32 s.readLog.1), s.readLog.2)
    else if R.ADC_CAL_DATA.covers off then
      let t := s.calRead (blockTile off)
      (BitVec.ofNat 32 t.readData, t)
    else if R.USTEP_TBL_DATA.covers off then
      let t := s.tblAccess (blockTile off) none
      (BitVec.ofNat 32 t.1, t.2)
    else if R.FB_PROF_DATA.covers off then
      let t := s.profAccess (blockTile off) none false
      (BitVec.ofNat 32 t.readData, t)
    else if R.FB_SEG_DATA.covers off then
      let t := s.segAccess (blockTile off) none
      (BitVec.ofNat 32 t.readData, t)
    else (w, if r.fields.any (fun f => decide (f.acc = .rc)) then s.wr off (r.fields.foldl fieldRead (s.rd off)) else s)

/-! ### The paged window (R685 to R687) -/

/-- The page register that a requester uses. -/
def pageOf (s : State) (dbg : Bool) : Nat := s.get R.SRAM_PAGE_target (b2n dbg)

/-- The on-chip address of window offset `a`, or none where the window is unmapped (R685, R686): no page, above a tile's
SRAM, or a host of a device that is not a root. -/
def windowAddr (s : State) (dbg : Bool) (a : Nat) : Option Nat :=
  let t := s.pageOf dbg
  if ¬ dbg ∧ ¬ s.isRoot then none
  else if t < 0x40 then (if a < 0x28000 then some (tileSram t + a) else none)
  else if t = 0x40 then some (sharedSram + a)
  else if t = 0x41 then some (sharedSram + 0x80000 + a)
  else none

/-- A write of bytes through the window (R687). Log: DEDUCED notes/assumptions/75.md. -/
def windowPut (s : State) (dbg : Bool) (a : Nat) (b : List Byte) : State :=
  match s.windowAddr dbg a with
  | none => s
  | some m =>
    let n := tileOf (s.pageOf dbg)
    let ignored := s.barErr 2 (0x80000 + a)
    if 0x40 ≤ s.pageOf dbg ∨ (0x18000 ≤ a ∧ a < 0x20000) then s.sharedWrite none m b
    else if a < 0x8000 then
      if (s.st n = stAsleep ∨ s.st n = stIdle) ∧ ¬ (s.tile n).cur.energising ∧ ¬ s.walking n then
        ((s.setBytes m b).mapInvalid n)
      else ignored
    else ignored

/-! ### Access of the register space by a host (R515, R679) -/

/-- A host's write to a tile block of its own root is refused while the root does not hold authority (R515).
Log: DEDUCED notes/assumptions/78.md, notes/assumptions/84.md. -/
def bar0Refused (s : State) (who : Requester) (jtag : Bool) (off : Nat) : Bool :=
  decide (0x10000 ≤ off) && (decide (who = .pcie) || decide (who = .spt) || (decide (who = .debug) && !jtag)) && s.isRoot &&
    (s.motionRefusal { own := true, srcRoute := s.ownRoute, srcDepth := s.ownDepth, sq := 0, tag := 0, cq := 0,
                       irq := false, track := false }).isSome

/-- A write of a 32-bit word of the register space by a host or the debug path, but for DBG_CMD.go. -/
def hostWrite (s : State) (who : Requester) (jtag : Bool) (off : Nat) (v : Word) : State :=
  if s.bar0Refused who jtag off then s.bump R.USF_AUTH_REFUSED_count else s.regWrite who false off v

/-! ### The debug engine (R665 to R668) -/

/-- The access failed. -/
def dbgFail (s : State) (e : DbgFail) : State :=
  let code : Nat := match e with
    | .notHalted => 1
    | .noCore => 2
    | .badAddr => 3
  (s.setFlag R.DBG_CMD_error true).set R.DBG_CMD_reason code

/-- The access succeeded with a word read. -/
def dbgOk (s : State) (w : Word) : State :=
  ((s.wr R.DBG_DATA.off w).setFlag R.DBG_CMD_error false).set R.DBG_CMD_reason 0

/-- The access succeeded with nothing to show. -/
def dbgDone (s : State) : State := (s.setFlag R.DBG_CMD_error false).set R.DBG_CMD_reason 0

/-- A register of the debug block, which the debug path does not write (R665). -/
def inDebugBlock (off : Nat) : Bool := decide (0xF000 ≤ off) && decide (off < 0xF100)

/-- A read of BAR0 space through the debug path: of a register, or of a word through the window.
Log: DEDUCED notes/assumptions/73.md. -/
def dbgBarRead (s : State) (view : Bool) (off : Nat) : State :=
  if 0x80000 ≤ off then
    let w := match s.windowAddr true (off - 0x80000) with
      | some m => s.load m 4
      | none => 0
    s.dbgOk (BitVec.ofNat 32 w)
  else
    let r := s.regRead .debug off
    (if view then s else r.2).dbgOk r.1

/-- A write of BAR0 space through the debug path (R666). -/
def dbgBarWrite (s : State) (jtag : Bool) (off : Nat) (v : Word) : State :=
  if inDebugBlock off then s.dbgFail .badAddr
  else if 0x80000 ≤ off then (s.windowPut true (off - 0x80000) (bytesLE 4 v.toNat)).dbgDone
  else (s.hostWrite .debug jtag off v).dbgDone

/-- An access of a halted core's register. -/
def dbgCoreAccess (s : State) (write : Bool) (off : Nat) : State :=
  if write then
    match s.dbgCoreWrite off (s.rd R.DBG_DATA.off) with
    | .ok t => t.dbgDone
    | .error e => s.dbgFail e
  else
    match s.dbgCoreRead off with
    | .ok t => t.2.dbgOk t.1
    | .error e => s.dbgFail e

/-- The access that DBG_ADDR and DBG_DATA name, of kind 0 view read, 1 consume read, 2 write (R665 to R667). A refused field,
and a block that has not started, fail with BAD_ADDR (R671). Log: DEDUCED notes/assumptions/73.md. -/
def dbgAccessOf (s : State) (kind : Nat) (jtag : Bool) : State :=
  let off := s.get R.DBG_ADDR_offset
  let space := s.get R.DBG_ADDR_space
  if 3 ≤ kind ∨ 2 ≤ space ∨ off % 4 ≠ 0 ∨ s.lookout.dawnCause.isSome ∨ s.lookout.off then s.dbgFail .badAddr
  else if space = 1 then s.dbgCoreAccess (kind = 2) off
  else if kind = 2 then s.dbgBarWrite jtag off (s.rd R.DBG_DATA.off)
  else s.dbgBarRead (kind = 0) off

/-- A write of DBG_CMD (R665): its kind, the W1C error bit, then go. -/
def writeDbgCmd (s : State) (jtag : Bool) (v : Word) : State :=
  let s := s.plainWrite false R.DBG_CMD.off v
  if v.getLsbD 31 then s.dbgAccessOf (bits v.toNat 30 29) jtag else s

/-- A write of a 32-bit word of the register space by a host. -/
def busWrite (s : State) (who : Requester) (off : Nat) (v : Word) : State :=
  if off = R.DBG_CMD.off then s.writeDbgCmd false v else s.hostWrite who false off v

/-- Update-DR of DBG_ACCESS (R668): a write or a read of a debug-block word, while the instruction is loaded. -/
def jtagUpdate (s : State) (w : BitVec 41) : State :=
  if s.tap.ir ≠ 0x10 then s
  else
    let off := 0xF000 + 4 * bits w.toNat 39 32
    let v : Word := w.setWidth 32
    if bit w.toNat 40 then
      if off = R.DBG_CMD.off then s.writeDbgCmd true v
      else if inDebugBlock off then s.regWrite .debug false off v
      else s
    else
      let r : Word × State := if inDebugBlock off then s.regRead .debug off else (0, s)
      { r.2 with tap := { r.2.tap with last := r.1 } }

/-- What Capture-DR of DBG_ACCESS shows (R668): the last word read, busy and error. -/
def jtagCapture (s : State) : Nat :=
  s.tap.last.toNat + 2 ^ 32 * s.get R.DBG_CMD_busy + 2 ^ 33 * s.get R.DBG_CMD_error

end State
end Sys2Proof.Machine
end

