-- ==== Sys2Proof/Machine/Keyed.lean ====
section
/-! DEFINITION. Keyed commands: the checks of R569, key slots and counters, lockouts, and the keyed opcodes
(19_keyed_commands.md R566 to R586). -/

namespace Sys2Proof.Machine

/-- What a keyed command comes to: its status, its CONDITION reason, its result, whether it completes later, and the state. -/
structure KeyedOut where
  status : Nat
  reason : Nat
  result : Nat
  waits : Bool
  state : State

/-- A keyed command that completes with a status. -/
def keyedDone (status : Nat) (s : State) (result : Nat := 0) : KeyedOut := ⟨status, 0, result, false, s⟩

/-- A keyed command that a state of the device forbids (R570, R571). -/
def keyedBars (reason : Nat) (s : State) : KeyedOut := ⟨0x26, reason, 0, false, s⟩

/-- The key slot that a command names (R463). -/
def keySlotOf (d : Desc) : Fin 8 := ⟨fieldLE d.slot 7 1 % 8, Nat.mod_lt _ (by decide)⟩

/-- A command's counter (R567). -/
def keyCounter (d : Desc) : Nat := fieldLE d.slot 0x2C 8

/-- A command's opcode. -/
def keyedOp (d : Desc) : Nat := fieldLE d.slot 0 1

/-- The message of the mac (R567). -/
def keyMessage (d : Desc) : List Byte :=
  bytesLE 8 Config.serial ++ d.slot.take 0x34 ++ d.ext.flatMap fun e => e.drop 4

/-- The mac of a command verifies under a key (R567). -/
def macOk (key : List Byte) (d : Desc) : Bool := decide ((cmac key (keyMessage d)).take 12 = (d.slot.drop 0x34).take 12)

/-- The key of all zeros. -/
def zeroKey : List Byte := List.replicate 16 0

namespace State

/-- Change Canopy. -/
def modCanopy (s : State) (f : Canopy → Canopy) : State := { s with canopy := f s.canopy }

/-! ### Slots and their registers (R572, R576) -/

/-- A key slot. -/
def keySlot (s : State) (k : Fin 8) : KeySlot := s.canopy.slots[k]

/-- KEY_INFO, KEY_KCV and KEY_NEXT report a slot. -/
def showKey (s : State) (k : Fin 8) : State :=
  let x := s.keySlot k
  let s := (s.setFlag R.KEY_INFO_active x.key.isSome k).set R.KEY_INFO_rights x.rights k
  let s := s.set R.KEY_KCV_kcv ((x.key.map keyCheck).getD 0) k
  s.set64 R.KEY_NEXT_LO_next R.KEY_NEXT_HI_next ((x.counter + 1) % 2 ^ 64) k

/-- Replace a key slot. -/
def putKeySlot (s : State) (k : Fin 8) (x : KeySlot) : State :=
  (s.modCanopy fun c => { c with slots := c.slots.set k x }).showKey k

/-- KEY_STATUS reports the lockout state (R579). -/
def showLockout (s : State) : State :=
  let s := (s.setFlag R.KEY_STATUS_locked_out s.canopy.lockedUntil.isSome).set R.KEY_STATUS_lockouts (min 15 s.canopy.lockouts)
  s.set R.KEY_STATUS_failures (min 255 s.canopy.fails)

/-- The lockout state is committed with the counters (R579). Log: DESIGN CHOICE notes/assumptions/21.md. -/
def commitLockout (s : State) : State :=
  (s.psWrite 0x09 8 (bytesLE 1 s.canopy.fails ++ bytesLE 1 (min 255 s.canopy.lockouts) ++ bytesLE 1 (b2n s.canopy.lockedUntil.isSome)
    ++ [0] ++ bytesLE 4 s.lockoutLeft)).1

/-- A command's mac failed (R579): at the 8th failure in a row a lockout begins. -/
def tagFailed (s : State) : State :=
  let f := s.canopy.fails + 1
  if f < 8 then ((s.modCanopy fun c => { c with fails := f }).showLockout).commitLockout
  else
    let l := min 8 s.canopy.lockouts
    let dur := 10 * 2 ^ l
    let s := s.modCanopy fun c => { c with fails := f, lockouts := c.lockouts + 1, lockedUntil := some (s.now + dur * 1000000000) }
    (s.showLockout.commitLockout).event 0x69 0xFF (bytesLE 1 l ++ [0, 0, 0] ++ bytesLE 4 dur)

/-- An accepted mac resets the count of failures and of lockouts (R579). -/
def tagPassed (s : State) : State :=
  if s.canopy.fails = 0 ∧ s.canopy.lockouts = 0 then s
  else ((s.modCanopy fun c => { c with fails := 0, lockouts := 0 }).showLockout).commitLockout

/-- A lockout's time is over (R579). -/
def lockoutOver (s : State) : State :=
  match s.canopy.lockedUntil with
  | some t => if s.now < t then s else ((s.modCanopy fun c => { c with fails := 0, lockedUntil := none }).showLockout).commitLockout
  | none => s

/-- No slot holds a key. -/
def noKeys (s : State) : Bool := s.canopy.slots.toList.all fun x => x.key.isNone

/-- The provisioning that the device accepts (R573). -/
def provisioning (s : State) (d : Desc) : Bool :=
  s.noKeys && decide (keyedOp d = 0x41) && decide (fieldLE d.slot 0x20 1 = 3) && decide (keySlotOf d = 0) &&
    decide (fieldLE d.slot 0x21 1 = 0)

/-- A command asks for the op PROVISION (R573). -/
def asksProvision (d : Desc) : Bool := decide (keyedOp d = 0x41) && decide (fieldLE d.slot 0x20 1 = 3)

/-- Steps 6 and 7 of R569: the counter is accepted, and its reservation committed when it is needed (R577). A volatile
keys region takes no reservation: after a provisioning (`first`) every command that needs one fails (R628).
Log: DEDUCED notes/assumptions/76.md. -/
def takeCounter (s : State) (k : Fin 8) (c : Nat) (first : Bool) : State × Bool :=
  let s := s.putKeySlot k { s.keySlot k with counter := c }
  if c < (s.keySlot k).mark then (s, true)
  else if s.ps.volatile_.testBit 2 then (s, first)
  else
    let m := (c / 4096 + 1) * 4096
    let w := s.psWrite 0x09 k (bytesLE 8 m)
    if w.2 then (w.1.putKeySlot k { w.1.keySlot k with mark := m }, true) else (w.1, false)

/-- The KEYED event of a checked command (R586). -/
def keyedEvent (s : State) (d : Desc) (status reason : Nat) : State :=
  s.event 0x68 0xFF (bytesLE 1 (keyedOp d) ++ bytesLE 1 status ++ bytesLE 1 (keySlotOf d) ++ bytesLE 1 reason
    ++ bytesLE 2 d.ref.tag ++ bytesLE 2 d.ref.sq ++ bytesLE 8 (keyCounter d))

/-- The pair, or core 0 in split mode, runs and may check commands (R569, R670). -/
def keyedUp (s : State) : Bool := s.canopyUp && !s.canopyHalted && decide (s.get R.CANOPY_STATUS_fw_state = 1)

/-- The checks of R569 up to the opcode's own conditions, and then `act`; a counter whose reservation mark would pass 2^64
completes REPLAY (R677). -/
def keyedCheck (s : State) (d : Desc) (act : State → KeyedOut) : KeyedOut :=
  let k := keySlotOf d
  let x := s.keySlot k
  let first := s.provisioning d
  if s.canopy.lockedUntil.isSome then keyedDone 0x22 s
  else if ¬ first ∧ (x.key.isNone ∨ asksProvision d) then keyedDone 0x20 s
  else if ¬ first ∧ ¬ x.rights.testBit (keyedOp d - 0x40) then keyedDone 0x21 s
  else if ¬ macOk (if first then zeroKey else x.key.getD zeroKey) d then keyedDone 0x23 s.tagFailed
  else
    let s := s.tagPassed
    if keyCounter d ≤ x.counter ∨ 0xFFFFFFFFFFFFEFFF < keyCounter d then keyedDone 0x24 s
    else
      let r := s.takeCounter k (keyCounter d) first
      if r.2 then act r.1 else keyedDone 0x25 r.1

/-- A keyed command is checked and executed (R569, R586); when the pair does not run Hamper answers for it.
Log: DEDUCED notes/assumptions/76.md. -/
def keyedRun (s : State) (d : Desc) (act : State → KeyedOut) : State :=
  if ¬ s.keyedUp then s.complete d.ref 0x29
  else
    let o := (s.raiseCanopy 0).keyedCheck d act
    let s := o.state.keyedEvent d o.status o.reason
    if o.waits then s.accepted d.ref else s.finish d.ref o.status o.result

/-! ### Commits of single values (R580) -/

/-- A pair of a register payload put in its place. -/
def putPair (o v : Nat) : List (Nat × Nat) → List (Nat × Nat)
  | [] => [(o, v)]
  | e :: l => if o < e.1 then (o, v) :: e :: l else if e.1 = o then (o, v) :: l else e :: putPair o v l

/-- Commit one register's value with the record in force that holds it (R580, R617).
Log: DEDUCED notes/assumptions/76.md. -/
def commitWord (s : State) (off v : Nat) : State × Bool :=
  let at_ : Nat × Nat := if 0x10000 ≤ off then (0x03, (off - 0x10000) / 0x1000) else (0x02, 0)
  let old := ((s.psInForce at_.1 at_.2).map fun h => regPairs (s.psPayload h)).getD []
  s.psWrite at_.1 at_.2 (regPayload (putPair off v old))

/-- Commit the safety table (R552, R617). Log: DEDUCED notes/assumptions/76.md. -/
def commitSafety (s : State) : State × Bool := s.psWrite 0x02 1 s.safetyBytes

/-- Two commits in order. -/
def commitBoth (a : State × Bool) (f : State → State × Bool) : State × Bool :=
  let b := f a.1
  (b.1, a.2 && b.2)

/-- A command whose effect is committed completes OK, or STORE_FAILED. Log: DEDUCED notes/assumptions/76.md. -/
def keyedCommit (a : State × Bool) : KeyedOut := keyedDone (if a.2 then 0x00 else 0x25) a.1

/-! ### SAFETY_WRITE (R580) -/

/-- The word after a masked write. Log: DEDUCED notes/assumptions/76.md. -/
def maskedWord (old value mask : Nat) : Nat := (old &&& (0xFFFFFFFF - mask)) ||| (value &&& mask)

/-- The registers that kind 0x00 may write. -/
def safetyTarget (off : Nat) : Bool :=
  if off % 4 ≠ 0 then false
  else if 0x10000 ≤ off then
    let z := off % 0x1000
    decide (off < 0x50000) && (decide (0x800 ≤ z ∧ z ≤ 0x834) || [0x85C, 0x400, 0x418, 0x620, 0x624, 0x630, 0x634].contains z)
  else
    decide (0xA000 ≤ off ∧ off < 0xA0C0) || [0xDA00, 0xDA04, 0x101C, 0x8000, 0x8100, 0x8200, 0x8300].contains off ||
      decide (0x8500 ≤ off ∧ off < 0x8580)

/-- What a masked write keeps of the old word: bits that a write of 1 would clear are not written back.
Log: DEDUCED notes/assumptions/76.md. -/
def keptBits (off : Nat) (old : Word) : Nat :=
  match regRow off with
  | some r => ((r.fields.filter fun f => decide (f.acc = .w1c)).foldl (fun w f => insertBits w f.msb f.lsb 0) old).toNat
  | none => old.toNat

/-- A locked register is written, FB_FCAP and FB_ECAP with the tile's W1 and W2 in one step (R565, R580). -/
def safetyReg (s : State) (off value mask : Nat) : State × Bool :=
  let old := keptBits off (s.regRead .canopyA off).1
  let v := maskedWord old value mask
  let n := blockTile off
  let s := s.regWrite .canopyA true off (BitVec.ofNat 32 v)
  let z := if 0x10000 ≤ off then off % 0x1000 else 0
  if z = 0x85C then s.psWrite 0x04 n (s.profPayload n)
  else
    let now := (s.liveWord off).toNat
    let a : State × Bool :=
      if isPairLow off then (s, true)
      else if isPairHigh off then
        commitBoth (s.commitWord (off - 4) (s.liveWord (off - 4)).toNat) fun s => s.commitWord off now
      else s.commitWord off now
    if z = 0x814 then commitBoth a fun s => (s.putSafety n 1 now).commitSafety
    else if z = 0x818 then commitBoth a fun s => (s.putSafety n 2 now).commitSafety
    else a

/-- SAFETY_WRITE kind 0x00, and the kinds that do not exist. -/
def safetyRegOf (d : Desc) (s : State) : KeyedOut :=
  let t := fieldLE d.slot 0x20 4
  if bits t 31 24 ≠ 0 ∨ bits t 23 20 ≠ 0 ∨ ¬ safetyTarget (bits t 19 0) then keyedDone 0x27 s
  else keyedCommit (s.safetyReg (bits t 19 0) (fieldLE d.slot 0x24 4) (fieldLE d.slot 0x28 4))

/-- The bits that a word of the safety table holds (R553). -/
def safetyMask (e w : Nat) : Nat :=
  if e = 64 then (if w = 0 then 0xFFFF else 0)
  else
    match w with
    | 0 => 0xFFFFF000
    | 3 => 0x7FFFFFFF
    | 6 => 0
    | _ => 0xFFFFFFFF

/-- SAFETY_WRITE kind 0x01: a word of the safety table, W1 and W2 with the tile's FB_FCAP and FB_ECAP. -/
def safetyTableOf (d : Desc) (s : State) : KeyedOut :=
  let t := fieldLE d.slot 0x20 4
  let i := bits t 9 0
  let e := i / 8
  let w := i % 8
  if bits t 23 10 ≠ 0 ∨ 520 ≤ i ∨ w = 7 then keyedDone 0x27 s
  else
    let v := maskedWord (s.safety e w) (fieldLE d.slot 0x24 4) (fieldLE d.slot 0x28 4) &&& safetyMask e w
    let a := (s.putSafety e w v).commitSafety
    if e < 64 ∧ (w = 1 ∨ w = 2) then
      let off := 0x10000 + 0x1000 * e + (if w = 1 then 0x814 else 0x818)
      keyedCommit (commitBoth a fun s => (s.regWrite .canopyA true off (BitVec.ofNat 32 v)).commitWord off v)
    else keyedCommit a

/-- SAFETY_WRITE kind 0x02: the split ownership of the next Dawn (R549). -/
def splitOwnOf (d : Desc) (s : State) : KeyedOut :=
  let t := fieldLE d.slot 0x20 4
  if 2 ≤ bits t 23 0 then keyedDone 0x27 s
  else
    let own := s.canopy.ownNext.getD (s.get64 R.SPLIT_OWN_LO_tiles R.SPLIT_OWN_HI_tiles)
    let hi := bit t 0
    let old := if hi then own / 2 ^ 32 else own % 2 ^ 32
    let v := maskedWord old (fieldLE d.slot 0x24 4) (fieldLE d.slot 0x28 4)
    let own := if hi then own % 2 ^ 32 + 2 ^ 32 * v else own / 2 ^ 32 * 2 ^ 32 + v
    let s := s.modCanopy fun c => { c with ownNext := some own }
    keyedCommit (commitBoth (s.commitWord R.SPLIT_OWN_LO.off (own % 2 ^ 32)) fun s =>
      s.commitWord R.SPLIT_OWN_HI.off (own / 2 ^ 32))

/-- SAFETY_WRITE kind 0x03: a veto with cause COMMAND (R554). -/
def commandVetoOf (d : Desc) (s : State) : KeyedOut :=
  let mask := fieldLE d.slot 0x24 4 + 2 ^ 32 * fieldLE d.slot 0x28 4
  keyedDone 0x00 (s.forTiles (allTiles.filter fun n => mask.testBit n.val) fun n s => s.raiseVeto n 7 0 0)

/-! ### KEY_CHANGE (R573 to R575) -/

/-- Commit a key slot (R575). Log: DESIGN CHOICE notes/assumptions/21.md. -/
def commitKey (s : State) (k : Fin 8) : State × Bool :=
  let x := s.keySlot k
  s.psWrite 0x08 k (x.key.getD zeroKey ++ bytesLE 1 x.rights ++ bytesLE 1 (b2n x.key.isSome) ++ [0, 0]
    ++ bytesLE 4 ((x.key.map keyCheck).getD 0))

/-- INSTALL (R575). -/
def installOf (d : Desc) (s : State) : KeyedOut :=
  let t := fieldLE d.slot 0x21 1
  let rights := fieldLE d.slot 0x22 1
  let x := s.keySlot (keySlotOf d)
  if h : t < 8 then
    if rights &&& (0xFF - x.rights % 128) ≠ 0 then keyedDone 0x27 s
    else
      match keyUnwrap (x.key.getD zeroKey) (((d.ext.headD []).drop 4).take 24) with
      | some key =>
        if keyCheck key ≠ fieldLE d.slot 0x24 4 then keyedDone 0x28 s
        else keyedCommit ((s.putKeySlot ⟨t, h⟩ { s.keySlot ⟨t, h⟩ with key := some key, rights := rights }).commitKey ⟨t, h⟩)
      | none => keyedDone 0x28 s
  else keyedDone 0x27 s

/-- Another active slot than `t` holds right 1. -/
def otherKeeper (s : State) (t : Nat) : Bool :=
  (List.finRange 8).any fun k => decide (k.val ≠ t) && (s.keySlot k).key.isSome && (s.keySlot k).rights.testBit 1

/-- ERASE (R575). -/
def eraseOf (d : Desc) (s : State) : KeyedOut :=
  let t := fieldLE d.slot 0x21 1
  if h : t < 8 then
    if ¬ s.otherKeeper t then keyedBars 6 s
    else keyedCommit ((s.putKeySlot ⟨t, h⟩ { s.keySlot ⟨t, h⟩ with key := none, rights := 0 }).commitKey ⟨t, h⟩)
  else keyedDone 0x27 s

/-- PROVISION (R573): the key in clear into slot 0 with every right. Log: DEDUCED notes/assumptions/76.md. -/
def provisionOf (d : Desc) (s : State) : KeyedOut :=
  let key := ((d.ext.headD []).drop 4).take 16
  if keyCheck key ≠ fieldLE d.slot 0x24 4 then keyedDone 0x28 s
  else keyedCommit ((s.putKeySlot 0 { s.keySlot 0 with key := some key, rights := 0x7F }).commitKey 0)

/-! ### The other opcodes (R581 to R585) -/

/-- IMAGE_ACTIVATE (R581); a slot being loaded fails its check (R634). -/
def imageActivateOf (d : Desc) (s : State) : KeyedOut :=
  let slot := fieldLE d.slot 0x20 1
  let build := fieldLE d.slot 0x28 4
  let loading := s.flag R.PS_LOAD_CTL_busy && decide (s.get R.PS_LOAD_CTL_kind = 0) && decide (s.get R.PS_LOAD_CTL_number = slot)
  if 2 ≤ slot ∨ loading then keyedDone 0x27 s
  else
    match s.psInForce 0x01 slot with
    | none => keyedDone 0x27 s
    | some h =>
      let b := s.psPayload h
      if ¬ bootImageOk b ∨ fieldLE b 0x1C 4 ≠ fieldLE d.slot 0x24 4 ∨ fieldLE b 0x20 4 ≠ build then keyedDone 0x27 s
      else if build < s.get R.CANOPY_FW_build ∧ fieldLE d.slot 0x21 1 = 0 then keyedBars 7 s
      else
        let w := s.psWrite 0x02 2 (bytesLE 1 slot)
        keyedDone (if w.2 then 0x00 else 0x25) w.1 slot

/-- The condition of a tile's standing veto persists (R556), by the cause of its last veto. -/
def vetoPersists (s : State) (n : Fin 64) : Bool :=
  let w0 := s.safety n 0
  let period := bits (s.safety 64 0) 15 0
  match bits (s.safety n 7) 31 24 with
  | 5 => (bit w0 30 || bit w0 29) &&
      (decide (s.get R.FB_FCAP_f_cap n ≠ s.safety n 1) || decide (s.get R.FB_ECAP_e_cap n ≠ s.safety n 2))
  | 6 => decide (period ≠ 0) && decide (1000000 * period < s.now - s.canopy.hostKick)
  | 7 => false
  | c => decide (s.canopy.latest[n] = c)

/-- LULL_RELEASE (R556, R582): the ticket names the tiles released, and their lines drop.
Log: DEDUCED notes/assumptions/76.md. -/
def lullReleaseOf (d : Desc) (s : State) : KeyedOut :=
  let mask := fieldLE d.slot 0x20 8
  let go := allTiles.filter fun n => mask.testBit n.val && s.vetoed n && !s.vetoPersists n
  if go.isEmpty then keyedBars 1 s
  else
    let ticket := (go.map fun (n : Fin 64) => 2 ^ n.val).sum
    let s := s.modCanopy fun c => { c with ticket := ticket }
    let s := s.forTiles go fun n s => s.vetoDrop n
    keyedDone 0x00 (s.modCanopy fun c => { c with ticket := 0 }) ticket

/-- AUTHORITY_CLAIM (R583). -/
def authorityClaimOf (d : Desc) (s : State) : KeyedOut :=
  if ¬ s.isRoot then keyedBars 4 s
  else
    let s := s.claimAuthority (fieldLE d.slot 0x20 4)
    keyedDone 0x00 s (s.rd R.USF_AUTH.off).toNat

/-- EPOCH_RESET (R584): it completes at A. -/
def epochResetOf (d : Desc) (s : State) : KeyedOut :=
  if ¬ s.isMaster then keyedBars 3 s
  else if s.flag R.TIME_STATUS_step_pending then keyedBars 5 s
  else
    let s := (s.announceStep s.now 0 true (some d.ref)).track d.ref .action
    ⟨0x00, 0, 0, true, s⟩

/-- BENCH_MODE (R552, R585). Log: DEDUCED notes/assumptions/76.md. -/
def benchModeOf (d : Desc) (s : State) : KeyedOut :=
  let on := decide (fieldLE d.slot 0x20 1 ≠ 0)
  if on ∧ ¬ s.flag R.DAWN_STRAPS_bench_en then keyedBars 2 s
  else if on = s.bench then keyedDone 0x00 s
  else keyedDone 0x00 (((s.setFlag R.CANOPY_STATUS_bench on).showClaim).event 0x63 0xFF (bytesLE 1 (b2n on)))

end State

/-- A keyed row: the command runs when the descriptor is one of its opcode and kind; another is no command of this row. -/
def keyedRow (mine : Bool) (d : Desc) (act : Desc → State → KeyedOut) (s : State) : Res :=
  .next (if mine then s.keyedRun d (act d) else s)

/-- The kind of a SAFETY_WRITE (R580). -/
def safetyKind (d : Desc) : Nat := fieldLE d.slot 0x23 1

/-- The op of a KEY_CHANGE (R574). -/
def keyOp (d : Desc) : Nat := fieldLE d.slot 0x20 1

/-- SAFETY_WRITE of kind 0x00 (R580), and of the kinds that name nothing. -/
def execSafetyRegWrite (d : Desc) (s : State) : Res :=
  keyedRow (keyedOp d = 0x40 && (safetyKind d = 0 || 4 ≤ safetyKind d)) d State.safetyRegOf s

/-- SAFETY_WRITE of kind 0x01 (R580). -/
def execSafetyTableWrite (d : Desc) (s : State) : Res := keyedRow (keyedOp d = 0x40 && safetyKind d = 1) d State.safetyTableOf s

/-- SAFETY_WRITE of kind 0x02 (R580). -/
def execSplitOwnWrite (d : Desc) (s : State) : Res := keyedRow (keyedOp d = 0x40 && safetyKind d = 2) d State.splitOwnOf s

/-- SAFETY_WRITE of kind 0x03 (R580). -/
def execCommandVeto (d : Desc) (s : State) : Res := keyedRow (keyedOp d = 0x40 && safetyKind d = 3) d State.commandVetoOf s

/-- KEY_CHANGE INSTALL (R575). -/
def execInstall (d : Desc) (s : State) : Res := keyedRow (keyedOp d = 0x41 && keyOp d = 1) d State.installOf s

/-- KEY_CHANGE ERASE (R575). -/
def execErase (d : Desc) (s : State) : Res := keyedRow (keyedOp d = 0x41 && keyOp d = 2) d State.eraseOf s

/-- KEY_CHANGE PROVISION (R573). -/
def execProvision (d : Desc) (s : State) : Res := keyedRow (keyedOp d = 0x41 && keyOp d = 3) d State.provisionOf s

/-- IMAGE_ACTIVATE (R581). -/
def execImageActivate (d : Desc) (s : State) : Res := keyedRow (keyedOp d = 0x42) d State.imageActivateOf s

/-- LULL_RELEASE (R582). -/
def execLullRelease (d : Desc) (s : State) : Res := keyedRow (keyedOp d = 0x43) d State.lullReleaseOf s

/-- AUTHORITY_CLAIM (R583). -/
def execAuthorityClaim (d : Desc) (s : State) : Res := keyedRow (keyedOp d = 0x44) d State.authorityClaimOf s

/-- EPOCH_RESET (R584). -/
def execEpochReset (d : Desc) (s : State) : Res := keyedRow (keyedOp d = 0x45) d State.epochResetOf s

/-- BENCH_MODE (R585). -/
def execBenchMode (d : Desc) (s : State) : Res := keyedRow (keyedOp d = 0x46) d State.benchModeOf s

/-- LOCKOUT_END (R579). -/
def execLockoutEnd (s : State) : Res := .next s.lockoutOver

end Sys2Proof.Machine
end

