-- ==== Sys2Proof/Machine/CommandOps.lean ====
section
/-! DEFINITION. Descriptors: their checks, targets and delivery, and what each one does on the device that executes it
(15_hamper_rings.md R462 to R484, 16_usfen_chain_and_groups.md R505, R515, 17_site_time_and_event_order.md R533 to R537). -/

namespace Sys2Proof.Machine

/-- A descriptor's opcode (R463). -/
def opOf (slot : List Byte) : Nat := fieldLE slot 0 1

/-- Its flags, its addr word and the parts of it (R463). -/
def flagsOf (slot : List Byte) : Nat := fieldLE slot 1 1
def addrOf (slot : List Byte) : Nat := fieldLE slot 4 4
def modeOf (slot : List Byte) : Nat := bits (addrOf slot) 31 30
def depthOf (slot : List Byte) : Nat := bits (addrOf slot) 29 27

/-- Bytes `a` to `b` − 1 of a slot are 0 (R466). -/
def zeros (slot : List Byte) (a b : Nat) : Bool := ((slot.drop a).take (b - a)).all fun x => decide (x = 0)

/-- An opcode of R466 that a first slot may carry. Log: DEDUCED notes/assumptions/70.md. -/
def knownOp (op : Nat) : Bool := decide (op ≤ 0x11) || (decide (0x40 ≤ op) && decide (op ≤ 0x46))

/-- A keyed opcode (R466). -/
def isKeyed (op : Nat) : Bool := decide (0x40 ≤ op) && decide (op ≤ 0x46)

/-- Opcodes whose target is a tile (R464, R466). -/
def tileOp (op : Nat) : Bool := [0x01, 0x02, 0x03, 0x04, 0x0E].contains op

/-- The header's fields are in range (R463, R568). Log: DEDUCED notes/assumptions/70.md. -/
def headerOk (slot : List Byte) : Bool :=
  let op := opOf slot
  let a := addrOf slot
  decide (flagsOf slot < 16) && decide (bits a 23 22 = 0) && (isKeyed op || decide (bits a 26 24 = 0)) && zeros slot 0x14 0x18 &&
    (decide (modeOf slot ≠ 2) ||
      (decide (1 ≤ depthOf slot) && decide (depthOf slot ≤ 6) && decide (fieldLE slot 8 9 < 2 ^ (12 * depthOf slot)))) &&
    decide (bit (flagsOf slot) 3 = isKeyed op) && (!isKeyed op || zeros slot 0x18 0x20)

/-- Every EXT slot repeats the command's tag behind 0xFE and 0 (R465). -/
def extOk (slot : List Byte) (ext : List (List Byte)) : Bool :=
  ext.all fun e => decide (fieldLE e 0 1 = 0xFE) && decide (fieldLE e 1 1 = 0) && decide (fieldLE e 2 2 = fieldLE slot 2 2)

/-- The entries of a GROUP_MOVE: the used ones name a member, the others hold 0xFF and zeros (R467). -/
def entriesOk (n : Nat) (ext : List (List Byte)) : Bool :=
  (ext.flatMap fun e => [0x04, 0x18, 0x2C].map fun o => (e.drop o).take 20).zipIdx.all fun x =>
    zeros x.1 1 4 && (if x.2 < n then decide (fieldLE x.1 0 1 ≠ 0xFF) else decide (fieldLE x.1 0 1 = 0xFF) && zeros x.1 4 20)

/-- The payload of a keyed command is well formed (R574, R580 to R585). Log: DEDUCED notes/assumptions/76.md. -/
def keyedPayloadOk (slot : List Byte) : Bool :=
  match opOf slot with
  | 0x41 => decide (1 ≤ fieldLE slot 0x20 1) && decide (fieldLE slot 0x20 1 ≤ 3) && decide (fieldLE slot 0x21 1 < 8) &&
      zeros slot 0x23 0x24 && zeros slot 0x28 0x2C && (decide (fieldLE slot 0x20 1 = 1) || zeros slot 0x22 0x23)
  | 0x42 => decide (fieldLE slot 0x20 1 ≤ 1) && decide (fieldLE slot 0x21 1 ≤ 1) && zeros slot 0x22 0x24
  | 0x43 => zeros slot 0x28 0x2C
  | 0x44 => zeros slot 0x24 0x2C
  | 0x45 => zeros slot 0x20 0x2C
  | 0x46 => decide (fieldLE slot 0x20 1 ≤ 1) && zeros slot 0x21 0x2C
  | _ => true

/-- The payload's fields are in range and its unused bytes 0 (R466, R467, R483, R484).
Log: DEDUCED notes/assumptions/70.md. -/
def payloadOk (slot : List Byte) (ext : List (List Byte)) : Bool :=
  let b (o : Nat) : Nat := fieldLE slot o 1
  match opOf slot with
  | 0x00 => zeros slot 0x20 0x40
  | 0x01 => true
  | 0x02 => decide (b 0x20 < 16) && zeros slot 0x21 0x40
  | 0x03 => decide (fieldLE slot 0x20 2 < 2048) && decide (b 0x22 ≤ 1) && zeros slot 0x23 0x28 && zeros slot 0x3C 0x40 &&
      (decide (b 0x22 = 1) || zeros slot 0x30 0x3C)
  | 0x04 => decide (1 ≤ b 0x20) && decide (b 0x20 ≤ 4) && zeros slot 0x21 0x40
  | 0x05 =>
    let n := fieldLE slot 0x24 4
    decide (1 ≤ n) && decide (n ≤ 6) && decide (fieldLE slot 0x20 4 + 4 * n ≤ 0x50000) && zeros slot (0x28 + 4 * n) 0x40
  | 0x06 =>
    let n := fieldLE slot 0x24 4
    decide (1 ≤ n) && decide (n ≤ 2) && decide (fieldLE slot 0x20 4 + 4 * n ≤ 0x50000) && zeros slot 0x28 0x40
  | 0x07 => decide (2 ≤ modeOf slot) && zeros slot 0x20 0x40
  | 0x08 => zeros slot 0x22 0x40
  | 0x09 =>
    let n := b 0x24
    decide (1 ≤ n) && decide (n ≤ 16) && zeros slot 0x25 0x28 && zeros slot (0x28 + 2 * n) 0x40 &&
      ext.all fun e => zeros e (4 + 2 * (n - 12)) 0x40
  | 0x0A => zeros slot 0x22 0x40
  | 0x0B => decide (1 ≤ b 0x22) && decide (b 0x22 ≤ 16) && zeros slot 0x30 0x40 && entriesOk (b 0x22) ext
  | 0x0C => [0x01, 0x02, 0x04, 0x05, 0x08].contains (b 0x22) && zeros slot 0x23 0x24 && zeros slot 0x28 0x40 &&
      (decide (b 0x22 = 8) || zeros slot 0x24 0x28)
  | 0x0D =>
    if b 0x20 = 0 then decide (b 0x21 < 64) && zeros slot 0x22 0x24 && decide (bits (fieldLE slot 0x24 4) 29 22 = 0) && zeros slot 0x28 0x40
    else decide (b 0x20 = 1) && zeros slot 0x21 0x22 && zeros slot 0x24 0x28 && decide (1 ≤ b 0x31) && decide (b 0x31 ≤ 6) &&
      decide (fieldLE slot 0x28 9 < 2 ^ (12 * b 0x31)) && zeros slot 0x32 0x40
  | 0x0E => zeros slot 0x2C 0x40
  | 0x0F => decide (b 0x28 ≤ 1) && zeros slot 0x29 0x40
  | 0x10 => decide (b 0x30 ≤ 1) && zeros slot 0x31 0x40
  | 0x11 => zeros slot 0x24 0x40
  | _ => keyedPayloadOk slot

/-- A MIGRATE that rebinds its queue (R483). -/
def isRebind (slot : List Byte) : Bool := decide (opOf slot = 0x0D) && decide (fieldLE slot 0x20 1 = 0)

namespace State

/-! ### Targets (R464, R505) -/

/-- A device of the unit exists at a route and depth, as far as this device can tell.
Log: DEDUCED notes/assumptions/71.md. -/
def placeExists (s : State) (route depth : Nat) : Bool :=
  (decide (route = s.ownRoute) && decide (depth = s.ownDepth)) || s.isRootB ||
    s.usfen.units.any fun u => decide (u.2.1 = route) && decide (u.2.2.1 = depth)

/-- The leader of a group: as this device holds the group, or as a formation told the root (R467).
Log: DEDUCED notes/assumptions/71.md. -/
def leaderOf (s : State) (tag : Nat) : Option (Nat × Nat) :=
  match (s.slotOfTag tag).bind s.group with
  | some g => some (g.leaderRoute, g.leaderDepth)
  | none => (s.hamper.leads.find? fun l => decide (l.1 = tag)).map (·.2)

/-- Tile `n` of this device. -/
def axisHere (s : State) (n : Nat) : AxisRef := { route := s.ownRoute, depth := s.ownDepth, tile := tileOf n }

/-- What a binding names (R457), with whether it names a tile. -/
def bound (s : State) (w : Nat) : Option (AxisRef × Bool) :=
  match bits w 31 30 with
  | 0 => none
  | 1 => some (s.axisHere (bits w 21 16), true)
  | 2 => (s.resolveHandle (bits w 15 0)).map fun a => (a, true)
  | _ => (s.leaderOf (bits w 15 0)).map fun l => ({ route := l.1, depth := l.2, tile := 0 }, false)

/-- The target that a descriptor of queue `q` names (R464). -/
def named (s : State) (q : Nat) (slot : List Byte) : Option (AxisRef × Bool) :=
  let a := addrOf slot
  match modeOf slot with
  | 0 => s.bound (s.rd (R.SQ_BIND.at q)).toNat
  | 1 => (s.resolveHandle (bits a 15 0)).map fun x => (x, true)
  | 2 =>
    if s.placeExists (fieldLE slot 8 9) (depthOf slot) then
      some ({ route := fieldLE slot 8 9, depth := depthOf slot, tile := tileOf (bits a 21 16) }, true)
    else none
  | _ => some (s.axisHere (bits a 21 16), true)

/-- The target, or none for NO_TARGET: a tile's opcode needs a tile. -/
def targetOf (s : State) (q : Nat) (slot : List Byte) : Option AxisRef :=
  match s.named q slot with
  | some (a, tile) => if tileOp (opOf slot) ∧ ¬ tile then none else some a
  | none => none

/-- Route and depth of the other root (R511). -/
def otherRoot (s : State) : Option (Nat × Nat) :=
  if s.isRootB then some (1, 1)
  else (s.usfen.units.find? fun u => u.2.2.2 && decide (u.2.1 ≠ s.ownRoute)).map fun u => (u.2.1, u.2.2.1)

/-! ### What the commands of this device do -/

/-- NOP (R466). -/
def nopOf (s : State) (d : Desc) : State := s.finish d.ref 0x00

/-- FENCE (R537). Log: DEDUCED notes/assumptions/71.md. -/
def fenceOf (s : State) (d : Desc) : State :=
  (s.event 0x02 0xFF (bytesLE 4 (fieldLE d.slot 0x20 4) ++ bytesLE 1 d.ref.sq ++ [0] ++ bytesLE 2 d.ref.tag)).finish d.ref 0x00

/-- Two commands came through one submission queue. -/
def sameQueue (a b : CmdRef) : Bool :=
  decide (a.own = b.own ∧ a.srcRoute = b.srcRoute ∧ a.srcDepth = b.srcDepth ∧ a.sq = b.sq)

/-- No earlier command of the queue for the same tile has still to act: they act in ring order (R462). -/
def inOrder (s : State) (d : Desc) : Bool :=
  (s.hamper.fetched.takeWhile fun x => decide (x ≠ d)).all fun x =>
    !(tileOp (opOf x.slot) && decide (x.tile = d.tile) && sameQueue x.ref d.ref)

/-- SEGMENT (R33, R34, R39, R469). -/
def segmentOf (s : State) (d : Desc) : State :=
  s.ifMotion d.ref fun s =>
    let g := descSeg d
    if ¬ s.segLegal d.tile g then s.complete d.ref 0x03
    else if 1024 ≤ s.trailCount d.tile ∨ (s.hamper.heldSegs.any fun x => decide (x.tile = d.tile)) then
      (s.track d.ref (.heldSegment d.tile)).modHamper fun h => { h with heldSegs := h.heldSegs ++ [d] }
    else s.placeTracked d g

/-- TRAIL_CMD (R43, R44, R515). -/
def trailDesc (s : State) (d : Desc) : State :=
  let cmd := fieldLE d.slot 0x20 1
  let act (s : State) : State :=
    let r := s.trailCmd d.tile cmd
    r.2.finish d.ref (if r.1 then 0x00 else 0x08)
  if cmd = 5 ∨ cmd = 6 then s.ifMotion d.ref act else act s

/-- REPLACE (R64, R65): an accepted one completes on the next plan tick, since a STOP of the same tick refuses it (R69); a tile
that is Asleep has no tick. Log: DEDUCED notes/assumptions/106.md. -/
def replaceDesc (s : State) (d : Desc) : State :=
  s.ifMotion d.ref fun s =>
    let lim : Option (Nat × Nat × Nat) := if fieldLE d.slot 0x22 1 = 1 then
      some (fieldLE d.slot 0x30 4, fieldLE d.slot 0x34 4, fieldLE d.slot 0x38 4) else none
    let waits := decide (s.st d.tile ≠ stAsleep)
    let r := s.replaceTarget d.tile (fieldLE d.slot 0x20 2) (signed 64 (fieldLE d.slot 0x28 8)) lim
      (if waits then some d.ref else none)
    if r.1 = 0 ∧ waits then (r.2.track d.ref .action).accepted d.ref else r.2.finish d.ref r.1

/-- TILE_CMD (R22); the outcome of the self-check of TILE_RESET is not a descriptor's to give.
Log: DEDUCED notes/assumptions/78.md. -/
def tileDesc (s : State) (d : Desc) : State :=
  let n := d.tile
  let done (s : State) : State := s.finish d.ref 0x00 (s.st n)
  match fieldLE d.slot 0x20 1 with
  | 1 => s.ifMotion d.ref fun s => done (s.wakeRequest n)
  | 2 => s.ifMotion d.ref fun s => done (s.beginEnergise n)
  | 3 => done (s.deEnergise n)
  | _ => done (s.fresh.2.tileResetOf n (decide (s.fresh.1 % 2 = 1)))

/-- The offsets that a REG_WRITE or REG_READ names (R466). Log: DEDUCED notes/assumptions/78.md. -/
def regOffs (d : Desc) : List Nat := (List.range (fieldLE d.slot 0x24 4)).map fun i => fieldLE d.slot 0x20 4 + 4 * i

/-- REG_WRITE (R466, R515): as host writes, none when one of its words holds a locked field. -/
def regWriteOf (s : State) (d : Desc) : State :=
  let offs := regOffs d
  let act (s : State) : State :=
    if offs.any s.lockedField then s.complete d.ref 0x09
    else
      (offs.zipIdx.foldl (fun (s : State) (x : Nat × Nat) =>
        if x.1 % 4 ≠ 0 then s.barErr 1 x.1
        else s.busWrite .descriptor x.1 (BitVec.ofNat 32 (fieldLE d.slot (0x28 + 4 * x.2) 4))) s).finish d.ref 0x00
  if offs.any fun o => decide (0x10000 ≤ o) then s.ifMotion d.ref act else act s

/-- REG_READ (R466): as host reads. Log: DEDUCED notes/assumptions/78.md. -/
def regReadOf (s : State) (d : Desc) : State :=
  let r := (regOffs d).foldl (fun (a : List Nat × State) (o : Nat) =>
    if o % 4 ≠ 0 then (a.1 ++ [0], a.2.barErr 1 o)
    else
      let x := a.2.regRead .descriptor o
      (a.1 ++ [x.1.toNat], x.2)) ([], s)
  r.2.finish d.ref 0x00 (r.1.getD 0 0 + 2 ^ 32 * r.1.getD 1 0)

/-- The lowest handle that the table does not hold (R505). -/
def freeHandle (s : State) : Nat :=
  ((List.range (s.hamper.handles.length + 1)).find? fun h => s.hamper.handles.all fun e => decide (e.1 ≠ h)).getD 65536

/-- Serial of the device that a HANDLE_ALLOC names (R505). -/
def serialAt (s : State) (a : AxisRef) : Option Nat :=
  if s.isHere a then some Config.serial
  else if s.isRootB then some (Config.rollSerial (s.get R.USF_ROLL_GEN_generation) a.route a.depth)
  else (s.usfen.units.find? fun u => decide (u.2.1 = a.route) && decide (u.2.2.1 = a.depth)).map (·.1)

/-- A change of the handle table goes to the other root (R498, R515). -/
def syncHandle (s : State) (h op tile serial : Nat) : State :=
  match s.otherRoot with
  | some r =>
    s.sendRouted 0x8C r.1 r.2 (bytesLE 2 h ++ bytesLE 1 op ++ bytesLE 1 tile ++ bytesLE 8 serial)
  | none => s

/-- A change of the handle table is made at both roots of a ring, or not while the path between them is down (R515). -/
def withRing (s : State) (r : CmdRef) (act : State → State) : State :=
  if s.flag R.USF_ID_ring then
    let p := s.ringPath
    if p.1 then act p.2 else p.2.complete r 0x11
  else act s

/-- HANDLE_ALLOC (R505), at a root. -/
def handleAllocOf (s : State) (d : Desc) : State :=
  match (s.named d.ref.sq d.slot).bind fun a => (s.serialAt a.1).map fun x => (a.1, x) with
  | none => s.complete d.ref 0x05
  | some (a, serial) =>
    let h := s.freeHandle
    if 65536 ≤ h then s.complete d.ref 0x06
    else s.withRing d.ref fun s =>
      let s := s.modHamper fun x => { x with handles := x.handles ++ [(h, serial, a.tile.val)] }
      (s.syncHandle h 1 a.tile.val serial).finish d.ref 0x00 h

/-- HANDLE_FREE (R505), at a root. -/
def handleFreeOf (s : State) (d : Desc) : State :=
  let h := fieldLE d.slot 0x20 2
  match s.hamper.handles.find? fun e => decide (e.1 = h) with
  | none => s.complete d.ref 0x05
  | some e => s.withRing d.ref fun s =>
      let s := s.modHamper fun x => { x with handles := x.handles.filter fun y => decide (y.1 ≠ h) }
      (s.syncHandle h 2 e.2.2 e.2.1).finish d.ref 0x00

/-- TIME_SET (R523). -/
def timeSetDesc (s : State) (d : Desc) : State := s.timeSetOf d.ref (fieldLE d.slot 0x20 8) (decide (fieldLE d.slot 0x28 1 = 1))

/-- GROUP_CMD by its code (R99, R466, R515). -/
def groupCmdOf (s : State) (d : Desc) : State :=
  let cmd := fieldLE d.slot 0x22 1
  let act (s : State) : State := s.groupCmdDesc d cmd (signed 32 (fieldLE d.slot 0x24 4))
  if cmd = 5 ∨ cmd = 8 then s.ifMotion d.ref act else act s

/-! ### Migration (R483, R484, R106) -/

/-- MIGRATE of the queue that carries it (R483). Log: DEDUCED notes/assumptions/79.md. -/
def rebind (s : State) (d : Desc) : State :=
  s.ifMotion d.ref fun s =>
    let q := d.ref.sq
    let w := fieldLE d.slot 0x24 4
    if s.hamper.migrating.any fun m => decide (m.1 = q) then s.complete d.ref 0x13
    else if bits w 31 30 ≠ 0 ∧ (s.bound w).isNone then s.complete d.ref 0x05
    else
      let old := (s.hamper.tracks.filter fun t => t.ref.own && decide (t.ref.sq = q) && decide (t.ref ≠ d.ref)).map (·.ref)
      let s := (s.track d.ref .marker).accepted d.ref
      let s := s.modHamper fun h => { h with migrating := h.migrating ++ [(q, d.ref, old)] }
      let s := (s.wr (R.SQ_BIND.at q) (BitVec.ofNat 32 w)).set R.SQ_CFG_cq (fieldLE d.slot 0x21 1) q
      let s := s.set R.SQ_STATUS_epoch ((s.get R.SQ_STATUS_epoch q + 1) % 65536) q
      if s.get R.SQ_STATUS_state q = 1 then s.set R.SQ_STATUS_state 3 q else s

/-- The marker of queue `q` is due: the MIGRATE completes on the old CQ and the queue runs on (R483).
Log: DEDUCED notes/assumptions/79.md. -/
def markerOf (s : State) (q : Nat) : State :=
  match s.hamper.migrating.find? fun m => decide (m.1 = q) with
  | none => s
  | some m =>
    if m.2.2 ≠ [] then s
    else
      let s := s.deliver m.2.1 (if s.hamper.late.contains m.2.1 then 0x0C else 0x00) 6 0
      let s := s.modHamper fun h => { h with migrating := h.migrating.filter (fun x => decide (x.1 ≠ q)),
                                             late := h.late.filter (· ≠ m.2.1) }
      let s := (s.unfetch m.2.1).setTracks (s.hamper.tracks.filter fun t => t.ref ≠ m.2.1)
      if s.get R.SQ_STATUS_state q = 3 then s.set R.SQ_STATUS_state 1 q else s

/-- Epoch `a` is newer than `b` (R106). -/
def newer (a b : Nat) : Bool :=
  let d := (a + 65536 - b % 65536) % 65536
  decide (1 ≤ d) && decide (d ≤ 32767)

/-- A member device adopts a newer epoch and its leader; a member that waits for START signals ready again (R106). -/
def adoptEpoch (s : State) (k epoch route depth : Nat) : State :=
  match s.group k with
  | none => s
  | some g =>
    if ¬ newer epoch g.epoch then s
    else
      let here := decide (route = s.ownRoute) && decide (depth = s.ownDepth)
      let s := s.setGroup k (some { g with epoch := epoch, leaderRoute := route, leaderDepth := depth, leaderHere := here })
      s.forTiles (s.localMembers k) fun n s =>
        let s := (s.set R.GROUP_LEAD_epoch epoch n).setFlag R.GROUP_CFG_leader_here here n
        if s.flag R.GROUP_STATUS_waiting_start n then (s.setFlag R.GROUP_STATUS_waiting_start false n).signalReady n else s

/-- The new leader takes epoch `epoch` and sends its EPOCH frame to every other member device, and to the old leader (R106). -/
def lead (s : State) (k epoch : Nat) (old : Nat × Nat) : State :=
  match s.group k with
  | none => s
  | some g =>
    let body := bytesLE 2 g.tag ++ bytesLE 2 epoch ++ bytesLE 9 s.ownRoute ++ bytesLE 1 s.ownDepth ++ [0, 0]
    let s := ((old :: g.devices).eraseDups).foldl (fun (s : State) (x : Nat × Nat) =>
      if x.1 = s.ownRoute ∧ x.2 = s.ownDepth then s else s.sendRouted 0x84 x.1 x.2 body) s
    s.adoptEpoch k epoch s.ownRoute s.ownDepth

/-- A member's record in a LEADER_STATE frame (R498). -/
def memberBytes (m : Member) : List Byte :=
  bytesLE 1 m.index ++ bytesLE 1 m.depth ++ bytesLE 1 m.tile ++ [0] ++ bytesLE 9 m.route ++ [0, 0, 0] ++ bytesLE 4 (wrapNat 32 m.base) ++
    bytesLE 2 m.reqV ++ bytesLE 2 m.reqA

/-- A list in pieces of `n`. -/
def pieces {α : Type} (n : Nat) : Nat → List α → List (List α)
  | 0, _ => []
  | fuel + 1, l => if l.length ≤ n then [l] else l.take n :: pieces n fuel (l.drop n)

/-- The old leader's state as frames to the new leader (R106, R498). Log: DEDUCED notes/assumptions/80.md. -/
def sendLeader (s : State) (g : GroupSlot) (route depth : Nat) : State :=
  let req (m : Member) : Nat × Nat := match (g.scales.filter fun q => decide (q.device = m.route)).getLast? with
    | some q => (q.reqV, q.reqA)
    | none => (m.reqV, m.reqA)
  let parts := pieces 11 16 (g.members.map fun m =>
    memberBytes { m with base := s.expectedBase m, reqV := (req m).1, reqA := (req m).2 })
  parts.zipIdx.foldl (fun (s : State) (x : List (List Byte) × Nat) =>
    let head := if x.2 = 0 then bytesLE 2 g.nextSeq ++ bytesLE 1 (b2n g.startPending) ++ bytesLE 1 g.members.length else []
    s.sendRouted 0x87 route depth (bytesLE 2 g.tag ++ bytesLE 1 x.2 ++ bytesLE 1 parts.length ++ head ++ x.1.flatten)) s

/-- MIGRATE of a group's leadership, at the present leader (R106, R484).
Log: DEDUCED notes/assumptions/79.md, notes/assumptions/80.md. -/
def migrateLeaderOf (s : State) (d : Desc) : State :=
  s.ifMotion d.ref fun s =>
    let route := fieldLE d.slot 0x28 9
    let depth := fieldLE d.slot 0x31 1
    match s.ledSlot (fieldLE d.slot 0x22 2) with
    | none => s.complete d.ref 0x05
    | some k =>
      match s.group k with
      | none => s.complete d.ref 0x05
      | some g =>
        let old := (s.ownRoute, s.ownDepth)
        match s.nextHop route depth with
        | .consume =>
          ((s.setGroup k (some { g with startPending := false })).lead k ((g.epoch + 1) % 65536) old).finish d.ref 0x00
        | .port p =>
          if ¬ s.portUp p then s.complete d.ref 0x11
          else
            let s := ((s.track d.ref .action).accepted d.ref).sendLeader g route depth
            let s := s.setGroup k (some { g with leaderHere := false, leaderRoute := route, leaderDepth := depth,
                                                 startPending := false, migrate := some d.ref })
            s.forTiles (s.localMembers k) fun n s => s.setFlag R.GROUP_CFG_leader_here false n

/-! ### Delivery (R462, R464, R533) -/

/-- TRAIL_CMD, REPLACE and TILE_CMD have their operands all in the descriptor and no row carries them.
Log: DEDUCED notes/assumptions/70.md. -/
def tileOnly (s : State) (d : Desc) : Option State :=
  match opOf d.slot with
  | 0x02 => some (s.trailDesc d)
  | 0x03 => some (s.replaceDesc d)
  | 0x04 => some (s.tileDesc d)
  | _ => none

/-- A command waits for its row, or, where no row carries it, acts at once, behind the queue's earlier commands for its tile
(R462). Log: DEDUCED notes/assumptions/70.md. -/
def start (s : State) (d : Desc) : State :=
  let wait := (s.track d.ref .action).modHamper fun h => { h with fetched := h.fetched ++ [d] }
  match s.tileOnly d with
  | some t => if s.inOrder d then t else wait
  | none => wait

/-- The commands that no row carries act as those before them on their tile have acted (R462). -/
def actReady (s : State) : State :=
  s.hamper.fetched.foldl (fun (s : State) (d : Desc) =>
    match s.tileOnly d with
    | some t => if s.inOrder d then t else s
    | none => s) s

/-- A command reaches the device that executes it: one with a site time is held for it (R533).
Log: DEDUCED notes/assumptions/70.md. -/
def takeIn (s : State) (d : Desc) : State :=
  let t := fieldLE d.slot 0x18 8
  let s := s.setTracks (s.hamper.tracks ++ [({ ref := d.ref, point := .action } : Track)])
  if t ≠ 0 then
    (s.track d.ref .scheduled).modHamper fun h =>
      { h with scheds := h.scheds ++ [({ desc := d, epoch := fieldLE d.slot 0x11 1, time := t, arrived := s.tickEnd } : Sched)] }
  else s.start d

/-- The device executes another command: at most 4,096 are tracked (R2, R468). -/
def mayTrack (s : State) : Bool := decide ((s.hamper.tracks.filter fun t => !remoteTrack t).length < 4096)

/-- A command from another device is taken in, or waits behind those that wait for a tracked one to end (R468).
Log: DEDUCED notes/assumptions/77.md. -/
def takeOrWait (s : State) (d : Desc) : State :=
  if s.mayTrack ∧ s.hamper.waiting = [] then s.takeIn d
  else s.modHamper fun h => { h with waiting := h.waiting ++ [d] }

/-- The command that has waited longest is taken in once fewer than 4,096 are tracked (R468). -/
def takeWaiting (s : State) : State :=
  match s.hamper.waiting with
  | d :: l => if s.mayTrack then (s.modHamper fun h => { h with waiting := l }).takeIn d else s
  | [] => s

/-- A slot as it travels to another device: a target given by a binding or a handle becomes a route (R464, R505). The bytes of
a keyed command stay, for its mac covers them (R567). -/
def routedSlot (slot : List Byte) (a : AxisRef) : List Byte :=
  if isKeyed (opOf slot) ∨ 2 ≤ modeOf slot then slot
  else
    slot.take 4 ++ bytesLE 4 (2 ^ 31 + 2 ^ 27 * a.depth + 2 ^ 16 * a.tile.val) ++ bytesLE 9 a.route ++ slot.drop 17

/-- What a forwarded command makes of a group's leader, when it completes OK (R466): its tag, 0 for one to be assigned, and
the leader; depth 0 for none. -/
def forming (d : Desc) (a : AxisRef) : Option (Nat × Nat × Nat) :=
  match opOf d.slot with
  | 0x09 => some (fieldLE d.slot 0x20 2, a.route, a.depth)
  | 0x0A => some (fieldLE d.slot 0x20 2, 0, 0)
  | 0x0D => some (fieldLE d.slot 0x22 2, fieldLE d.slot 0x28 9, fieldLE d.slot 0x31 1)
  | _ => none

/-- A command goes to another device in COMMAND frames (R464, R498); LINK_DOWN when its port is down (R503).
Log: DEDUCED notes/assumptions/71.md. -/
def forward (s : State) (d : Desc) (a : AxisRef) : State :=
  match s.nextHop a.route a.depth with
  | .consume => s.deliver d.ref 0x05 2 0
  | .port p =>
    if ¬ s.portUp p then s.deliver d.ref 0x11 2 0
    else
      let parts := pieces 4 32 (routedSlot d.slot a :: d.ext)
      let s := s.track d.ref (.remote a.route a.depth)
      let s := match forming d a with
        | some f => s.modHamper fun h => { h with forms := h.forms ++ [(d.ref, f)] }
        | none => s
      parts.zipIdx.foldl (fun (s : State) (x : List (List Byte) × Nat) =>
        s.sendRouted 0x80 a.route a.depth (bytesLE 1 d.ref.sq ++ bytesLE 1 x.2 ++ bytesLE 1 parts.length ++ [0] ++ x.1.flatten)) s

/-- A whole command of queue `q` is checked and goes where it acts (R463 to R468). A rejected command is not tracked. -/
def checkSlots (s : State) (q : Nat) (slot : List Byte) (ext : List (List Byte)) : State :=
  let f := flagsOf slot
  let r : CmdRef :=
    { own := true, srcRoute := 0, srcDepth := 0, sq := q, tag := fieldLE slot 2 2, cq := s.get R.SQ_CFG_cq q, irq := bit f 2,
      track := bit f 0 }
  let reject (st : Nat) : State := s.deliver r st 2 0
  let op := opOf slot
  let epoch := fieldLE slot 0x12 2
  if ¬ knownOp op then reject 0x01
  else if ¬ (headerOk slot ∧ extOk slot ext ∧ payloadOk slot ext) then reject 0x02
  else if s.hamper.tracks.any fun t => t.ref.own && decide (t.ref.sq = q) && decide (t.ref.tag = r.tag) then reject 0x04
  else if epoch ≠ 0 ∧ epoch ≠ s.get R.SQ_STATUS_epoch q then reject 0x0A
  else
    match s.targetOf q slot with
    | none => reject 0x05
    | some a =>
      let d : Desc := { ref := r, tile := a.tile, slot := slot, ext := ext }
      if op = 0x07 ∨ op = 0x08 ∨ isRebind slot ∨ s.isHere a then s.takeIn d
      else if op = 0x09 ∧ (formHandles d).any (fun h => (s.resolveHandle h).isNone) then reject 0x05
      else s.forward d a

/-- Commands of queue `q` that have no final completion yet (R463). Log: DEDUCED notes/assumptions/67.md. -/
def unfinished (s : State) (q : Nat) : Bool := s.hamper.tracks.any fun t => t.ref.own && decide (t.ref.sq = q)

/-- Nothing keeps Hamper from fetching from queue `q` (R462, R474, R475, R483).
Log: DEDUCED notes/assumptions/67.md, notes/assumptions/77.md. -/
def mayFetch (s : State) (q : Nat) : Bool :=
  s.mayTrack &&
    (s.hamper.heldSegs.all fun d => !(d.ref.own && decide (d.ref.sq = q))) &&
    (s.hamper.fetched.all fun d => !(d.ref.own && decide (d.ref.sq = q) && isRebind d.slot)) &&
    (if s.hostKind = 2 then decide (q = 0) && s.flag R.MB_CTL_busy && decide (s.hamper.heldCpls = [])
     else
      s.flag R.SQ_CFG_enable q && (decide (s.get R.SQ_STATUS_state q = 1) || decide (s.get R.SQ_STATUS_state q = 3)) &&
        decide (s.get R.SQ_HEAD_head q ≠ s.get R.SQ_TAIL_tail q) &&
        s.hamper.heldCpls.all fun h => decide (h.cq ≠ s.get R.SQ_CFG_cq q))

/-- Commands fetched from a queue in its turn; 0 acts as 1 (R457). -/
def burstOf (s : State) (q : Nat) : Nat := max 1 (s.get R.SQ_CFG_burst q)

/-- The queue from which the round robin fetches next (R462): the one in turn while its burst lasts, else the next that Hamper may
fetch from. -/
def fetchNext (s : State) : Option Nat :=
  let q := s.hamper.fetchTurn.1
  if 0 < s.hamper.fetchTurn.2 ∧ s.mayFetch q then some q
  else ((List.range 128).map fun i => (q + 1 + i) % 128).find? s.mayFetch

/-- A command of queue `q` is taken, or the queue's turn passes when it can give none (R462). Log: DEDUCED
notes/assumptions/77.md. -/
def turnOf (s : State) (q : Nat) (taken : Bool) : State :=
  let left := if q = s.hamper.fetchTurn.1 ∧ 0 < s.hamper.fetchTurn.2 then s.hamper.fetchTurn.2 else s.burstOf q
  s.modHamper fun h => { h with fetchTurn := (q, if taken then left - 1 else 0) }

/-- Slots that a first slot's command takes: an EXT slot met first stands alone (R465). -/
def slotsOf (slot : List Byte) : Nat := if opOf slot = 0xFE then 1 else extCount slot + 1

/-- Advance a queue's head over `n` slots (R454). -/
def headOver (s : State) (q : Nat) : Nat → State
  | 0 => s
  | n + 1 => (s.set R.SQ_HEAD_head (nextIndex (s.get R.SQ_CFG_size_log2 q) (s.get R.SQ_HEAD_head q)) q).headOver q n

/-- A command's slots leave the ring or the mailbox and are checked, unless its wait flag holds it (R463, R465).
Log: DEDUCED notes/assumptions/77.md. -/
def takeSlots (s : State) (q : Nat) (slots : List (List Byte)) : State :=
  match slots with
  | [] => s
  | slot :: rest =>
    let n := slotsOf slot
    let ready := if s.hostKind = 2 then decide (n ≤ slots.length)
      else decide (n ≤ slots.length) &&
        decide (n ≤ ringFill (s.get R.SQ_CFG_size_log2 q) (s.get R.SQ_TAIL_tail q) (s.get R.SQ_HEAD_head q))
    if ¬ ready ∨ (opOf slot ≠ 0xFE ∧ bit (flagsOf slot) 1 ∧ s.unfinished q) then s.turnOf q false
    else
      let s := s.turnOf q true
      let s := if s.hostKind = 2 then
          (s.modHamper fun h => { h with mbSlots := h.mbSlots.drop n }).setFlag R.MB_CTL_busy false
        else s.headOver q n
      s.checkSlots q slot (rest.take (n - 1))

/-- Hamper fetches the next command of queue `q` (R462): the slots read from host memory, none for a read that failed, which
takes the queue to ERROR (R475). Under SPT the mailbox holds the slots (R485). Log: DEDUCED notes/assumptions/77.md. -/
def fetchFrom (s : State) (q : Nat) (slots : Option (List (List Byte))) : State :=
  if s.fetchNext ≠ some q then s
  else if s.hostKind = 2 then s.takeSlots q s.hamper.mbSlots
  else match slots with
    | none => s.sqError q 0x12
    | some l => s.takeSlots q l

/-! ### Scheduled commands (R533, R534) -/

/-- The stamp in force does not precede a command's (R520, R533). -/
def isDue (s : State) (x : Sched) : Bool :=
  (decide (x.epoch < s.epoch) || (decide (x.epoch = s.epoch) && decide (x.time ≤ s.tickStart))) && decide (x.arrived ≤ s.tickStart)

/-- A scheduled command acts (R533): one whose row needs more than its descriptor waits for the row. -/
def performNow (s : State) (d : Desc) : State :=
  match opOf d.slot with
  | 0x00 => s.nopOf d
  | 0x01 => s.segmentOf d
  | 0x05 => s.regWriteOf d
  | 0x06 => s.regReadOf d
  | 0x07 => s.handleAllocOf d
  | 0x08 => s.handleFreeOf d
  | 0x0A => s.groupDissolveDesc d
  | 0x0B => s.groupMoveDesc d
  | 0x0C => s.groupCmdOf d
  | 0x0D => if isRebind d.slot then s.rebind d else s.migrateLeaderOf d
  | 0x0F => s.timeSetDesc d
  | 0x10 => s.siteDesc d
  | 0x11 => s.fenceOf d
  | _ => s.start d

/-- The executed record that a scheduled command leaves (R534): its root unit, sq, tag and stamp. -/
def recordOf (s : State) (x : Sched) : Executed :=
  { root := s.rootUnit x.desc.ref, sq := x.desc.ref.sq, tag := x.desc.ref.tag, epoch := fieldLE x.desc.slot 0x11 1,
    time := fieldLE x.desc.slot 0x18 8, acted := s.now }

/-- Two records name one command. -/
def sameCommand (a b : Executed) : Bool := decide ({ a with acted := 0 } = { b with acted := 0 })

/-- The first held command that is due acts, or completes SCHED_DONE when its record is set (R533, R534). It acts late unless the
tick is the first at or after its time within its own epoch. Log: DEDUCED notes/assumptions/81.md. -/
def schedDueOf (s : State) : State :=
  match s.hamper.scheds.find? s.isDue with
  | none => s
  | some x =>
    let r := s.recordOf x
    let s := s.modHamper fun h => { h with scheds := h.scheds.erase x }
    if s.hamper.executed.any fun e => sameCommand e r then s.complete x.desc.ref 0x0D
    else
      let onTime := decide (x.epoch = s.epoch) && decide (s.tickStart < x.time + 1000)
      let s := s.modHamper fun h =>
        { h with executed := (h.executed ++ [r]).drop (h.executed.length + 1 - 8192),
                 late := if onTime then h.late else x.desc.ref :: h.late }
      s.performNow x.desc

end State
end Sys2Proof.Machine
end

