-- ==== Sys2Proof/Machine/HikerCore.lean ====
section
/-! DEFINITION. The happenings of a tile's Hiker core at its interface and under host control (13_hiker_cores.md). -/

namespace Sys2Proof.Machine
namespace State

/-- The bytes that a load's source delivers (R424): of the parameter store the TILE_IMAGE record in force, an empty one with
none, and nothing of a failed store; of the XIP window `img`, the NOR's bytes, and nothing of a window that cannot be read.
`img` is none when the source fails. -/
def loadSource (s : State) (n : Fin 64) (img : Option (List Byte)) : Option (List Byte) :=
  if (s.core (coreIx n)).loadSrc = 1 then
    if img.isNone ∨ s.psFailed then none
    else
      match s.psInForce 0x05 (s.get R.HIKER_CTL_image n) with
      | some h => some (s.psPayload h)
      | none => some []
  else if s.xipReadable (s.get R.HIKER_XIP_offset n) then img
  else none

/-- A load from the parameter store or the XIP window ends (R424): none is a source that failed to deliver. -/
def hikerLoadDoneOf (s : State) (n : Fin 64) (img : Option (List Byte)) : State :=
  if s.innerState n = 1 ∧ (s.core (coreIx n)).loadSrc ≠ 3 then s.loadDone n (s.loadSource n img) else s

/-- The image of a HIKER_LOAD has arrived, none when host memory was not read (R423, R424, R466).
Log: DEDUCED notes/assumptions/46.md. -/
def hikerLoadEnd (s : State) (d : Desc) (img : Option (List Byte)) : State :=
  let n := d.tile
  if s.innerState n ≠ 1 then s.complete d.ref 0x08
  else
    let s := s.loadDone n (img.map fun b => b.take (fieldLE d.slot 0x28 4))
    let err := s.get R.HIKER_STATUS_load_error n
    if img.isNone then s.complete d.ref 0x12
    else if err = 0 then s.complete d.ref 0x00 0
    else s.complete d.ref 0x14 err

/-- The reads of an image of `len` bytes: 4,096 bytes each at most (R498, R507). -/
def tunnelImage (s : State) (d : Desc) (len : Nat) : State :=
  (List.range ((len + 4095) / 4096)).foldl (fun (s : State) (i : Nat) =>
    s.tunnelAsk (fieldLE d.slot 0x20 8 + 4096 * i) (min 4096 (len - 4096 * i)) (some d) d.ref.srcRoute d.ref.srcDepth) s

/-- HIKER_LOAD reads the image that a waiting load asked for (R424, R466, R515): a root from its host's memory, with none for a
failed read; another device through the tunnel (R507). Log: DEDUCED notes/assumptions/46.md. -/
def hikerLoadOf (s : State) (d : Desc) (img : Option (List Byte)) : State :=
  s.ifMotion d.ref fun s =>
    let n := d.tile
    if s.innerState n ≠ 1 ∨ (s.core (coreIx n)).loadSrc ≠ 3 then s.complete d.ref 0x08
    else if s.isRoot then (s.accepted d.ref).hikerLoadEnd d img
    else ((s.track d.ref .action).accepted d.ref).tunnelImage d (max 1 (fieldLE d.slot 0x28 4))

end State

/-- INTERRUPT (R404). Log: DEDUCED notes/assumptions/93.md. -/
def execInterrupt (k : Fin 66) (s : State) : Res := .next (s.takeInterrupt k)

/-- TI_PLACE (R400). -/
def execTiPlace (n : Fin 64) (s : State) : Res := .next (s.tiPlace n)

/-- TI_RELEASE (R37). -/
def execTiRelease (n : Fin 64) (code : BitVec 16) (s : State) : Res := .next (s.tiRelease n code.toNat)

/-- TI_ALARM_ARM (R400): the write of TI_ALARM_HI. -/
def execTiAlarmArm (n : Fin 64) (v : Word) (s : State) : Res := .next (s.tiWrite n 0x34 v)

/-- TI_ALARM_DISARM (R399). -/
def execTiAlarmDisarm (n : Fin 64) (s : State) : Res := .next (s.tiWrite n 0x38 1)

/-- TI_ALARM_FIRE (R400). -/
def execTiAlarmFire (n : Fin 64) (s : State) : Res := .next (s.tiAlarmFire n)

/-- HIKER_USER (R399). -/
def execHikerUser (n : Fin 64) (v : Word) (s : State) : Res := .next (s.tiUser n v)

/-- CORE_MAIL_SEND (R401). -/
def execCoreMailSend (n : Fin 64) (v : Word) (s : State) : Res := .next (s.tiSend n v)

/-- IN_ACK (R399). -/
def execInAck (n : Fin 64) (s : State) : Res := .next (s.tiInAck n)

/-- HOST_MAIL_SEND (R401). -/
def execHostMailSend (n : Fin 64) (v : Word) (s : State) : Res := .next (s.hostMail n v)

/-- FROM_ACK (R417). -/
def execFromAck (n : Fin 64) (s : State) : Res := .next (s.fromAck n)

/-- HIKER_START (R419): `v` is the value written to HIKER_CTL. -/
def execHikerStart (n : Fin 64) (v : Word) (s : State) : Res := .next (s.hikerStart n v)

/-- HIKER_STOP (R419). -/
def execHikerStop (n : Fin 64) (s : State) : Res := .next (s.requestStop n false)

/-- HIKER_RESET (R419). -/
def execHikerReset (n : Fin 64) (s : State) : Res := .next (s.coreReset n)

/-- HIKER_LOAD_DONE (R425). -/
def execHikerLoadDone (n : Fin 64) (img : Option (List Byte)) (s : State) : Res := .next (s.hikerLoadDoneOf n img)

/-- HIKER_LOAD (R424), in the ring order of its queue on its tile (R462). -/
def execHikerLoad (d : Desc) (img : Option (List Byte)) (s : State) : Res :=
  .next (if s.inOrder d then (s.hikerLoadOf d img).actReady else s)

end Sys2Proof.Machine
end

