-- ==== Sys2Proof/Machine/Usfen.lean ====
section
/-! DEFINITION. The commands of Usfen: port happenings, frames received and sent, alarms, roll call, authority, the tunnel and
the modules (16_usfen_chain_and_groups.md, 03_coordinated_motion.md R97 to R108). -/

namespace Sys2Proof.Machine
namespace State

/-! ### Ports (R488 to R493, R496) -/

/-- A HELLO arrives on an aligned port (R491, R492). The refusals of a roll call stand until the port goes down. A root whose U
faces another device's D is root B of a ring (R511). Log: DEDUCED notes/assumptions/83.md. -/
def helloOf (s : State) (p : Fin 4) (f : Frame) : State :=
  let st := s.portState p
  if f.typ ≠ 0xBE ∨ (st ≠ 3 ∧ st ≠ 4 ∧ st ≠ 5) then s
  else
    let b := f.payload
    let s := (s.set R.USF_RXCNT_frames ((s.get R.USF_RXCNT_frames p + 1) % 2 ^ 32) p).setPort p { s.port p with heardAt := s.now }
    if st = 4 ∨ (st = 5 ∧ (s.get R.USF_PSTATUS_reason p = 4 ∨ s.get R.USF_PSTATUS_reason p = 5)) then s
    else
      let s := s.setPort p { s.port p with hello := some b }
      let s := (s.set R.USF_PSTATUS_peer_port (fieldLE b 8 1) p).setFlag R.USF_PSTATUS_peer_root (bit (fieldLE b 9 1) 0) p
      let s := s.set64 R.USF_PEER_LO_serial R.USF_PEER_HI_serial (fieldLE b 0 8) p
      let reason := s.refusalOf p b
      if reason ≠ 0 then (if st = 5 then s.set R.USF_PSTATUS_reason reason p else s.putPort p 5 reason)
      else
        let q := s.port p
        let s := s.setPort p { q.afresh with aligned := true, hello := some b, wasUp := true, heardAt := s.now }
        let s := s.putPort p 4 0
        let second := s.isRoot && decide (p = 0) && decide (fieldLE b 8 1 % 4 = 1)
        let s := if second then
            let s := (s.setFlag R.USF_ID_root_b true).setFlag R.USF_ID_ring true
            if s.get R.USF_AUTH_state = 0 then s.set R.USF_AUTH_state 2 else s
          else s
        (s.peerAuthority b).updateDomains

/-- An aligned port without its peer's HELLO sends its own every 10 µs (R491). -/
def helloSendOf (s : State) (p : Fin 4) : State :=
  let q := s.port p
  if s.flag R.USF_PCFG_enable p ∧ ¬ s.flag R.USF_PSTATUS_mod_abs p ∧ q.aligned ∧ q.hello.isNone ∧ ¬ s.recent q.helloAt 10000 then
    (s.setPort p { q with helloAt := some s.now }).onWire p (s.mkFrame 0xBE 0 0 false (s.helloBytes p))
  else s

/-- A LINK_ACK: what the peer has, its credit, its sleep bit, and replays for its NAKs (R496, R598). -/
def linkAcked (s : State) (p : Fin 4) (b : List Byte) : State :=
  let flags := fieldLE b 4 1
  let q := s.port p
  let s := s.setPort p { q with
    unackedCmd := ackedRest (fieldLE b 0 2) q.unackedCmd, unackedBulk := ackedRest (fieldLE b 2 2) q.unackedBulk
    creditCmd := fieldLE b 8 4, creditBulk := fieldLE b 12 4, ackedAt := s.now
    sleepAt := if bit flags 2 then some s.now else q.sleepAt }
  let s := if bit flags 0 ∨ bit flags 1 then s.replay p (bit flags 0) (bit flags 1) else s
  if s.portUp p then s.releaseWaiting p else s

/-- An UP port goes down that has had no alignment for 10 µs, or, `aligned`, no frame for 100 µs (R493). -/
def linkDownOf (s : State) (p : Fin 4) (aligned : Bool) : State :=
  let q := s.port p
  let due : Bool := if aligned then decide (q.heardAt + 100000 ≤ s.now) else !q.aligned && decide (q.lostAt + 10000 ≤ s.now)
  if ¬ s.portUp p ∨ ¬ due then s else s.portRest p

/-- The port's sideband pins as a SFP event shows them (R518). -/
def sfpEvent (s : State) (p : Fin 4) : State :=
  s.event 0x74 0xFF (bytesLE 1 p.val ++ bytesLE 1 (s.get R.USF_PSTATUS_mod_abs p + 2 * s.get R.USF_PSTATUS_los p
    + 4 * s.get R.USF_PSTATUS_tx_fault p + 8 * s.get R.USF_PSTATUS_ddm_alarm p))

/-- Sideband pins change (R489, R491, R493); `nominal` and `options` are bytes 12 and 92 of page A0h of a module that appears (R488). A signal that
returns wakes a device that sleeps (R600). Log: DEDUCED notes/assumptions/83.md. -/
def sfpChanged (s : State) (p : Fin 4) (modAbs los txFault : Bool) (nominal options : Nat) : State :=
  let wasAbs := s.flag R.USF_PSTATUS_mod_abs p
  let wasLos := s.flag R.USF_PSTATUS_los p
  let wasFault := s.flag R.USF_PSTATUS_tx_fault p
  if wasAbs = modAbs ∧ wasLos = los ∧ wasFault = txFault then s
  else
    let s := (s.setFlag R.USF_PSTATUS_mod_abs modAbs p).setFlag R.USF_PSTATUS_los los p
    let s := s.setFlag R.USF_PSTATUS_tx_fault txFault p
    let s : State := if wasAbs ∧ ¬ modAbs then
        (s.setPort p { s.port p with nominal := nominal, options := options, ddmAt := none }).chooseRate p
      else s
    let s : State := if modAbs then s.setFlag R.USF_PSTATUS_ddm_alarm false p else s
    let s := s.sfpEvent p
    if 2 ≤ s.get R.PWR_STATUS_state then (if wasLos ∧ ¬ los then s.deviceWakeOf 4 else s)
    else
      let st := s.portState p
      let v := s.restState p
      if v ≤ 1 ∨ (v = 6 ∧ st ≠ 6) then s.portDown p v 0
      else if st = 1 ∨ (st = 4 ∧ los ∧ ¬ wasLos) then s.portDown p v 0
      else s

/-- 20 µs without acknowledgement (R496). -/
def replayDue (s : State) (p : Fin 4) : State :=
  let q := s.port p
  if ¬ s.portUp p ∨ (q.unackedCmd = [] ∧ q.unackedBulk = []) ∨ s.now < q.ackedAt + 20000 then s else s.replay p true true

/-- A port in FAULT returns to TRAINING after 1 ms, unless SFPx_TXFLT holds it there; alignment takes it on (R491).
Log: DEDUCED notes/assumptions/83.md. -/
def faultEnd (s : State) (p : Fin 4) : State :=
  if s.portState p ≠ 6 ∨ s.flag R.USF_PSTATUS_tx_fault p ∨ s.now < (s.port p).faultAt + 1000000 then s else (s.putPort p 2 0).portRest p

/-- Block lock or synchronisation comes or goes (R491). -/
def alignmentOf (s : State) (p : Fin 4) (on : Bool) : State :=
  let q := s.port p
  let st := s.portState p
  let lost := if q.aligned && !on then s.now else q.lostAt
  let s := s.setPort p { q with aligned := on, lostAt := lost, hello := if on ∨ st = 4 then q.hello else none }
  if st = 2 ∨ st = 3 ∨ (st = 5 ∧ ¬ on) then s.portRest p else s

/-! ### Alarms (R499, R500, R105) -/

/-- Domains asserted here change; a CHAIN_ALARM event reports it (R518). -/
def putAsserted (s : State) (m : Nat) : State :=
  if m = s.get R.USF_DOM_STATE_asserted then s
  else (s.set R.USF_DOM_STATE_asserted m).event 0x73 0xFF (bytesLE 2 m ++ bytesLE 2 (s.get R.USF_DOM_STATE_raised))

/-- 100 µs after the last one, a device that raises a domain floods a further CHAIN_ALARM (R499). -/
def chainAlarmDue (s : State) : State :=
  if s.get R.USF_DOM_STATE_raised = 0 ∨ s.now < s.usfen.alarmSent + 100000 then s else s.sendChainAlarm (s.get R.USF_DOM_STATE_raised)

/-- A CHAIN_ALARM received (R499). -/
def chainAlarmed (s : State) (b : List Byte) : State :=
  let m := fieldLE b 0 2
  ((s.noteDomains m).putAsserted (s.get R.USF_DOM_STATE_asserted ||| m)).latchDomains m

/-- 350 µs after its last CHAIN_ALARM a domain that is not raised here deasserts (R499). -/
def domainOver (s : State) (d : Nat) : State :=
  let seen := (sparseFind d s.usfen.domSeen).getD 0
  if ¬ s.fbit R.USF_DOM_STATE_asserted d ∨ s.fbit R.USF_DOM_STATE_raised d ∨ s.now < seen + 350000 then s
  else { s with usfen := { s.usfen with domSeen := sparseErase d s.usfen.domSeen } }.putAsserted
    (s.get R.USF_DOM_STATE_asserted - 2 ^ d)

/-- The next copy of a group alarm that this device raised: three copies stand 100 µs apart (R500). -/
def alarmCopy (s : State) (k : Nat) : State :=
  match s.group k with
  | none => s
  | some g =>
    if g.alarmCopies = 0 ∨ s.now < g.alarmAt + 100000 * (3 - g.alarmCopies) then s
    else
      (s.setGroup k (some { g with alarmCopies := g.alarmCopies - 1 })).flood 0x00 (bytesLE 2 g.tag ++ bytesLE 1 g.alarmCause
        ++ bytesLE 1 (4 - g.alarmCopies) ++ bytesLE 1 g.alarmOrigin ++ [0, 0, 0] ++ bytesLE 8 g.alarmAt)

/-- A GROUP_ALARM received (R105, R500). Log: DEDUCED notes/assumptions/83.md. -/
def groupAlarmed (s : State) (b : List Byte) : State :=
  match s.slotOfTag (fieldLE b 0 2) with
  | none => s
  | some k =>
    match s.group k with
    | none => s
    | some g =>
      let cause := fieldLE b 2 1
      let s := s.setGroup k (some { g with alarmUntil := max g.alarmUntil (s.now + 1000000), alarmCause := cause,
                                           alarmOrigin := fieldLE b 4 1 })
      (s.dropCmds k).forTiles (s.localMembers k) fun m s =>
        (s.modLull m fun l => { l with alarmCause := cause }).latchLull m 6

/-- A group alarm's time at this device ends (R500). -/
def alarmOver (s : State) (k : Nat) : State :=
  match s.group k with
  | none => s
  | some g => if g.alarmUntil ≤ s.now then s.setGroup k (some { g with alarmUntil := 0 }) else s

/-! ### Group frames (R84 to R108) -/

/-- The member that stands for a device in an alarm that it raises: the first of its local members. -/
def firstMember (s : State) (k : Nat) : Nat := (((s.localMembers k).head?).map fun n => s.get R.GROUP_CFG_member n).getD 0

/-- A SCALE_REQ received (R94, R95, R104): an older request of the device that no tick needs any more is dropped. -/
def scaleAsked (s : State) (f : Frame) : State :=
  let b := f.payload
  match s.slotOfTag (fieldLE b 0 2) with
  | none => s
  | some k =>
    match s.group k with
    | none => s
    | some g =>
      let r : ScaleReq := { device := f.srcRoute, seq := fieldLE b 2 2, reqV := fieldLE b 4 2, reqA := fieldLE b 6 2, apply := fieldLE b 8 8 }
      let s := s.setGroup k (some { g with scales := g.scales ++ [r] })
      if r.apply < s.now then s.lateFrame k (s.firstMember k) else s

/-- The local slots of a member that hold a group segment of an epoch and seq. -/
def groupSlots (s : State) (n : Fin 64) (epoch seq : Nat) : List Nat :=
  ((s.plan n).slots.filter fun q =>
    let g := s.segAt n q.1
    decide (segType g = 6) && decide (bits g.w6 31 16 = epoch) && decide (bits g.w6 14 4 = seq)).map (·.1)

/-- A discard notice (R108). Log: DEDUCED notes/assumptions/83.md. -/
def discarded (s : State) (b : List Byte) : State :=
  let epoch := fieldLE b 2 2
  let seq := fieldLE b 4 2
  match s.slotOfTag (fieldLE b 0 2) with
  | none => s
  | some k =>
    s.forTiles (s.localMembers k) fun n s =>
      if (s.plan n).groupRan.contains (epoch, seq) then s.raiseGroupAlarm k 0x07 (s.get R.GROUP_CFG_member n)
      else
        let held (h : Nat × Seg × Option Nat × Bool) : Bool :=
          decide (h.1 = n.val) && decide (bits h.2.1.w6 31 16 = epoch) && decide (bits h.2.1.w6 14 4 = seq)
        let drop (h : Nat × Seg × Option Nat × Bool) : Nat × Seg × Option Nat × Bool := (h.1, h.2.1, h.2.2.1, h.2.2.2 || held h)
        let s := { s with hamper := { s.hamper with heldGroup := s.hamper.heldGroup.map drop } }
        s.modPlan n fun p => { p with discard := p.discard ++ (s.groupSlots n epoch seq).map fun x => (x, endEpoch) }

/-- Leader frames of a newer epoch are adopted with their sender as leader (R106). -/
def fromLeader (s : State) (k epoch : Nat) (f : Frame) : State := s.adoptEpoch k epoch f.srcRoute f.srcDepth

/-- Old-epoch frames ignored (R107). -/
def staleFrame (s : State) (k : Nat) : State :=
  s.forTiles (s.localMembers k) fun n s => s.bump R.GROUP_STATUS_stale_frames n

/-- A member's segment arrives (R84 to R86, R104, R107, R108). -/
def groupSegment (s : State) (f : Frame) : State :=
  let b := f.payload
  let tag := fieldLE b 0 2
  match s.slotOfTag tag with
  | none => s
  | some k =>
    let g0 := segOfBytes (b.drop 4)
    let g := { g0 with w6 := g0.w6 - g0.w6 % 16 + k }
    let epoch := bits g.w6 31 16
    let s := s.fromLeader k epoch f
    match (s.localMembers k).find? fun (n : Fin 64) => decide (s.get R.GROUP_CFG_member n = fieldLE b 2 1) with
    | none => s
    | some n =>
      let same (h : Nat × Seg × Option Nat × Bool) : Bool :=
        decide (h.1 = n.val) && decide (bits h.2.1.w6 31 16 = epoch) && decide (bits h.2.1.w6 14 4 = bits g.w6 14 4)
      if ¬ s.segLegal n g then s
      else if s.groupSlots n epoch (bits g.w6 14 4) ≠ [] ∨ s.hamper.heldGroup.any same then
        -- the leader has sent it again without its blend (R92)
        (if segBlend g = 0 then s.unblendTile n (bits g.w6 14 4) else s)
      else
        let release := s.releaseOf g
        let future : Bool := match release with
          | some t => decide (s.now < t)
          | none => false
        if newer (s.get R.GROUP_LEAD_epoch n) epoch ∧ ¬ future then
          let s := (s.deliverGroup n g release true).bump R.GROUP_STATUS_discards n
          let notice := bytesLE 2 tag ++ bytesLE 2 epoch ++ bytesLE 2 (bits g.w6 14 4) ++ [0, 0]
          (s.flood 0x03 notice).discarded notice
        else
          let s := s.deliverGroup n g release
          match release with
          | some t => if t < s.now then s.lateFrame k (s.get R.GROUP_CFG_member n) else s
          | none => s

/-- A START received (R97, R104, R107). -/
def started (s : State) (f : Frame) : State :=
  let b := f.payload
  let epoch := fieldLE b 2 2
  let t0 := fieldLE b 8 8
  match s.slotOfTag (fieldLE b 0 2) with
  | none => s
  | some k =>
    let s := s.fromLeader k epoch f
    match s.group k with
    | none => s
    | some g =>
      if newer g.epoch epoch ∧ t0 ≤ s.now then s.staleFrame k
      else s.forTiles (s.localMembers k) fun n s => s.giveStart n epoch (fieldLE b 4 2) t0

/-- An EPOCH frame (R106, R107); at the old leader it completes the MIGRATE (R484).
Log: DEDUCED notes/assumptions/80.md. -/
def epochTold (s : State) (b : List Byte) : State :=
  match s.slotOfTag (fieldLE b 0 2) with
  | none => s
  | some k =>
    match s.group k with
    | none => s
    | some g =>
      let e := fieldLE b 2 2
      if newer g.epoch e then s.staleFrame k
      else
        let s := match g.migrate with
          | some r => (s.setGroup k (some { g with migrate := none })).complete r 0x00
          | none => s
        s.adoptEpoch k e (fieldLE b 4 9) (fieldLE b 0x0D 1)

/-- A member's READY reaches the leader (R97). -/
def readied (s : State) (b : List Byte) : State :=
  match s.slotOfTag (fieldLE b 0 2) with
  | none => s
  | some k => s.leaderReady k (fieldLE b 2 1) (fieldLE b 4 2) (fieldLE b 6 2) (signed 32 (fieldLE b 0x0C 4))

/-- A GROUP_CMD reaches a member device (R99, R104). -/
def groupCmdTold (s : State) (b : List Byte) : State :=
  match s.slotOfTag (fieldLE b 0 2) with
  | none => s
  | some k =>
    match s.group k with
    | none => s
    | some g =>
      let c : GroupCmd := { cmd := fieldLE b 2 1, target := signed 32 (fieldLE b 4 4), apply := fieldLE b 8 8, accStop := 0, jerkStop := 0, ref := none }
      let s := s.setGroup k (some { g with cmds := g.cmds ++ [c] })
      if c.apply < s.now then s.lateFrame k (s.firstMember k) else s

/-- A GUST request reaches the leader (R227). -/
def gustAsked (s : State) (b : List Byte) : State :=
  match s.slotOfTag (fieldLE b 0 2) with
  | none => s
  | some k => s.gustLead k

/-- A plan checksum reaches the leader (R103, R104). -/
def checksumTold (s : State) (f : Frame) : State :=
  let b := f.payload
  match s.slotOfTag (fieldLE b 0 2) with
  | none => s
  | some k =>
    s.leaderChecksum k { tick := fieldLE b 8 8, device := f.srcRoute, crc := fieldLE b 4 4, covered := fieldLE b 0x11 1 }

/-- A member record of LEADER_STATE (R498), beside what this device knows of the member from formation. -/
def memberOf (s : State) (known : Option GroupSlot) (b : List Byte) : Member :=
  let tile := fieldLE b 2 1
  let a : AxisRef := { route := fieldLE b 4 9, depth := fieldLE b 1 1, tile := tileOf tile }
  let i := fieldLE b 0 1
  let base := signed 32 (fieldLE b 16 4)
  let m := ((known.bind fun g => g.members.find? fun m => decide (m.index = i))).getD (s.newMember a i)
  { m with index := i, depth := a.depth, tile := tile, route := a.route, base := base, chained := true,
           reqV := fieldLE b 20 2, reqA := fieldLE b 22 2, ready := none, reported := base }

/-- The whole of the old leader's state has arrived: this device leads (R106). A device that does not yet hold the group learns
neither its lead nor its epoch by the frame: both are then open. Log: DEDUCED notes/assumptions/80.md. -/
def takeLead (s : State) (tag : Nat) (first : List Byte) (records : List (List Byte)) (old : Nat × Nat) : State :=
  let ms := records.map (s.memberOf ((s.slotOfTag tag).bind s.group))
  let s := { s with freeCtr := s.freeCtr + 3 * groupMax }
  let table : List ScaleReq := ms.map fun m => { device := m.route, seq := 0, reqV := m.reqV, reqA := m.reqA, apply := 0 }
  let devices := (ms.map fun m => (m.route, m.depth)).eraseDups
  let slot := (s.slotOfTag tag).or ((List.range groupMax).find? fun k => (s.group k).isNone)
  match slot with
  | none => s
  | some k =>
    let f := s.fresh
    let held := s.group k
    let epoch := (held.map (·.epoch)).getD (f.1 % 65536)
    let lead := (held.map (·.lead)).getD (f.1 / 65536)
    let s := if held.isNone then f.2 else s
    let g : GroupSlot :=
      { tag := tag, epoch := epoch, lead := lead, leaderHere := true, leaderRoute := s.ownRoute, leaderDepth := s.ownDepth,
        devices := devices, members := ms, nextSeq := fieldLE first 4 2, startPending := decide (fieldLE first 6 1 ≠ 0),
        last := none, lastSeg := none, cut := none, moves := [], scales := table ++ (held.map (·.scales)).getD [], reqSeq := (held.map (·.reqSeq)).getD 0,
        cmds := (held.map (·.cmds)).getD [], checks := [], retract := none, alarmUntil := (held.map (·.alarmUntil)).getD 0,
        alarmAt := (held.map (·.alarmAt)).getD 0,
        alarmCopies := (held.map (·.alarmCopies)).getD 0, alarmCause := (held.map (·.alarmCause)).getD 0,
        alarmOrigin := (held.map (·.alarmOrigin)).getD 0, migrate := none }
    (s.setGroup k (some g)).lead k ((epoch + 1) % 65536) old

/-- A LEADER_STATE part arrives (R106, R498). Log: DEDUCED notes/assumptions/80.md. -/
def leaderTold (s : State) (f : Frame) : State :=
  let b := f.payload
  let tag := fieldLE b 0 2
  let parts := fieldLE b 3 1
  let l := s.usfen.leadParts.filter (fun x => decide (x.1 ≠ tag) || decide (x.2.1 ≠ fieldLE b 2 1)) ++ [(tag, fieldLE b 2 1, b)]
  let got (i : Nat) : List Byte := ((l.find? fun x => decide (x.1 = tag) && decide (x.2.1 = i)).map (·.2.2)).getD []
  if (List.range parts).all fun i => got i ≠ [] then
    let s := { s with usfen := { s.usfen with leadParts := l.filter fun x => decide (x.1 ≠ tag) } }
    let bytes := (List.range parts).flatMap fun i => (got i).drop (if i = 0 then 8 else 4)
    let records := ((pieces 24 16 bytes).take (fieldLE (got 0) 7 1)).filter fun r => decide (r.length = 24)
    s.takeLead tag (got 0) records (f.srcRoute, f.srcDepth)
  else { s with usfen := { s.usfen with leadParts := l } }

/-! ### Commands and completions over the chain (R464, R498) -/

/-- A COMMAND part arrives; a whole command is taken (R464, R498). It ends Doze (R599).
Log: DEDUCED notes/assumptions/81.md. -/
def commandTold (s : State) (f : Frame) : State :=
  let s := s.dozeWake
  let b := f.payload
  let sq := fieldLE b 0 1
  let parts := fieldLE b 2 1
  let here (x : Nat × Nat × Nat × List Byte) : Bool := decide (x.1 = f.srcRoute) && decide (x.2.1 = sq)
  let part : Nat × Nat × Nat × List Byte := (f.srcRoute, sq, fieldLE b 1 1, b.drop 4)
  let l := s.usfen.cmdParts.filter (fun x => !here x || decide (x.2.2.1 ≠ part.2.2.1)) ++ [part]
  let got (i : Nat) : List Byte := ((l.find? fun x => here x && decide (x.2.2.1 = i)).map (·.2.2.2)).getD []
  if (List.range parts).all fun i => got i ≠ [] then
    let s := { s with usfen := { s.usfen with cmdParts := l.filter fun x => !here x } }
    match pieces 64 64 ((List.range parts).flatMap got) with
    | [] => s
    | slot :: ext =>
      let r : CmdRef :=
        { own := false, srcRoute := f.srcRoute, srcDepth := f.srcDepth, sq := sq, tag := fieldLE slot 2 2, cq := 0,
          irq := bit (flagsOf slot) 2, track := bit (flagsOf slot) 0 }
      s.takeWaiting.takeOrWait { ref := r, tile := tileOf (bits (addrOf slot) 21 16), slot := slot, ext := ext }
  else { s with usfen := { s.usfen with cmdParts := l } }

/-- A forwarded formation, dissolution or handing over has ended OK: the root knows the leader (R466). -/
def noteLeader (s : State) (r : CmdRef) (ok : Bool) (result : Nat) : State :=
  match s.hamper.forms.find? fun x => decide (x.1 = r) with
  | none => s
  | some x =>
    let tag := if x.2.1 = 0 then result % 65536 else x.2.1
    let kept := s.hamper.leads.filter fun l => decide (l.1 ≠ tag)
    let leads : List (Nat × Nat × Nat) :=
      if ¬ ok then s.hamper.leads else if x.2.2.2 = 0 then kept else kept ++ [(tag, x.2.2.1, x.2.2.2)]
    s.modHamper fun h => { h with forms := h.forms.filter (fun y => decide (y.1 ≠ r)), leads := leads }

/-- A COMPLETION returns to the root that sent the command, which writes it; one for a command that has already completed is
discarded (R464, R493). -/
def completionTold (s : State) (b : List Byte) : State :=
  let waits (t : Track) : Bool := t.ref.own && decide (t.ref.sq = fieldLE b 4 1) && decide (t.ref.tag = fieldLE b 0 2) && remoteTrack t
  match s.hamper.tracks.find? waits with
  | none => s
  | some t =>
    let status := fieldLE b 2 1
    let result := fieldLE b 8 8
    if bit (fieldLE b 3 1) 1 then (s.noteLeader t.ref (decide (status = 0)) result).complete t.ref status result
    else s.deliver t.ref status 0 result

/-- HANDLE_SYNC of the other root (R515). Log: DEDUCED notes/assumptions/81.md. -/
def handleSynced (s : State) (b : List Byte) : State :=
  let h := fieldLE b 0 2
  let add : List (Nat × Nat × Nat) := if fieldLE b 2 1 = 1 then [(h, fieldLE b 4 8, fieldLE b 3 1)] else []
  s.modHamper fun x => { x with handles := x.handles.filter (fun e => decide (e.1 ≠ h)) ++ add }

/-- A target's command from this root would cross port `p` of the device at route `x`, depth `d` (R493, R503): D by the rule;
U only on root B's way along level 0; B0 and B1 where the rule leaves the choice to numbers that the root does not hold.
Log: DEDUCED notes/assumptions/82.md. -/
def crosses (s : State) (x d p : Nat) (r depth : Nat) : Bool :=
  let k := d - 1
  let n := routeField x k
  let u := routeField r k
  if d = 0 then false
  else if p = 0 then s.isRootB && decide (d = 1) && decide (u < n)
  else if ¬ routeAgree r x k then false
  else if p = 1 then decide (n < u) && (!s.isRootB || decide (1 < d))
  else decide (u = n) && decide (d < depth) &&
    decide (Config.freeValue (s.freeCtr + routeField r d) % 2 + 2 = p)

/-- ROUTE_LOST (R493): a root completes LINK_DOWN what it would send that way. Log: DEDUCED notes/assumptions/82.md. -/
def routeLostOf (s : State) (b : List Byte) : State :=
  if ¬ s.isRoot then s
  else
    let x := fieldLE b 0 9
    let d := fieldLE b 9 1
    let p := fieldLE b 0x0A 1
    let lost := s.crosses x d p
    let s := if d = 1 ∧ p ≤ 1 then { s with usfen := { s.usfen with ringCut := true } } else s
    let s := if 2 ≤ p then { s with freeCtr := s.freeCtr + 4096 } else s
    s.failTracks lost

/-! ### Roll call (R502) -/

/-- A ROLL_REPLY has not arrived within 10 ms (R502). -/
def rollTimedOut (s : State) : State :=
  match s.usfen.roll with
  | none => s
  | some r => if s.now < r.asked + 10000000 then s else s.rollEnd (routeField s.ownRoute (s.ownDepth - 1) + 1) { r with result := worse r.result 6 }

/-! ### The tunnel (R507 to R510) -/

/-- A TUNNEL_ERROR event on a root's rings (R510, R518). -/
def tunnelError (s : State) (kind route : Nat) : State :=
  s.event 0x75 0xFF (bytesLE 1 kind ++ [0, 0, 0] ++ bytesLE 9 route)

/-- The root performs a tunnelled write, then sends the vector asked for; `ok` tells whether PCIe took it (R507, R510). -/
def tunnelWritten (s : State) (f : Frame) (ok : Bool) : State :=
  let b := f.payload
  let v := fieldLE b 0x0A 1
  if ok then
    let s := s.hostStore (fieldLE b 0 8) ((b.drop 16).take (fieldLE b 8 2))
    if bit v 7 then s.sendVector (v % 64) else s
  else (s.bump R.USF_TUNNEL_ERR_write_err).tunnelError 0 f.srcRoute

/-- The root reads host memory for a device: TUNNEL_DATA in pieces of 256 bytes, or a status of 1 for a failed read
(R507, R510). -/
def tunnelServed (s : State) (f : Frame) (data : Option (List Byte)) : State :=
  let b := f.payload
  let len := fieldLE b 8 2
  let tag := bytesLE 2 (fieldLE b 0x0A 2)
  match data with
  | none =>
    ((s.bump R.USF_TUNNEL_ERR_read_err).tunnelError 1 f.srcRoute).sendRouted 0xC2 f.srcRoute f.srcDepth
      (tag ++ [0, 0, 1] ++ List.replicate 11 0)
  | some l =>
    (pieces 256 16 (padTo len l)).zipIdx.foldl (fun (s : State) (x : List Byte × Nat) =>
      s.sendRouted 0xC2 f.srcRoute f.srcDepth (tag ++ bytesLE 2 (256 * x.2) ++ [0] ++ List.replicate 11 0 ++ x.1)) s

/-- Heads read from the head mirror are applied where they differ; one that fails its check is counted (R509). -/
def applyMirror (s : State) (b : List Byte) : State :=
  let s := (List.range 8).foldl (fun (s : State) (e : Nat) =>
    let h := fieldLE b (4 * e) 4 % 2 ^ 17
    if ¬ s.flag R.EV_CFG_enable e ∨ h = s.get R.EV_HEAD_head e then s else (s.evHead e h).getD s.dbBad) s
  (List.range 4).foldl (fun (s : State) (j : Nat) =>
    let h := fieldLE b (0x20 + 8 * j) 8 % 2 ^ 53
    if ¬ s.flag R.JR_CFG_enable j ∨ h = s.jrHead j then s else (s.putJrHead j h).getD s.dbBad) s

/-- The reads of one image, in address order. Log: DEDUCED notes/assumptions/84.md. -/
def imageReads (s : State) (d : Desc) : List TunnelRead := s.usfen.reads.filter fun r => decide (r.load = some d)

/-- Drop reads. -/
def dropReads (s : State) (f : TunnelRead → Bool) : State :=
  { s with usfen := { s.usfen with reads := s.usfen.reads.filter fun r => !f r } }

/-- TUNNEL_DATA arrives for a read of this device (R507, R510). Log: DEDUCED notes/assumptions/84.md. -/
def tunnelGot (s : State) (b : List Byte) : State :=
  let tag := fieldLE b 0 2
  match s.usfen.reads.find? fun r => decide (r.tag = tag) with
  | none => s
  | some r =>
    if fieldLE b 4 1 ≠ 0 then
      if r.store then (s.dropReads fun x => x.store).psLoadDone none
      else match r.load with
      | some d => (s.dropReads fun x => decide (x.load = some d)).hikerLoadEnd d none
      | none => s.dropReads fun x => decide (x.tag = tag)
    else
      let r' := { r with got := (r.got ++ b.drop 16).take r.len }
      let s := { s with usfen := { s.usfen with reads := s.usfen.reads.map fun x => if x.tag = tag then r' else x } }
      if r.store then
        let l := s.usfen.reads.filter fun x => x.store
        if l.any fun x => decide (x.got.length < x.len) then s
        else (s.dropReads fun x => x.store).psLoadDone (some (l.flatMap (·.got)))
      else match r.load with
      | none => if r'.got.length < r'.len then s else (s.dropReads fun x => decide (x.tag = tag)).applyMirror r'.got
      | some d =>
        let l := s.imageReads d
        if l.any fun x => decide (x.got.length < x.len) then s
        else (s.dropReads fun x => decide (x.load = some d)).hikerLoadEnd d (some (l.flatMap (·.got)))

/-- One of the device's rings is full: an event ring without a free slot, a journal ring without room for a record that waits for it
(R477, R481). -/
def ringFull (s : State) : Bool :=
  ((List.range 8).any fun e => s.flag R.EV_CFG_enable e &&
    decide (2 ^ s.get R.EV_CFG_size_log2 e ≤ ringFill (s.get R.EV_CFG_size_log2 e) (s.get R.EV_TAIL_tail e) (s.get R.EV_HEAD_head e))) ||
  s.hamper.staged.any fun r => !s.jrRoom r

/-- A non-root device reads its head mirror every poll_us µs, and at once when a ring is full (R509). A ring that is already full when
the enable is set is read for too. Log: DEDUCED notes/assumptions/84.md. -/
def mirrorPollOf (s : State) : State :=
  if ¬ s.flag R.USF_MIRROR_CFG_enable ∨ s.isRoot ∨ (s.recent s.usfen.mirrorAt (1000 * max 1 (s.get R.USF_MIRROR_CFG_poll_us)) ∧ ¬ s.ringFull) then s
  else { s with usfen := { s.usfen with mirrorAt := some s.now } }.tunnelAsk (s.get64 R.USF_MIRROR_LO_base R.USF_MIRROR_HI_base) 64 none (rootRoute false) 1

/-! ### Modules (R489, R490) -/

/-- A two-wire byte access ends: not acknowledged, or with its data (R490). -/
def sfpDone (s : State) (p : Fin 4) (got : Option Byte) : State :=
  if ¬ s.flag R.SFP_CMD_busy p then s
  else
    let s := s.setFlag R.SFP_CMD_busy false p
    match got with
    | none => s.setFlag R.SFP_CMD_nak true p
    | some b => if s.flag R.SFP_CMD_write p then s else s.set R.SFP_CMD_data b.toNat p

/-- The port reads the diagnostics of a module that has them (byte 92 bit 6) every 1 s: temperature, received power and alarm flags
(R489, R490).
Log: DEDUCED notes/assumptions/83.md. -/
def ddmRead (s : State) (p : Fin 4) (temp rx flags : Nat) : State :=
  if s.flag R.USF_PSTATUS_mod_abs p ∨ ¬ bit (s.port p).options 6 ∨ s.recent (s.port p).ddmAt 1000000000 then s
  else
    let s := s.setPort p { s.port p with ddmAt := some s.now }
    let was := s.flag R.USF_PSTATUS_ddm_alarm p
    let s := (s.set R.SFP_DDM_temp temp p).set R.SFP_DDM_rx_pwr rx p
    let s := s.setFlag R.USF_PSTATUS_ddm_alarm (decide (flags ≠ 0)) p
    if was = decide (flags ≠ 0) then s else s.sfpEvent p

/-! ### Routed frames (R503) -/

/-- A frame acts on the device that consumes it, by its type (R498). `host` is what host memory answers a tunnel frame. -/
def frameActs (s : State) (p : Fin 4) (f : Frame) (host : Option (List Byte)) : State :=
  match f.typ with
  | 0x00 => s.groupAlarmed f.payload
  | 0x01 => s.chainAlarmed f.payload
  | 0x02 => s.scaleAsked f
  | 0x03 => s.discarded f.payload
  | 0x04 => s.gustAsked f.payload
  | 0x50 => s.checksumTold f
  | 0x80 => s.commandTold f
  | 0x81 => s.completionTold f.payload
  | 0x82 => s.groupSegment f
  | 0x83 => s.started f
  | 0x84 => s.epochTold f.payload
  | 0x85 => s.readied f.payload
  | 0x86 => s.groupCmdTold f.payload
  | 0x87 => s.leaderTold f
  | 0x88 => s.rollCalled p f.payload
  | 0x89 => s.rollReplied p f.payload
  | 0x8A => s.rollEntered f.payload
  | 0x8B => s.applyClaim (fieldLE f.payload 0 4) (fieldLE f.payload 4 2) (fieldLE f.payload 8 8) (fieldLE f.payload 7 1)
  | 0x8C => s.handleSynced f.payload
  | 0x8D => s.routeLostOf f.payload
  | 0xC0 => s.tunnelWritten f host.isSome
  | 0xC1 => s.tunnelServed f host
  | 0xC2 => s.tunnelGot f.payload
  | _ => s

/-- A frame that goes no further: a COMMAND's first part is answered with LINK_DOWN, or with NO_TARGET where the port is UP and
the route leads back (R503). -/
def frameLost (s : State) (f : Frame) (status : Nat) : State :=
  if f.typ = 0x80 ∧ fieldLE f.payload 1 1 = 0 then
    s.sendRouted 0x81 f.srcRoute f.srcDepth
      (cplBytes (fieldLE f.payload 6 2) status 2 (fieldLE f.payload 0 1) 0 0 ++ [0, 0, 0, 0])
  else s

/-- A routed frame arrives: its checks, then consumed, sent on or discarded (R494 to R496, R503).
Log: DEDUCED notes/assumptions/82.md. -/
def forwarded (s : State) (p : Fin 4) (f : Frame) (hcrcOk pcrcOk : Bool) (host : Option (List Byte)) : State :=
  if ¬ s.portUp p then s
  else if ¬ hcrcOk ∨ ¬ pcrcOk then
    let s := (s.set R.USF_RXCNT_frames ((s.get R.USF_RXCNT_frames p + 1) % 2 ^ 32) p).setPort p { s.port p with heardAt := s.now }
    if ¬ hcrcOk then s.bump R.USF_ERR_hcrc_err p
    else
      let s := s.bump R.USF_ERR_pcrc_err p
      let q := s.port p
      if frameLinkOnly f ∨ frameCls f < 2 then s
      else if frameCls f = 2 then s.setPort p { q with nakCmd := true }
      else s.setPort p { q with nakBulk := true }
  else
    let r := s.receive p f
    if ¬ r.1 then r.2
    else if f.flood ∨ f.dstDepth = 0 then r.2.frameActs p f host
    else
      match s.nextHop f.dstRoute f.dstDepth with
      | .consume => r.2.frameActs p f host
      | .port q =>
        if ¬ s.portUp q then r.2.frameLost f 0x11
        else if q = p then r.2.frameLost f 0x05
        else r.2.sendOn q { f with hops := f.hops - 1 }

end State

/-- HELLO (R491). -/
def execHello (p : Fin 4) (f : Frame) (s : State) : Res := .next (s.helloOf p f)

/-- HELLO_SEND (R491). -/
def execHelloSend (p : Fin 4) (s : State) : Res := .next (s.helloSendOf p)

/-- LINK_ACK (R496). -/
def execLinkAck (p : Fin 4) (f : Frame) (s : State) : Res := .next (s.onFrame p f 0xBF fun s => s.linkAcked p f.payload)

/-- LINK_ACK_SEND (R493). -/
def execLinkAckSend (p : Fin 4) (s : State) : Res := .next (if s.portUp p then s.sendAck p false else s)

/-- LINK_DOWN (R493). -/
def execLinkDown (p : Fin 4) (aligned : Bool) (s : State) : Res := .next (s.linkDownOf p aligned)

/-- SFP_SIGNAL_CHANGE (R491): the pins, and bytes 12 and 92 of page A0h of the module (R488). -/
def execSfpSignalChange (p : Fin 4) (modAbs los txFault : Bool) (page : Byte × Byte) (s : State) : Res :=
  .next (s.sfpChanged p modAbs los txFault page.1.toNat page.2.toNat)

/-- REPLAY_TIMEOUT (R496). -/
def execReplayTimeout (p : Fin 4) (s : State) : Res := .next (s.replayDue p)

/-- PORT_FAULT_END (R491). -/
def execPortFaultEnd (p : Fin 4) (s : State) : Res := .next (s.faultEnd p)

/-- FRAME_FORWARD (R503): the outcome of the frame's checks, and what host memory answers a tunnel frame consumed here. -/
def execFrameForward (p : Fin 4) (f : Frame) (hcrcOk pcrcOk : Bool) (host : Option (List Byte)) (s : State) : Res :=
  .next (s.forwarded p f hcrcOk pcrcOk host)

/-- CHAIN_ALARM_SEND (R499). -/
def execChainAlarmSend (s : State) : Res := .next s.chainAlarmDue

/-- CHAIN_ALARM (R499). -/
def execChainAlarm (p : Fin 4) (f : Frame) (s : State) : Res := .next (s.onFrame p f 0x01 fun s => s.chainAlarmed f.payload)

/-- DOMAIN_DEASSERT (R499). -/
def execDomainDeassert (d : Fin 16) (s : State) : Res := .next (s.domainOver d)

/-- GROUP_ALARM_COPY (R500). -/
def execGroupAlarmCopy (k : Fin 16) (s : State) : Res := .next (s.alarmCopy k)

/-- GROUP_ALARM (R500). -/
def execGroupAlarm (p : Fin 4) (f : Frame) (s : State) : Res := .next (s.onFrame p f 0x00 fun s => s.groupAlarmed f.payload)

/-- GROUP_ALARM_EXPIRY (R500). -/
def execGroupAlarmExpiry (k : Fin 16) (s : State) : Res := .next (s.alarmOver k)

/-- SCALE_REQ (R95). -/
def execScaleReq (p : Fin 4) (f : Frame) (s : State) : Res := .next (s.onFrame p f 0x02 fun s => s.scaleAsked f)

/-- DISCARD_NOTICE (R108). -/
def execDiscardNotice (p : Fin 4) (f : Frame) (s : State) : Res := .next (s.onFrame p f 0x03 fun s => s.discarded f.payload)

/-- GUST_REQ (R227). -/
def execGustReq (p : Fin 4) (f : Frame) (s : State) : Res := .next (s.onFrame p f 0x04 fun s => s.gustAsked f.payload)

/-- PLAN_CHECKSUM_FRAME (R104). -/
def execPlanChecksumFrame (p : Fin 4) (f : Frame) (s : State) : Res := .next (s.onFrame p f 0x50 fun s => s.checksumTold f)

/-- COMMAND_FRAME (R464). -/
def execCommandFrame (p : Fin 4) (f : Frame) (s : State) : Res := .next (s.onFrame p f 0x80 fun s => s.commandTold f)

/-- COMPLETION_FRAME (R464). -/
def execCompletionFrame (p : Fin 4) (f : Frame) (s : State) : Res :=
  .next (s.onFrame p f 0x81 fun s => s.completionTold f.payload)

/-- GROUP_SEG (R86). -/
def execGroupSeg (p : Fin 4) (f : Frame) (s : State) : Res := .next (s.onFrame p f 0x82 fun s => s.groupSegment f)

/-- START_FRAME (R97). -/
def execStartFrame (p : Fin 4) (f : Frame) (s : State) : Res := .next (s.onFrame p f 0x83 fun s => s.started f)

/-- EPOCH_FRAME (R106). -/
def execEpochFrame (p : Fin 4) (f : Frame) (s : State) : Res := .next (s.onFrame p f 0x84 fun s => s.epochTold f.payload)

/-- READY_FRAME (R97). -/
def execReadyFrame (p : Fin 4) (f : Frame) (s : State) : Res := .next (s.onFrame p f 0x85 fun s => s.readied f.payload)

/-- GROUP_CMD_FRAME (R99). -/
def execGroupCmdFrame (p : Fin 4) (f : Frame) (s : State) : Res := .next (s.onFrame p f 0x86 fun s => s.groupCmdTold f.payload)

/-- LEADER_STATE (R106). -/
def execLeaderState (p : Fin 4) (f : Frame) (s : State) : Res := .next (s.onFrame p f 0x87 fun s => s.leaderTold f)

/-- ROLL_CALL_GO (R502). -/
def execRollCallGo (s : State) : Res := .next s.rollGo

/-- ROLL_CALL (R502). -/
def execRollCall (p : Fin 4) (f : Frame) (s : State) : Res := .next (s.onFrame p f 0x88 fun s => s.rollCalled p f.payload)

/-- ROLL_REPLY (R502). -/
def execRollReply (p : Fin 4) (f : Frame) (s : State) : Res := .next (s.onFrame p f 0x89 fun s => s.rollReplied p f.payload)

/-- ROLL_ENTRY (R502). -/
def execRollEntry (p : Fin 4) (f : Frame) (s : State) : Res := .next (s.onFrame p f 0x8A fun s => s.rollEntered f.payload)

/-- ROLL_TIMEOUT (R502). -/
def execRollTimeout (s : State) : Res := .next s.rollTimedOut

/-- AUTHORITY (R513). -/
def execAuthority (p : Fin 4) (f : Frame) (s : State) : Res :=
  .next (s.onFrame p f 0x8B fun s =>
    s.applyClaim (fieldLE f.payload 0 4) (fieldLE f.payload 4 2) (fieldLE f.payload 8 8) (fieldLE f.payload 7 1))

/-- HANDLE_SYNC (R515). -/
def execHandleSync (p : Fin 4) (f : Frame) (s : State) : Res := .next (s.onFrame p f 0x8C fun s => s.handleSynced f.payload)

/-- ROUTE_LOST (R493). -/
def execRouteLost (p : Fin 4) (f : Frame) (s : State) : Res := .next (s.onFrame p f 0x8D fun s => s.routeLostOf f.payload)

/-- TUNNEL_WRITE (R507): `ok` tells whether the PCIe write succeeded. -/
def execTunnelWrite (p : Fin 4) (f : Frame) (ok : Bool) (s : State) : Res :=
  .next (s.onFrame p f 0xC0 fun s => s.tunnelWritten f ok)

/-- TUNNEL_READ (R507): the bytes of host memory, none for a failed read. -/
def execTunnelRead (p : Fin 4) (f : Frame) (data : Option (List Byte)) (s : State) : Res :=
  .next (s.onFrame p f 0xC1 fun s => s.tunnelServed f data)

/-- TUNNEL_DATA (R507). -/
def execTunnelData (p : Fin 4) (f : Frame) (s : State) : Res := .next (s.onFrame p f 0xC2 fun s => s.tunnelGot f.payload)

/-- SFP_ACCESS (R490): a write of SFP_CMD. -/
def execSfpAccess (p : Fin 4) (v : Word) (s : State) : Res := .next (s.writeSfpCmd p v)

/-- DDM_POLL (R489): A2h bytes 96 and 97, 104 and 105, 112 and 113, each pair with its first byte high. -/
def execDdmPoll (p : Fin 4) (temp rx flags : BitVec 16) (s : State) : Res :=
  .next (s.ddmRead p temp.toNat rx.toNat flags.toNat)

/-- MIRROR_POLL (R509). -/
def execMirrorPoll (s : State) : Res := .next s.mirrorPollOf

end Sys2Proof.Machine
end

