-- ==== Sys2Proof/Machine/Misc.lean ====
section
/-! DEFINITION. Happenings that a time or a pin brings about in one block: link alignment, dead time, compare points,
blanking, references, PCIe reset, site-time timeouts, PPS_OUT, contest reports, and the ends of stores' and modules' accesses. -/

namespace Sys2Proof.Machine
namespace State

/-- The blanking after a gate edge of phase `x` has ended: what its windows already report is acted on (R136, R270). -/
def blankingOver (s : State) (n : Fin 64) (x : Fin 2) (l : List Sample) (edge : Nat) : State :=
  let s := ([0, 1, 2, 3, 4, 5] : List (Fin 6)).foldl (fun (s : State) (w : Fin 6) => s.winLatch n w) s
  (s.tripEval n x).stepChop n x l edge

/-- The settled flag of a reference: 0 the internal one, 1 VREFq, 2 VDDA, of quadrant `u` or of the house (R299).
Log: DEDUCED notes/assumptions/84.md. -/
def referenceOf (s : State) (u : Option (Fin 4)) (r : Fin 3) (ok : Bool) : State :=
  match u with
  | none =>
    if r = 0 then s.setFlag R.HOUSE_STATUS_int_ok ok else if r = 2 then s.setFlag R.HOUSE_STATUS_vdda_ok ok else s
  | some q =>
    if r = 1 ∧ ¬ ok then s.refLost q
    else
      let f := if r = 0 then R.ADC_REF_int_ok else if r = 1 then R.ADC_REF_vref_ok else R.ADC_REF_vdda_ok
      s.forTiles (allTiles.filter fun (n : Fin 64) => decide (n.val / 16 = q.val)) fun n s =>
        ((s.setFlag f ok n).showSettled n).energiseIfDue n

/-- PPS_OUT as the count gives it (R524): H for 100 µs from each whole second, L in Twilight and Night.
Log: DEDUCED notes/assumptions/84.md. -/
def ppsLevel (s : State) : State :=
  { s with ppsOut := s.flag R.TIME_CFG_pps_out && decide (s.get R.PWR_STATUS_state < 2) && decide (s.now % 1000000000 < 100000) }

end State

/-- LINK_ALIGNMENT_CHANGE (R491). -/
def execLinkAlignmentChange (p : Fin 4) (on : Bool) (s : State) : Res := .next (s.alignmentOf p on)

/-- DEAD_TIME_EXPIRY (R250). -/
def execDeadTimeExpiry (n : Fin 64) (k : Fin 4) (s : State) : Res := .next (s.deadTimeOver n k)

/-- DUTY_COMPARE (R257): `high` tells the point at which the leg's high side is asked for. -/
def execDutyCompare (n : Fin 64) (k : Fin 4) (high : Bool) (s : State) : Res := .next (s.dutyCompareOf n k high)

/-- BLANKING_END (R136): the samples of the ON state that may end at `edge` (sixths of a ns). -/
def execBlankingEnd (n : Fin 64) (x : Fin 2) (l : List Sample) (edge : Nat) (s : State) : Res :=
  .next (s.blankingOver n x l edge)

/-- REFERENCE_SETTLED (R299): the flag sets, or with `ok` false its condition has failed. -/
def execReferenceSettled (u : Option (Fin 4)) (r : Fin 3) (ok : Bool) (s : State) : Res := .next (s.referenceOf u r ok)

/-- PCIE_PERST (R706). Log: DEDUCED notes/assumptions/84.md. -/
def execPciePerst (low : Bool) (s : State) : Res := .next { s with perst := low }

/-- ACQUIRING_TIMEOUT (R532). -/
def execAcquiringTimeout (s : State) : Res := .next s.acquiringTimeoutOf

/-- PPS_SILENCE (R522). -/
def execPpsSilence (s : State) : Res := .next s.ppsSilenceOf

/-- AT_PPS_TIMEOUT (R523). -/
def execAtPpsTimeout (s : State) : Res := .next s.atPpsTimeoutOf

/-- PPS_OUT_PULSE (R524): PPS_OUT follows the count. -/
def execPpsOutPulse (s : State) : Res := .next s.ppsLevel

/-- CONTEST_REPORT (R514). Log: DEDUCED notes/assumptions/35.md. -/
def execContestReport (s : State) : Res := .next s.contestReported

/-- PS_LOAD_DONE (R631): the image delivered by the root's host, none when its source failed; one that the tunnel reads ends with its
TUNNEL_DATA. -/
def execPsLoadDone (img : Option (List Byte)) (s : State) : Res :=
  .next (if s.usfen.reads.any fun r => r.store then s else s.psLoadDone img)

/-- PARAM_SAVE_DONE (R692). -/
def execParamSaveDone (s : State) : Res := .next s.paramSaveDone

/-- SFP_ACCESS_DONE (R490): the byte read or written, none when the access was not acknowledged. -/
def execSfpAccessDone (p : Fin 4) (got : Option Byte) (s : State) : Res := .next (s.sfpDone p got)

end Sys2Proof.Machine
end

