-- ==== Sys2Proof/Machine/Dawn.lean ====
section
/-! DEFINITION. Reset sources and Dawn: what each cause keeps, the boot of Canopy, the restore of the store, positions and
the host interface (23_dawn_and_debug.md R653 to R662, 21_parameter_store.md R617 to R628, 25_register_map.md R680, R689,
R690). The actions of a Dawn are one command. -/

namespace Sys2Proof.Machine

/-- What a Dawn meets outside the device's state: the strap levels as DAWN_STRAPS [4:0] codes them, PCIe REFCLK, whether every
shadow lane of the comparator reports its difference (R547), and the BOOT_IMAGE payload of the NOR flash, none when it holds
none (R659). -/
structure DawnIn where
  straps : Nat
  refclk : Bool
  selfOk : Bool
  nor : Option (List Byte)
  deriving DecidableEq, Repr

namespace State

/-! ### What a Dawn keeps (R655, R680) -/

/-- A register kept in Night because a wake source uses it (R680). Log: DEDUCED notes/assumptions/86.md. -/
def wakeKept (s : State) (off : Nat) : Bool :=
  let on (cfg : Nat) (b : Nat) : Bool := (s.rd cfg).getLsbD b
  let port := (off - 0xC000) / 0x40
  let chan := (off - 0xD100) / 0x40
  if R.FB_CFG.covers off ∨ R.FB_STAND.covers off then on (R.FB_CFG.at port) 20
  else if R.WIN_CFG.covers off then on off 25
  else if R.WIN_THR.covers off then on (off - 4) 25
  else if R.HWIN_CFG.covers off then decide (off = 0xDA00) || on off 25
  else if R.HWIN_THR.covers off then decide (off = 0xDA04) || on (off - 4) 25
  else if R.SFE_CFG.covers off ∨ R.SFE_PAR.covers off then
    on (R.HWIN_CFG.at 7) 25 && decide (s.get R.HWIN_CFG_input 7 = chan)
  else false

/-- A register stands through a Dawn of a cause (R680). Log: DEDUCED notes/assumptions/86.md. -/
def dawnKeeps (s : State) (cause off : Nat) : Bool :=
  match regRow off with
  | none => false
  | some r =>
    match r.dom with
    | .constant => true
    | .alwaysOn => decide (cause ≠ 1)
    | .trip => decide (cause = 3) || (decide (r.reg = R.TRIP_STICKY) && decide (cause ≠ 1))
    | .nightKept => decide (cause = 3)
    | .device => decide (cause = 3) && s.wakeKept off
    | .tile => decide (cause = 3) && s.wakeKept off

/-- The device with everything cleared that a Dawn of a cause clears; the count of site time runs on only through Night
(R532, R655). The levels of pins, host memory, what has been sent and the TAP lie outside what Dawn clears.
Log: DEDUCED notes/assumptions/86.md. -/
def dawnClear (s : State) (cause : Nat) : State :=
  let wake := decide (cause = 3)
  let look : Lookout := { s.lookout with dawnCause := none, entry := none,
                                         goodFrom := if wake then s.lookout.goodFrom else s.lookout.goodFrom.map fun _ => 0 }
  let t : State := { State.reset with
    regs := s.regs.filter fun e => s.dawnKeeps cause e.1
    mem := s.mem.filter fun c => (decide (paramStore ≤ c.1) && decide (c.1 < paramStore + 0x800000)) || decide (xipNor ≤ c.1)
    host := s.host
    now := if wake then s.now else 0
    hamper := { State.reset.hamper with sent := s.hamper.sent }
    usfen := { State.reset.usfen with wire := s.usfen.wire }
    freeCtr := s.freeCtr
    readData := s.readData
    pinHigh := s.pinHigh
    pinFrom := if wake then s.pinFrom else State.reset.pinFrom
    ps := s.storeKept
    feeds := s.feeds.map fun f => { Feed.reset with pins := f.pins }
    lookout := { look with dawnCause := none }
    tap := s.tap
    perst := s.perst
    pending := s.pending }
  let t := allPorts.foldl (fun (t : State) (p : Fin 4) =>
    ((t.setFlag R.USF_PSTATUS_mod_abs (s.flag R.USF_PSTATUS_mod_abs p) p).setFlag R.USF_PSTATUS_los (s.flag R.USF_PSTATUS_los p)
      p).setFlag R.USF_PSTATUS_tx_fault (s.flag R.USF_PSTATUS_tx_fault p) p) t
  let t := t.setFlag R.TRIP_LOCK_lock false
  let t := t.set64 R.LULL_MAP_LO_tiles_lo R.LULL_MAP_HI_tiles_hi 0
  t.setFlag R.PWR_STATUS_dusk_active false

/-! ### Stage L (R654, R657) -/

/-- The straps are sampled after POWER_ON, RESET_PIN and TEST_EXIT; other causes keep them (R654, R655). -/
def dawnStraps (s : State) (old : Word) (cause straps : Nat) : State :=
  s.wr R.DAWN_STRAPS.off (if cause = 1 ∨ cause = 2 ∨ cause = 5 then BitVec.ofNat 32 (straps % 32) else old)

/-- Stage L and the PLLs: the cause is recorded, the crystals run, the pair takes its mode; every tile is held in Idle (R549,
R592, R657, R658). -/
def dawnStageL (s : State) (old : Word) (cause straps : Nat) : State :=
  let s := (s.dawnStraps old cause straps).set R.DAWN_STATUS_cause cause
  let s := (s.setFlag R.XTAL_STATUS_x32_ok (!s.flag R.XTAL_STATUS_x32_rc)).setFlag R.XTAL_STATUS_x25_ok true
  let s := ((s.set R.CLK_STATUS_quad_lock 15).setFlag R.CLK_STATUS_central_lock true)
  let s := (s.set R.CANOPY_STATUS_mode (b2n (s.flag R.DAWN_STRAPS_split))).showClaim
  s.forTiles allTiles fun n s =>
    ((s.set R.TILE_STATE_state stIdle n).modCur n fun c => { c with enteredAt := s.now, emptyAt := s.now }).eventAt s.now 0x01 n
      [0, 1, 0, 0, 0]

/-! ### Stage C: boot (R630, R659 to R661) -/

/-- A record in force at Dawn: a volatile region reads as absent (R627). -/
def dawnRecord (s : State) (cls index : Nat) : Option PsHead :=
  let lost := match cls with
    | 0x01 => s.ps.volatile_.testBit (4 + index)
    | 0x06 => s.ps.mapLost.testBit index
    | 0x07 => s.ps.volatile_.testBit 0
    | 0x08 | 0x09 => s.ps.volatile_.testBit 2
    | 0x0A | 0x0B => s.ps.volatile_.testBit 3
    | _ => s.ps.volatile_.testBit 1
  if lost then none else s.psInForce cls index

/-- The boot slot that DEVICE index 2 names; slot 0 when it is absent (R659). Log: DEDUCED notes/assumptions/89.md. -/
def namedSlot (s : State) : Nat := ((s.dawnRecord 0x02 2).map fun h => fieldLE (s.psPayload h) 0 1 % 2).getD 0

/-- The sources tried, in order: 0 and 1 the store slots, 2 NOR (R659); a slot loaded in recovery comes first (R661).
Log: DEDUCED notes/assumptions/89.md. -/
def bootOrder (s : State) (first : Option Nat) : List Nat :=
  let a := s.namedSlot
  let l := match s.get R.DAWN_STRAPS_boot_src with
    | 0 => [a, 1 - a]
    | 1 => [a, 1 - a, 2]
    | 2 => [2, a, 1 - a]
    | _ => []
  match first with
  | some k => k :: l.filter fun i => decide (i ≠ k)
  | none => l

/-- The payload of a source that passes its check (R630, R659). Log: DEDUCED notes/assumptions/89.md. -/
def bootImage (s : State) (nor : Option (List Byte)) (i : Nat) : Option (List Byte) :=
  let b := if i = 2 then nor else (s.dawnRecord 0x01 i).map s.psPayload
  b.filter bootImageOk

/-- The first source that passes, and the fails bits of those tried before it. Log: DEDUCED notes/assumptions/89.md. -/
def bootFrom (s : State) (nor : Option (List Byte)) : List Nat → Option (Nat × List Byte) × Nat
  | [] => (none, 0)
  | i :: l =>
    match s.bootImage nor i with
    | some b => (some (i, b), 0)
    | none => let r := s.bootFrom nor l; (r.1, r.2 + 2 ^ i)

/-- The firmware starts in Canopy SRAM, in steward mode; in split mode both cores run it (R396, R425, R549, R659).
Log: DEDUCED notes/assumptions/87.md. -/
def startFirmware (s : State) (b : List Byte) : State :=
  let run (s : State) (k : Fin 66) : State :=
    (s.coreStart k b).modCore k fun c => { c with status := 0x80000000#32, estatus := 0x80000000#32, wasState := 2 }
  let s := (s.copySections 0 b).set R.CANOPY_FW_build (fieldLE b 0x20 4)
  let s := run s canopy0
  let s := if s.split then run s canopy1 else s
  (s.set R.CANOPY_STATUS_fw_state 1).showClaim

/-! ### Stage S: the restore (R617, R624, R689, R690) -/

/-- Records of the restored classes whose header can be read and that are not valid (R624).
Log: DEDUCED notes/assumptions/88.md. -/
def invalidRecords (s : State) : Nat :=
  let logs := (s.psScan (64 * 256) 0 (64 * 256)) ++ s.psScan (64 * 1280) 0 (64 * 16)
  let maps := (List.range 64).filterMap fun n => s.psHeadAt (32768 + 512 * n)
  let stages := [64 * 1688, 64 * 1696].filterMap s.psHeadAt
  let ckpts := (psPlaces 0x07 0).filterMap s.psHeadAt
  ((logs ++ maps ++ stages ++ ckpts).filter fun h => !s.psValid h).length

/-- The REMAP record in force of the two copies (R624). Log: DEDUCED notes/assumptions/88.md. -/
def restoreRemap (s : State) : State :=
  let best := match s.psInForce 0x0C 0, s.psInForce 0x0C 1 with
    | some a, some b => if b.gen ≤ a.gen then some a else some b
    | some a, none => some a
    | none, b => b
  let pairs := match best with
    | some h => (List.range (h.len / 4)).map fun i => (fieldLE (s.psPayload h) (4 * i) 2, fieldLE (s.psPayload h) (4 * i + 2) 2)
    | none => []
  { s with ps := { s.ps with remap := pairs.foldl (fun l e => sparseInsert e.1 e.2 l) [] } }

/-- A key slot is restored, with the counter that its mark gives (R578). Log: DESIGN CHOICE notes/assumptions/21.md. -/
def restoreKey (s : State) (k : Fin 8) : State :=
  let mark := ((s.dawnRecord 0x09 k).map fun h => fieldLE (s.psPayload h) 0 8).getD 0
  let x : KeySlot := match s.dawnRecord 0x08 k with
    | some h =>
      let b := s.psPayload h
      { key := if fieldLE b 0x11 1 = 1 then some (b.take 16) else none, rights := fieldLE b 0x10 1,
        counter := mark - 1, mark := mark }
    | none => { key := none, rights := 0, counter := mark - 1, mark := mark }
  s.putKeySlot k x

/-- A lockout that was in force resumes (R579). Log: DESIGN CHOICE notes/assumptions/21.md. -/
def restoreLockout (s : State) : State :=
  match s.dawnRecord 0x09 8 with
  | some h =>
    let b := s.psPayload h
    (s.modCanopy fun c => { c with fails := fieldLE b 0 1, lockouts := fieldLE b 1 1,
                                   lockedUntil := if fieldLE b 2 1 = 1 then some (s.now + fieldLE b 4 4 * 1000000000)
                                     else none }).showLockout
  | none => s.showLockout

/-- A register of a record is not written back after this cause: domain A except after POWER_ON, and the registers that Night
has kept (R689). Log: DEDUCED notes/assumptions/88.md. -/
def dawnSkips (s : State) (cause off : Nat) (kept : Nat → Bool) : Bool :=
  match regRow off with
  | none => true
  | some r =>
    match r.dom with
    | .constant => true
    | .alwaysOn => decide (cause ≠ 1)
    | .nightKept => decide (cause = 3)
    | .trip => false
    | _ => kept off

/-- The failed slices of a converter take no position, and the others take theirs anew (R293, R297).
Log: DEDUCED notes/assumptions/88.md. -/
def restoreSlices (s : State) (u : Option (Fin 64)) (c : Fin 4) (failed : Nat) : State :=
  let k := convSize c
  let good := (List.range k).filter fun i => !failed.testBit i
  let spare := if good.length = k then k - 1 else noSpare c
  let s := (s.set (failedFld c) failed (placeIx u)).set (spareFld c) spare (placeIx u)
  let s := s.setConv u c { Conv.reset k with pos := good.take (k - 1), next := 0, rotAt := 0 }
  if failed % 2 ^ k = 0 then s else (s.showCal u).convDegrade u c

/-- Canopy writes one pair of a record back, locked fields included (R297, R617, R690).
Log: DEDUCED notes/assumptions/88.md. -/
def writeBack (s : State) (cause : Nat) (kept : Nat → Bool) (off v : Nat) : State :=
  let z := off % 0x1000
  let n := blockTile off
  if 0x10000 ≤ off ∧ 0x900 ≤ z ∧ z < 0x980 then
    s.modForce n fun f => { f with segStore := sparsePut 0 ((z - 0x900) / 4) (BitVec.ofNat 32 v) f.segStore }
  else if 0x10000 ≤ off ∧ 0xA00 ≤ z ∧ z < 0xA00 + 4 * 257 then
    (s.setShape n 0 ((z - 0xA00) / 4) v).setShape n 1 ((z - 0xA00) / 4) v
  else if R.ADC_SLICES.covers off then
    ((s.restoreSlices (some n) 0 (bits v 12 8)).restoreSlices (some n) 1 (bits v 7 3)).restoreSlices (some n) 2 (bits v 2 0)
  else if off = R.HOUSE_STATUS.off then s.restoreSlices none 3 (bits v 29 27)
  else if off = R.SPLIT_OWN_LO.off ∨ off = R.SPLIT_OWN_HI.off then s.wr off (BitVec.ofNat 32 v)
  else if s.dawnSkips cause off kept then s
  else if R.USF_PCFG.covers off then s.wr off (BitVec.ofNat 32 v)
  else s.regWrite .canopyA true off (BitVec.ofNat 32 v)

/-- A register record is written back in order (R617). Log: DEDUCED notes/assumptions/88.md. -/
def writeRecord (s : State) (cause : Nat) (kept : Nat → Bool) (h : PsHead) : State :=
  (regPairs (s.psPayload h)).foldl (fun (s : State) (e : Nat × Nat) => s.writeBack cause kept e.1 e.2) s

/-- The DEVICE records: registers, split ownership and safety table; the boot slot is read from its record (R549, R553, R617).
Log: DEDUCED notes/assumptions/88.md. -/
def restoreDevice (s : State) (cause : Nat) (kept : Nat → Bool) : State :=
  let s := match s.dawnRecord 0x02 0 with
    | some h => s.writeRecord cause kept h
    | none => (s.set R.SPLIT_OWN_LO_tiles 0).set R.SPLIT_OWN_HI_tiles 0xFFFFFFFF
  match s.dawnRecord 0x02 1 with
  | some h =>
    let b := s.psPayload h
    (List.range 520).foldl (fun (s : State) (i : Nat) => s.putSafety (i / 8) (i % 8) (fieldLE b (4 * i) 4)) s
  | none => s

/-- The TILE and PROFILE records of a tile (R209, R616, R617). Log: DEDUCED notes/assumptions/88.md. -/
def restoreTile (s : State) (cause : Nat) (kept : Nat → Bool) (n : Fin 64) : State :=
  let s := match s.dawnRecord 0x03 n with
    | some h => s.writeRecord cause kept h
    | none => s
  match s.dawnRecord 0x04 n with
  | some h =>
    let b := s.psPayload h
    let prof := (List.range 512).foldl (fun l i => sparsePut 0 i (BitVec.ofNat 32 (fieldLE b (4 * i) 4)) l) []
    let s := (s.modForce n fun f => { f with prof := prof, committed := min h.time s.now }).set R.FB_PROF_INFO_map_gen (fieldLE b 2048 4) n
    (s.setLearned n 0 (bit (fieldLE b 2052 1) 0)).setLearned n 1 (bit (fieldLE b 2052 1) 1)
  | none => s

/-- What the store reports of itself at Dawn (R626, R632). -/
def showStore (s : State) : State :=
  let worn := decide (s.ps.victims ≠ []) || decide (s.ps.volatile_ ≠ 0) || decide (s.ps.mapLost ≠ 0)
  let s := (s.set R.PS_STATUS_mode (b2n worn)).set R.PS_STATUS_spares (128 - s.ps.used)
  let s := (s.set R.PS_STATUS_retired (min 0xFFFF s.ps.retired)).set R.PS_VOLATILE_regions s.ps.volatile_
  let s := s.set64 R.PS_MAP_LOST_LO_tiles R.PS_MAP_LOST_HI_tiles s.ps.mapLost
  let s := s.set R.PS_WEAR_max_clears (s.ps.clears.foldl (fun m e => max m e.2) 0)
  let logs := if s.ps.volatile_.testBit 3 then 0
    else ((s.psScan (64 * 1296) 0 (64 * 256)).filter fun h => decide (h.cls = 0x0A)).length
  s.set R.PS_LOG_COUNT_count logs

/-! ### Stage T (R241, R293, R620, R623, R628) -/

/-- The coefficients of a converter's working slices after foreground calibration: what is measured is open (R293).
Log: DEDUCED notes/assumptions/29.md, notes/assumptions/88.md. -/
def calibrate (s : State) (u : Option (Fin 64)) (c : Fin 4) : State :=
  (List.range (convSize c)).foldl (fun (s : State) (i : Nat) =>
    if s.fbit (failedFld c) i (placeIx u) then s
    else
      let o := s.fresh
      let g := o.2.fresh
      let x : Slice := { Slice.reset with off := signed 16 (o.1 % 65536), gain := g.1 % 65536 }
      let v := g.2.convOf u c
      g.2.setConv u c { v with slices := v.slices.set i x }) s

/-- The header of the newest checkpoint in the ring, valid or not (R623). -/
def newestCkpt (s : State) : Option PsHead :=
  (s.psHeads 0x07 0).foldl (fun (a : Option PsHead) h =>
    match a with
    | some b => if b.gen < h.gen then some h else a
    | none => some h) none

/-- A checkpoint header newer than the record in force is open or invalid (R623). -/
def ckptTorn (s : State) : Bool :=
  match s.newestCkpt, s.dawnRecord 0x07 0 with
  | some a, some b => decide (b.gen < a.gen)
  | some _, none => true
  | none, _ => false

/-- The saved counter goes into the port that the restored registers bind to the tile, which then re-bases (R620). -/
def restorePort (s : State) (n : Fin 64) (v : Nat) : State :=
  match s.boundPort n with
  | some k => (s.set R.FB_POS_pos v k).rebase k
  | none => s

/-- A tile's position, phase offset, bound and homing_required are restored from its entry (R241, R620, R623, R628). -/
def restorePos (s : State) (entry : Option (List Byte)) (torn : Bool) (n : Fin 64) : State :=
  let lost := s.ps.volatile_.testBit 0 || s.ps.volatile_.testBit 1 || s.ps.mapLost.testBit n
  match entry with
  | some e =>
    let flags := fieldLE e 0x0E 1
    if bit flags 0 then
      let pos : Int := signed 32 (fieldLE e 4 4) * 2 ^ 32 + fieldLE e 0 4
      let unc := if torn then 0xFFFFFFFF else fieldLE e 8 4
      let tol := min 448 (s.get R.HOME_TOL_auto_tol n)
      let need := torn || lost || bit flags 1 || bit flags 2 || decide (tol < unc)
      let s := (s.modPlan n fun p => { p with p := pos * p38 }).syncPos n
      let s := (s.set R.USTEP_CTL_elec_off (fieldLE e 0x0C 2) n).refreshPhase n
      let s := (s.set R.RESTORE_UNC_unc unc n).setFlag R.TILE_STATE_homing_required need n
      s.restorePort n (fieldLE e 0x10 4)
    else (s.set R.RESTORE_UNC_unc 0xFFFFFFFF n).needHoming n
  | none => (s.set R.RESTORE_UNC_unc 0xFFFFFFFF n).needHoming n

/-- PS_CKPT_* show the checkpoint in force (R632). -/
def showCkpt (s : State) (h : PsHead) : State :=
  let t := fieldLE (s.psPayload h) 0x600 8
  let s := (s.set R.PS_CKPT_GEN_gen h.gen).set64 R.PS_CKPT_TIME_LO_time R.PS_CKPT_TIME_HI_time t
  { s with ps := { s.ps with lastCommit := min h.time s.now } }

/-- A torn checkpoint ends a recorded Dusk with NO_COMMIT (R607, R623). Log: DEDUCED notes/assumptions/87.md. -/
def tornDusk (s : State) (torn : Bool) : State :=
  let s := if torn ∧ s.lookout.duskSeen then
      let s := s.set R.DUSK_STATUS_outcome 3
      s.modLookout fun l => { l with duskEvent := some s.duskPayload }
    else s
  s.modLookout fun l => { l with duskSeen := false }

/-- Positions of every tile from the checkpoint in force (R623). -/
def restoreCkpt (s : State) : State :=
  let torn := s.ckptTorn
  match s.dawnRecord 0x07 0 with
  | some h =>
    let b := s.psPayload h
    ((s.showCkpt h).forTiles allTiles fun n s => s.restorePos (some (padTo 24 ((b.drop (24 * n.val)).take 24))) torn n).tornDusk torn
  | none => (s.forTiles allTiles fun n s => s.restorePos none torn n).tornDusk torn

/-- Canopy restores the store in the order of R624, and reports it (R633). -/
def dawnStageS (s : State) (cause : Nat) (kept : Nat → Bool) : State :=
  let bad := s.invalidRecords
  let torn := s.ckptTorn
  let s := (s.restoreRemap.showStore)
  let s := ((List.finRange 8).foldl (fun (s : State) (k : Fin 8) => s.restoreKey k) s).restoreLockout
  let s := s.restoreDevice cause kept
  let s := s.forTiles allTiles fun n s => s.restoreTile cause kept n
  let gen := ((s.dawnRecord 0x07 0).map (·.gen)).getD 0
  let s := { s with ps := { s.ps with refreshed := s.now }, lookout := { s.lookout with leftRun := s.now } }
  (s.setFlag R.PS_STATUS_restored true).event 0x93 0xFF (bytesLE 4 gen ++ bytesLE 1 (b2n torn) ++ bytesLE 1 (s.get R.PS_STATUS_mode)
    ++ [0, 0] ++ bytesLE 4 bad)

/-- A tile's converters, map and ports. Log: DEDUCED notes/assumptions/87.md. -/
def dawnTile (s : State) (n : Fin 64) : State :=
  let s := (((s.calibrate (some n) 0).calibrate (some n) 1).calibrate (some n) 2)
  if s.ps.mapLost.testBit n then s.mapInvalid n else s.mapRestore n

/-- Stage T: calibration, maps, positions, the veto scan, the locks; a sticky trip holds its tiles again (R241, R268, R293,
R541). -/
def dawnStageT (s : State) : State :=
  let s := (s.forTiles allTiles fun n s => s.dawnTile n).calibrate none 3
  let s := allFeeds.foldl (fun (s : State) (k : Fin 16) => if s.flag R.FB_CFG_enable k then (s.feedStill k).feedTake k else s) s
  let s := s.restoreCkpt
  let s := s.modCanopy fun c => { c with kickAt := Vector.replicate 2 s.now, hostKick := s.now }
  let s := s.setFlag R.TRIP_LOCK_lock true
  let s := s.forTiles allTiles fun n s => s.setFlag R.FB_LOCK_lock true n
  s.refreshPins

/-! ### Stage K (R512, R526, R662) -/

/-- The host interface, fixed for the whole Dawn (R662). Log: DEDUCED notes/assumptions/61.md. -/
def dawnHost (s : State) (refclk : Bool) : Nat := if s.flag R.DAWN_STRAPS_root_sel then (if refclk then 1 else 2) else 0

/-- The ports and the host interface (R657, R662). -/
def dawnLinks (s : State) (refclk : Bool) : State :=
  let s := (s.set R.HAMPER_CTL_host (s.dawnHost refclk)).setFlag R.USF_ID_root (s.flag R.DAWN_STRAPS_root_sel)
  let s := { s with spt := { s.spt with stream := s.flag R.SPT_CFG_stream, compat := s.flag R.SPT_CFG_compat } }
  let s := allPorts.foldl (fun (s : State) (p : Fin 4) => s.portRest p) s
  s.showLocks true

/-- Site time enters ACQUIRING; a device with ROOT_SEL high acts as a master until a roll call tells (R521, R526). After a wake
corrections come from locked senders alone (R532). Log: DEDUCED notes/assumptions/86.md, notes/assumptions/87.md. -/
def dawnTime (s : State) (cause : Nat) : State :=
  if s.flag R.DAWN_STRAPS_root_sel then s.setTimeState 1
  else
    let s := s.setTimeState 3
    if cause = 3 then s.modClock fun c => { c with woke := some s.now, picky := true } else s

/-- Tile cores with autostart set start from src (R417). -/
def autostart (s : State) : State :=
  s.forTiles allTiles fun n s =>
    if s.flag R.HIKER_CTL_autostart n then s.hikerStart n (s.rd (R.HIKER_CTL.at n) ||| 0x80000000#32) else s

/-- A record that each event ring is owed as it is enabled; the mailbox has it at once (R607, R657).
Log: DEDUCED notes/assumptions/87.md. -/
def oweEvent (s : State) (kind : Nat) (payload : List Byte) : State :=
  let o := (s.hamper.evSeq, s.now, kind, payload)
  (s.event kind 0xFF payload).modHamper fun h => { h with owed := h.owed ++ [o] }

/-- The end of a Dawn, done or in recovery: Run, DAWN_STATUS, the events of Lookout, and the trips of Night (R268, R601, R657). The
duration is open.
Log: DEDUCED notes/assumptions/87.md. -/
def dawnEnd (s : State) (cause stage : Nat) : State :=
  let r := s.fresh
  let s := (r.2.set R.DAWN_STATUS_stage stage).set R.DAWN_STATUS_duration (r.1 % 2 ^ 20)
  let s := if s.get R.PWR_STATUS_state = 0 then s else s.putPower 0
  let s := if cause = 3 then s.noteWake 3 else s
  let s := s.oweEvent 0x85 (bytesLE 1 cause ++ bytesLE 1 (s.get R.DAWN_STATUS_booted) ++ bytesLE 1 (s.get R.DAWN_STATUS_fails) ++ [0]
    ++ bytesLE 4 (s.get R.DAWN_STATUS_duration))
  let s := match s.lookout.duskEvent with
    | some b => s.oweEvent 0x82 b
    | none => s
  let trips := (List.range 16).filter fun k => s.lookout.nightTrips.testBit k
  let s := trips.foldl (fun (s : State) k => s.oweEvent 0x41 (bytesLE 1 0 ++ bytesLE 1 k)) s
  let s := s.modLookout fun l => { l with duskNight := false, duskEvent := none, nightTrips := 0 }
  s.holdPins

/-- Recovery: no firmware runs, the locks stay clear, the ports and the host interface work (R661).
Log: DEDUCED notes/assumptions/86.md. -/
def dawnRecovery (s : State) (cause : Nat) (refclk : Bool) : State :=
  let s := (s.set R.CANOPY_STATUS_fw_state 3).set R.DAWN_STATUS_booted 3
  let s := s.dawnLinks refclk
  (s.refreshPins).dawnEnd cause 6

/-- Stages S to K with the firmware running (R657). Log: DESIGN CHOICE notes/assumptions/20.md, notes/assumptions/85.md. -/
def dawnRun (s : State) (cause : Nat) (refclk : Bool) (kept : Nat → Bool) : State :=
  let s := (((s.dawnStageS cause kept).dawnStageT.dawnLinks refclk).dawnTime cause).refreshAll
  let s := if s.isRoot then s.rollGo else s
  (s.autostart.sfeDawn).dawnEnd cause 5

/-- A Dawn that is due runs (R657). A comparator that fails its self-test stops the pair, and the device stays in stage C.
Log: DESIGN CHOICE notes/assumptions/85.md. -/
def dawnOf (s : State) (x : DawnIn) : State :=
  match s.lookout.dawnCause with
  | none => s
  | some cause =>
    if s.lookout.off then s
    else
      let kept (off : Nat) : Bool := decide (cause = 3) && s.wakeKept off
      let first := if cause = 6 then some (s.get R.PS_LOAD_CTL_number % 2) else none
      let t := (s.dawnClear cause).dawnStageL (s.rd R.DAWN_STRAPS.off) cause x.straps
      let t := if t.split then t else t.selftest x.selfOk
      if ¬ t.split ∧ ¬ x.selfOk then (t.set R.DAWN_STATUS_stage 1).set R.CANOPY_STATUS_fw_state 3
      else
        let r := t.bootFrom x.nor (t.bootOrder first)
        let t := t.set R.DAWN_STATUS_fails r.2
        match r.1 with
        | some (i, b) => ((t.set R.DAWN_STATUS_booted i).startFirmware b).dawnRun cause x.refclk kept
        | none => t.dawnRecovery cause x.refclk

/-! ### Reset sources (R655) -/

/-- A Dawn of a cause is due. Log: DESIGN CHOICE notes/assumptions/85.md. -/
def dawnDue (s : State) (cause : Nat) : State := s.modLookout fun l => { l with dawnCause := some cause }

/-- The power-on monitors release (R604, R655): the TAP resets with power (R663). -/
def powerOnOf (s : State) : State :=
  if s.lookout.off then ({ s with tap := State.reset.tap }.modLookout fun l => { l with off := false }).dawnDue 1 else s

/-- RESET_N is low for 1 µs: every gate pin L, and a Dawn follows (R262, R276, R655). -/
def resetPinOf (s : State) : State :=
  if s.lookout.off then s
  else
    (s.forTiles allTiles fun n s =>
      ((s.gatesLow n).setFlag R.LEG_STATUS_brake_engaged false n).modLull n fun l => { l with brakeArmed := false }).dawnDue 2

/-- A write of DEVICE_RESET (R656). -/
def deviceResetOf (s : State) (v : Word) : State := if v = 0xDA0000A5#32 ∧ ¬ s.lookout.off then s.dawnDue 4 else s

/-- A boot slot loaded in recovery (R661). -/
def recoveryDoneOf (s : State) : State :=
  if s.get R.DAWN_STATUS_stage = 6 ∧ ¬ s.flag R.PS_LOAD_CTL_busy ∧ s.get R.PS_LOAD_CTL_kind = 0 ∧ s.get R.PS_LOAD_CTL_result = 0 then
    s.dawnDue 6
  else s

end State

/-- DAWN (R657): `straps` as DAWN_STRAPS [4:0], `refclk` PCIe REFCLK, `selfOk` the comparator self-test, `nor` the BOOT_IMAGE
payload of the NOR flash. -/
def execDawn (straps : Fin 32) (refclk selfOk : Bool) (nor : Option (List Byte)) (s : State) : Res :=
  .next (s.dawnOf { straps := straps.val, refclk := refclk, selfOk := selfOk, nor := nor })

/-- POWER_ON (R655). -/
def execPowerOn (s : State) : Res := .next s.powerOnOf

/-- RESET_PIN (R655). -/
def execResetPin (s : State) : Res := .next s.resetPinOf

/-- DEVICE_RESET (R656). -/
def execDeviceReset (v : Word) (s : State) : Res := .next (s.deviceResetOf v)

/-- RECOVERY_DONE (R661). -/
def execRecoveryDone (s : State) : Res := .next s.recoveryDoneOf

end Sys2Proof.Machine
end

