-- ==== Sys2Proof/Machine/Debug.lean ====
section
/-! DEFINITION. The commands of the debug path and of the test access port (23_dawn_and_debug.md R663 to R670). -/

namespace Sys2Proof.Machine

/-- DBG_VIEW_READ (R666): of what DBG_ADDR names, through JTAG when `jtag`. -/
def execDbgViewRead (jtag : Bool) (s : State) : Res := .next (s.dbgAccessOf 0 jtag)

/-- DBG_CONSUME_READ (R666). -/
def execDbgConsumeRead (jtag : Bool) (s : State) : Res := .next (s.dbgAccessOf 1 jtag)

/-- DBG_WRITE (R666): of DBG_DATA. -/
def execDbgWrite (jtag : Bool) (s : State) : Res := .next (s.dbgAccessOf 2 jtag)

/-- DBG_HALT (R669): a write of DBG_HALT_LO, or DBG_HALT_HI when `hi`. -/
def execDbgHalt (hi : Bool) (v : Word) (s : State) : Res := .next (s.haltTiles hi v)

/-- DBG_RESUME (R669). -/
def execDbgResume (hi : Bool) (v : Word) (s : State) : Res := .next (s.goTiles hi false v)

/-- DBG_STEP (R669). -/
def execDbgStep (hi : Bool) (v : Word) (s : State) : Res := .next (s.goTiles hi true v)

/-- CANOPY_HALT (R551, R670). -/
def execCanopyHalt (s : State) : Res := .next s.canopyHalt

/-- CANOPY_RESUME (R670). -/
def execCanopyResume (s : State) : Res := .next (s.canopyGo false)

/-- CANOPY_STEP (R670). -/
def execCanopyStep (s : State) : Res := .next (s.canopyGo true)

/-- JTAG_DBG_UPDATE (R668): the 41 bits shifted in; the read data is what the next Capture-DR shows. -/
def execJtagDbgUpdate (w : BitVec 41) (s : State) : Res :=
  let t := s.jtagUpdate w
  .next { t with readData := t.jtagCapture }

/-- EXTEST (R664): loaded, with the values then shifted into the boundary cells of the gate pins. -/
def execExtest (cells : List (Fin 64 × Fin 256)) (s : State) : Res := .next ((s.tapLoad 0x00).tapCells cells)

/-- SAMPLE/PRELOAD (R663). -/
def execSamplePreload (cells : List (Fin 64 × Fin 256)) (s : State) : Res := .next ((s.tapLoad 0x01).tapCells cells)

/-- IDCODE (R663, R682): the identification is the read data. -/
def execIdcode (s : State) : Res :=
  let t := s.tapLoad 0x02
  .next { t with readData := (t.rd R.DEV_IDCODE.off).toNat }

/-- CLAMP (R664). -/
def execClamp (s : State) : Res := .next (s.tapLoad 0x03)

/-- HIGHZ (R664). -/
def execHighz (s : State) : Res := .next (s.tapLoad 0x04)

/-- EXTEST_PULSE (R664). -/
def execExtestPulse (cells : List (Fin 64 × Fin 256)) (s : State) : Res := .next ((s.tapLoad 0x05).tapCells cells)

/-- EXTEST_TRAIN (R664). -/
def execExtestTrain (cells : List (Fin 64 × Fin 256)) (s : State) : Res := .next ((s.tapLoad 0x06).tapCells cells)

/-- DBG_ACCESS (R668). -/
def execDbgAccess (s : State) : Res := .next (s.tapLoad 0x10)

/-- BYPASS (R663). -/
def execBypass (s : State) : Res := .next (s.tapLoad 0xFF)

/-- TAP_RESET (R663): the TAP resets, IDCODE loaded as IEEE 1149.1 has it. -/
def execTapReset (s : State) : Res := .next (s.tapLoad 0x02)

end Sys2Proof.Machine
end

