-- ==== Sys2Proof/Machine/Hamper.lean ====
section
/-! DEFINITION. The commands of Hamper: doorbells, fetches, descriptors without a family of their own, completions,
the journal, ring set-up and the mailbox (15_hamper_rings.md). -/

namespace Sys2Proof.Machine
namespace State

/-- A doorbell write whose qid lies in a range (R455). -/
def doorbellIn (s : State) (lo hi : Nat) (v : Word) : State :=
  let qid := bits v.toNat 31 24
  if lo ≤ qid ∧ qid < hi then s.doorbell v else s

/-- A read of MB_CPL3 or MB_EVT7 returns a word to its reader. -/
def returning (r : Nat × State) : State := { r.2 with readData := r.1 }

end State

/-- SQ_DOORBELL (R456). -/
def execSqDoorbell (v : Word) (s : State) : Res := .next (s.doorbellIn 0 0x80 v)

/-- CQ_DOORBELL (R456). -/
def execCqDoorbell (v : Word) (s : State) : Res := .next (s.doorbellIn 0x80 0xC0 v)

/-- EV_DOORBELL (R456). -/
def execEvDoorbell (v : Word) (s : State) : Res := .next (s.doorbellIn 0xC0 0x100 v)

/-- DESCRIPTOR_FETCH (R462): the slots of the next command of queue `q` as host memory holds them; none for a failed read. A command
that waits from another device comes first (R468); the queue fetched from is the one whose turn it is (R462). -/
def execDescriptorFetch (q : Fin 128) (slots : Option (List (List Byte))) (s : State) : Res := .next (s.takeWaiting.fetchFrom q slots)

/-- COMPLETION_RELEASE (R474). -/
def execCompletionRelease (c : Fin 64) (s : State) : Res := .next (s.releaseCpl c)

/-- COAL_TIMER (R473) of CQ `r`, or of event ring `r` − 64. -/
def execCoalTimer (r : Fin 72) (s : State) : Res := .next (s.coalTimer r)

/-- NOP (R466). -/
def execNop (d : Desc) (s : State) : Res := .next (s.nopOf d)

/-- SEGMENT (R469), in the ring order of its queue on its tile (R462). -/
def execSegment (d : Desc) (s : State) : Res := .next (if s.inOrder d then (s.segmentOf d).actReady else s)

/-- REG_WRITE (R466). -/
def execRegWrite (d : Desc) (s : State) : Res := .next (s.regWriteOf d)

/-- REG_READ (R466). -/
def execRegRead (d : Desc) (s : State) : Res := .next (s.regReadOf d)

/-- HANDLE_ALLOC (R505). -/
def execHandleAlloc (d : Desc) (s : State) : Res := .next (s.handleAllocOf d)

/-- HANDLE_FREE (R505). -/
def execHandleFree (d : Desc) (s : State) : Res := .next (s.handleFreeOf d)

/-- TIME_SET (R523). -/
def execTimeSet (d : Desc) (s : State) : Res := .next (s.timeSetDesc d)

/-- FENCE (R537). -/
def execFence (d : Desc) (s : State) : Res := .next (s.fenceOf d)

/-- SCHED_DUE (R533). -/
def execSchedDue (s : State) : Res := .next s.schedDueOf

/-- JOURNAL_WRITE (R481). -/
def execJournalWrite (s : State) : Res := .next s.journalWrite

/-- JR_HEAD_WRITE (R460): both halves of JR_HEAD of ring `j`. -/
def execJrHeadWrite (j : Fin 4) (v : BitVec 64) (s : State) : Res := .next (s.writeJrHead j v.toNat)

/-- SQ_CFG_WRITE (R457). -/
def execSqCfgWrite (q : Fin 128) (v : Word) (s : State) : Res := .next (s.writeSqCfg q v)

/-- CQ_CFG_WRITE (R458). -/
def execCqCfgWrite (c : Fin 64) (v : Word) (s : State) : Res := .next (s.writeCqCfg c v)

/-- EV_CFG_WRITE (R459). -/
def execEvCfgWrite (e : Fin 8) (v : Word) (s : State) : Res := .next (s.writeEvCfg e v)

/-- JR_CFG_WRITE (R460). -/
def execJrCfgWrite (j : Fin 4) (v : Word) (s : State) : Res := .next (s.writeJrCfg j v)

/-- MAILBOX_GO (R485). -/
def execMailboxGo (s : State) : Res := .next s.mailboxGo

/-- MB_CPL_POP (R485). -/
def execMbCplPop (s : State) : Res := .next (State.returning s.popCpl)

/-- MB_EVT_POP (R485). -/
def execMbEvtPop (s : State) : Res := .next (State.returning s.popEvt)

/-- MIGRATE (R483): rebinds its queue. -/
def execMigrate (d : Desc) (s : State) : Res := .next (if isRebind d.slot then s.rebind d else s)

/-- MIGRATE_MARKER (R483). -/
def execMigrateMarker (q : Fin 128) (s : State) : Res := .next (s.markerOf q)

/-- MIGRATE_LEADER (R484). -/
def execMigrateLeader (d : Desc) (s : State) : Res := .next (if isRebind d.slot then s else s.migrateLeaderOf d)

end Sys2Proof.Machine
end

