-- ==== Sys2Proof/Machine/RegMap.lean ====
section
/-! DEFINITION. The commands of the register space and of the paged window (25_register_map.md). -/

namespace Sys2Proof.Machine
namespace State

/-- A write that a requester makes at an offset of BAR0 (R7, R679, R685): a host's write of fewer than 4 bytes to the register
space, or an unaligned one, has no effect and is recorded. A PCIe block held in reset takes no access (R706). -/
def bar0Write (s : State) (who : Requester) (off len : Nat) (v : Word) : State :=
  let host := decide (who = .pcie) || decide (who = .spt) || decide (who = .debug)
  if who = .pcie ∧ s.perst then s
  else if ¬ host then (if len = 4 ∧ off % 4 = 0 ∧ off < 0x50000 then s.regWrite who false off v else s)
  else if 0x80000 ≤ off then s.windowPut (who = .debug) (off - 0x80000) (bytesLE len v.toNat)
  else if len ≠ 4 ∨ off % 4 ≠ 0 then s.barErr 1 off
  else s.busWrite who off v

/-- A write of a word of the MSI-X table (R452, R453): the message of a vector that is pending goes out as its entry is unmasked.
Log: PRESUMED notes/assumptions/104.md. -/
def msixWrite (s : State) (i : Nat) (v : Word) : State :=
  let s : State := { s with hamper := { s.hamper with msixTable := sparseInsert i v s.hamper.msixTable } }
  let k := i / 16
  if s.hamper.pba.contains k ∧ ¬ s.masked k then
    { s with hamper := { s.hamper with pba := s.hamper.pba.filter fun x => decide (x ≠ k) } }.sendVector k
  else s

/-- A write that the host makes at an offset of BAR2 (R10, R452, R455): a 32-bit one to the doorbell range is a doorbell, the
MSI-X table takes aligned words, and no other has an effect. -/
def bar2Write (s : State) (who : Requester) (off len : Nat) (v : Word) : State :=
  if who ≠ .pcie ∨ s.perst ∨ len ≠ 4 then s
  else if off < 0x8000 then s.doorbell v
  else if off < 0x8400 ∧ off % 4 = 0 then s.msixWrite (off - 0x8000) v
  else s

/-- The word that a read of BAR2 returns, without any effect (R10, R452, R455): the MSI-X table and its pending bits; 0 for a
doorbell and at every unmapped offset. -/
def bar2Word (s : State) (off : Nat) : Word :=
  if 0x8000 ≤ off ∧ off < 0x8400 then
    (sparseFind (off - 0x8000) s.hamper.msixTable).getD (if off % 16 = 12 then 1 else 0)
  else if 0x9000 ≤ off ∧ off < 0x9008 then
    BitVec.ofNat 32 ((s.hamper.pba.filter fun k => decide (k / 32 = (off - 0x9000) / 4)).map fun k => 2 ^ (k % 32)).sum
  else 0

/-- A read of 1, 2 or 4 bytes through the window (R686); the window unmapped reads 0 (R10).
Log: DEDUCED notes/assumptions/75.md. -/
def windowRead (s : State) (dbg : Bool) (a k : Nat) : State :=
  if a % 2 ^ k ≠ 0 then s.barErr 1 (0x80000 + a)
  else
    match s.windowAddr dbg a with
    | some m => { s with readData := s.load m (2 ^ k) }
    | none => { s with readData := 0 }

/-- A write of 1, 2 or 4 bytes through the window (R686, R687). Log: DEDUCED notes/assumptions/75.md. -/
def windowWrite (s : State) (dbg : Bool) (a k : Nat) (v : Word) : State :=
  if a % 2 ^ k ≠ 0 then s.barErr 1 (0x80000 + a) else s.windowPut dbg a (bytesLE (2 ^ k) v.toNat)

end State

/-- SRAM_PAGE_WRITE (R685): SRAM_PAGE, or SRAM_PAGE_DBG when `dbg`. -/
def execSramPageWrite (dbg : Bool) (v : Word) (s : State) : Res := .next (s.writePage dbg v)

/-- WINDOW_READ (R686): 2^`k` bytes at window offset `a`. -/
def execWindowRead (dbg : Bool) (a : BitVec 19) (k : Fin 3) (s : State) : Res := .next (s.windowRead dbg a.toNat k)

/-- WINDOW_WRITE (R687): 2^`k` bytes at window offset `a`. -/
def execWindowWrite (dbg : Bool) (a : BitVec 19) (k : Fin 3) (v : Word) (s : State) : Res :=
  .next (s.windowWrite dbg a.toNat k v)

/-- REGISTER_WRITE (R7, R10): a write of `len` bytes at an offset of BAR0 or BAR2. -/
def execRegisterWrite (who : Requester) (at_ : RegAddr) (len : Fin 5) (v : Word) (s : State) : Res :=
  .next (match at_ with
    | .bar0 off => s.bar0Write who off.toNat len v
    | .bar2 off => s.bar2Write who off.toNat len v)

end Sys2Proof.Machine
end

