-- ==== Sys2Proof/Machine/HikerMem.lean ====
section
/-! DEFINITION. What a Hiker core reaches: the address maps with their rights, fetches, loads, stores, locked sequences and
Canopy's data cache (13_hiker_cores.md R397 to R399, R412 to R415, 14_hiker_instructions.md R437, R441, R445, R446,
18_canopy.md R540, R542, R550). -/

namespace Sys2Proof.Machine

/-- What stands at a data address. -/
inductive Place where
  /-- Hiker region, Canopy SRAM or shared SRAM, by on-chip address: locked sequences act on it (R412). -/
  | ram (a : Nat)
  /-- Memory that the core only reads, by on-chip address; the parameter store's window among it. -/
  | rom (a : Nat)
  /-- A register, by BAR0 offset. -/
  | reg (off : Nat)
  /-- The tile interface, or on Canopy the Canopy interface. -/
  | ti (off : Nat)
  /-- The XIP window, by offset. -/
  | xip (off : Nat)
  deriving DecidableEq, Repr

/-- The mode of a core: 0 script, 1 keeper, 2 steward (R394). Log: DEDUCED notes/assumptions/90.md. -/
def coreMode (c : Core) : Nat := bits c.status.toNat 31 30

/-- A core may use what is marked keeper; on Canopy, steward stands in place of keeper (R395, R396).
Log: DEDUCED notes/assumptions/90.md. -/
def privileged (k : Fin 66) (c : Core) : Bool := decide ((if k.val < 64 then 1 else 2) ≤ coreMode c)

/-- The data address map of a tile core, with the rights of its mode (R397, R399). -/
def tilePlace (n : Nat) (c : Core) (write : Bool) (a : Nat) : Option Place :=
  let keeper := decide (1 ≤ coreMode c)
  if within a 0 0x18000 then (if keeper && !write then some (.rom (tileSram n + a)) else none)
  else if within a 0x18000 0x8000 then
    if keeper || decide (0x18000 + c.keeperSize ≤ a) then some (.ram (tileSram n + a)) else none
  else if within a 0x20000 0x8000 then (if write then none else some (.rom (tileSram n + a)))
  else if within a 0x10000000 0x1000 then (if keeper then some (.reg (0x10000 + 0x1000 * n + (a - 0x10000000))) else none)
  else if within a 0x10001000 0x100 then
    let off := a - 0x10001000
    if keeper || !(decide (0x80 ≤ off) && decide (off < 0x88)) then some (.ti off) else none
  else if within a sharedSram 0x100000 then some (.ram a)
  else if within a xipNor 0x10000000 then (if write then none else some (.xip (a - xipNor)))
  else none

namespace State

/-- A Canopy core in split mode may reach a tile's block and SRAM only when it owns the tile (R550). -/
def canopyOwns (s : State) (k : Fin 66) (n : Nat) : Bool := !s.split || s.ownedByOne (tileOf n) == decide (k = canopy1)

/-- The data address map of a Canopy core (R540, R542, R550). Log: DEDUCED notes/assumptions/92.md. -/
def canopyPlace (s : State) (k : Fin 66) (c : Core) (write : Bool) (a : Nat) : Option Place :=
  let keeper := decide (1 ≤ coreMode c)
  if within a 0 0x100000 then (if keeper || decide (c.keeperSize ≤ a) then some (.ram a) else none)
  else if ¬ keeper then none
  else if within a 0x10000000 0x100000 then
    let off := a - 0x10000000
    if 0x10000 ≤ off ∧ off < 0x50000 ∧ ¬ s.canopyOwns k ((off - 0x10000) / 0x1000) then none else some (.reg off)
  else if within a 0x10100000 0x100 then some (.ti (a - 0x10100000))
  else if within a sharedSram 0x100000 then some (.ram a)
  else if within a 0x30000000 0x1000000 then
    let n := (a - 0x30000000) / 0x40000
    if write ∨ 0x28000 ≤ (a - 0x30000000) % 0x40000 ∨ ¬ s.canopyOwns k n then none else some (.rom a)
  else if within a paramStore 0x800000 then (if write then none else some (.rom a))
  else if within a xipNor 0x10000000 then (if write then none else some (.xip (a - xipNor)))
  else none

/-- The data address map of a core in its present mode; none is a fault (R397). -/
def place (s : State) (k : Fin 66) (write : Bool) (a : Nat) : Option Place :=
  if k.val < 64 then tilePlace k.val (s.core k) write a else s.canopyPlace k (s.core k) write a

/-- The place accepts an access of `size` bytes: registers and interfaces take words only (R437). -/
def placeTakes (p : Place) (size : Nat) : Bool :=
  match p with
  | .reg _ => decide (size = 4)
  | .ti _ => decide (size = 4)
  | _ => true

/-! ### Fetch (R397, R446, R540) -/

/-- The core may execute at `pc` in its mode (R397, R540). -/
def mayFetchAt (s : State) (k : Fin 66) (pc : Nat) : Bool :=
  let c := s.core k
  let m := coreMode c
  decide (pc % 4 = 0) &&
    (if k.val < 64 then (within pc 0x18000 0x8000 && (decide (1 ≤ m) || decide (0x18000 + c.keeperSize ≤ pc))) || within pc xipNor 0x10000000
     else (within pc 0 0x100000 && (decide (1 ≤ m) || decide (c.keeperSize ≤ pc))) ||
       (decide (1 ≤ m) && within pc xipNor 0x10000000) || (decide (2 ≤ m) && within pc paramStore 0x800000))

/-- A word that a line holds. -/
def lineWord (l : Line) (a : Nat) : Word := BitVec.ofNat 32 (fieldLE l.bytes (a % 32) 4)

/-- The words that a fetch at `pc` may return; none is a line that has still to be read from NOR. A word of the Hiker region that
the core has written since its last SYNC may still be fetched as it was (R446). Log: DEDUCED notes/assumptions/92.md. -/
def fetchWords (s : State) (k : Fin 66) (pc : Nat) : Option (List Word) :=
  let c := s.core k
  match lineOf c.fetchBuf pc with
  | some l => some [lineWord l pc]
  | none =>
    if within pc xipNor 0x10000000 then none
    else
      let a := if k.val < 64 then tileSram k.val + pc else pc
      some (BitVec.ofNat 32 (natLE (s.memBytes a 4)) :: ((sparseFind a c.stale).map fun w => [w]).getD [])

/-- Canopy's instruction cache takes the line of a fetch that missed it (R540). Log: DEDUCED notes/assumptions/92.md. -/
def cacheFetch (s : State) (k : Fin 66) (pc : Nat) : State :=
  if k.val < 64 ∨ within pc xipNor 0x10000000 ∨ (lineOf (s.core k).fetchBuf pc).isSome then s
  else s.bufferLine k { addr := pc / 32 * 32, bytes := s.memBytes (pc / 32 * 32) 32, dirty := false }

/-! ### Canopy's data cache (R540, R441) -/

/-- The line that holds `a` is written back and stays (R441). Log: DEDUCED notes/assumptions/92.md. -/
def cleanData (s : State) (k : Fin 66) (a : Nat) : State :=
  match lineOf (s.core k).dcache a with
  | none => s
  | some l =>
    (s.writeLine k l).modCore k fun c =>
      { c with dcache := c.dcache.map fun x => if x.addr = l.addr then { x with dirty := false } else x }

/-- Every dirty line is written back (R441). -/
def cleanAll (s : State) (k : Fin 66) : State :=
  (s.core k).dcache.foldl (fun (s : State) (l : Line) => s.cleanData k l.addr) s

/-- `size` bytes read through the data cache. Log: DEDUCED notes/assumptions/92.md. -/
def cacheLoad (s : State) (k : Fin 66) (a size : Nat) : Nat × State :=
  let r := s.dataLine k a
  (fieldLE r.1.bytes (a % 32) size, r.2)

/-! ### Locked sequences (R412 to R415) -/

/-- A byte as an open sequence sees it: its newest buffered store, or memory. -/
def lockByte (s : State) (l : LockSeq) (a : Nat) : Byte :=
  match l.stores.find? fun e => decide (e.1 = a) with
  | some e => e.2
  | none => s.byte a

/-- A load inside a sequence joins its word to the reservation set; on Canopy it reads memory anew.
Log: DEDUCED notes/assumptions/92.md. -/
def lockLoad (s : State) (k : Fin 66) (l : LockSeq) (a size : Nat) : Nat × State :=
  let s := if k.val < 64 then s else s.dropData k a true
  let v := natLE ((List.range size).map fun i => s.lockByte l (a + i))
  let w := a / 4 * 4
  let reserve : LockSeq → LockSeq := fun q => if q.reserved.contains w then q else { q with reserved := w :: q.reserved }
  (v, s.modCore k fun c => { c with lock := c.lock.map reserve })

/-- The distinct words that a sequence has stored to. -/
def lockWords (l : List (Nat × Byte)) : List Nat := (l.map fun e => e.1 / 4 * 4).eraseDups

/-- The buffered stores of a sequence are written, oldest first, as one write; Canopy's cached copies leave its cache. -/
def lockCommit (s : State) (k : Fin 66) (l : LockSeq) : State :=
  l.stores.reverse.foldl (fun (s : State) (e : Nat × Byte) =>
    let s := if k.val < 64 then s.noteStale k e.1 else s.dropData k e.1 true
    s.sharedWrite (some k) e.1 [e.2]) s

/-! ### Registers as a core reads and writes them -/

/-- A read of the register has a side effect: RC, pop or FIFO (R413). -/
def readActs (off : Nat) : Bool :=
  match regRow off with
  | none => false
  | some r =>
    r.fields.any (fun f => decide (f.acc = .rc)) || [0x3054, 0x705C, 0x707C, R.PS_LOG_DATA.off].contains off ||
      [R.SPC_RX, R.ADC_CAL_DATA, R.USTEP_TBL_DATA, R.FB_PROF_DATA, R.FB_SEG_DATA].any fun q => q.covers off

/-- The requester that a core is. -/
def coreRequester (k : Fin 66) : Requester :=
  if k.val < 64 then .tile k.val else if k = canopy1 then .canopyB else .canopyA

/-- A register write by a core; steward mode writes locked fields (R398, R540). -/
def coreRegWrite (s : State) (k : Fin 66) (off : Nat) (v : Word) : State :=
  if off = R.DBG_CMD.off then s.writeDbgCmd false v
  else s.regWrite (coreRequester k) (decide (64 ≤ k.val) && decide (coreMode (s.core k) = 2)) off v

/-- A read of the tile interface, or of the Canopy interface (R399, R542). -/
def ifRead (s : State) (k : Fin 66) (off : Nat) : Word × State :=
  if h : k.val < 64 then s.tiRead ⟨k.val, h⟩ off
  else
    match off with
    | 0 => ((s.core k).irqPend.setWidth 32, s)
    | 4 => ((s.core k).irqEn.setWidth 32, s)
    | _ => (0, s)

/-- A write of the tile interface, or of the Canopy interface: a pending software line is set by writes of 1 to both registers
(R404, R542). -/
def ifWrite (s : State) (k : Fin 66) (off : Nat) (v : Word) : State :=
  if h : k.val < 64 then s.tiWrite ⟨k.val, h⟩ off v
  else
    match off with
    | 0 =>
      let en := (s.core k).irqEn
      s.modCore k fun c => { c with irqPend :=
        (c.irqPend &&& ~~~(v.setWidth 16)) ||| (v.setWidth 16 &&& en &&& ~~~c.irqPend &&& 0xFE00#16) }
    | 4 => s.modCore k fun c => { c with irqEn := v.setWidth 16 }
    | _ => s

end State
end Sys2Proof.Machine
end

