-- ==== Sys2Proof/Machine/HikerRun.lean ====
section
/-! DEFINITION. One instruction of a Hiker core: its fetch, the exceptions of its position, its own effect, and what follows it
(13_hiker_cores.md R402 to R416, R426, 14_hiker_instructions.md R427 to R446, 23_dawn_and_debug.md R669). The operand word of a
row is the word fetched: a word that the core does not fetch next, or that is another row's, changes nothing. -/

namespace Sys2Proof.Machine

/-- What an instruction's own effect comes to. -/
inductive Eff where
  /-- It completed; the pc still stands at it. -/
  | done (s : State)
  /-- It completed and has placed the pc. -/
  | jumped (s : State)
  /-- It raises an exception, with its fault address. -/
  | trap (cause : Nat) (bad : Option Word)
  /-- SPC0 fails to complete its load at this offset of the XIP window (R402). -/
  | xip (off : Nat)
  /-- Its load waits for a line of the XIP window (R644). -/
  | stall
  /-- SYSCALL or BREAK with its code (R443). -/
  | call (cause code : Nat)
  /-- BREAK while the debugger steps the core (R443). -/
  | hold
  /-- The 17th word of store of a locked sequence (R415). -/
  | overflow

/-- A number of a general register. -/
def regIx (r : BitVec 4) : Fin 16 := ⟨r.toNat, r.isLt⟩

/-- The flags of a core. -/
def flagsNow (c : Core) : Nzcv := Nzcv.of c.status

/-- The core with these flags (R431). -/
def withFlags (c : Core) (f : Nzcv) : Core := { c with status := insertBits c.status 3 0 f.bits.toNat }

/-- A result and, when `set` holds, its flags (R431). -/
def putResult (c : Core) (gd : BitVec 4) (r : Word × Nzcv) (set : Bool) : Core :=
  let c := State.writeG c (regIx gd) r.1
  if set then withFlags c r.2 else c

/-- ILLEGAL in a delay slot (R406) and, loop registers aside, at the end of an active loop (R411). -/
def transfers : HInstr → Bool
  | .b _ _ => true
  | .j _ => true
  | .jal _ => true
  | .jr _ => true
  | .jalr _ => true
  | .loopImm _ _ _ => true
  | .loopReg _ _ _ => true
  | .eret => true
  | .mts s _ => decide (s = 0)
  | .lock => true
  | .unlock _ => true
  | _ => false

/-- ILLEGAL in a delay slot (R406). -/
def slotForbids : HInstr → Bool
  | .syscall _ => true
  | .brk _ => true
  | i => transfers i

/-- The pc stands at the end of an active loop level. -/
def atLoopEnd (c : Core) : Bool :=
  (State.loopOn c 0 && decide (c.pc = c.loops[0].le)) || (State.loopOn c 1 && decide (c.pc = c.loops[1].le))

/-- The instruction is forbidden where it stands (R406, R411). Log: DEDUCED notes/assumptions/94.md. -/
def misplaced (c : Core) (i : HInstr) : Bool :=
  (c.delay.isSome && slotForbids i) || (atLoopEnd c && (c.delay.isSome || transfers i))

/-- Bytes of a load. -/
def LoadOp.size : LoadOp → Nat
  | .ldw => 4 | .ldh => 2 | .ldhu => 2 | .ldb => 1 | .ldbu => 1

/-- A loaded value, extended to the word (R437). -/
def LoadOp.extend (op : LoadOp) (v : Nat) : Word :=
  match op with
  | .ldh => (BitVec.ofNat 16 v).signExtend 32
  | .ldb => (BitVec.ofNat 8 v).signExtend 32
  | _ => BitVec.ofNat 32 v

/-- Bytes of a store. -/
def StoreOp.size : StoreOp → Nat
  | .stw => 4 | .sth => 2 | .stb => 1

namespace State

/-- The address of a load or store: ga + sext(off18) (R437). -/
def memAddr (c : Core) (ga : BitVec 4) (off : BitVec 18) : Word := readG c (regIx ga) + off.signExtend 32

/-! ### Results in registers (R433 to R436) -/

/-- A two-source function. -/
def aluEff (op : AluOp) (gd ga gb : BitVec 4) (f : Bool) (k : Fin 66) (s : State) : Eff :=
  .done (s.modCore k fun c => putResult c gd (aluFlags op (readG c (regIx ga)) (readG c (regIx gb)) (flagsNow c)) f)

/-- A one-source function. -/
def alu1Eff (op : Alu1Op) (gd ga : BitVec 4) (f : Bool) (k : Fin 66) (s : State) : Eff :=
  .done (s.modCore k fun c =>
    let r := alu1Of op (readG c (regIx ga))
    putResult c gd (r, nzOf r (flagsNow c)) f)

/-- SEL. -/
def selEff (gd ga gb : BitVec 4) (f : Bool) (cond : BitVec 4) (k : Fin 66) (s : State) : Eff :=
  .done (s.modCore k fun c =>
    let r := if Machine.condHolds cond (flagsNow c) then readG c (regIx ga) else readG c (regIx gb)
    putResult c gd (r, nzOf r (flagsNow c)) f)

/-- The multiply and divide group: DIVIDE for a divisor of 0 (R435). -/
def mulEff (op : MulOp) (gd ga gb : BitVec 4) (f : Bool) (k : Fin 66) (s : State) : Eff :=
  match mulOf op (readG (s.core k) (regIx ga)) (readG (s.core k) (regIx gb)) with
  | none => .trap 9 none
  | some r => .done (s.modCore k fun c => putResult c gd (r, nzOf r (flagsNow c)) f)

/-- ADDI, ANDI, ORI, XORI. -/
def immEff (op : ImmOp) (gd ga : BitVec 4) (f : Bool) (v : BitVec 16) (k : Fin 66) (s : State) : Eff :=
  .done (s.modCore k fun c => putResult c gd (immFlags op (readG c (regIx ga)) v (flagsNow c)) f)

/-- LUI. -/
def luiEff (gd : BitVec 4) (v : BitVec 16) (k : Fin 66) (s : State) : Eff :=
  .done (s.modCore k fun c => writeG c (regIx gd) (BitVec.ofNat 32 (v.toNat * 2 ^ 16)))

/-- CMPI. -/
def cmpiEff (ga : BitVec 4) (v : BitVec 16) (k : Fin 66) (s : State) : Eff :=
  .done (s.modCore k fun c => withFlags c (addFlags (readG c (regIx ga)) (~~~(v.signExtend 32)) true).2)

/-- The shift-immediate group. -/
def shiftEff (op : ShiftOp) (gd ga : BitVec 4) (f : Bool) (n : BitVec 5) (k : Fin 66) (s : State) : Eff :=
  .done (s.modCore k fun c => putResult c gd (shiftFlags op (readG c (regIx ga)) n (flagsNow c)) f)

/-! ### Loads and stores (R437, R397, R398, R413, R414) -/

/-- The value that a place gives a load, none for a line of the XIP window that has still to be read. -/
def loadFrom (s : State) (k : Fin 66) (p : Place) (size : Nat) : Option (Nat × State) :=
  match p with
  | .ram a =>
    match (s.core k).lock with
    | some l => some (s.lockLoad k l a size)
    | none =>
      let r := if k.val < 64 then (natLE (s.memBytes a size), s) else s.cacheLoad k a size
      some (bufferedLoad (s.core k) a size r.1, r.2)
  | .rom a => some (if k.val < 64 then (natLE (s.memBytes a size), s) else s.cacheLoad k a size)
  | .reg off =>
    let r := (s.leaveAll k).regRead (coreRequester k) off
    some (r.1.toNat, r.2)
  | .ti off =>
    let r := (s.leaveAll k).ifRead k off
    some (r.1.toNat, r.2)
  | .xip o => (lineOf (s.core k).fetchBuf (xipNor + o)).map fun l => (fieldLE l.bytes (o % 32) size, s)

/-- A load inside a locked sequence of a register whose read has an effect (R413). -/
def lockForbidsLoad (c : Core) (p : Place) : Bool :=
  match p with
  | .reg off => c.lock.isSome && readActs off
  | _ => false

/-- A load. -/
def loadEff (op : LoadOp) (gd ga : BitVec 4) (off : BitVec 18) (k : Fin 66) (s : State) : Eff :=
  let a := memAddr (s.core k) ga off
  if a.toNat % op.size ≠ 0 then .trap 6 (some a)
  else
    match s.place k false a.toNat with
    | none => .trap 4 (some a)
    | some p =>
      if ¬ placeTakes p op.size ∨ lockForbidsLoad (s.core k) p then .trap 4 (some a)
      else
        match s.loadFrom k p op.size with
        | some r => .done (r.2.modCore k fun c => writeG c (regIx gd) (op.extend r.1))
        | none => if s.xipReadable (a.toNat - xipNor) then .stall else .xip (a.toNat - xipNor)

/-- The core after the instruction at its pc (R410, R438). -/
def goOn (s : State) (k : Fin 66) : State := s.modCore k fun c => complete' c c.loops

/-- A store goes to its place: memory through the store buffer, a register after every earlier store (R445). Log: DESIGN CHOICE
notes/assumptions/105.md. -/
def storeTo (s : State) (k : Fin 66) (p : Place) (b : List Byte) : State :=
  match p with
  | .ram a => s.bufferStore k a b
  | .rom _ => s
  | .reg off => (s.leaveAll k).coreRegWrite k off (BitVec.ofNat 32 (natLE b))
  | .ti off => (s.leaveAll k).ifWrite k off (BitVec.ofNat 32 (natLE b))
  | .xip _ => s

/-- A store inside a locked sequence: into its buffer (R412 to R415). -/
def storeLocked (l : LockSeq) (p : Place) (b : List Byte) (a : Word) (k : Fin 66) (s : State) : Eff :=
  match p with
  | .ram m =>
    let stores := (b.zipIdx.map fun x => (m + x.2, x.1)).reverse ++ l.stores
    if 16 < (lockWords stores).length then .overflow
    else .done (s.modCore k fun c => { c with lock := some { l with stores := stores } })
  | _ => .trap 5 (some a)

/-- A store. -/
def storeEff (op : StoreOp) (gs ga : BitVec 4) (off : BitVec 18) (k : Fin 66) (s : State) : Eff :=
  let a := memAddr (s.core k) ga off
  let b := bytesLE op.size (readG (s.core k) (regIx gs)).toNat
  if a.toNat % op.size ≠ 0 then .trap 6 (some a)
  else
    match s.place k true a.toNat with
    | none => .trap 5 (some a)
    | some p =>
      if ¬ placeTakes p op.size then .trap 5 (some a)
      else
        match (s.core k).lock with
        | some l => storeLocked l p b a k s
        | none => .jumped ((s.goOn k).storeTo k p b)

/-! ### Control transfer (R438, R439) -/

/-- A branch or jump: its delay slot is next, then `dst` (R407, R438). -/
def transferTo (c : Core) (dst : Word) : Core := { c with delay := some (c.pc, dst), pc := c.pc + 4 }

/-- B. -/
def branchEff (cond : BitVec 4) (off : BitVec 22) (k : Fin 66) (s : State) : Eff :=
  .jumped (s.modCore k fun c =>
    transferTo c (if Machine.condHolds cond (flagsNow c) then c.pc + off.signExtend 32 * 4 else c.pc + 8))

/-- J and JAL. -/
def jumpEff (off : BitVec 26) (link : Bool) (k : Fin 66) (s : State) : Eff :=
  .jumped (s.modCore k fun c =>
    let c' := transferTo c (c.pc + off.signExtend 32 * 4)
    if link then writeG c' 15 (c.pc + 8) else c')

/-- JR and JALR. -/
def jumpRegEff (ga : BitVec 4) (link : Bool) (k : Fin 66) (s : State) : Eff :=
  .jumped (s.modCore k fun c =>
    let c' := transferTo c (readG c (regIx ga))
    if link then writeG c' 15 (c.pc + 8) else c')

/-- A level set up by LOOP, or its body skipped (R409). -/
def loopSet (c : Core) (i : Fin 2) (count le : Word) : Core :=
  let c' := { c with loops := c.loops.set i { ls := c.pc + 4, le := le, lc := count } }
  if count = 0 then { c' with pc := le + 4 } else { setLoop c' i true with pc := c.pc + 4 }

/-- LOOP with its count (R439). -/
def loopEff (level : Bool) (count : Core → Word) (end_ : BitVec 12) (k : Fin 66) (s : State) : Eff :=
  let c := s.core k
  let le := c.pc + BitVec.ofNat 32 (4 * end_.toNat)
  if end_ = 0 ∨ loopOn c 1 ∨ (¬ level ∧ loopOn c 0) ∨ (level ∧ loopOn c 0 ∧ c.loops[0].le.toNat < le.toNat) then .trap 1 none
  else .jumped (s.modCore k fun c => loopSet c (if level then 1 else 0) (count c) le)

/-! ### The system group (R440 to R443) -/

/-- The special registers that a script reads (R393); all of them but STATUS, CYCLE and CORE_ID it also writes.
Log: DEDUCED notes/assumptions/91.md. -/
def scriptReg (num : Nat) : Bool := num = 0 || (decide (6 ≤ num) && decide (num ≤ 11)) || num = 14 || num = 15

/-- The exception of an access to special register `num` by its number and the mode, 0 for none: 16 to 31 are Canopy's, in
steward mode alone (R393, R440, R541). Log: DEDUCED notes/assumptions/90.md. -/
def specialTrap (c : Core) (k : Fin 66) (num : Nat) : Nat :=
  if 16 ≤ num then (if k.val < 64 then 1 else if coreMode c = 2 then 0 else 2)
  else if scriptReg num ∨ privileged k c then 0
  else 2

/-- MFS. Log: DEDUCED notes/assumptions/91.md. -/
def mfsEff (gd : BitVec 4) (num : BitVec 5) (k : Fin 66) (s : State) : Eff :=
  let t := specialTrap (s.core k) k num.toNat
  if t ≠ 0 then .trap t none
  else
    match s.readSpecial k num.toNat with
    | none => .trap 1 none
    | some r => .done (r.2.modCore k fun c => writeG c (regIx gd) r.1)

/-- The fields whose change makes a mode change: mode, ie, lp1, lp0 (R408). -/
def modeFields : Word := 0xEC000000#32

/-- MTS to STATUS (R395, R408). -/
def mtsStatus (v : Word) (k : Fin 66) (s : State) : Eff :=
  let c := s.core k
  let m := bits v.toNat 31 30
  if coreMode c = 0 then .done (s.modCore k fun c => { c with status := insertBits c.status 3 0 v.toNat })
  else if m = 3 ∨ coreMode c < m ∨ (m = 2 ∧ k.val < 64) then .trap 2 none
  else
    .jumped (s.modCore k fun c =>
      let new := v &&& statusMask
      { c with status := new, shadow := decide ((new ^^^ c.status) &&& modeFields ≠ 0), pc := c.pc + 4 })

/-- MTS. -/
def mtsEff (num : BitVec 5) (ga : BitVec 4) (k : Fin 66) (s : State) : Eff :=
  let v := readG (s.core k) (regIx ga)
  if num = 0 then mtsStatus v k s
  else if num = 14 ∨ num = 15 then .trap 1 none
  else
    let t := specialTrap (s.core k) k num.toNat
    if t ≠ 0 then .trap t none
    else
      match s.writeSpecial k num.toNat v with
      | none => .trap 1 none
      | some s => .done s

/-- ERET (R403, R408). Log: DEDUCED notes/assumptions/90.md. -/
def eretEff (k : Fin 66) (s : State) : Eff :=
  if ¬ privileged k (s.core k) then .trap 2 none
  else .jumped (s.modCore k fun c => { c with status := c.estatus, pc := c.epc, shadow := true })

/-- BREAK: an exception, or a halt while the debugger holds the core (R443). Log: DEDUCED notes/assumptions/94.md. -/
def breakEff (code : BitVec 12) (k : Fin 66) (s : State) : Eff :=
  if (s.core k).stepping then .hold else .call 8 code.toNat

/-- LOCK: earlier stores take effect first (R412, R445). -/
def lockEff (k : Fin 66) (s : State) : Eff :=
  if (s.core k).lock.isSome then .trap 1 none
  else .done ((s.leaveAll k).modCore k fun c => { c with lock := some { lockPc := c.pc, count := 1, stores := [], reserved := [], broken := false } })

/-- UNLOCK (R412). -/
def unlockEff (gd : BitVec 4) (k : Fin 66) (s : State) : Eff :=
  match (s.core k).lock with
  | none => .trap 1 none
  | some l =>
    let s' := if l.broken then s else s.lockCommit k l
    .done (s'.modCore k fun c => writeG { c with lock := none } (regIx gd) (if l.broken then 0 else 1))

/-- SYNC: every earlier store takes effect; inside a locked sequence no effect (R445, R446, R450). -/
def syncOf (s : State) (k : Fin 66) : State :=
  if (s.core k).lock.isSome then s else (s.leaveAll k).modCore k fun c => { c with stale := [] }

/-- SYNC. -/
def syncEff (k : Fin 66) (s : State) : Eff := .done (s.syncOf k)

/-- A pending line ends the wait; with ie set the interrupt is taken (R442). -/
def waitEnds (s : State) (k : Fin 66) : State :=
  let c := s.core k
  if ¬ c.waiting ∨ readyLines c = 0 then s
  else if c.status.getLsbD 29 ∧ ¬ c.stepping then s.takeInterrupt k
  else s.setCore k (endWait c)

/-- WAIT (R442). -/
def waitEff (k : Fin 66) (s : State) : Eff :=
  if (s.core k).lock.isSome then .trap 1 none
  else .jumped ((s.modCore k fun c => { c with waiting := true }).waitEnds k)

/-- A data cache operation on Canopy (R441); on a tile core it acts as SYNC. -/
def dataCache (s : State) (k : Fin 66) (f : State → State) : State :=
  if k.val < 64 then s.syncOf k
  else if (s.core k).lock.isSome then s
  else f (s.leaveAll k)

/-- The effect of a cache operation at address `a` (R441). -/
def cacheAct (op : CacheOp) (a : Nat) (k : Fin 66) (s : State) : State :=
  match op with
  | .iinvAll => s.modCore k fun c => { c with fetchBuf := [] }
  | .iinvLine => s.modCore k fun c => { c with fetchBuf := c.fetchBuf.filter fun l => decide (l.addr ≠ a / 32 * 32) }
  | .dcleanLine => s.dataCache k fun s => s.cleanData k a
  | .dinvLine => s.dataCache k fun s => s.dropData k a false
  | .dcleanAll => s.dataCache k fun s => s.cleanAll k

/-- CACHE. -/
def cacheEff (op : CacheOp) (ga : BitVec 4) (k : Fin 66) (s : State) : Eff :=
  if ¬ privileged k (s.core k) then .trap 2 none
  else .done (cacheAct op (readG (s.core k) (regIx ga)).toNat k s)

/-! ### What follows an instruction -/

/-- A deferred halt or stop, or the end of a debugger's step, takes effect at an allowed boundary (R405, R416, R669). -/
def settle (s : State) (k : Fin 66) : State :=
  let c := s.core k
  if ¬ s.coreRuns k ∨ c.waiting ∨ ¬ atBoundary c then s
  else
    match c.deferred with
    | some h => if t : k.val < 64 then s.takeStop ⟨k.val, t⟩ h else s.takeCanopyHalt k
    | none =>
      if ¬ c.stepping then s
      else if t : k.val < 64 then s.takeStop ⟨k.val, t⟩ true
      else (s.modCore k fun c => { c with stepping := false }).putCanopyHalted k true

/-- The open sequence is discarded, and lock_broken sets (R416). Log: DEDUCED notes/assumptions/94.md. -/
def discardLock (s : State) (k : Fin 66) : State :=
  let s := s.modCore k fun c => { c with lock := none }
  if k.val < 64 then s.setFlag R.HIKER_STATUS_lock_broken true k else s

/-- The limits of a sequence are exceeded: LOCK_OVERFLOW, or with a halt or stop deferred the sequence is discarded and the
core stands at its LOCK (R415, R416). Log: DEDUCED notes/assumptions/94.md. -/
def lockOverflow (s : State) (k : Fin 66) : State :=
  let c := s.core k
  match c.lock with
  | none => s
  | some l =>
    if c.deferred.isSome then (s.discardLock k).modCore k fun c => { c with pc := l.lockPc, delay := none, shadow := false }
    else s.raise k 0x0A none

/-- SYSCALL or BREAK completes and raises its exception; in a locked sequence the exception aborts it (R410, R440, R443).
Log: DEDUCED notes/assumptions/94.md. -/
def callExc (s : State) (k : Fin 66) (cause code : Nat) : State :=
  let bad := some (BitVec.ofNat 32 code)
  if (s.core k).lock.isSome then s.raise k cause bad
  else
    let s := s.goOn k
    s.takeExc k { cause := cause, epc := (s.core k).pc, ds := false, bad := bad, line := 0 }

/-- A BREAK of a stepped core halts it at the BREAK (R443); an open sequence is discarded.
Log: DEDUCED notes/assumptions/94.md. -/
def breakHold (s : State) (k : Fin 66) : State :=
  let s := if (s.core k).lock.isSome then s.discardLock k else s
  if t : k.val < 64 then s.takeStop ⟨k.val, t⟩ true
  else (s.modCore k fun c => { c with stepping := false }).putCanopyHalted k true

/-- The outcome of an instruction on the machine `s` before its effect. -/
def finishEff (s : State) (k : Fin 66) (e : Eff) : State :=
  match e with
  | .done t => t.modCore k fun c => complete' c (s.core k).loops
  | .jumped t => t
  | .trap cause bad => s.raise k cause bad
  | .xip off => s.xipError k off
  | .stall => s
  | .call cause code => s.callExc k cause code
  | .hold => s.breakHold k
  | .overflow => s.lockOverflow k

/-- The 65th instruction of a sequence: exceptions of decode and address come first (R415, R426).
Log: DEDUCED notes/assumptions/94.md. -/
def overCount (c : Core) (e : Eff) : Eff :=
  match c.lock with
  | none => e
  | some l =>
    if l.count ≤ 64 then e
    else
      match e with
      | .trap cause bad => if cause ≤ 6 then .trap cause bad else .overflow
      | _ => .overflow

/-- The core at the effect of its next instruction: the shadow is over, a sequence counts it.
Log: DEDUCED notes/assumptions/94.md. -/
def counted (c : Core) : Core :=
  { c with shadow := false, lock := c.lock.map fun l => { l with count := l.count + 1 } }

/-- The instruction `i` runs with its effect `f`. A load that waits leaves the machine as it was.
Log: DEDUCED notes/assumptions/93.md. -/
def runInstr (s : State) (k : Fin 66) (i : HInstr) (f : Fin 66 → State → Eff) : State :=
  if misplaced (s.core k) i then s.raise k 1 none
  else
    let t := s.modCore k counted
    match overCount (t.core k) (f k t) with
    | .stall => s
    | e => t.finishEff k e

/-- The word fetched runs, where `row` gives its effect; a word of no instruction raises ILLEGAL (R428).
Log: DEDUCED notes/assumptions/93.md. -/
def runWord (s : State) (k : Fin 66) (w : Word) (row : HInstr → Option (Fin 66 → State → Eff)) : State :=
  match HInstr.decode w with
  | none => ((s.cacheFetch k (s.core k).pc.toNat).raise k 1 none).settle k
  | some i =>
    match row i with
    | none => s
    | some f => ((s.cacheFetch k (s.core k).pc.toNat).runInstr k i f).settle k

/-- Core `k` runs its next instruction, which the row runs when it fetches `w`. Log: DEDUCED notes/assumptions/93.md. -/
def runHiker (s : State) (k : Fin 66) (w : Word) (row : HInstr → Option (Fin 66 → State → Eff)) : State :=
  if ¬ s.coreRuns k then s
  else
    let s := s.waitEnds k
    let pc := (s.core k).pc
    if (s.core k).waiting then s
    else if ¬ s.mayFetchAt k pc.toNat then (s.raise k 3 (some pc)).settle k
    else
      match s.fetchWords k pc.toNat with
      | none => if s.xipReadable (pc.toNat - xipNor) then s else (s.xipError k (pc.toNat - xipNor)).settle k
      | some ws => if ws.contains w then s.runWord k w row else s

end State
end Sys2Proof.Machine
end

