-- ==== Sys2Proof/Machine/HikerInstr.lean ====
section
/-! DEFINITION. The rows of the Hiker instruction set: each is one instruction of a core (14_hiker_instructions.md). -/

namespace Sys2Proof.Machine
open State

/-- The effect of an ADD (R433). -/
def addRow : HInstr → Option (Fin 66 → State → Eff)
  | .alu .add gd ga gb f => some (aluEff .add gd ga gb f)
  | _ => none

/-- ADD (R433). -/
def execAdd (k : Fin 66) (w : Word) (s : State) : Res := .next (s.runHiker k w addRow)

/-- The effect of an ADC (R433). -/
def adcRow : HInstr → Option (Fin 66 → State → Eff)
  | .alu .adc gd ga gb f => some (aluEff .adc gd ga gb f)
  | _ => none

/-- ADC (R433). -/
def execAdc (k : Fin 66) (w : Word) (s : State) : Res := .next (s.runHiker k w adcRow)

/-- The effect of a SUB (R433). -/
def subRow : HInstr → Option (Fin 66 → State → Eff)
  | .alu .sub gd ga gb f => some (aluEff .sub gd ga gb f)
  | _ => none

/-- SUB (R433). -/
def execSub (k : Fin 66) (w : Word) (s : State) : Res := .next (s.runHiker k w subRow)

/-- The effect of a SBC (R433). -/
def sbcRow : HInstr → Option (Fin 66 → State → Eff)
  | .alu .sbc gd ga gb f => some (aluEff .sbc gd ga gb f)
  | _ => none

/-- SBC (R433). -/
def execSbc (k : Fin 66) (w : Word) (s : State) : Res := .next (s.runHiker k w sbcRow)

/-- The effect of an AND (R433). -/
def andRow : HInstr → Option (Fin 66 → State → Eff)
  | .alu .and gd ga gb f => some (aluEff .and gd ga gb f)
  | _ => none

/-- AND (R433). -/
def execAnd (k : Fin 66) (w : Word) (s : State) : Res := .next (s.runHiker k w andRow)

/-- The effect of an OR (R433). -/
def orRow : HInstr → Option (Fin 66 → State → Eff)
  | .alu .or gd ga gb f => some (aluEff .or gd ga gb f)
  | _ => none

/-- OR (R433). -/
def execOr (k : Fin 66) (w : Word) (s : State) : Res := .next (s.runHiker k w orRow)

/-- The effect of a XOR (R433). -/
def xorRow : HInstr → Option (Fin 66 → State → Eff)
  | .alu .xor gd ga gb f => some (aluEff .xor gd ga gb f)
  | _ => none

/-- XOR (R433). -/
def execXor (k : Fin 66) (w : Word) (s : State) : Res := .next (s.runHiker k w xorRow)

/-- The effect of an ANDN (R433). -/
def andnRow : HInstr → Option (Fin 66 → State → Eff)
  | .alu .andn gd ga gb f => some (aluEff .andn gd ga gb f)
  | _ => none

/-- ANDN (R433). -/
def execAndn (k : Fin 66) (w : Word) (s : State) : Res := .next (s.runHiker k w andnRow)

/-- The effect of a SHL (R433). -/
def shlRow : HInstr → Option (Fin 66 → State → Eff)
  | .alu .shl gd ga gb f => some (aluEff .shl gd ga gb f)
  | _ => none

/-- SHL (R433). -/
def execShl (k : Fin 66) (w : Word) (s : State) : Res := .next (s.runHiker k w shlRow)

/-- The effect of a SHR (R433). -/
def shrRow : HInstr → Option (Fin 66 → State → Eff)
  | .alu .shr gd ga gb f => some (aluEff .shr gd ga gb f)
  | _ => none

/-- SHR (R433). -/
def execShr (k : Fin 66) (w : Word) (s : State) : Res := .next (s.runHiker k w shrRow)

/-- The effect of a SAR (R433). -/
def sarRow : HInstr → Option (Fin 66 → State → Eff)
  | .alu .sar gd ga gb f => some (aluEff .sar gd ga gb f)
  | _ => none

/-- SAR (R433). -/
def execSar (k : Fin 66) (w : Word) (s : State) : Res := .next (s.runHiker k w sarRow)

/-- The effect of a ROR (R433). -/
def rorRow : HInstr → Option (Fin 66 → State → Eff)
  | .alu .ror gd ga gb f => some (aluEff .ror gd ga gb f)
  | _ => none

/-- ROR (R433). -/
def execRor (k : Fin 66) (w : Word) (s : State) : Res := .next (s.runHiker k w rorRow)

/-- The effect of a MIN (R433). -/
def minRow : HInstr → Option (Fin 66 → State → Eff)
  | .alu .min gd ga gb f => some (aluEff .min gd ga gb f)
  | _ => none

/-- MIN (R433). -/
def execMin (k : Fin 66) (w : Word) (s : State) : Res := .next (s.runHiker k w minRow)

/-- The effect of a MAX (R433). -/
def maxRow : HInstr → Option (Fin 66 → State → Eff)
  | .alu .max gd ga gb f => some (aluEff .max gd ga gb f)
  | _ => none

/-- MAX (R433). -/
def execMax (k : Fin 66) (w : Word) (s : State) : Res := .next (s.runHiker k w maxRow)

/-- The effect of a MINU (R433). -/
def minuRow : HInstr → Option (Fin 66 → State → Eff)
  | .alu .minu gd ga gb f => some (aluEff .minu gd ga gb f)
  | _ => none

/-- MINU (R433). -/
def execMinu (k : Fin 66) (w : Word) (s : State) : Res := .next (s.runHiker k w minuRow)

/-- The effect of a MAXU (R433). -/
def maxuRow : HInstr → Option (Fin 66 → State → Eff)
  | .alu .maxu gd ga gb f => some (aluEff .maxu gd ga gb f)
  | _ => none

/-- MAXU (R433). -/
def execMaxu (k : Fin 66) (w : Word) (s : State) : Res := .next (s.runHiker k w maxuRow)

/-- The effect of a CLZ (R433). -/
def clzRow : HInstr → Option (Fin 66 → State → Eff)
  | .alu1 .clz gd ga f => some (alu1Eff .clz gd ga f)
  | _ => none

/-- CLZ (R433). -/
def execClz (k : Fin 66) (w : Word) (s : State) : Res := .next (s.runHiker k w clzRow)

/-- The effect of a SEXTB (R433). -/
def sextbRow : HInstr → Option (Fin 66 → State → Eff)
  | .alu1 .sextb gd ga f => some (alu1Eff .sextb gd ga f)
  | _ => none

/-- SEXTB (R433). -/
def execSextb (k : Fin 66) (w : Word) (s : State) : Res := .next (s.runHiker k w sextbRow)

/-- The effect of a SEXTH (R433). -/
def sexthRow : HInstr → Option (Fin 66 → State → Eff)
  | .alu1 .sexth gd ga f => some (alu1Eff .sexth gd ga f)
  | _ => none

/-- SEXTH (R433). -/
def execSexth (k : Fin 66) (w : Word) (s : State) : Res := .next (s.runHiker k w sexthRow)

/-- The effect of a SEL (R433). -/
def selRow : HInstr → Option (Fin 66 → State → Eff)
  | .sel gd ga gb f cond => some (selEff gd ga gb f cond)
  | _ => none

/-- SEL (R433). -/
def execSel (k : Fin 66) (w : Word) (s : State) : Res := .next (s.runHiker k w selRow)

/-- The effect of a SLT (R433). -/
def sltRow : HInstr → Option (Fin 66 → State → Eff)
  | .alu .slt gd ga gb f => some (aluEff .slt gd ga gb f)
  | _ => none

/-- SLT (R433). -/
def execSlt (k : Fin 66) (w : Word) (s : State) : Res := .next (s.runHiker k w sltRow)

/-- The effect of a SLTU (R433). -/
def sltuRow : HInstr → Option (Fin 66 → State → Eff)
  | .alu .sltu gd ga gb f => some (aluEff .sltu gd ga gb f)
  | _ => none

/-- SLTU (R433). -/
def execSltu (k : Fin 66) (w : Word) (s : State) : Res := .next (s.runHiker k w sltuRow)

/-- The effect of a MUL (R435). -/
def mulRow : HInstr → Option (Fin 66 → State → Eff)
  | .mul .mul gd ga gb f => some (mulEff .mul gd ga gb f)
  | _ => none

/-- MUL (R435). -/
def execMul (k : Fin 66) (w : Word) (s : State) : Res := .next (s.runHiker k w mulRow)

/-- The effect of a MULH (R435). -/
def mulhRow : HInstr → Option (Fin 66 → State → Eff)
  | .mul .mulh gd ga gb f => some (mulEff .mulh gd ga gb f)
  | _ => none

/-- MULH (R435). -/
def execMulh (k : Fin 66) (w : Word) (s : State) : Res := .next (s.runHiker k w mulhRow)

/-- The effect of a MULHU (R435). -/
def mulhuRow : HInstr → Option (Fin 66 → State → Eff)
  | .mul .mulhu gd ga gb f => some (mulEff .mulhu gd ga gb f)
  | _ => none

/-- MULHU (R435). -/
def execMulhu (k : Fin 66) (w : Word) (s : State) : Res := .next (s.runHiker k w mulhuRow)

/-- The effect of a DIV (R435). -/
def divRow : HInstr → Option (Fin 66 → State → Eff)
  | .mul .div gd ga gb f => some (mulEff .div gd ga gb f)
  | _ => none

/-- DIV (R435). -/
def execDiv (k : Fin 66) (w : Word) (s : State) : Res := .next (s.runHiker k w divRow)

/-- The effect of a DIVU (R435). -/
def divuRow : HInstr → Option (Fin 66 → State → Eff)
  | .mul .divu gd ga gb f => some (mulEff .divu gd ga gb f)
  | _ => none

/-- DIVU (R435). -/
def execDivu (k : Fin 66) (w : Word) (s : State) : Res := .next (s.runHiker k w divuRow)

/-- The effect of a REM (R435). -/
def remRow : HInstr → Option (Fin 66 → State → Eff)
  | .mul .rem gd ga gb f => some (mulEff .rem gd ga gb f)
  | _ => none

/-- REM (R435). -/
def execRem (k : Fin 66) (w : Word) (s : State) : Res := .next (s.runHiker k w remRow)

/-- The effect of a REMU (R435). -/
def remuRow : HInstr → Option (Fin 66 → State → Eff)
  | .mul .remu gd ga gb f => some (mulEff .remu gd ga gb f)
  | _ => none

/-- REMU (R435). -/
def execRemu (k : Fin 66) (w : Word) (s : State) : Res := .next (s.runHiker k w remuRow)

/-- The effect of an ADDI (R436). -/
def addiRow : HInstr → Option (Fin 66 → State → Eff)
  | .imm .addi gd ga f v => some (immEff .addi gd ga f v)
  | _ => none

/-- ADDI (R436). -/
def execAddi (k : Fin 66) (w : Word) (s : State) : Res := .next (s.runHiker k w addiRow)

/-- The effect of an ANDI (R436). -/
def andiRow : HInstr → Option (Fin 66 → State → Eff)
  | .imm .andi gd ga f v => some (immEff .andi gd ga f v)
  | _ => none

/-- ANDI (R436). -/
def execAndi (k : Fin 66) (w : Word) (s : State) : Res := .next (s.runHiker k w andiRow)

/-- The effect of an ORI (R436). -/
def oriRow : HInstr → Option (Fin 66 → State → Eff)
  | .imm .ori gd ga f v => some (immEff .ori gd ga f v)
  | _ => none

/-- ORI (R436). -/
def execOri (k : Fin 66) (w : Word) (s : State) : Res := .next (s.runHiker k w oriRow)

/-- The effect of a XORI (R436). -/
def xoriRow : HInstr → Option (Fin 66 → State → Eff)
  | .imm .xori gd ga f v => some (immEff .xori gd ga f v)
  | _ => none

/-- XORI (R436). -/
def execXori (k : Fin 66) (w : Word) (s : State) : Res := .next (s.runHiker k w xoriRow)

/-- The effect of a LUI (R436). -/
def luiRow : HInstr → Option (Fin 66 → State → Eff)
  | .lui gd v => some (luiEff gd v)
  | _ => none

/-- LUI (R436). -/
def execLui (k : Fin 66) (w : Word) (s : State) : Res := .next (s.runHiker k w luiRow)

/-- The effect of a CMPI (R436). -/
def cmpiRow : HInstr → Option (Fin 66 → State → Eff)
  | .cmpi ga v => some (cmpiEff ga v)
  | _ => none

/-- CMPI (R436). -/
def execCmpi (k : Fin 66) (w : Word) (s : State) : Res := .next (s.runHiker k w cmpiRow)

/-- The effect of a SHLI (R434). -/
def shliRow : HInstr → Option (Fin 66 → State → Eff)
  | .shift .shli gd ga f n => some (shiftEff .shli gd ga f n)
  | _ => none

/-- SHLI (R434). -/
def execShli (k : Fin 66) (w : Word) (s : State) : Res := .next (s.runHiker k w shliRow)

/-- The effect of a SHRI (R434). -/
def shriRow : HInstr → Option (Fin 66 → State → Eff)
  | .shift .shri gd ga f n => some (shiftEff .shri gd ga f n)
  | _ => none

/-- SHRI (R434). -/
def execShri (k : Fin 66) (w : Word) (s : State) : Res := .next (s.runHiker k w shriRow)

/-- The effect of a SARI (R434). -/
def sariRow : HInstr → Option (Fin 66 → State → Eff)
  | .shift .sari gd ga f n => some (shiftEff .sari gd ga f n)
  | _ => none

/-- SARI (R434). -/
def execSari (k : Fin 66) (w : Word) (s : State) : Res := .next (s.runHiker k w sariRow)

/-- The effect of a RORI (R434). -/
def roriRow : HInstr → Option (Fin 66 → State → Eff)
  | .shift .rori gd ga f n => some (shiftEff .rori gd ga f n)
  | _ => none

/-- RORI (R434). -/
def execRori (k : Fin 66) (w : Word) (s : State) : Res := .next (s.runHiker k w roriRow)

/-- The effect of a LDW (R437). -/
def ldwRow : HInstr → Option (Fin 66 → State → Eff)
  | .load .ldw gd ga off => some (loadEff .ldw gd ga off)
  | _ => none

/-- LDW (R437). -/
def execLdw (k : Fin 66) (w : Word) (s : State) : Res := .next (s.runHiker k w ldwRow)

/-- The effect of a LDH (R437). -/
def ldhRow : HInstr → Option (Fin 66 → State → Eff)
  | .load .ldh gd ga off => some (loadEff .ldh gd ga off)
  | _ => none

/-- LDH (R437). -/
def execLdh (k : Fin 66) (w : Word) (s : State) : Res := .next (s.runHiker k w ldhRow)

/-- The effect of a LDHU (R437). -/
def ldhuRow : HInstr → Option (Fin 66 → State → Eff)
  | .load .ldhu gd ga off => some (loadEff .ldhu gd ga off)
  | _ => none

/-- LDHU (R437). -/
def execLdhu (k : Fin 66) (w : Word) (s : State) : Res := .next (s.runHiker k w ldhuRow)

/-- The effect of a LDB (R437). -/
def ldbRow : HInstr → Option (Fin 66 → State → Eff)
  | .load .ldb gd ga off => some (loadEff .ldb gd ga off)
  | _ => none

/-- LDB (R437). -/
def execLdb (k : Fin 66) (w : Word) (s : State) : Res := .next (s.runHiker k w ldbRow)

/-- The effect of a LDBU (R437). -/
def ldbuRow : HInstr → Option (Fin 66 → State → Eff)
  | .load .ldbu gd ga off => some (loadEff .ldbu gd ga off)
  | _ => none

/-- LDBU (R437). -/
def execLdbu (k : Fin 66) (w : Word) (s : State) : Res := .next (s.runHiker k w ldbuRow)

/-- The effect of a STW (R437). -/
def stwRow : HInstr → Option (Fin 66 → State → Eff)
  | .store .stw gs ga off => some (storeEff .stw gs ga off)
  | _ => none

/-- STW (R437). -/
def execStw (k : Fin 66) (w : Word) (s : State) : Res := .next (s.runHiker k w stwRow)

/-- The effect of a STH (R437). -/
def sthRow : HInstr → Option (Fin 66 → State → Eff)
  | .store .sth gs ga off => some (storeEff .sth gs ga off)
  | _ => none

/-- STH (R437). -/
def execSth (k : Fin 66) (w : Word) (s : State) : Res := .next (s.runHiker k w sthRow)

/-- The effect of a STB (R437). -/
def stbRow : HInstr → Option (Fin 66 → State → Eff)
  | .store .stb gs ga off => some (storeEff .stb gs ga off)
  | _ => none

/-- STB (R437). -/
def execStb (k : Fin 66) (w : Word) (s : State) : Res := .next (s.runHiker k w stbRow)

/-- The effect of a B (R438). -/
def bRow : HInstr → Option (Fin 66 → State → Eff)
  | .b cond off => some (branchEff cond off)
  | _ => none

/-- B (R438). -/
def execB (k : Fin 66) (w : Word) (s : State) : Res := .next (s.runHiker k w bRow)

/-- The effect of a J (R438). -/
def jRow : HInstr → Option (Fin 66 → State → Eff)
  | .j off => some (jumpEff off false)
  | _ => none

/-- J (R438). -/
def execJ (k : Fin 66) (w : Word) (s : State) : Res := .next (s.runHiker k w jRow)

/-- The effect of a JAL (R438). -/
def jalRow : HInstr → Option (Fin 66 → State → Eff)
  | .jal off => some (jumpEff off true)
  | _ => none

/-- JAL (R438). -/
def execJal (k : Fin 66) (w : Word) (s : State) : Res := .next (s.runHiker k w jalRow)

/-- The effect of a JR (R438). -/
def jrRow : HInstr → Option (Fin 66 → State → Eff)
  | .jr ga => some (jumpRegEff ga false)
  | _ => none

/-- JR (R438). -/
def execJr (k : Fin 66) (w : Word) (s : State) : Res := .next (s.runHiker k w jrRow)

/-- The effect of a JALR (R438). -/
def jalrRow : HInstr → Option (Fin 66 → State → Eff)
  | .jalr ga => some (jumpRegEff ga true)
  | _ => none

/-- JALR (R438). -/
def execJalr (k : Fin 66) (w : Word) (s : State) : Res := .next (s.runHiker k w jalrRow)

/-- The effect of a LOOP (R439). -/
def loopRow : HInstr → Option (Fin 66 → State → Eff)
  | .loopImm level count end_ => some (loopEff level (fun _ => count.setWidth 32) end_)
  | .loopReg level ga end_ => some (loopEff level (fun c => readG c (regIx ga)) end_)
  | _ => none

/-- LOOP (R439). -/
def execLoop (k : Fin 66) (w : Word) (s : State) : Res := .next (s.runHiker k w loopRow)

/-- The effect of a MFS (R440). -/
def mfsRow : HInstr → Option (Fin 66 → State → Eff)
  | .mfs gd num => some (mfsEff gd num)
  | _ => none

/-- MFS (R440). -/
def execMfs (k : Fin 66) (w : Word) (s : State) : Res := .next (s.runHiker k w mfsRow)

/-- The effect of a MTS (R440). -/
def mtsRow : HInstr → Option (Fin 66 → State → Eff)
  | .mts num ga => some (mtsEff num ga)
  | _ => none

/-- MTS (R440). -/
def execMts (k : Fin 66) (w : Word) (s : State) : Res := .next (s.runHiker k w mtsRow)

/-- The effect of an ERET (R403). -/
def eretRow : HInstr → Option (Fin 66 → State → Eff)
  | .eret => some (eretEff)
  | _ => none

/-- ERET (R403). -/
def execEret (k : Fin 66) (w : Word) (s : State) : Res := .next (s.runHiker k w eretRow)

/-- The effect of a SYSCALL (R443). -/
def syscallRow : HInstr → Option (Fin 66 → State → Eff)
  | .syscall code => some (fun _ _ => .call 7 code.toNat)
  | _ => none

/-- SYSCALL (R443). -/
def execSyscall (k : Fin 66) (w : Word) (s : State) : Res := .next (s.runHiker k w syscallRow)

/-- The effect of a BREAK (R443). -/
def hBreakRow : HInstr → Option (Fin 66 → State → Eff)
  | .brk code => some (breakEff code)
  | _ => none

/-- BREAK (R443). -/
def execHBreak (k : Fin 66) (w : Word) (s : State) : Res := .next (s.runHiker k w hBreakRow)

/-- The effect of a LOCK (R412). -/
def lockRow : HInstr → Option (Fin 66 → State → Eff)
  | .lock => some (lockEff)
  | _ => none

/-- LOCK (R412). -/
def execLock (k : Fin 66) (w : Word) (s : State) : Res := .next (s.runHiker k w lockRow)

/-- The effect of a UNLOCK (R412). -/
def unlockRow : HInstr → Option (Fin 66 → State → Eff)
  | .unlock gd => some (unlockEff gd)
  | _ => none

/-- UNLOCK (R412). -/
def execUnlock (k : Fin 66) (w : Word) (s : State) : Res := .next (s.runHiker k w unlockRow)

/-- The effect of a SYNC (R445). -/
def syncRow : HInstr → Option (Fin 66 → State → Eff)
  | .sync => some (syncEff)
  | _ => none

/-- SYNC (R445). -/
def execSync (k : Fin 66) (w : Word) (s : State) : Res := .next (s.runHiker k w syncRow)

/-- The effect of a WAIT (R442). -/
def waitRow : HInstr → Option (Fin 66 → State → Eff)
  | .wait => some (waitEff)
  | _ => none

/-- WAIT (R442). -/
def execWait (k : Fin 66) (w : Word) (s : State) : Res :=
  .next (if (s.core k).waiting then s.waitEnds k else s.runHiker k w waitRow)

/-- The effect of an IINV_ALL (R441). -/
def iinvAllRow : HInstr → Option (Fin 66 → State → Eff)
  | .cache .iinvAll ga => some (cacheEff .iinvAll ga)
  | _ => none

/-- IINV_ALL (R441). -/
def execIinvAll (k : Fin 66) (w : Word) (s : State) : Res := .next (s.runHiker k w iinvAllRow)

/-- The effect of an IINV_LINE (R441). -/
def iinvLineRow : HInstr → Option (Fin 66 → State → Eff)
  | .cache .iinvLine ga => some (cacheEff .iinvLine ga)
  | _ => none

/-- IINV_LINE (R441). -/
def execIinvLine (k : Fin 66) (w : Word) (s : State) : Res := .next (s.runHiker k w iinvLineRow)

/-- The effect of a DCLEAN_LINE (R441). -/
def dcleanLineRow : HInstr → Option (Fin 66 → State → Eff)
  | .cache .dcleanLine ga => some (cacheEff .dcleanLine ga)
  | _ => none

/-- DCLEAN_LINE (R441). -/
def execDcleanLine (k : Fin 66) (w : Word) (s : State) : Res := .next (s.runHiker k w dcleanLineRow)

/-- The effect of a DINV_LINE (R441). -/
def dinvLineRow : HInstr → Option (Fin 66 → State → Eff)
  | .cache .dinvLine ga => some (cacheEff .dinvLine ga)
  | _ => none

/-- DINV_LINE (R441). -/
def execDinvLine (k : Fin 66) (w : Word) (s : State) : Res := .next (s.runHiker k w dinvLineRow)

/-- The effect of a DCLEAN_ALL (R441). -/
def dcleanAllRow : HInstr → Option (Fin 66 → State → Eff)
  | .cache .dcleanAll ga => some (cacheEff .dcleanAll ga)
  | _ => none

/-- DCLEAN_ALL (R441). -/
def execDcleanAll (k : Fin 66) (w : Word) (s : State) : Res := .next (s.runHiker k w dcleanAllRow)

end Sys2Proof.Machine
end

