-- ==== Sys2Proof/Machine/Spt.lean ====
section
/-! DEFINITION. The SPI target port (22_serial_ports.md R646 to R651). -/

namespace Sys2Proof.Machine
namespace State

/-- Change the target port. -/
def modSpt (s : State) (f : Spt → Spt) : State := { s with spt := f s.spt }

/-- A word read through SPT, with the side effects of a host read: of a register, or through the window. -/
def sptRead (s : State) (off : Nat) : Word × State :=
  if 0x80000 ≤ off then
    match s.windowAddr false (off - 0x80000) with
    | some m => (BitVec.ofNat 32 (s.load m 4), s)
    | none => (0, s)
  else s.regRead .spt off

/-- A word written through SPT as a host write. -/
def sptWrite (s : State) (off : Nat) (v : Word) : State :=
  if 0x80000 ≤ off then s.windowPut false (off - 0x80000) (bytesLE 4 v.toNat) else s.busWrite .spt off v

/-- The words of a read, one for each wait given, from `off`; with `stop` the fetch ends after the first word past word 0
that is late (R648). -/
def sptFetch (s : State) (off : Nat) (first stop : Bool) : List Nat → List Word × State
  | [] => ([], s)
  | w :: l =>
    let r := s.sptRead off
    if stop ∧ ¬ first ∧ 0 < w then ([r.1], r.2)
    else
      let t := r.2.sptFetch (off + 4) false stop l
      (r.1 :: t.1, t.2)

/-- The slots of a native read of `n` words (R648): the first late word `i` is read and not sent, word i − 1 repeats.
Log: DEDUCED notes/assumptions/65.md. -/
def sptSlots (words : List Word) (waits : List Nat) (n : Nat) : List Word × Nat :=
  match (List.range n).find? fun i => decide (0 < i) && decide (0 < waits.getD i 0) with
  | some i => (words.take i ++ List.replicate (n - i) (words.getD (i - 1) 0), i)
  | none => (words, 0x7FF)

/-- The status word of a native read (R648). -/
def sptStatus (underrun bad : Bool) (first : Nat) : Word :=
  BitVec.ofNat 32 (0x5A * 2 ^ 24 + b2n underrun * 2 ^ 23 + b2n bad * 2 ^ 22 + first)

/-- A native read (R648): the words that SPT_SDO sends, whether a slot repeated, and the state after the reads.
Log: DEDUCED notes/assumptions/65.md. -/
def sptNative (s : State) (w : Word) (bad : Bool) (off n : Nat) (waits : List Nat) : List Word × Bool × State :=
  if bad then (~~~w :: List.replicate n 0 ++ [sptStatus false true 0x7FF], false, s)
  else if 64 < waits.headD 0 then
    (List.replicate 64 w ++ ~~~w :: List.replicate n 0 ++ [sptStatus true false 0], true, (s.sptRead off).2)
  else
    let r := s.sptFetch off true true (waits.take n)
    let x := sptSlots r.1 waits n
    (List.replicate (waits.headD 0) w ++ ~~~w :: x.1 ++ [sptStatus (decide (x.2 ≠ 0x7FF)) false x.2], decide (x.2 ≠ 0x7FF), r.2)

/-- A read in THU0800 compatibility (R650). Log: DEDUCED notes/assumptions/65.md. -/
def sptCompat (s : State) (bad : Bool) (off n : Nat) (waits : List Nat) : List Word × Bool × State :=
  if bad then (List.replicate n 0, false, s)
  else
    let r := s.sptFetch off true false (waits.take n)
    ((r.1.zip waits).flatMap (fun e => List.replicate e.2 0xB5B5B5B5#32 ++ [e.1]),
     (waits.take n).tail.any fun t => decide (0 < t), r.2)

/-- A command is bad (R646, R647). Log: DEDUCED notes/assumptions/65.md. -/
def sptBad (s : State) (w : Word) : Bool :=
  decide (s.hostKind ≠ 2) || decide (bits w.toNat 31 30 = 3) || decide (bits w.toNat 1 0 ≠ 0) ||
    decide (0x100000 < bits w.toNat 19 0 + 4 * (bits w.toNat 29 20 + 1))

/-- The words of a write command: held for the frame's end, or performed at once in stream mode (R649).
Log: DEDUCED notes/assumptions/65.md. -/
def sptTake (s : State) (off : Nat) (data : List Word) : State :=
  let l := (List.range data.length).zip data |>.map fun e => (off + 4 * e.1, e.2)
  if s.spt.stream then l.foldl (fun (s : State) (e : Nat × Word) => s.sptWrite e.1 e.2) s
  else s.modSpt fun p => { p with held := p.held ++ l }

/-- A command word with the words after it: `data` of a write, and for a read the slots that each word kept SPT waiting. -/
def sptCommandOf (s : State) (w : Word) (data : List Word) (waits : List Nat) : State :=
  let bad := s.sptBad w
  let off := bits w.toNat 19 0
  let n := bits w.toNat 29 20 + 1
  let s := s.setFlag R.SPT_STATUS_selected true
  let s : State := if bad then s.bump R.SPT_STATUS_bad else s
  match bits w.toNat 31 30 with
  | 1 =>
    let d := data.take n
    let s : State := if bad then s else s.sptTake off d
    s.modSpt fun p => { p with words := p.words + 1 + d.length, whole := decide (d.length = n),
                               out := p.out ++ List.replicate (1 + d.length) 0 }
  | 2 =>
    let r := if s.spt.compat then s.sptCompat bad off n waits else s.sptNative w bad off n waits
    let s : State := if r.2.1 then r.2.2.bump R.SPT_COUNTS_underruns else r.2.2
    s.modSpt fun p => { p with words := p.words + 1 + r.1.length, whole := bad || decide (n ≤ waits.length),
                               out := p.out ++ 0 :: r.1 }
  | _ => s.modSpt fun p => { p with words := p.words + 1, whole := true, out := p.out ++ [0] }

/-- SPT_CS_N rises with `part` bits of an unfinished word (R649); SPT_CFG takes effect (R651). -/
def sptDeselectOf (s : State) (part : Nat) : State :=
  let p := s.spt
  let s := (s.setFlag R.SPT_STATUS_selected false).modSpt fun p => { p with held := [], words := 0, whole := true, out := [] }
  let s : State :=
    if p.stream then (if part = 0 then s else s.bump R.SPT_COUNTS_partial)
    else if part = 0 ∧ p.whole ∧ p.words ≤ 1032 then p.held.foldl (fun (s : State) (e : Nat × Word) => s.sptWrite e.1 e.2) s
    else s.bump R.SPT_COUNTS_rejected
  s.modSpt fun p => { p with stream := s.flag R.SPT_CFG_stream, compat := s.flag R.SPT_CFG_compat }

end State

/-- SPT_COMMAND (R647 to R650). -/
def execSptCommand (w : Word) (data : List Word) (waits : List Nat) (s : State) : Res := .next (s.sptCommandOf w data waits)

/-- SPT_DESELECT (R649, R651). -/
def execSptDeselect (part : Fin 32) (s : State) : Res := .next (s.sptDeselectOf part)

end Sys2Proof.Machine
end

