-- ==== Sys2Proof/Machine/Dispatch.lean ====
section
/-! DEFINITION. One arm per constructor of Instr, each a direct call of the command's meaning. -/

namespace Sys2Proof.Machine

open Sys2Proof

def exec (i : Instr) (s : State) : Host.Outcome State Fault Refusal :=
  match i with
  | .planTick n => Sys2Proof.Machine.execPlanTick n s
  | .segmentStart n => Sys2Proof.Machine.execSegmentStart n s
  | .dwellEnd n => Sys2Proof.Machine.execDwellEnd n s
  | .velocityDurationEnd n => Sys2Proof.Machine.execVelocityDurationEnd n s
  | .heldSegmentPlace n => Sys2Proof.Machine.execHeldSegmentPlace n s
  | .stop n => Sys2Proof.Machine.execStop n s
  | .abort n => Sys2Proof.Machine.execAbort n s
  | .flush n => Sys2Proof.Machine.execFlush n s
  | .freeze n => Sys2Proof.Machine.execFreeze n s
  | .resume n => Sys2Proof.Machine.execResume n s
  | .resumeRetry n => Sys2Proof.Machine.execResumeRetry n s
  | .positionWrite n => Sys2Proof.Machine.execPositionWrite n s
  | .targetReplace n => Sys2Proof.Machine.execTargetReplace n s
  | .planCapWrite n ofVel v => Sys2Proof.Machine.execPlanCapWrite n ofVel v s
  | .posEventArm n k v => Sys2Proof.Machine.execPosEventArm n k v s
  | .sleepDelayExpiry n => Sys2Proof.Machine.execSleepDelayExpiry n s
  | .holdTimeoutExpiry n => Sys2Proof.Machine.execHoldTimeoutExpiry n s
  | .wakeComplete n => Sys2Proof.Machine.execWakeComplete n s
  | .energiseComplete n => Sys2Proof.Machine.execEnergiseComplete n s
  | .deenergiseComplete n => Sys2Proof.Machine.execDeenergiseComplete n s
  | .tileLullExit n => Sys2Proof.Machine.execTileLullExit n s
  | .sramEccError n => Sys2Proof.Machine.execSramEccError n s
  | .legSelftestFail n => Sys2Proof.Machine.execLegSelftestFail n s
  | .tileWake n => Sys2Proof.Machine.execTileWake n s
  | .energise n => Sys2Proof.Machine.execEnergise n s
  | .release n => Sys2Proof.Machine.execRelease n s
  | .tileReset n pass => Sys2Proof.Machine.execTileReset n pass s
  | .groupForm d leader ms => Sys2Proof.Machine.execGroupForm d leader ms s
  | .groupDissolve d => Sys2Proof.Machine.execGroupDissolve d s
  | .groupMove d => Sys2Proof.Machine.execGroupMove d s
  | .groupReady n => Sys2Proof.Machine.execGroupReady n s
  | .scaleApply k => Sys2Proof.Machine.execScaleApply k s
  | .planChecksumTick k => Sys2Proof.Machine.execPlanChecksumTick k s
  | .checksumTimeout k tick => Sys2Proof.Machine.execChecksumTimeout k tick s
  | .groupStop d => Sys2Proof.Machine.execGroupStop d s
  | .groupAbort d => Sys2Proof.Machine.execGroupAbort d s
  | .groupFreeze d => Sys2Proof.Machine.execGroupFreeze d s
  | .groupResume d => Sys2Proof.Machine.execGroupResume d s
  | .groupReplace d => Sys2Proof.Machine.execGroupReplace d s
  | .groupCmdApply k => Sys2Proof.Machine.execGroupCmdApply k s
  | .migrate d => Sys2Proof.Machine.execMigrate d s
  | .migrateMarker q => Sys2Proof.Machine.execMigrateMarker q s
  | .migrateLeader d => Sys2Proof.Machine.execMigrateLeader d s
  | .shapeSwapRequest n => Sys2Proof.Machine.execShapeSwapRequest n s
  | .shapeSwap n => Sys2Proof.Machine.execShapeSwap n s
  | .ustepCtlWrite n v => Sys2Proof.Machine.execUstepCtlWrite n v s
  | .ustepTblDataAccess n w => Sys2Proof.Machine.execUstepTblDataAccess n w s
  | .curScaleWrite n v => Sys2Proof.Machine.execCurScaleWrite n v s
  | .currentRampStep n => Sys2Proof.Machine.execCurrentRampStep n s
  | .standDelayExpiry n => Sys2Proof.Machine.execStandDelayExpiry n s
  | .parkDelayExpiry n => Sys2Proof.Machine.execParkDelayExpiry n s
  | .chopWindowOutput n x code part l edge => Sys2Proof.Machine.execChopWindowOutput n x code part l edge s
  | .chopTimeExpiry n x l edge => Sys2Proof.Machine.execChopTimeExpiry n x l edge s
  | .maxOnRefresh n k => Sys2Proof.Machine.execMaxOnRefresh n k s
  | .chopOffsetWrite n v => Sys2Proof.Machine.execChopOffsetWrite n v s
  | .pwmPeriodStart n a b => Sys2Proof.Machine.execPwmPeriodStart n a b s
  | .regulationLoss n x => Sys2Proof.Machine.execRegulationLoss n x s
  | .sundialUpdate n x c => Sys2Proof.Machine.execSundialUpdate n x c s
  | .stallDecision n => Sys2Proof.Machine.execStallDecision n s
  | .confDecay n => Sys2Proof.Machine.execConfDecay n s
  | .confLow n => Sys2Proof.Machine.execConfLow n s
  | .mapLoad n => Sys2Proof.Machine.execMapLoad n s
  | .mapCheck n => Sys2Proof.Machine.execMapCheck n s
  | .sdClear n => Sys2Proof.Machine.execSdClear n s
  | .walkStart n => Sys2Proof.Machine.execWalkStart n s
  | .walkAbort n => Sys2Proof.Machine.execWalkAbort n s
  | .walkPhaseComplete n settle charge freq => Sys2Proof.Machine.execWalkPhaseComplete n settle charge freq s
  | .walkGrantTimeout n => Sys2Proof.Machine.execWalkGrantTimeout n s
  | .learn n dir keyed => Sys2Proof.Machine.execLearn n dir keyed s
  | .learnAbort n keyed => Sys2Proof.Machine.execLearnAbort n keyed s
  | .obstructionDecision n => Sys2Proof.Machine.execObstructionDecision n s
  | .retryWaitExpiry n => Sys2Proof.Machine.execRetryWaitExpiry n s
  | .blindCeiling n => Sys2Proof.Machine.execBlindCeiling n s
  | .gustSample n => Sys2Proof.Machine.execGustSample n s
  | .gust n => Sys2Proof.Machine.execGust n s
  | .pushConfirm n edges times => Sys2Proof.Machine.execPushConfirm n edges times s
  | .pushTimeout n => Sys2Proof.Machine.execPushTimeout n s
  | .fbProfDataAccess n write keyed => Sys2Proof.Machine.execFbProfDataAccess n write keyed s
  | .fbSegDataAccess n write => Sys2Proof.Machine.execFbSegDataAccess n write s
  | .homeEdge n pin high => Sys2Proof.Machine.execHomeEdge n pin high s
  | .homeMaxTravel n => Sys2Proof.Machine.execHomeMaxTravel n s
  | .homeSettleEnd n => Sys2Proof.Machine.execHomeSettleEnd n s
  | .posWrapWrite n => Sys2Proof.Machine.execPosWrapWrite n s
  | .legOvrWrite n v => Sys2Proof.Machine.execLegOvrWrite n v s
  | .pwmPeriodWrite n phase v => Sys2Proof.Machine.execPwmPeriodWrite n phase v s
  | .prechargeEnd n => Sys2Proof.Machine.execPrechargeEnd n s
  | .tripPin k high => Sys2Proof.Machine.execTripPin k high s
  | .tripCfgWrite k v => Sys2Proof.Machine.execTripCfgWrite k v s
  | .tripWindow n x code part => Sys2Proof.Machine.execTripWindow n x code part s
  | .tripStickyClear v => Sys2Proof.Machine.execTripStickyClear v s
  | .legTripStickyClear n v => Sys2Proof.Machine.execLegTripStickyClear n v s
  | .brakeEngage n => Sys2Proof.Machine.execBrakeEngage n s
  | .clockStop n leg stops => Sys2Proof.Machine.execClockStop n leg stops s
  | .lullClrVeto n => Sys2Proof.Machine.execLullClrVeto n s
  | .lullClrMismatch n => Sys2Proof.Machine.execLullClrMismatch n s
  | .lullClrDebug n => Sys2Proof.Machine.execLullClrDebug n s
  | .lullClrClock n => Sys2Proof.Machine.execLullClrClock n s
  | .lullClrAlarm n => Sys2Proof.Machine.execLullClrAlarm n s
  | .lullClrDusk n => Sys2Proof.Machine.execLullClrDusk n s
  | .resetPin => Sys2Proof.Machine.execResetPin s
  | .rotationStep u c r => Sys2Proof.Machine.execRotationStep u c r s
  | .sliceFailure u c k reason => Sys2Proof.Machine.execSliceFailure u c k reason s
  | .refLost q => Sys2Proof.Machine.execRefLost q s
  | .adcRefWrite n v => Sys2Proof.Machine.execAdcRefWrite n v s
  | .adcCalDataRead n => Sys2Proof.Machine.execAdcCalDataRead n s
  | .scanTrigger u src => Sys2Proof.Machine.execScanTrigger u src s
  | .scanGo n => Sys2Proof.Machine.execScanGo n s
  | .scanDisarm n => Sys2Proof.Machine.execScanDisarm n s
  | .scanComplete u res => Sys2Proof.Machine.execScanComplete u res s
  | .supplyConversion n => Sys2Proof.Machine.execSupplyConversion n s
  | .scanAlarmArm n t => Sys2Proof.Machine.execScanAlarmArm n t s
  | .scanAlarmFire n => Sys2Proof.Machine.execScanAlarmFire n s
  | .scanBufWrite n v => Sys2Proof.Machine.execScanBufWrite n v s
  | .scanRptrWrite n v => Sys2Proof.Machine.execScanRptrWrite n v s
  | .waveformTick n a b => Sys2Proof.Machine.execWaveformTick n a b s
  | .siteTrigArm => Sys2Proof.Machine.execSiteTrigArm s
  | .siteTrigCancel => Sys2Proof.Machine.execSiteTrigCancel s
  | .siteTrigFire snaps => Sys2Proof.Machine.execSiteTrigFire snaps s
  | .siteTrigger d => Sys2Proof.Machine.execSiteTrigger d s
  | .houseGo => Sys2Proof.Machine.execHouseGo s
  | .houseDisarm => Sys2Proof.Machine.execHouseDisarm s
  | .houseAlarmArm t => Sys2Proof.Machine.execHouseAlarmArm t s
  | .houseAlarmFire => Sys2Proof.Machine.execHouseAlarmFire s
  | .windowLatchSet r code part => Sys2Proof.Machine.execWindowLatchSet r code part s
  | .winLatchClear r v => Sys2Proof.Machine.execWinLatchClear r v s
  | .winTestWrite r v => Sys2Proof.Machine.execWinTestWrite r v s
  | .feedbackEdge k pins => Sys2Proof.Machine.execFeedbackEdge k pins s
  | .indexEdge k => Sys2Proof.Machine.execIndexEdge k s
  | .reedHoldoffEnd k pin => Sys2Proof.Machine.execReedHoldoffEnd k pin s
  | .ssiFrameStart k => Sys2Proof.Machine.execSsiFrameStart k s
  | .ssiNow k => Sys2Proof.Machine.execSsiNow k s
  | .ssiFrameEnd k raw => Sys2Proof.Machine.execSsiFrameEnd k raw s
  | .standstill k => Sys2Proof.Machine.execStandstill k s
  | .fbCfgWrite k v => Sys2Proof.Machine.execFbCfgWrite k v s
  | .fbPosWrite k v => Sys2Proof.Machine.execFbPosWrite k v s
  | .fbRevWrite k v => Sys2Proof.Machine.execFbRevWrite k v s
  | .idxArm k => Sys2Proof.Machine.execIdxArm k s
  | .fbAxisWrite k scale v => Sys2Proof.Machine.execFbAxisWrite k scale v s
  | .emuCfgWrite j v => Sys2Proof.Machine.execEmuCfgWrite j v s
  | .emuCountStep j => Sys2Proof.Machine.execEmuCountStep j s
  | .sfeVisit => Sys2Proof.Machine.execSfeVisit s
  | .frequencyConversionDone m nc compliance => Sys2Proof.Machine.execFrequencyConversionDone m nc compliance s
  | .voltageConversionDone sum compliance => Sys2Proof.Machine.execVoltageConversionDone sum compliance s
  | .toneCheck re im compliance => Sys2Proof.Machine.execToneCheck re im compliance s
  | .checkNow => Sys2Proof.Machine.execCheckNow s
  | .sfeSteerWrite v => Sys2Proof.Machine.execSfeSteerWrite v s
  | .sfeTestWrite on => Sys2Proof.Machine.execSfeTestWrite on s
  | .add k w => Sys2Proof.Machine.execAdd k w s
  | .adc k w => Sys2Proof.Machine.execAdc k w s
  | .sub k w => Sys2Proof.Machine.execSub k w s
  | .sbc k w => Sys2Proof.Machine.execSbc k w s
  | .and k w => Sys2Proof.Machine.execAnd k w s
  | .or k w => Sys2Proof.Machine.execOr k w s
  | .xor k w => Sys2Proof.Machine.execXor k w s
  | .andn k w => Sys2Proof.Machine.execAndn k w s
  | .shl k w => Sys2Proof.Machine.execShl k w s
  | .shr k w => Sys2Proof.Machine.execShr k w s
  | .sar k w => Sys2Proof.Machine.execSar k w s
  | .ror k w => Sys2Proof.Machine.execRor k w s
  | .min k w => Sys2Proof.Machine.execMin k w s
  | .max k w => Sys2Proof.Machine.execMax k w s
  | .minu k w => Sys2Proof.Machine.execMinu k w s
  | .maxu k w => Sys2Proof.Machine.execMaxu k w s
  | .clz k w => Sys2Proof.Machine.execClz k w s
  | .sextb k w => Sys2Proof.Machine.execSextb k w s
  | .sexth k w => Sys2Proof.Machine.execSexth k w s
  | .sel k w => Sys2Proof.Machine.execSel k w s
  | .slt k w => Sys2Proof.Machine.execSlt k w s
  | .sltu k w => Sys2Proof.Machine.execSltu k w s
  | .mul k w => Sys2Proof.Machine.execMul k w s
  | .mulh k w => Sys2Proof.Machine.execMulh k w s
  | .mulhu k w => Sys2Proof.Machine.execMulhu k w s
  | .div k w => Sys2Proof.Machine.execDiv k w s
  | .divu k w => Sys2Proof.Machine.execDivu k w s
  | .rem k w => Sys2Proof.Machine.execRem k w s
  | .remu k w => Sys2Proof.Machine.execRemu k w s
  | .addi k w => Sys2Proof.Machine.execAddi k w s
  | .andi k w => Sys2Proof.Machine.execAndi k w s
  | .ori k w => Sys2Proof.Machine.execOri k w s
  | .xori k w => Sys2Proof.Machine.execXori k w s
  | .lui k w => Sys2Proof.Machine.execLui k w s
  | .cmpi k w => Sys2Proof.Machine.execCmpi k w s
  | .shli k w => Sys2Proof.Machine.execShli k w s
  | .shri k w => Sys2Proof.Machine.execShri k w s
  | .sari k w => Sys2Proof.Machine.execSari k w s
  | .rori k w => Sys2Proof.Machine.execRori k w s
  | .ldw k w => Sys2Proof.Machine.execLdw k w s
  | .ldh k w => Sys2Proof.Machine.execLdh k w s
  | .ldhu k w => Sys2Proof.Machine.execLdhu k w s
  | .ldb k w => Sys2Proof.Machine.execLdb k w s
  | .ldbu k w => Sys2Proof.Machine.execLdbu k w s
  | .stw k w => Sys2Proof.Machine.execStw k w s
  | .sth k w => Sys2Proof.Machine.execSth k w s
  | .stb k w => Sys2Proof.Machine.execStb k w s
  | .b k w => Sys2Proof.Machine.execB k w s
  | .j k w => Sys2Proof.Machine.execJ k w s
  | .jal k w => Sys2Proof.Machine.execJal k w s
  | .jr k w => Sys2Proof.Machine.execJr k w s
  | .jalr k w => Sys2Proof.Machine.execJalr k w s
  | .loop k w => Sys2Proof.Machine.execLoop k w s
  | .mfs k w => Sys2Proof.Machine.execMfs k w s
  | .mts k w => Sys2Proof.Machine.execMts k w s
  | .eret k w => Sys2Proof.Machine.execEret k w s
  | .syscall k w => Sys2Proof.Machine.execSyscall k w s
  | .hBreak k w => Sys2Proof.Machine.execHBreak k w s
  | .lock k w => Sys2Proof.Machine.execLock k w s
  | .unlock k w => Sys2Proof.Machine.execUnlock k w s
  | .sync k w => Sys2Proof.Machine.execSync k w s
  | .wait k w => Sys2Proof.Machine.execWait k w s
  | .iinvAll k w => Sys2Proof.Machine.execIinvAll k w s
  | .iinvLine k w => Sys2Proof.Machine.execIinvLine k w s
  | .dcleanLine k w => Sys2Proof.Machine.execDcleanLine k w s
  | .dinvLine k w => Sys2Proof.Machine.execDinvLine k w s
  | .dcleanAll k w => Sys2Proof.Machine.execDcleanAll k w s
  | .interrupt k => Sys2Proof.Machine.execInterrupt k s
  | .tiPlace n => Sys2Proof.Machine.execTiPlace n s
  | .tiRelease n code => Sys2Proof.Machine.execTiRelease n code s
  | .tiAlarmArm n v => Sys2Proof.Machine.execTiAlarmArm n v s
  | .tiAlarmDisarm n => Sys2Proof.Machine.execTiAlarmDisarm n s
  | .tiAlarmFire n => Sys2Proof.Machine.execTiAlarmFire n s
  | .hikerUser n v => Sys2Proof.Machine.execHikerUser n v s
  | .coreMailSend n v => Sys2Proof.Machine.execCoreMailSend n v s
  | .inAck n => Sys2Proof.Machine.execInAck n s
  | .hostMailSend n v => Sys2Proof.Machine.execHostMailSend n v s
  | .fromAck n => Sys2Proof.Machine.execFromAck n s
  | .hikerStart n v => Sys2Proof.Machine.execHikerStart n v s
  | .hikerStop n => Sys2Proof.Machine.execHikerStop n s
  | .hikerReset n => Sys2Proof.Machine.execHikerReset n s
  | .hikerLoadDone n img => Sys2Proof.Machine.execHikerLoadDone n img s
  | .hikerLoad d img => Sys2Proof.Machine.execHikerLoad d img s
  | .sqDoorbell v => Sys2Proof.Machine.execSqDoorbell v s
  | .cqDoorbell v => Sys2Proof.Machine.execCqDoorbell v s
  | .evDoorbell v => Sys2Proof.Machine.execEvDoorbell v s
  | .descriptorFetch q slots => Sys2Proof.Machine.execDescriptorFetch q slots s
  | .completionRelease c => Sys2Proof.Machine.execCompletionRelease c s
  | .coalTimer r => Sys2Proof.Machine.execCoalTimer r s
  | .nop d => Sys2Proof.Machine.execNop d s
  | .segment d => Sys2Proof.Machine.execSegment d s
  | .regWrite d => Sys2Proof.Machine.execRegWrite d s
  | .regRead d => Sys2Proof.Machine.execRegRead d s
  | .handleAlloc d => Sys2Proof.Machine.execHandleAlloc d s
  | .handleFree d => Sys2Proof.Machine.execHandleFree d s
  | .timeSet d => Sys2Proof.Machine.execTimeSet d s
  | .fence d => Sys2Proof.Machine.execFence d s
  | .schedDue => Sys2Proof.Machine.execSchedDue s
  | .journalWrite => Sys2Proof.Machine.execJournalWrite s
  | .jrHeadWrite j v => Sys2Proof.Machine.execJrHeadWrite j v s
  | .sqCfgWrite q v => Sys2Proof.Machine.execSqCfgWrite q v s
  | .cqCfgWrite c v => Sys2Proof.Machine.execCqCfgWrite c v s
  | .evCfgWrite e v => Sys2Proof.Machine.execEvCfgWrite e v s
  | .jrCfgWrite j v => Sys2Proof.Machine.execJrCfgWrite j v s
  | .mailboxGo => Sys2Proof.Machine.execMailboxGo s
  | .mbCplPop => Sys2Proof.Machine.execMbCplPop s
  | .mbEvtPop => Sys2Proof.Machine.execMbEvtPop s
  | .hello p f => Sys2Proof.Machine.execHello p f s
  | .helloSend p => Sys2Proof.Machine.execHelloSend p s
  | .linkAck p f => Sys2Proof.Machine.execLinkAck p f s
  | .linkAckSend p => Sys2Proof.Machine.execLinkAckSend p s
  | .linkDown p aligned => Sys2Proof.Machine.execLinkDown p aligned s
  | .sfpSignalChange p modAbs los txFault page => Sys2Proof.Machine.execSfpSignalChange p modAbs los txFault page s
  | .replayTimeout p => Sys2Proof.Machine.execReplayTimeout p s
  | .portFaultEnd p => Sys2Proof.Machine.execPortFaultEnd p s
  | .frameForward p f hcrcOk pcrcOk host => Sys2Proof.Machine.execFrameForward p f hcrcOk pcrcOk host s
  | .chainAlarmSend => Sys2Proof.Machine.execChainAlarmSend s
  | .chainAlarm p f => Sys2Proof.Machine.execChainAlarm p f s
  | .domainDeassert d => Sys2Proof.Machine.execDomainDeassert d s
  | .groupAlarmCopy k => Sys2Proof.Machine.execGroupAlarmCopy k s
  | .groupAlarm p f => Sys2Proof.Machine.execGroupAlarm p f s
  | .groupAlarmExpiry k => Sys2Proof.Machine.execGroupAlarmExpiry k s
  | .scaleReq p f => Sys2Proof.Machine.execScaleReq p f s
  | .discardNotice p f => Sys2Proof.Machine.execDiscardNotice p f s
  | .gustReq p f => Sys2Proof.Machine.execGustReq p f s
  | .planChecksumFrame p f => Sys2Proof.Machine.execPlanChecksumFrame p f s
  | .commandFrame p f => Sys2Proof.Machine.execCommandFrame p f s
  | .completionFrame p f => Sys2Proof.Machine.execCompletionFrame p f s
  | .groupSeg p f => Sys2Proof.Machine.execGroupSeg p f s
  | .startFrame p f => Sys2Proof.Machine.execStartFrame p f s
  | .epochFrame p f => Sys2Proof.Machine.execEpochFrame p f s
  | .readyFrame p f => Sys2Proof.Machine.execReadyFrame p f s
  | .groupCmdFrame p f => Sys2Proof.Machine.execGroupCmdFrame p f s
  | .leaderState p f => Sys2Proof.Machine.execLeaderState p f s
  | .rollCallGo => Sys2Proof.Machine.execRollCallGo s
  | .rollCall p f => Sys2Proof.Machine.execRollCall p f s
  | .rollReply p f => Sys2Proof.Machine.execRollReply p f s
  | .rollEntry p f => Sys2Proof.Machine.execRollEntry p f s
  | .rollTimeout => Sys2Proof.Machine.execRollTimeout s
  | .authority p f => Sys2Proof.Machine.execAuthority p f s
  | .handleSync p f => Sys2Proof.Machine.execHandleSync p f s
  | .routeLost p f => Sys2Proof.Machine.execRouteLost p f s
  | .tunnelWrite p f ok => Sys2Proof.Machine.execTunnelWrite p f ok s
  | .tunnelRead p f data => Sys2Proof.Machine.execTunnelRead p f data s
  | .tunnelData p f => Sys2Proof.Machine.execTunnelData p f s
  | .sfpAccess p v => Sys2Proof.Machine.execSfpAccess p v s
  | .ddmPoll p temp rx flags => Sys2Proof.Machine.execDdmPoll p temp rx flags s
  | .mirrorPoll => Sys2Proof.Machine.execMirrorPoll s
  | .syncSend => Sys2Proof.Machine.execSyncSend s
  | .syncFrame b => Sys2Proof.Machine.execSyncFrame b s
  | .followUp b => Sys2Proof.Machine.execFollowUp b s
  | .delayReq p b => Sys2Proof.Machine.execDelayReq p b s
  | .delayResp b => Sys2Proof.Machine.execDelayResp b s
  | .holdoverTimeout => Sys2Proof.Machine.execHoldoverTimeout s
  | .ppsEdge fall => Sys2Proof.Machine.execPpsEdge fall s
  | .timeStepApply => Sys2Proof.Machine.execTimeStepApply s
  | .canopyScan one => Sys2Proof.Machine.execCanopyScan one s
  | .governorRound => Sys2Proof.Machine.execGovernorRound s
  | .lockstepMismatch lane => Sys2Proof.Machine.execLockstepMismatch lane s
  | .comparatorSelftest ok => Sys2Proof.Machine.execComparatorSelftest ok s
  | .scanWatchdog one => Sys2Proof.Machine.execScanWatchdog one s
  | .canopyEccError b correctable dirty addr => Sys2Proof.Machine.execCanopyEccError b correctable dirty addr s
  | .vetoRaise one hi v => Sys2Proof.Machine.execVetoRaise one hi v s
  | .vetoDrop one hi v => Sys2Proof.Machine.execVetoDrop one hi v s
  | .scanKick one => Sys2Proof.Machine.execScanKick one s
  | .locksSet one v => Sys2Proof.Machine.execLocksSet one v s
  | .hostKick => Sys2Proof.Machine.execHostKick s
  | .cmbStatus => Sys2Proof.Machine.execCmbStatus s
  | .cmbCheckpoint => Sys2Proof.Machine.execCmbCheckpoint s
  | .cmbVersion => Sys2Proof.Machine.execCmbVersion s
  | .safetyRegWrite d => Sys2Proof.Machine.execSafetyRegWrite d s
  | .safetyTableWrite d => Sys2Proof.Machine.execSafetyTableWrite d s
  | .splitOwnWrite d => Sys2Proof.Machine.execSplitOwnWrite d s
  | .commandVeto d => Sys2Proof.Machine.execCommandVeto d s
  | .install d => Sys2Proof.Machine.execInstall d s
  | .erase d => Sys2Proof.Machine.execErase d s
  | .provision d => Sys2Proof.Machine.execProvision d s
  | .imageActivate d => Sys2Proof.Machine.execImageActivate d s
  | .lullRelease d => Sys2Proof.Machine.execLullRelease d s
  | .authorityClaim d => Sys2Proof.Machine.execAuthorityClaim d s
  | .epochReset d => Sys2Proof.Machine.execEpochReset d s
  | .benchMode d => Sys2Proof.Machine.execBenchMode d s
  | .lockoutEnd => Sys2Proof.Machine.execLockoutEnd s
  | .dozeRequest => Sys2Proof.Machine.execDozeRequest s
  | .twilightRequest => Sys2Proof.Machine.execTwilightRequest s
  | .nightRequest => Sys2Proof.Machine.execNightRequest s
  | .duskTest => Sys2Proof.Machine.execDuskTest s
  | .autoDoze => Sys2Proof.Machine.execAutoDoze s
  | .deviceWake b => Sys2Proof.Machine.execDeviceWake b s
  | .lkAlarmArm who v => Sys2Proof.Machine.execLkAlarmArm who v s
  | .duskStart cause => Sys2Proof.Machine.execDuskStart cause s
  | .duskOutcome => Sys2Proof.Machine.execDuskOutcome s
  | .x32Loss => Sys2Proof.Machine.execX32Loss s
  | .x32Restore => Sys2Proof.Machine.execX32Restore s
  | .refClockLoss => Sys2Proof.Machine.execRefClockLoss s
  | .supplyFall => Sys2Proof.Machine.execSupplyFall s
  | .checkpointCommit => Sys2Proof.Machine.execCheckpointCommit s
  | .ckptTimer => Sys2Proof.Machine.execCkptTimer s
  | .blockFailure b => Sys2Proof.Machine.execBlockFailure b s
  | .recordRefresh => Sys2Proof.Machine.execRecordRefresh s
  | .psLoadGo kind number => Sys2Proof.Machine.execPsLoadGo kind number s
  | .psLogDataRead => Sys2Proof.Machine.execPsLogDataRead s
  | .paramSave => Sys2Proof.Machine.execParamSave s
  | .spcGo k => Sys2Proof.Machine.execSpcGo k s
  | .spcFlushTx k => Sys2Proof.Machine.execSpcFlushTx k s
  | .spcFlushRx k => Sys2Proof.Machine.execSpcFlushRx k s
  | .spcAbort k last => Sys2Proof.Machine.execSpcAbort k last s
  | .spcTxPush k w => Sys2Proof.Machine.execSpcTxPush k w s
  | .spcRxPop k => Sys2Proof.Machine.execSpcRxPop k s
  | .spcFrameDone k got => Sys2Proof.Machine.execSpcFrameDone k got s
  | .xipDiscovery => Sys2Proof.Machine.execXipDiscovery s
  | .xipLineRead k o wait got => Sys2Proof.Machine.execXipLineRead k o wait got s
  | .sptCommand w data waits => Sys2Proof.Machine.execSptCommand w data waits s
  | .sptDeselect part => Sys2Proof.Machine.execSptDeselect part s
  | .dawn straps refclk selfOk nor => Sys2Proof.Machine.execDawn straps refclk selfOk nor s
  | .powerOn => Sys2Proof.Machine.execPowerOn s
  | .deviceReset v => Sys2Proof.Machine.execDeviceReset v s
  | .recoveryDone => Sys2Proof.Machine.execRecoveryDone s
  | .dbgViewRead jtag => Sys2Proof.Machine.execDbgViewRead jtag s
  | .dbgConsumeRead jtag => Sys2Proof.Machine.execDbgConsumeRead jtag s
  | .dbgWrite jtag => Sys2Proof.Machine.execDbgWrite jtag s
  | .dbgHalt hi v => Sys2Proof.Machine.execDbgHalt hi v s
  | .dbgResume hi v => Sys2Proof.Machine.execDbgResume hi v s
  | .dbgStep hi v => Sys2Proof.Machine.execDbgStep hi v s
  | .canopyHalt => Sys2Proof.Machine.execCanopyHalt s
  | .canopyResume => Sys2Proof.Machine.execCanopyResume s
  | .canopyStep => Sys2Proof.Machine.execCanopyStep s
  | .jtagDbgUpdate w => Sys2Proof.Machine.execJtagDbgUpdate w s
  | .extest cells => Sys2Proof.Machine.execExtest cells s
  | .samplePreload cells => Sys2Proof.Machine.execSamplePreload cells s
  | .idcode => Sys2Proof.Machine.execIdcode s
  | .clamp => Sys2Proof.Machine.execClamp s
  | .highz => Sys2Proof.Machine.execHighz s
  | .extestPulse cells => Sys2Proof.Machine.execExtestPulse cells s
  | .extestTrain cells => Sys2Proof.Machine.execExtestTrain cells s
  | .dbgAccess => Sys2Proof.Machine.execDbgAccess s
  | .bypass => Sys2Proof.Machine.execBypass s
  | .tapReset => Sys2Proof.Machine.execTapReset s
  | .sramPageWrite dbg v => Sys2Proof.Machine.execSramPageWrite dbg v s
  | .windowRead dbg a k => Sys2Proof.Machine.execWindowRead dbg a k s
  | .windowWrite dbg a k v => Sys2Proof.Machine.execWindowWrite dbg a k v s
  | .registerWrite who at_ len v => Sys2Proof.Machine.execRegisterWrite who at_ len v s
  | .linkAlignmentChange p on => Sys2Proof.Machine.execLinkAlignmentChange p on s
  | .deadTimeExpiry n k => Sys2Proof.Machine.execDeadTimeExpiry n k s
  | .dutyCompare n k high => Sys2Proof.Machine.execDutyCompare n k high s
  | .blankingEnd n x l edge => Sys2Proof.Machine.execBlankingEnd n x l edge s
  | .referenceSettled u r ok => Sys2Proof.Machine.execReferenceSettled u r ok s
  | .pciePerst low => Sys2Proof.Machine.execPciePerst low s
  | .acquiringTimeout => Sys2Proof.Machine.execAcquiringTimeout s
  | .ppsSilence => Sys2Proof.Machine.execPpsSilence s
  | .atPpsTimeout => Sys2Proof.Machine.execAtPpsTimeout s
  | .ppsOutPulse => Sys2Proof.Machine.execPpsOutPulse s
  | .contestReport => Sys2Proof.Machine.execContestReport s
  | .psLoadDone img => Sys2Proof.Machine.execPsLoadDone img s
  | .paramSaveDone => Sys2Proof.Machine.execParamSaveDone s
  | .xipDiscoveryDone d ok114 ok144 => Sys2Proof.Machine.execXipDiscoveryDone d ok114 ok144 s
  | .sfpAccessDone p got => Sys2Proof.Machine.execSfpAccessDone p got s

end Sys2Proof.Machine
end

