-- ==== Sys2Proof/Machine/Step.lean ====
section
/-! DEFINITION. One step of the block: the command at the front of the queue takes effect; with no command waiting site
time advances by one step of its clock (R532, R591; notes/assumptions/12.md). -/

namespace Sys2Proof.Machine

/-- One step. Log: DESIGN CHOICE notes/assumptions/19.md. -/
def step (s : State) : Host.Outcome State Fault Refusal :=
  match s.pending with
  | [] => .next s.idle
  | c :: rest => exec c { s with pending := rest }

/-- The table gives its rows no bits: no word spells a command, and the state is unchanged. -/
def State.withFetchWord (s : State) (_nbits _w : Nat) : State := s

end Sys2Proof.Machine
end

