-- ==== Sys2Proof/Safety.lean ====
section
/-! DEFINITION. The terms that statements use: a command takes effect, the parts of the state it leaves alone, and the canonical
form of the block's maps. -/

namespace Sys2Proof.Machine

/-- The command answers a next state, and `P` holds of it. -/
def Does (c : Instr) (s : State) (P : State → Prop) : Prop := ∃ t, exec c s = .next t ∧ P t

/-- `t` differs from `s` at most in the register words at `offs`. -/
def OnlyRegs (offs : List Nat) (s t : State) : Prop :=
  t = { s with regs := t.regs } ∧ ∀ a, a ∉ offs → t.rd a = s.rd a

/-- `t` differs from `s` at most in the register words at `offs` and in the state of tile `n` beside its registers. -/
def OnlyTile (n : Fin 64) (offs : List Nat) (s t : State) : Prop :=
  t = { s with regs := t.regs, tiles := t.tiles } ∧ (∀ m, m ≠ n → t.tile m = s.tile m) ∧ ∀ a, a ∉ offs → t.rd a = s.rd a

/-- `t` differs from `s` at most in the register words at `offs` and in core `k`. -/
def OnlyCore (k : Fin 66) (offs : List Nat) (s t : State) : Prop :=
  t = { s with regs := t.regs, cores := t.cores } ∧ (∀ j, j ≠ k → t.core j = s.core j) ∧ ∀ a, a ∉ offs → t.rd a = s.rd a

/-- Every byte of the on-chip memories outside `len` bytes from address `a` reads as before. -/
def MemOutside (a len : Nat) (s t : State) : Prop := ∀ b, b < a ∨ a + len ≤ b → t.byte b = s.byte b

/-- The register words that show a tile core's PC and status (R417). -/
def coreWords (k : Fin 66) : List Nat := if k.val < 64 then [R.HIKER_PC.at k, R.HIKER_STATUS.at k] else []

/-- The mailbox takes a completion of `r` at once: the host is on SPT, `r` is its own command and not tracked or late, no
completion is held and the FIFO has room (R469, R485). -/
abbrev MailOpen (s : State) (r : CmdRef) : Prop :=
  s.hostKind = 2 ∧ r.own = true ∧ r.track = false ∧ s.hamper.late.contains r = false ∧ s.hamper.heldCpls = [] ∧
    s.hamper.cplFifo.length < 64

/-- The one completion that `t` has beyond `s` in the mailbox is the final one of `r` (R470, R485). -/
abbrev Answers (s t : State) (r : CmdRef) (status result : Nat) : Prop :=
  t.hamper.cplFifo = s.hamper.cplFifo ++
    [State.withPhase (State.cplBytes r.tag status 2 r.sq (s.get R.SQ_HEAD_head r.sq % 65536) result) 1]

/-- The completion queue of `r` takes a completion of it at once: `r` is this device's own command and not tracked, its queue runs and
has space, and no completion waits for it (R470, R474). -/
abbrev CqOpen (s : State) (r : CmdRef) : Prop :=
  s.hostKind ≠ 2 ∧ r.own = true ∧ r.track = false ∧ r.cq < 64 ∧ s.get R.CQ_STATUS_state r.cq = 1 ∧ s.cqSpace r.cq = true ∧
    ∀ h ∈ s.hamper.heldCpls, h.cq ≠ r.cq

/-- One completion went into the queue of `r`: its tail index moved on by one slot (R454, R470). -/
abbrev CqTook (s t : State) (r : CmdRef) : Prop :=
  t.get R.CQ_TAIL_tail r.cq = State.nextIndex (s.get R.CQ_CFG_size_log2 r.cq) (s.get R.CQ_TAIL_tail r.cq) % 2 ^ 17

/-- `r` ended with `status` and `result`: its one completion went to the mailbox or the queue that takes it at once, and it is
tracked no longer (R468 to R470, R485). -/
abbrev Completes (s t : State) (r : CmdRef) (status result : Nat) : Prop :=
  (MailOpen s r → Answers s t r status result) ∧ (CqOpen s r → CqTook s t r) ∧ ∀ x ∈ t.hamper.tracks, x.ref ≠ r

/-- `r` ended OK, or STORE_FAILED where the parameter store did not take its commit (R580). -/
abbrev Commits (s t : State) (r : CmdRef) : Prop := ∃ st ∈ [0, 0x25], Completes s t r st 0

/-- Frame `f` of type `typ` is for this device, and its reception takes it further (R495 to R498, R503). -/
abbrev Taken (s : State) (p : Fin 4) (f : Frame) (typ : Nat) : Prop :=
  f.typ = typ ∧ (f.flood = true ∨ f.dstDepth = 0 ∨ (f.dstRoute = s.ownRoute ∧ f.dstDepth = s.ownDepth)) ∧ (s.receive p f).1 = true

/-- The keyed rows, each with a descriptor of its own opcode and kind (R568, R574, R580). -/
abbrev KeyedCmd (c : Instr) (d : Desc) : Prop :=
  (c = .safetyRegWrite d ∧ keyedOp d = 0x40 ∧ (safetyKind d = 0 ∨ 4 ≤ safetyKind d)) ∨
  (c = .safetyTableWrite d ∧ keyedOp d = 0x40 ∧ safetyKind d = 1) ∨ (c = .splitOwnWrite d ∧ keyedOp d = 0x40 ∧ safetyKind d = 2) ∨
  (c = .commandVeto d ∧ keyedOp d = 0x40 ∧ safetyKind d = 3) ∨ (c = .install d ∧ keyedOp d = 0x41 ∧ keyOp d = 1) ∨
  (c = .erase d ∧ keyedOp d = 0x41 ∧ keyOp d = 2) ∨ (c = .provision d ∧ keyedOp d = 0x41 ∧ keyOp d = 3) ∨
  (c = .imageActivate d ∧ keyedOp d = 0x42) ∨ (c = .lullRelease d ∧ keyedOp d = 0x43) ∨ (c = .authorityClaim d ∧ keyedOp d = 0x44) ∨
  (c = .epochReset d ∧ keyedOp d = 0x45) ∨ (c = .benchMode d ∧ keyedOp d = 0x46)

/-- A keyed command passes the checks of R569 that come before its mac, with a counter that needs no new reservation: `key` is
its slot's key. -/
abbrev KeyPasses (s : State) (d : Desc) (key : List Byte) : Prop :=
  s.keyedUp = true ∧ s.canopy.lockedUntil = none ∧ s.canopy.fails = 0 ∧ s.canopy.lockouts = 0 ∧
    (s.keySlot (keySlotOf d)).key = some key ∧ State.asksProvision d = false ∧
    (s.keySlot (keySlotOf d)).rights.testBit (keyedOp d - 0x40) = true ∧
    (s.keySlot (keySlotOf d)).counter < keyCounter d ∧ keyCounter d < (s.keySlot (keySlotOf d)).mark

/-- Core `k` stands at a word that decodes to `i` and may run it (R397, R418, R427). -/
abbrev Fetches (s : State) (k : Fin 66) (w : Word) (i : HInstr) : Prop :=
  s.coreRuns k = true ∧ (s.core k).waiting = false ∧ s.mayFetchAt k (s.core k).pc.toNat = true ∧
    ((s.fetchWords k (s.core k).pc.toNat).getD []).contains w = true ∧ HInstr.decode w = some i

/-- Core `k` fetches `i` outside delay slots, loop ends and locked sequences, with no stop, halt or step of a debugger due. -/
abbrev AtInstr (s : State) (k : Fin 66) (w : Word) (i : HInstr) : Prop :=
  Fetches s k w i ∧ (s.core k).lock = none ∧ (s.core k).delay = none ∧ atLoopEnd (s.core k) = false ∧
    (s.core k).deferred = none ∧ (s.core k).stepping = false

/-- A general register as an instruction names it. -/
abbrev G (s : State) (k : Fin 66) (r : BitVec 4) : Word := State.readG (s.core k) (regIx r)

/-- From `s`, the machine `t` has core `k` as `c` (its instruction fetches may have filled Canopy's cache), and nothing else changed
but the register words that show the core, and the model's own counter of free values. -/
abbrev Ran (s t : State) (k : Fin 66) (c : Core) : Prop :=
  t.core k = { c with fetchBuf := (t.core k).fetchBuf } ∧ (k.val < 64 → (t.core k).fetchBuf = c.fetchBuf) ∧
    OnlyCore k (coreWords k) { s with freeCtr := t.freeCtr } t ∧
    (k.val < 64 → t.get R.HIKER_STATUS_state k = s.get R.HIKER_STATUS_state k ∧ t.get R.HIKER_PC_pc k = c.pc.toNat)

/-- An instruction wrote `r` to `gd` and, when `f` holds, its flags with carry `c` and overflow `v`; it changed no other register,
and the core went on to the next word (R392, R431). -/
abbrev Wrote (s t : State) (k : Fin 66) (gd : BitVec 4) (f : Bool) (r : Word) (c v : Bool) : Prop :=
  Ran s t k { s.core k with g := (t.core k).g, status := (t.core k).status, pc := (s.core k).pc + 4, shadow := false } ∧
    (∀ x : Fin 16, State.readG (t.core k) x = if x = regIx gd ∧ x ≠ 0 then r else State.readG (s.core k) x) ∧
    (t.core k).status.toNat / 16 = (s.core k).status.toNat / 16 ∧
    flagsNow (t.core k) = if f then (⟨r.msb, decide (r = 0), c, v⟩ : Nzcv) else flagsNow (s.core k)

/-- As `Wrote`, with C and V kept (R431). -/
abbrev WroteNz (s t : State) (k : Fin 66) (gd : BitVec 4) (f : Bool) (r : Word) : Prop :=
  Wrote s t k gd f r (flagsNow (s.core k)).c (flagsNow (s.core k)).v

/-- An exception entered its handler (R402, R403, R396): from the core `c`, to keeper on a tile core and steward on Canopy. -/
abbrev Entered (s t : State) (k : Fin 66) (c : Core) (cause : Nat) (bad : Option Word) (epc : Word) : Prop :=
  t.core k = { c with estatus := c.status, epc := epc, ecause := BitVec.ofNat 32 cause, ebadaddr := bad.getD c.ebadaddr,
                      status := BitVec.ofNat 32 ((if k.val < 64 then 0x50000000 else 0x90000000) + c.status.toNat % 16),
                      pc := c.vbase + BitVec.ofNat 32 (64 * cause), delay := none, shadow := false, lock := none, waiting := false,
                      fetchBuf := (t.core k).fetchBuf } ∧
    OnlyCore k (coreWords k ++ (if k.val < 64 then [R.HIKER_EXC.at k] else [])) { s with freeCtr := t.freeCtr } t ∧
    (k.val < 64 → t.get R.HIKER_EXC_cause k = cause ∧ t.get R.HIKER_STATUS_state k = s.get R.HIKER_STATUS_state k)

/-- The register map, the on-chip memories and the host memory stand in their canonical form. -/
def Canonical (s : State) : Prop :=
  sparseWf resetWord s.regs = true ∧ Memory.wf s.mem = true ∧ Memory.wf s.host = true

end Sys2Proof.Machine
end

