-- ==== Sys2Proof/Certificates/Slice0/Obligations.lean ====
section
/-! DEFINITION. The statements about the block. -/

open Sys2Proof Sys2Proof.Machine

/-- On every state that meets its hypotheses, each command of a tile's state diagram (R22, R23, R25, R128) answers a next state in
which the tile has moved, or has begun its move, between the states of R18. Where a clause rests on a reading or a choice of
the model, it is that of assumptions 20 and 35. -/
def Obligations.TileStateCommandsMoveTheTile : Prop :=
  ∀ (n : Fin 64) (s : State),
    -- sleep
    (s.dawnDone → s.st n = stIdle → s.trailCount n = 0 → s.sleepRun n → (s.tile n).cur.energising = false →
      (s.core (State.coreIx n)).lock = none → (s.core (State.coreIx n)).deferred ≠ some true →
      Does (.sleepDelayExpiry n) s fun t => t.st n = stAsleep) ∧
    -- holdTimeout
    (s.st n = stHolding → s.trailCount n = 0 → s.frozen n = false → s.holdRun n → (s.tile n).cur.deenergising = false →
      Does (.holdTimeoutExpiry n) s fun t => t.st n = stHolding ∧ (t.tile n).cur.deenergising = true) ∧
    -- wakeComplete
    (s.st n = stAsleep → (s.tile n).lull.wakePending = true → s.deviceRuns → s.dawnDone →
      Does (.wakeComplete n) s fun t => t.st n = stIdle ∧ (t.tile n).lull.wakePending = false) ∧
    -- energiseComplete
    (s.st n = stIdle → (s.tile n).cur.energising = true → s.flag R.CUR_STATUS_scale_invalid n = false →
      min (s.get R.CUR_LEVEL_hold n) (s.get R.CUR_CAP_cap n) ≤ s.levelCode n →
      Does (.energiseComplete n) s fun t => t.st n = stHolding ∧ (t.tile n).cur.energising = false) ∧
    -- deenergise
    (s.st n = stHolding → (s.tile n).cur.deenergising = true → (s.tile n).cur.ramped = 0 → (s.tile n).cur.belowLoA = true →
      (s.tile n).cur.belowLoB = true → Does (.deenergiseComplete n) s fun t => t.st n = stIdle) ∧
    -- lullExit
    (s.st n = stLull → s.get R.TILE_STATE_lull_source n = 0 → Does (.tileLullExit n) s fun t => t.st n = stIdle) ∧
    -- tileWake
    (s.st n = stAsleep → Does (.tileWake n) s fun t => t.st n = stAsleep ∧ (t.tile n).lull.wakePending = true) ∧
    -- energise
    (s.st n = stIdle → s.mayEnergise n → (s.tile n).cur.energising = false →
      Does (.energise n) s fun t => (t.tile n).cur.energising = true) ∧
    -- release
    (s.st n = stHolding → (s.tile n).cur.deenergising = false → Does (.release n) s fun t => (t.tile n).cur.deenergising = true)

/-- A fault condition takes a tile to Fault and latches its cause (R19, R22); TILE_RESET in Fault with no Lull source latched
returns the tile to Idle with homing required when its self-check passes, and leaves it in Fault with cause 0x03 when it does
not. -/
def Obligations.FaultsLatchTheirCause : Prop :=
  ∀ (n : Fin 64) (s : State),
    -- fault
    (s.st n ≠ stFault →
      Does (.sramEccError n) s (fun t => t.st n = stFault ∧ t.get R.TILE_STATE_fault_cause n = 0x01) ∧
      Does (.legSelftestFail n) s (fun t => t.st n = stFault ∧ t.get R.TILE_STATE_fault_cause n = 0x03)) ∧
    -- reset
    (s.st n = stFault → s.get R.TILE_STATE_lull_source n = 0 →
      Does (.tileReset n true) s (fun t => t.st n = stIdle ∧ t.get R.TILE_STATE_fault_cause n = 0 ∧
        t.get R.TILE_STATE_homing_required n = 1) ∧
      Does (.tileReset n false) s (fun t => t.st n = stFault ∧ t.get R.TILE_STATE_fault_cause n = 0x03))

/-- A MOVE_ABS that starts executes and the tile is Moving; a plan tick of a positioning segment that neither lands nor joins
takes the motion of R51; a DWELL retires DONE at its last tick; a VELOCITY segment at its duration brakes (R37, R51, R55).
Where a clause rests on a reading or a choice of the model, it is that of assumptions 10, 22 and 40. -/
def Obligations.PlannerRunsSegments : Prop :=
  ∀ (n : Fin 64) (s : State),
    -- start
    (s.st n = stHolding → (s.plan n).held = none → (s.plan n).exec = none → (s.plan n).headRepl = none → s.walking n = false →
      s.hasRun n = false → s.headReady n s.tickStart → s.isLate n (s.head n) (s.segAt n (s.head n)) s.tickStart = false →
      segType (s.segAt n (s.head n)) = 1 → Does (.segmentStart n) s fun t => t.st n = stMoving ∧
        (t.plan n).exec.map (fun (e : Exec) => (e.ptr, e.seg)) = some (s.head n, s.segAt n (s.head n))) ∧
    -- tick
    (∀ e, (s.plan n).exec = some e → (s.plan n).handover = false → segIsMove e.seg → s.st n ≠ stAsleep →
      (s.sd n).stallDue = false → (s.force n).due = false → s.get R.POS_WRAP_modulus n = 0 →
      (∀ k : Fin 16, s.flag R.FB_AXIS_bind k = false) → (planStep (s.execLimits n e) (s.motion n) e.target (signed 32
      e.seg.w3).sign (s.jointVel n e s.tickStart)).2 = TickEnd.runs →
      Does (.planTick n) s fun t => (⟨(t.plan n).p, (t.plan n).v, (t.plan n).a⟩ : Motion) = (planStep (s.execLimits n e) (s.motion
        n) e.target (signed 32 e.seg.w3).sign (s.jointVel n e s.tickStart)).1) ∧
    -- dwell
    (∀ e, (s.plan n).exec = some e → segType e.seg = 4 → e.stop = Stopping.none → e.seg.w1 ≤ e.ticks →
      Does (.dwellEnd n) s fun t => (t.plan n).exec = none ∧ t.head n = (s.head n + 1) % 2048 ∧
      t.get R.TRAIL_STATUS_last_status n = endDone ∧ t.get R.TRAIL_STATUS_last_ptr n = s.head n) ∧
    -- velEnd
    (∀ e, (s.plan n).exec = some e → segType e.seg = 3 → e.stop = Stopping.none → e.seg.w1 ≠ 0 → e.seg.w1 ≤ e.ticks →
      Does (.velocityDurationEnd n) s fun t => (t.plan n).exec.map (fun (x : Exec) => (x.ptr, x.stop)) = some (e.ptr,
      Stopping.durationEnd))

/-- On a tile that executes no GROUP_MOVE and no map walk and stands at no joint, STOP and ABORT freeze the trail and set the
executing segment to end for their cause, FLUSH outside Moving empties a trail that nothing was placed in on this tick, FREEZE
freezes it and, unless the tile is Moving with nothing executing, changes nothing else, RESUME releases it outside Lull and
Fault, and RESUME_RETRY there releases it and has the held segment execute again. Where a clause rests on a reading or a
choice of the model, it is that of assumption 10. -/
def Obligations.TrailCommandsAct : Prop :=
  ∀ (n : Fin 64) (s : State),
    s.runsGroup n = false ∧ s.walking n = false ∧ (s.plan n).handover = false →
    -- stop
    (∀ e, (s.plan n).exec = some e → e.stop = Stopping.none → (s.plan n).replaced = none → (s.force n).acted = false →
      Does (.stop n) s (fun t => t.frozen n ∧ (t.plan n).exec.map (fun (x : Exec) => (x.ptr, x.stop)) = some (e.ptr,
      Stopping.stopped))) ∧
    -- abort
    (∀ e, (s.plan n).exec = some e → (s.plan n).replaced = none → Does (.abort n) s (fun t => t.frozen n ∧
      (t.plan n).exec.map (fun (x : Exec) => (x.ptr, x.stop)) = some (e.ptr, Stopping.aborted))) ∧
    -- flush
    (s.st n ≠ stMoving → s.trailCount n ≤ 1024 → s.placedNow n = 0 → Does (.flush n) s fun t => t.trailCount n = 0) ∧
    -- freeze
    (Does (.freeze n) s (fun t => t.frozen n)) ∧
    -- freezeOnly
    (s.st n ≠ stMoving ∨ (s.plan n).exec ≠ none → Does (.freeze n) s (fun t => t.frozen n ∧ OnlyRegs [R.TILE_STATE.at n] s t)) ∧
    -- resume
    (s.st n ≠ stLull → s.st n ≠ stFault → (s.plan n).held = none → Does (.resume n) s fun t => t.frozen n = false) ∧
    -- retry
    (∀ e, s.st n ≠ stLull → s.st n ≠ stFault → (s.plan n).held = some e → e.stop = Stopping.none →
      Does (.resumeRetry n) s fun t => t.frozen n = false ∧ (t.plan n).held = some e ∧ (t.plan n).retry = true)

/-- A committed position write sets P and clears V and A; a REPLACE of the waiting head sets its target; PLAN_CAP_A takes the
written cap, and PLAN_CAP_V one at or below the budget's ceiling; a position event arms with the direction and band written; a
held segment is placed when its trail has room (R33, R58, R60, R65, R73). Where a clause rests on a reading or a choice of the
model, it is that of assumption 39. -/
def Obligations.PlannerWritesLand : Prop :=
  ∀ (n : Fin 64) (s : State),
    -- pos
    (∀ v, (s.plan n).posWrite = some v → s.mayWritePos n → Does (.positionWrite n) s fun t => (t.plan n).p = signed 64 v * p38 ∧
      (t.plan n).v = 0 ∧ (t.plan n).a = 0 ∧ (t.plan n).posWrite = none) ∧
    -- replace
    (s.get R.REPLACE_CTL_ptr n = s.head n → (s.plan n).stoppedOn ≠ some s.tickStart → s.flag R.REPLACE_CTL_new_limits n = false →
      s.trailCount n ≠ 0 → s.runsGroup n = false → (s.plan n).held = none → (s.plan n).exec = none →
      segIsMove (s.segAt n (s.head n)) → Does (.targetReplace n) s fun t => (t.plan n).headRepl.map (fun (r : HeadReplace) =>
      (r.ptr, r.target)) = some (s.head n, signed 64 (s.get64 R.REPLACE_LO_new_frac R.REPLACE_HI_new_int n) * p38)) ∧
    -- capA
    (∀ v, Does (.planCapWrite n false v) s (fun t => t.get R.PLAN_CAP_A_cap_a n = v.toNat ∧ (s.isMember n = false →
      OnlyRegs [R.PLAN_CAP_A.at n] s t))) ∧
    -- capV
    (∀ v, v.toNat < 2 ^ 31 → v.toNat ≤ s.get R.FB_CEIL_ceil n → Does (.planCapWrite n true v) s fun t =>
      t.get R.PLAN_CAP_V_cap_v n = v.toNat) ∧
    -- posEvent
    (∀ k v, v.getLsbD 31 = true → Does (.posEventArm n k v) s fun t => t.fbit R.POS_EVT_STATUS_armed k n ∧
      t.get (R.POS_EVT_CFG_dir.nth k) n = bits v.toNat 29 28 ∧ t.get (R.POS_EVT_CFG_band.nth k) n = bits v.toNat 23 0) ∧
    -- heldSeg
    (∀ d, (s.hamper.heldGroup.any fun h => decide (h.1 = n.val)) = false →
      (s.hamper.heldSegs.find? fun (d : Desc) => decide (d.tile = n)) = some d →
      s.trailCount n < 1024 → Does (.heldSegmentPlace n) s fun t => t.tail n = (s.tail n + 1) % 2048 ∧
        s.hamper.heldSegs.length = t.hamper.heldSegs.length + 1)

/-- A write of LEG_OVR lands; PWM_PERIOD takes a value from 1,000 to 25,000 and refuses another, which only sets cfg_refused;
PWM_PHASE takes its value; the end of precharge on every precharging leg ends it; the end of an armed BRAKE delay turns every
low side on; a gate that is wanted without its partner turns on once its dead time is over; a duty compare takes the request
of its leg from the clocks it is high; a period start that is due takes the dead times and the minimum pulse, and the period
and phase that the rule in force still is. -/
def Obligations.LegTimerCommandsAct : Prop :=
  ∀ (n : Fin 64) (s : State),
    -- ovr
    (∀ v, Does (.legOvrWrite n v) s fun t => t.get R.LEG_OVR_gates n = bits v.toNat 7 0 ∧
      t.flag R.LEG_OVR_enable n = v.getLsbD 31) ∧
    -- period
    (∀ v, 1000 ≤ bits v.toNat 15 0 → bits v.toNat 15 0 ≤ 25000 → Does (.pwmPeriodWrite n false v) s fun t =>
      t.get R.PWM_PERIOD_period n = bits v.toNat 15 0 ∧ t.legs n = { s.legs n with wroteAt := some s.now } ∧
      OnlyTile n [R.PWM_PERIOD.at n] s t) ∧
    -- periodRefused
    (∀ v, bits v.toNat 15 0 < 1000 ∨ 25000 < bits v.toNat 15 0 → Does (.pwmPeriodWrite n false v) s fun t =>
      t.flag R.LEG_STATUS_cfg_refused n ∧ OnlyRegs [R.LEG_STATUS.at n] s t) ∧
    -- phase
    (∀ v, Does (.pwmPeriodWrite n true v) s fun t => t.get R.PWM_PHASE_phase n = bits v.toNat 15 0 ∧
      t.legs n = { s.legs n with wroteAt := some s.now } ∧ OnlyTile n [R.PWM_PHASE.at n] s t) ∧
    -- precharge
    ((∀ k : Fin 4, (s.legs n).pre.testBit k → s.precharged n k) → Does (.prechargeEnd n) s fun t =>
      t.flag R.LEG_STATUS_precharging n = false ∧ (t.legs n).pre = 0) ∧
    -- brake
    (s.flag R.LEG_STATUS_held_off n → (s.tile n).lull.brakeArmed → s.brakeChoice n → s.pinsTaken = false → s.tilesEnabled →
      Does (.brakeEngage n) s fun t => t.flag R.LEG_STATUS_brake_engaged n ∧ (∀ k : Fin 4, t.fbit R.LEG_STATUS_gates (2 * k) n) ∧
      (s.rippleOn n = false → OnlyTile n [R.LEG_STATUS.at n] s t)) ∧
    -- dead
    (∀ (k : Fin 4) (i : Nat), i = 2 * k.val ∨ i = 2 * k.val + 1 → s.flag R.LEG_STATUS_held_off n = false → s.pinsTaken = false →
      s.tilesEnabled → (s.legs n).want.testBit i → (s.legs n).want.testBit (State.otherGate i) = false → s.mayTurnOn n i →
      Does (.deadTimeExpiry n k) s fun t => t.fbit R.LEG_STATUS_gates i n ∧ (s.rippleOn n = false →
      OnlyTile n [R.LEG_STATUS.at n] s t)) ∧
    -- duty
    (∀ (k : Fin 4) high, s.energised n → s.inDuty n (legPhase k) → (s.legs n).live.testBit k →
      Does (.dutyCompare n k high) s fun t => (t.legs n).cmp / 4 ^ k.val % 4 = s.dutyRequest n high (if high then s.highClocks n k
      else (s.legs n).period - s.highClocks n k)) ∧
    -- periodStart
    (∀ a b, s.periodDue n → Does (.pwmPeriodStart n a b) s fun t => (s.energised n → (t.legs n).live = 15) ∧
      (t.legs n).start = some (s.now / 5) ∧ (s.get R.PWM_PERIOD_period n = (s.legs n).rule →
      s.get R.PWM_PHASE_phase n = (s.legs n).phase → (t.legs n).period = s.get R.PWM_PERIOD_period n ∧
      (t.legs n).phase = s.get R.PWM_PHASE_phase n) ∧ (t.legs n).deadHl = s.get R.LEG_DEAD_dead_hl n ∧
      (t.legs n).deadLh = s.get R.LEG_DEAD_dead_lh n ∧ (t.legs n).minPulse = s.get R.LEG_DEAD_min_pulse n)

/-- An enabled pin that becomes active by its level sets its sticky bit, and every tile it is routed to holds Lull source [16]; an
unlocked configuration write lands, and sets the sticky bit of a pin that it enables and finds active; an enabled, unblanked
outside condition of a trip window sets its sticky bit and Lull source [17]; a stopped clock of a tile that is not Asleep sets
source [21], and one of a tile that is Asleep, its leg clock apart, latches nothing. -/
def Obligations.TripsAndClockStopLatchLull : Prop :=
  ∀ (n : Fin 64) (s : State),
    -- pin
    (∀ (k : Fin 16) (high : Bool), s.fbit R.TRIP_STICKY_sticky k = false → s.flag R.TRIP_CFG_enable k →
      (high != s.flag R.TRIP_CFG_active_low k) = true → Does (.tripPin k high) s fun t => t.fbit R.TRIP_STICKY_sticky k ∧
      t.fbit R.TRIP_STICKY_level k ∧ (s.pinRouted k n → t.fbit R.TILE_STATE_lull_source 0 n)) ∧
    -- pinCfg
    (∀ (k : Fin 16) v, s.flag R.TRIP_LOCK_lock = false → Does (.tripCfgWrite k v) s fun t =>
      t.rd (R.TRIP_CFG.at k) = v &&& 0xF000FF00 ∧ (v.getLsbD 31 = true → (s.pinHigh[k] != v.getLsbD 30) = true →
      t.fbit R.TRIP_STICKY_sticky k)) ∧
    -- window
    (∀ (x : Fin 2) (code : Int) (part : Fin 16) (w : Fin 6), w = (if x = 0 then 2 else 3) → s.winRuns n (2 + x.val) →
      s.get (R.WIN_CFG_test.nth (2 + x.val)) n = 0 → s.tripEnabled n x → 16 * (s.get (R.WIN_THR_upper.nth (2 + x.val)) n : Int) ≤
      (levelOf code part) ∨ (levelOf code part) ≤ 16 * (s.get (R.WIN_THR_lower.nth (2 + x.val)) n : Int) →
      s.thrHolds (s.legs n).thrAt[w] = false → s.winBlanked n (2 + x.val) = false → s.tripSticky n x = false →
        Does (.tripWindow n x code part) s fun t => t.tripSticky n x ∧ t.fbit R.TILE_STATE_lull_source 1 n) ∧
    -- clockStops
    (∀ leg, s.st n ≠ stAsleep → Does (.clockStop n leg true) s fun t => t.fbit R.TILE_STATE_lull_source 5 n ∧
      (if leg then t.flag R.LEG_STATUS_cs_leg n else t.flag R.LEG_STATUS_cs_tile n)) ∧
    -- clockAsleep
    (∀ leg stops, s.st n = stAsleep → stops = false ∨ leg = false → Does (.clockStop n leg stops) s fun t =>
      (t.legs n).clocksRun[(if leg then 1 else 0 : Fin 2)] = !stops ∧ OnlyTile n [] s t)

/-- A W1C write of TRIP_STICKY or of LEG_TRIP clears the bits that qualify, keeps and records the others; LULL_CLR releases the
debug, clock and alarm sources when R279's condition does not refuse, and the veto, mismatch and Dusk sources never: a refused
bit stays set and is recorded in CLEAR_REFUSED, and nothing else changes. Where a clause rests on a reading or a choice of the
model, it is that of assumption 39. -/
def Obligations.LullSourcesReleaseByTheirRoute : Prop :=
  ∀ (n : Fin 64) (s : State),
    -- pins
    (∀ v (k : Fin 16), v.getLsbD k = true → s.fbit R.TRIP_STICKY_sticky k →
      Does (.tripStickyClear v) s fun t => t.fbit R.TRIP_STICKY_sticky k = !s.pinQualifies k ∧ (s.pinQualifies k = false →
      t.fbit R.TRIP_CLEAR_REFUSED_last k)) ∧
    -- windows
    (∀ v (x : Fin 2), v.getLsbD (8 + x.val) = true → s.tripSticky n x → Does (.legTripStickyClear n v) s fun t =>
      t.tripSticky n x = !s.tripQualifies n x ∧ (s.tripQualifies n x = false → t.fbit R.CLEAR_REFUSED_last_win x n)) ∧
    -- debug
    (s.fbit R.TILE_STATE_lull_source 4 n →
      (s.coreState n ≠ 4 → Does (.lullClrDebug n) s fun t => t.fbit R.TILE_STATE_lull_source 4 n = false) ∧
      (s.coreState n = 4 → Does (.lullClrDebug n) s fun t => t.fbit R.TILE_STATE_lull_source 4 n ∧
        t.get R.CLEAR_REFUSED_last_lull n = 2 ^ 4 ∧ OnlyRegs [R.CLEAR_REFUSED.at n] s t)) ∧
    -- clock
    (s.fbit R.TILE_STATE_lull_source 5 n → s.clocksQualify n → Does (.lullClrClock n) s fun t =>
      t.fbit R.TILE_STATE_lull_source 5 n = false ∧ t.flag R.LEG_STATUS_cs_leg n = false ∧
      t.flag R.LEG_STATUS_cs_tile n = false) ∧
    -- alarm
    (s.fbit R.TILE_STATE_lull_source 6 n → s.alarmAsserted n = false → s.domainsRaised = 0 →
      Does (.lullClrAlarm n) s fun t => t.fbit R.TILE_STATE_lull_source 6 n = false) ∧
    -- never
    (
      (s.fbit R.TILE_STATE_lull_source 2 n → Does (.lullClrVeto n) s fun t => t.get R.CLEAR_REFUSED_last_lull n = 2 ^ 2 ∧
        OnlyRegs [R.CLEAR_REFUSED.at n] s t) ∧
      (s.fbit R.TILE_STATE_lull_source 3 n → Does (.lullClrMismatch n) s fun t => t.get R.CLEAR_REFUSED_last_lull n = 2 ^ 3 ∧
        OnlyRegs [R.CLEAR_REFUSED.at n] s t) ∧
      (s.fbit R.TILE_STATE_lull_source 7 n → Does (.lullClrDusk n) s fun t => t.get R.CLEAR_REFUSED_last_lull n = 2 ^ 7 ∧
        OnlyRegs [R.CLEAR_REFUSED.at n] s t) ∧
      (s.get R.TILE_STATE_lull_source n = 0 → Does (.lullClrVeto n) s (fun t => t = s) ∧
        Does (.lullClrMismatch n) s (fun t => t = s) ∧ Does (.lullClrDusk n) s (fun t => t = s)))

/-- A swap request on a shape table that keeps R119's rules is accepted, and another sets shape_error; an accepted one, when it
takes effect (while Moving on the clock at which the electrical index enters a multiple of 256), toggles the bank; USTEP_CTL
lands on a tile that is not Moving; a table read returns the entry and advances the index, and a write reaches the inactive
bank outside a pending swap; CUR_SCALE lands on a tile that is neither Holding nor Moving, and is refused on one that is; a
ramp unit that is due moves the ramped code by ramp_step towards its target; the expiries of stand_delay and park_delay mark
the tile stood and parked. -/
def Obligations.CurrentCommandsAct : Prop :=
  ∀ (n : Fin 64) (s : State),
    -- swapRequest
    (s.flag R.USTEP_STATUS_swap_pending n = false → s.shapeOk n → Does (.shapeSwapRequest n) s fun t =>
      t.flag R.USTEP_STATUS_swap_pending n ∧ OnlyRegs [R.USTEP_STATUS.at n] s t) ∧
    -- swapBad
    (s.flag R.USTEP_STATUS_swap_pending n = false → s.shapeOk n = false → Does (.shapeSwapRequest n) s fun t =>
      t.flag R.USTEP_STATUS_shape_error n ∧ OnlyRegs [R.USTEP_STATUS.at n] s t) ∧
    -- swap
    (s.flag R.USTEP_STATUS_swap_pending n → s.st n ≠ stMoving ∨ (s.elecIndex n ≠ s.get R.USTEP_STATUS_e n ∧
      s.elecIndex n % 256 = 0) →
      Does (.shapeSwap n) s fun t => t.get R.USTEP_STATUS_active_bank n = 1 - s.get R.USTEP_STATUS_active_bank n ∧
        t.flag R.USTEP_STATUS_swap_pending n = false) ∧
    -- swapWaits
    (s.flag R.USTEP_STATUS_swap_pending n → s.st n = stMoving → s.elecIndex n = s.get R.USTEP_STATUS_e n ∨
      s.elecIndex n % 256 ≠ 0 →
      Does (.shapeSwap n) s fun t => t.get R.USTEP_STATUS_active_bank n = s.get R.USTEP_STATUS_active_bank n ∧
        t.flag R.USTEP_STATUS_swap_pending n) ∧
    -- ustepCtl
    (∀ v, s.st n ≠ stMoving → v.getLsbD 31 = false → Does (.ustepCtlWrite n v) s fun t =>
      t.get R.USTEP_CTL_elec_off n = bits v.toNat 9 0 ∧ t.flag R.USTEP_CTL_dir_inv n = v.getLsbD 30) ∧
    -- tableRead
    (Does (.ustepTblDataAccess n none) s fun t => t.readData = (if s.get R.USTEP_TBL_ADDR_index n ≤ 256 then s.shapeEntry n (if
      s.flag R.USTEP_TBL_ADDR_active_sel n then s.get R.USTEP_STATUS_active_bank n else 1 - s.get R.USTEP_STATUS_active_bank n)
      (s.get R.USTEP_TBL_ADDR_index n) else 0) ∧ t.get R.USTEP_TBL_ADDR_index n = (s.get R.USTEP_TBL_ADDR_index n + 1) % 512) ∧
    -- tableWrite
    (∀ v, s.get R.USTEP_TBL_ADDR_index n ≤ 256 → s.flag R.USTEP_TBL_ADDR_active_sel n = false →
      s.flag R.USTEP_STATUS_swap_pending n = false → Does (.ustepTblDataAccess n (some v)) s fun t =>
      t.shapeEntry n (1 - s.get R.USTEP_STATUS_active_bank n) (s.get R.USTEP_TBL_ADDR_index n) = bits v.toNat 11 0 ∧
      OnlyTile n [R.USTEP_TBL_ADDR.at n] s t) ∧
    -- scale
    (∀ v, s.st n ≠ stHolding → s.st n ≠ stMoving → Does (.curScaleWrite n v) s fun t =>
      t.get R.CUR_SCALE_sense_ma n = bits v.toNat 31 16 ∧ t.get R.CUR_SCALE_fs_ma n = bits v.toNat 15 0) ∧
    -- scaleRefused
    (∀ v, s.st n = stHolding ∨ s.st n = stMoving → Does (.curScaleWrite n v) s fun t => t.flag R.USTEP_STATUS_cfg_refused n ∧
      OnlyRegs [R.USTEP_STATUS.at n] s t) ∧
    -- ramp
    (s.energised n → s.rampDue n → s.get R.CUR_TIMING_ramp_step n ≠ 0 → Does (.currentRampStep n) s fun t =>
      (t.tile n).cur.ramped = (if (s.tile n).cur.ramped < (s.targetLevel n).2 then min (s.targetLevel n).2 ((s.tile n).cur.ramped
      + s.get R.CUR_TIMING_ramp_step n) else max (s.targetLevel n).2 ((s.tile n).cur.ramped - s.get R.CUR_TIMING_ramp_step n))) ∧
    -- stand
    (s.st n = stHolding → (s.tile n).cur.enteredAt + 10000000 * s.get R.CUR_TIMING_stand_delay n ≤ s.now →
      Does (.standDelayExpiry n) s fun t => (t.tile n).cur.stood) ∧
    -- park
    (∀ a, s.st n = stHolding → (s.targetLevel n).1 = 2 → s.levelCode n = min (s.get R.CUR_LEVEL_hold n) (s.get R.CUR_CAP_cap n) →
      (s.tile n).cur.heldAt = some a → a + 1000000000 * s.get R.CUR_TIMING_park_delay n ≤ s.now →
        s.get R.CUR_TIMING_park_delay n ≠ 0 → Does (.parkDelayExpiry n) s fun t => (t.tile n).cur.parked)

/-- Outside Asleep and self-check, a chopper window whose thresholds stand compares its input with them; a result that sets no
latch is stored for the chopper and shown in the raw bits; a phase in SLOW whose window reports below after min_off with a
set-point other than 0, out of its blanking and with its legs live, turns ON; a refresh pulse that is due begins on its leg
and marks its phase; CHOP_OFFSET takes both offsets; a phase unregulated for reg_loss takes an energised tile to Fault with
cause 0x04; at the end of a blanking window the latch of what a window reports is set. -/
def Obligations.ChopperCommandsAct : Prop :=
  ∀ (n : Fin 64) (s : State),
    -- output
    (∀ (x : Fin 2) (w : Fin 6) (code : Int) (part : Fin 16) l edge r, w = (if x = 0 then 0 else 1) →
      r = State.winCompare (s.winDir n x) (s.get (R.WIN_THR_upper.nth x) n) (s.get (R.WIN_THR_lower.nth x) n) 0 false false
      (levelOf code part) →
      s.thrHolds (s.legs n).thrAt[w] = false → s.energised n = false → s.st n ≠ stAsleep → s.get (R.WIN_CFG_test.nth x) n = 0 →
        s.fbit R.WIN_STATUS_latched x n ∨ State.condHolds (s.get (R.WIN_CFG_cond.nth x) n) r.1 r.2 = false →
      Does (.chopWindowOutput n x code part l edge) s fun t => (t.chop n x).above = r.1 ∧ (t.chop n x).below = r.2 ∧
        t.winAbove n x = r.1 ∧ t.winBelow n x = r.2 ∧ OnlyTile n [R.WIN_STATUS.at n] s t) ∧
    -- turnsOn
    (∀ (x : Fin 2) l edge, s.energised n → s.inDuty n x = false → (s.legs n).live / 4 ^ x.val % 4 = 3 →
      (s.legs n).pre / 4 ^ x.val % 4 = 0 → s.bstate n x = 0 → (s.chop n x).below →
      (s.chop n x).lastEdge + 5 * s.get R.CHOP_TIME_blank n ≤ s.now →
      s.sp n x ≠ 0 → 5 * s.get R.CHOP_TIME_min_off n ≤ s.now - (s.chop n x).since →
        Does (.chopTimeExpiry n x l edge) s fun t => t.bstate n x = 1 ∧ (t.chop n x).dir = (s.sp n x).sign) ∧
    -- refresh
    (∀ (k : Fin 4), s.refreshDue n k → Does (.maxOnRefresh n k) s fun t =>
      (if k.val < 2 then t.flag R.CHOP_STATUS_refresh_a n else t.flag R.CHOP_STATUS_refresh_b n) ∧ (t.legs n).refresh.testBit k) ∧
    -- offset
    (∀ v, Does (.chopOffsetWrite n v) s fun t => t.get R.CHOP_OFFSET_off_a n = bits v.toNat 15 0 ∧
      t.get R.CHOP_OFFSET_off_b n = bits v.toNat 31 16) ∧
    -- loss
    (∀ (x : Fin 2) a, s.energised n → (s.chop n x).unregAt = some a → a + 1000000 * max 1 (s.get R.CHOP_LIMIT_reg_loss n) ≤ s.now
      → Does (.regulationLoss n x) s fun t => t.st n = stFault ∧ t.get R.TILE_STATE_fault_cause n = 0x04) ∧
    -- blankingEnd
    (∀ (x : Fin 2) l edge (w : Fin 6), s.winRuns n w → s.get (R.WIN_CFG_test.nth w) n = 0 →
      State.condHolds (s.get (R.WIN_CFG_cond.nth w) n) (s.winAbove n w) (s.winBelow n w) →
      s.winBlanked n w = false → s.get (R.WIN_CFG_clr.nth w) n = 0 → Does (.blankingEnd n x l edge) s fun t =>
        t.fbit R.WIN_STATUS_latched w n)

/-- A tile or house window in normal test mode that runs, is not blanked and whose condition holds for the comparison of its input
with its thresholds latches; a W1C write clears a latch of the software route whose condition does not hold; a general
window's configuration write with test 0 lands. Where a clause rests on a reading or a choice of the model, it is that of
assumption 38. -/
def Obligations.WindowsLatchAndClear : Prop :=
  ∀ (n : Fin 64) (s : State),
    -- latch
    (∀ (w : Fin 6) (code : Int) (part : Fin 16) r, r = State.winCompare (s.winDir n w) (s.get (R.WIN_THR_upper.nth w) n) (s.get
      (R.WIN_THR_lower.nth w) n) (if w.val < 2 then 0 else State.hystCodes (s.get (R.WIN_CFG_hyst.nth w) n)) (s.winAbove n w)
      (s.winBelow n w) (levelOf code part) →
      s.thrHolds (s.legs n).thrAt[w] = false → s.winRuns n w → s.get (R.WIN_CFG_test.nth w) n = 0 →
        State.condHolds (s.get (R.WIN_CFG_cond.nth w) n) r.1 r.2 → s.winBlanked n w = false →
        Does (.windowLatchSet (.tile n w) code part) s fun t => t.fbit R.WIN_STATUS_latched w n ∧ t.winAbove n w = r.1 ∧
        t.winBelow n w = r.2) ∧
    -- house
    (∀ (h : Fin 8) (code : Int) (part : Fin 16) r, r = State.winCompare 1 (s.get R.HWIN_THR_upper h) (s.get R.HWIN_THR_lower h)
      (State.hystCodes (s.get R.HWIN_CFG_hyst h)) (s.hwinAbove h) (s.hwinBelow h) (levelOf code part) →
      s.thrHolds s.hwinThrAt[h] = false → s.hwinRuns h → s.get R.HWIN_CFG_test h = 0 →
        State.condHolds (s.get R.HWIN_CFG_cond h) r.1 r.2 → Does (.windowLatchSet (.house h) code part) s fun t =>
        t.fbit R.HWIN_STATUS_latched h ∧ t.hwinAbove h = r.1 ∧ t.hwinBelow h = r.2) ∧
    -- clear
    (∀ v (w : Fin 6), v.getLsbD (24 + w.val) = true → s.get (R.WIN_CFG_clr.nth w) n = 0 → s.winHolds n w = false →
      Does (.winLatchClear (.tile n) v) s fun t => t.fbit R.WIN_STATUS_latched w n = false ∧ OnlyRegs [R.WIN_STATUS.at n] s t) ∧
    -- config
    (∀ v (w : Fin 6), bits v.toNat 24 23 = 0 → bits v.toNat 29 28 ≠ 1 → w = 4 ∨ (w = 5 ∧
      s.flag R.WIN_STATUS_push_owned n = false) → Does (.winTestWrite (.tile n w) v) s fun t =>
      t.rd (R.WIN_CFG.at n w) = v &&& BitVec.ofNat 32 (State.winCfgMask w))

/-- With ripple data enabled an update in FULL or REDUCED mode advances update_seq, and without it only no_ripple is shown; the
decay takes conf to 3/4; a stall decision that is due on a Moving tile retires its MOVE or VELOCITY segment STALLED, freezes
the trail and sets the stalled mark; CONF_LOW sets its flag; a clear zeroes load angle, turns, confidence and force and sets
the rotor angle to the commanded one. Where a clause rests on a reading or a choice of the model, it is that of assumptions 24
and 26. -/
def Obligations.SundialUpdatesAndDecides : Prop :=
  ∀ (n : Fin 64) (s : State),
    -- update
    (∀ (x : Fin 2) c, s.flag R.RIPPLE_CTL_enable n → s.sdMode n = 1 ∨ s.sdMode n = 2 →
      Does (.sundialUpdate n x c) s fun t => t.get R.SD_CONF_update_seq n = (s.get R.SD_CONF_update_seq n + 1) % 65536) ∧
    -- noRipple
    (∀ (x : Fin 2) c, s.flag R.RIPPLE_CTL_enable n = false → Does (.sundialUpdate n x c) s fun t =>
      t.flag R.SD_STATUS_no_ripple n ∧ OnlyRegs [R.SD_STATUS.at n] s t) ∧
    -- stall
    (∀ e, (s.sd n).stallDue → s.st n = stMoving → (s.plan n).exec = some e →
      segType e.seg = 1 ∨ segType e.seg = 2 ∨ segType e.seg = 3 → Does (.stallDecision n) s fun t =>
      t.get R.TRAIL_STATUS_last_status n = endStalled ∧ t.flag R.TILE_STATE_stalled n ∧ t.frozen n ∧ (s.isMember n = false →
      t.st n = stHolding)) ∧
    -- decay
    ((s.sd n).fitAt + 100000 ≤ s.now → Does (.confDecay n) s fun t => t.get R.SD_CONF_conf n = s.get R.SD_CONF_conf n * 3 / 4 ∧
      (t.sd n).fitAt = s.now ∧ OnlyTile n [R.SD_CONF.at n] s t) ∧
    -- confLow
    (s.st n = stMoving → (s.sd n).lowArmed → s.get R.SD_STALL2_blind_limit n ≠ 0 →
      s.get R.SD_CONF_conf n < s.get R.SD_STALL_stall_conf n → max (s.sd n).lowAt (s.tile n).cur.enteredAt + 100000 * s.get
      R.SD_STALL2_blind_limit n ≤ s.now →
      Does (.confLow n) s fun t => t.flag R.SD_EVENTS_conf_low n ∧ (t.sd n).lowArmed = false ∧
        ((s.get R.SD_STALL2_blind_action n).testBit 1 = true → t.flag R.TILE_STATE_homing_required n)) ∧
    -- clear
    (Does (.sdClear n) s fun t => t.get R.SD_ANGLE_load_angle n = 0 ∧ t.get R.SD_SLIP_unwrapped n = 0 ∧
      t.get R.SD_CONF_conf n = 0 ∧ t.get R.FB_FORCE_force n = 0 ∧ t.get R.SD_ANGLE_rotor_angle n = s.get R.CMD_ANGLE_angle n ∧
      OnlyTile n ([R.SD_ANGLE.at n, R.SD_SLIP.at n, R.SD_CONF.at n, R.FB_FORCE.at n] ++ (List.range 32).map (fun k =>
      R.SD_HYP.at n k)) s t)

/-- Outside Holding, Moving and Lull, MAP_LOAD leaves a valid map when the stored one passes the checks in its place (an empty
slot leaves the tile without a valid map and every byte of memory as it was), and MAP_CHECK makes a map valid, absent or the
tile faulted with cause 0x02 by R167's checks; in those states both are refused; a walk starts in phase 1, goes to phase 2
when phase 1's ringing settles within 4,000 ns, and ends by abort or for want of a vector unit with R195's result. Where a
clause rests on a reading or a choice of the model, it is that of assumption 25. -/
def Obligations.MapsAndWalksRun : Prop :=
  ∀ (n : Fin 64) (s : State),
    -- loadNone
    (s.mapRefused n = false → s.psInForce 0x06 n = none → Does (.mapLoad n) s fun t => t.flag R.SD_STATUS_map_valid n = false ∧
      MemOutside (tileSram n) 0 s t) ∧
    -- load
    (s.mapRefused n = false → s.st n ≠ stFault → Does (.mapLoad n) s fun t =>
      t.flag R.SD_STATUS_map_valid n =
      (match s.psInForce 0x06 n with | none => false | some h => (s.placeMap n (s.psPayload h)).mapMagic n && (s.placeMap n (s.psPayload h)).mapChecks n))
      ∧
    -- check
    (s.mapRefused n = false → s.mapMagic n →
      (s.mapChecks n = true → Does (.mapCheck n) s fun t => t.flag R.SD_STATUS_map_valid n) ∧
      (s.mapChecks n = false → s.st n ≠ stFault → Does (.mapCheck n) s fun t => t.st n = stFault ∧
        t.get R.TILE_STATE_fault_cause n = 0x02)) ∧
    -- checkNone
    (s.mapRefused n = false → s.mapMagic n = false → Does (.mapCheck n) s fun t => t.flag R.SD_STATUS_map_valid n = false ∧
      t.mem = s.mem) ∧
    -- refused
    (s.mapRefused n →
      Does (.mapLoad n) s (fun t => t.flag R.SD_EVENTS_map_error n ∧ t.mem = s.mem) ∧
      Does (.mapCheck n) s (fun t => t.flag R.SD_EVENTS_map_error n ∧ t.mem = s.mem)) ∧
    -- start
    (s.walking n = false → s.st n = stHolding → s.trailCount n = 0 → s.frozen n = false → s.isMember n = false →
      s.flag R.CUR_STATUS_scale_invalid n = false → 50 ≤ s.get R.WALK_CFG_i_max_ma n →
      s.get R.WALK_CFG_i_max_ma n ≤ s.get R.CUR_SCALE_fs_ma n → s.get R.WALK_CFG_dwell n ≠ 0 → s.flag R.RIPPLE_CTL_enable n →
      s.get R.RIPPLE_CTL_decim n = 0 → 262144 ≤ s.get R.WALK_SPEED_speed n → s.get R.WALK_SPEED_speed n ≤ 14680064 →
      s.flag R.SD_STATUS_rate_60 n = false → Does (.walkStart n) s fun t => t.walking n ∧ t.get R.WALK_STATUS_phase n = 1 ∧
      t.get R.WALK_STATUS_row n = 0 ∧ t.flag R.SD_STATUS_walk_busy n) ∧
    -- abort
    (s.walking n → Does (.walkAbort n) s fun t => t.walking n = false ∧ t.get R.WALK_STATUS_phase n = 7 ∧
      t.get R.WALK_STATUS_result n = 0x09 ∧ t.flag R.SD_STATUS_walk_busy n = false) ∧
    -- phase1
    (∀ w settle charge freq, (s.sd n).walk = some w → w.done → s.get R.WALK_STATUS_phase n = 1 → State.walkRing settle ≤ 4000 →
      s.walkUnit n → Does (.walkPhaseComplete n settle charge freq) s fun t => t.walking n ∧ t.get R.WALK_STATUS_phase n = 2 ∧
      t.get R.WALK_STATUS_row n = 31) ∧
    -- timeout
    (∀ w, (s.sd n).walk = some w → 1000000 ≤ w.lone → s.walkUnit n = false →
      Does (.walkGrantTimeout n) s fun t => t.walking n = false ∧ t.get R.WALK_STATUS_phase n = 7 ∧
      t.get R.WALK_STATUS_result n = 0x03 ∧ t.st n ≠ stMoving)

/-- Learning begins in the directions written and an abort ends it, unless the lock stands and the write is not keyed, when
nothing changes; an obstruction decision on a Moving tile that is no group member has the executing segment obey the policy in
force; a RETRY wait that ends lets the held segment execute again; the blind ceiling comes into force. Where a clause rests on
a reading or a choice of the model, it is that of assumptions 27 and 28. -/
def Obligations.ForceBudgetActs : Prop :=
  ∀ (n : Fin 64) (s : State),
    -- learn
    (∀ (dir : Fin 4) keyed, s.fbLocked n = false ∨ keyed = true → dir ≠ 0 → s.travelValid n →
      Does (.learn n dir keyed) s fun t => (dir.val.testBit 0 = true → t.flag R.FB_STATUS_learning_pos n) ∧
      (dir.val.testBit 1 = true → t.flag R.FB_STATUS_learning_neg n) ∧ OnlyRegs [R.FB_STATUS.at n] s t) ∧
    -- learnAbort
    (∀ keyed, s.fbLocked n = false ∨ keyed = true → Does (.learnAbort n keyed) s fun t =>
      t.flag R.FB_STATUS_learning_pos n = false ∧ t.flag R.FB_STATUS_learning_neg n = false ∧ (t.force n).refRun = none ∧
      OnlyTile n [R.FB_STATUS.at n] s t) ∧
    -- locked
    (∀ dir, s.fbLocked n →
      Does (.learn n dir false) s (fun t => t = s) ∧
      Does (.learnAbort n false) s (fun t => t = s)) ∧
    -- obstruction
    (∀ e, (s.force n).due → s.st n = stMoving → (s.sd n).stallDue = false → (s.plan n).exec = some e → segIsMove e.seg →
      Does (.obstructionDecision n) s fun t => (t.force n).due = false ∧ t.flag R.FB_STATUS_policy_busy n ∧
      (t.plan n).exec.map (fun (x : Exec) => (x.ptr, x.stop)) = some (e.ptr,
      (match s.policyNow n with | 1 => Stopping.reversing | 2 => Stopping.yielding | 3 => Stopping.retrying | _ => Stopping.obstructed)))
      ∧
    -- retry
    (∀ e, s.retryWaited n → (s.plan n).held = some e → e.stop = Stopping.retrying →
      Does (.retryWaitExpiry n) s fun t => (t.plan n).retry ∧ (t.plan n).held = some e ∧
      t.flag R.FB_STATUS_policy_busy n = false ∧ OnlyTile n [R.FB_STATUS.at n] s t) ∧
    -- blind
    (∀ e, (s.plan n).exec = some e → s.flag R.FB_CTL_enable n → s.get R.FB_SLOW_blind_ms n ≠ 0 → s.st n = stMoving →
      State.testedSeg e.seg → (s.force n).blindCeil = none → (s.force n).assessedAt + 1000000 * s.get R.FB_SLOW_blind_ms n ≤ s.now
      →
      Does (.blindCeiling n) s fun t => (t.force n).blindCeil = some (s.get R.FB_SLOW_blind_pct n * s.vSeg n e / 256) ∧
        t.flag R.FB_EVENTS_blind n)

/-- A Gust evaluation shows the level and the count of its window; a gust sets its latch and flag; crossings that show the periods
asked for confirm a push, which sets its flag and ends the wait; a timeout after 500 ms ends the wait only; FB_PROF_DATA and
FB_SEG_DATA read and write the word at their index and go on to the next, a locked profile taking no host write. Where a
clause rests on a reading or a choice of the model, it is that of assumptions 15 and 26. -/
def Obligations.GustAndPushAct : Prop :=
  ∀ (n : Fin 64) (s : State),
    -- sampleMoves
    (s.flag R.GUST_CTL_enable n → s.st n = stMoving ∨ (s.st n = stHolding ∧ s.flag R.GUST_CTL_in_hold n) →
      Does (.gustSample n) s fun t => t.get R.GUST_STATUS_samples n = min 2047 (t.force n).window.length ∧
        t.get R.GUST_LEVEL_level n = (if 2 ^ (s.gustWin n - 1) ≤ (t.force n).window.length then State.gustLevel ((t.force
        n).window.map (fun (e : Nat × Int) => e.2)) else 0) ∧ OnlyTile n [R.GUST_STATUS.at n, R.GUST_LEVEL.at n] s t) ∧
    -- sampleHolds
    (s.flag R.GUST_CTL_enable n → s.st n = stHolding → s.flag R.GUST_CTL_in_hold n = false →
      Does (.gustSample n) s fun t => (t.force n).above = 0 ∧ OnlyTile n [] s t) ∧
    -- sampleRests
    (s.flag R.GUST_CTL_enable n → s.st n ≠ stMoving → s.st n ≠ stHolding →
      Does (.gustSample n) s fun t => (t.force n).window = [] ∧ t.get R.GUST_LEVEL_level n = 0 ∧
      t.get R.GUST_STATUS_samples n = 0) ∧
    -- gust
    (s.flag R.GUST_CTL_enable n → s.flag R.GUST_STATUS_latched n = false →
      max 1 (s.get R.GUST_CTL_hold_ms n) ≤ (s.force n).above → Does (.gust n) s fun t => t.flag R.GUST_STATUS_latched n ∧
      t.flag R.FB_EVENTS_gust n) ∧
    -- push
    (∀ (l : List (Bool × Bool)) (ts : List Nat) r t0, (s.force n).pushAt = some t0 →
      State.pushFind (max 1 (s.get R.PUSH_CTL_periods n)) none none 0 0 (((l.zip ts).map fun (c : (Bool × Bool) × Nat) => (c.1.1,
      c.1.2, c.2)).filter fun c => decide (c.2.2 ≤ 500000000) && decide (t0 + c.2.2 ≤ s.now)) = some r →
      Does (.pushConfirm n l ts) s fun t => t.flag R.FB_EVENTS_push n ∧ (t.force n).pushAt = none) ∧
    -- pushTimeout
    (∀ t0, (s.force n).pushAt = some t0 → t0 + 500000000 ≤ s.now → Does (.pushTimeout n) s fun t => (t.force n).pushAt = none ∧
      OnlyTile n [] s t) ∧
    -- profRead
    (∀ keyed, Does (.fbProfDataAccess n none keyed) s fun t => t.readData = ((sparseFind (s.get R.FB_PROF_ADDR_index n) (s.force
      n).prof).getD 0).toNat ∧ t.get R.FB_PROF_ADDR_index n = (s.get R.FB_PROF_ADDR_index n + 1) % 512 ∧ t.tiles = s.tiles) ∧
    -- profWrite
    (∀ w keyed, Does (.fbProfDataAccess n (some w) keyed) s fun t => t.get R.FB_PROF_ADDR_index n = (s.get R.FB_PROF_ADDR_index n
      + 1) % 512 ∧ (sparseFind (s.get R.FB_PROF_ADDR_index n) (t.force n).prof).getD 0 = (if s.fbLocked n = true ∧
      keyed = false then (sparseFind (s.get R.FB_PROF_ADDR_index n) (s.force n).prof).getD 0 else w) ∧
      OnlyTile n [R.FB_PROF_ADDR.at n] s t) ∧
    -- segRead
    (Does (.fbSegDataAccess n none) s fun t => t.readData = s.segWord n (8 * s.get R.FB_SEG_ADDR_slot n + s.get R.FB_SEG_ADDR_word
      n) ∧ 8 * t.get R.FB_SEG_ADDR_slot n + t.get R.FB_SEG_ADDR_word n = (8 * s.get R.FB_SEG_ADDR_slot n + s.get
      R.FB_SEG_ADDR_word n + 1) % 32 ∧ t.tiles = s.tiles) ∧
    -- segWrite
    (∀ w, Does (.fbSegDataAccess n (some w)) s fun t => t.segWord n (8 * s.get R.FB_SEG_ADDR_slot n + s.get R.FB_SEG_ADDR_word n)
      = w.toNat ∧ 8 * t.get R.FB_SEG_ADDR_slot n + t.get R.FB_SEG_ADDR_word n = (8 * s.get R.FB_SEG_ADDR_slot n + s.get
      R.FB_SEG_ADDR_word n + 1) % 32 ∧ OnlyTile n [R.FB_SEG_ADDR.at n] s t)

/-- In the latch phase the switch's edge captures the position; a search, latch or index phase that covers its travel ends the
segment ABORTED with result 0x02 and freezes the trail; RESTORE's settle with confidence enough retires DONE, homed; a
committed POS_WRAP takes effect when the position may be written and the modulus is legal, and is refused otherwise. Where a
clause rests on a reading or a choice of the model, it is that of assumptions 22 and 34. -/
def Obligations.HomingPhasesEnd : Prop :=
  ∀ (n : Fin 64) (s : State),
    -- edge
    (∀ e (pin : Fin 3) high, s.homeWaits n = some e → e.home.phase = HomePhase.latch → pin.val = bits e.seg.w1 25 24 →
      s.portEdges (Fin.ofNat 16 (bits e.seg.w1 23 20)) pin → (high != bit e.seg.w1 19) = true →
      Does (.homeEdge n pin high) s fun t => (t.plan n).exec.map (fun (x : Exec) => (x.ptr, x.home.captured,
      x.home.resting)) = some (e.ptr, some (Int.fdiv (s.accumulator n) (2 ^ 32) * 2 ^ 32), true)) ∧
    -- travel
    (∀ e, s.homeWaits n = some e → e.home.phase = HomePhase.search ∨ e.home.phase = HomePhase.latch ∨
      e.home.phase = HomePhase.index →
      e.target = some (s.plan n).p → Does (.homeMaxTravel n) s fun t => t.get R.TRAIL_STATUS_last_status n = endAborted ∧
        t.get R.HOME_STATUS_result n = 0x02 ∧ t.frozen n ∧ t.flag R.TILE_STATE_homing_required n) ∧
    -- settle
    (∀ e, s.homeWaits n = some e → e.home.phase = HomePhase.confirm → e.startTime + 100000 * s.get R.TILE_TIMEOUTS_settle n ≤
      s.tickEnd →
      s.get R.SD_STALL2_pos_conf n ≤ s.get R.SD_CONF_conf n → Does (.homeSettleEnd n) s fun t =>
        t.get R.TRAIL_STATUS_last_status n = endDone ∧ t.flag R.HOME_STATUS_homed n ∧ t.get R.HOME_STATUS_result n = 0 ∧
        t.flag R.TILE_STATE_homing_required n = false) ∧
    -- wrap
    (∀ m, (s.plan n).wrapWrite = some m → s.mayWritePos n → m % 1024 = 0 → m ≤ 2 ^ 31 →
      Does (.posWrapWrite n) s fun t => t.get R.POS_WRAP_modulus n = m ∧ (t.plan n).wrapWrite = none) ∧
    -- wrapRefused
    (∀ m, (s.plan n).wrapWrite = some m → s.mayWritePos n = false ∨ m % 1024 ≠ 0 ∨ 2 ^ 31 < m →
      Does (.posWrapWrite n) s fun t => t.flag R.TRAIL_STATUS_pos_write_refused n ∧ OnlyTile n [R.TRAIL_STATUS.at n] s t)

/-- A rotation step moves the spare slice's coefficients by R291 and exchanges it with the shadowed slice; a failing slice is
recorded; a lost VREFq clears its settled flag on the sixteen tiles of the quadrant and takes running fast converters to the
internal reference; f_ref lands outside Holding, Moving and Lull and is refused in them; ADC_CAL_DATA answers the coefficient
and goes on to the next slice. Where a clause rests on a reading or a choice of the model, it is that of assumption 29. -/
def Obligations.ConvertersRotateAndDegrade : Prop :=
  ∀ (n : Fin 64) (s : State),
    -- rotate
    (∀ (c : Fin 4) r (k : Nat), c ≠ 3 → s.spareOf (some n) c = some k → s.calEnabled (some n) → s.convRuns (some n) c →
      (s.convOf (some n) c).rotAt + s.rotNs (some n) ≤ s.now → r.shadow.length ≤ (if c.val < 2 then 8192 else 1024) →
      (sliceStep r (s.convOf (some n) c).pos.length (2 ^ 20) ((s.convOf (some n) c).slices.getD k Slice.reset)).bad < 2 →
      Does (.rotationStep (some n) c r) s fun t => (t.convOf (some n) c).slices = (s.convOf (some n) c).slices.set k (sliceStep r
        (s.convOf (some n) c).pos.length (2 ^ 20) ((s.convOf (some n) c).slices.getD k Slice.reset)) ∧
        (t.convOf (some n) c).pos = (s.convOf (some n) c).pos.set ((s.convOf (some n) c).next % max 1 (s.convOf (some n)
        c).pos.length) k ∧ OnlyTile n [R.ADC_SLICES.at n] s t) ∧
    -- house
    (∀ r (k : Nat), s.spareOf none 3 = some k → s.calEnabled none → s.convRuns none 3 → (s.convOf none 3).rotAt ≤ s.now →
      r.shadow.length ≤ 1024 → (sliceStep r (s.convOf none 3).pos.length (2 ^ 20) ((s.convOf none 3).slices.getD k
      Slice.reset)).bad < 2 →
      Does (.rotationStep none 3 r) s fun t => (t.convOf none 3).slices = (s.convOf none 3).slices.set k (sliceStep r (s.convOf
        none 3).pos.length (2 ^ 20) ((s.convOf none 3).slices.getD k Slice.reset)) ∧ t.tiles = s.tiles) ∧
    -- failure
    (∀ (u : Option (Fin 64)) (c : Fin 4) (k : Nat) reason, u = some n ∧ c ≠ 3 ∨ u = none ∧ c = 3 → k < convSize c →
      s.fbit (State.failedFld c) k (State.placeIx u) = false → Does (.sliceFailure u c k reason) s fun t =>
      t.fbit (State.failedFld c) k (State.placeIx u)) ∧
    -- refLost
    (∀ (q : Fin 4), n.val / 16 = q.val → Does (.refLost q) s fun t => t.flag R.ADC_REF_vref_ok n = false ∧
      (s.flag R.ADC_REF_f_ref n = true → s.fastRuns n = true → t.flag R.ADC_REF_f_ref n = false ∧ t.flag R.ADC_REF_fallback n ∧
      t.flag R.ADC_EVENTS_ref_lost n)) ∧
    -- fref
    (∀ v, s.st n ≠ stHolding → s.st n ≠ stMoving → s.st n ≠ stLull → Does (.adcRefWrite n v) s fun t =>
      t.flag R.ADC_REF_f_ref n = v.getLsbD 31) ∧
    -- frefRefused
    (∀ v, s.st n = stHolding ∨ s.st n = stMoving ∨ s.st n = stLull → v.getLsbD 31 ≠ s.flag R.ADC_REF_f_ref n →
      Does (.adcRefWrite n v) s fun t => t.flag R.ADC_REF_f_ref n = s.flag R.ADC_REF_f_ref n ∧ t.flag R.ADC_EVENTS_cfg_refused n ∧
      OnlyRegs [R.ADC_REF.at n, R.ADC_EVENTS.at n] s t) ∧
    -- calRead
    (∀ c, (let k := s.get R.ADC_CAL_ADDR_slice n; if k < 5 then ((s.tile n).adc.conv[0]).slices[k]? else if k < 10 then ((s.tile n).adc.conv[1]).slices[k - 5]? else ((s.tile n).adc.conv[2]).slices[k - 10]?) = some c →
      Does (.adcCalDataRead n) s fun t => t.readData = wrapNat 32
        (match s.get R.ADC_CAL_ADDR_coeff n with | 0 => c.off | 1 => (c.gain : Int) | 2 => c.trim | _ => 0) ∧
        t.get R.ADC_CAL_ADDR_slice n = (if 12 ≤ s.get R.ADC_CAL_ADDR_slice n then 0 else s.get R.ADC_CAL_ADDR_slice n + 1) ∧
        t.tiles = s.tiles)

/-- An event of the selected source counts toward the divisor and then starts a scan of the selected channels when none runs, or
after its delay; SCAN_GO, HOUSE_GO and an overdue supply value start one at once; a start inside a running scan is dropped and
counted; the end of a scan puts the summed corrected samples, rounded by the shift, into its channel's result; a buffer region
and a reader pointer that R316 and R318 allow land and others are refused; a waveform tick appends its pair. Where a clause
rests on a reading or a choice of the model, it is that of assumptions 30 and 31. -/
def Obligations.ScansStartAndComplete : Prop :=
  ∀ (n : Fin 64) (s : State),
    -- trigger
    (∀ (src : Fin 8), src ≠ 0 → s.get R.SCAN_TRIG_src n = src → s.get R.SCAN_TRIG_div n < (s.adc (some n)).div + 1 →
      s.get R.SCAN_TRIG_delay n = 0 → s.scanRuns (some n) → (s.adc (some n)).run = none → s.get R.SCAN_MASK_mask n ≠ 0 →
      Does (.scanTrigger (some n) src) s fun t => (t.adc (some n)).run.map (fun (r : ScanRun) => (r.mask,
      r.src)) = some (s.get R.SCAN_MASK_mask n, src.val) ∧ t.flag R.ADC_STATUS_scan_busy n ∧ OnlyTile n [R.ADC_STATUS.at n] s t) ∧
    -- triggerDelays
    (∀ (src : Fin 8), src ≠ 0 → s.get R.SCAN_TRIG_src n = src → s.get R.SCAN_TRIG_div n < (s.adc (some n)).div + 1 →
      s.get R.SCAN_TRIG_delay n ≠ 0 → Does (.scanTrigger (some n) src) s fun t =>
      (t.adc (some n)).due = (s.adc (some n)).due ++ [(s.now + 25 * s.get R.SCAN_TRIG_delay n, src.val)] ∧
      (t.adc (some n)).div = 0 ∧ OnlyTile n [] s t) ∧
    -- triggerWaits
    (∀ (src : Fin 8), src ≠ 0 → s.get R.SCAN_TRIG_src n = src → (s.adc (some n)).div + 1 ≤ s.get R.SCAN_TRIG_div n →
      Does (.scanTrigger (some n) src) s fun t => (t.adc (some n)).div = (s.adc (some n)).div + 1 ∧ OnlyTile n [] s t) ∧
    -- go
    (s.scanRuns (some n) → s.get R.SCAN_MASK_mask n ≠ 0 →
      ((s.adc (some n)).run = none → Does (.scanGo n) s fun t => (t.adc (some n)).run.map (fun (r : ScanRun) => (r.mask,
        r.src)) = some (s.get R.SCAN_MASK_mask n, 7) ∧ t.flag R.ADC_STATUS_scan_busy n) ∧
      (∀ r ∈ (s.adc (some n)).run, r.supply = false → s.slotFrom (some n) s.now < s.runEnd (some n) r →
        Does (.scanGo n) s fun t => t.get R.ADC_STATUS_drops n = min (s.get R.ADC_STATUS_drops n + 1) (2 ^ (R.ADC_STATUS_drops.msb
        + 1 - R.ADC_STATUS_drops.lsb) - 1) ∧ OnlyRegs [R.ADC_STATUS.at n] s t)) ∧
    -- houseGo
    (s.scanRuns none → s.get R.HOUSE_MASK_mask ≠ 0 → s.house.run = none → Does (.houseGo) s fun t =>
      t.house.run.map (fun (r : ScanRun) => (r.mask, r.src)) = some (s.get R.HOUSE_MASK_mask, 7) ∧ t.flag R.HOUSE_STATUS_busy ∧
      t.tiles = s.tiles) ∧
    -- supply
    (s.st n = stHolding ∨ s.st n = stMoving ∨ s.st n = stLull → (s.adc (some n)).run = none → s.scanRuns (some n) →
      (s.adc (some n)).vmAt + 100000 ≤ s.now → Does (.supplyConversion n) s fun t =>
      (t.adc (some n)).run.map (fun (r : ScanRun) => (r.supply, r.mask)) = some (true, 4) ∧ t.flag R.ADC_STATUS_scan_busy n ∧
      OnlyTile n [R.ADC_STATUS.at n] s t) ∧
    -- complete
    (∀ r (k : Fin 16) codes, (s.adc (some n)).run = some r → (s.adc (some n)).waiting = none → r.mask = 2 ^ k.val →
      s.runEnd (some n) r ≤ s.now → r.supply = true ∨ s.get R.SCAN_TRIG_src n ≠ 5 →
      Does (.scanComplete (some n) [(k.val, codes)]) s fun t => (t.adc (some n)).run = none ∧
      t.flag R.ADC_STATUS_scan_busy n = false ∧ (t.rd (R.ADC_RES.at n k)).toNat % 2 ^ 24 = scanValue (r.avg / 65536 % 16)
      (s.runCodes (some n) r 0 codes) % 2 ^ 24 ∧ (t.rd (R.ADC_RES.at n k)).getLsbD 31) ∧
    -- buf
    (∀ v, bits v.toNat 8 0 ≠ 0 → bits v.toNat 8 0 ≤ 512 → 0x18000 ≤ 64 * bits v.toNat 23 12 →
      64 * (bits v.toNat 23 12 + bits v.toNat 8 0) ≤ 0x20000 → Does (.scanBufWrite n v) s fun t =>
      t.rd (R.SCAN_BUF.at n) = v &&& 0xF8FFF1FF ∧ t.rd (R.SCAN_WPTR.at n) = 0 ∧ t.rd (R.SCAN_RPTR.at n) = 0 ∧
      OnlyTile n [R.SCAN_BUF.at n, R.SCAN_WPTR.at n, R.SCAN_RPTR.at n] s t) ∧
    -- bufRefused
    (∀ v, bits v.toNat 8 0 = 0 ∨ 64 * bits v.toNat 23 12 < 0x18000 ∨ 0x20000 < 64 * (bits v.toNat 23 12 + bits v.toNat 8 0) →
      Does (.scanBufWrite n v) s fun t => t.flag R.ADC_EVENTS_cfg_refused n ∧ OnlyRegs [R.ADC_EVENTS.at n] s t) ∧
    -- rptr
    (∀ v, bits v.toNat 12 0 < 16 * s.get R.SCAN_BUF_len n → (if s.get R.SCAN_WPTR_wrap n = bits v.toNat 31 31 then bits v.toNat 12
      0 ≤ s.get R.SCAN_WPTR_idx n else s.get R.SCAN_WPTR_idx n ≤ bits v.toNat 12 0) →
      Does (.scanRptrWrite n v) s fun t => t.rd (R.SCAN_RPTR.at n) = v &&& 0x80001FFF ∧ OnlyRegs [R.SCAN_RPTR.at n] s t) ∧
    -- wave
    (∀ a b, s.flag R.WAVE_CTL_enable n → s.fastRuns n → a ≠ [] → b ≠ [] → (s.adc (some n)).wave.length + 1 < 250 →
      Does (.waveformTick n a b) s fun t => (t.adc (some n)).wave = (s.adc (some n)).wave ++ [(State.waveValue a,
      State.waveValue b)] ∧ OnlyTile n [] s t)

/-- Arming an alarm takes its time; firing disarms it or, with a period, sets its next time; disarming clears it and nothing else;
the site-trigger arms at a time at least 2 µs ahead, from its register or from a descriptor, is refused nearer than that,
disarms on cancel, and fires once. Where a clause rests on a reading or a choice of the model, it is that of assumption 32. -/
def Obligations.AlarmsAndSiteTriggerAct : Prop :=
  ∀ (n : Fin 64) (s : State),
    -- arm
    (∀ (x : BitVec 64),
      Does (.scanAlarmArm n x) s (fun t => t.alarmTime (some n) = x.toNat ∧ t.flag R.ADC_STATUS_alarm_armed n ∧
        OnlyRegs [R.SCAN_ALARM_LO.at n, R.SCAN_ALARM_HI.at n, R.ADC_STATUS.at n] s t) ∧
      Does (.houseAlarmArm x) s (fun t => t.alarmTime none = x.toNat ∧ t.houseArmed ∧ t.tiles = s.tiles)) ∧
    -- disarm
    (
      Does (.scanDisarm n) s (fun t => t.flag R.ADC_STATUS_alarm_armed n = false ∧ OnlyRegs [R.ADC_STATUS.at n] s t) ∧
      Does (.houseDisarm) s (fun t => t = { s with houseArmed := false })) ∧
    -- fire
    (s.flag R.ADC_STATUS_alarm_armed n → s.alarmTime (some n) ≤ s.now → Does (.scanAlarmFire n) s (fun t =>
      t.flag R.ADC_STATUS_alarm_armed n = decide (s.get R.SCAN_ALARM_PER_period n ≠ 0) ∧
      t.alarmTime (some n) = if s.get R.SCAN_ALARM_PER_period n = 0 then s.alarmTime (some n) else State.nextAlarm (s.alarmTime
      (some n)) (1000 * s.get R.SCAN_ALARM_PER_period n) s.now % 2 ^ 64)) ∧
    -- houseFire
    (s.houseArmed → s.alarmTime none ≤ s.now → Does (.houseAlarmFire) s (fun t =>
      t.houseArmed = decide (s.get R.HOUSE_ALARM_PER_period ≠ 0))) ∧
    -- siteArm
    (s.now + 2000 ≤ s.get64 R.SITE_TRIG_LO_time_lo R.SITE_TRIG_HI_time_hi →
      Does (.siteTrigArm) s fun t => t.siteTrig = some (s.get64 R.SITE_TRIG_LO_time_lo R.SITE_TRIG_HI_time_hi, s.epoch) ∧
        t.flag R.SITE_TRIG_STATUS_armed ∧ t.tiles = s.tiles) ∧
    -- siteRefused
    (s.get64 R.SITE_TRIG_LO_time_lo R.SITE_TRIG_HI_time_hi < s.now + 2000 →
      Does (.siteTrigArm) s fun t => t.flag R.SITE_TRIG_STATUS_refused ∧ OnlyRegs [R.SITE_TRIG_STATUS.at 0] s t) ∧
    -- siteDesc
    (∀ (d : Desc), s.now + 2000 ≤ fieldLE d.slot 0x20 8 → Does (.siteTrigger d) s fun t =>
      t.siteTrig = some (fieldLE d.slot 0x20 8, s.epoch) ∧ t.flag R.SITE_TRIG_STATUS_armed ∧
      t.flag R.SITE_TRIG_CTL_house = decide (fieldLE d.slot 0x30 1 % 2 = 1) ∧ t.tiles = s.tiles) ∧
    -- siteCancel
    (Does (.siteTrigCancel) s fun t => t.siteTrig = none ∧ t.flag R.SITE_TRIG_STATUS_armed = false ∧ t.tiles = s.tiles) ∧
    -- siteFire
    (∀ snaps x, s.siteTrig = some x → x.1 ≤ s.now → Does (.siteTrigFire snaps) s fun t => t.siteTrig = none ∧
      t.flag R.SITE_TRIG_STATUS_armed = false ∧ t.flag R.SITE_TRIG_STATUS_fired)

/-- A quadrature edge of an enabled port moves its counter by one count in the sense of the cycle and dir_inv; an index edge
captures the counter and may reset it; a reed holdoff ends; an SSI frame starts when the pause has passed and its first frame
sets the port's reference value; standstill zeroes the speed; counter and modulus writes land reduced. Where a clause rests on
a reading or a choice of the model, it is that of assumptions 41 and 42. -/
def Obligations.FeedbackPortsCount : Prop :=
  ∀ (k : Fin 16) (s : State),
    -- quad
    (∀ (pins : Fin 8), s.feedRuns k → s.feedMode k = 0 → (quadPlace (s.feedLevels k pins.val) + 4 - quadPlace (s.get
      R.FBK_STATUS_levels k)) % 4 = 1 ∨ (quadPlace (s.feedLevels k pins.val) + 4 - quadPlace (s.get R.FBK_STATUS_levels k)) % 4 =
      3 →
      Does (.feedbackEdge k pins) s fun t => t.get R.FB_POS_pos k = State.feedReduce (s.get R.FB_REV_rev k) (s.feedCount k + (if
        ((quadPlace (s.feedLevels k pins.val) + 4 - quadPlace (s.get R.FBK_STATUS_levels k)) % 4 = 1) = (s.flag R.FB_CFG_dir_inv k
        = false) then 1 else -1)) ∧ t.get R.FBK_STATUS_levels k = s.feedLevels k pins.val ∧ t.mem = s.mem) ∧
    -- stopped
    (∀ (pins : Fin 8), s.flag R.FB_CFG_enable k = false → Does (.feedbackEdge k pins) s fun t => t = s.modFeed k fun f =>
      { f with pins := pins.val, stir := if (f.stir.map fun (e : Nat × Nat) => e.2).getD f.pins = pins.val then none else some (s.now, (f.stir.map fun (e : Nat × Nat) => e.2).getD f.pins) })
      ∧
    -- index
    (s.feedRuns k → s.get R.FB_CFG_idx_mode k ≠ 0 → (s.feed k).zRose → s.indexPasses k →
      Does (.indexEdge k) s fun t => t.get R.FB_IDX_idx_pos k = s.get R.FB_POS_pos k ∧ t.flag R.FBK_STATUS_idx_seen k ∧
      t.get R.FB_POS_pos k = (if s.get R.FB_CFG_idx_mode k = 2 ∧ s.flag R.FBK_STATUS_idx_armed k = true then 0 else s.get
      R.FB_POS_pos k) ∧ t.tiles = s.tiles) ∧
    -- reed
    (∀ (pin : Fin 2) t0, (s.feed k).hold[pin] = some t0 → t0 ≤ s.now → s.feedMode k = 3 → s.feedRuns k →
      (s.get R.FBK_STATUS_levels k).testBit pin = (s.feed k).acc.testBit pin →
      Does (.reedHoldoffEnd k pin) s fun t => t = s.modFeed k fun f => { f with hold := f.hold.set pin none }) ∧
    -- ssiStart
    (s.feedRuns k → s.feedMode k = 5 → (s.feed k).frame = none → State.passedSince (s.feed k).frameEnd (1000 * max 1 (s.get
      R.FB_MODECFG_mono k)) s.now →

      Does (.ssiFrameStart k) s (fun t => (t.feed k).frame = some (s.now, (s.get R.FBK_STATUS_levels k).testBit 1) ∧
        t.regs = s.regs ∧ t.tiles = s.tiles) ∧
      Does (.ssiNow k) s (fun t => (t.feed k).frame = some (s.now, (s.get R.FBK_STATUS_levels k).testBit 1) ∧ t.regs = s.regs ∧
        t.tiles = s.tiles)) ∧
    -- ssiEnd
    (∀ raw at_ idle, (s.feed k).frame = some (at_, idle) → s.flag R.FB_MODECFG_line_chk k = false ∨ idle = true →
      (s.feed k).last = none → s.get R.FB_MODECFG_bits k ≤ 32 → Does (.ssiFrameEnd k raw) s fun t => (t.feed k).frame = none ∧
      t.get R.FB_SSIRAW_raw k = raw % 2 ^ s.get R.FB_MODECFG_bits k ∧ (t.feed k).last = some (if s.flag R.FB_MODECFG_gray k then
      grayDecode (s.get R.FB_MODECFG_bits k) (raw % 2 ^ s.get R.FB_MODECFG_bits k) else raw % 2 ^ s.get R.FB_MODECFG_bits k,
      at_) ∧ t.get R.FB_POS_pos k = s.get R.FB_POS_pos k) ∧
    -- still
    (∀ t0 up, (s.feed k).prev = some (t0, up) → s.feedRuns k → s.feedMode k ≠ 5 →
      t0 + 10000 * max 1 (s.get R.FB_STAND_stand k) ≤ s.now - 10 * s.feedFilt k →
      Does (.standstill k) s fun t => t.get R.FB_SPEED_speed k = 0 ∧ t.get R.FB_INTVL_interval k = 0 ∧
        t.flag R.FBK_STATUS_standstill k ∧ (t.feed k).prev = none ∧ t.tiles = s.tiles) ∧
    -- pos
    (∀ v, Does (.fbPosWrite k v) s fun t => t.get R.FB_POS_pos k = State.feedReduce (s.get R.FB_REV_rev k) v.toInt ∧
      OnlyRegs [R.FB_POS.at k] s t) ∧
    -- rev
    (∀ v, v.toNat ≤ 2 ^ 31 → Does (.fbRevWrite k v) s fun t => t.get R.FB_REV_rev k = v.toNat ∧
      t.get R.FB_POS_pos k = State.feedReduce v.toNat (s.feedCount k) ∧ OnlyRegs [R.FB_REV.at k, R.FB_POS.at k] s t) ∧
    -- revRefused
    (∀ v, 2 ^ 31 < v.toNat → Does (.fbRevWrite k v) s fun t => t.flag R.FBK_STATUS_cfg_refused k ∧
      OnlyRegs [R.FBK_STATUS.at k] s t) ∧
    -- arm
    (Does (.idxArm k) s fun t => t.flag R.FBK_STATUS_idx_armed k ∧ OnlyRegs [R.FBK_STATUS.at k] s t)

/-- A legal FB_CFG write of a disabled port lands; a binding or scale write re-bases the measured position to the tile's; an
enabling write of EMU_CFG puts the count at its target, and each later step moves it by one count toward it. Where a clause
rests on a reading or a choice of the model, it is that of assumptions 41 and 43. -/
def Obligations.FeedbackConfigurationAndEmulation : Prop :=
  ∀ (k : Fin 16) (j : Fin 8) (s : State),
    -- cfg
    (∀ v, s.flag R.FB_CFG_enable k = false → bits v.toNat 30 28 < 6 → bits v.toNat 23 22 ≠ 3 →
      bits v.toNat 23 22 = 0 ∨ bits v.toNat 30 28 < 4 → Does (.fbCfgWrite k v) s fun t =>
      (t.rd (R.FB_CFG.at k)).toNat = v.toNat / 2 ^ 10 * 2 ^ 10 ∧ t.tiles = s.tiles) ∧
    -- cfgRefused
    (∀ v, 6 ≤ bits v.toNat 30 28 ∨ bits v.toNat 23 22 = 3 ∨ (bits v.toNat 23 22 ≠ 0 ∧ 4 ≤ bits v.toNat 30 28) →
      Does (.fbCfgWrite k v) s fun t => t.flag R.FBK_STATUS_cfg_refused k ∧ OnlyRegs [R.FBK_STATUS.at k] s t) ∧
    -- axis
    (∀ v, Does (.fbAxisWrite k false v) s fun t => t.rd (R.FB_AXIS.at k) = v ∧ (v.getLsbD 31 = true →
      t.getInt R.FB_AXPOS_axpos k = t.posInt (tileOf (t.get R.FB_AXIS_tile k))) ∧ t.tiles = s.tiles) ∧
    -- scale
    (∀ v, v.toNat % 65536 ≠ 0 → Does (.fbAxisWrite k true v) s fun t => t.rd (R.FB_SCALE.at k) = v ∧
      (s.flag R.FB_AXIS_bind k = true → t.getInt R.FB_AXPOS_axpos k = t.posInt (tileOf (t.get R.FB_AXIS_tile k))) ∧
      t.tiles = s.tiles) ∧
    -- emuOn
    (∀ v, s.flag R.EMU_CFG_enable j = false → v.getLsbD 31 = true → Does (.emuCfgWrite j v) s fun t => t.flag R.EMU_CFG_enable j ∧
      t.getInt R.EMU_COUNT_count j = signed 32 (wrapNat 32 (t.emuTarget j)) ∧ t.tiles = s.tiles) ∧
    -- emuStep
    (s.flag R.EMU_CFG_enable j → s.fieldRuns → s.getInt R.EMU_COUNT_count j ≠ s.emuTarget j →
      State.passedSince (s.emu j).edge (10 * max 4 (s.get R.EMU_CFG_gap j)) s.now →
      Does (.emuCountStep j) s fun t => t.getInt R.EMU_COUNT_count j = signed 32 (wrapNat 32 (s.getInt R.EMU_COUNT_count j +
        (s.emuTarget j - s.getInt R.EMU_COUNT_count j).sign)) ∧ (t.emu j).edge = some s.now ∧ t.tiles = s.tiles)

/-- A visit with nothing asked begins a conversion of the next enabled channel; a frequency conversion stores its counts and a
compliance flag without usable counts gives the verdict OPEN; a voltage conversion and a tone check with the compliance flag
give OPEN and end the visit; CHECK_NOW queues a check of every enabled channel; steering lands in test mode only; test stops
the visits and its end takes both pins away. Where a clause rests on a reading or a choice of the model, it is that of
assumption 44. -/
def Obligations.SensorFrontEndVisitsAndDecides : Prop :=
  ∀ (k : Fin 8) (s : State),
    -- visit
    (s.flag R.SFE_CTL_enable → s.flag R.SFE_CTL_test = false → s.sfe.visit = none → s.fieldRuns → s.sfe.asked = [] →
      s.sfeNext s.sfe.next = some k → s.get R.SFE_CTL_check_s = 0 → (s.sfeCh k).left = 0 →
      Does (.sfeVisit) s fun t => t.sfe.visit.map (fun (v : Visit) => (v.ch, v.check, v.volt, v.lead)) = some (k.val, false,
      false, false) ∧ t.flag R.SFE_STATUS_busy ∧ t.get R.SFE_STATUS_channel = k ∧ t.sfe.next = k.val + 1 ∧ t.tiles = s.tiles) ∧
    -- frequency
    (∀ v m nc compliance, s.sfeGated v → s.sfe.visit = some v → v.ch = k.val → v.check = false → v.volt = false →
      Does (.frequencyConversionDone m nc compliance) s fun t => t.get R.SFE_MCNT_m k = m % 2 ^ 32 ∧
      t.get R.SFE_NCNT_nc k = nc % 2 ^ 32 ∧ (m < 2 → compliance = true → v.lead = false → t.get R.SFE_TEMP_verdict k = 2 ∧
      t.flag R.SFE_TEMP_valid k = false ∧ t.sfe.visit = none) ∧ t.tiles = s.tiles) ∧
    -- voltage
    (∀ v sum, s.sfe.visit = some v → v.ch = k.val → v.check = false → v.volt = true → v.lead = false → v.leadDue = false →
      s.sfeSlotted v → s.flag R.SFE_STATUS_house_lost = false → Does (.voltageConversionDone sum true) s fun t =>
      t.get R.SFE_TEMP_verdict k = 2 ∧ t.sfe.visit = none ∧ t.flag R.SFE_STATUS_busy = false ∧ t.tiles = s.tiles) ∧
    -- tone
    (∀ v re im compliance, s.sfe.visit = some v → v.ch = k.val → v.check = true → s.flag R.SFE_STATUS_house_lost = false →
      s.sfeToned v → 0 < re → Does (.toneCheck re im compliance) s fun t =>
      t.get R.SFE_ZAC_r_ac k = satUnsigned 32 (roundDiv (10 ^ 15) re.toNat) ∧ (t.sfeCh k).checked ∧ t.sfe.visit = none ∧
      (compliance = true → t.get R.SFE_TEMP_verdict k = 2) ∧ t.tiles = s.tiles) ∧
    -- checkNow
    (Does (.checkNow) s fun t => t.sfe.asked = s.sfe.asked ++ ((State.sfeAll.filter fun (i : Fin 8) =>
      s.flag R.SFE_CFG_enable i).map fun (i : Fin 8) => (i.val, true)) ∧ t.regs = s.regs) ∧
    -- steer
    (∀ v, s.flag R.SFE_CTL_test → 16 ≤ bits v.toNat 4 0 ∨ bits v.toNat 4 0 ≠ bits v.toNat 12 8 → bits v.toNat 26 24 ≠ 7 →
      Does (.sfeSteerWrite v) s fun t => t.get R.SFE_STEER_exc = bits v.toNat 26 24 ∧
      t.get R.SFE_STEER_pin_b = bits v.toNat 12 8 ∧ t.get R.SFE_STEER_pin_a = bits v.toNat 4 0 ∧
      OnlyRegs [R.SFE_STEER.at 0] s t) ∧
    -- steerRefused
    (∀ v, s.flag R.SFE_CTL_test = false → Does (.sfeSteerWrite v) s fun t => t.flag R.SFE_STATUS_cfg_refused ∧
      OnlyRegs [R.SFE_STATUS.at 0] s t) ∧
    -- test
    (
      (s.flag R.SFE_STATUS_house_lost = false → s.flag R.SFE_CTL_test = false →
        Does (.sfeTestWrite true) s fun t => t.flag R.SFE_CTL_test ∧ t.sfe.visit = none ∧ t.flag R.SFE_STATUS_busy = false) ∧
      (s.flag R.SFE_CTL_test = true → Does (.sfeTestWrite false) s fun t => t.flag R.SFE_CTL_test = false ∧
        t.get R.SFE_STEER_pin_a = 0x1F ∧ t.get R.SFE_STEER_pin_b = 0x1F ∧ t.sfe.next = 0))

/-- A legal formation takes the lowest free slot and makes the member tiles on this device members; a legal GROUP_MOVE at the
leader takes the next sequence number; a member that meets the ready condition shows it; the group scale is the least of the
devices' latest requests on every local member; a plan checksum is entered at the leader; a missing checksum marks every local
member; a dissolution frees the slot and releases its members. Where a clause rests on a reading or a choice of the model, it
is that of assumptions 9, 11, 22 and 33. -/
def Obligations.GroupsFormMoveAndDissolve : Prop :=
  ∀ (k : Fin 16) (d : Desc) (g : GroupSlot) (s : State),
    -- form
    (∀ leader ms tag, s.motionRefusal d.ref = none → s.isRoot = false ∨ d.ref.own = false → fieldLE d.slot 0x20 2 = tag →
      tag ≠ 0 → s.slotOfTag tag = none → 50 ≤ fieldLE d.slot 0x22 2 → fieldLE d.slot 0x22 2 ≤ 1000 →
      fieldLE d.slot 0x24 1 = ms.length → ms ≠ [] → ms.length ≤ 16 → ms.Nodup →
      ((ms.filter fun a => s.isHere a).any fun a => s.isMember a.tile || decide (s.get R.POS_WRAP_modulus a.tile ≠ 0)) = false →
      ((List.range 16).find? fun i => (s.group i).isNone) = some k.val →
      Does (.groupForm d leader ms) s fun t => (t.group k).map (fun (x : GroupSlot) => (x.tag, x.lead, x.leaderHere)) = some (tag,
        fieldLE d.slot 0x22 2, leader.isNone) ∧ (∀ a ∈ ms, s.isHere a = true → t.isMember a.tile ∧
        t.get R.GROUP_CFG_slot a.tile = k)) ∧
    -- dissolve
    (s.slotOfTag (fieldLE d.slot 0x20 2) = some k.val → Does (.groupDissolve d) s fun t => t.group k = none ∧
      ∀ n ∈ s.localMembers k, t.isMember n = false) ∧
    -- move
    (∀ (len vel acc jerk : Nat), s.motionRefusal d.ref = none → s.ledSlot (fieldLE d.slot 0x20 2) = some k.val →
      s.group k = some g → State.moveFieldsOk d g (moveEntries d) → len = pathLen (s.moveDists g (moveEntries d) (State.moveReqOf
      d).absolute) →
      vel = pathLimit len (((s.moveDists g (moveEntries d) (State.moveReqOf d).absolute).map (fun (e : Nat × Int) =>
        e.2)).zip ((moveEntries d).map GroupEntry.vel)) →
      acc = pathLimit len (((s.moveDists g (moveEntries d) (State.moveReqOf d).absolute).map (fun (e : Nat × Int) =>
        e.2)).zip ((moveEntries d).map GroupEntry.acc)) →
      jerk = pathLimit len (((s.moveDists g (moveEntries d) (State.moveReqOf d).absolute).map (fun (e : Nat × Int) =>
        e.2)).zip ((moveEntries d).map GroupEntry.jerk)) →
      0 < vel → vel < 2 ^ 31 → 0 < acc → 0 < jerk → bits (State.moveReqOf d).w0 15 9 ≤ 100 →
        ((s.moveDists g (moveEntries d) (State.moveReqOf d).absolute).any (s.outsideSoft g)) = false →
      Does (.groupMove d) s fun t => (t.group k).map (fun (x : GroupSlot) => x.nextSeq) = some ((g.nextSeq + 1) % 2048) ∧
        ((t.group k).bind fun (x : GroupSlot) => x.last) = some (g.nextSeq, s.moveDists g (moveEntries d) (State.moveReqOf
        d).absolute)) ∧
    -- ready
    (∀ (n : Fin 64), s.readyNow n → s.timeGood → Does (.groupReady n) s fun t => t.flag R.GROUP_STATUS_ready n) ∧
    -- notReady
    (∀ (n : Fin 64), s.readyNow n = false ∨ s.timeGood = false → Does (.groupReady n) s fun t =>
      t.flag R.GROUP_STATUS_ready n = false ∧ OnlyRegs [R.GROUP_STATUS.at n] s t) ∧
    -- scale
    (s.group k = some g → Does (.scaleApply k) s fun t => (∀ n ∈ s.localMembers k,
      t.get R.GROUP_SCALE_scale_v n = (g.devices.map fun (e : Nat × Nat) =>
      (State.latestReq g e.1 s.tickStart).1).foldl min 32768 % 65536 ∧ t.get R.GROUP_SCALE_scale_a n = (g.devices.map fun (e : Nat
      × Nat) => (State.latestReq g e.1 s.tickStart).2).foldl min 32768 % 65536) ∧
      OnlyRegs ((s.localMembers k).map fun (n : Fin 64) => R.GROUP_SCALE.at n) s t) ∧
    -- checksum
    (∀ (n : Fin 64) (epoch seq : Nat), s.tickEnd % 10000000 = 0 → s.timeGood → s.ranNow k = [(n, epoch, seq)] →
      s.group k = some g → g.leaderHere → g.checks = [] → Does (.planChecksumTick k) s fun t =>
      (t.group k).map (fun (x : GroupSlot) => x.checks) = some [Checksum.mk s.tickEnd s.ownRoute (crc32c (s.planRecord n s.tickEnd
      epoch seq)) 1] ∧ t.tiles = s.tiles) ∧
    -- lost
    (∀ (tick : Nat), s.group k = some g → g.leaderHere → (g.checks.filter fun (c : Checksum) => decide (c.tick = tick)) ≠ [] →
      g.devices.any (fun (e : Nat × Nat) => (g.checks.filter fun (c : Checksum) =>
        decide (c.tick = tick)).all fun (c : Checksum) => decide (c.device ≠ e.1)) →
      Does (.checksumTimeout k tick) s fun t => ∀ n ∈ s.localMembers k, t.flag R.GROUP_STATUS_member_lost n) ∧
    -- complete
    (∀ (tick : Nat), s.group k = some g → g.devices.all (fun (e : Nat × Nat) => (g.checks.filter fun (c : Checksum) =>
      decide (c.tick = tick)).any fun (c : Checksum) => decide (c.device = e.1)) →
      Does (.checksumTimeout k tick) s fun t => (t.group k).map (fun (x : GroupSlot) =>
        x.checks) = some (g.checks.filter fun (c : Checksum) => decide (c.tick ≠ tick)) ∧ t.regs = s.regs)

/-- A group command at the leader joins the commands of its slot, to apply one lead ahead in a group that spans devices and on the
next tick in a group of this device alone, and touches no tile; while a step of site time holds a group that spans devices it
waits. At a device that leads no such group it is answered NO_TARGET. RESUME and REPLACE schedule only where motion is the
sender's to command, and are refused and counted elsewhere. When the tick comes, a command leaves the queue: STOP, ABORT or
FREEZE freezes every local member's trail, RESUME unfreezes every local member outside Lull and Fault and no other, and
REPLACE gives every local member that executes its GROUP_MOVE unstopped the new path target; a FREEZE that acted is answered
OK. With none due the queue stays. Where a clause rests on a reading or a choice of the model, it is that of assumptions 22
and 33. -/
def Obligations.GroupCommandsScheduleAndAct : Prop :=
  ∀ (k : Fin 16) (d : Desc) (g : GroupSlot) (s : State),
    -- schedule
    (∀ (apply : Nat), s.ledSlot (fieldLE d.slot 0x20 2) = some k.val → s.group k = some g →
      s.spread g = false ∨ s.stepHolds = false → (apply = if s.spread g then State.tickAtOrAfter (s.tickStart + State.leadNs g)
      else s.tickEnd) →

      Does (.groupStop d) s (fun t => (t.group k).map (fun (x : GroupSlot) => x.cmds) = some (g.cmds ++ [(⟨State.gcStop, 0, apply,
        0, 0, some d.ref⟩ : GroupCmd)]) ∧ t.tiles = s.tiles ∧ t.mem = s.mem) ∧
      Does (.groupAbort d) s (fun t => (t.group k).map (fun (x : GroupSlot) => x.cmds) = some (g.cmds ++ [(⟨State.gcAbort, 0,
        apply, 0, 0, some d.ref⟩ : GroupCmd)]) ∧ t.tiles = s.tiles ∧ t.mem = s.mem) ∧
      Does (.groupFreeze d) s (fun t => (t.group k).map (fun (x : GroupSlot) => x.cmds) = some (g.cmds ++ [(⟨State.gcFreeze, 0,
        apply, 0, 0, some d.ref⟩ : GroupCmd)]) ∧ t.tiles = s.tiles ∧ t.mem = s.mem)) ∧
    -- motion
    (∀ (apply : Nat), s.motionRefusal d.ref = none → s.ledSlot (fieldLE d.slot 0x20 2) = some k.val → s.group k = some g →
      s.spread g = false ∨ s.stepHolds = false → (apply = if s.spread g then State.tickAtOrAfter (s.tickStart + State.leadNs g)
      else s.tickEnd) →

      Does (.groupResume d) s (fun t => (t.group k).map (fun (x : GroupSlot) => x.cmds) = some (g.cmds ++ [(⟨State.gcResume, 0,
        apply, 0, 0, some d.ref⟩ : GroupCmd)]) ∧ t.tiles = s.tiles ∧ t.mem = s.mem) ∧
      Does (.groupReplace d) s (fun t => (t.group k).map (fun (x : GroupSlot) => x.cmds) = some (g.cmds ++ [(⟨State.gcReplace,
        signed 32 (fieldLE d.slot 0x24 4), apply, 0, 0, some d.ref⟩ : GroupCmd)]) ∧ t.tiles = s.tiles ∧ t.mem = s.mem)) ∧
    -- waits
    (s.ledSlot (fieldLE d.slot 0x20 2) = some k.val → s.group k = some g → s.spread g → s.stepHolds →
      Does (.groupStop d) s (fun t => t.group k = some g ∧ (.cmd k.val State.gcStop 0 0 0 (some d.ref) : StepWait) ∈ t.clock.waits
        ∧ t.tiles = s.tiles ∧ t.mem = s.mem) ∧
      Does (.groupAbort d) s (fun t => t.group k = some g ∧ (.cmd k.val State.gcAbort 0 0 0 (some d.ref) : StepWait) ∈
        t.clock.waits ∧ t.tiles = s.tiles ∧ t.mem = s.mem) ∧
      Does (.groupFreeze d) s (fun t => t.group k = some g ∧ (.cmd k.val State.gcFreeze 0 0 0 (some d.ref) : StepWait) ∈
        t.clock.waits ∧ t.tiles = s.tiles ∧ t.mem = s.mem)) ∧
    -- barred
    (∀ (st : Nat), s.motionRefusal d.ref = some st → MailOpen s d.ref →
      Does (.groupResume d) s (fun t => Answers s t d.ref st 0 ∧ t.groups = s.groups ∧ t.tiles = s.tiles ∧
        t.get R.USF_AUTH_REFUSED_count = min (s.get R.USF_AUTH_REFUSED_count + 1) (2 ^ (R.USF_AUTH_REFUSED_count.msb + 1 -
        R.USF_AUTH_REFUSED_count.lsb) - 1)) ∧
      Does (.groupReplace d) s (fun t => Answers s t d.ref st 0 ∧ t.groups = s.groups ∧ t.tiles = s.tiles ∧
        t.get R.USF_AUTH_REFUSED_count = min (s.get R.USF_AUTH_REFUSED_count + 1) (2 ^ (R.USF_AUTH_REFUSED_count.msb + 1 -
        R.USF_AUTH_REFUSED_count.lsb) - 1))) ∧
    -- noGroup
    (s.ledSlot (fieldLE d.slot 0x20 2) = none → MailOpen s d.ref →
      Does (.groupStop d) s (fun t => Answers s t d.ref 0x05 0 ∧ t.groups = s.groups ∧ t.tiles = s.tiles) ∧
      Does (.groupAbort d) s (fun t => Answers s t d.ref 0x05 0 ∧ t.groups = s.groups ∧ t.tiles = s.tiles) ∧
      Does (.groupFreeze d) s (fun t => Answers s t d.ref 0x05 0 ∧ t.groups = s.groups ∧ t.tiles = s.tiles)) ∧
    -- apply
    (∀ (c : GroupCmd), s.group k = some g → (g.cmds.filter fun (c : GroupCmd) => decide (c.apply ≤ s.tickStart)) = [c] →
      c.cmd = State.gcStop ∨ c.cmd = State.gcAbort ∨ c.cmd = State.gcFreeze →
      Does (.groupCmdApply k) s fun t => (∀ n ∈ s.localMembers k, t.frozen n) ∧
        (t.group k).map (fun (x : GroupSlot) => x.cmds) = some (g.cmds.filter fun (c : GroupCmd) =>
        decide (s.tickStart < c.apply))) ∧
    -- applyAnswer
    (∀ (c : GroupCmd) (r : CmdRef), s.group k = some g → (g.cmds.filter fun (c : GroupCmd) =>
      decide (c.apply ≤ s.tickStart)) = [c] →
      c.cmd = State.gcFreeze → c.ref = some r → MailOpen s r → Does (.groupCmdApply k) s fun t => Answers s t r 0 0 ∧
        (∀ x ∈ t.hamper.tracks, x.ref ≠ r)) ∧
    -- applyResume
    (∀ (c : GroupCmd), s.group k = some g → (g.cmds.filter fun (c : GroupCmd) => decide (c.apply ≤ s.tickStart)) = [c] →
      c.cmd = State.gcResume → Does (.groupCmdApply k) s fun t => (∀ n ∈ s.localMembers k, t.frozen n = if s.st n = stLull ∨
        s.st n = stFault then s.frozen n else false) ∧ (t.group k).map (fun (x : GroupSlot) =>
        x.cmds) = some (g.cmds.filter fun (c : GroupCmd) => decide (s.tickStart < c.apply))) ∧
    -- applyReplace
    (∀ (c : GroupCmd), s.group k = some g → (g.cmds.filter fun (c : GroupCmd) => decide (c.apply ≤ s.tickStart)) = [c] →
      c.cmd = State.gcReplace → Does (.groupCmdApply k) s fun t => (∀ n ∈ s.localMembers k, ∀ e, (s.plan n).exec = some e →
        (s.plan n).handover = false → segType e.seg = 6 → e.stop = Stopping.none →
        ((t.plan n).exec.bind fun (x : Exec) => x.target) = some (c.target * one70)) ∧
        (t.group k).map (fun (x : GroupSlot) => x.cmds) = some (g.cmds.filter fun (c : GroupCmd) =>
        decide (s.tickStart < c.apply))) ∧
    -- applyNone
    (s.group k = some g → (g.cmds.filter fun (c : GroupCmd) => decide (c.apply ≤ s.tickStart)) = [] →
      Does (.groupCmdApply k) s fun t => (t.group k).map (fun (x : GroupSlot) => x.cmds) = some g.cmds ∧
        (∀ n, t.frozen n = s.frozen n))

/-- A write of TI_PLACE with a legal segment and a free slot places it and answers its pointer; TI_RELEASE meets the waiting
condition of its code; the alarm arms with the held or the kept low word, fires once and disarms; messages and their
acknowledgements pass, and a second message is refused, changing nothing but the refusal; interrupt lines 6, 7 and 8 become
pending. Where a clause rests on a reading or a choice of the model, it is that of assumptions 23 and 45. -/
def Obligations.TileInterfaceActs : Prop :=
  ∀ (n : Fin 64) (s : State),
    -- place
    (∀ (g : Seg), g = (let c := s.core (State.coreIx n); (⟨c.seg[0].toNat, c.seg[1].toNat, c.seg[2].toNat, c.seg[3].toNat, c.seg[4].toNat, c.seg[5].toNat, c.seg[6].toNat, c.seg[7].toNat⟩ : Seg)) →
      segType g ≠ 6 → s.segLegal n g → s.trailCount n < 1024 → Does (.tiPlace n) s fun t =>
        (t.core (State.coreIx n)).place = BitVec.ofNat 32 (s.tail n) ∧ t.tail n = (s.tail n + 1) % 2048 ∧
        MemOutside (slotAddr n (s.tail n)) 32 s t) ∧
    -- placeIllegal
    (∀ (g : Seg), g = (let c := s.core (State.coreIx n); (⟨c.seg[0].toNat, c.seg[1].toNat, c.seg[2].toNat, c.seg[3].toNat, c.seg[4].toNat, c.seg[5].toNat, c.seg[6].toNat, c.seg[7].toNat⟩ : Seg)) →
      segType g ≠ 6 → s.segLegal n g = false → Does (.tiPlace n) s fun t =>
        (t.core (State.coreIx n)).place = BitVec.ofNat 32 (2 ^ 24 + (s.core (State.coreIx n)).place.toNat % 2 ^ 11) ∧
        OnlyCore (State.coreIx n) (coreWords (State.coreIx n)) s t) ∧
    -- release
    (∀ (code : BitVec 16), 0 < s.trailCount n → (s.plan n).exec = none → segCond (s.segAt n (s.head n)) = 4 →
      (s.segAt n (s.head n)).w6 % 65536 = code.toNat → Does (.tiRelease n code) s fun t => (t.plan n).condMet ∧
      OnlyTile n [] s t) ∧
    -- alarm
    (∀ v lo, sparseFind (State.tiKey n 0x30) s.holds = some (Requester.tile n, lo) →
      Does (.tiAlarmArm n v) s fun t => (t.core (State.coreIx n)).alarm = lo.toNat + 2 ^ 32 * v.toNat ∧
        (t.core (State.coreIx n)).armed) ∧
    -- alarmKept
    (∀ v, sparseFind (State.tiKey n 0x30) s.holds = none → Does (.tiAlarmArm n v) s fun t =>
      (t.core (State.coreIx n)).alarm = (s.core (State.coreIx n)).alarm % 2 ^ 32 + 2 ^ 32 * v.toNat ∧
      (t.core (State.coreIx n)).armed ∧ OnlyCore (State.coreIx n) (coreWords (State.coreIx n)) s t) ∧
    -- disarm
    (Does (.tiAlarmDisarm n) s fun t => (t.core (State.coreIx n)).armed = false ∧
      OnlyCore (State.coreIx n) (coreWords (State.coreIx n)) s t) ∧
    -- fires
    ((s.core (State.coreIx n)).armed → (s.core (State.coreIx n)).alarm ≤ s.now → s.coreState n ≠ 7 →
      Does (.tiAlarmFire n) s fun t => (t.core (State.coreIx n)).armed = false ∧ (t.core (State.coreIx n)).irqPend.getLsbD 8 ∧
      OnlyCore (State.coreIx n) (coreWords (State.coreIx n)) s t) ∧
    -- user
    (∀ v, Does (.hikerUser n v) s fun t => (t.core (State.coreIx n)).events = (s.core (State.coreIx n)).events.set 3 v) ∧
    -- mail
    (∀ v, s.flag R.HIKER_MBOX_CTL_from_full n = false → Does (.coreMailSend n v) s fun t => t.flag R.HIKER_MBOX_CTL_from_full n ∧
      t.get (R.HIKER_MBOX_FROM_word.nth 3) n = v.toNat ∧ (∀ i : Fin 3, t.get (R.HIKER_MBOX_FROM_word.nth i) n = ((s.core
      (State.coreIx n)).outBox[i.val]).toNat)) ∧
    -- mailRefused
    (∀ v, s.flag R.HIKER_MBOX_CTL_from_full n → Does (.coreMailSend n v) s fun t => (t.core (State.coreIx n)).outRefused ∧
      OnlyCore (State.coreIx n) (coreWords (State.coreIx n)) s t) ∧
    -- inAck
    (Does (.inAck n) s fun t => t.flag R.HIKER_MBOX_CTL_to_full n = false ∧ OnlyRegs [R.HIKER_MBOX_CTL.at n] s t) ∧
    -- host
    (∀ v, s.flag R.HIKER_MBOX_CTL_to_full n = false → Does (.hostMailSend n v) s fun t => t.flag R.HIKER_MBOX_CTL_to_full n ∧
      (t.core (State.coreIx n)).inBox[3] = v ∧ (t.core (State.coreIx n)).irqPend.getLsbD 6 ∧ (s.st n = stAsleep →
      (t.tile n).lull.wakePending)) ∧
    -- hostRefused
    (∀ v, s.flag R.HIKER_MBOX_CTL_to_full n → Does (.hostMailSend n v) s fun t =>
      (t.core (State.coreIx n)).inBox = (s.core (State.coreIx n)).inBox ∧ OnlyRegs [R.HIKER_MBOX_CTL.at n,
      R.HIKER_MBOX_TO_word.nth 3 |>.at n] s t) ∧
    -- fromAck
    (Does (.fromAck n) s fun t => t.flag R.HIKER_MBOX_CTL_from_full n = false ∧ (t.core (State.coreIx n)).irqPend.getLsbD 7)

/-- An enabled pending line of a running core at an allowed boundary enters the exception 0x0F with the lowest line; a start
without a source goes on from STOPPED and with one begins a load; a stop at a boundary stops; a reset returns the core to
RESET with cleared registers; the end of a load runs the image at its entry or records R422's result. Where a clause rests on
a reading or a choice of the model, it is that of assumptions 37, 45 and 46. -/
def Obligations.CoresStartStopAndInterrupt : Prop :=
  ∀ (n : Fin 64) (s : State),
    -- interrupt
    (∀ (k : Fin 66) (c : Core), s.coreRuns k → c = State.endWait (s.core k) → State.atBoundary c → c.status.getLsbD 29 →
      c.status.getLsbD 28 = false → State.readyLines (s.core k) ≠ 0 → c.stepping = false →
      Does (.interrupt k) s fun t => t.core k = State.enterExc c (if k.val < 64 then 1 else 2)
      { cause := 0x0F, epc := c.pc, ds := false, bad := none, line := ((List.range 16).find? (State.readyLines (s.core k)).testBit).getD 0 }
      ∧ OnlyCore k (coreWords k ++ (if k.val < 64 then [R.HIKER_EXC.at k] else [])) s t) ∧
    -- startSrc
    (∀ v, bits v.toNat 28 27 ≠ 0 → s.innerState n ≠ 1 → s.innerState n ≠ 2 → s.innerState n ≠ 4 →
      Does (.hikerStart n v) s fun t => t.innerState n = 1 ∧ (t.core (State.coreIx n)).loadSrc = bits v.toNat 28 27) ∧
    -- startOn
    (∀ v, bits v.toNat 28 27 = 0 → s.innerState n = 3 → Does (.hikerStart n v) s fun t => t.innerState n = 2) ∧
    -- stop
    (s.coreState n = 2 → State.atBoundary (State.endWait (s.core (State.coreIx n))) →
      (s.core (State.coreIx n)).deferred ≠ some true → Does (.hikerStop n) s fun t => t.coreState n = 3 ∧
      (t.core (State.coreIx n)).waiting = false) ∧
    -- stopLater
    (s.coreState n = 2 → State.atBoundary (State.endWait (s.core (State.coreIx n))) = false →
      (s.core (State.coreIx n)).deferred ≠ some true → Does (.hikerStop n) s fun t => t.coreState n = 2 ∧
        (t.core (State.coreIx n)).deferred = some false) ∧
    -- reset
    (s.innerState n ≠ 0 → Does (.hikerReset n) s fun t => t.innerState n = 0 ∧ (t.core (State.coreIx n)).pc = 0 ∧
      (t.core (State.coreIx n)).g = Core.reset.g ∧ (t.core (State.coreIx n)).lock = none) ∧
    -- loadDone
    (∀ (img src : Option (List Byte)) (r : Nat), src = s.loadSource n img → s.innerState n = 1 →
      (s.core (State.coreIx n)).loadSrc ≠ 3 → r = State.imageCheck src false 0x18000 0x20000 (s.get R.HIKER_XIP_offset n) →
      Does (.hikerLoadDone n img) s fun t => t.get R.HIKER_STATUS_load_error n = r ∧ t.innerState n = (if r = 0 then 2 else 5) ∧
        (r = 0 → (t.core (State.coreIx n)).pc = BitVec.ofNat 32 (fieldLE (src.getD []) 0x0C 4))) ∧
    -- load
    (∀ (d : Desc) (img : Option (List Byte)), d.tile = n → s.motionRefusal d.ref = none → s.innerState n = 1 →
      (s.core (State.coreIx n)).loadSrc = 3 → s.isRoot → Does (.hikerLoad d img) s fun t =>
      t.get R.HIKER_STATUS_load_error n = State.imageCheck (img.map fun (b : List Byte) =>
      b.take (fieldLE d.slot 0x28 4)) false 0x18000 0x20000 (s.get R.HIKER_XIP_offset n))

/-- In lockstep, with one tile scanned: a scan that finds no breach clears the tile's count, leaves every register and tile and
restarts the watchdog; a scan that finds a velocity breach often enough, or the host silent for longer than the watchdog's
period, raises the tile's veto and its Lull source [18] and records the cause. VETO_RAISE raises the named tiles' vetoes,
VETO_DROP drops those of the release ticket and no other, SCAN_KICK restarts the watchdog, LOCKS sets locks and clears none,
and CANOPY_KICK restarts the host watchdog. Where a clause rests on a reading or a choice of the model, it is that of
assumptions 50 and 52. -/
def Obligations.CanopyScansAndVetoes : Prop :=
  ∀ (n : Fin 64) (s : State),
    -- quiet
    (s.gridDue s.canopy.scanAt[(0 : Fin 2)] 50000 → s.split = false → s.coreRuns State.canopy0 → (∀ m : Fin 64, m ≠ n →
      bit (s.safety m 0) 31 = false) → s.st n ≠ stAsleep → bit (s.safety n 0) 31 → s.scanTests n = none →
      Does (.canopyScan false) s fun t => t.safety n 7 = s.safety n 7 - bits (s.safety n 7) 23 16 * 2 ^ 16 ∧
      t.canopy.kickAt[(0 : Fin 2)] = s.now ∧ t.regs = s.regs ∧ t.tiles = s.tiles) ∧
    -- velocity
    (s.gridDue s.canopy.scanAt[(0 : Fin 2)] 50000 → s.split = false → s.coreRuns State.canopy0 → (∀ m : Fin 64, m ≠ n →
      bit (s.safety m 0) 31 = false) → s.st n = stHolding ∨ s.st n = stMoving → bit (s.safety n 0) 31 →
      bit (s.safety n 0) 30 = false → bit (s.safety n 0) 29 = false → bit (s.safety n 0) 28 →
      s.safety n 3 < (s.getInt R.VEL_vel n).natAbs → max 1 (bits (s.safety n 0) 25 22) ≤ bits (s.safety n 7) 23 16 →
      s.vetoed n = false → Does (.canopyScan false) s fun t => t.vetoed n ∧ t.fbit R.TILE_STATE_lull_source 2 n ∧
        bits (t.safety n 7) 31 24 = 3 ∧ t.canopy.kickAt[(0 : Fin 2)] = s.now) ∧
    -- hostSilent
    (s.gridDue s.canopy.scanAt[(0 : Fin 2)] 50000 → s.split = false → s.coreRuns State.canopy0 → (∀ m : Fin 64, m ≠ n →
      bit (s.safety m 0) 31 = false) → s.st n ≠ stAsleep → bit (s.safety n 0) 31 → bit (s.safety n 0) 30 = false →
      bit (s.safety n 0) 29 = false → bit (s.safety n 0) 28 = false → bit (s.safety n 0) 27 = false → bit (s.safety n 0) 26 →
      bits (s.safety 64 0) 15 0 ≠ 0 → 1000000 * bits (s.safety 64 0) 15 0 < s.now - s.canopy.hostKick →
      s.vetoed n = false → Does (.canopyScan false) s fun t => t.vetoed n ∧ t.fbit R.TILE_STATE_lull_source 2 n ∧
        bits (t.safety n 7) 31 24 = 6) ∧
    -- stoppedCore
    (∀ (one : Bool), s.coreRuns (s.canopyCore one) = false → Does (.canopyScan one) s fun t => t.tiles = s.tiles ∧
      t.regs = s.regs ∧ t.canopy = { s.canopy with scanAt := t.canopy.scanAt }) ∧
    -- scanWaits
    (∀ (one : Bool), s.gridDue s.canopy.scanAt[s.canopyIndex one] 50000 = false → Does (.canopyScan one) s fun t => t = s) ∧
    -- raise
    (∀ (one hi : Bool) v, n ∈ s.maskTiles one hi v → Does (.vetoRaise one hi v) s fun t => t.vetoed n ∧
      t.fbit R.TILE_STATE_lull_source 2 n) ∧
    -- drop
    (∀ (one hi : Bool) v, n ∈ s.maskTiles one hi v → s.vetoed n → Does (.vetoDrop one hi v) s fun t =>
      t.vetoed n = !s.canopy.ticket.testBit n ∧ (s.canopy.ticket.testBit n = true →
      t.fbit R.TILE_STATE_lull_source 2 n = false)) ∧
    -- dropNone
    (∀ (one hi : Bool) v, (∀ m ∈ s.maskTiles one hi v, s.canopy.ticket.testBit m.val = false ∨ s.vetoed m = false) →
      Does (.vetoDrop one hi v) s fun t => t = s) ∧
    -- kick
    (∀ (one : Bool), Does (.scanKick one) s fun t => t.canopy.kickAt[(if s.split && one then 1 else 0 : Fin 2)] = s.now ∧
      t = { s with canopy := t.canopy } ∧ t.canopy = { s.canopy with kickAt := t.canopy.kickAt }) ∧
    -- locks
    (∀ (one : Bool) v, s.split = false ∨ s.ownedByOne n = one → Does (.locksSet one v) s fun t =>
      t.flag R.TRIP_LOCK_lock = (s.flag R.TRIP_LOCK_lock || v.getLsbD 0) ∧ t.flag R.FB_LOCK_lock n = (s.flag R.FB_LOCK_lock n ||
      v.getLsbD 1) ∧ t = { s with regs := t.regs }) ∧
    -- hostKick
    (Does (.hostKick) s fun t => t.canopy.hostKick = s.now ∧ t = { s with canopy := t.canopy } ∧
      t.canopy = { s.canopy with hostKick := t.canopy.hostKick })

/-- In lockstep, while Canopy has not stopped, a mismatch on a lane, a failed comparator self-test, 200 µs without a SCAN_KICK and
an uncorrectable ECC error of a dirty line each latch their flag, clear safety_claim, stop both cores and set Lull source [19]
on every tile; a passed self-test counts one and moves to the next position; a corrected error is counted and changes nothing
else; an uncorrectable error of a clean line drops the line from the core. Where a clause rests on a reading or a choice of
the model, it is that of assumptions 47 and 52. -/
def Obligations.CanopyFailureStopsThePair : Prop :=
  ∀ (n : Fin 64) (s : State),
    -- mismatch
    (∀ (lane : Fin 5), s.get R.CANOPY_STATUS_mode = 0 → (s.core State.canopy0).stopped = false →
      Does (.lockstepMismatch lane) s fun t => t.flag R.CANOPY_STATUS_mismatch ∧ t.get R.CANOPY_MISMATCH_lane = lane.val + 1 ∧
      t.flag R.CANOPY_STATUS_safety_claim = false ∧ (t.core State.canopy0).stopped ∧ (t.core State.canopy1).stopped ∧
      t.fbit R.TILE_STATE_lull_source 3 n) ∧
    -- selfTestPasses
    (s.recent s.canopy.testAt 99000000 = false → s.get R.CANOPY_STATUS_mode = 0 → (s.core State.canopy0).stopped = false →
      Does (.comparatorSelftest true) s fun t => t.get R.CANOPY_SELFTEST_word = (s.get R.CANOPY_SELFTEST_word / 256 + 1) % 2 ^ 24
      * 256 + (s.get R.CANOPY_SELFTEST_word % 256 + 1) % 256 ∧ OnlyCore State.canopy0 [R.CANOPY_SELFTEST.off]
      { s with canopy := { s.canopy with testAt := some s.now } } t) ∧
    -- selfTestFails
    (s.recent s.canopy.testAt 99000000 = false → s.get R.CANOPY_STATUS_mode = 0 → (s.core State.canopy0).stopped = false →
      Does (.comparatorSelftest false) s fun t => t.flag R.CANOPY_STATUS_selftest_fail ∧ t.flag R.CANOPY_STATUS_mismatch ∧
      t.flag R.CANOPY_STATUS_safety_claim = false ∧ (t.core State.canopy0).stopped ∧ (t.core State.canopy1).stopped ∧
      t.fbit R.TILE_STATE_lull_source 3 n) ∧
    -- notInLockstep
    (∀ (lane : Fin 5) (ok : Bool), s.get R.CANOPY_STATUS_mode ≠ 0 ∨ (s.core State.canopy0).stopped = true →

      (Does (.lockstepMismatch lane) s fun t => t = s) ∧
      (Does (.comparatorSelftest ok) s fun t => t = s)) ∧
    -- watchdog
    (s.get R.CANOPY_STATUS_mode = 0 → s.bench = false → (s.core State.canopy0).stopped = false →
      (s.core State.canopy0).wasState ≠ 0 → s.canopy.kickAt[(0 : Fin 2)] + 200000 ≤ s.now →
      Does (.scanWatchdog false) s fun t => t.flag R.CANOPY_STATUS_scan_wd ∧ t.flag R.CANOPY_STATUS_safety_claim = false ∧
      (t.core State.canopy0).stopped ∧ (t.core State.canopy1).stopped ∧ t.fbit R.TILE_STATE_lull_source 3 n) ∧
    -- watchdogKicked
    (∀ (one : Bool), s.now < s.canopy.kickAt[(if s.split && one then 1 else 0 : Fin 2)] + 200000 →
      Does (.scanWatchdog one) s fun t => t = s) ∧
    -- corrected
    (∀ b dirty addr, Does (.canopyEccError b true dirty addr) s fun t => (if b then t.get R.CANOPY_ECC_corr_b = min (s.get
      R.CANOPY_ECC_corr_b + 1) 0xFFFF ∧ t.get R.CANOPY_ECC_corr_a = s.get R.CANOPY_ECC_corr_a else t.get R.CANOPY_ECC_corr_a = min
      (s.get R.CANOPY_ECC_corr_a + 1) 0xFFFF ∧ t.get R.CANOPY_ECC_corr_b = s.get R.CANOPY_ECC_corr_b) ∧
      OnlyRegs [R.CANOPY_ECC.off] s t) ∧
    -- dirty
    (∀ b addr, s.get R.CANOPY_STATUS_mode = 0 → Does (.canopyEccError b false true addr) s fun t =>
      t.flag R.CANOPY_STATUS_mismatch ∧ t.get R.CANOPY_MISMATCH_lane = 7 ∧ t.flag R.CANOPY_STATUS_safety_claim = false ∧
      (t.core State.canopy0).stopped ∧ (t.core State.canopy1).stopped ∧ t.fbit R.TILE_STATE_lull_source 3 n) ∧
    -- clean
    (∀ b addr, Does (.canopyEccError b false false addr) s fun t => (∀ l ∈ (t.core (s.canopyCore b)).dcache,
      l.addr ≠ addr.toNat / 32 * 32) ∧ (∀ l ∈ (t.core (s.canopyCore b)).fetchBuf, l.addr ≠ addr.toNat / 32 * 32) ∧
      t = { s with cores := t.cores } ∧ (∀ k : Fin 66, k.val < 64 → t.core k = s.core k))

/-- A governor round of a running Canopy leaves at most as many tiles with a full-mode grant or a loan as R561's capacity, counts
one denial when a requester is left without a grant and none otherwise; while Canopy does not run the round changes no
register and no tile. Where a clause rests on a reading or a choice of the model, it is that of assumption 26. -/
def Obligations.GovernorRoundKeepsCapacity : Prop :=
  ∀ (s : State),
    -- up
    (s.canopyUp → s.gridDue s.canopy.roundAt 100000 → Does (.governorRound) s fun t => t.govHolders.length ≤ s.govCapacity ∧
      t.get R.GOV_STATUS_denied = (if (∃ n : Fin 64, t.govRequests n = true ∧
      t.flag R.SD_STATUS_grant n = false) then min (s.get R.GOV_STATUS_denied + 1) 0xFFFF else s.get R.GOV_STATUS_denied)) ∧
    -- down
    (s.canopyUp = false → Does (.governorRound) s fun t => t.regs = s.regs ∧ t.tiles = s.tiles)

/-- A waiting STATUS request is answered with code 1, OK, the words of CANOPY_STATUS and GOV_STATUS and the vetoes of tiles 0 to
31; a VERSION request with code 3, the firmware build, the image identifier and the checksum of the safety table; a CHECKPOINT
request with the generation it committed, or BUSY during Dusk; an unlisted code UNKNOWN. Each answer sets from_full and clears
to_full; with nothing waiting nothing changes. Where a clause rests on a reading or a choice of the model, it is that of
assumption 51. -/
def Obligations.CanopyMailboxAnswers : Prop :=
  ∀ (s : State),
    -- status
    (s.cmbWaiting = some 1 → Does (.cmbStatus) s fun t => t.get R.CMB_FROM_word 0 = 1 ∧
      t.get R.CMB_FROM_word 1 = (s.rd R.CANOPY_STATUS.off).toNat ∧ t.get R.CMB_FROM_word 2 = (s.rd R.GOV_STATUS.off).toNat ∧
      t.get R.CMB_FROM_word 3 = s.get R.VETO_LO_tiles ∧ t.flag R.CMB_CTL_from_full ∧ t.flag R.CMB_CTL_to_full = false ∧
      OnlyRegs [R.CMB_FROM.at 0, R.CMB_FROM.at 1, R.CMB_FROM.at 2, R.CMB_FROM.at 3, R.CMB_CTL.off] s t) ∧
    -- version
    (s.cmbWaiting = some 3 → Does (.cmbVersion) s fun t => t.get R.CMB_FROM_word 0 = 3 ∧
      t.get R.CMB_FROM_word 1 = s.get R.CANOPY_FW_build ∧ t.get R.CMB_FROM_word 2 = s.get R.CANOPY_FW_ID_image_id ∧
      t.get R.CMB_FROM_word 3 = crc32c s.safetyBytes ∧ t.flag R.CMB_CTL_from_full ∧ t.flag R.CMB_CTL_to_full = false ∧
      t = { s with regs := t.regs }) ∧
    -- checkpoint
    (s.cmbWaiting = some 2 → s.flag R.PWR_STATUS_dusk_active = false → Does (.cmbCheckpoint) s fun t =>
      t.get R.CMB_FROM_word 0 = 2 ∧ t.get R.CMB_FROM_word 1 = t.get R.PS_CKPT_GEN_gen ∧ t.flag R.CMB_CTL_from_full ∧
      t.flag R.CMB_CTL_to_full = false) ∧
    -- busy
    (s.cmbWaiting = some 2 → s.flag R.PWR_STATUS_dusk_active → Does (.cmbCheckpoint) s fun t =>
      t.get R.CMB_FROM_word 0 = 2 + 256 * 2 ∧ t.flag R.CMB_CTL_to_full = false ∧ t = { s with regs := t.regs }) ∧
    -- unknown
    (∀ (c : Nat), s.cmbWaiting = some c → c = 0 ∨ 3 < c → Does (.cmbStatus) s fun t => t.get R.CMB_FROM_word 0 = c + 256 ∧
      t.flag R.CMB_CTL_from_full ∧ t.flag R.CMB_CTL_to_full = false ∧ t = { s with regs := t.regs }) ∧
    -- none
    (s.cmbWaiting = none →
      (Does (.cmbStatus) s fun t => t = s) ∧
      (Does (.cmbCheckpoint) s fun t => t = s) ∧
      (Does (.cmbVersion) s fun t => t = s))

/-- With no request nothing happens; a request of another cause than Dusk waits out min_gap; a request served while the store can
be written ends the wait, records the commit's time and clears the note of motion; a Dusk commit writes the entry of every
tile at its generation's place. The checkpoint timer asks after motion once its minutes have passed, and does nothing earlier;
old records are refreshed at most once in 24 h of Run and never in FREE. Where a clause rests on a reading or a choice of the
model, it is that of assumption 48. -/
def Obligations.CheckpointsCommitAndWait : Prop :=
  ∀ (n : Fin 64) (s : State),
    -- none
    (s.ps.want = none → Does (.checkpointCommit) s fun t => t = s) ∧
    -- waits
    (∀ (c : Nat), s.ps.want = some c → c ≠ 2 → s.get R.PS_CKPT_GEN_gen ≠ 0 →
      s.now < s.ps.lastCommit + 10000000 * s.get R.PS_CKPT_CFG_min_gap →
      Does (.checkpointCommit) s fun t => t = s) ∧
    -- served
    (∀ (c : Nat), s.ps.want = some c → s.canopyUp → s.get R.PS_STATUS_mode ≠ 2 →
      c = 2 ∨ s.get R.PS_CKPT_GEN_gen = 0 ∨ s.ps.lastCommit + 10000000 * s.get R.PS_CKPT_CFG_min_gap ≤ s.now →
      Does (.checkpointCommit) s fun t => t.ps.want = none ∧ t.ps.moved = false ∧ t.ps.lastCommit = s.now ∧ t.ps.openGen = none ∧
        t.get64 R.PS_CKPT_TIME_LO_time R.PS_CKPT_TIME_HI_time = s.now % 2 ^ 64 ∧ t.flag R.PS_STATUS_open_ = false) ∧
    -- dusk
    (s.ps.want = some 2 → s.canopyUp → s.get R.PS_STATUS_mode ≠ 2 → s.ps.volatile_.testBit 0 = false → s.ps.openGen = none →
      Does (.checkpointCommit) s fun t => t.psBytes (64 * (State.ckptLine (s.ckptGen (s.psNextGen 0x07 0) 512) + 1) + 24 * n.val)
      24 = s.ckptEntry 2 (((s.psInForce 0x07 0).map s.psPayload).getD []) n) ∧
    -- timer
    (s.ps.want = none → s.get R.PS_STATUS_mode = 0 → s.flag R.PS_CKPT_CFG_timer_en → s.ps.moved →
      s.ps.lastCommit + 60 * 10 ^ 9 * max 1 (s.get R.PS_CKPT_CFG_timer_min) ≤ s.now →
      Does (.ckptTimer) s fun t => t.ps.want = some 1 ∧ t.regs = s.regs ∧ t.tiles = s.tiles ∧ t.mem = s.mem) ∧
    -- timerEarly
    (s.flag R.PS_CKPT_CFG_timer_en = false ∨ s.ps.moved = false ∨ s.now < s.ps.lastCommit + 60 * 10 ^ 9 * max 1 (s.get
      R.PS_CKPT_CFG_timer_min) →
      Does (.ckptTimer) s fun t => t = s) ∧
    -- refresh
    (s.get R.TIME_STATUS_state ≠ 0 → s.deviceRuns → s.canopyUp → s.ps.refreshed + 86400 * 10 ^ 9 ≤ s.now →
      Does (.recordRefresh) s fun t => t.ps.refreshed = s.now) ∧
    -- refreshEarly
    (s.get R.TIME_STATUS_state = 0 ∨ s.deviceRuns = false ∨ s.now < s.ps.refreshed + 86400 * 10 ^ 9 →
      Does (.recordRefresh) s fun t => t = s)

/-- A failing block takes the next spare of the pool and is counted, takes the store to frugal mode when the pool is empty, and
during Dusk leaves the record open (in normal mode no block has been taken as a victim yet). PS_LOAD_CTL.go starts a load or
is answered BUSY, and the load's end writes its result; a read of PS_LOG_DATA moves to the next word; PARAM_SAVE.go starts a
save, is abandoned during Dusk, or is answered BUSY, and its end clears busy, with result 4 and no record while Canopy does
not run. Where a clause rests on a reading or a choice of the model, it is that of assumptions 13, 48 and 49. -/
def Obligations.StoreFailuresLoadsAndSaves : Prop :=
  ∀ (s : State),
    -- spare
    (∀ (b : Fin 1704), s.flag R.PWR_STATUS_dusk_active = false → s.ps.used < 128 →
      Does (.blockFailure b) s fun t => sparseFind b.val t.ps.remap = some (1552 + s.ps.used) ∧ t.ps.used = s.ps.used + 1 ∧
      t.ps.retired = s.ps.retired + 1 ∧ t.get R.PS_STATUS_spares = 127 - s.ps.used) ∧
    -- frugal
    (∀ (b : Fin 1704), s.flag R.PWR_STATUS_dusk_active = false → 128 ≤ s.ps.used → s.get R.PS_STATUS_mode = 0 →
      s.ps.victims = [] → Does (.blockFailure b) s fun t => t.get R.PS_STATUS_mode = 1 ∧ t.ps.used = s.ps.used) ∧
    -- dusk
    (∀ (b : Fin 1704), s.flag R.PWR_STATUS_dusk_active → Does (.blockFailure b) s fun t => t.flag R.PS_STATUS_open_ ∧
      t.ps = s.ps ∧ t.tiles = s.tiles) ∧
    -- load
    (∀ (kind : Fin 2) number, s.flag R.PS_LOAD_CTL_busy = false → Does (.psLoadGo kind number) s fun t =>
      t.flag R.PS_LOAD_CTL_busy ∧ t.get R.PS_LOAD_CTL_kind = kind ∧ t.get R.PS_LOAD_CTL_number = number.toNat ∧ t.ps = s.ps ∧
      t.tiles = s.tiles ∧ t.mem = s.mem) ∧
    -- loadBusy
    (∀ (kind : Fin 2) number, s.flag R.PS_LOAD_CTL_busy → Does (.psLoadGo kind number) s fun t => t.get R.PS_LOAD_CTL_result = 1 ∧
      OnlyRegs [R.PS_LOAD_CTL.off] s t) ∧
    -- loadEnds
    (∀ img, s.flag R.PS_LOAD_CTL_busy → Does (.psLoadDone img) s fun t => t.flag R.PS_LOAD_CTL_busy = false ∧
      t.get R.PS_LOAD_CTL_result = (s.psLoadResult img).1) ∧
    -- loadNoData
    (s.flag R.PS_LOAD_CTL_busy → s.get R.PS_LOAD_CTL_kind = 0 → s.get R.PS_LOAD_CTL_number ≠ s.get R.DAWN_STATUS_booted →
      Does (.psLoadDone none) s fun t => t.get R.PS_LOAD_CTL_result = 5 ∧ t.mem = s.mem) ∧
    -- loadRunningSlot
    (∀ img, s.flag R.PS_LOAD_CTL_busy → s.get R.PS_LOAD_CTL_kind = 0 → s.get R.PS_LOAD_CTL_number = s.get R.DAWN_STATUS_booted →
      Does (.psLoadDone img) s fun t => t.get R.PS_LOAD_CTL_result = 2 ∧ t.mem = s.mem) ∧
    -- loadTooLong
    (∀ (img : List Byte), s.flag R.PS_LOAD_CTL_busy → s.get R.PS_LOAD_CTL_kind = 1 → s.get R.DAWN_STATUS_stage ≠ 6 →
      65536 < s.get R.PS_LOAD_LEN_length → Does (.psLoadDone (some img)) s fun t => t.get R.PS_LOAD_CTL_result = 4 ∧
      t.mem = s.mem) ∧
    -- loadNone
    (∀ img, s.flag R.PS_LOAD_CTL_busy = false → Does (.psLoadDone img) s fun t => t = s) ∧
    -- log
    (s.ps.log = [] → Does (.psLogDataRead) s fun t => t.readData = s.logWord ∧
      t.get R.PS_LOG_ADDR_word = (s.get R.PS_LOG_ADDR_word + 1) % 16 ∧ OnlyRegs [R.PS_LOG_ADDR.off]
      { s with readData := t.readData } t) ∧
    -- save
    (s.flag R.PARAM_SAVE_busy = false → s.flag R.PWR_STATUS_dusk_active = false →
      Does (.paramSave) s fun t => t.flag R.PARAM_SAVE_busy ∧ t.flag R.PS_STATUS_busy ∧
      OnlyRegs [R.PARAM_SAVE.off, R.PS_STATUS.off] s t) ∧
    -- saveInDusk
    (s.flag R.PARAM_SAVE_busy = false → s.flag R.PWR_STATUS_dusk_active → Does (.paramSave) s fun t =>
      t.flag R.PARAM_SAVE_busy = false ∧ t.get R.PARAM_SAVE_result = 2 ∧ t.get R.PARAM_SAVE_records = 0 ∧
      OnlyRegs [R.PARAM_SAVE.off, R.PS_STATUS.off] s t) ∧
    -- saveBusy
    (s.flag R.PARAM_SAVE_busy → Does (.paramSave) s fun t => t.get R.PARAM_SAVE_result = 1 ∧ t.flag R.PARAM_SAVE_busy ∧
      OnlyRegs [R.PARAM_SAVE.off] s t) ∧
    -- saveEnds
    (s.flag R.PARAM_SAVE_busy →
      (s.canopyUp = false → Does (.paramSaveDone) s fun t => t.flag R.PARAM_SAVE_busy = false ∧ t.get R.PARAM_SAVE_result = 4 ∧
        t.get R.PARAM_SAVE_records = 0 ∧ OnlyRegs [R.PARAM_SAVE.off, R.PS_STATUS.off] s t) ∧
      (s.canopyUp → s.get R.PS_STATUS_mode = 2 → Does (.paramSaveDone) s fun t => t.flag R.PARAM_SAVE_busy = false ∧
        t.get R.PARAM_SAVE_records = 0 ∧ (t.get R.PARAM_SAVE_result = 0 ∨ t.get R.PARAM_SAVE_result = 2) ∧
        OnlyRegs [R.PARAM_SAVE.off, R.PS_STATUS.off] s t) ∧
      (s.canopyUp → s.get R.PS_STATUS_mode ≠ 2 → Does (.paramSaveDone) s fun t => t.flag R.PARAM_SAVE_busy = false ∧
        t.get R.PARAM_SAVE_result ∈ [0, 3])) ∧
    -- saveNone
    (s.flag R.PARAM_SAVE_busy = false → Does (.paramSaveDone) s fun t => t = s)

/-- SYNC_SEND numbers its exchange and puts SYNC's FOLLOW_UP with the present count on every UP port that faces a child. A
follower that receives SYNC answers with DELAY_REQ, keeps what the exchange needs, leaves FREE for ACQUIRING and takes over an
announced step; the master ignores it. FOLLOW_UP of the same number gives t1. A parent answers DELAY_REQ with its count.
DELAY_RESP gives the delay and the offset and ends the exchange; four offsets within 50 ns lock, an offset above 1 µs unlocks;
ten intervals without SYNC take a LOCKED follower to HOLDOVER. Where a clause rests on a reading or a choice of the model, it
is that of assumption 53. -/
def Obligations.SiteTimeExchangesSteer : Prop :=
  ∀ (s : State),
    -- send
    (∀ (p : Fin 4), p ≠ 0 → s.portUp p → Does (.syncSend) s fun t => t.clock.seq = (s.clock.seq + 1) % 65536 ∧
      (p.val, s.mkFrame 0x41 0 0 false (bytesLE 2 s.clock.seq ++ bytesLE 1 s.epoch ++ [0, 0, 0, 0,
      0] ++ bytesLE 8 s.now)) ∈ t.usfen.wire ∧ t = { s with regs := t.regs, usfen := t.usfen, clock := t.clock }) ∧
    -- sync
    (∀ b, s.isMaster = false → bit (fieldLE b 3 1) 0 = false → s.portUp 0 →
      Does (.syncFrame b) s fun t => t.clock.sync.map (fun (x : SyncRx) => (x.seq, x.t1, x.t2, x.t3,
      x.epoch)) = some (fieldLE b 0 2, none, s.now, s.now, fieldLE b 2 1) ∧ t.clock.syncAt = s.now ∧
      (0, s.mkFrame 0x42 0 0 false (bytesLE 2 (fieldLE b 0 2) ++ [0, 0])) ∈ t.usfen.wire ∧
      t.get R.TIME_STATUS_state = (if s.get R.TIME_STATUS_state = 0 then 3 else s.get R.TIME_STATUS_state)) ∧
    -- syncStep
    (∀ b, s.isMaster = false → bit (fieldLE b 3 1) 0 → s.now < fieldLE b 8 8 → Does (.syncFrame b) s fun t => t.stepPending ∧
      t.stepAt = fieldLE b 8 8 ∧ t.stepNew = fieldLE b 16 8 ∧ t.clock.stepReset = bit (fieldLE b 3 1) 2) ∧
    -- syncMaster
    (∀ b, s.isMaster → Does (.syncFrame b) s fun t => t = s) ∧
    -- followUp
    (∀ b (x : SyncRx), s.clock.sync = some x → Does (.followUp b) s fun t =>
      t.clock.sync = some (if x.seq = fieldLE b 0 2 then { x with t1 := some (fieldLE b 8 8) } else x) ∧
      t = { s with clock := t.clock }) ∧
    -- delayReq
    (∀ (p : Fin 4) b, s.portUp p → Does (.delayReq p b) s fun t => (p.val,
      s.mkFrame 0x43 0 0 false (bytesLE 2 (fieldLE b 0 2) ++ [0, 0, 0, 0, 0, 0] ++ bytesLE 8 s.now)) ∈ t.usfen.wire ∧
      t = { s with regs := t.regs, usfen := t.usfen }) ∧
    -- delayResp
    (∀ b (x : SyncRx) (t1 : Nat) (d o : Int), s.clock.sync = some x → x.t1 = some t1 → s.isMaster = false →
      x.seq = fieldLE b 0 2 → s.clock.picky = false ∨ x.locked = true → d = truncDiv (((x.t2 : Int) - t1) + ((fieldLE b 8 8 : Int)
      - x.t3)) 2 →
      o = (x.t2 : Int) - t1 - d → -2147483648 ≤ d ∧ d ≤ 2147483647 → Does (.delayResp b) s fun t =>
        t.getInt R.TIME_DELAY_delay = d ∧ t.getInt R.TIME_OFFSET_offset = clampInt (-2147483648) 2147483647 o ∧
        t.clock.sync = none ∧ t.clock.good = (if o.natAbs ≤ 50 then s.clock.good + 1 else 0) ∧ (o.natAbs ≤ 50 → 3 ≤ s.clock.good →
        t.get R.TIME_STATUS_state = 4) ∧ (1000 < o.natAbs → s.get R.TIME_STATUS_state = 4 → t.get R.TIME_STATUS_state = 3)) ∧
    -- holdover
    (s.get R.TIME_STATUS_state = 4 → s.clock.syncAt + 10000 * s.get R.TIME_CFG_interval ≤ s.now →
      Does (.holdoverTimeout) s fun t => t.get R.TIME_STATUS_state = 5) ∧
    -- holdoverNot
    (s.get R.TIME_STATUS_state ≠ 4 ∨ s.now < s.clock.syncAt + 10000 * s.get R.TIME_CFG_interval →
      Does (.holdoverTimeout) s fun t => t = s)

/-- An accepted PPS_IN edge records its count and its offset from the nearest second and makes the master MASTER_PPS; an edge of
the wrong polarity, at a device that is not the master, disabled or within 0.9 s of the last is ignored. Silence for 1.1 s
takes it back to MASTER; a TIME_SET with at_pps that saw no edge in 1.1 s no longer waits. PPS_OUT follows the count. A step
applies at its count and not before: the count moves by the announced difference and the epoch advances on a backward step,
becomes 0 on a reset, saturates at 255 and otherwise stays. 100 ms after a wake the bar on energising ends. Where a clause
rests on a reading or a choice of the model, it is that of assumption 54. -/
def Obligations.TimeEdgesAndStepsApply : Prop :=
  ∀ (s : State),
    -- edge
    (∀ (fall : Bool), s.flag R.TIME_CFG_pps_en → s.isMaster → s.flag R.TIME_CFG_pps_fall = fall →
      (∀ a ∈ s.clock.ppsAt, a + 900000000 ≤ s.now) → Does (.ppsEdge fall) s fun t =>
      t.get64 R.TIME_PPS_LO_pps R.TIME_PPS_HI_pps = s.now % 2 ^ 64 ∧ t.getInt R.TIME_OFFSET_offset = State.ppsOffset s.now ∧
      t.get R.TIME_STATUS_state = 2 ∧ t.clock.ppsAt = some s.now ∧ t.now = s.now) ∧
    -- edgeIgnored
    (∀ (fall : Bool), s.flag R.TIME_CFG_pps_en = false ∨ s.isMaster = false ∨ s.flag R.TIME_CFG_pps_fall ≠ fall ∨
      (∃ a ∈ s.clock.ppsAt, s.now < a + 900000000) →
      Does (.ppsEdge fall) s fun t => t = s) ∧
    -- silence
    (∀ (a : Nat), s.clock.ppsAt = some a → s.get R.TIME_STATUS_state = 2 →
      Does (.ppsSilence) s fun t => (if a + 1100000000 ≤ s.now then t.get R.TIME_STATUS_state = 1 else t = s)) ∧
    -- atPps
    (Does (.atPpsTimeout) s fun t => t.clock.setting = s.clock.setting.filter (fun (q : CmdRef × Nat × Nat) =>
      decide (s.now < q.2.2 + 1100000000)) ∧ t.now = s.now) ∧
    -- out
    (Does (.ppsOutPulse) s fun t => t.ppsOut = (s.flag R.TIME_CFG_pps_out && decide (s.get R.PWR_STATUS_state < 2) && decide
      (s.now % 1000000000 < 100000)) ∧ t = { s with ppsOut := t.ppsOut }) ∧
    -- step
    (∀ (d : Int), s.stepPending → s.stepAt ≤ s.now → d = (s.stepNew : Int) - s.stepAt → s.clock.ppsLater = none →
      s.clock.waits = [] → Does (.timeStepApply) s fun t => t.now = ((s.now : Int) + d).toNat ∧ t.stepPending = false ∧
      t.epoch = (if s.clock.stepReset then 0 else if 0 ≤ d ∨ s.epoch = 255 then s.epoch else s.epoch + 1) ∧
      t.flag R.TIME_EPOCH_saturated = (if s.clock.stepReset then false else s.flag R.TIME_EPOCH_saturated || decide (d < 0 ∧
      s.epoch = 255))) ∧
    -- stepEarly
    (s.stepPending = false ∨ s.now < s.stepAt → Does (.timeStepApply) s fun t => t = s) ∧
    -- acquiring
    (∀ (a : Nat), s.clock.woke = some a → Does (.acquiringTimeout) s fun t => (if a + 100000000 ≤ s.now then t.clock.woke = none ∧
      t.get R.TIME_STATUS_state = s.get R.TIME_STATUS_state else t = s))

/-- In Run a request of Doze, Twilight or Night that R596 refuses records its reason and changes neither the power state nor a
tile; one that it does not refuse enters the state with no tile left Idle, or waits for a serial frame in progress. Auto-Doze
acts only when its flag is set. An enabled wake source is latched and returns the device from Doze and from Twilight to Run
and makes a Dawn due in Night; one that is not enabled does nothing in these states. The alarm fires once its time has come. A
write of LK_ALARM_HI arms it. Where a clause rests on a reading or a choice of the model, it is that of assumptions 36, 56, 58
and 59. -/
def Obligations.PowerStatesEnterAndWake : Prop :=
  ∀ (n : Fin 64) (s : State),
    -- refused
    (∀ (r : Nat), s.get R.PWR_STATUS_state < 2 → r ≠ 0 →
      (s.powerRefusal 1 = r → s.get R.PWR_STATUS_state = 0 → Does (.dozeRequest) s fun t => t.get R.PWR_STATUS_refused = r ∧
        t.get R.PWR_STATUS_state = s.get R.PWR_STATUS_state ∧ t.tiles = s.tiles) ∧
      (s.powerRefusal 2 = r → Does (.twilightRequest) s fun t => t.get R.PWR_STATUS_refused = r ∧
        t.get R.PWR_STATUS_state = s.get R.PWR_STATUS_state ∧ t.tiles = s.tiles) ∧
      (s.powerRefusal 3 = r → Does (.nightRequest) s fun t => t.get R.PWR_STATUS_refused = r ∧
        t.get R.PWR_STATUS_state = s.get R.PWR_STATUS_state ∧ t.tiles = s.tiles)) ∧
    -- doze
    (s.get R.PWR_STATUS_state = 0 → s.powerRefusal 1 = 0 → Does (.dozeRequest) s fun t => t.get R.PWR_STATUS_state = 1 ∧
      t.get R.PWR_STATUS_refused = 0 ∧ t.st n = (if s.st n = stIdle then stAsleep else s.st n)) ∧
    -- sleep
    (s.get R.PWR_STATUS_state < 2 → s.spcBusy = false →
      (s.powerRefusal 2 = 0 → Does (.twilightRequest) s fun t => t.get R.PWR_STATUS_state = 2 ∧
        t.get R.CLK_STATUS_quad_lock = 0) ∧
      (s.powerRefusal 3 = 0 → Does (.nightRequest) s fun t => t.get R.PWR_STATUS_state = 3 ∧ t.get R.CLK_STATUS_quad_lock = 0)) ∧
    -- sleepWaits
    (s.get R.PWR_STATUS_state < 2 → s.spcBusy →
      (s.powerRefusal 2 = 0 → Does (.twilightRequest) s fun t => t.lookout.entry = some 2 ∧ t = { s with lookout := t.lookout }) ∧
      (s.powerRefusal 3 = 0 → Does (.nightRequest) s fun t => t.lookout.entry = some 3 ∧ t = { s with lookout := t.lookout })) ∧
    -- autoDoze
    (
      (s.flag R.PWR_CTL_auto_doze = false → Does (.autoDoze) s fun t => t = s) ∧
      (s.flag R.PWR_CTL_auto_doze → s.get R.PWR_STATUS_state = 0 → s.powerRefusal 1 = 0 → (∀ m : Fin 64, s.st m = stAsleep ∧
        (s.tile m).cur.enteredAt + 1000000 * s.get R.PWR_CTL_doze_delay ≤ s.now) →
        Does (.autoDoze) s fun t => t.get R.PWR_STATUS_state = 1)) ∧
    -- wake
    (∀ (b : Fin 7), b.val ≠ 1 → s.get R.PWR_STATUS_state = 1 ∨ s.get R.PWR_STATUS_state = 2 → s.wakeEnabled b →
      s.flag R.PWR_STATUS_dusk_active = false → Does (.deviceWake b) s fun t => t.get R.PWR_STATUS_state = 0 ∧
      t.fbit R.WAKE_CAUSE_cause b) ∧
    -- nightWake
    (∀ (b : Fin 7), b.val ≠ 1 → s.get R.PWR_STATUS_state = 3 → s.wakeEnabled b → s.flag R.PWR_STATUS_dusk_active = false →
      Does (.deviceWake b) s fun t => t.lookout.dawnCause = some 3 ∧ t.fbit R.WAKE_CAUSE_cause b ∧ t.get R.PWR_STATUS_state = 3) ∧
    -- wakeNot
    (∀ (b : Fin 7), b.val ≠ 1 → s.get R.PWR_STATUS_state ≠ 0 → s.wakeEnabled b = false → Does (.deviceWake b) s fun t => t = s) ∧
    -- alarm
    (
      (s.lkAlarmDue = false → Does (.deviceWake 1) s fun t => t = s) ∧
      (s.lkAlarmDue → s.get R.PWR_STATUS_state = 0 → Does (.deviceWake 1) s fun t => t.lookout.alarm = false ∧
        t.fbit R.WAKE_CAUSE_cause 1)) ∧
    -- arm
    (∀ who v, Does (.lkAlarmArm who v) s fun t => t.rd 0x1014 = v ∧ t.lookout.alarm)

/-- A Dusk cause that holds starts Dusk once: its cause is recorded, every tile holds Lull source [23] and a checkpoint is asked
for; a cause that does not hold starts nothing. While the commit is awaited nothing is decided; then a supply that is not good
ends in Night, and one good for long enough ends RECOVERED, with Lull source [23] released. The loss and return of the 32.768
kHz crystal and the loss of the reference are recorded; a fall of the supply keeps the parameter store and nothing else of the
memories. Where a clause rests on a reading or a choice of the model, it is that of assumptions 60, 61 and 62. -/
def Obligations.DuskAndClocksKeepPositions : Prop :=
  ∀ (n : Fin 64) (s : State),
    -- start
    (∀ (c : Fin 3), s.duskDue (c.val + 1) → s.flag R.PWR_STATUS_dusk_active = false → s.lookout.off = false →
      s.get R.PWR_STATUS_state < 2 → Does (.duskStart c) s fun t => t.flag R.PWR_STATUS_dusk_active ∧
      t.get R.DUSK_STATUS_cause = c.val + 1 ∧ t.fbit R.TILE_STATE_lull_source 7 n ∧ (s.flag R.PS_STATUS_restored →
      t.ps.want = some 2)) ∧
    -- notDue
    (∀ (c : Fin 3), s.duskDue (c.val + 1) = false ∨ s.flag R.PWR_STATUS_dusk_active = true ∨ s.lookout.off = true →
      Does (.duskStart c) s fun t => t = s) ∧
    -- test
    (
      (s.bench = false → Does (.duskTest) s fun t => t = s) ∧
      (s.bench → s.flag R.PWR_STATUS_dusk_active = false → s.lookout.off = false →
        Does (.duskTest) s fun t => t.flag R.PWR_STATUS_dusk_active ∧ t.get R.DUSK_STATUS_cause = 4)) ∧
    -- waits
    (s.flag R.PWR_STATUS_dusk_active = false ∨ s.ps.want = some 2 → Does (.duskOutcome) s fun t => t = s) ∧
    -- night
    (s.flag R.PWR_STATUS_dusk_active → s.ps.want ≠ some 2 → s.flag R.PWR_STATUS_supply_good = false ∨
      s.flag R.PS_STATUS_restored = false →
      Does (.duskOutcome) s fun t => t.get R.PWR_STATUS_state = 3 ∧ t.get R.DUSK_STATUS_outcome = 2 ∧
        t.flag R.PWR_STATUS_dusk_active = false ∧ t.lookout.duskNight) ∧
    -- recovers
    (∀ (a : Nat), s.flag R.PWR_STATUS_dusk_active → s.ps.want ≠ some 2 → s.flag R.PWR_STATUS_supply_good →
      s.flag R.PS_STATUS_restored → s.lookout.goodFrom = some a → a + 1000000 * max 1 (s.get R.DUSK_CFG_recover) ≤ s.now →
      s.get R.PWR_STATUS_state < 2 → Does (.duskOutcome) s fun t => t.get R.DUSK_STATUS_outcome = 1 ∧
      t.flag R.PWR_STATUS_dusk_active = false ∧ t.fbit R.TILE_STATE_lull_source 7 n = false) ∧
    -- x32
    (
      (Does (.x32Loss) s fun t => t.flag R.XTAL_STATUS_x32_rc ∧ t.flag R.XTAL_STATUS_x32_ok = false ∧ t.tiles = s.tiles) ∧
      (Does (.x32Restore) s fun t => t.flag R.XTAL_STATUS_x32_rc = false ∧ t.flag R.XTAL_STATUS_x32_ok ∧
        OnlyRegs [R.XTAL_STATUS.off] s t)) ∧
    -- refLoss
    (
      (2 ≤ s.get R.PWR_STATUS_state → Does (.refClockLoss) s fun t => t = s) ∧
      (s.get R.PWR_STATUS_state < 2 → Does (.refClockLoss) s fun t => t.flag R.CLK_STATUS_ref_lost ∧
        t.flag R.XTAL_STATUS_x25_ok = false ∧ (s.flag R.DUSK_CFG_clock_en → s.flag R.PWR_STATUS_dusk_active = false →
        s.lookout.off = false → t.flag R.PWR_STATUS_dusk_active ∧ t.get R.DUSK_STATUS_cause = 3))) ∧
    -- supply
    (∀ (a : Nat), Does (.supplyFall) s fun t => t.byte a = (if paramStore ≤ a ∧ a < paramStore + 0x1000000 then s.byte a else 0) ∧
      t.lookout.off ∧ t.regs = State.reset.regs ∧ t.tiles = State.reset.tiles ∧ t.host = s.host)

/-- A go with the words and the room it needs starts a frame and marks the port busy; one without them, or on a busy or disabled
port, only sets cmd_refused. A flush empties its FIFO on an idle port and is refused on a busy one. An abort marks the frame
in progress, comes too late from its last clock edge on, and is refused without one. Pushes and pops keep the order, and set
tx_overflow and rx_underflow at the ends. A frame's end takes its words from the transmit FIFO to the receive FIFO's tail, and
counts it unless it was aborted. Where a clause rests on a reading or a choice of the model, it is that of assumption 63. -/
def Obligations.SerialPortsMoveFrames : Prop :=
  ∀ (k : Fin 4) (s : State),
    -- go
    (∀ (need : Nat), need = s.get R.SPC_FRAME_count k + 1 → s.flag R.SPC_CFG_enable k → s.flag R.SPC_STATUS_busy k = false →
      need ≤ (s.spc k).tx.length → (s.spc k).rx.length + need ≤ 32 → s.flag R.XIP_CFG_enable = false →
      Does (.spcGo k) s fun t => t.flag R.SPC_STATUS_busy k ∧ (t.spc k).frame = some (need, false) ∧ (t.spc k).tx = (s.spc k).tx ∧
      (t.spc k).rx = (s.spc k).rx ∧ OnlyRegs [R.SPC_STATUS.at k] { s with spcs := t.spcs } t) ∧
    -- goRefused
    ((s.get R.SPC_FRAME_sel k = 2 ∧ k = 0 ∧ s.flag R.XIP_CFG_enable = true) ∨ s.flag R.SPC_CFG_enable k = false ∨
      s.flag R.SPC_STATUS_busy k = true ∨ (s.spc k).tx.length < s.get R.SPC_FRAME_count k + 1 ∨
      32 < (s.spc k).rx.length + (s.get R.SPC_FRAME_count k + 1) →
      Does (.spcGo k) s fun t => t.flag R.SPC_STATUS_cmd_refused k ∧ OnlyRegs [R.SPC_STATUS.at k] s t) ∧
    -- flush
    (s.flag R.SPC_STATUS_busy k = false →
      (Does (.spcFlushTx k) s fun t => (t.spc k).tx = [] ∧ (t.spc k).rx = (s.spc k).rx ∧ t.get R.SPC_STATUS_tx_level k = 0) ∧
      (Does (.spcFlushRx k) s fun t => (t.spc k).rx = [] ∧ (t.spc k).tx = (s.spc k).tx ∧ t.get R.SPC_STATUS_rx_level k = 0)) ∧
    -- flushRefused
    (s.flag R.SPC_STATUS_busy k →
      (Does (.spcFlushTx k) s fun t => t.flag R.SPC_STATUS_cmd_refused k ∧ OnlyRegs [R.SPC_STATUS.at k] s t) ∧
      (Does (.spcFlushRx k) s fun t => t.flag R.SPC_STATUS_cmd_refused k ∧ OnlyRegs [R.SPC_STATUS.at k] s t)) ∧
    -- abort
    (∀ (f : Nat × Bool), (s.spc k).frame = some f → s.now < (s.spc k).lastEdge ∨ s.flag R.SPC_STATUS_xip_wait k = true →
      Does (.spcAbort k false) s fun t => (t.spc k).frame = some (f.1, true) ∧ (t.spc k).tx = (s.spc k).tx ∧
        (t.spc k).rx = (s.spc k).rx) ∧
    -- abortLate
    (∀ (f : Nat × Bool) (last : Bool), (s.spc k).frame = some f → last = true ∨ ((s.spc k).lastEdge ≤ s.now ∧
      s.flag R.SPC_STATUS_xip_wait k = false) →
      Does (.spcAbort k last) s fun t => t = s) ∧
    -- abortRefused
    (∀ (last : Bool), (s.spc k).frame = none → Does (.spcAbort k last) s fun t => t.flag R.SPC_STATUS_cmd_refused k ∧
      OnlyRegs [R.SPC_STATUS.at k] s t) ∧
    -- push
    (∀ (w : Word), Does (.spcTxPush k w) s fun t => (t.spc k).tx = (if (s.spc k).tx.length < 32 then (s.spc k).tx ++ [w] else
      (s.spc k).tx) ∧ (t.spc k).rx = (s.spc k).rx ∧ (32 ≤ (s.spc k).tx.length → t.flag R.SPC_STATUS_tx_overflow k)) ∧
    -- pop
    (∀ (w : Word) (l : List Word), (s.spc k).rx = w :: l → Does (.spcRxPop k) s fun t => t.readData = w.toNat ∧ (t.spc k).rx = l ∧
      (t.spc k).tx = (s.spc k).tx) ∧
    -- popEmpty
    ((s.spc k).rx = [] → Does (.spcRxPop k) s fun t => t.readData = 0 ∧ t.flag R.SPC_STATUS_rx_underflow k ∧ t.spcs = s.spcs) ∧
    -- done
    (∀ (got : List Word), (s.spc k).frame = some (got.length, false) → s.flag R.SPC_STATUS_xip_wait k = false →
      (s.spc k).endsAt ≤ s.now → s.lookout.entry = none → Does (.spcFrameDone k got) s fun t =>
      (t.spc k).rx = (s.spc k).rx ++ got.map (fun (w : Word) => BitVec.ofNat 32 (w.toNat % 2 ^ (s.get R.SPC_CFG_bits k + 1))) ∧
      (t.spc k).tx = (s.spc k).tx.drop got.length ∧ (t.spc k).frame = none ∧ t.flag R.SPC_STATUS_busy k = false ∧
      t.flag R.SPC_STATUS_aborted k = false ∧ t.get R.SPC_STATUS_done k = min (s.get R.SPC_STATUS_done k + 1) 255 ∧
      t = { s with regs := t.regs, spcs := t.spcs }) ∧
    -- aborted
    (∀ (got : List Word) (need : Nat), (s.spc k).frame = some (need, true) → got.length ≤ need → s.lookout.entry = none →
      Does (.spcFrameDone k got) s fun t => (t.spc k).tx = (s.spc k).tx.drop got.length ∧ (t.spc k).frame = none ∧
      t.flag R.SPC_STATUS_busy k = false ∧ t.flag R.SPC_STATUS_aborted k ∧ t.get R.SPC_STATUS_done k = s.get R.SPC_STATUS_done k)

/-- Discovery starts on an enabled window, and its end records what the flash answered, the widest verified read and ready. A line
read puts its line into the fetch buffer of a core that runs, a failed one is counted, and the longest wait is kept. On the
target port a NOP sends one word, a framed write is held, a bad command is counted, a native read of one word answers within
the frame; at deselection a whole framed write is performed and a broken one rejected. Where a clause rests on a reading or a
choice of the model, it is that of assumptions 64 and 65. -/
def Obligations.FlashReadsAndTargetFramesAct : Prop :=
  ∀ (s : State),
    -- discover
    (
      (s.flag R.XIP_CFG_enable → Does (.xipDiscovery) s fun t => t.flag R.XIP_STATUS_busy ∧ t.flag R.XIP_STATUS_ready = false ∧
        OnlyRegs [R.XIP_STATUS.off] s t) ∧
      (s.flag R.XIP_CFG_enable = false → Does (.xipDiscovery) s fun t => t = s)) ∧
    -- discovered
    (∀ (d : Sfdp) a b (m : Nat), s.flag R.XIP_STATUS_busy → d.log2 < 256 → m = s.get R.XIP_CFG_max_width →
      Does (.xipDiscoveryDone (some d) a b) s fun t => t.flag R.XIP_STATUS_ready ∧ t.flag R.XIP_STATUS_busy = false ∧
      t.flag R.XIP_STATUS_sfdp_ok ∧ t.get R.XIP_STATUS_log2_bytes = d.log2 ∧ t.get R.XIP_STATUS_width = (if d.quadAddr.isSome ∧
      2 ≤ m ∧ b = true then 2 else if d.quad.isSome ∧ 1 ≤ m ∧ a = true then 1 else 0)) ∧
    -- discoveredPlain
    (∀ a b, s.flag R.XIP_STATUS_busy → Does (.xipDiscoveryDone none a b) s fun t => t.flag R.XIP_STATUS_ready ∧
      t.flag R.XIP_STATUS_sfdp_ok = false ∧ t.get R.XIP_STATUS_width = 0 ∧ t.get R.XIP_STATUS_instr = 0x0B ∧
      t.get R.XIP_STATUS_dummy = 8) ∧
    -- line
    (∀ (k : Fin 66) (o : BitVec 28) (w : Nat) b, s.coreRuns k → Does (.xipLineRead k o w (some b)) s fun t =>
      ({ addr := xipNor + o.toNat / 32 * 32, bytes := State.padTo 32 b, dirty := false } : Line) ∈ (t.core k).fetchBuf ∧
      t.get R.XIP_ERR_max_wait = min 0xFFFF (max w (s.get R.XIP_ERR_max_wait))) ∧
    -- lineFails
    (∀ (k : Fin 66) (o : BitVec 28) (w : Nat), s.coreRuns k → Does (.xipLineRead k o w none) s fun t =>
      t.get R.XIP_ERR_errors = min (s.get R.XIP_ERR_errors + 1) (2 ^ (R.XIP_ERR_errors.msb + 1 - R.XIP_ERR_errors.lsb) - 1)) ∧
    -- lineDiscarded
    (∀ (k : Fin 66) (o : BitVec 28) (w : Nat) got, s.coreRuns k = false → Does (.xipLineRead k o w got) s fun t =>
      OnlyRegs [R.XIP_ERR.off] s t) ∧
    -- nop
    (∀ (w : Word) data waits, bits w.toNat 31 30 = 0 → s.sptBad w = false →
      Does (.sptCommand w data waits) s fun t => t.spt =
      { s.spt with words := s.spt.words + 1, whole := true, out := s.spt.out ++ [0] } ∧ t.flag R.SPT_STATUS_selected ∧
      t.tiles = s.tiles) ∧
    -- bad
    (∀ (w : Word) data waits, bits w.toNat 31 30 = 1 → s.sptBad w → Does (.sptCommand w data waits) s fun t =>
      t.get R.SPT_STATUS_bad = min (s.get R.SPT_STATUS_bad + 1) 0xFFFF ∧ t.spt.held = s.spt.held ∧
      OnlyRegs [R.SPT_STATUS.off] { s with spt := t.spt } t) ∧
    -- write
    (∀ (w v : Word) waits, bits w.toNat 31 30 = 1 → bits w.toNat 29 20 = 0 → s.sptBad w = false → s.spt.stream = false →
      Does (.sptCommand w [v] waits) s fun t => t.spt.held = s.spt.held ++ [(bits w.toNat 19 0, v)] ∧ t.spt.whole ∧
      t.spt.words = s.spt.words + 2 ∧ OnlyRegs [R.SPT_STATUS.off] { s with spt := t.spt } t) ∧
    -- read
    (∀ (w : Word) data (k : Nat), bits w.toNat 31 30 = 2 → bits w.toNat 29 20 = 0 → s.sptBad w = false → s.spt.compat = false →
      k ≤ 64 → Does (.sptCommand w data [k]) s fun t => t.spt.out = s.spt.out ++ 0 :: (List.replicate k w ++ [~~~w,
      ((s.setFlag R.SPT_STATUS_selected true).sptRead (bits w.toNat 19 0)).1, 0x5A0007FF]) ∧ t.spt.whole) ∧
    -- deselect
    (∀ (v : Word), s.spt.stream = false → s.spt.whole → s.spt.words ≤ 1032 → s.spt.held = [(0x40, v)] → v.toNat % 256 ≤ 0x41 →
      Does (.sptDeselect 0) s fun t => t.get R.SRAM_PAGE_target = v.toNat % 256 ∧ t.spt.held = [] ∧ t.spt.words = 0 ∧
      t.spt.stream = s.flag R.SPT_CFG_stream ∧ t.spt.compat = s.flag R.SPT_CFG_compat ∧
      OnlyRegs [R.SPT_STATUS.off, R.SRAM_PAGE.off] { s with spt := t.spt } t) ∧
    -- deselectRejects
    (∀ (part : Fin 32), s.spt.stream = false → part ≠ 0 ∨ s.spt.whole = false ∨ 1032 < s.spt.words →
      Does (.sptDeselect part) s fun t => t.get R.SPT_COUNTS_rejected = min (s.get R.SPT_COUNTS_rejected + 1) 255 ∧
      t.spt.held = [] ∧ OnlyRegs [R.SPT_STATUS.off, R.SPT_COUNTS.off] { s with spt := t.spt } t)

/-- A 4-byte write of TIME_CFG sets its RW fields and no other register; one of WAKE_CAUSE clears the bits written 1; a write to
an unmapped offset changes nothing and one of fewer bytes by a host is recorded in BAR_ERR. In BAR2 a 32-bit write to the
doorbell range is a doorbell, one to the MSI-X table stores its word, and another changes nothing. SRAM_PAGE takes a target
that exists and refuses another. A window read answers the memory's bytes and an unaligned one is recorded; a write of the
shared SRAM through the window stores its bytes and no other byte changes, and a write of the motor map of a tile that may not
take it is recorded and changes no memory. Where a clause rests on a reading or a choice of the model, it is that of
assumption 75. -/
def Obligations.RegisterWritesFollowAccessCodes : Prop :=
  ∀ (s : State),
    -- rw
    (∀ (who : Requester) (v : Word), who ≠ Requester.pcie ∨ s.perst = false →
      Does (.registerWrite who (.bar0 0x901C) 4 v) s fun t => t.flag R.TIME_CFG_pps_en = v.getLsbD 31 ∧
      t.flag R.TIME_CFG_pps_fall = v.getLsbD 30 ∧ t.flag R.TIME_CFG_pps_out = v.getLsbD 29 ∧
      t.get R.TIME_CFG_step_lead = bits v.toNat 23 16 ∧ t.get R.TIME_CFG_interval = bits v.toNat 15 0 ∧
      OnlyRegs [R.TIME_CFG.off] s t) ∧
    -- w1c
    (∀ (who : Requester) (v : Word), who ≠ Requester.pcie ∨ s.perst = false →
      Does (.registerWrite who (.bar0 0x100C) 4 v) s fun t => (∀ b : Fin 7,
      t.fbit R.WAKE_CAUSE_cause b = (s.fbit R.WAKE_CAUSE_cause b && !v.getLsbD b)) ∧ OnlyRegs [R.WAKE_CAUSE.off] s t) ∧
    -- unmapped
    (∀ (who : Requester) (off : BitVec 20) v, off.toNat < 0x10000 → off.toNat % 4 = 0 → (regRow off.toNat).isNone →
      Does (.registerWrite who (.bar0 off) 4 v) s fun t => t = s) ∧
    -- short
    (∀ (who : Requester) (off : BitVec 20) (len : Fin 5) v, who = Requester.spt ∨ who = Requester.debug ∨ who = Requester.pcie ∧
      s.perst = false →
      off.toNat < 0x80000 → len ≠ 4 ∨ off.toNat % 4 ≠ 0 → Does (.registerWrite who (.bar0 off) len v) s fun t =>
        t.get R.BAR_ERR_kind = 1 ∧ t.get R.BAR_ERR_offset = off.toNat ∧ OnlyRegs [R.BAR_ERR.off] s t) ∧
    -- doorbell
    (∀ (off : BitVec 16) (v : Word), s.perst = false → off.toNat < 0x8000 →
      Does (.registerWrite Requester.pcie (.bar2 off) 4 v) s fun t => t = s.doorbell v) ∧
    -- msix
    (∀ (off : BitVec 16) (v : Word) (a : Nat), s.perst = false → 0x8000 ≤ off.toNat → off.toNat < 0x8400 → off.toNat % 4 = 0 →
      s.hamper.pba = [] → 0x8000 ≤ a → a < 0x8400 → Does (.registerWrite Requester.pcie (.bar2 off) 4 v) s fun t =>
      t.bar2Word off.toNat = v ∧ (a ≠ off.toNat → t.bar2Word a = s.bar2Word a) ∧ t.regs = s.regs ∧ t.mem = s.mem ∧
      t.tiles = s.tiles) ∧
    -- unmapped2
    (∀ (who : Requester) (off : BitVec 16) (len : Fin 5) (v : Word), who ≠ Requester.pcie ∨ s.perst = true ∨ len ≠ 4 ∨
      0x8400 ≤ off.toNat →
      Does (.registerWrite who (.bar2 off) len v) s fun t => t = s) ∧
    -- perst
    (∀ (off : BitVec 20) (len : Fin 5) v, s.perst → Does (.registerWrite .pcie (.bar0 off) len v) s fun t => t = s) ∧
    -- page
    (∀ (dbg : Bool) (v : Word),
      (v.toNat % 256 ≤ 0x41 ∨ v.toNat % 256 = 0xFF → Does (.sramPageWrite dbg v) s fun t =>
        t.get R.SRAM_PAGE_target (if dbg then 1 else 0) = v.toNat % 256 ∧ OnlyRegs [R.SRAM_PAGE.at (if dbg then 1 else 0)] s t) ∧
      (0x41 < v.toNat % 256 → v.toNat % 256 ≠ 0xFF → Does (.sramPageWrite dbg v) s fun t => t.get R.BAR_ERR_kind = 3 ∧
        OnlyRegs [R.BAR_ERR.off] s t)) ∧
    -- read
    (∀ (dbg : Bool) (a : BitVec 19) (k : Fin 3),
      (a.toNat % 2 ^ k.val = 0 → Does (.windowRead dbg a k) s fun t => t = { s with readData := t.readData } ∧
        t.readData = (match s.windowAddr dbg a.toNat with | some m => s.load m (2 ^ k.val) | none => 0)) ∧
      (a.toNat % 2 ^ k.val ≠ 0 → Does (.windowRead dbg a k) s fun t => t.get R.BAR_ERR_kind = 1 ∧ OnlyRegs [R.BAR_ERR.off] s t)) ∧
    -- shared
    (∀ (dbg : Bool) (a : BitVec 19) (k : Fin 3) (v : Word) (m : Nat), a.toNat % 2 ^ k.val = 0 → 0x40 ≤ s.pageOf dbg →
      s.windowAddr dbg a.toNat = some m → Does (.windowWrite dbg a k v) s fun t =>
      t.load m (2 ^ k.val) = v.toNat % 256 ^ 2 ^ k.val ∧ MemOutside m (2 ^ k.val) s t ∧ t.regs = s.regs ∧ t.tiles = s.tiles) ∧
    -- mapIgnored
    (∀ (dbg : Bool) (a : BitVec 19) (k : Fin 3) v (n : Fin 64), a.toNat % 2 ^ k.val = 0 → a.toNat < 0x8000 →
      s.pageOf dbg = n.val → dbg = true ∨ s.isRoot = true → s.st n ≠ stAsleep → s.st n ≠ stIdle →
      Does (.windowWrite dbg a k v) s fun t => t.get R.BAR_ERR_kind = 2 ∧ OnlyRegs [R.BAR_ERR.off] s t) ∧
    -- mapWritten
    (∀ (dbg : Bool) (a : BitVec 19) (k : Fin 3) (v : Word) (n : Fin 64), a.toNat % 2 ^ k.val = 0 → a.toNat < 0x8000 →
      s.pageOf dbg = n.val → dbg = true ∨ s.isRoot = true → s.st n = stAsleep ∨ s.st n = stIdle →
      (s.tile n).cur.energising = false → s.walking n = false → Does (.windowWrite dbg a k v) s fun t =>
      t.load (tileSram n + a.toNat) (2 ^ k.val) = v.toNat % 256 ^ 2 ^ k.val ∧ MemOutside (tileSram n + a.toNat) (2 ^ k.val) s t ∧
      t.flag R.SD_STATUS_map_valid n = false)

/-- A view read of a register leaves its value in DBG_DATA and changes nothing else; a write of TIME_CFG lands; a write of the
debug block itself, a space or an address that does not exist, and any access before Dawn has begun fail with BAD_ADDR. A
general register of a halted core is read and written, and of a core that is not halted the access fails with NOT_HALTED.
Through JTAG a debug-block word is read and written while DBG_ACCESS is loaded, and not otherwise. Where a clause rests on a
reading or a choice of the model, it is that of assumptions 73 and 78. -/
def Obligations.DebugAccessesAnswer : Prop :=
  ∀ (s : State),
    s.lookout.off = false →
    -- view
    (∀ jtag (off : Nat), s.lookout.dawnCause = none → s.get R.DBG_ADDR_space = 0 → off = s.get R.DBG_ADDR_offset → off % 4 = 0 →
      off < 0x80000 →
      (Does (.dbgViewRead jtag) s fun t => t.rd R.DBG_DATA.off = (s.regRead .debug off).1 ∧ t.flag R.DBG_CMD_error = false ∧
        OnlyRegs [R.DBG_DATA.off, R.DBG_CMD.off] s t) ∧
      (Does (.dbgConsumeRead jtag) s fun t => t.rd R.DBG_DATA.off = (s.regRead .debug off).1 ∧ t.flag R.DBG_CMD_error = false)) ∧
    -- write
    (∀ jtag, s.lookout.dawnCause = none → s.get R.DBG_ADDR_space = 0 → s.get R.DBG_ADDR_offset = 0x901C →
      Does (.dbgWrite jtag) s fun t => t.get R.TIME_CFG_interval = bits (s.rd R.DBG_DATA.off).toNat 15 0 ∧
      t.flag R.DBG_CMD_error = false ∧ OnlyRegs [R.TIME_CFG.off, R.DBG_CMD.off] s t) ∧
    -- badAddr
    (∀ jtag, s.lookout.dawnCause.isSome = true ∨ 2 ≤ s.get R.DBG_ADDR_space ∨ s.get R.DBG_ADDR_offset % 4 ≠ 0 ∨
      (s.get R.DBG_ADDR_space = 0 ∧ 0xF000 ≤ s.get R.DBG_ADDR_offset ∧ s.get R.DBG_ADDR_offset < 0xF100) →
      Does (.dbgWrite jtag) s fun t => t.flag R.DBG_CMD_error ∧ t.get R.DBG_CMD_reason = 3 ∧ OnlyRegs [R.DBG_CMD.off] s t) ∧
    -- core
    (∀ jtag (k : Fin 66) (r : Fin 16), s.lookout.dawnCause = none → s.get R.DBG_ADDR_space = 1 →
      s.get R.DBG_ADDR_offset = 0x1000 * k.val + 4 * r.val → s.isHalted k → r ≠ 0 →
      (Does (.dbgWrite jtag) s fun t => (t.core k).g[r] = s.rd R.DBG_DATA.off ∧ t.flag R.DBG_CMD_error = false) ∧
      (Does (.dbgViewRead jtag) s fun t => t.rd R.DBG_DATA.off = (s.core k).g[r] ∧ t.flag R.DBG_CMD_error = false ∧
        OnlyRegs [R.DBG_DATA.off, R.DBG_CMD.off] s t)) ∧
    -- notHalted
    (∀ jtag (k : Fin 66) (r : Fin 16), s.lookout.dawnCause = none → s.get R.DBG_ADDR_space = 1 →
      s.get R.DBG_ADDR_offset = 0x1000 * k.val + 4 * r.val → s.isHalted k = false →
      Does (.dbgWrite jtag) s fun t => t.flag R.DBG_CMD_error ∧ t.get R.DBG_CMD_reason = 1 ∧ OnlyRegs [R.DBG_CMD.off] s t) ∧
    -- jtagWrite
    (∀ (w : BitVec 41), s.tap.ir = 0x10 → w.toNat / 2 ^ 32 = 256 → Does (.jtagDbgUpdate w) s fun t =>
      t.get R.DBG_ADDR_space = bits w.toNat 31 30 ∧ t.get R.DBG_ADDR_offset = bits w.toNat 19 0 ∧ t.tap = s.tap ∧
      OnlyRegs [R.DBG_ADDR.off] { s with readData := t.readData } t) ∧
    -- jtagRead
    (∀ (w : BitVec 41), s.tap.ir = 0x10 → w.toNat / 2 ^ 32 = 0 → Does (.jtagDbgUpdate w) s fun t =>
      t.tap.last = s.rd R.DBG_ADDR.off ∧ t.readData % 2 ^ 32 = (s.rd R.DBG_ADDR.off).toNat ∧ t.regs = s.regs) ∧
    -- jtagNot
    (∀ (w : BitVec 41), s.tap.ir ≠ 0x10 → Does (.jtagDbgUpdate w) s fun t => t = { s with readData := t.readData })

/-- A halt of a running tile core at an allowed boundary takes effect and sets Lull source [20], elsewhere it waits; a halted core
resumes or steps, and one that is not halted is left alone. A halt of Canopy breaks lockstep, a resume or a step lets the
halted core go. A boundary-scan instruction outside bench mode holds every gate of every tile L; an instruction that gives the
pins back makes a Dawn due; IDCODE answers the identification; SAMPLE/PRELOAD loads the cells. Where a clause rests on a
reading or a choice of the model, it is that of assumptions 72 and 74. -/
def Obligations.HaltsAndTestPortTakeTheCores : Prop :=
  ∀ (n : Fin 64) (s : State),
    -- halt
    (∀ hi v, n ∈ State.wordTiles hi v → s.coreState n = 2 → State.atBoundary (State.endWait (s.core (State.coreIx n))) →
      Does (.dbgHalt hi v) s fun t => t.coreState n = 4 ∧ t.fbit R.TILE_STATE_lull_source 4 n) ∧
    -- haltWaits
    (∀ hi v, n ∈ State.wordTiles hi v → s.coreState n = 2 → State.atBoundary (State.endWait (s.core (State.coreIx n))) = false →
      Does (.dbgHalt hi v) s fun t => t.coreState n = 2 ∧ (t.core (State.coreIx n)).deferred = some true) ∧
    -- go
    (∀ hi v, n ∈ State.wordTiles hi v → s.coreState n = 4 →
      (Does (.dbgResume hi v) s fun t => t.coreState n = 2 ∧ (t.core (State.coreIx n)).stepping = false) ∧
      (Does (.dbgStep hi v) s fun t => t.coreState n = 2 ∧ (t.core (State.coreIx n)).stepping)) ∧
    -- goNot
    (∀ hi v, (∀ m ∈ State.wordTiles hi v, s.coreState m ≠ 4) →
      (Does (.dbgResume hi v) s fun t => t = s) ∧
      (Does (.dbgStep hi v) s fun t => t = s)) ∧
    -- canopy
    ((s.core s.canopyChosen).wasState = 2 → s.isHalted s.canopyChosen = false →
      State.atBoundary (State.endWait (s.core s.canopyChosen)) → Does (.canopyHalt) s fun t => t.isHalted s.canopyChosen ∧
      t.flag R.CANOPY_STATUS_dbg_split ∧ t.flag R.CANOPY_STATUS_safety_claim = false ∧ (s.split = false →
      t.get R.CANOPY_STATUS_mode = 2) ∧ (s.bench = false → s.split = false → t.fbit R.TILE_STATE_lull_source 3 n)) ∧
    -- canopyGo
    (s.isHalted s.canopyChosen →
      (Does (.canopyResume) s fun t => t.isHalted s.canopyChosen = false ∧ (t.core s.canopyChosen).stepping = false ∧
        t.tiles = s.tiles) ∧
      (Does (.canopyStep) s fun t => t.isHalted s.canopyChosen = false ∧ (t.core s.canopyChosen).stepping ∧ t.tiles = s.tiles)) ∧
    -- canopyGoNot
    (s.isHalted s.canopyChosen = false →
      (Does (.canopyResume) s fun t => t = s) ∧
      (Does (.canopyStep) s fun t => t = s)) ∧
    -- pins
    (∀ cells, s.bench = false →
      (Does (.extest cells) s fun t => t.get R.LEG_STATUS_gates n = 0 ∧ t.flag R.LEG_STATUS_held_off n ∧ t.tap.ir = 0x00) ∧
      (Does (.clamp) s fun t => t.get R.LEG_STATUS_gates n = 0 ∧ t.flag R.LEG_STATUS_held_off n ∧ t.tap.ir = 0x03) ∧
      (Does (.highz) s fun t => t.get R.LEG_STATUS_gates n = 0 ∧ t.flag R.LEG_STATUS_held_off n ∧ t.tap.ir = 0x04) ∧
      (Does (.extestPulse cells) s fun t => t.get R.LEG_STATUS_gates n = 0 ∧ t.flag R.LEG_STATUS_held_off n ∧ t.tap.ir = 0x05) ∧
      (Does (.extestTrain cells) s fun t => t.get R.LEG_STATUS_gates n = 0 ∧ t.flag R.LEG_STATUS_held_off n ∧ t.tap.ir = 0x06)) ∧
    -- driven
    (∀ (c : Fin 256) (i : Fin 8), s.bench → Does (.extest [(n, c)]) s fun t =>
      t.fbit R.LEG_STATUS_gates i n = (State.interlock c.val).testBit i.val ∧ t.cellGates n = c.val) ∧
    -- back
    (s.pinsTaken →
      (Does (.bypass) s fun t => t.lookout.dawnCause = some 5 ∧ t.tap.ir = 0xFF ∧ t.regs = s.regs) ∧
      (Does (.dbgAccess) s fun t => t.lookout.dawnCause = some 5 ∧ t.tap.ir = 0x10 ∧ t.regs = s.regs) ∧
      (Does (.tapReset) s fun t => t.lookout.dawnCause = some 5 ∧ t.tap.ir = 0x02 ∧ t.regs = s.regs) ∧
      (Does (.idcode) s fun t => t.lookout.dawnCause = some 5 ∧ t.tap.ir = 0x02 ∧ t.readData = (s.rd R.DEV_IDCODE.off).toNat)) ∧
    -- free
    (∀ (cells : List (Fin 64 × Fin 256)), s.pinsTaken = false →
      (Does (.bypass) s fun t => t.tap.ir = 0xFF ∧ t = { s with tap := t.tap }) ∧
      (Does (.dbgAccess) s fun t => t.tap.ir = 0x10 ∧ t = { s with tap := t.tap }) ∧
      (Does (.tapReset) s fun t => t.tap.ir = 0x02 ∧ t = { s with tap := t.tap }) ∧
      (Does (.idcode) s fun t => t.tap.ir = 0x02 ∧ t.readData = (s.rd R.DEV_IDCODE.off).toNat ∧
        t = { s with tap := t.tap, readData := t.readData }) ∧
      (Does (.samplePreload cells) s fun t => t.tap.ir = 0x01 ∧ t = { s with tap := t.tap } ∧
        t.tap.cells = cells.foldl (fun (l : List (Nat × Nat)) (e : Fin 64 × Fin 256) =>
        sparsePut 0 e.1.val e.2.val l) s.tap.cells))

/-- Under a PCIe host out of reset and Doze, a doorbell of an enabled submission queue whose index lies in the ring and leaves no
more than the ring's size moves its tail; a head of an enabled completion or event ring between the present head and the tail
moves it; a doorbell of a disabled ring is only counted, and one with a bad index is counted and takes the ring to ERROR. A
journal head moves likewise, unless the head mirror is enabled. A doorbell at a device without a PCIe host changes nothing.
Where a clause rests on a reading or a choice of the model, it is that of assumption 66. -/
def Obligations.DoorbellsMoveRings : Prop :=
  ∀ (s : State) (v : Word),
    -- sq
    (∀ (q : Nat), q = bits v.toNat 31 24 → q < 0x80 → s.hostKind = 1 → s.perst = false → s.get R.PWR_STATUS_state ≠ 1 →
      s.flag R.SQ_CFG_enable q → bits v.toNat 23 17 = 0 → v.toNat % 65536 < 2 ^ s.get R.SQ_CFG_size_log2 q →
      State.ringFill (s.get R.SQ_CFG_size_log2 q) (v.toNat % 2 ^ 17) (s.get R.SQ_HEAD_head q) ≤ 2 ^ s.get R.SQ_CFG_size_log2 q →
      Does (.sqDoorbell v) s fun t => t.get R.SQ_TAIL_tail q = v.toNat % 2 ^ 17 ∧ OnlyRegs [R.SQ_TAIL.at q] s t) ∧
    -- sqBad
    (∀ (q : Nat), q = bits v.toNat 31 24 → q < 0x80 → s.hostKind = 1 → s.perst = false → s.get R.PWR_STATUS_state ≠ 1 →
      s.flag R.SQ_CFG_enable q → bits v.toNat 23 17 ≠ 0 ∨ 2 ^ s.get R.SQ_CFG_size_log2 q ≤ v.toNat % 65536 →
      s.get R.SQ_STATUS_state q ≠ 2 → Does (.sqDoorbell v) s fun t => t.get R.SQ_STATUS_state q = 2 ∧
        t.get R.SQ_STATUS_error q = 0x15 ∧ t.get R.HAMPER_DB_BAD_count = min (s.get R.HAMPER_DB_BAD_count + 1) 0xFFFF ∧
        t.get R.SQ_TAIL_tail q = s.get R.SQ_TAIL_tail q) ∧
    -- cq
    (∀ (c : Nat), c + 0x80 = bits v.toNat 31 24 → c < 64 → s.hostKind = 1 → s.perst = false → s.get R.PWR_STATUS_state ≠ 1 →
      s.flag R.CQ_CFG_enable c → bits v.toNat 23 17 = 0 → State.headOk 16 (s.get R.CQ_CFG_size_log2 c) (s.get R.CQ_TAIL_tail c)
      (s.get R.CQ_HEAD_head c) (v.toNat % 2 ^ 17) →
      Does (.cqDoorbell v) s fun t => t.get R.CQ_HEAD_head c = v.toNat % 2 ^ 17 ∧ OnlyRegs [R.CQ_HEAD.at c] s t) ∧
    -- ev
    (∀ (e : Nat), e + 0xC0 = bits v.toNat 31 24 → e < 8 → s.hostKind = 1 → s.perst = false → s.get R.PWR_STATUS_state ≠ 1 →
      s.flag R.EV_CFG_enable e → bits v.toNat 23 17 = 0 → State.headOk 16 (s.get R.EV_CFG_size_log2 e) (s.get R.EV_TAIL_tail e)
      (s.get R.EV_HEAD_head e) (v.toNat % 2 ^ 17) →
      Does (.evDoorbell v) s fun t => t.get R.EV_HEAD_head e = v.toNat % 2 ^ 17 ∧ OnlyRegs [R.EV_HEAD.at e] s t) ∧
    -- disabled
    (∀ (x : Nat), x = bits v.toNat 31 24 → s.hostKind = 1 → s.perst = false → s.get R.PWR_STATUS_state ≠ 1 →
      (x < 0x80 → s.flag R.SQ_CFG_enable x = false → Does (.sqDoorbell v) s fun t =>
        t.get R.HAMPER_DB_BAD_count = min (s.get R.HAMPER_DB_BAD_count + 1) 0xFFFF ∧ OnlyRegs [R.HAMPER_DB_BAD.off] s t) ∧
      (0x80 ≤ x → x < 0xC0 → s.flag R.CQ_CFG_enable (x - 0x80) = false → Does (.cqDoorbell v) s fun t =>
        t.get R.HAMPER_DB_BAD_count = min (s.get R.HAMPER_DB_BAD_count + 1) 0xFFFF ∧ OnlyRegs [R.HAMPER_DB_BAD.off] s t) ∧
      (0xC0 ≤ x → (0xC8 ≤ x ∨ s.flag R.EV_CFG_enable (x - 0xC0) = false) → Does (.evDoorbell v) s fun t =>
        t.get R.HAMPER_DB_BAD_count = min (s.get R.HAMPER_DB_BAD_count + 1) 0xFFFF ∧ OnlyRegs [R.HAMPER_DB_BAD.off] s t)) ∧
    -- noHost
    (s.hostKind ≠ 1 ∨ s.perst = true →
      (Does (.sqDoorbell v) s fun t => t = s) ∧
      (Does (.cqDoorbell v) s fun t => t = s) ∧
      (Does (.evDoorbell v) s fun t => t = s)) ∧
    -- journal
    (∀ (j : Fin 4) (h : BitVec 64), s.flag R.USF_MIRROR_CFG_enable = false → h.toNat % 64 = 0 →
      State.headOk 52 (s.get R.JR_CFG_size_log2 j) (s.jrTail j) (s.jrHead j) (h.toNat % 2 ^ 53) →
      Does (.jrHeadWrite j h) s fun t => t.jrHead j = h.toNat % 2 ^ 53 ∧ OnlyRegs [R.JR_HEAD_LO.at j, R.JR_HEAD_HI.at j] s t) ∧
    -- journalBad
    (∀ (j : Fin 4) (h : BitVec 64),
      (s.flag R.USF_MIRROR_CFG_enable → Does (.jrHeadWrite j h) s fun t => t = s) ∧
      (s.flag R.USF_MIRROR_CFG_enable = false → h.toNat % 64 ≠ 0 → Does (.jrHeadWrite j h) s fun t =>
        t.get R.HAMPER_DB_BAD_count = min (s.get R.HAMPER_DB_BAD_count + 1) 0xFFFF ∧ OnlyRegs [R.HAMPER_DB_BAD.off] s t))

/-- A legal configuration word that enables a ring lands, with head and tail 0 and the ring running; an illegal size changes
nothing; disabling a submission queue takes it to DISABLED without a scheduled command of its own. The oldest completion held
for a CQ with room is written at its tail; a coalescing timer sends its vector once its time has passed, and nothing before; a
staged record with room is written at its ring's tail, and one whose ring is disabled is dropped. MB_CTL.go pushes the
mailbox's slot; the reads that pop MB_CPL and MB_EVT return the last word of the oldest entry and remove it. Where a clause
rests on a reading or a choice of the model, it is that of assumptions 66, 68, 69 and 77. -/
def Obligations.RingsAreSetUpAndDrained : Prop :=
  ∀ (s : State),
    -- sqOn
    (∀ (q : Fin 128) (v : Word), State.sizeOk v → v.getLsbD 31 → s.hostKind = 1 → s.flag R.SQ_CFG_enable q = false →
      Does (.sqCfgWrite q v) s fun t => t.flag R.SQ_CFG_enable q ∧ t.get R.SQ_CFG_size_log2 q = bits v.toNat 28 24 ∧
      t.get R.SQ_HEAD_head q = 0 ∧ t.get R.SQ_TAIL_tail q = 0 ∧ t.get R.SQ_STATUS_state q = 1 ∧
      OnlyRegs [R.SQ_CFG.at q, R.SQ_HEAD.at q, R.SQ_TAIL.at q, R.SQ_STATUS.at q] s t) ∧
    -- sqOff
    (∀ (q : Fin 128) (v : Word), State.sizeOk v → v.getLsbD 31 = false → s.flag R.SQ_CFG_enable q →
      Does (.sqCfgWrite q v) s fun t => t.flag R.SQ_CFG_enable q = false ∧ t.get R.SQ_STATUS_state q = 0 ∧
      (∀ x ∈ t.hamper.scheds, x.desc.ref.own = false ∨ x.desc.ref.sq ≠ q.val) ∧
      (∀ x ∈ t.hamper.heldSegs, x.ref.own = false ∨ x.ref.sq ≠ q.val)) ∧
    -- illegal
    (∀ (q : Fin 128) (c : Fin 64) (e : Fin 8) (v : Word), bits v.toNat 28 24 < 4 ∨ 16 < bits v.toNat 28 24 →
      (Does (.sqCfgWrite q v) s fun t => t = s) ∧
      (Does (.cqCfgWrite c v) s fun t => t = s) ∧
      (Does (.evCfgWrite e v) s fun t => t = s)) ∧
    -- cqOn
    (∀ (c : Fin 64) (v : Word), State.sizeOk v → v.getLsbD 31 → s.hostKind = 1 → s.flag R.CQ_CFG_enable c = false →
      Does (.cqCfgWrite c v) s fun t => t.flag R.CQ_CFG_enable c ∧ t.get R.CQ_CFG_size_log2 c = bits v.toNat 28 24 ∧
      t.get R.CQ_HEAD_head c = 0 ∧ t.get R.CQ_TAIL_tail c = 0 ∧ t.get R.CQ_STATUS_state c = 1 ∧ t.coalCount c = 0 ∧
      OnlyRegs [R.CQ_CFG.at c, R.CQ_HEAD.at c, R.CQ_TAIL.at c, R.CQ_STATUS.at c] { s with hamper := t.hamper } t) ∧
    -- evOn
    (∀ (e : Fin 8) (v : Word), State.sizeOk v → v.getLsbD 31 → s.hostKind ≠ 2 → s.flag R.EV_CFG_enable e = false →
      s.hamper.owed = [] → Does (.evCfgWrite e v) s fun t => t.flag R.EV_CFG_enable e ∧
      t.get R.EV_CFG_size_log2 e = bits v.toNat 28 24 ∧ t.get R.EV_HEAD_head e = 0 ∧ t.get R.EV_TAIL_tail e = 0 ∧
      t.coalCount (64 + e) = 0) ∧
    -- jrOn
    (∀ (j : Fin 4) (v : Word), 16 ≤ bits v.toNat 29 24 → bits v.toNat 29 24 ≤ 52 → v.getLsbD 31 → s.hostKind ≠ 2 →
      s.flag R.JR_CFG_enable j = false → Does (.jrCfgWrite j v) s fun t => t.flag R.JR_CFG_enable j ∧
      t.get R.JR_CFG_size_log2 j = bits v.toNat 29 24 ∧ t.jrHead j = 0 ∧ t.jrTail j = 0 ∧
      OnlyRegs [R.JR_CFG.at j, R.JR_HEAD_LO.at j, R.JR_HEAD_HI.at j, R.JR_TAIL_LO.at j, R.JR_TAIL_HI.at j] s t) ∧
    -- jrIllegal
    (∀ (j : Fin 4) (v : Word), bits v.toNat 29 24 < 16 ∨ 52 < bits v.toNat 29 24 → Does (.jrCfgWrite j v) s fun t => t = s) ∧
    -- release
    (∀ (c : Fin 64) (h : HeldCpl), s.hostKind ≠ 2 → s.hamper.heldCpls.find? (fun (x : HeldCpl) =>
      decide (x.cq = c.val)) = some h →
      s.get R.CQ_STATUS_state c = 1 → s.cqSpace c → Does (.completionRelease c) s fun t =>
        t.get R.CQ_TAIL_tail c = State.nextIndex (s.get R.CQ_CFG_size_log2 c) (s.get R.CQ_TAIL_tail c) % 2 ^ 17 ∧
        t.hamper.heldCpls = s.hamper.heldCpls.erase h) ∧
    -- releaseNone
    (∀ (c : Fin 64), s.hostKind ≠ 2 → (∀ x ∈ s.hamper.heldCpls, x.cq ≠ c.val) → Does (.completionRelease c) s fun t => t = s) ∧
    -- releaseMail
    (∀ (c : Fin 64) (h : HeldCpl) (l : List HeldCpl), s.hostKind = 2 → s.hamper.heldCpls = h :: l → s.hamper.cplFifo.length < 64 →
      Does (.completionRelease c) s fun t => t.hamper.cplFifo = s.hamper.cplFifo ++ [State.withPhase h.bytes 1] ∧
      t.hamper.heldCpls = l ∧ t.get R.MB_STATUS_completions = (s.hamper.cplFifo.length + 1) % 2 ^ (R.MB_STATUS_completions.msb + 1
      - R.MB_STATUS_completions.lsb)) ∧
    -- coalNone
    (∀ (r : Fin 72), s.coalCount r = 0 → Does (.coalTimer r) s fun t => t = s) ∧
    -- coalEarly
    (∀ (r : Fin 72) (us : Nat), us = (if r.val < 64 then s.get R.CQ_CFG_coal_us r else s.get R.EV_CFG_coal_us (r - 64)) →
      us = 0 ∨ s.now < (sparseFind r.val s.hamper.coalAt).getD 0 + 1000 * us →
      Does (.coalTimer r) s fun t => t = s) ∧
    -- coal
    (∀ (r : Fin 72) (v : Nat), s.coalCount r ≠ 0 → (sparseFind r.val s.hamper.coalAt).getD 0 + 1000 * (if r.val < 64 then s.get
      R.CQ_CFG_coal_us r else s.get R.EV_CFG_coal_us (r - 64)) ≤ s.now →
      r.val < 64 ∧ s.get R.CQ_CFG_coal_us r ≠ 0 ∧ v = s.get R.CQ_CFG_vector r ∨ 64 ≤ r.val ∧ s.get R.EV_CFG_coal_us (r - 64) ≠ 0 ∧
        s.isRoot = true ∧ v = s.get R.EV_CFG_vector (r - 64) →
      Does (.coalTimer r) s fun t => t.coalCount r = 0 ∧ (if s.masked v then v ∈ t.hamper.pba ∧
        t.hamper.sent = s.hamper.sent else t.hamper.sent = s.hamper.sent ++ [v]) ∧ t.regs = s.regs) ∧
    -- journal
    (∀ (r : Staged) (size : Nat), s.hamper.staged = [r] → s.flag R.JR_CFG_enable r.ring → s.jrRoom r →
      s.jrWeight (State.stagedBy r) = 0 → size = 64 * State.len64 r.body.length →
      size ≤ 2 ^ s.get R.JR_CFG_size_log2 r.ring - s.jrTail r.ring % 2 ^ 52 →
      Does (.journalWrite) s fun t => t.hamper.staged = [] ∧ t.jrTail r.ring = State.jrAdvance (s.get R.JR_CFG_size_log2 r.ring)
        (s.jrTail r.ring) size % 2 ^ 53) ∧
    -- journalTurn
    (∀ (r : Staged) (size : Nat), s.hamper.staged = [r] → s.flag R.JR_CFG_enable r.ring → s.jrRoom r →
      0 < s.jrWeight (State.stagedBy r) → size = 64 * State.len64 r.body.length → s.hamper.jrTurn = State.stagedBy r →
      size ≤ (sparseFind (State.stagedBy r) s.hamper.jrCredit).getD 0 →
      size ≤ 2 ^ s.get R.JR_CFG_size_log2 r.ring - s.jrTail r.ring % 2 ^ 52 →
      Does (.journalWrite) s fun t => t.hamper.staged = [] ∧ t.jrTail r.ring = State.jrAdvance (s.get R.JR_CFG_size_log2 r.ring)
        (s.jrTail r.ring) size % 2 ^ 53) ∧
    -- journalDrops
    (∀ (r : Staged), s.hamper.staged = [r] → s.flag R.JR_CFG_enable r.ring = false →
      Does (.journalWrite) s fun t => t.hamper.staged = [] ∧ t.regs = s.regs ∧ t.host = s.host) ∧
    -- mailGo
    (
      (s.hostKind = 2 → s.flag R.MB_CTL_busy = false → s.hamper.cplFifo.length < 64 →
        Does (.mailboxGo) s fun t => t.hamper.mbSlots = s.hamper.mbSlots ++ [(List.range 16).flatMap fun i =>
        bytesLE 4 (s.get R.MB_DESC_word i)] ∧ t.flag R.MB_CTL_busy = State.mailWhole t.hamper.mbSlots ∧
        OnlyRegs [R.MB_CTL.off] { s with hamper := t.hamper } t) ∧
      (s.hostKind ≠ 2 ∨ s.flag R.MB_CTL_busy = true ∨ 64 ≤ s.hamper.cplFifo.length → Does (.mailboxGo) s fun t => t = s)) ∧
    -- pops
    (s.hamper.heldCpls = [] →
      (Does (.mbCplPop) s fun t => t.readData = State.fifoWord s.hamper.cplFifo 3 ∧ t.hamper.cplFifo = s.hamper.cplFifo.drop 1) ∧
      (Does (.mbEvtPop) s fun t => t.readData = State.fifoWord s.hamper.evFifo 7 ∧ t.hamper.evFifo = s.hamper.evFifo.drop 1))

/-- Each command that ends gives its status and result as its one completion to the mailbox or the completion queue that is open
for it, and is tracked no longer, whatever the host: NOP with OK; FENCE with OK and one event; a SEGMENT, behind no earlier
command of its queue for its tile and with none fetched behind it that acts by itself, with the pointer and time of its
placement at the tail when motion is its root's to command, its trail has room and it is not tracked; an illegal one, and one
whose root may not command motion, with a refusal. A tracked SEGMENT goes on waiting for its retirement, and one at a full
trail waits for room. REG_WRITE and REG_READ of TIME_CFG write it and return it. HANDLE_ALLOC, off a ring, binds the lowest
free handle and returns it, or finds no target; HANDLE_FREE frees its handle or finds none. TIME_SET is refused at a device
that is not the master, and at the master slews within 100 ms, steps beyond, and waits for its pulse when it asks for one.
Where a clause rests on a reading or a choice of the model, it is that of assumptions 70, 71 and 78. -/
def Obligations.DescriptorsActAndAnswer : Prop :=
  ∀ (s : State) (d : Desc),
    -- nop
    (Does (.nop d) s fun t => Completes s t d.ref 0 0 ∧ t.tiles = s.tiles) ∧
    -- fence
    (Does (.fence d) s fun t => Completes s t d.ref 0 0 ∧ t.hamper.evSeq = (s.hamper.evSeq + 1) % 2 ^ 32 ∧ t.tiles = s.tiles) ∧
    -- behind
    (s.inOrder d = false → Does (.segment d) s fun t => t = s) ∧
    -- segment
    (s.inOrder d → (∀ x ∈ s.hamper.fetched, opOf x.slot ∉ [2, 3, 4]) → s.motionRefusal d.ref = none →
      s.segLegal d.tile (State.descSeg d) → s.trailCount d.tile < 1024 → (∀ x ∈ s.hamper.heldSegs, x.tile ≠ d.tile) →
      Does (.segment d) s fun t => t.bytes (slotAddr d.tile (s.tail d.tile)) 32 = segBytes (State.descSeg d) ∧
      t.tail d.tile = (s.tail d.tile + 1) % 2048 ∧ (d.ref.track = false → Completes s t d.ref 0 (0xFF + 256 * s.tail d.tile + 2 ^
      32 * (s.now % 2 ^ 32))) ∧ (d.ref.track = true → (⟨d.ref, .segment d.tile (s.tail d.tile)⟩ : Track) ∈ t.hamper.tracks)) ∧
    -- segmentHeld
    (s.inOrder d → (∀ x ∈ s.hamper.fetched, opOf x.slot ∉ [2, 3, 4]) → s.motionRefusal d.ref = none →
      s.segLegal d.tile (State.descSeg d) → (1024 ≤ s.trailCount d.tile ∨ s.hamper.heldSegs.any fun (x : Desc) =>
      decide (x.tile = d.tile)) →
      Does (.segment d) s fun t => t.hamper.heldSegs = s.hamper.heldSegs ++ [d] ∧
        (⟨d.ref, .heldSegment d.tile⟩ : Track) ∈ t.hamper.tracks ∧ t.tail d.tile = s.tail d.tile ∧ t.mem = s.mem ∧
        t.hamper.cplFifo = s.hamper.cplFifo) ∧
    -- segmentRefused
    (s.inOrder d → (∀ x ∈ s.hamper.fetched, opOf x.slot ∉ [2, 3, 4]) → s.motionRefusal d.ref = none →
      s.segLegal d.tile (State.descSeg d) = false → Does (.segment d) s fun t => Completes s t d.ref 0x03 0 ∧ t.tiles = s.tiles ∧
      t.mem = s.mem) ∧
    -- motionBarred
    (∀ (st : Nat), s.inOrder d → (∀ x ∈ s.hamper.fetched, opOf x.slot ∉ [2, 3, 4]) → s.motionRefusal d.ref = some st →
      Does (.segment d) s fun t => Completes s t d.ref st 0 ∧ t.tiles = s.tiles ∧ t.mem = s.mem ∧
      t.get R.USF_AUTH_REFUSED_count = min (s.get R.USF_AUTH_REFUSED_count + 1) (2 ^ (R.USF_AUTH_REFUSED_count.msb + 1 -
      R.USF_AUTH_REFUSED_count.lsb) - 1)) ∧
    -- regWrite
    (fieldLE d.slot 0x20 4 = 0x901C → fieldLE d.slot 0x24 4 = 1 → Does (.regWrite d) s fun t => Completes s t d.ref 0 0 ∧
      t.get R.TIME_CFG_interval = fieldLE d.slot 0x28 4 % 65536 ∧ t.tiles = s.tiles) ∧
    -- regRead
    (fieldLE d.slot 0x20 4 = 0x901C → fieldLE d.slot 0x24 4 = 1 → Does (.regRead d) s fun t =>
      Completes s t d.ref 0 (s.rd R.TIME_CFG.off).toNat ∧ t.tiles = s.tiles) ∧
    -- alloc
    (∀ (a : AxisRef) (tile : Bool), s.named d.ref.sq d.slot = some (a, tile) → (s.serialAt a).isSome →
      s.flag R.USF_ID_ring = false → s.freeHandle < 65536 → Does (.handleAlloc d) s fun t => Completes s t d.ref 0 s.freeHandle ∧
      t.hamper.handles = s.hamper.handles ++ [(s.freeHandle, (s.serialAt a).getD 0, a.tile.val)]) ∧
    -- allocNone
    (s.named d.ref.sq d.slot = none → Does (.handleAlloc d) s fun t => Completes s t d.ref 0x05 0 ∧
      t.hamper.handles = s.hamper.handles) ∧
    -- free
    (∀ (e : Nat × Nat × Nat), s.hamper.handles.find? (fun (x : Nat × Nat × Nat) =>
      decide (x.1 = fieldLE d.slot 0x20 2)) = some e →
      s.flag R.USF_ID_ring = false → Does (.handleFree d) s fun t => Completes s t d.ref 0 0 ∧
        t.hamper.handles = s.hamper.handles.filter (fun (x : Nat × Nat × Nat) => decide (x.1 ≠ fieldLE d.slot 0x20 2))) ∧
    -- freeNone
    ((∀ x ∈ s.hamper.handles, x.1 ≠ fieldLE d.slot 0x20 2) → Does (.handleFree d) s fun t => Completes s t d.ref 0x05 0 ∧
      t.hamper.handles = s.hamper.handles) ∧
    -- timeRefused
    (s.isMaster = false ∨ s.stepPending = true → Does (.timeSet d) s fun t => Completes s t d.ref 0x03 0 ∧ t.now = s.now ∧
      t.clock = s.clock) ∧
    -- timeSlews
    (s.isMaster → s.stepPending = false → fieldLE d.slot 0x28 1 = 0 → ((fieldLE d.slot 0x20 8 : Int) - s.now).natAbs ≤ 100000000 →
      Does (.timeSet d) s fun t => Completes s t d.ref 0 0 ∧ t.now = s.now ∧
      t.getInt R.TIME_RATE_rate = State.slewRate (((fieldLE d.slot 0x20 8 : Int) - s.now) * 1000000000)) ∧
    -- timeSteps
    (s.isMaster → s.stepPending = false → fieldLE d.slot 0x28 1 = 0 → 100000000 < ((fieldLE d.slot 0x20 8 : Int) - s.now).natAbs →
      Does (.timeSet d) s fun t => t.stepPending ∧ t.clock.stepRef = some d.ref ∧ t.now = s.now ∧
      t.hamper.cplFifo = s.hamper.cplFifo) ∧
    -- timeWaits
    (s.isMaster → s.stepPending = false → fieldLE d.slot 0x28 1 = 1 → Does (.timeSet d) s fun t =>
      t.clock.setting = s.clock.setting ++ [(d.ref, fieldLE d.slot 0x20 8, s.now)] ∧ t = { s with clock := t.clock })

/-- While no command of another device waits, a fetch from a queue whose turn it is not changes nothing, one whose read fails
takes its queue to ERROR, and a mailbox slot of an unknown opcode or a valid NOP is rejected or admitted. The first scheduled
command that is due acts; one that has been executed completes SCHED_DONE; none due, nothing happens. MIGRATE rebinds its
queue under a new epoch and its marker lets the queue run on once the old commands are done. A leadership change to the
present device advances the group's epoch; for a group that is not led here there is no target. Where a clause rests on a
reading or a choice of the model, it is that of assumptions 67, 70, 77 and 79. -/
def Obligations.CommandsAreFetchedScheduledAndMigrated : Prop :=
  ∀ (s : State),
    -- fetchNot
    (∀ (q : Fin 128) slots, s.hamper.waiting = [] → s.fetchNext ≠ some q.val → Does (.descriptorFetch q slots) s fun t => t = s) ∧
    -- fetchFails
    (∀ (q : Fin 128), s.hamper.waiting = [] → s.fetchNext = some q.val → s.hostKind ≠ 2 →
      Does (.descriptorFetch q none) s fun t => t.get R.SQ_STATUS_state q = 2 ∧ t.get R.SQ_STATUS_error q = 0x12 ∧
      t.get R.SQ_HEAD_head q = s.get R.SQ_HEAD_head q) ∧
    -- fetchUnknown
    (∀ (q : Fin 128) slots (slot : List Byte), s.hamper.waiting = [] → s.fetchNext = some q.val → s.hostKind = 2 →
      s.hamper.mbSlots = [slot] → opOf slot = 0x12 → bit (flagsOf slot) 1 = false → s.hamper.cplFifo.length < 64 →
      Does (.descriptorFetch q slots) s fun t => t.hamper.cplFifo = s.hamper.cplFifo ++ [State.withPhase (State.cplBytes (fieldLE
      slot 2 2) 0x01 2 q.val (s.get R.SQ_HEAD_head q % 65536) 0) 1] ∧ t.hamper.mbSlots = [] ∧ t.flag R.MB_CTL_busy = false ∧
      t.hamper.fetched = s.hamper.fetched ∧ t.tiles = s.tiles) ∧
    -- fetchNop
    (∀ (q : Fin 128) slots (slot : List Byte), s.hamper.waiting = [] → s.fetchNext = some q.val → s.hostKind = 2 →
      s.hamper.mbSlots = [slot] → opOf slot = 0x00 → headerOk slot → payloadOk slot [] → modeOf slot = 3 →
      s.unfinished q = false → fieldLE slot 0x12 2 = 0 → fieldLE slot 0x18 8 = 0 →
      Does (.descriptorFetch q slots) s fun t => (t.hamper.fetched.getLast?).map (fun (d : Desc) => (d.slot, d.ref.tag,
      d.ref.sq)) = some (slot, fieldLE slot 2 2, q.val) ∧ t.hamper.mbSlots = [] ∧ t.flag R.MB_CTL_busy = false ∧
      t.hamper.cplFifo = s.hamper.cplFifo ∧ t.tiles = s.tiles) ∧
    -- noneDue
    (s.hamper.scheds.find? s.isDue = none → Does (.schedDue) s fun t => t = s) ∧
    -- due
    (∀ (x : Sched), s.hamper.scheds = [x] → s.isDue x → opOf x.desc.slot = 0 → MailOpen s x.desc.ref →
      Does (.schedDue) s fun t => t.hamper.scheds = [] ∧ Answers s t x.desc.ref (if s.hamper.executed.any fun e =>
      State.sameCommand e (s.recordOf x) then 0x0D else if x.epoch = s.epoch ∧
      s.tickStart < x.time + 1000 then 0x00 else 0x0C) 0) ∧
    -- migrate
    (∀ (d : Desc), isRebind d.slot → s.motionRefusal d.ref = none → s.hamper.migrating.all (fun (m : Nat × CmdRef × List CmdRef)
      => decide (m.1 ≠ d.ref.sq)) →
      bits (fieldLE d.slot 0x24 4) 31 30 = 0 → d.ref.sq < 128 → Does (.migrate d) s fun t =>
        (t.rd (R.SQ_BIND.at d.ref.sq)).toNat = fieldLE d.slot 0x24 4 ∧ t.get R.SQ_CFG_cq d.ref.sq = fieldLE d.slot 0x21 1 % 2 ^
        (R.SQ_CFG_cq.msb + 1 - R.SQ_CFG_cq.lsb) ∧ t.get R.SQ_STATUS_epoch d.ref.sq = (s.get R.SQ_STATUS_epoch d.ref.sq + 1) %
        65536 ∧ t.get R.SQ_STATUS_state d.ref.sq = (if s.get R.SQ_STATUS_state d.ref.sq = 1 then 3 else s.get R.SQ_STATUS_state
        d.ref.sq) ∧ t.hamper.migrating.map (fun (m : Nat × CmdRef × List CmdRef) =>
        m.1) = s.hamper.migrating.map (fun (m : Nat × CmdRef × List CmdRef) => m.1) ++ [d.ref.sq] ∧ t.tiles = s.tiles) ∧
    -- migrateNot
    (∀ (d : Desc), isRebind d.slot = false → Does (.migrate d) s fun t => t = s) ∧
    -- migrateTwice
    (∀ (d : Desc), isRebind d.slot → s.motionRefusal d.ref = none → s.hamper.migrating.any (fun (m : Nat × CmdRef × List CmdRef)
      => decide (m.1 = d.ref.sq)) →
      MailOpen s d.ref → Does (.migrate d) s fun t => Answers s t d.ref 0x13 0 ∧
        t.rd (R.SQ_BIND.at d.ref.sq) = s.rd (R.SQ_BIND.at d.ref.sq)) ∧
    -- markerNot
    (∀ (q : Fin 128), (∀ m ∈ s.hamper.migrating, m.1 = q.val → m.2.2 ≠ []) → Does (.migrateMarker q) s fun t => t = s) ∧
    -- marker
    (∀ (q : Fin 128) (m : Nat × CmdRef × List CmdRef), s.hamper.migrating.find? (fun (x : Nat × CmdRef × List CmdRef) =>
      decide (x.1 = q.val)) = some m →
      m.2.2 = [] → Does (.migrateMarker q) s fun t => (∀ x ∈ t.hamper.migrating, x.1 ≠ q.val) ∧
        (∀ x ∈ t.hamper.tracks, x.ref ≠ m.2.1) ∧ t.get R.SQ_STATUS_state q = (if s.get R.SQ_STATUS_state q = 3 then 1 else s.get
        R.SQ_STATUS_state q) ∧ (MailOpen s m.2.1 → t.hamper.cplFifo = s.hamper.cplFifo ++ [State.withPhase (State.cplBytes
        m.2.1.tag 0x00 6 m.2.1.sq (s.get R.SQ_HEAD_head m.2.1.sq % 65536) 0) 1])) ∧
    -- leader
    (∀ (d : Desc) (k : Nat) (g : GroupSlot), isRebind d.slot = false → s.motionRefusal d.ref = none →
      s.ledSlot (fieldLE d.slot 0x22 2) = some k → s.group k = some g → k < groupMax →
      s.nextHop (fieldLE d.slot 0x28 9) (fieldLE d.slot 0x31 1) = Hop.consume →
      g.epoch < 65536 → Does (.migrateLeader d) s fun t => (t.group k).map (fun (x : GroupSlot) => (x.tag, x.epoch,
        x.leaderHere)) = some (g.tag, (g.epoch + 1) % 65536, true) ∧ (MailOpen s d.ref →
        (∀ n : Fin 64, s.flag R.GROUP_STATUS_waiting_start n = false) → Answers s t d.ref 0 0)) ∧
    -- leaderNone
    (∀ (d : Desc), isRebind d.slot = false → s.motionRefusal d.ref = none → s.ledSlot (fieldLE d.slot 0x22 2) = none →
      MailOpen s d.ref → Does (.migrateLeader d) s fun t => Answers s t d.ref 0x05 0 ∧ t.groups = s.groups)

/-- A HELLO brings an aligned port UP with its peer's values, or to REFUSED with the reason; a port without its peer's HELLO sends
its own, at most every 10 us. LINK_ACK takes the peer's credit and removes the copies it acknowledges; this port's own
LINK_ACK leaves at once. A port that has had no alignment for 10 us, or no frame for 100 us, goes to the state that its pins
and alignment give and is counted; sideband changes show in the status and an absent module takes the port to state 1. After
20 us without acknowledgement every copy is sent again, and a copy replayed 8 times takes the port to FAULT. A fault's end and
alignment move a port among TRAINING and the HELLO state. Module accesses start on their command and end with data or a NAK,
and the diagnostics poll stores what it read. Where a clause rests on a reading or a choice of the model, it is that of
assumption 83. -/
def Obligations.LinkPortsTrainComeUpAndGoDown : Prop :=
  ∀ (p : Fin 4) (s : State),
    -- helloUp
    (∀ (f : Frame), f.typ = 0xBE → s.portState p = 3 → s.refusalOf p f.payload = 0 → Does (.hello p f) s fun t => t.portUp p ∧
      (t.port p).aligned ∧ (t.port p).hello = some f.payload ∧ t.get R.USF_PSTATUS_peer_port p = fieldLE f.payload 8 1 % 4 ∧
      t.mem = s.mem) ∧
    -- helloRefused
    (∀ (f : Frame), f.typ = 0xBE → s.portState p = 3 → s.refusalOf p f.payload ≠ 0 →
      Does (.hello p f) s fun t => t.portState p = 5 ∧ t.get R.USF_PSTATUS_reason p = s.refusalOf p f.payload ∧
      t.tiles = s.tiles ∧ t.mem = s.mem) ∧
    -- helloNot
    (∀ (f : Frame), f.typ ≠ 0xBE ∨ (s.portState p ≠ 3 ∧ s.portState p ≠ 4 ∧ s.portState p ≠ 5) →
      Does (.hello p f) s fun t => t = s) ∧
    -- helloSend
    (s.flag R.USF_PCFG_enable p → s.flag R.USF_PSTATUS_mod_abs p = false → (s.port p).aligned → (s.port p).hello = none →
      s.recent (s.port p).helloAt 10000 = false → Does (.helloSend p) s fun t => t.usfen.wire = s.usfen.wire ++ [(p.val,
      s.mkFrame 0xBE 0 0 false (s.helloBytes p))] ∧ t.port p = { s.port p with helloAt := some s.now } ∧ (∀ q, q ≠ p →
      t.port q = s.port q) ∧ OnlyRegs [R.USF_TXCNT.at p] { s with usfen := t.usfen } t) ∧
    -- helloSoon
    (s.flag R.USF_PCFG_enable p = false ∨ s.flag R.USF_PSTATUS_mod_abs p = true ∨ (s.port p).aligned = false ∨
      (s.port p).hello.isSome = true ∨ s.recent (s.port p).helloAt 10000 = true →
      Does (.helloSend p) s fun t => t = s) ∧
    -- ack
    (∀ (f : Frame), Taken s p f 0xBF → bit (fieldLE f.payload 4 1) 0 = false → bit (fieldLE f.payload 4 1) 1 = false →
      (s.port p).waitCmd = [] → (s.port p).waitBulk = [] → Does (.linkAck p f) s fun t =>
      (t.port p).unackedCmd = State.ackedRest (fieldLE f.payload 0 2) (s.port p).unackedCmd ∧
      (t.port p).unackedBulk = State.ackedRest (fieldLE f.payload 2 2) (s.port p).unackedBulk ∧
      (t.port p).creditCmd = fieldLE f.payload 8 4 ∧ (t.port p).creditBulk = fieldLE f.payload 12 4 ∧ t.tiles = s.tiles ∧
      t.mem = s.mem) ∧
    -- ackSend
    (s.portUp p → Does (.linkAckSend p) s fun t => (t.usfen.wire.getLast?).map (fun (x : Nat × Frame) => (x.1,
      x.2.typ)) = some (p.val, 0xBF) ∧ t.usfen.wire.length = s.usfen.wire.length + 1 ∧ (t.port p).nakCmd = false ∧
      (t.port p).nakBulk = false ∧ OnlyRegs [R.USF_TXCNT.at p] { s with usfen := t.usfen } t) ∧
    -- notUp
    (∀ aligned, s.portUp p = false →
      (Does (.linkAckSend p) s fun t => t = s) ∧
      (Does (.linkDown p aligned) s fun t => t = s) ∧
      (Does (.replayTimeout p) s fun t => t = s)) ∧
    -- down
    (∀ (aligned : Bool), s.portUp p → (if aligned then (s.port p).heardAt + 100000 ≤ s.now else (s.port p).aligned = false ∧
      (s.port p).lostAt + 10000 ≤ s.now) →
      Does (.linkDown p aligned) s fun t => t.portState p = (if s.flag R.USF_PCFG_enable p = false then 0 else if s.flag
        R.USF_PSTATUS_mod_abs p then 1 else if s.flag R.USF_PSTATUS_tx_fault p then 6 else if (s.port p).aligned then 3 else 2) ∧
        t.get R.USF_ERR_downs p = min (s.get R.USF_ERR_downs p + 1) 255 ∧ (t.port p).aligned = (s.port p).aligned ∧
        (t.port p).wasUp ∧ (t.port p).hello = none ∧ (t.port p).unackedCmd = [] ∧ (t.port p).waitCmd = []) ∧
    -- downEarly
    (∀ (aligned : Bool), (if aligned then s.now < (s.port p).heardAt + 100000 else (s.port p).aligned = true ∨
      s.now < (s.port p).lostAt + 10000) →
      Does (.linkDown p aligned) s fun t => t = s) ∧
    -- pins
    (∀ (modAbs los txFault : Bool) (page : Byte × Byte), s.flag R.USF_PSTATUS_mod_abs p ≠ modAbs ∨
      s.flag R.USF_PSTATUS_los p ≠ los ∨ s.flag R.USF_PSTATUS_tx_fault p ≠ txFault →
      s.get R.PWR_STATUS_state < 2 → Does (.sfpSignalChange p modAbs los txFault page) s fun t =>
        t.flag R.USF_PSTATUS_mod_abs p = modAbs ∧ t.flag R.USF_PSTATUS_los p = los ∧ t.flag R.USF_PSTATUS_tx_fault p = txFault ∧
        (s.flag R.USF_PCFG_enable p = true → modAbs = true → t.portState p = 1) ∧ (s.flag R.USF_PCFG_enable p = true →
        modAbs = false → txFault = true → t.portState p = 6)) ∧
    -- pinsSame
    (∀ (modAbs los txFault : Bool) (page : Byte × Byte), s.flag R.USF_PSTATUS_mod_abs p = modAbs →
      s.flag R.USF_PSTATUS_los p = los → s.flag R.USF_PSTATUS_tx_fault p = txFault →
      Does (.sfpSignalChange p modAbs los txFault page) s fun t => t = s) ∧
    -- replay
    (s.portUp p → (s.port p).ackedAt + 20000 ≤ s.now → (s.port p).unackedCmd ++ (s.port p).unackedBulk ≠ [] →
      ((s.port p).unackedCmd ++ (s.port p).unackedBulk).all (fun (e : Frame × Nat) => decide (e.2 < 8)) →
      Does (.replayTimeout p) s fun t => t.usfen.wire = s.usfen.wire ++ ((s.port p).unackedCmd ++ (s.port p).unackedBulk).map (fun
        (e : Frame × Nat) => (p.val, e.1)) ∧ (t.port p).unackedCmd = (s.port p).unackedCmd.map (fun (e : Frame × Nat) => (e.1,
        e.2 + 1)) ∧ (t.port p).unackedBulk = (s.port p).unackedBulk.map (fun (e : Frame × Nat) => (e.1, e.2 + 1)) ∧
        OnlyRegs [R.USF_TXCNT.at p, R.USF_ERR.at p] { s with usfen := t.usfen } t) ∧
    -- replayEarly
    (((s.port p).unackedCmd = [] ∧ (s.port p).unackedBulk = []) ∨ s.now < (s.port p).ackedAt + 20000 →
      Does (.replayTimeout p) s fun t => t = s) ∧
    -- replayEnds
    (s.portUp p → (s.port p).ackedAt + 20000 ≤ s.now → ((s.port p).unackedCmd ++ (s.port p).unackedBulk).any (fun (e : Frame ×
      Nat) => decide (8 ≤ e.2)) →
      Does (.replayTimeout p) s fun t => t.portState p = 6 ∧ t.get R.USF_ERR_downs p = min (s.get R.USF_ERR_downs p + 1) 255 ∧
        (t.port p).unackedCmd = []) ∧
    -- faultEnd
    (s.portState p = 6 → (s.port p).faultAt + 1000000 ≤ s.now → s.flag R.USF_PSTATUS_tx_fault p = false →
      s.flag R.USF_PSTATUS_mod_abs p = false → s.flag R.USF_PCFG_enable p →
      Does (.portFaultEnd p) s fun t => t.portState p = (if (s.port p).aligned then 3 else 2) ∧ t.tiles = s.tiles) ∧
    -- faultStays
    (s.portState p ≠ 6 ∨ s.flag R.USF_PSTATUS_tx_fault p = true ∨ s.now < (s.port p).faultAt + 1000000 →
      Does (.portFaultEnd p) s fun t => t = s) ∧
    -- alignment
    (∀ (on : Bool), s.portState p = 2 ∨ s.portState p = 3 → s.flag R.USF_PSTATUS_tx_fault p = false →
      s.flag R.USF_PSTATUS_mod_abs p = false → s.flag R.USF_PCFG_enable p →
      Does (.linkAlignmentChange p on) s fun t => t.portState p = (if on then 3 else 2) ∧ (t.port p).aligned = on ∧
      t.tiles = s.tiles) ∧
    -- access
    (∀ (v : Word), s.flag R.SFP_CMD_busy p = false → bits v.toNat 23 16 = 0xA0 ∨ bits v.toNat 23 16 = 0xA2 →
      Does (.sfpAccess p v) s fun t => t.flag R.SFP_CMD_busy p = v.getLsbD 31 ∧ t.get R.SFP_CMD_addr p = bits v.toNat 15 8 ∧
      t.flag R.SFP_CMD_write p = v.getLsbD 28 ∧ OnlyRegs [R.SFP_CMD.at p] s t) ∧
    -- accessRefused
    (∀ (v : Word), s.flag R.SFP_CMD_busy p ∨ (bits v.toNat 23 16 ≠ 0xA0 ∧ bits v.toNat 23 16 ≠ 0xA2) →
      Does (.sfpAccess p v) s fun t => t.flag R.SFP_CMD_busy p = s.flag R.SFP_CMD_busy p ∧
        t.get R.SFP_CMD_addr p = s.get R.SFP_CMD_addr p ∧ OnlyRegs [R.SFP_CMD.at p] s t) ∧
    -- accessDone
    (∀ (got : Option Byte), s.flag R.SFP_CMD_busy p → Does (.sfpAccessDone p got) s fun t => t.flag R.SFP_CMD_busy p = false ∧
      (got = none → t.flag R.SFP_CMD_nak p) ∧ t.get R.SFP_CMD_data p = (if s.flag R.SFP_CMD_write p then s.get R.SFP_CMD_data p
      else (got.map BitVec.toNat).getD (s.get R.SFP_CMD_data p)) ∧ OnlyRegs [R.SFP_CMD.at p] s t) ∧
    -- accessIdle
    (∀ got, s.flag R.SFP_CMD_busy p = false → Does (.sfpAccessDone p got) s fun t => t = s) ∧
    -- ddm
    (∀ (temp rx flags : BitVec 16), (s.port p).options / 64 % 2 = 1 → s.recent (s.port p).ddmAt 1000000000 = false →
      s.flag R.USF_PSTATUS_mod_abs p = false → Does (.ddmPoll p temp rx flags) s fun t => t.get R.SFP_DDM_temp p = temp.toNat ∧
      t.get R.SFP_DDM_rx_pwr p = rx.toNat ∧ t.flag R.USF_PSTATUS_ddm_alarm p = decide (flags.toNat ≠ 0) ∧ t.tiles = s.tiles) ∧
    -- ddmNot
    (∀ temp rx flags, s.flag R.USF_PSTATUS_mod_abs p = true ∨ (s.port p).options / 64 % 2 = 0 ∨
      s.recent (s.port p).ddmAt 1000000000 = true →
      Does (.ddmPoll p temp rx flags) s fun t => t = s)

/-- While a domain is raised here, CHAIN_ALARM_SEND sends its mask and the alarm counter on every UP port and notes the time; a
CHAIN_ALARM received asserts its domains and latches lull_source bit 22 of the tiles in them; 350 us after the last one a
domain not raised here deasserts. A group alarm's copies go out, an arriving one latches bit 22 of the local members, and its
end clears it. SCALE_REQ, GROUP_CMD and a plan checksum are entered in the group; a discard notice marks the member's
segments; a member's segment is placed in its trail; READY makes the member ready at the leader; an EPOCH frame of a newer
epoch is adopted with its leader and an older one is counted as stale; the whole of LEADER_STATE makes the device the leader.
A frame of a tag that no local slot holds does nothing more than be received. Where a clause rests on a reading or a choice of
the model, it is that of assumptions 80 and 83. -/
def Obligations.ChainAlarmsAndGroupFramesAct : Prop :=
  ∀ (p : Fin 4) (f : Frame) (s : State),
    -- alarmSend
    (∀ (q : Fin 4), s.get R.USF_DOM_STATE_raised ≠ 0 → s.usfen.alarmSent + 100000 ≤ s.now → s.portUp q →
      Does (.chainAlarmSend) s fun t => (q.val, s.mkFrame 0x01 0 0 true (bytesLE 2 (s.get R.USF_DOM_STATE_raised) ++ [0,
      0] ++ bytesLE 4 s.usfen.alarmCount)) ∈ t.usfen.wire ∧ t.usfen.alarmCount = (s.usfen.alarmCount + 1) % 2 ^ 32 ∧
      t.tiles = s.tiles ∧ t.mem = s.mem) ∧
    -- alarmSendNot
    (s.get R.USF_DOM_STATE_raised = 0 ∨ s.now < s.usfen.alarmSent + 100000 →
      Does (.chainAlarmSend) s fun t => t = s) ∧
    -- alarm
    (∀ (d : Fin 16) (n : Fin 64), Taken s p f 0x01 → (fieldLE f.payload 0 2).testBit d.val →
      s.maskBit R.USF_DOM_LO_tiles_lo R.USF_DOM_HI_tiles_hi n.val d.val →
      Does (.chainAlarm p f) s fun t => t.get R.USF_DOM_STATE_asserted = s.get R.USF_DOM_STATE_asserted ||| fieldLE f.payload 0 2
        ∧ t.fbit R.TILE_STATE_lull_source 6 n ∧ sparseFind d.val t.usfen.domSeen = some s.now ∧
        t.get R.USF_DOM_STATE_raised = s.get R.USF_DOM_STATE_raised) ∧
    -- deassert
    (∀ (d : Fin 16), s.fbit R.USF_DOM_STATE_asserted d.val → s.fbit R.USF_DOM_STATE_raised d.val = false →
      (sparseFind d.val s.usfen.domSeen).getD 0 + 350000 ≤ s.now → Does (.domainDeassert d) s fun t =>
      t.get R.USF_DOM_STATE_asserted = s.get R.USF_DOM_STATE_asserted - 2 ^ d.val ∧
      t.get R.USF_DOM_STATE_raised = s.get R.USF_DOM_STATE_raised ∧ t.tiles = s.tiles) ∧
    -- deassertNot
    (∀ (d : Fin 16), s.fbit R.USF_DOM_STATE_asserted d.val = false ∨ s.fbit R.USF_DOM_STATE_raised d.val ∨
      s.now < (sparseFind d.val s.usfen.domSeen).getD 0 + 350000 →
      Does (.domainDeassert d) s fun t => t = s) ∧
    -- copies
    (∀ (k : Fin 16) (g : GroupSlot) (q : Fin 4), s.group k.val = some g → g.alarmCopies ≠ 0 →
      g.alarmAt + 100000 * (3 - g.alarmCopies) ≤ s.now → s.portUp q → Does (.groupAlarmCopy k) s fun t =>
      t.group k.val = some { g with alarmCopies := g.alarmCopies - 1 } ∧ (q.val,
      s.mkFrame 0x00 0 0 true (bytesLE 2 g.tag ++ bytesLE 1 g.alarmCause ++ bytesLE 1 (4 - g.alarmCopies) ++ bytesLE 1
      g.alarmOrigin ++ [0, 0, 0] ++ bytesLE 8 g.alarmAt)) ∈ t.usfen.wire ∧ t.tiles = s.tiles ∧ t.mem = s.mem) ∧
    -- copiesWait
    (∀ (k : Fin 16) (g : GroupSlot), s.group k.val = some g → g.alarmCopies = 0 ∨
      s.now < g.alarmAt + 100000 * (3 - g.alarmCopies) →
      Does (.groupAlarmCopy k) s fun t => t = s) ∧
    -- copiesNone
    (∀ (k : Fin 16), s.group k.val = none →
      (Does (.groupAlarmCopy k) s fun t => t = s) ∧
      (Does (.groupAlarmExpiry k) s fun t => t = s)) ∧
    -- groupAlarm
    (∀ (k : Nat) (n : Fin 64), Taken s p f 0x00 → s.slotOfTag (fieldLE f.payload 0 2) = some k → n ∈ s.localMembers k →
      Does (.groupAlarm p f) s fun t => t.fbit R.TILE_STATE_lull_source 6 n) ∧
    -- alarmEnds
    (∀ (k : Fin 16) (g : GroupSlot), s.group k.val = some g → Does (.groupAlarmExpiry k) s fun t =>
      t.group k.val = some (if g.alarmUntil ≤ s.now then { g with alarmUntil := 0 } else g) ∧ t = { s with groups := t.groups }) ∧
    -- scale
    (∀ (k : Nat) (g : GroupSlot), Taken s p f 0x02 → s.slotOfTag (fieldLE f.payload 0 2) = some k → s.group k = some g →
      s.now ≤ fieldLE f.payload 8 8 → Does (.scaleReq p f) s fun t => t.group k = some
      { g with scales := g.scales ++ [({ device := f.srcRoute, seq := fieldLE f.payload 2 2, reqV := fieldLE f.payload 4 2, reqA := fieldLE f.payload 6 2, apply := fieldLE f.payload 8 8 } : ScaleReq)] }
      ∧ t.tiles = s.tiles ∧ t.mem = s.mem) ∧
    -- groupCmd
    (∀ (k : Nat) (g : GroupSlot), Taken s p f 0x86 → s.slotOfTag (fieldLE f.payload 0 2) = some k → s.group k = some g →
      s.now ≤ fieldLE f.payload 8 8 → Does (.groupCmdFrame p f) s fun t => t.group k = some
      { g with cmds := g.cmds ++ [({ cmd := fieldLE f.payload 2 1, target := signed 32 (fieldLE f.payload 4 4), apply := fieldLE f.payload 8 8, accStop := 0, jerkStop := 0, ref := none } : GroupCmd)] }
      ∧ t.tiles = s.tiles ∧ t.mem = s.mem) ∧
    -- late
    (∀ (k : Nat) (n : Fin 64), s.slotOfTag (fieldLE f.payload 0 2) = some k → n ∈ s.localMembers k →
      fieldLE f.payload 8 8 < s.now →
      (Taken s p f 0x02 → Does (.scaleReq p f) s fun t => t.flag R.GROUP_STATUS_late_frame n ∧
        t.fbit R.TILE_STATE_lull_source 6 n) ∧
      (Taken s p f 0x86 → Does (.groupCmdFrame p f) s fun t => t.flag R.GROUP_STATUS_late_frame n ∧
        t.fbit R.TILE_STATE_lull_source 6 n)) ∧
    -- discard
    (∀ (k : Nat) (n : Fin 64), Taken s p f 0x03 → s.slotOfTag (fieldLE f.payload 0 2) = some k → s.localMembers k = [n] →
      (s.plan n).groupRan.contains (fieldLE f.payload 2 2, fieldLE f.payload 4 2) = false →
      Does (.discardNotice p f) s fun t => (t.plan n).discard = (s.plan n).discard ++ (s.groupSlots n (fieldLE f.payload 2 2)
        (fieldLE f.payload 4 2)).map (fun (x : Nat) => (x, endEpoch)) ∧ (∀ m, m ≠ n → t.tile m = s.tile m) ∧ t.mem = s.mem) ∧
    -- discardStarted
    (∀ (k : Nat) (n : Fin 64), Taken s p f 0x03 → s.slotOfTag (fieldLE f.payload 0 2) = some k → s.localMembers k = [n] →
      (s.plan n).groupRan.contains (fieldLE f.payload 2 2, fieldLE f.payload 4 2) →
      Does (.discardNotice p f) s fun t => t.fbit R.TILE_STATE_lull_source 6 n ∧
        ((t.group k).map fun (x : GroupSlot) => (x.alarmCause, x.alarmOrigin)) = some (7, s.get R.GROUP_CFG_member n)) ∧
    -- gustNot
    (∀ (k : Nat) (g : GroupSlot), Taken s p f 0x04 → s.slotOfTag (fieldLE f.payload 0 2) = some k → s.group k = some g →
      g.leaderHere = false ∨ g.retract ≠ none → Does (.gustReq p f) s fun t => t = (s.receive p f).2) ∧
    -- gust
    (∀ (k : Nat) (g : GroupSlot), Taken s p f 0x04 → s.slotOfTag (fieldLE f.payload 0 2) = some k → s.group k = some g →
      g.leaderHere → g.retract = none → g.cmds = [] → g.devices = [(s.ownRoute, s.ownDepth)] →
      Does (.gustReq p f) s fun t => ((t.group k).map fun (x : GroupSlot) => x.cmds.map fun (c : GroupCmd) => (c.cmd,
      c.apply)) = some [(2, s.tickEnd)] ∧ (t.group k).bind (fun (x : GroupSlot) => x.retract) = some g.nextSeq) ∧
    -- checksum
    (∀ (k : Nat) (g : GroupSlot), Taken s p f 0x50 → s.slotOfTag (fieldLE f.payload 0 2) = some k → s.group k = some g →
      (g.checks.all (fun (x : Checksum) => decide (x.tick ≠ fieldLE f.payload 8 8) || decide (x.crc = fieldLE f.payload 4 4)) →
        Does (.planChecksumFrame p f) s fun t => t.group k = some
        { g with checks := g.checks ++ [({ tick := fieldLE f.payload 8 8, device := f.srcRoute, crc := fieldLE f.payload 4 4, covered := fieldLE f.payload 0x11 1 } : Checksum)] }
        ∧ t.tiles = s.tiles) ∧
      (g.checks.any (fun (x : Checksum) => decide (x.tick = fieldLE f.payload 8 8) && decide (x.crc ≠ fieldLE f.payload 4 4)) →
        Does (.planChecksumFrame p f) s fun t => (s.localMembers k).all (fun (n : Fin 64) =>
        t.flag R.GROUP_STATUS_diverged n && t.fbit R.TILE_STATE_lull_source 6 n))) ∧
    -- segment
    (∀ (k : Nat) (g : GroupSlot) (n : Fin 64) (q : Seg), Taken s p f 0x82 → s.slotOfTag (fieldLE f.payload 0 2) = some k →
      s.group k = some g → State.newer (bits q.w6 31 16) g.epoch = false → State.newer (s.get R.GROUP_LEAD_epoch n) (bits q.w6 31
      16) = false →
      (s.localMembers k).find? (fun (m : Fin 64) => decide (s.get R.GROUP_CFG_member m = fieldLE f.payload 2 1)) = some n →
      q = (let h : Seg := segOfBytes (f.payload.drop 4); { h with w6 := h.w6 - h.w6 % 16 + k }) →
      bit q.w6 15 = false → s.segLegal n q → s.trailCount n < 1024 → s.hamper.heldGroup.all (fun (h : Nat × Seg × Option Nat ×
        Bool) => decide (h.1 ≠ n.val)) →
      Does (.groupSeg p f) s fun t => t.trailCount n = s.trailCount n + 1 ∧ t.segAt n (s.tail n) = q ∧
        MemOutside (slotAddr n (s.tail n)) 32 s t) ∧
    -- start
    (∀ (k : Nat) (g : GroupSlot) (n : Fin 64) (q : Nat × Nat × Option Nat), Taken s p f 0x83 →
      s.slotOfTag (fieldLE f.payload 0 2) = some k → s.group k = some g → State.newer (fieldLE f.payload 2 2) g.epoch = false →
      State.newer g.epoch (fieldLE f.payload 2 2) = false → s.localMembers k = [n] → (s.plan n).slots = [q] →
      segType (s.segAt n q.1) = 6 → segCond (s.segAt n q.1) = 5 → bits (s.segAt n q.1).w6 14 4 = fieldLE f.payload 4 2 →
      bits (s.segAt n q.1).w6 31 16 = fieldLE f.payload 2 2 → s.now ≤ fieldLE f.payload 8 8 →
      Does (.startFrame p f) s fun t => (t.plan n).slots = [(q.1, q.2.1, some (fieldLE f.payload 8 8))] ∧
      bit (t.segAt n q.1).w6 15 ∧ (t.segAt n q.1).w7 = fieldLE f.payload 8 8 % 2 ^ 32 ∧
      t.flag R.GROUP_STATUS_waiting_start n = false ∧ MemOutside (slotAddr n q.1) 32 s t) ∧
    -- epoch
    (∀ (k : Nat) (g : GroupSlot) (n : Fin 64), Taken s p f 0x84 → s.slotOfTag (fieldLE f.payload 0 2) = some k →
      s.group k = some g → s.localMembers k = [n] → g.migrate = none → State.newer (fieldLE f.payload 2 2) g.epoch →
      s.flag R.GROUP_STATUS_waiting_start n = false → Does (.epochFrame p f) s fun t =>
      t.get R.GROUP_LEAD_epoch n = fieldLE f.payload 2 2 ∧ (t.group k).map (fun (x : GroupSlot) => (x.epoch, x.leaderRoute,
      x.leaderDepth)) = some (fieldLE f.payload 2 2, fieldLE f.payload 4 9, fieldLE f.payload 0x0D 1) ∧ t.tiles = s.tiles) ∧
    -- stale
    (∀ (k : Nat) (g : GroupSlot) (n : Fin 64), Taken s p f 0x84 → s.slotOfTag (fieldLE f.payload 0 2) = some k →
      s.group k = some g → s.localMembers k = [n] → State.newer g.epoch (fieldLE f.payload 2 2) →
      Does (.epochFrame p f) s fun t => t.get R.GROUP_STATUS_stale_frames n = min (s.get R.GROUP_STATUS_stale_frames n + 1) (2 ^
      (R.GROUP_STATUS_stale_frames.msb + 1 - R.GROUP_STATUS_stale_frames.lsb) - 1) ∧ t.groups = s.groups ∧ t.tiles = s.tiles) ∧
    -- ready
    (∀ (k : Nat) (g : GroupSlot), Taken s p f 0x85 → s.slotOfTag (fieldLE f.payload 0 2) = some k → s.group k = some g →
      g.leaderHere → g.moves = [] → g.last.map (fun (x : Nat × List (Nat × Int)) => x.1) ≠ some (fieldLE f.payload 6 2) →
      g.members.any (fun (m : Member) => decide (m.index ≠ fieldLE f.payload 2 1) && decide (m.ready ≠ some (fieldLE f.payload 6
        2))) →
      Does (.readyFrame p f) s fun t => t.group k = some
        { g with members := g.members.map (fun (m : Member) => if m.index = fieldLE f.payload 2 1 then { m with ready := some (fieldLE f.payload 6 2), reported := signed 32 (fieldLE f.payload 0x0C 4) } else m) }
        ∧ t.tiles = s.tiles ∧ t.mem = s.mem) ∧
    -- leaderPart
    (∀ (j : Nat), Taken s p f 0x87 → s.usfen.leadParts = [] → j < fieldLE f.payload 3 1 → j ≠ fieldLE f.payload 2 1 →
      Does (.leaderState p f) s fun t => t.usfen.leadParts = [(fieldLE f.payload 0 2, fieldLE f.payload 2 1, f.payload)] ∧
      t.groups = s.groups ∧ t.tiles = s.tiles) ∧
    -- leads
    (∀ (k : Nat) (g : GroupSlot), Taken s p f 0x87 → s.usfen.leadParts = [] → fieldLE f.payload 3 1 = 1 →
      fieldLE f.payload 2 1 = 0 → s.slotOfTag (fieldLE f.payload 0 2) = some k → s.group k = some g →
      Does (.leaderState p f) s fun t => ((t.group k).map fun (x : GroupSlot) => (x.leaderHere, x.epoch, x.nextSeq,
      x.lead)) = some (true, (g.epoch + 1) % 65536, fieldLE f.payload 4 2, g.lead) ∧ t.usfen.leadParts = []) ∧
    -- noSlot
    (s.slotOfTag (fieldLE f.payload 0 2) = none →
      (Taken s p f 0x00 → Does (.groupAlarm p f) s fun t => t = (s.receive p f).2) ∧
      (Taken s p f 0x02 → Does (.scaleReq p f) s fun t => t = (s.receive p f).2) ∧
      (Taken s p f 0x03 → Does (.discardNotice p f) s fun t => t = (s.receive p f).2) ∧
      (Taken s p f 0x04 → Does (.gustReq p f) s fun t => t = (s.receive p f).2) ∧
      (Taken s p f 0x50 → Does (.planChecksumFrame p f) s fun t => t = (s.receive p f).2)) ∧
    -- noSlotCmd
    (s.slotOfTag (fieldLE f.payload 0 2) = none →
      (Taken s p f 0x82 → Does (.groupSeg p f) s fun t => t = (s.receive p f).2) ∧
      (Taken s p f 0x83 → Does (.startFrame p f) s fun t => t = (s.receive p f).2) ∧
      (Taken s p f 0x84 → Does (.epochFrame p f) s fun t => t = (s.receive p f).2) ∧
      (Taken s p f 0x85 → Does (.readyFrame p f) s fun t => t = (s.receive p f).2) ∧
      (Taken s p f 0x86 → Does (.groupCmdFrame p f) s fun t => t = (s.receive p f).2))

/-- A roll call asked of a device that is not the roll-call root gives result 2 and one in progress is left alone; at the root it
takes the next generation and numbers itself unit 1 at depth 1. ROLL_CALL numbers the device, a second one of its generation
refuses the link. A reply on the awaited port adds what it counted; an entry is listed at the root; 10 ms without the reply
ends the device's part with result 6, and a contest is reported once a second. A claim by R513 takes, loses or contests the
authority: every outcome of epoch, unit and time. HANDLE_SYNC adds or removes its handle, and a root completes with LINK_DOWN
what it would send over a lost route. Where a clause rests on a reading or a choice of the model, it is that of assumption 55. -/
def Obligations.RollCallsAndAuthorityClaimsSettle : Prop :=
  ∀ (p : Fin 4) (f : Frame) (s : State),
    -- goNotRoot
    (s.isRollRoot = false → s.flag R.USF_ROLL_busy = false → Does (.rollCallGo) s fun t => t.get R.USF_ROLL_result = 2 ∧
      OnlyRegs [R.USF_ROLL.off] s t) ∧
    -- goBusy
    (s.flag R.USF_ROLL_busy → Does (.rollCallGo) s fun t => t = s) ∧
    -- go
    (s.isRollRoot → s.flag R.USF_ROLL_busy = false → s.flag R.USF_ID_ring = false → Does (.rollCallGo) s fun t => t.ownRoute = 1 ∧
      t.ownDepth = 1 ∧ t.get R.USF_ROLL_GEN_generation = (s.get R.USF_ROLL_GEN_generation + 1) % 2 ^ 32 ∧
      t.usfen.units = [(Config.serial, 1, 1, true)] ∧ t.tiles = s.tiles ∧ t.mem = s.mem) ∧
    -- goAlone
    (s.isRollRoot → s.flag R.USF_ROLL_busy = false → s.flag R.USF_ID_ring = false → s.portUp 1 = false → s.portUp 2 = false →
      s.portUp 3 = false → Does (.rollCallGo) s fun t => t.flag R.USF_ROLL_busy = false ∧ t.get R.USF_ROLL_result = 0 ∧
      t.get R.USF_ROLL_units = 1 ∧ t.usfen.roll = none) ∧
    -- called
    (Taken s p f 0x88 → s.ownDepth = 0 ∨ s.get R.USF_ROLL_GEN_generation ≠ fieldLE f.payload 0 4 →
      fieldLE f.payload 8 9 < 2 ^ 72 → fieldLE f.payload 4 1 < 8 → Does (.rollCall p f) s fun t =>
        t.ownRoute = fieldLE f.payload 8 9 ∧ t.ownDepth = fieldLE f.payload 4 1 ∧
        t.get R.USF_ROLL_GEN_generation = fieldLE f.payload 0 4) ∧
    -- loop
    (Taken s p f 0x88 → s.ownDepth ≠ 0 → s.get R.USF_ROLL_GEN_generation = fieldLE f.payload 0 4 →
      Does (.rollCall p f) s fun t => t.portState p = 5 ∧ t.get R.USF_PSTATUS_reason p = 4 ∧ t.ownRoute = s.ownRoute ∧
      t.ownDepth = s.ownDepth) ∧
    -- reply
    (∀ (r : RollCall), Taken s p f 0x89 → s.usfen.roll = some r → r.waits = p.val → p = 1 → s.isRollRoot →
      fieldLE f.payload 0 4 = s.get R.USF_ROLL_GEN_generation → Does (.rollReply p f) s fun t => t.usfen.roll = none ∧
      t.flag R.USF_ROLL_busy = false ∧ t.get R.USF_ROLL_units = min 0xFFFF (r.counted + fieldLE f.payload 8 4 + 1) ∧
      t.tiles = s.tiles) ∧
    -- replyBranch
    (∀ (r : RollCall), Taken s p f 0x89 → s.usfen.roll = some r → r.waits = p.val → p = 2 → s.portUp 3 → s.ownDepth < 6 →
      fieldLE f.payload 4 2 ≤ 4095 → fieldLE f.payload 0 4 = s.get R.USF_ROLL_GEN_generation →
      Does (.rollReply p f) s fun t => t.usfen.roll = some
      ({ waits := 3, below := fieldLE f.payload 4 2, counted := r.counted + fieldLE f.payload 8 4, result := if r.result = 0 then fieldLE f.payload 6 1 else r.result, asked := s.now }
      : RollCall) ∧ (t.port 2).given = (List.range (fieldLE f.payload 4 2 - r.below)).map (fun (x : Nat) => x + r.below) ∧
      t.tiles = s.tiles) ∧
    -- replyNot
    (Taken s p f 0x89 → s.usfen.roll = none → Does (.rollReply p f) s fun t => t = (s.receive p f).2) ∧
    -- entry
    (Taken s p f 0x8A →
      (s.isRollRoot → Does (.rollEntry p f) s fun t => t.usfen.units = s.usfen.units.filter (fun (x : Nat × Nat × Nat × Bool) =>
        decide (x.1 ≠ fieldLE f.payload 0 8)) ++ [(fieldLE f.payload 0 8, fieldLE f.payload 8 9, fieldLE f.payload 0x11 1,
        bit (fieldLE f.payload 0x12 1) 0)] ∧ (bit (fieldLE f.payload 0x12 1) 0 → t.flag R.USF_ID_ring) ∧ t.tiles = s.tiles) ∧
      (s.isRollRoot = false → Does (.rollEntry p f) s fun t => t = (s.receive p f).2)) ∧
    -- timeout
    (∀ (r : RollCall), s.usfen.roll = some r → r.asked + 10000000 ≤ s.now → s.isRollRoot →
      Does (.rollTimeout) s fun t => t.usfen.roll = none ∧ t.flag R.USF_ROLL_busy = false ∧
      t.get R.USF_ROLL_result = (if r.result = 0 then 6 else r.result) % 2 ^ (R.USF_ROLL_result.msb + 1 - R.USF_ROLL_result.lsb) ∧
      t.tiles = s.tiles) ∧
    -- timeoutNone
    ((∀ r, s.usfen.roll = some r → s.now < r.asked + 10000000) → Does (.rollTimeout) s fun t => t = s) ∧
    -- claimTakes
    (Taken s p f 0x8B → s.get R.USF_AUTH_EPOCH_epoch < fieldLE f.payload 0 4 ∨ s.get R.USF_AUTH_state = 0 ∨
      s.get R.USF_AUTH_state = 2 →
      fieldLE f.payload 4 2 < 4096 → Does (.authority p f) s fun t => t.get R.USF_AUTH_state = 1 ∧
        t.get R.USF_AUTH_holder = fieldLE f.payload 4 2 ∧ t.get R.USF_AUTH_EPOCH_epoch = fieldLE f.payload 0 4 ∧
        t.get R.USF_AUTH_contender = 0 ∧ t.tiles = s.tiles) ∧
    -- claimLoses
    (Taken s p f 0x8B → s.get R.USF_AUTH_state = 1 ∨ s.get R.USF_AUTH_state = 3 →
      fieldLE f.payload 0 4 < s.get R.USF_AUTH_EPOCH_epoch → Does (.authority p f) s fun t =>
      t.rd R.USF_AUTH.off = s.rd R.USF_AUTH.off ∧ t.rd R.USF_AUTH_EPOCH.off = s.rd R.USF_AUTH_EPOCH.off ∧
      t.usfen.claimTime = s.usfen.claimTime ∧ t.tiles = s.tiles) ∧
    -- claimContests
    (∀ (u u0 : Nat), Taken s p f 0x8B → s.get R.USF_AUTH_state = 1 → fieldLE f.payload 0 4 = s.get R.USF_AUTH_EPOCH_epoch →
      u = fieldLE f.payload 4 2 → u < 4096 → u0 = s.get R.USF_AUTH_holder → u ≠ u0 → fieldLE f.payload 7 1 = s.usfen.claimEpoch →
      ((fieldLE f.payload 8 8 : Int) - s.usfen.claimTime).natAbs ≤ 100000000 →
      Does (.authority p f) s fun t => t.get R.USF_AUTH_state = 3 ∧ t.get R.USF_AUTH_holder = min u u0 ∧
        t.get R.USF_AUTH_contender = max u u0 ∧ t.tiles = s.tiles) ∧
    -- claimLater
    (∀ (u u0 : Nat), Taken s p f 0x8B → s.get R.USF_AUTH_state = 1 → fieldLE f.payload 0 4 = s.get R.USF_AUTH_EPOCH_epoch →
      u = fieldLE f.payload 4 2 → u < 4096 → u0 = s.get R.USF_AUTH_holder → u ≠ u0 →
      fieldLE f.payload 7 1 ≠ s.usfen.claimEpoch ∨ 100000000 < ((fieldLE f.payload 8 8 : Int) - s.usfen.claimTime).natAbs →
      Does (.authority p f) s fun t => t.get R.USF_AUTH_state = 1 ∧ t.get R.USF_AUTH_holder = min u u0 ∧ t.tiles = s.tiles) ∧
    -- report
    (
      (s.get R.USF_AUTH_state ≠ 3 ∨ s.now < s.usfen.contestAt + 1000000000 → Does (.contestReport) s fun t => t = s) ∧
      (s.get R.USF_AUTH_state = 3 → s.usfen.contestAt + 1000000000 ≤ s.now →
        Does (.contestReport) s fun t => t.usfen.contestAt = s.usfen.contestAt + 1000000000 ∧
        t.hamper.evSeq = (if s.isRoot then (s.hamper.evSeq + 1) % 2 ^ 32 else s.hamper.evSeq) ∧
        t.rd R.USF_AUTH.off = s.rd R.USF_AUTH.off ∧ t.tiles = s.tiles)) ∧
    -- handle
    (Taken s p f 0x8C → Does (.handleSync p f) s fun t => t.hamper.handles = s.hamper.handles.filter (fun (e : Nat × Nat × Nat) =>
      decide (e.1 ≠ fieldLE f.payload 0 2)) ++ (if fieldLE f.payload 2 1 = 1 then [(fieldLE f.payload 0 2, fieldLE f.payload 4 8,
      fieldLE f.payload 3 1)] else []) ∧ t.tiles = s.tiles ∧ t.mem = s.mem) ∧
    -- lost
    (∀ (r : CmdRef) (x : Nat × Nat), Taken s p f 0x8D → s.isRoot → s.isRootB = false →
      s.hamper.tracks = [({ ref := r, point := .remote x.1 x.2 } : Track)] →
      fieldLE f.payload 9 1 = 1 → fieldLE f.payload 0x0A 1 = 1 → routeField (fieldLE f.payload 0 9) 0 < routeField x.1 0 →
        MailOpen s r → Does (.routeLost p f) s fun t => Answers s t r 0x11 0 ∧ t.hamper.tracks = [] ∧ t.usfen.ringCut ∧
        t.tiles = s.tiles) ∧
    -- lostNot
    (Taken s p f 0x8D → s.isRoot = false → Does (.routeLost p f) s fun t => t = (s.receive p f).2)

/-- A COMMAND's first part of several waits for the others, and a whole command of another root is admitted under that root's
reference. A COMPLETION ends the command it names at its root, and one that names none does nothing more. A tunnelled write
reaches host memory and a failed one is counted; a tunnelled read that fails is counted; data for a read of this device is
kept until whole, and the head mirror is read while enabled, every poll_us or at once with a ring full. With 4,096 commands
tracked a further one waits. A frame that fails its header check is counted and one on a port that is down is lost; a routed
frame for another device leaves on the port of the routing rule with one hop less. A frame of another type, or for another
device, changes nothing by a row that is not its own. References set their flag, and PCIe reset is a level. Where a clause
rests on a reading or a choice of the model, it is that of assumptions 6, 71, 82 and 84. -/
def Obligations.CommandsAndHostMemoryCrossTheChain : Prop :=
  ∀ (p : Fin 4) (f : Frame) (s : State),
    -- part
    (∀ (j : Nat), Taken s p f 0x80 → s.get R.PWR_STATUS_state ≠ 1 → s.usfen.cmdParts = [] → j < fieldLE f.payload 2 1 →
      j ≠ fieldLE f.payload 1 1 → Does (.commandFrame p f) s fun t => t.usfen.cmdParts = [(f.srcRoute, fieldLE f.payload 0 1,
      fieldLE f.payload 1 1, f.payload.drop 4)] ∧ t.hamper.tracks = s.hamper.tracks ∧ t.tiles = s.tiles ∧ t.mem = s.mem) ∧
    -- command
    (∀ (slot : List Byte), Taken s p f 0x80 → s.get R.PWR_STATUS_state ≠ 1 → s.usfen.cmdParts = [] → fieldLE f.payload 2 1 = 1 →
      fieldLE f.payload 1 1 = 0 → slot = f.payload.drop 4 → slot.length = 64 → opOf slot = 0 → fieldLE slot 0x18 8 = 0 →
      s.hamper.waiting = [] → s.mayTrack → Does (.commandFrame p f) s fun t => (t.hamper.fetched.getLast?).map (fun (d : Desc) =>
      (d.slot, d.ref)) = some (slot,
      ({ own := false, srcRoute := f.srcRoute, srcDepth := f.srcDepth, sq := fieldLE f.payload 0 1, tag := fieldLE slot 2 2, cq := 0, irq := bit (flagsOf slot) 2, track := bit (flagsOf slot) 0 }
      : CmdRef)) ∧ t.usfen.cmdParts = [] ∧ t.tiles = s.tiles) ∧
    -- commandWaits
    (∀ (slot : List Byte), Taken s p f 0x80 → s.get R.PWR_STATUS_state ≠ 1 → s.usfen.cmdParts = [] → fieldLE f.payload 2 1 = 1 →
      fieldLE f.payload 1 1 = 0 → slot = f.payload.drop 4 → slot.length = 64 → s.mayTrack = false →
      Does (.commandFrame p f) s fun t => t.hamper.waiting.map (fun (d : Desc) => (d.slot,
      d.ref.srcRoute)) = s.hamper.waiting.map (fun (d : Desc) => (d.slot, d.ref.srcRoute)) ++ [(slot, f.srcRoute)] ∧
      t.hamper.tracks = s.hamper.tracks ∧ t.tiles = s.tiles) ∧
    -- completion
    (∀ (r : CmdRef) (x : Nat × Nat), Taken s p f 0x81 → s.hamper.tracks = [({ ref := r, point := .remote x.1 x.2 } : Track)] →
      r.sq = fieldLE f.payload 4 1 → r.tag = fieldLE f.payload 0 2 → bit (fieldLE f.payload 3 1) 1 →
        fieldLE f.payload 2 1 = 0x00 → s.hamper.forms = [] → MailOpen s r → Does (.completionFrame p f) s fun t =>
        Answers s t r 0x00 (fieldLE f.payload 8 8) ∧ t.hamper.tracks = [] ∧ t.tiles = s.tiles) ∧
    -- completionOld
    (Taken s p f 0x81 → s.hamper.tracks = [] → Does (.completionFrame p f) s fun t => t = (s.receive p f).2) ∧
    -- write
    (Taken s p f 0xC0 → bit (fieldLE f.payload 0x0A 1) 7 = false →
      (Does (.tunnelWrite p f true) s fun t => t = (s.receive p f).2.hostStore (fieldLE f.payload 0 8) ((f.payload.drop 16).take
        (fieldLE f.payload 8 2))) ∧
      (Does (.tunnelWrite p f false) s fun t => t.get R.USF_TUNNEL_ERR_write_err = min (s.get R.USF_TUNNEL_ERR_write_err + 1) (2 ^
        (R.USF_TUNNEL_ERR_write_err.msb + 1 - R.USF_TUNNEL_ERR_write_err.lsb) - 1) ∧ t.tiles = s.tiles ∧ t.mem = s.mem)) ∧
    -- readFails
    (Taken s p f 0xC1 → Does (.tunnelRead p f none) s fun t => t.get R.USF_TUNNEL_ERR_read_err = min (s.get
      R.USF_TUNNEL_ERR_read_err + 1) (2 ^ (R.USF_TUNNEL_ERR_read_err.msb + 1 - R.USF_TUNNEL_ERR_read_err.lsb) - 1) ∧
      t.tiles = s.tiles ∧ t.mem = s.mem) ∧
    -- read
    (∀ (l : List Byte) (q : Fin 4), Taken s p f 0xC1 → s.nextHop f.srcRoute f.srcDepth = Hop.port q → s.portUp q →
      (s.port q).waitBulk = [] → (s.port q).usedBulk + 6 ≤ (s.port q).creditBulk + 256 → fieldLE f.payload 8 2 ≤ 256 →
      f.flood = false → Does (.tunnelRead p f (some l)) s fun t => t.usfen.wire = s.usfen.wire ++ [(q.val,
      { s.mkFrame 0xC2 f.srcDepth f.srcRoute false (bytesLE 2 (fieldLE f.payload 0x0A 2) ++ [0, 0, 0] ++ List.replicate 11 0 ++ State.padTo (fieldLE f.payload 8 2) l) with lseq := (s.port q).txNext.2 })]
      ∧ t.tiles = s.tiles) ∧
    -- data
    (∀ (r : TunnelRead), Taken s p f 0xC2 → s.usfen.reads = [r] → r.tag = fieldLE f.payload 0 2 → r.load = none →
      fieldLE f.payload 4 1 = 0 → r.got.length + (f.payload.drop 16).length < r.len →
      Does (.tunnelData p f) s fun t => t.usfen.reads = [{ r with got := r.got ++ f.payload.drop 16 }] ∧ t.tiles = s.tiles) ∧
    -- dataOfNone
    (Taken s p f 0xC2 → s.usfen.reads = [] → Does (.tunnelData p f) s fun t => t = (s.receive p f).2) ∧
    -- mirror
    (s.flag R.USF_MIRROR_CFG_enable → s.isRoot = false → s.recent s.usfen.mirrorAt (1000 * max 1 (s.get R.USF_MIRROR_CFG_poll_us))
      = false ∨ s.ringFull = true →
      Does (.mirrorPoll) s fun t => t.usfen.reads = s.usfen.reads ++
        [({ tag := s.usfen.readTag, load := none, store := false, len := 64, got := [] } : TunnelRead)] ∧
        t.usfen.readTag = (s.usfen.readTag + 1) % 65536 ∧ t.tiles = s.tiles ∧ t.host = s.host) ∧
    -- mirrorNot
    (s.flag R.USF_MIRROR_CFG_enable = false ∨ s.isRoot = true ∨ (s.recent s.usfen.mirrorAt (1000 * max 1 (s.get
      R.USF_MIRROR_CFG_poll_us)) = true ∧ s.ringFull = false) →
      Does (.mirrorPoll) s fun t => t = s) ∧
    -- headerBad
    (∀ pcrcOk host, s.portUp p → Does (.frameForward p f false pcrcOk host) s fun t =>
      t.get R.USF_ERR_hcrc_err p = min (s.get R.USF_ERR_hcrc_err p + 1) 255 ∧
      t.get R.USF_RXCNT_frames p = (s.get R.USF_RXCNT_frames p + 1) % 2 ^ 32 ∧ (∀ q, q ≠ p → t.port q = s.port q) ∧
      (t.port p).heardAt = s.now ∧ OnlyRegs [R.USF_ERR.at p, R.USF_RXCNT.at p] { s with usfen := t.usfen } t) ∧
    -- portDown
    (∀ hcrcOk pcrcOk host, s.portUp p = false → Does (.frameForward p f hcrcOk pcrcOk host) s fun t => t = s) ∧
    -- forward
    (∀ (q : Fin 4) host, s.portUp p → (s.receive p f).1 → frameCls f < 2 → f.flood = false → f.dstDepth ≠ 0 →
      s.nextHop f.dstRoute f.dstDepth = Hop.port q → q ≠ p → s.portUp q → Does (.frameForward p f true true host) s fun t =>
      t.usfen.wire = s.usfen.wire ++ [(q.val, { f with hops := f.hops - 1, lseq := 0 })] ∧ t.tiles = s.tiles ∧
      OnlyRegs [R.USF_TXCNT.at q, R.USF_RXCNT.at p] { s with usfen := t.usfen } t) ∧
    -- others
    (∀ ok data, f.flood = false → f.dstDepth ≠ 0 → f.dstRoute ≠ s.ownRoute ∨ f.dstDepth ≠ s.ownDepth →
      (Does (.linkAck p f) s fun t => t = s) ∧
      (Does (.chainAlarm p f) s fun t => t = s) ∧
      (Does (.groupAlarm p f) s fun t => t = s) ∧
      (Does (.scaleReq p f) s fun t => t = s) ∧
      (Does (.discardNotice p f) s fun t => t = s) ∧
      (Does (.gustReq p f) s fun t => t = s) ∧
      (Does (.planChecksumFrame p f) s fun t => t = s) ∧
      (Does (.commandFrame p f) s fun t => t = s) ∧
      (Does (.completionFrame p f) s fun t => t = s) ∧
      (Does (.groupSeg p f) s fun t => t = s) ∧
      (Does (.startFrame p f) s fun t => t = s) ∧
      (Does (.epochFrame p f) s fun t => t = s) ∧
      (Does (.readyFrame p f) s fun t => t = s) ∧
      (Does (.groupCmdFrame p f) s fun t => t = s) ∧
      (Does (.leaderState p f) s fun t => t = s) ∧
      (Does (.rollCall p f) s fun t => t = s) ∧
      (Does (.rollReply p f) s fun t => t = s) ∧
      (Does (.rollEntry p f) s fun t => t = s) ∧
      (Does (.authority p f) s fun t => t = s) ∧
      (Does (.handleSync p f) s fun t => t = s) ∧
      (Does (.routeLost p f) s fun t => t = s) ∧
      (Does (.tunnelWrite p f ok) s fun t => t = s) ∧
      (Does (.tunnelRead p f data) s fun t => t = s) ∧
      (Does (.tunnelData p f) s fun t => t = s)) ∧
    -- reference
    (∀ (q : Fin 4) (n : Fin 64), n.val / 16 = q.val →
      (Does (.referenceSettled (some q) 0 true) s fun t => t.flag R.ADC_REF_int_ok n) ∧
      (Does (.referenceSettled (some q) 1 true) s fun t => t.flag R.ADC_REF_vref_ok n) ∧
      (Does (.referenceSettled (some q) 2 true) s fun t => t.flag R.ADC_REF_vdda_ok n) ∧
      (Does (.referenceSettled none 0 true) s fun t => t.flag R.HOUSE_STATUS_int_ok ∧ OnlyRegs [R.HOUSE_STATUS.off] s t)) ∧
    -- perst
    (∀ (low : Bool), Does (.pciePerst low) s fun t => t = { s with perst := low })

/-- Every keyed row, sent its own command: without the pair running it completes CANOPY_DOWN; in a lockout LOCKED_OUT; without a
key in its slot KEY_EMPTY; without the right KEY_RIGHT; with a wrong mac KEY_TAG, which counts a failure; with a counter not
above the last accepted one KEY_COUNTER, which keeps the counter. A row that is sent the descriptor of another command does
nothing. A lockout's end clears the failures, and before its end nothing happens. Where a clause rests on a reading or a
choice of the model, it is that of assumption 76. -/
def Obligations.KeyedChecksStopAtTheFirstThatFails : Prop :=
  ∀ (c : Instr) (d : Desc) (s : State),
    -- down
    (KeyedCmd c d → MailOpen s d.ref → s.keyedUp = false → Does c s fun t => Answers s t d.ref 0x29 0 ∧ t.canopy = s.canopy ∧
      t.tiles = s.tiles ∧ t.mem = s.mem) ∧
    -- lockedOut
    (KeyedCmd c d → MailOpen s d.ref → s.keyedUp → s.canopy.lockedUntil.isSome → Does c s fun t => Answers s t d.ref 0x22 0 ∧
      t.canopy = s.canopy ∧ t.tiles = s.tiles ∧ t.mem = s.mem) ∧
    -- empty
    (KeyedCmd c d → MailOpen s d.ref → s.keyedUp → s.canopy.lockedUntil = none → (s.keySlot (keySlotOf d)).key = none →
      s.provisioning d = false → Does c s fun t => Answers s t d.ref 0x20 0 ∧ t.canopy = s.canopy ∧ t.tiles = s.tiles ∧
      t.mem = s.mem) ∧
    -- right
    (KeyedCmd c d → MailOpen s d.ref → s.keyedUp → s.canopy.lockedUntil = none → (s.keySlot (keySlotOf d)).key ≠ none →
      State.asksProvision d = false → (s.keySlot (keySlotOf d)).rights.testBit (keyedOp d - 0x40) = false →
      Does c s fun t => Answers s t d.ref 0x21 0 ∧ t.canopy = s.canopy ∧ t.tiles = s.tiles ∧ t.mem = s.mem) ∧
    -- mac
    (∀ (key : List Byte), KeyedCmd c d → MailOpen s d.ref → KeyPasses s d key → macOk key d = false →
      Does c s fun t => Answers s t d.ref 0x23 0 ∧ t.canopy.fails = 1 ∧ (t.keySlot (keySlotOf d)).counter = (s.keySlot (keySlotOf
      d)).counter ∧ t.tiles = s.tiles) ∧
    -- counter
    (∀ (key : List Byte), KeyedCmd c d → MailOpen s d.ref → s.keyedUp → s.canopy.lockedUntil = none →
      (s.keySlot (keySlotOf d)).key = some key → State.asksProvision d = false →
      (s.keySlot (keySlotOf d)).rights.testBit (keyedOp d - 0x40) → keyCounter d ≤ (s.keySlot (keySlotOf d)).counter →
      macOk key d → Does c s fun t => Answers s t d.ref 0x24 0 ∧ (t.keySlot (keySlotOf d)).counter = (s.keySlot (keySlotOf
      d)).counter ∧ t.tiles = s.tiles) ∧
    -- others
    (keyedOp d < 0x40 ∨ 0x47 ≤ keyedOp d →
      (Does (.safetyRegWrite d) s fun t => t = s) ∧
      (Does (.safetyTableWrite d) s fun t => t = s) ∧
      (Does (.splitOwnWrite d) s fun t => t = s) ∧
      (Does (.commandVeto d) s fun t => t = s) ∧
      (Does (.install d) s fun t => t = s) ∧
      (Does (.erase d) s fun t => t = s) ∧
      (Does (.provision d) s fun t => t = s) ∧
      (Does (.imageActivate d) s fun t => t = s) ∧
      (Does (.lullRelease d) s fun t => t = s) ∧
      (Does (.authorityClaim d) s fun t => t = s) ∧
      (Does (.epochReset d) s fun t => t = s) ∧
      (Does (.benchMode d) s fun t => t = s)) ∧
    -- lockoutEnds
    (∀ (u : Nat), s.canopy.lockedUntil = some u → u ≤ s.now → Does (.lockoutEnd) s fun t => t.canopy.lockedUntil = none ∧
      t.canopy.fails = 0 ∧ t.canopy.lockouts = s.canopy.lockouts ∧ t.flag R.KEY_STATUS_locked_out = false ∧ t.tiles = s.tiles) ∧
    -- lockoutStands
    (s.canopy.lockedUntil.all (fun (u : Nat) => decide (s.now < u)) →
      Does (.lockoutEnd) s fun t => t = s) ∧
    -- otherCommand
    (
      (¬ (keyedOp d = 0x40 ∧ (safetyKind d = 0 ∨ 4 ≤ safetyKind d)) → Does (.safetyRegWrite d) s fun t => t = s) ∧
      (¬ (keyedOp d = 0x40 ∧ safetyKind d = 1) → Does (.safetyTableWrite d) s fun t => t = s) ∧
      (¬ (keyedOp d = 0x40 ∧ safetyKind d = 2) → Does (.splitOwnWrite d) s fun t => t = s) ∧
      (¬ (keyedOp d = 0x40 ∧ safetyKind d = 3) → Does (.commandVeto d) s fun t => t = s) ∧
      (¬ (keyedOp d = 0x41 ∧ keyOp d = 1) → Does (.install d) s fun t => t = s) ∧
      (¬ (keyedOp d = 0x41 ∧ keyOp d = 2) → Does (.erase d) s fun t => t = s) ∧
      (¬ (keyedOp d = 0x41 ∧ keyOp d = 3) → Does (.provision d) s fun t => t = s) ∧
      (¬ (keyedOp d = 0x42) → Does (.imageActivate d) s fun t => t = s) ∧
      (¬ (keyedOp d = 0x43) → Does (.lullRelease d) s fun t => t = s) ∧
      (¬ (keyedOp d = 0x44) → Does (.authorityClaim d) s fun t => t = s) ∧
      (¬ (keyedOp d = 0x45) → Does (.epochReset d) s fun t => t = s) ∧
      (¬ (keyedOp d = 0x46) → Does (.benchMode d) s fun t => t = s))

/-- A masked write reaches DUSK_CFG, a word of the safety table, or the split ownership of the next Dawn, and ends OK or
STORE_FAILED; a target that may not be written completes KEY_FIELD. COMMAND raises the vetoes of its mask. LULL_RELEASE drops
the standing vetoes of its mask whose condition is over and returns their tiles, or completes CONDITION with none to drop.
INSTALL puts an unwrapped key whose check value agrees in its slot, or completes KEY_CHECK, and KEY_FIELD for a slot or rights
it may not give; ERASE takes a key away while another keeper stands, and completes CONDITION with none; a provisioning puts
its key in slot 0 when the check value agrees, and completes KEY_EMPTY once a key stands. IMAGE_ACTIVATE commits the boot slot
of the next Dawn, or completes KEY_FIELD for an image that fails its check and CONDITION for an older build not allowed.
AUTHORITY_CLAIM makes a root the holder when its epoch is newer, leaves an older state as it is, returns USF_AUTH, and
completes CONDITION at no root. EPOCH_RESET announces its step and waits for it, or completes CONDITION off the master or with
a step pending. BENCH_MODE sets the mode, or completes CONDITION without the strap. Where a clause rests on a reading or a
choice of the model, it is that of assumptions 16, 21 and 76. -/
def Obligations.KeyedCommandsAct : Prop :=
  ∀ (d : Desc) (key : List Byte) (s : State),
    -- register
    (∀ (w : Nat), KeyPasses s d key → keyedOp d = 0x40 → fieldLE d.slot 0x20 4 = R.DUSK_CFG.off →
      w = State.maskedWord (s.rd R.DUSK_CFG.off).toNat (fieldLE d.slot 0x24 4) (fieldLE d.slot 0x28 4) →
      macOk key d → Does (.safetyRegWrite d) s fun t => t.get R.DUSK_CFG_recover = bits w 7 0 ∧
        t.flag R.DUSK_CFG_vdd_en = bit w 31 ∧ t.flag R.DUSK_CFG_clock_en = bit w 30 ∧ t.tiles = s.tiles ∧ Commits s t d.ref) ∧
    -- registerBad
    (KeyPasses s d key → keyedOp d = 0x40 → safetyKind d = 0 → State.safetyTarget (bits (fieldLE d.slot 0x20 4) 19 0) = false →
      macOk key d → Does (.safetyRegWrite d) s fun t => Completes s t d.ref 0x27 0 ∧ t.tiles = s.tiles ∧ t.mem = s.mem) ∧
    -- table
    (∀ (i : Nat), KeyPasses s d key → keyedOp d = 0x40 → safetyKind d = 1 → fieldLE d.slot 0x20 3 = i → i < 520 → i % 8 ≠ 7 →
      macOk key d → Does (.safetyTableWrite d) s fun t => t.safety (i / 8) (i % 8) = State.maskedWord (s.safety (i / 8) (i % 8))
      (fieldLE d.slot 0x24 4) (fieldLE d.slot 0x28 4) &&& State.safetyMask (i / 8) (i % 8) ∧ Commits s t d.ref) ∧
    -- tableBad
    (KeyPasses s d key → keyedOp d = 0x40 → safetyKind d = 1 → 520 ≤ fieldLE d.slot 0x20 3 ∨ fieldLE d.slot 0x20 3 % 8 = 7 →
      macOk key d → Does (.safetyTableWrite d) s fun t => Completes s t d.ref 0x27 0 ∧ t.canopy.safety = s.canopy.safety ∧
      t.mem = s.mem) ∧
    -- split
    (∀ (own v : Nat), KeyPasses s d key → keyedOp d = 0x40 → safetyKind d = 2 → fieldLE d.slot 0x20 3 = 1 →
      own = s.canopy.ownNext.getD (s.get64 R.SPLIT_OWN_LO_tiles R.SPLIT_OWN_HI_tiles) →
      v = State.maskedWord (own / 2 ^ 32) (fieldLE d.slot 0x24 4) (fieldLE d.slot 0x28 4) →
      macOk key d → Does (.splitOwnWrite d) s fun t => t.canopy.ownNext = some (own % 2 ^ 32 + 2 ^ 32 * v) ∧
        t.get64 R.SPLIT_OWN_LO_tiles R.SPLIT_OWN_HI_tiles = s.get64 R.SPLIT_OWN_LO_tiles R.SPLIT_OWN_HI_tiles ∧
        Commits s t d.ref) ∧
    -- veto
    (∀ (n : Fin 64), KeyPasses s d key → keyedOp d = 0x40 → safetyKind d = 3 →
      (fieldLE d.slot 0x24 4 + 2 ^ 32 * fieldLE d.slot 0x28 4).testBit n.val →
      macOk key d → Does (.commandVeto d) s fun t => t.vetoed n ∧ t.fbit R.TILE_STATE_lull_source 2 n ∧
        bits (t.safety n.val 7) 31 24 = 7 ∧ Completes s t d.ref 0 0) ∧
    -- install
    (∀ (i : Fin 8), KeyPasses s d key → keyedOp d = 0x41 → keyOp d = 1 → fieldLE d.slot 0x21 1 = i.val →
      fieldLE d.slot 0x22 1 &&& (0xFF - (s.keySlot (keySlotOf d)).rights % 128) = 0 →
      macOk key d → Does (.install d) s fun t => (t.keySlot i).key = ((keyUnwrap key (((d.ext.headD []).drop 4).take 24)).filter
        fun (new : List Byte) => decide (keyCheck new = fieldLE d.slot 0x24 4)).or (s.keySlot i).key ∧
        ((t.keySlot i).key ≠ (s.keySlot i).key → (t.keySlot i).rights = fieldLE d.slot 0x22 1 ∧
        t.get R.KEY_KCV_kcv i = fieldLE d.slot 0x24 4 ∧ t.flag R.KEY_INFO_active i) ∧
        (if (keyUnwrap key (((d.ext.headD []).drop 4).take 24)).any fun (new : List Byte) =>
        decide (keyCheck new = fieldLE d.slot 0x24 4) then Commits s t d.ref else Completes s t d.ref 0x28 0)) ∧
    -- installBad
    (KeyPasses s d key → keyedOp d = 0x41 → keyOp d = 1 → 8 ≤ fieldLE d.slot 0x21 1 ∨
      fieldLE d.slot 0x22 1 &&& (0xFF - (s.keySlot (keySlotOf d)).rights % 128) ≠ 0 →
      macOk key d → Does (.install d) s fun t => Completes s t d.ref 0x27 0 ∧ t.mem = s.mem ∧ t.tiles = s.tiles) ∧
    -- erase
    (∀ (i : Fin 8), KeyPasses s d key → keyedOp d = 0x41 → keyOp d = 2 → fieldLE d.slot 0x21 1 = i.val → s.otherKeeper i.val →
      macOk key d → Does (.erase d) s fun t => (t.keySlot i).key = none ∧ (t.keySlot i).rights = 0 ∧
      t.flag R.KEY_INFO_active i = false ∧ Commits s t d.ref) ∧
    -- eraseBarred
    (KeyPasses s d key → keyedOp d = 0x41 → keyOp d = 2 → fieldLE d.slot 0x21 1 < 8 →
      s.otherKeeper (fieldLE d.slot 0x21 1) = false → macOk key d → Does (.erase d) s fun t => Completes s t d.ref 0x26 0 ∧
      t.mem = s.mem ∧ t.tiles = s.tiles) ∧
    -- provision
    (∀ (new : List Byte), s.keyedUp → s.canopy.lockedUntil = none → s.canopy.fails = 0 → s.canopy.lockouts = 0 →
      s.provisioning d → (s.keySlot 0).counter < keyCounter d → keyCounter d < (s.keySlot 0).mark →
      new = ((d.ext.headD []).drop 4).take 16 → keyCheck new = fieldLE d.slot 0x24 4 → macOk zeroKey d →
      Does (.provision d) s fun t => (t.keySlot 0).key = some new ∧ (t.keySlot 0).rights = 0x7F ∧
      (t.keySlot 0).counter = keyCounter d ∧ Commits s t d.ref) ∧
    -- provisionTwice
    (s.keyedUp → s.canopy.lockedUntil = none → s.noKeys = false → keyedOp d = 0x41 → keyOp d = 3 →
      Does (.provision d) s fun t => Completes s t d.ref 0x20 0 ∧ t.canopy = s.canopy ∧ t.mem = s.mem) ∧
    -- activate
    (∀ (i : Nat) (h : PsHead) (b : List Byte), KeyPasses s d key → keyedOp d = 0x42 → fieldLE d.slot 0x20 1 = i → i < 2 →
      s.psInForce 0x01 i = some h → s.psPayload h = b → macOk key d → Does (.imageActivate d) s fun t => (if State.bootImageOk b ∧
      fieldLE b 0x1C 4 = fieldLE d.slot 0x24 4 ∧ fieldLE b 0x20 4 = fieldLE d.slot 0x28 4 ∧
      (s.get R.CANOPY_FW_build ≤ fieldLE d.slot 0x28 4 ∨ fieldLE d.slot 0x21 1 ≠ 0) then t.ps = (s.psWrite 0x02 2 [BitVec.ofNat 8
      i]).1.ps else t.ps = s.ps) ∧ t.tiles = s.tiles ∧ (State.bootImageOk b ∧ fieldLE b 0x1C 4 = fieldLE d.slot 0x24 4 ∧
      fieldLE b 0x20 4 = fieldLE d.slot 0x28 4 ∧ (s.get R.CANOPY_FW_build ≤ fieldLE d.slot 0x28 4 ∨ fieldLE d.slot 0x21 1 ≠ 0) →
      Completes s t d.ref 0 i ∨ Completes s t d.ref 0x25 0) ∧ (State.bootImageOk b ∧ fieldLE b 0x1C 4 = fieldLE d.slot 0x24 4 ∧
      fieldLE b 0x20 4 = fieldLE d.slot 0x28 4 ∧ ¬ (s.get R.CANOPY_FW_build ≤ fieldLE d.slot 0x28 4 ∨ fieldLE d.slot 0x21 1 ≠ 0) →
      Completes s t d.ref 0x26 0) ∧ (¬ (State.bootImageOk b ∧ fieldLE b 0x1C 4 = fieldLE d.slot 0x24 4 ∧
      fieldLE b 0x20 4 = fieldLE d.slot 0x28 4) → Completes s t d.ref 0x27 0)) ∧
    -- activateNone
    (KeyPasses s d key → keyedOp d = 0x42 → 2 ≤ fieldLE d.slot 0x20 1 ∨ s.psInForce 0x01 (fieldLE d.slot 0x20 1) = none →
      macOk key d → Does (.imageActivate d) s fun t => Completes s t d.ref 0x27 0 ∧ t.ps = s.ps ∧ t.mem = s.mem) ∧
    -- release
    (∀ (n : Fin 64), KeyPasses s d key → keyedOp d = 0x43 → (fieldLE d.slot 0x20 8).testBit n.val → s.vetoed n →
      s.vetoPersists n = false → macOk key d → Does (.lullRelease d) s fun t => t.vetoed n = false ∧
      t.fbit R.TILE_STATE_lull_source 2 n = false ∧ t.canopy.ticket = 0 ∧ Completes s t d.ref 0 ((allTiles.filter fun (m : Fin 64)
      => (fieldLE d.slot 0x20 8).testBit m.val && s.vetoed m && !s.vetoPersists m).map fun (m : Fin 64) => 2 ^ m.val).sum) ∧
    -- releaseNone
    (KeyPasses s d key → keyedOp d = 0x43 → (∀ n : Fin 64, (fieldLE d.slot 0x20 8).testBit n.val = true → s.vetoed n = true →
      s.vetoPersists n = true) →
      macOk key d → Does (.lullRelease d) s fun t => Completes s t d.ref 0x26 0 ∧ t.tiles = s.tiles ∧
        t.rd R.VETO_LO.off = s.rd R.VETO_LO.off ∧ t.rd R.VETO_HI.off = s.rd R.VETO_HI.off) ∧
    -- claim
    (KeyPasses s d key → keyedOp d = 0x44 → s.isRoot → s.get R.USF_AUTH_EPOCH_epoch < fieldLE d.slot 0x20 4 →
      s.get R.USF_ID_unit < 4096 → macOk key d → Does (.authorityClaim d) s fun t => t.get R.USF_AUTH_state = 1 ∧
      t.get R.USF_AUTH_holder = s.get R.USF_ID_unit ∧ t.get R.USF_AUTH_EPOCH_epoch = fieldLE d.slot 0x20 4 ∧ t.tiles = s.tiles ∧
      Completes s t d.ref 0 (t.rd R.USF_AUTH.off).toNat) ∧
    -- claimNotRoot
    (KeyPasses s d key → s.isRoot = false → keyedOp d = 0x44 → macOk key d →
      Does (.authorityClaim d) s fun t => Completes s t d.ref 0x26 0 ∧ t.rd R.USF_AUTH.off = s.rd R.USF_AUTH.off ∧
      t.rd R.USF_AUTH_EPOCH.off = s.rd R.USF_AUTH_EPOCH.off) ∧
    -- epochReset
    (KeyPasses s d key → keyedOp d = 0x45 → s.isMaster → s.stepPending = false → macOk key d →
      Does (.epochReset d) s fun t => t.stepPending ∧ t.clock.stepReset ∧ t.clock.stepRef = some d.ref ∧ t.now = s.now ∧
      t.tiles = s.tiles) ∧
    -- epochBarred
    (KeyPasses s d key → keyedOp d = 0x45 → s.isMaster = false ∨ s.stepPending → macOk key d →
      Does (.epochReset d) s fun t => Completes s t d.ref 0x26 0 ∧ t.clock = s.clock) ∧
    -- bench
    (KeyPasses s d key → keyedOp d = 0x46 → s.flag R.DAWN_STRAPS_bench_en → macOk key d →
      Does (.benchMode d) s fun t => t.bench = decide (fieldLE d.slot 0x20 1 ≠ 0) ∧ Completes s t d.ref 0 0 ∧ t.tiles = s.tiles) ∧
    -- benchBarred
    (KeyPasses s d key → keyedOp d = 0x46 → s.flag R.DAWN_STRAPS_bench_en = false → fieldLE d.slot 0x20 1 ≠ 0 → macOk key d →
      Does (.benchMode d) s fun t => t.bench = s.bench ∧ Completes s t d.ref 0x26 0) ∧
    -- splitBad
    (KeyPasses s d key → keyedOp d = 0x40 → safetyKind d = 2 → 2 ≤ fieldLE d.slot 0x20 3 → macOk key d →
      Does (.splitOwnWrite d) s fun t => Completes s t d.ref 0x27 0 ∧ t.canopy.ownNext = s.canopy.ownNext ∧ t.mem = s.mem ∧
      t.tiles = s.tiles) ∧
    -- provisionWrong
    (s.keyedUp → s.canopy.lockedUntil = none → s.provisioning d → (s.keySlot 0).counter < keyCounter d →
      keyCounter d < (s.keySlot 0).mark → keyCheck (((d.ext.headD []).drop 4).take 16) ≠ fieldLE d.slot 0x24 4 →
      macOk zeroKey d → Does (.provision d) s fun t => Completes s t d.ref 0x28 0 ∧ (t.keySlot 0).key = (s.keySlot 0).key ∧
        t.ps.log = s.ps.log ∧ t.mem = s.mem ∧ t.tiles = s.tiles) ∧
    -- claimOld
    (KeyPasses s d key → keyedOp d = 0x44 → s.isRoot → s.get R.USF_AUTH_state = 1 →
      fieldLE d.slot 0x20 4 < s.get R.USF_AUTH_EPOCH_epoch → macOk key d → Does (.authorityClaim d) s fun t =>
      t.rd R.USF_AUTH.off = s.rd R.USF_AUTH.off ∧ t.rd R.USF_AUTH_EPOCH.off = s.rd R.USF_AUTH_EPOCH.off ∧ t.tiles = s.tiles ∧
      Completes s t d.ref 0 (s.rd R.USF_AUTH.off).toNat)

/-- Power returning to a device that is off, RESET_N, the key word of DEVICE_RESET and a boot slot loaded in recovery each make a
Dawn of their cause due, and none of them acts otherwise. A Dawn runs only when one is due and the supply is up. After power-
on with an empty store and the NOR flash as the first source it ends in Run, done when that image passes its check and in
recovery when it does not; a comparator that fails its self-test keeps the device in stage C with the pair failed. Where a
clause rests on a reading or a choice of the model, it is that of assumptions 85, 86, 87, 88 and 89. -/
def Obligations.ResetSourcesAndDawn : Prop :=
  ∀ (s : State),
    -- powerOn
    (s.lookout.off → Does (.powerOn) s fun t => t.lookout.off = false ∧ t.lookout.dawnCause = some 1 ∧ t.mem = s.mem ∧
      t.tiles = s.tiles ∧ t.regs = s.regs) ∧
    -- powerIsOn
    (s.lookout.off = false → Does (.powerOn) s fun t => t = s) ∧
    -- resetPin
    (s.lookout.off = false → Does (.resetPin) s fun t => t.lookout.dawnCause = some 2 ∧ (∀ n : Fin 64, (t.legs n).want = 0 ∧
      t.get R.LEG_STATUS_gates n = 0) ∧ ((∀ n : Fin 64, s.get R.LEG_STATUS_gates n = 0) → t.mem = s.mem) ∧ t.host = s.host) ∧
    -- resetOff
    (∀ (straps : Fin 32) refclk selfOk nor, s.lookout.off →
      (Does (.resetPin) s fun t => t = s) ∧
      (Does (.deviceReset 0xDA0000A5#32) s fun t => t = s) ∧
      (Does (.dawn straps refclk selfOk nor) s fun t => t = s)) ∧
    -- deviceReset
    (s.lookout.off = false → Does (.deviceReset 0xDA0000A5#32) s fun t => t =
      { s with lookout := { s.lookout with dawnCause := some 4 } }) ∧
    -- deviceResetNot
    (∀ (v : Word), v ≠ 0xDA0000A5#32 → Does (.deviceReset v) s fun t => t = s) ∧
    -- recovered
    (s.get R.DAWN_STATUS_stage = 6 → s.flag R.PS_LOAD_CTL_busy = false → s.get R.PS_LOAD_CTL_kind = 0 →
      s.get R.PS_LOAD_CTL_result = 0 → Does (.recoveryDone) s fun t => t =
      { s with lookout := { s.lookout with dawnCause := some 6 } }) ∧
    -- recoveredNot
    (s.get R.DAWN_STATUS_stage ≠ 6 ∨ s.flag R.PS_LOAD_CTL_busy ∨ s.get R.PS_LOAD_CTL_kind ≠ 0 ∨ s.get R.PS_LOAD_CTL_result ≠ 0 →
      Does (.recoveryDone) s fun t => t = s) ∧
    -- notDue
    (∀ (straps : Fin 32) refclk selfOk nor, s.lookout.dawnCause = none → Does (.dawn straps refclk selfOk nor) s fun t => t = s) ∧
    -- boots
    (∀ (straps : Fin 32) (refclk : Bool) (nor : Option (List Byte)), s.lookout.off = false → s.lookout.dawnCause = some 1 →
      s.mem = [] → bits straps.val R.DAWN_STRAPS_boot_src.msb R.DAWN_STRAPS_boot_src.lsb = 2 →
      Does (.dawn straps refclk true nor) s fun t => t.get R.DAWN_STATUS_stage = (if (nor.filter State.bootImageOk).isSome then 5
        else 6) ∧ t.get R.PWR_STATUS_state = 0) ∧
    -- comparator
    (∀ (straps : Fin 32) refclk nor, s.lookout.off = false → s.lookout.dawnCause = some 1 →
      bits straps.val R.DAWN_STRAPS_split.msb R.DAWN_STRAPS_split.lsb = 0 →
      Does (.dawn straps refclk false nor) s fun t => t.get R.DAWN_STATUS_stage = 1 ∧ t.get R.CANOPY_STATUS_fw_state = 3 ∧
        t.lookout.dawnCause = none ∧ t.pending = s.pending)

/-- Each two-source and one-source ALU instruction but SEL, each shift-immediate and each multiply or divide, run where it stands
on any tile or Canopy core, writes the result of its table to gd (g0 discards it), sets with f the flags N, Z and those of C
and V that its row sets, keeps every other register and every other part of the device, and goes on to the next word. A
divisor of 0 enters the DIVIDE exception instead, and gd keeps its value. A store to memory enters the store buffer of the
core, whose oldest entry takes effect on exactly its bytes when four are held, and breaks the reservations that it meets; an
access to a register or to the interface is performed after every earlier store of the core, and one of another size than a
word raises the access fault (when buffered stores take effect is the choice of the model). Where a clause rests on a reading
or a choice of the model, it is that of assumptions 93 and 105. -/
def Obligations.RegisterInstructionsWriteTheirResults : Prop :=
  ∀ (s : State) (k : Fin 66) (w : Word),
    -- add
    (∀ (gd ga gb : BitVec 4) (f : Bool), AtInstr s k w (.alu .add gd ga gb f) →
      Does (.add k w) s fun t => Wrote s t k gd f (G s k ga + G s k gb) (decide (2 ^ 32 ≤ (G s k ga).toNat + (G s k gb).toNat))
      (decide ((G s k ga + G s k gb).toInt ≠ (G s k ga).toInt + (G s k gb).toInt))) ∧
    -- adc
    (∀ (gd ga gb : BitVec 4) (f : Bool), AtInstr s k w (.alu .adc gd ga gb f) →
      Does (.adc k w) s fun t => Wrote s t k gd f (BitVec.ofNat 32 ((G s k ga).toNat + (G s k gb).toNat + b2n (flagsNow (s.core
      k)).c)) (decide (2 ^ 32 ≤ (G s k ga).toNat + (G s k gb).toNat + b2n (flagsNow (s.core k)).c)) (decide ((BitVec.ofNat 32 ((G
      s k ga).toNat + (G s k gb).toNat + b2n (flagsNow (s.core k)).c)).toInt ≠ (G s k ga).toInt + (G s k gb).toInt + b2n (flagsNow
      (s.core k)).c))) ∧
    -- sub
    (∀ (gd ga gb : BitVec 4) (f : Bool), AtInstr s k w (.alu .sub gd ga gb f) →
      Does (.sub k w) s fun t => Wrote s t k gd f (G s k ga - G s k gb) (decide ((G s k gb).toNat ≤ (G s k ga).toNat)) (decide ((G
      s k ga - G s k gb).toInt ≠ (G s k ga).toInt - (G s k gb).toInt))) ∧
    -- sbc
    (∀ (gd ga gb : BitVec 4) (f : Bool), AtInstr s k w (.alu .sbc gd ga gb f) →
      Does (.sbc k w) s fun t => Wrote s t k gd f (BitVec.ofInt 32 ((G s k ga).toInt - (G s k gb).toInt - 1 + b2n (flagsNow
      (s.core k)).c)) (decide ((G s k gb).toNat < (G s k ga).toNat + b2n (flagsNow (s.core k)).c)) (decide ((BitVec.ofInt 32 ((G s
      k ga).toInt - (G s k gb).toInt - 1 + b2n (flagsNow (s.core k)).c)).toInt ≠ (G s k ga).toInt - (G s k gb).toInt - 1 + b2n
      (flagsNow (s.core k)).c))) ∧
    -- and
    (∀ (gd ga gb : BitVec 4) (f : Bool), AtInstr s k w (.alu .and gd ga gb f) →
      Does (.and k w) s fun t => WroteNz s t k gd f (G s k ga &&& G s k gb)) ∧
    -- or
    (∀ (gd ga gb : BitVec 4) (f : Bool), AtInstr s k w (.alu .or gd ga gb f) →
      Does (.or k w) s fun t => WroteNz s t k gd f (G s k ga ||| G s k gb)) ∧
    -- xor
    (∀ (gd ga gb : BitVec 4) (f : Bool), AtInstr s k w (.alu .xor gd ga gb f) →
      Does (.xor k w) s fun t => WroteNz s t k gd f (G s k ga ^^^ G s k gb)) ∧
    -- andn
    (∀ (gd ga gb : BitVec 4) (f : Bool), AtInstr s k w (.alu .andn gd ga gb f) →
      Does (.andn k w) s fun t => WroteNz s t k gd f (G s k ga &&& ~~~(G s k gb))) ∧
    -- shl
    (∀ (gd ga gb : BitVec 4) (f : Bool), AtInstr s k w (.alu .shl gd ga gb f) →
      Does (.shl k w) s fun t => Wrote s t k gd f (BitVec.ofNat 32 ((G s k ga).toNat * 2 ^ ((G s k gb).toNat % 256))) (if ((G s k
      gb).toNat % 256) = 0 then (flagsNow (s.core k)).c else decide ((G s k ga).toNat * 2 ^ ((G s k gb).toNat % 256) / 2 ^ 32 % 2
      = 1)) ((flagsNow (s.core k)).v)) ∧
    -- shr
    (∀ (gd ga gb : BitVec 4) (f : Bool), AtInstr s k w (.alu .shr gd ga gb f) →
      Does (.shr k w) s fun t => Wrote s t k gd f (BitVec.ofNat 32 ((G s k ga).toNat / 2 ^ ((G s k gb).toNat % 256))) (if ((G s k
      gb).toNat % 256) = 0 then (flagsNow (s.core k)).c else decide ((G s k ga).toNat / 2 ^ (((G s k gb).toNat % 256) - 1) % 2 =
      1)) ((flagsNow (s.core k)).v)) ∧
    -- sar
    (∀ (gd ga gb : BitVec 4) (f : Bool), AtInstr s k w (.alu .sar gd ga gb f) →
      Does (.sar k w) s fun t => Wrote s t k gd f (BitVec.ofInt 32 ((G s k ga).toInt / 2 ^ (min ((G s k gb).toNat % 256) 31))) (if
      ((G s k gb).toNat % 256) = 0 then (flagsNow (s.core k)).c else decide ((G s k ga).toInt / 2 ^ (min (((G s k gb).toNat % 256)
      - 1) 31) % 2 = 1)) ((flagsNow (s.core k)).v)) ∧
    -- ror
    (∀ (gd ga gb : BitVec 4) (f : Bool), AtInstr s k w (.alu .ror gd ga gb f) →
      Does (.ror k w) s fun t => Wrote s t k gd f (BitVec.ofNat 32 ((G s k ga).toNat / 2 ^ ((G s k gb).toNat % 32) + (G s k
      ga).toNat * 2 ^ (32 - ((G s k gb).toNat % 32)))) (if ((G s k gb).toNat % 32) = 0 then (flagsNow (s.core k)).c else decide
      ((G s k ga).toNat / 2 ^ (((G s k gb).toNat % 32) - 1) % 2 = 1)) ((flagsNow (s.core k)).v)) ∧
    -- min
    (∀ (gd ga gb : BitVec 4) (f : Bool), AtInstr s k w (.alu .min gd ga gb f) →
      Does (.min k w) s fun t => WroteNz s t k gd f (if (G s k ga).toInt < (G s k gb).toInt then G s k ga else G s k gb)) ∧
    -- max
    (∀ (gd ga gb : BitVec 4) (f : Bool), AtInstr s k w (.alu .max gd ga gb f) →
      Does (.max k w) s fun t => WroteNz s t k gd f (if (G s k ga).toInt < (G s k gb).toInt then G s k gb else G s k ga)) ∧
    -- minu
    (∀ (gd ga gb : BitVec 4) (f : Bool), AtInstr s k w (.alu .minu gd ga gb f) →
      Does (.minu k w) s fun t => WroteNz s t k gd f (if (G s k ga).toNat < (G s k gb).toNat then G s k ga else G s k gb)) ∧
    -- maxu
    (∀ (gd ga gb : BitVec 4) (f : Bool), AtInstr s k w (.alu .maxu gd ga gb f) →
      Does (.maxu k w) s fun t => WroteNz s t k gd f (if (G s k ga).toNat < (G s k gb).toNat then G s k gb else G s k ga)) ∧
    -- clz
    (∀ (gd ga : BitVec 4) (f : Bool), AtInstr s k w (.alu1 .clz gd ga f) →
      Does (.clz k w) s fun t => ∃ n : Fin 33, WroteNz s t k gd f (BitVec.ofNat 32 n.val) ∧ (G s k ga).toNat < 2 ^ (32 - n.val) ∧
      (n.val = 32 ∨ 2 ^ (31 - n.val) ≤ (G s k ga).toNat)) ∧
    -- sextb
    (∀ (gd ga : BitVec 4) (f : Bool), AtInstr s k w (.alu1 .sextb gd ga f) →
      Does (.sextb k w) s fun t => WroteNz s t k gd f (if (G s k ga).getLsbD 7 then G s k ga ||| 0xFFFFFF00#32 else G s k ga &&&
      0xFF#32)) ∧
    -- sexth
    (∀ (gd ga : BitVec 4) (f : Bool), AtInstr s k w (.alu1 .sexth gd ga f) →
      Does (.sexth k w) s fun t => WroteNz s t k gd f (if (G s k ga).getLsbD 15 then G s k ga ||| 0xFFFF0000#32 else G s k ga &&&
      0xFFFF#32)) ∧
    -- slt
    (∀ (gd ga gb : BitVec 4) (f : Bool), AtInstr s k w (.alu .slt gd ga gb f) →
      Does (.slt k w) s fun t => WroteNz s t k gd f (if (G s k ga).toInt < (G s k gb).toInt then 1 else 0)) ∧
    -- sltu
    (∀ (gd ga gb : BitVec 4) (f : Bool), AtInstr s k w (.alu .sltu gd ga gb f) →
      Does (.sltu k w) s fun t => WroteNz s t k gd f (if (G s k ga).toNat < (G s k gb).toNat then 1 else 0)) ∧
    -- shli
    (∀ (gd ga : BitVec 4) (f : Bool) (n : BitVec 5), AtInstr s k w (.shift .shli gd ga f n) →
      Does (.shli k w) s fun t => Wrote s t k gd f (BitVec.ofNat 32 ((G s k ga).toNat * 2 ^ (n.toNat))) (if (n.toNat) = 0 then
      (flagsNow (s.core k)).c else decide ((G s k ga).toNat * 2 ^ (n.toNat) / 2 ^ 32 % 2 = 1)) ((flagsNow (s.core k)).v)) ∧
    -- shri
    (∀ (gd ga : BitVec 4) (f : Bool) (n : BitVec 5), AtInstr s k w (.shift .shri gd ga f n) →
      Does (.shri k w) s fun t => Wrote s t k gd f (BitVec.ofNat 32 ((G s k ga).toNat / 2 ^ (n.toNat))) (if (n.toNat) = 0 then
      (flagsNow (s.core k)).c else decide ((G s k ga).toNat / 2 ^ ((n.toNat) - 1) % 2 = 1)) ((flagsNow (s.core k)).v)) ∧
    -- sari
    (∀ (gd ga : BitVec 4) (f : Bool) (n : BitVec 5), AtInstr s k w (.shift .sari gd ga f n) →
      Does (.sari k w) s fun t => Wrote s t k gd f (BitVec.ofInt 32 ((G s k ga).toInt / 2 ^ (min (n.toNat) 31))) (if (n.toNat) = 0
      then (flagsNow (s.core k)).c else decide ((G s k ga).toInt / 2 ^ (min ((n.toNat) - 1) 31) % 2 = 1)) ((flagsNow (s.core
      k)).v)) ∧
    -- rori
    (∀ (gd ga : BitVec 4) (f : Bool) (n : BitVec 5), AtInstr s k w (.shift .rori gd ga f n) →
      Does (.rori k w) s fun t => Wrote s t k gd f (BitVec.ofNat 32 ((G s k ga).toNat / 2 ^ (n.toNat) + (G s k ga).toNat * 2 ^ (32
      - (n.toNat)))) (if (n.toNat) = 0 then (flagsNow (s.core k)).c else decide ((G s k ga).toNat / 2 ^ ((n.toNat) - 1) % 2 = 1))
      ((flagsNow (s.core k)).v)) ∧
    -- mul
    (∀ (gd ga gb : BitVec 4) (f : Bool), AtInstr s k w (.mul .mul gd ga gb f) →
      Does (.mul k w) s fun t => WroteNz s t k gd f (BitVec.ofNat 32 ((G s k ga).toNat * (G s k gb).toNat))) ∧
    -- mulh
    (∀ (gd ga gb : BitVec 4) (f : Bool), AtInstr s k w (.mul .mulh gd ga gb f) →
      Does (.mulh k w) s fun t => WroteNz s t k gd f (BitVec.ofInt 32 ((G s k ga).toInt * (G s k gb).toInt / 2 ^ 32))) ∧
    -- mulhu
    (∀ (gd ga gb : BitVec 4) (f : Bool), AtInstr s k w (.mul .mulhu gd ga gb f) →
      Does (.mulhu k w) s fun t => WroteNz s t k gd f (BitVec.ofNat 32 ((G s k ga).toNat * (G s k gb).toNat / 2 ^ 32))) ∧
    -- div
    (∀ (gd ga gb : BitVec 4) (f : Bool), AtInstr s k w (.mul .div gd ga gb f) → G s k gb ≠ 0 →
      Does (.div k w) s fun t => WroteNz s t k gd f (BitVec.ofInt 32 (Int.tdiv (G s k ga).toInt (G s k gb).toInt))) ∧
    -- divu
    (∀ (gd ga gb : BitVec 4) (f : Bool), AtInstr s k w (.mul .divu gd ga gb f) → G s k gb ≠ 0 →
      Does (.divu k w) s fun t => WroteNz s t k gd f (BitVec.ofNat 32 ((G s k ga).toNat / (G s k gb).toNat))) ∧
    -- rem
    (∀ (gd ga gb : BitVec 4) (f : Bool), AtInstr s k w (.mul .rem gd ga gb f) → G s k gb ≠ 0 →
      Does (.rem k w) s fun t => WroteNz s t k gd f (BitVec.ofInt 32 ((G s k ga).toInt - (G s k gb).toInt * Int.tdiv (G s k
      ga).toInt (G s k gb).toInt))) ∧
    -- remu
    (∀ (gd ga gb : BitVec 4) (f : Bool), AtInstr s k w (.mul .remu gd ga gb f) → G s k gb ≠ 0 →
      Does (.remu k w) s fun t => WroteNz s t k gd f (BitVec.ofNat 32 ((G s k ga).toNat % (G s k gb).toNat))) ∧
    -- divZero
    (∀ (gd ga gb : BitVec 4) (f : Bool), AtInstr s k w (.mul .div gd ga gb f) → G s k gb = 0 →
      (s.core k).status.getLsbD 28 = false → Does (.div k w) s fun t => Entered s t k (s.core k) 9 none (s.core k).pc) ∧
    -- divuZero
    (∀ (gd ga gb : BitVec 4) (f : Bool), AtInstr s k w (.mul .divu gd ga gb f) → G s k gb = 0 →
      (s.core k).status.getLsbD 28 = false → Does (.divu k w) s fun t => Entered s t k (s.core k) 9 none (s.core k).pc) ∧
    -- remZero
    (∀ (gd ga gb : BitVec 4) (f : Bool), AtInstr s k w (.mul .rem gd ga gb f) → G s k gb = 0 →
      (s.core k).status.getLsbD 28 = false → Does (.rem k w) s fun t => Entered s t k (s.core k) 9 none (s.core k).pc) ∧
    -- remuZero
    (∀ (gd ga gb : BitVec 4) (f : Bool), AtInstr s k w (.mul .remu gd ga gb f) → G s k gb = 0 →
      (s.core k).status.getLsbD 28 = false → Does (.remu k w) s fun t => Entered s t k (s.core k) 9 none (s.core k).pc) ∧
    -- ldwRegister
    (∀ (gd ga : BitVec 4) (off : BitVec 18) (o : Nat), AtInstr s k w (.load .ldw gd ga off) →
      s.place k false (G s k ga + BitVec.signExtend 32 off).toNat = some (Place.reg o) →
      (G s k ga + BitVec.signExtend 32 off).toNat % 4 = 0 → Does (.ldw k w) s fun t => (∀ x : Fin 16,
        State.readG (t.core k) x = if x = regIx gd ∧ x ≠ 0 then ((((s.cacheFetch k (s.core k).pc.toNat).modCore k
        State.counted).leaveAll k).regRead (State.coreRequester k) o).1 else State.readG (((((s.cacheFetch k (s.core
        k).pc.toNat).modCore k State.counted).leaveAll k).regRead (State.coreRequester k) o).2.core k) x) ∧
        t.tiles = ((((s.cacheFetch k (s.core k).pc.toNat).modCore k State.counted).leaveAll k).regRead (State.coreRequester k)
        o).2.tiles ∧ t.mem = ((((s.cacheFetch k (s.core k).pc.toNat).modCore k State.counted).leaveAll k).regRead
        (State.coreRequester k) o).2.mem) ∧
    -- ldwInterface
    (∀ (gd ga : BitVec 4) (off : BitVec 18) (o : Nat), AtInstr s k w (.load .ldw gd ga off) →
      s.place k false (G s k ga + BitVec.signExtend 32 off).toNat = some (Place.ti o) →
      (G s k ga + BitVec.signExtend 32 off).toNat % 4 = 0 → Does (.ldw k w) s fun t => (∀ x : Fin 16,
        State.readG (t.core k) x = if x = regIx gd ∧ x ≠ 0 then ((((s.cacheFetch k (s.core k).pc.toNat).modCore k
        State.counted).leaveAll k).ifRead k o).1 else State.readG (s.core k) x) ∧
        t.tiles = (((s.cacheFetch k (s.core k).pc.toNat).modCore k State.counted).leaveAll k).tiles ∧
        t.mem = (((s.cacheFetch k (s.core k).pc.toNat).modCore k State.counted).leaveAll k).mem ∧ (t.core k).stores = []) ∧
    -- ldhRegister
    (∀ (gd ga : BitVec 4) (off : BitVec 18) (o : Nat), AtInstr s k w (.load .ldh gd ga off) →
      s.place k false (G s k ga + BitVec.signExtend 32 off).toNat = some (Place.reg o) →
      (G s k ga + BitVec.signExtend 32 off).toNat % 2 = 0 → (s.core k).status.getLsbD 28 = false →
        Does (.ldh k w) s fun t => Entered s t k (s.core k) 4 (some (G s k ga + BitVec.signExtend 32 off)) (s.core k).pc) ∧
    -- ldhInterface
    (∀ (gd ga : BitVec 4) (off : BitVec 18) (o : Nat), AtInstr s k w (.load .ldh gd ga off) →
      s.place k false (G s k ga + BitVec.signExtend 32 off).toNat = some (Place.ti o) →
      (G s k ga + BitVec.signExtend 32 off).toNat % 2 = 0 → (s.core k).status.getLsbD 28 = false →
        Does (.ldh k w) s fun t => Entered s t k (s.core k) 4 (some (G s k ga + BitVec.signExtend 32 off)) (s.core k).pc) ∧
    -- ldhuRegister
    (∀ (gd ga : BitVec 4) (off : BitVec 18) (o : Nat), AtInstr s k w (.load .ldhu gd ga off) →
      s.place k false (G s k ga + BitVec.signExtend 32 off).toNat = some (Place.reg o) →
      (G s k ga + BitVec.signExtend 32 off).toNat % 2 = 0 → (s.core k).status.getLsbD 28 = false →
        Does (.ldhu k w) s fun t => Entered s t k (s.core k) 4 (some (G s k ga + BitVec.signExtend 32 off)) (s.core k).pc) ∧
    -- ldhuInterface
    (∀ (gd ga : BitVec 4) (off : BitVec 18) (o : Nat), AtInstr s k w (.load .ldhu gd ga off) →
      s.place k false (G s k ga + BitVec.signExtend 32 off).toNat = some (Place.ti o) →
      (G s k ga + BitVec.signExtend 32 off).toNat % 2 = 0 → (s.core k).status.getLsbD 28 = false →
        Does (.ldhu k w) s fun t => Entered s t k (s.core k) 4 (some (G s k ga + BitVec.signExtend 32 off)) (s.core k).pc) ∧
    -- ldbRegister
    (∀ (gd ga : BitVec 4) (off : BitVec 18) (o : Nat), AtInstr s k w (.load .ldb gd ga off) →
      s.place k false (G s k ga + BitVec.signExtend 32 off).toNat = some (Place.reg o) →
      (s.core k).status.getLsbD 28 = false → Does (.ldb k w) s fun t => Entered s t k (s.core k) 4 (some (G s k ga +
        BitVec.signExtend 32 off)) (s.core k).pc) ∧
    -- ldbInterface
    (∀ (gd ga : BitVec 4) (off : BitVec 18) (o : Nat), AtInstr s k w (.load .ldb gd ga off) →
      s.place k false (G s k ga + BitVec.signExtend 32 off).toNat = some (Place.ti o) →
      (s.core k).status.getLsbD 28 = false → Does (.ldb k w) s fun t => Entered s t k (s.core k) 4 (some (G s k ga +
        BitVec.signExtend 32 off)) (s.core k).pc) ∧
    -- ldbuRegister
    (∀ (gd ga : BitVec 4) (off : BitVec 18) (o : Nat), AtInstr s k w (.load .ldbu gd ga off) →
      s.place k false (G s k ga + BitVec.signExtend 32 off).toNat = some (Place.reg o) →
      (s.core k).status.getLsbD 28 = false → Does (.ldbu k w) s fun t => Entered s t k (s.core k) 4 (some (G s k ga +
        BitVec.signExtend 32 off)) (s.core k).pc) ∧
    -- ldbuInterface
    (∀ (gd ga : BitVec 4) (off : BitVec 18) (o : Nat), AtInstr s k w (.load .ldbu gd ga off) →
      s.place k false (G s k ga + BitVec.signExtend 32 off).toNat = some (Place.ti o) →
      (s.core k).status.getLsbD 28 = false → Does (.ldbu k w) s fun t => Entered s t k (s.core k) 4 (some (G s k ga +
        BitVec.signExtend 32 off)) (s.core k).pc) ∧
    -- stw
    (∀ (gs ga : BitVec 4) (off : BitVec 18) (a : Nat), AtInstr s k w (.store .stw gs ga off) →
      (G s k ga + BitVec.signExtend 32 off).toNat % 4 = 0 → (s.core k).stores.length < 4 →
      s.place k true (G s k ga + BitVec.signExtend 32 off).toNat = some (Place.ram a) →

      off = w.setWidth 18 ∧
      (Does (.stw k w) s fun t => Ran s t k
        { s.core k with pc := (s.core k).pc + 4, shadow := false, stores := (s.core k).stores ++ [(a, bytesLE 4 (G s k gs).toNat)] }))
        ∧
    -- stwFull
    (∀ (gs ga : BitVec 4) (off : BitVec 18) (a : Nat) (e : Nat × List Byte) (rest : List (Nat × List Byte)),
      AtInstr s k w (.store .stw gs ga off) → (G s k ga + BitVec.signExtend 32 off).toNat % 4 = 0 → k.val < 64 →
      (s.core k).stores = e :: rest → 3 ≤ rest.length → s.place k true (G s k ga + BitVec.signExtend 32 off).toNat = some
      (Place.ram a) →
      Does (.stw k w) s fun t => (∀ j : Fin 4, j.val < e.2.length → t.byte (e.1 + j.val) = e.2.getD j.val 0) ∧
        MemOutside e.1 e.2.length s t ∧ t.core k =
        { s.core k with pc := (s.core k).pc + 4, shadow := false, stores := rest ++ [(a, bytesLE 4 (G s k gs).toNat)], stale := (t.core k).stale }
        ∧ (∀ j : Fin 66, j ≠ k → t.core j = { s.core j with lock := (t.core j).lock }) ∧
        t = { s with mem := t.mem, cores := t.cores, regs := t.regs } ∧ OnlyRegs (coreWords k) s { s with regs := t.regs }) ∧
    -- stwBreaks
    (∀ (gs ga : BitVec 4) (off : BitVec 18) (a : Nat) (e : Nat × List Byte) (rest : List (Nat × List Byte)) (j : Fin 66) (l :
      LockSeq), AtInstr s k w (.store .stw gs ga off) → (G s k ga + BitVec.signExtend 32 off).toNat % 4 = 0 → k.val < 64 →
      (s.core k).stores = e :: rest → 3 ≤ rest.length → s.place k true (G s k ga + BitVec.signExtend 32 off).toNat = some
      (Place.ram a) →
      j ≠ k → (s.core j).lock = some l → Does (.stw k w) s fun t => (t.core j).lock = some
        { l with broken := l.broken || l.reserved.any fun x => decide (x < e.1 + e.2.length) && decide (e.1 < x + 4) }) ∧
    -- stwRegister
    (∀ (gs ga : BitVec 4) (off : BitVec 18) (o : Nat), AtInstr s k w (.store .stw gs ga off) →
      s.place k true (G s k ga + BitVec.signExtend 32 off).toNat = some (Place.reg o) →
      (G s k ga + BitVec.signExtend 32 off).toNat % 4 = 0 → Does (.stw k w) s fun t =>
        t = (((((s.cacheFetch k (s.core k).pc.toNat).modCore k State.counted).goOn k).leaveAll k).coreRegWrite k o (G s k
        gs)).settle k) ∧
    -- stwInterface
    (∀ (gs ga : BitVec 4) (off : BitVec 18) (o : Nat), AtInstr s k w (.store .stw gs ga off) →
      s.place k true (G s k ga + BitVec.signExtend 32 off).toNat = some (Place.ti o) →
      (G s k ga + BitVec.signExtend 32 off).toNat % 4 = 0 → Does (.stw k w) s fun t =>
        t = (((((s.cacheFetch k (s.core k).pc.toNat).modCore k State.counted).goOn k).leaveAll k).ifWrite k o (G s k gs)).settle
        k) ∧
    -- sth
    (∀ (gs ga : BitVec 4) (off : BitVec 18) (a : Nat), AtInstr s k w (.store .sth gs ga off) →
      (G s k ga + BitVec.signExtend 32 off).toNat % 2 = 0 → (s.core k).stores.length < 4 →
      s.place k true (G s k ga + BitVec.signExtend 32 off).toNat = some (Place.ram a) →

      off = w.setWidth 18 ∧
      (Does (.sth k w) s fun t => Ran s t k
        { s.core k with pc := (s.core k).pc + 4, shadow := false, stores := (s.core k).stores ++ [(a, bytesLE 2 (G s k gs).toNat)] }))
        ∧
    -- sthFull
    (∀ (gs ga : BitVec 4) (off : BitVec 18) (a : Nat) (e : Nat × List Byte) (rest : List (Nat × List Byte)),
      AtInstr s k w (.store .sth gs ga off) → (G s k ga + BitVec.signExtend 32 off).toNat % 2 = 0 → k.val < 64 →
      (s.core k).stores = e :: rest → 3 ≤ rest.length → s.place k true (G s k ga + BitVec.signExtend 32 off).toNat = some
      (Place.ram a) →
      Does (.sth k w) s fun t => (∀ j : Fin 4, j.val < e.2.length → t.byte (e.1 + j.val) = e.2.getD j.val 0) ∧
        MemOutside e.1 e.2.length s t ∧ t.core k =
        { s.core k with pc := (s.core k).pc + 4, shadow := false, stores := rest ++ [(a, bytesLE 2 (G s k gs).toNat)], stale := (t.core k).stale }
        ∧ (∀ j : Fin 66, j ≠ k → t.core j = { s.core j with lock := (t.core j).lock }) ∧
        t = { s with mem := t.mem, cores := t.cores, regs := t.regs } ∧ OnlyRegs (coreWords k) s { s with regs := t.regs }) ∧
    -- sthBreaks
    (∀ (gs ga : BitVec 4) (off : BitVec 18) (a : Nat) (e : Nat × List Byte) (rest : List (Nat × List Byte)) (j : Fin 66) (l :
      LockSeq), AtInstr s k w (.store .sth gs ga off) → (G s k ga + BitVec.signExtend 32 off).toNat % 2 = 0 → k.val < 64 →
      (s.core k).stores = e :: rest → 3 ≤ rest.length → s.place k true (G s k ga + BitVec.signExtend 32 off).toNat = some
      (Place.ram a) →
      j ≠ k → (s.core j).lock = some l → Does (.sth k w) s fun t => (t.core j).lock = some
        { l with broken := l.broken || l.reserved.any fun x => decide (x < e.1 + e.2.length) && decide (e.1 < x + 4) }) ∧
    -- sthRegister
    (∀ (gs ga : BitVec 4) (off : BitVec 18) (o : Nat), AtInstr s k w (.store .sth gs ga off) →
      s.place k true (G s k ga + BitVec.signExtend 32 off).toNat = some (Place.reg o) →
      (G s k ga + BitVec.signExtend 32 off).toNat % 2 = 0 → (s.core k).status.getLsbD 28 = false →
        Does (.sth k w) s fun t => Entered s t k (s.core k) 5 (some (G s k ga + BitVec.signExtend 32 off)) (s.core k).pc) ∧
    -- sthInterface
    (∀ (gs ga : BitVec 4) (off : BitVec 18) (o : Nat), AtInstr s k w (.store .sth gs ga off) →
      s.place k true (G s k ga + BitVec.signExtend 32 off).toNat = some (Place.ti o) →
      (G s k ga + BitVec.signExtend 32 off).toNat % 2 = 0 → (s.core k).status.getLsbD 28 = false →
        Does (.sth k w) s fun t => Entered s t k (s.core k) 5 (some (G s k ga + BitVec.signExtend 32 off)) (s.core k).pc) ∧
    -- stb
    (∀ (gs ga : BitVec 4) (off : BitVec 18) (a : Nat), AtInstr s k w (.store .stb gs ga off) → (s.core k).stores.length < 4 →
      s.place k true (G s k ga + BitVec.signExtend 32 off).toNat = some (Place.ram a) →

      off = w.setWidth 18 ∧
      (Does (.stb k w) s fun t => Ran s t k
        { s.core k with pc := (s.core k).pc + 4, shadow := false, stores := (s.core k).stores ++ [(a, bytesLE 1 (G s k gs).toNat)] }))
        ∧
    -- stbFull
    (∀ (gs ga : BitVec 4) (off : BitVec 18) (a : Nat) (e : Nat × List Byte) (rest : List (Nat × List Byte)),
      AtInstr s k w (.store .stb gs ga off) → k.val < 64 → (s.core k).stores = e :: rest → 3 ≤ rest.length →
      s.place k true (G s k ga + BitVec.signExtend 32 off).toNat = some (Place.ram a) →
      Does (.stb k w) s fun t => (∀ j : Fin 4, j.val < e.2.length → t.byte (e.1 + j.val) = e.2.getD j.val 0) ∧
        MemOutside e.1 e.2.length s t ∧ t.core k =
        { s.core k with pc := (s.core k).pc + 4, shadow := false, stores := rest ++ [(a, bytesLE 1 (G s k gs).toNat)], stale := (t.core k).stale }
        ∧ (∀ j : Fin 66, j ≠ k → t.core j = { s.core j with lock := (t.core j).lock }) ∧
        t = { s with mem := t.mem, cores := t.cores, regs := t.regs } ∧ OnlyRegs (coreWords k) s { s with regs := t.regs }) ∧
    -- stbBreaks
    (∀ (gs ga : BitVec 4) (off : BitVec 18) (a : Nat) (e : Nat × List Byte) (rest : List (Nat × List Byte)) (j : Fin 66) (l :
      LockSeq), AtInstr s k w (.store .stb gs ga off) → k.val < 64 → (s.core k).stores = e :: rest → 3 ≤ rest.length →
      s.place k true (G s k ga + BitVec.signExtend 32 off).toNat = some (Place.ram a) →
      j ≠ k → (s.core j).lock = some l → Does (.stb k w) s fun t => (t.core j).lock = some
        { l with broken := l.broken || l.reserved.any fun x => decide (x < e.1 + e.2.length) && decide (e.1 < x + 4) }) ∧
    -- stbRegister
    (∀ (gs ga : BitVec 4) (off : BitVec 18) (o : Nat), AtInstr s k w (.store .stb gs ga off) →
      s.place k true (G s k ga + BitVec.signExtend 32 off).toNat = some (Place.reg o) →
      (s.core k).status.getLsbD 28 = false → Does (.stb k w) s fun t => Entered s t k (s.core k) 5 (some (G s k ga +
        BitVec.signExtend 32 off)) (s.core k).pc) ∧
    -- stbInterface
    (∀ (gs ga : BitVec 4) (off : BitVec 18) (o : Nat), AtInstr s k w (.store .stb gs ga off) →
      s.place k true (G s k ga + BitVec.signExtend 32 off).toNat = some (Place.ti o) →
      (s.core k).status.getLsbD 28 = false → Does (.stb k w) s fun t => Entered s t k (s.core k) 5 (some (G s k ga +
        BitVec.signExtend 32 off)) (s.core k).pc)

/-- For every condition value but 0xF, SEL writes ga when the condition of the table of R432 holds of the flags before it and gb
otherwise, whether or not it sets flags itself, and a branch goes to its target when it holds and to PC + 8 otherwise, after
its delay slot; a word of SEL or B that names 0xF decodes to no instruction. -/
def Obligations.ConditionsReadTheFlagsBefore : Prop :=
  ∀ (s : State) (k : Fin 66) (w : Word) (cond : BitVec 4) (n z c v : Bool),
    -- sel
    (∀ (gd ga gb : BitVec 4) (f yes : Bool), AtInstr s k w (.sel gd ga gb f cond) → flagsNow (s.core k) = (⟨n, z, c, v⟩ : Nzcv) →
      (cond, yes) ∈ ([(0, true), (1, z), (2, !z), (3, c), (4, !c), (5, c && !z), (6, !c || z), (7, n), (8, !n), (9, v), (10, !v),
      (11, n == v), (12, n != v), (13, !z && n == v), (14, z || n != v)] : List (BitVec 4 × Bool)) →
      Does (.sel k w) s fun t => WroteNz s t k gd f (if yes then G s k ga else G s k gb)) ∧
    -- branch
    (∀ (off : BitVec 22) (yes : Bool), AtInstr s k w (.b cond off) → flagsNow (s.core k) = (⟨n, z, c, v⟩ : Nzcv) →
      (cond, yes) ∈ ([(0, true), (1, z), (2, !z), (3, c), (4, !c), (5, c && !z), (6, !c || z), (7, n), (8, !n), (9, v), (10, !v),
      (11, n == v), (12, n != v), (13, !z && n == v), (14, z || n != v)] : List (BitVec 4 × Bool)) →
      Does (.b k w) s fun t => Ran s t k
        { s.core k with delay := some ((s.core k).pc, if yes then (s.core k).pc + off.signExtend 32 * 4 else (s.core k).pc + 8), pc := (s.core k).pc + 4, shadow := false })
        ∧
    -- reserved
    (w.toNat / 2 ^ 26 = 0x20 ∧ w.toNat / 2 ^ 22 % 16 = 15 ∨ w.toNat / 2 ^ 26 = 1 ∧ w.toNat % 64 = 0x13 ∧
      w.toNat / 2 ^ 6 % 16 = 15 →
      HInstr.decode w = none)

/-- ADDI and CMPI use imm16 sign-extended, ANDI, ORI and XORI zero-extended, and LUI places it in bits [31:16], with the results,
flags and frames of these instructions; loads and stores add off18 sign-extended to ga. A load from memory returns the bytes
at that address as the buffered stores of the core leave them, the core sees the value of a store at that address from then
on, and a misaligned address or one that the core does not reach enters ALIGN or the access fault with the address in
EBADADDR; B, J and JAL add four times their sign-extended offset to the PC. The fields are the low bits of the word. -/
def Obligations.ImmediatesAndOffsetsExtend : Prop :=
  ∀ (s : State) (k : Fin 66) (w : Word),
    -- addi
    (∀ (gd ga : BitVec 4) (f : Bool) (v : BitVec 16), AtInstr s k w (.imm .addi gd ga f v) →
      v = w.setWidth 16 ∧
      (Does (.addi k w) s fun t => Wrote s t k gd f (G s k ga + (BitVec.signExtend 32 v)) (decide (2 ^ 32 ≤ (G s k ga).toNat +
        (BitVec.signExtend 32 v).toNat)) (decide ((G s k ga + (BitVec.signExtend 32 v)).toInt ≠ (G s k ga).toInt + v.toInt)))) ∧
    -- andi
    (∀ (gd ga : BitVec 4) (f : Bool) (v : BitVec 16), AtInstr s k w (.imm .andi gd ga f v) →
      v = w.setWidth 16 ∧
      (Does (.andi k w) s fun t => WroteNz s t k gd f (G s k ga &&& (BitVec.setWidth 32 v)))) ∧
    -- ori
    (∀ (gd ga : BitVec 4) (f : Bool) (v : BitVec 16), AtInstr s k w (.imm .ori gd ga f v) →
      v = w.setWidth 16 ∧
      (Does (.ori k w) s fun t => WroteNz s t k gd f (G s k ga ||| (BitVec.setWidth 32 v)))) ∧
    -- xori
    (∀ (gd ga : BitVec 4) (f : Bool) (v : BitVec 16), AtInstr s k w (.imm .xori gd ga f v) →
      v = w.setWidth 16 ∧
      (Does (.xori k w) s fun t => WroteNz s t k gd f (G s k ga ^^^ (BitVec.setWidth 32 v)))) ∧
    -- lui
    (∀ (gd : BitVec 4) (v : BitVec 16), AtInstr s k w (.lui gd v) →
      v = w.setWidth 16 ∧
      (Does (.lui k w) s fun t => WroteNz s t k gd false (v ++ 0#16))) ∧
    -- cmpi
    (∀ (ga : BitVec 4) (v : BitVec 16), AtInstr s k w (.cmpi ga v) →
      v = w.setWidth 16 ∧
      (Does (.cmpi k w) s fun t => Wrote s t k 0 true (G s k ga - (BitVec.signExtend 32 v)) (decide ((BitVec.signExtend 32
        v).toNat ≤ (G s k ga).toNat)) (decide ((G s k ga - (BitVec.signExtend 32 v)).toInt ≠ (G s k ga).toInt - v.toInt)))) ∧
    -- ldw
    (∀ (gd ga : BitVec 4) (off : BitVec 18) (p : Place) (a m : Nat), AtInstr s k w (.load .ldw gd ga off) →
      (G s k ga + BitVec.signExtend 32 off).toNat % 4 = 0 → k.val < 64 → s.place k false (G s k ga + BitVec.signExtend 32
      off).toNat = some p →
      p = Place.ram a ∨ p = Place.rom a → (m = if p = Place.rom a then natLE (s.memBytes a 4) else State.bufferedLoad (s.core k) a
        4 (natLE (s.memBytes a 4))) →

      off = w.setWidth 18 ∧
      (Does (.ldw k w) s fun t => WroteNz s t k gd false (BitVec.ofNat 32 m) ∧ t.freeCtr = s.freeCtr)) ∧
    -- ldwUnaligned
    (∀ (gd ga : BitVec 4) (off : BitVec 18), AtInstr s k w (.load .ldw gd ga off) →
      (G s k ga + BitVec.signExtend 32 off).toNat % 4 ≠ 0 → (s.core k).status.getLsbD 28 = false →
      Does (.ldw k w) s fun t => Entered s t k (s.core k) 6 (some (G s k ga + BitVec.signExtend 32 off)) (s.core k).pc) ∧
    -- ldwFault
    (∀ (gd ga : BitVec 4) (off : BitVec 18), AtInstr s k w (.load .ldw gd ga off) →
      (G s k ga + BitVec.signExtend 32 off).toNat % 4 = 0 → s.place k false (G s k ga + BitVec.signExtend 32 off).toNat = none →
      (s.core k).status.getLsbD 28 = false → Does (.ldw k w) s fun t => Entered s t k (s.core k) 4 (some (G s k ga +
        BitVec.signExtend 32 off)) (s.core k).pc) ∧
    -- ldh
    (∀ (gd ga : BitVec 4) (off : BitVec 18) (p : Place) (a m : Nat), AtInstr s k w (.load .ldh gd ga off) →
      (G s k ga + BitVec.signExtend 32 off).toNat % 2 = 0 → k.val < 64 → s.place k false (G s k ga + BitVec.signExtend 32
      off).toNat = some p →
      p = Place.ram a ∨ p = Place.rom a → (m = if p = Place.rom a then natLE (s.memBytes a 2) else State.bufferedLoad (s.core k) a
        2 (natLE (s.memBytes a 2))) →

      off = w.setWidth 18 ∧
      (Does (.ldh k w) s fun t => WroteNz s t k gd false ((BitVec.ofNat 16 m).signExtend 32) ∧ t.freeCtr = s.freeCtr)) ∧
    -- ldhUnaligned
    (∀ (gd ga : BitVec 4) (off : BitVec 18), AtInstr s k w (.load .ldh gd ga off) →
      (G s k ga + BitVec.signExtend 32 off).toNat % 2 ≠ 0 → (s.core k).status.getLsbD 28 = false →
      Does (.ldh k w) s fun t => Entered s t k (s.core k) 6 (some (G s k ga + BitVec.signExtend 32 off)) (s.core k).pc) ∧
    -- ldhFault
    (∀ (gd ga : BitVec 4) (off : BitVec 18), AtInstr s k w (.load .ldh gd ga off) →
      (G s k ga + BitVec.signExtend 32 off).toNat % 2 = 0 → s.place k false (G s k ga + BitVec.signExtend 32 off).toNat = none →
      (s.core k).status.getLsbD 28 = false → Does (.ldh k w) s fun t => Entered s t k (s.core k) 4 (some (G s k ga +
        BitVec.signExtend 32 off)) (s.core k).pc) ∧
    -- ldhu
    (∀ (gd ga : BitVec 4) (off : BitVec 18) (p : Place) (a m : Nat), AtInstr s k w (.load .ldhu gd ga off) →
      (G s k ga + BitVec.signExtend 32 off).toNat % 2 = 0 → k.val < 64 → s.place k false (G s k ga + BitVec.signExtend 32
      off).toNat = some p →
      p = Place.ram a ∨ p = Place.rom a → (m = if p = Place.rom a then natLE (s.memBytes a 2) else State.bufferedLoad (s.core k) a
        2 (natLE (s.memBytes a 2))) →

      off = w.setWidth 18 ∧
      (Does (.ldhu k w) s fun t => WroteNz s t k gd false (BitVec.ofNat 32 m) ∧ t.freeCtr = s.freeCtr)) ∧
    -- ldhuUnaligned
    (∀ (gd ga : BitVec 4) (off : BitVec 18), AtInstr s k w (.load .ldhu gd ga off) →
      (G s k ga + BitVec.signExtend 32 off).toNat % 2 ≠ 0 → (s.core k).status.getLsbD 28 = false →
      Does (.ldhu k w) s fun t => Entered s t k (s.core k) 6 (some (G s k ga + BitVec.signExtend 32 off)) (s.core k).pc) ∧
    -- ldhuFault
    (∀ (gd ga : BitVec 4) (off : BitVec 18), AtInstr s k w (.load .ldhu gd ga off) →
      (G s k ga + BitVec.signExtend 32 off).toNat % 2 = 0 → s.place k false (G s k ga + BitVec.signExtend 32 off).toNat = none →
      (s.core k).status.getLsbD 28 = false → Does (.ldhu k w) s fun t => Entered s t k (s.core k) 4 (some (G s k ga +
        BitVec.signExtend 32 off)) (s.core k).pc) ∧
    -- ldb
    (∀ (gd ga : BitVec 4) (off : BitVec 18) (p : Place) (a m : Nat), AtInstr s k w (.load .ldb gd ga off) → k.val < 64 →
      s.place k false (G s k ga + BitVec.signExtend 32 off).toNat = some p →
      p = Place.ram a ∨ p = Place.rom a → (m = if p = Place.rom a then natLE (s.memBytes a 1) else State.bufferedLoad (s.core k) a
        1 (natLE (s.memBytes a 1))) →

      off = w.setWidth 18 ∧
      (Does (.ldb k w) s fun t => WroteNz s t k gd false ((BitVec.ofNat 8 m).signExtend 32) ∧ t.freeCtr = s.freeCtr)) ∧
    -- ldbFault
    (∀ (gd ga : BitVec 4) (off : BitVec 18), AtInstr s k w (.load .ldb gd ga off) →
      s.place k false (G s k ga + BitVec.signExtend 32 off).toNat = none →
      (s.core k).status.getLsbD 28 = false → Does (.ldb k w) s fun t => Entered s t k (s.core k) 4 (some (G s k ga +
        BitVec.signExtend 32 off)) (s.core k).pc) ∧
    -- ldbu
    (∀ (gd ga : BitVec 4) (off : BitVec 18) (p : Place) (a m : Nat), AtInstr s k w (.load .ldbu gd ga off) → k.val < 64 →
      s.place k false (G s k ga + BitVec.signExtend 32 off).toNat = some p →
      p = Place.ram a ∨ p = Place.rom a → (m = if p = Place.rom a then natLE (s.memBytes a 1) else State.bufferedLoad (s.core k) a
        1 (natLE (s.memBytes a 1))) →

      off = w.setWidth 18 ∧
      (Does (.ldbu k w) s fun t => WroteNz s t k gd false (BitVec.ofNat 32 m) ∧ t.freeCtr = s.freeCtr)) ∧
    -- ldbuFault
    (∀ (gd ga : BitVec 4) (off : BitVec 18), AtInstr s k w (.load .ldbu gd ga off) →
      s.place k false (G s k ga + BitVec.signExtend 32 off).toNat = none →
      (s.core k).status.getLsbD 28 = false → Does (.ldbu k w) s fun t => Entered s t k (s.core k) 4 (some (G s k ga +
        BitVec.signExtend 32 off)) (s.core k).pc) ∧
    -- stwSeen
    (∀ (gs ga : BitVec 4) (off : BitVec 18) (a : Nat), AtInstr s k w (.store .stw gs ga off) →
      (G s k ga + BitVec.signExtend 32 off).toNat % 4 = 0 → s.place k true (G s k ga + BitVec.signExtend 32 off).toNat = some
      (Place.ram a) →

      off = w.setWidth 18 ∧
      (Does (.stw k w) s fun t => State.bufferedLoad (t.core k) a 4 (natLE (t.memBytes a 4)) = (G s k gs).toNat % 2 ^ 32)) ∧
    -- stwUnaligned
    (∀ (gs ga : BitVec 4) (off : BitVec 18), AtInstr s k w (.store .stw gs ga off) →
      (G s k ga + BitVec.signExtend 32 off).toNat % 4 ≠ 0 → (s.core k).status.getLsbD 28 = false →
      Does (.stw k w) s fun t => Entered s t k (s.core k) 6 (some (G s k ga + BitVec.signExtend 32 off)) (s.core k).pc) ∧
    -- stwFault
    (∀ (gs ga : BitVec 4) (off : BitVec 18), AtInstr s k w (.store .stw gs ga off) →
      (G s k ga + BitVec.signExtend 32 off).toNat % 4 = 0 → s.place k true (G s k ga + BitVec.signExtend 32 off).toNat = none →
      (s.core k).status.getLsbD 28 = false → Does (.stw k w) s fun t => Entered s t k (s.core k) 5 (some (G s k ga +
        BitVec.signExtend 32 off)) (s.core k).pc) ∧
    -- sthSeen
    (∀ (gs ga : BitVec 4) (off : BitVec 18) (a : Nat), AtInstr s k w (.store .sth gs ga off) →
      (G s k ga + BitVec.signExtend 32 off).toNat % 2 = 0 → s.place k true (G s k ga + BitVec.signExtend 32 off).toNat = some
      (Place.ram a) →

      off = w.setWidth 18 ∧
      (Does (.sth k w) s fun t => State.bufferedLoad (t.core k) a 2 (natLE (t.memBytes a 2)) = (G s k gs).toNat % 2 ^ 16)) ∧
    -- sthUnaligned
    (∀ (gs ga : BitVec 4) (off : BitVec 18), AtInstr s k w (.store .sth gs ga off) →
      (G s k ga + BitVec.signExtend 32 off).toNat % 2 ≠ 0 → (s.core k).status.getLsbD 28 = false →
      Does (.sth k w) s fun t => Entered s t k (s.core k) 6 (some (G s k ga + BitVec.signExtend 32 off)) (s.core k).pc) ∧
    -- sthFault
    (∀ (gs ga : BitVec 4) (off : BitVec 18), AtInstr s k w (.store .sth gs ga off) →
      (G s k ga + BitVec.signExtend 32 off).toNat % 2 = 0 → s.place k true (G s k ga + BitVec.signExtend 32 off).toNat = none →
      (s.core k).status.getLsbD 28 = false → Does (.sth k w) s fun t => Entered s t k (s.core k) 5 (some (G s k ga +
        BitVec.signExtend 32 off)) (s.core k).pc) ∧
    -- stbSeen
    (∀ (gs ga : BitVec 4) (off : BitVec 18) (a : Nat), AtInstr s k w (.store .stb gs ga off) →
      s.place k true (G s k ga + BitVec.signExtend 32 off).toNat = some (Place.ram a) →

      off = w.setWidth 18 ∧
      (Does (.stb k w) s fun t => State.bufferedLoad (t.core k) a 1 (natLE (t.memBytes a 1)) = (G s k gs).toNat % 2 ^ 8)) ∧
    -- stbFault
    (∀ (gs ga : BitVec 4) (off : BitVec 18), AtInstr s k w (.store .stb gs ga off) →
      s.place k true (G s k ga + BitVec.signExtend 32 off).toNat = none →
      (s.core k).status.getLsbD 28 = false → Does (.stb k w) s fun t => Entered s t k (s.core k) 5 (some (G s k ga +
        BitVec.signExtend 32 off)) (s.core k).pc) ∧
    -- j
    (∀ (off : BitVec 26), AtInstr s k w (.j off) →
      off = w.setWidth 26 ∧
      (Does (.j k w) s fun t => Ran s t k
        { s.core k with delay := some ((s.core k).pc, (s.core k).pc + off.signExtend 32 * 4), pc := (s.core k).pc + 4, shadow := false }))
        ∧
    -- jal
    (∀ (off : BitVec 26), AtInstr s k w (.jal off) →
      off = w.setWidth 26 ∧
      (Does (.jal k w) s fun t => Ran s t k
        { s.core k with delay := some ((s.core k).pc, (s.core k).pc + off.signExtend 32 * 4), pc := (s.core k).pc + 4, shadow := false, g := (t.core k).g }
        ∧ ∀ x : Fin 16, State.readG (t.core k) x = if x = 15 then (s.core k).pc + 8 else State.readG (s.core k) x)) ∧
    -- b
    (∀ (off : BitVec 22), AtInstr s k w (.b 0 off) →
      off = w.setWidth 22 ∧
      (Does (.b k w) s fun t => (t.core k).delay = some ((s.core k).pc, (s.core k).pc + off.signExtend 32 * 4)))

/-- JR and JALR go to ga after their delay slot, and a delay slot or a loop end passes control on; LOOP sets a level up or skips
its body; MFS and MTS read and write the special registers in the modes that allow it and raise PRIVILEGE or ILLEGAL
otherwise; ERET returns; SYSCALL and BREAK enter their exceptions; LOCK opens a locked sequence and UNLOCK commits or discards
it; SYNC, WAIT and the cache operations act as their rules say. Where a clause rests on a reading or a choice of the model, it
is that of assumptions 90, 91, 93 and 94. -/
def Obligations.ControlAndSystemInstructionsAct : Prop :=
  ∀ (s : State) (k : Fin 66) (w : Word),
    -- jr
    (∀ (ga : BitVec 4), AtInstr s k w (.jr ga) → Does (.jr k w) s fun t =>
      Ran s t k { s.core k with delay := some ((s.core k).pc, G s k ga), pc := (s.core k).pc + 4, shadow := false }) ∧
    -- jalr
    (∀ (ga : BitVec 4), AtInstr s k w (.jalr ga) → Does (.jalr k w) s fun t =>
      Ran s t k
      { s.core k with delay := some ((s.core k).pc, G s k ga), pc := (s.core k).pc + 4, shadow := false, g := (t.core k).g } ∧
      ∀ x : Fin 16, State.readG (t.core k) x = if x = 15 then (s.core k).pc + 8 else State.readG (s.core k) x) ∧
    -- slot
    (∀ (gd ga gb : BitVec 4) (f : Bool) (from_ dst : Word), Fetches s k w (.alu .add gd ga gb f) → (s.core k).lock = none →
      (s.core k).delay = some (from_, dst) → atLoopEnd (s.core k) = false → (s.core k).deferred = none →
      (s.core k).stepping = false → Does (.add k w) s fun t => (t.core k).pc = dst ∧ (t.core k).delay = none ∧
      G t k gd = if gd = 0 then 0 else G s k ga + G s k gb) ∧
    -- slotForbidden
    (∀ (off : BitVec 26) (from_ dst : Word), Fetches s k w (.j off) → (s.core k).lock = none →
      (s.core k).delay = some (from_, dst) → (s.core k).deferred = none → (s.core k).stepping = false →
      (s.core k).status.getLsbD 28 = false → Does (.j k w) s fun t => (t.core k).epc = from_ ∧ (t.core k).ecause = 0x80000001#32 ∧
      (t.core k).pc = (s.core k).vbase + 0x40#32 ∧ (t.core k).delay = none) ∧
    -- loopEnd
    (∀ (gd ga gb : BitVec 4) (f : Bool), Fetches s k w (.alu .add gd ga gb f) → (s.core k).lock = none → (s.core k).delay = none →
      State.loopOn (s.core k) 0 = true → State.loopOn (s.core k) 1 = false → (s.core k).pc = (s.core k).loops[0].le →
      (s.core k).deferred = none → (s.core k).stepping = false → Does (.add k w) s fun t =>
      G t k gd = (if gd = 0 then 0 else G s k ga + G s k gb) ∧ if 1 < (s.core k).loops[0].lc.toNat then (t.core k).pc = (s.core
      k).loops[0].ls ∧ (t.core k).loops[0].lc = (s.core k).loops[0].lc - 1 ∧
      State.loopOn (t.core k) 0 = true else (t.core k).pc = (s.core k).pc + 4 ∧ (t.core k).loops[0].lc = 0 ∧
      State.loopOn (t.core k) 0 = false) ∧
    -- loop0
    (∀ (count e : BitVec 12) (ga : BitVec 4) (n : Word), AtInstr s k w (.loopImm false count e) ∧
      n = count.setWidth 32 ∨ AtInstr s k w (.loopReg false ga e) ∧ n = G s k ga →
      e ≠ 0 → State.loopOn (s.core k) 1 = false → State.loopOn (s.core k) 0 = false →
        Does (.loop k w) s fun t => if n = 0 then Ran s t k
        { s.core k with loops := (s.core k).loops.set 0 { ls := (s.core k).pc + 4, le := (s.core k).pc + BitVec.ofNat 32 (4 * e.toNat), lc := 0 }, pc := (s.core k).pc + BitVec.ofNat 32 (4 * e.toNat) + 4, shadow := false }
        else Ran s t k
        { s.core k with loops := (s.core k).loops.set 0 { ls := (s.core k).pc + 4, le := (s.core k).pc + BitVec.ofNat 32 (4 * e.toNat), lc := n }, status := (s.core k).status ||| 0x4000000#32, pc := (s.core k).pc + 4, shadow := false })
        ∧
    -- loop1
    (∀ (count e : BitVec 12) (ga : BitVec 4) (n : Word), AtInstr s k w (.loopImm true count e) ∧
      n = count.setWidth 32 ∨ AtInstr s k w (.loopReg true ga e) ∧ n = G s k ga →
      e ≠ 0 → State.loopOn (s.core k) 1 = false → State.loopOn (s.core k) 0 = false ∨
        ((s.core k).pc + BitVec.ofNat 32 (4 * e.toNat)).toNat ≤ (s.core k).loops[0].le.toNat →
      Does (.loop k w) s fun t => if n = 0 then Ran s t k
        { s.core k with loops := (s.core k).loops.set 1 { ls := (s.core k).pc + 4, le := (s.core k).pc + BitVec.ofNat 32 (4 * e.toNat), lc := 0 }, pc := (s.core k).pc + BitVec.ofNat 32 (4 * e.toNat) + 4, shadow := false }
        else Ran s t k
        { s.core k with loops := (s.core k).loops.set 1 { ls := (s.core k).pc + 4, le := (s.core k).pc + BitVec.ofNat 32 (4 * e.toNat), lc := n }, status := (s.core k).status ||| 0x8000000#32, pc := (s.core k).pc + 4, shadow := false })
        ∧
    -- loopIllegal
    (∀ (count e : BitVec 12) (level : Bool), AtInstr s k w (.loopImm level count e) → (s.core k).status.getLsbD 28 = false →
      e = 0 ∨ State.loopOn (s.core k) 1 = true ∨ level = false ∧ State.loopOn (s.core k) 0 = true ∨ level = true ∧
      State.loopOn (s.core k) 0 = true ∧ (s.core k).loops[0].le.toNat < ((s.core k).pc + BitVec.ofNat 32 (4 * e.toNat)).toNat →
      Does (.loop k w) s fun t => Entered s t k (s.core k) 1 none (s.core k).pc) ∧
    -- mfs
    (∀ (gd : BitVec 4) (num : BitVec 5) (v : Word), AtInstr s k w (.mfs gd num) → num.toNat < 14 →
      privileged k (s.core k) = true ∨ num = 0 ∨ 6 ≤ num.toNat ∧ num.toNat ≤ 11 →
      ([(s.core k).status, (s.core k).estatus, (s.core k).epc, (s.core k).ecause, (s.core k).ebadaddr, (s.core k).vbase,
        (s.core k).loops[0].ls, (s.core k).loops[0].le, (s.core k).loops[0].lc, (s.core k).loops[1].ls, (s.core k).loops[1].le,
        (s.core k).loops[1].lc, (s.core k).kscr[0], (s.core k).kscr[1]] : List Word)[num.toNat]? = some v →
      Does (.mfs k w) s fun t => WroteNz s t k gd false v) ∧
    -- mfsFree
    (∀ (gd : BitVec 4), AtInstr s k w (.mfs gd 14) → k.val < 64 → Does (.mfs k w) s fun t =>
      WroteNz s t k gd false (BitVec.ofNat 32 (Config.freeValue s.freeCtr))) ∧
    -- coreId
    (∀ (gd : BitVec 4), AtInstr s k w (.mfs gd 15) → Does (.mfs k w) s fun t =>
      WroteNz s t k gd false (if k.val < 64 then BitVec.ofNat 32 k.val else 0x80000000#32)) ∧
    -- specialTrap
    (∀ (g : BitVec 4) (num : BitVec 5), (s.core k).status.getLsbD 28 = false → privileged k (s.core k) = false → num.toNat < 16 →
      num ≠ 0 → ¬ (6 ≤ num.toNat ∧ num.toNat ≤ 11) → num ≠ 14 → num ≠ 15 →
      (AtInstr s k w (.mfs g num) → Does (.mfs k w) s fun t => Entered s t k (s.core k) 2 none (s.core k).pc) ∧
      (AtInstr s k w (.mts num g) → Does (.mts k w) s fun t => Entered s t k (s.core k) 2 none (s.core k).pc)) ∧
    -- specialIllegal
    (∀ (g : BitVec 4) (num : BitVec 5), (s.core k).status.getLsbD 28 = false → k.val < 64 → 16 ≤ num.toNat →
      (AtInstr s k w (.mfs g num) → Does (.mfs k w) s fun t => Entered s t k (s.core k) 1 none (s.core k).pc) ∧
      (AtInstr s k w (.mts num g) → Does (.mts k w) s fun t => Entered s t k (s.core k) 1 none (s.core k).pc)) ∧
    -- mtsReadOnly
    (∀ (ga : BitVec 4) (num : BitVec 5), AtInstr s k w (.mts num ga) → (s.core k).status.getLsbD 28 = false →
      num = 14 ∨ num = 15 → Does (.mts k w) s fun t => Entered s t k (s.core k) 1 none (s.core k).pc) ∧
    -- mts1
    (∀ (ga : BitVec 4), AtInstr s k w (.mts 1 ga) → privileged k (s.core k) = true →
      Does (.mts k w) s fun t => Ran s t k
      { s.core k with pc := (s.core k).pc + 4, shadow := false, estatus := G s k ga &&& 0xFC00000F#32 }) ∧
    -- mts2
    (∀ (ga : BitVec 4), AtInstr s k w (.mts 2 ga) → privileged k (s.core k) = true →
      Does (.mts k w) s fun t => Ran s t k { s.core k with pc := (s.core k).pc + 4, shadow := false, epc := G s k ga }) ∧
    -- mts3
    (∀ (ga : BitVec 4), AtInstr s k w (.mts 3 ga) → privileged k (s.core k) = true →
      Does (.mts k w) s fun t => Ran s t k { s.core k with pc := (s.core k).pc + 4, shadow := false }) ∧
    -- mts4
    (∀ (ga : BitVec 4), AtInstr s k w (.mts 4 ga) → privileged k (s.core k) = true →
      Does (.mts k w) s fun t => Ran s t k { s.core k with pc := (s.core k).pc + 4, shadow := false, ebadaddr := G s k ga }) ∧
    -- mts5
    (∀ (ga : BitVec 4), AtInstr s k w (.mts 5 ga) → privileged k (s.core k) = true →
      Does (.mts k w) s fun t => Ran s t k
      { s.core k with pc := (s.core k).pc + 4, shadow := false, vbase := G s k ga &&& 0xFFFFFC00#32 }) ∧
    -- mts6
    (∀ (ga : BitVec 4), AtInstr s k w (.mts 6 ga) → Does (.mts k w) s fun t =>
      Ran s t k
      { s.core k with pc := (s.core k).pc + 4, shadow := false, loops := (s.core k).loops.set 0 { (s.core k).loops[0] with ls := G s k ga } })
      ∧
    -- mts9
    (∀ (ga : BitVec 4), AtInstr s k w (.mts 9 ga) → Does (.mts k w) s fun t =>
      Ran s t k
      { s.core k with pc := (s.core k).pc + 4, shadow := false, loops := (s.core k).loops.set 1 { (s.core k).loops[1] with ls := G s k ga } })
      ∧
    -- mts7
    (∀ (ga : BitVec 4), AtInstr s k w (.mts 7 ga) → Does (.mts k w) s fun t =>
      Ran s t k
      { s.core k with pc := (s.core k).pc + 4, shadow := false, loops := (s.core k).loops.set 0 { (s.core k).loops[0] with le := G s k ga } })
      ∧
    -- mts10
    (∀ (ga : BitVec 4), AtInstr s k w (.mts 10 ga) → Does (.mts k w) s fun t =>
      Ran s t k
      { s.core k with pc := (s.core k).pc + 4, shadow := false, loops := (s.core k).loops.set 1 { (s.core k).loops[1] with le := G s k ga } })
      ∧
    -- mts8
    (∀ (ga : BitVec 4), AtInstr s k w (.mts 8 ga) → Does (.mts k w) s fun t =>
      Ran s t k
      { s.core k with pc := (s.core k).pc + 4, shadow := false, loops := (s.core k).loops.set 0 { (s.core k).loops[0] with lc := G s k ga } })
      ∧
    -- mts11
    (∀ (ga : BitVec 4), AtInstr s k w (.mts 11 ga) → Does (.mts k w) s fun t =>
      Ran s t k
      { s.core k with pc := (s.core k).pc + 4, shadow := false, loops := (s.core k).loops.set 1 { (s.core k).loops[1] with lc := G s k ga } })
      ∧
    -- mts12
    (∀ (ga : BitVec 4), AtInstr s k w (.mts 12 ga) → privileged k (s.core k) = true →
      Does (.mts k w) s fun t => Ran s t k
      { s.core k with pc := (s.core k).pc + 4, shadow := false, kscr := (s.core k).kscr.set 0 (G s k ga) }) ∧
    -- mts13
    (∀ (ga : BitVec 4), AtInstr s k w (.mts 13 ga) → privileged k (s.core k) = true →
      Does (.mts k w) s fun t => Ran s t k
      { s.core k with pc := (s.core k).pc + 4, shadow := false, kscr := (s.core k).kscr.set 1 (G s k ga) }) ∧
    -- mtsStatusScript
    (∀ (ga : BitVec 4), AtInstr s k w (.mts 0 ga) → (s.core k).status.toNat / 2 ^ 30 = 0 →
      Does (.mts k w) s fun t => Ran s t k
      { s.core k with pc := (s.core k).pc + 4, shadow := false, status := ((s.core k).status &&& 0xFFFFFFF0#32) ||| ((G s k ga) &&& 0xF#32) })
      ∧
    -- mtsStatus
    (∀ (ga : BitVec 4) (v : Word), AtInstr s k w (.mts 0 ga) → v = G s k ga → (s.core k).status.toNat / 2 ^ 30 ≠ 0 →
      v.toNat / 2 ^ 30 ≤ (s.core k).status.toNat / 2 ^ 30 → v.toNat / 2 ^ 30 ≠ 3 → (k.val < 64 → v.toNat / 2 ^ 30 ≠ 2) →
      Does (.mts k w) s fun t => Ran s t k
      { s.core k with pc := (s.core k).pc + 4, status := v &&& 0xFC00000F#32, shadow := decide ((v ^^^ (s.core k).status) &&& 0xEC000000#32 ≠ 0) })
      ∧
    -- mtsStatusRaise
    (∀ (ga : BitVec 4) (v : Word), AtInstr s k w (.mts 0 ga) → v = G s k ga → (s.core k).status.getLsbD 28 = false →
      (s.core k).status.toNat / 2 ^ 30 ≠ 0 → (s.core k).status.toNat / 2 ^ 30 < v.toNat / 2 ^ 30 ∨ v.toNat / 2 ^ 30 = 3 ∨
      k.val < 64 ∧ v.toNat / 2 ^ 30 = 2 →
      Does (.mts k w) s fun t => Entered s t k (s.core k) 2 none (s.core k).pc) ∧
    -- eret
    (AtInstr s k w .eret → privileged k (s.core k) = true → Does (.eret k w) s fun t =>
      Ran s t k { s.core k with status := (s.core k).estatus, pc := (s.core k).epc, shadow := true }) ∧
    -- eretScript
    (∀ (ga : BitVec 4), AtInstr s k w (.eret) → (s.core k).status.getLsbD 28 = false → privileged k (s.core k) = false →
      Does (.eret k w) s fun t => Entered s t k (s.core k) 2 none (s.core k).pc) ∧
    -- iinvAllScript
    (∀ (ga : BitVec 4), AtInstr s k w (.cache .iinvAll ga) → (s.core k).status.getLsbD 28 = false →
      privileged k (s.core k) = false → Does (.iinvAll k w) s fun t => Entered s t k (s.core k) 2 none (s.core k).pc) ∧
    -- iinvLineScript
    (∀ (ga : BitVec 4), AtInstr s k w (.cache .iinvLine ga) → (s.core k).status.getLsbD 28 = false →
      privileged k (s.core k) = false → Does (.iinvLine k w) s fun t => Entered s t k (s.core k) 2 none (s.core k).pc) ∧
    -- dcleanLineScript
    (∀ (ga : BitVec 4), AtInstr s k w (.cache .dcleanLine ga) → (s.core k).status.getLsbD 28 = false →
      privileged k (s.core k) = false → Does (.dcleanLine k w) s fun t => Entered s t k (s.core k) 2 none (s.core k).pc) ∧
    -- dinvLineScript
    (∀ (ga : BitVec 4), AtInstr s k w (.cache .dinvLine ga) → (s.core k).status.getLsbD 28 = false →
      privileged k (s.core k) = false → Does (.dinvLine k w) s fun t => Entered s t k (s.core k) 2 none (s.core k).pc) ∧
    -- dcleanAllScript
    (∀ (ga : BitVec 4), AtInstr s k w (.cache .dcleanAll ga) → (s.core k).status.getLsbD 28 = false →
      privileged k (s.core k) = false → Does (.dcleanAll k w) s fun t => Entered s t k (s.core k) 2 none (s.core k).pc) ∧
    -- syscall
    (∀ (code : BitVec 12), AtInstr s k w (.syscall code) → (s.core k).status.getLsbD 28 = false →
      Does (.syscall k w) s fun t => Entered s t k (s.core k) 7 (some (code.setWidth 32)) ((s.core k).pc + 4)) ∧
    -- hBreak
    (∀ (code : BitVec 12), AtInstr s k w (.brk code) → (s.core k).status.getLsbD 28 = false →
      Does (.hBreak k w) s fun t => Entered s t k (s.core k) 8 (some (code.setWidth 32)) ((s.core k).pc + 4)) ∧
    -- breakHeld
    (∀ (code : BitVec 12), Fetches s k w (.brk code) → (s.core k).delay = none → (s.core k).lock = none →
      atLoopEnd (s.core k) = false → (s.core k).deferred = none → (s.core k).stepping = true → k.val < 64 →
      Does (.hBreak k w) s fun t => t.get R.HIKER_STATUS_state k = 4 ∧ (t.core k).pc = (s.core k).pc ∧
      (t.core k).g = (s.core k).g ∧ (t.core k).status = (s.core k).status) ∧
    -- lock
    (AtInstr s k w .lock → (s.core k).stores = [] → Does (.lock k w) s fun t =>
      Ran s t k
      { s.core k with pc := (s.core k).pc + 4, shadow := false, lock := some { lockPc := (s.core k).pc, count := 1, stores := [], reserved := [], broken := false } })
      ∧
    -- unlockBroken
    (∀ (gd : BitVec 4) (l : LockSeq), Fetches s k w (.unlock gd) → (s.core k).lock = some l → l.count ≤ 63 →
      (s.core k).delay = none → atLoopEnd (s.core k) = false → (s.core k).deferred = none → (s.core k).stepping = false →
      l.broken = true → Does (.unlock k w) s fun t => Ran s t k
      { s.core k with g := (t.core k).g, lock := none, pc := (s.core k).pc + 4, shadow := false } ∧
      ∀ x : Fin 16, State.readG (t.core k) x = if x = regIx gd then 0 else State.readG (s.core k) x) ∧
    -- unlock
    (∀ (gd : BitVec 4) (l : LockSeq) (a : Nat), Fetches s k w (.unlock gd) → (s.core k).lock = some l → l.count ≤ 63 →
      (s.core k).delay = none → atLoopEnd (s.core k) = false → (s.core k).deferred = none → (s.core k).stepping = false →
      l.broken = false → k.val < 64 → Does (.unlock k w) s fun t => (t.core k).lock = none ∧ (t.core k).pc = (s.core k).pc + 4 ∧
      (∀ x : Fin 16, State.readG (t.core k) x = if x = regIx gd ∧ x ≠ 0 then 1 else State.readG (s.core k) x) ∧
      t.byte a = (match l.stores.find? fun (e : Nat × Byte) => decide (e.1 = a) with | some e => e.2 | none => s.byte a) ∧
      t.tiles = s.tiles) ∧
    -- lockIllegal
    (∀ (gd : BitVec 4) (l : LockSeq), (s.core k).status.getLsbD 28 = false → (s.core k).delay = none →
      atLoopEnd (s.core k) = false → (s.core k).deferred = none → (s.core k).stepping = false →
      (Fetches s k w (.unlock gd) ∧ (s.core k).lock = none → Does (.unlock k w) s fun t =>
        Entered s t k (s.core k) 1 none (s.core k).pc) ∧
      (Fetches s k w .lock ∧ (s.core k).lock = some l ∧ l.count ≤ 63 → Does (.lock k w) s fun t => (t.core k).lock = none ∧
        (t.core k).epc = l.lockPc ∧ (t.core k).ecause = 0x40000001#32) ∧
      (Fetches s k w .wait ∧ (s.core k).lock = some l ∧ l.count ≤ 63 → Does (.wait k w) s fun t => (t.core k).lock = none ∧
        (t.core k).epc = l.lockPc ∧ (t.core k).ecause = 0x40000001#32)) ∧
    -- lockDrains
    (∀ (e : Nat × List Byte), AtInstr s k w .lock → (s.core k).stores = [e] → k.val < 64 →
      Does (.lock k w) s fun t => (t.core k).stores = [] ∧ (∀ j : Fin 4, j.val < e.2.length →
      t.byte (e.1 + j.val) = e.2.getD j.val 0) ∧ MemOutside e.1 e.2.length s t ∧ (t.core k).pc = (s.core k).pc + 4 ∧
      (t.core k).lock.isSome = true ∧ t.tiles = s.tiles) ∧
    -- syncDrains
    (∀ (e : Nat × List Byte), AtInstr s k w .sync → (s.core k).stores = [e] → k.val < 64 →
      Does (.sync k w) s fun t => (t.core k).stores = [] ∧ (∀ j : Fin 4, j.val < e.2.length →
      t.byte (e.1 + j.val) = e.2.getD j.val 0) ∧ MemOutside e.1 e.2.length s t ∧ (t.core k).pc = (s.core k).pc + 4 ∧
      (t.core k).lock.isSome = false ∧ t.tiles = s.tiles) ∧
    -- sync
    (AtInstr s k w .sync → (s.core k).stores = [] → Does (.sync k w) s fun t =>
      Ran s t k { s.core k with pc := (s.core k).pc + 4, shadow := false, stale := [] }) ∧
    -- waits
    (AtInstr s k w .wait → ((s.core k).irqPend &&& (s.core k).irqEn) = 0 →
      Does (.wait k w) s fun t => Ran s t k { s.core k with waiting := true, shadow := false }) ∧
    -- waitReady
    (AtInstr s k w .wait → ((s.core k).irqPend &&& (s.core k).irqEn) ≠ 0 → (s.core k).status.getLsbD 29 = false →
      Does (.wait k w) s fun t => Ran s t k { s.core k with pc := (s.core k).pc + 4, shadow := false }) ∧
    -- waitTakes
    (∀ (n : Fin 16), AtInstr s k w .wait → ((s.core k).irqPend &&& (s.core k).irqEn).getLsbD n = true → (∀ j : Fin 16, j < n →
      ((s.core k).irqPend &&& (s.core k).irqEn).getLsbD j = false) →
      (s.core k).status.getLsbD 29 = true → (s.core k).status.getLsbD 28 = false →
        Does (.wait k w) s fun t => (t.core k).epc = (s.core k).pc + 4 ∧ (t.core k).ecause.toNat = n.val * 65536 + 15 ∧
        (t.core k).estatus = (s.core k).status ∧ (t.core k).pc = (s.core k).vbase + 0x3C0#32 ∧ (t.core k).waiting = false) ∧
    -- iinvAll
    (∀ (ga : BitVec 4), AtInstr s k w (.cache .iinvAll ga) → privileged k (s.core k) = true →
      Does (.iinvAll k w) s fun t => Ran s t k { s.core k with pc := (s.core k).pc + 4, shadow := false, fetchBuf := [] }) ∧
    -- iinvAllCanopy
    (∀ (ga : BitVec 4), AtInstr s k w (.cache .iinvAll ga) → privileged k (s.core k) = true →
      Does (.iinvAll k w) s fun t => (t.core k).fetchBuf = []) ∧
    -- iinvLine
    (∀ (ga : BitVec 4) (l : Line), AtInstr s k w (.cache .iinvLine ga) → privileged k (s.core k) = true →
      Does (.iinvLine k w) s fun t => (k.val < 64 → Ran s t k
      { s.core k with pc := (s.core k).pc + 4, shadow := false, fetchBuf := (t.core k).fetchBuf }) ∧
      (t.core k).pc = (s.core k).pc + 4 ∧ (l ∈ (t.core k).fetchBuf → l.addr ≠ (G s k ga).toNat / 32 * 32) ∧ (k.val < 64 →
      l ∈ (s.core k).fetchBuf → l.addr ≠ (G s k ga).toNat / 32 * 32 → l ∈ (t.core k).fetchBuf)) ∧
    -- dcleanLine
    (∀ (ga : BitVec 4), AtInstr s k w (.cache .dcleanLine ga) → k.val < 64 → (s.core k).stores = [] →
      privileged k (s.core k) = true → Does (.dcleanLine k w) s fun t => Ran s t k
      { s.core k with pc := (s.core k).pc + 4, shadow := false, stale := [] }) ∧
    -- dinvLine
    (∀ (ga : BitVec 4), AtInstr s k w (.cache .dinvLine ga) → k.val < 64 → (s.core k).stores = [] →
      privileged k (s.core k) = true → Does (.dinvLine k w) s fun t => Ran s t k
      { s.core k with pc := (s.core k).pc + 4, shadow := false, stale := [] }) ∧
    -- dcleanAll
    (∀ (ga : BitVec 4), AtInstr s k w (.cache .dcleanAll ga) → k.val < 64 → (s.core k).stores = [] →
      privileged k (s.core k) = true → Does (.dcleanAll k w) s fun t => Ran s t k
      { s.core k with pc := (s.core k).pc + 4, shadow := false, stale := [] }) ∧
    -- dcleanLineCanopy
    (∀ (ga : BitVec 4) (l : Line), AtInstr s k w (.cache .dcleanLine ga) → 64 ≤ k.val → (s.core k).stores = [] →
      privileged k (s.core k) = true → State.lineOf (s.core k).dcache (G s k ga).toNat = some l → l.dirty = true →
      l.bytes.length = 32 → Does (.dcleanLine k w) s fun t => (∀ j : Fin 32, t.byte (l.addr + j.val) = l.bytes[j.val]?.getD 0) ∧
      MemOutside l.addr 32 s t ∧ (∀ x ∈ (t.core k).dcache, x.addr = l.addr → x.dirty = false) ∧
      (t.core k).dcache.length = (s.core k).dcache.length ∧ (t.core k).pc = (s.core k).pc + 4) ∧
    -- dinvLineCanopy
    (∀ (ga : BitVec 4) (l : Line), AtInstr s k w (.cache .dinvLine ga) → 64 ≤ k.val → (s.core k).stores = [] →
      privileged k (s.core k) = true → State.lineOf (s.core k).dcache (G s k ga).toNat = some l →
      Does (.dinvLine k w) s fun t => t.mem = s.mem ∧ (t.core k).dcache = (s.core k).dcache.filter (fun (x : Line) =>
      decide (x.addr ≠ l.addr)) ∧ (t.core k).pc = (s.core k).pc + 4) ∧
    -- dcleanAllCanopy
    (∀ (ga : BitVec 4), AtInstr s k w (.cache .dcleanAll ga) → 64 ≤ k.val → (s.core k).stores = [] →
      privileged k (s.core k) = true → (∀ x ∈ (s.core k).dcache, x.addr % 32 = 0) →
      Does (.dcleanAll k w) s fun t => (∀ x ∈ (t.core k).dcache, x.dirty = false) ∧
      (t.core k).dcache.map (fun (x : Line) => (x.addr, x.bytes)) = (s.core k).dcache.map (fun (x : Line) => (x.addr, x.bytes)) ∧
      (t.core k).pc = (s.core k).pc + 4)

/-- For every state and command, a step with that command at the front of the queue is exec of the command on the state with the
rest of the queue; exec answers a next state for every command in every state; and with an empty queue a step is the idle
step, which is the model's choice (assumption 12). Where a clause rests on a reading or a choice of the model, it is that of
assumption 12. -/
def Obligations.StepRunsTheFrontCommand : Prop :=
  (∀ (c : Instr) (rest : List Instr) (s : State), step { s with pending := c :: rest } = exec c { s with pending := rest }) ∧
  (∀ (c : Instr) (s : State), Does c s fun _ => True) ∧
  (∀ s : State, s.pending = [] → step s = .next s.idle)

/-- In State.reset no command waits, the maps stand in canonical form, every register word reads the reset value of its row and
every unlisted byte reads 0 (the model's choice, assumption 4), every Hiker core has STATUS keeper with all else 0 and, by the
model's choice (assumption 2), PC and registers 0, no group slot is held, and the Dawn of cause power-on is due. Where a
clause rests on a reading or a choice of the model, it is that of assumptions 1, 2, 4 and 85. -/
def Obligations.ResetHoldsItsValues : Prop :=
  State.reset.pending = [] ∧ Canonical State.reset ∧ (∀ a, State.reset.rd a = resetWord a) ∧ (∀ a, State.reset.byte a = 0) ∧
  (∀ k : Fin 66, (State.reset.core k).status = 0x40000000#32 ∧ (State.reset.core k).pc = 0 ∧
    ∀ r : Fin 16, State.readG (State.reset.core k) r = 0) ∧
  (∀ i : Fin 16, State.reset.group i = none) ∧ State.reset.lookout.dawnCause = some 1 ∧
  (∀ n : Fin 64, State.reset.get R.TILE_STATE_state n = 0 ∧ State.reset.get R.HIKER_STATUS_state n = 0)

/-- From every state whose register map, on-chip memories and host memory stand in canonical form (addresses strictly rising, no
entry equal to what an unlisted address reads as), whatever command is at the front of the queue, a step gives a state in that
form. Where a clause rests on a reading or a choice of the model, it is that of assumptions 4 and 12. -/
def Obligations.CanonicalFormIsKept : Prop :=
  ∀ s t : State, Canonical s → step s = .next t → Canonical t

/-- For every well-formed Hiker instruction of every row, with every operand at every value its encoding admits, decode of its
word is the instruction; and every word that decodes to an instruction is the word of that instruction, which is well-formed,
so that each word has at most one meaning and every reserved field is refused. -/
def Obligations.HikerDecodeAndEncodeAgree : Prop :=
  (∀ i : HInstr, i.wf = true → HInstr.decode i.encode = some i) ∧
  (∀ (w : Word) (i : HInstr), HInstr.decode w = some i → i.wf = true ∧ i.encode = w)
end

