-- ==== Sys2Proof/Decode.lean ====
section
/-! DEFINITION. The commands of the table carry no bits, so no word spells one. -/

namespace Sys2Proof

/-- The command that a word spells by the table's bits: none, since no row of the table gives bits.
Log: DESIGN CHOICE notes/assumptions/85.md. -/
def decodeTableWord (_nbits _w : Nat) : Option Instr := none

end Sys2Proof
end

