-- ==== Sys2Proof/Laws/State.lean ====
section
/-! SUPPORT. What each update of State leaves and writes: one lemma per field per update, true by definition. -/

namespace Sys2Proof.Machine
namespace State

variable (s : State)

/-! ### wr -/

@[simp] theorem wr_regs (a : Nat) (v : Word) : (s.wr a v).regs = sparsePut (resetWord a) a v s.regs := rfl
@[simp] theorem wr_mem (a : Nat) (v : Word) : (s.wr a v).mem = s.mem := rfl
@[simp] theorem wr_host (a : Nat) (v : Word) : (s.wr a v).host = s.host := rfl
@[simp] theorem wr_shadows (a : Nat) (v : Word) : (s.wr a v).shadows = s.shadows := rfl
@[simp] theorem wr_holds (a : Nat) (v : Word) : (s.wr a v).holds = s.holds := rfl
@[simp] theorem wr_now (a : Nat) (v : Word) : (s.wr a v).now = s.now := rfl
@[simp] theorem wr_tiles (a : Nat) (v : Word) : (s.wr a v).tiles = s.tiles := rfl
@[simp] theorem wr_groups (a : Nat) (v : Word) : (s.wr a v).groups = s.groups := rfl
@[simp] theorem wr_hamper (a : Nat) (v : Word) : (s.wr a v).hamper = s.hamper := rfl
@[simp] theorem wr_usfen (a : Nat) (v : Word) : (s.wr a v).usfen = s.usfen := rfl
@[simp] theorem wr_freeCtr (a : Nat) (v : Word) : (s.wr a v).freeCtr = s.freeCtr := rfl
@[simp] theorem wr_readData (a : Nat) (v : Word) : (s.wr a v).readData = s.readData := rfl
@[simp] theorem wr_pinFrom (a : Nat) (v : Word) : (s.wr a v).pinFrom = s.pinFrom := rfl
@[simp] theorem wr_pinHigh (a : Nat) (v : Word) : (s.wr a v).pinHigh = s.pinHigh := rfl
@[simp] theorem wr_hwinEvent (a : Nat) (v : Word) : (s.wr a v).hwinEvent = s.hwinEvent := rfl
@[simp] theorem wr_hwinThrAt (a : Nat) (v : Word) : (s.wr a v).hwinThrAt = s.hwinThrAt := rfl
@[simp] theorem wr_hwinLevel (a : Nat) (v : Word) : (s.wr a v).hwinLevel = s.hwinLevel := rfl
@[simp] theorem wr_cores (a : Nat) (v : Word) : (s.wr a v).cores = s.cores := rfl
@[simp] theorem wr_ps (a : Nat) (v : Word) : (s.wr a v).ps = s.ps := rfl
@[simp] theorem wr_house (a : Nat) (v : Word) : (s.wr a v).house = s.house := rfl
@[simp] theorem wr_houseArmed (a : Nat) (v : Word) : (s.wr a v).houseArmed = s.houseArmed := rfl
@[simp] theorem wr_siteTrig (a : Nat) (v : Word) : (s.wr a v).siteTrig = s.siteTrig := rfl
@[simp] theorem wr_feeds (a : Nat) (v : Word) : (s.wr a v).feeds = s.feeds := rfl
@[simp] theorem wr_emus (a : Nat) (v : Word) : (s.wr a v).emus = s.emus := rfl
@[simp] theorem wr_sfe (a : Nat) (v : Word) : (s.wr a v).sfe = s.sfe := rfl
@[simp] theorem wr_lookout (a : Nat) (v : Word) : (s.wr a v).lookout = s.lookout := rfl
@[simp] theorem wr_canopy (a : Nat) (v : Word) : (s.wr a v).canopy = s.canopy := rfl
@[simp] theorem wr_clock (a : Nat) (v : Word) : (s.wr a v).clock = s.clock := rfl
@[simp] theorem wr_spcs (a : Nat) (v : Word) : (s.wr a v).spcs = s.spcs := rfl
@[simp] theorem wr_spt (a : Nat) (v : Word) : (s.wr a v).spt = s.spt := rfl
@[simp] theorem wr_tap (a : Nat) (v : Word) : (s.wr a v).tap = s.tap := rfl
@[simp] theorem wr_perst (a : Nat) (v : Word) : (s.wr a v).perst = s.perst := rfl
@[simp] theorem wr_ppsOut (a : Nat) (v : Word) : (s.wr a v).ppsOut = s.ppsOut := rfl
@[simp] theorem wr_pending (a : Nat) (v : Word) : (s.wr a v).pending = s.pending := rfl

/-! ### set -/

@[simp] theorem set_mem (f : Fld) (v i : Nat) : (s.set f v i).mem = s.mem := rfl
@[simp] theorem set_host (f : Fld) (v i : Nat) : (s.set f v i).host = s.host := rfl
@[simp] theorem set_shadows (f : Fld) (v i : Nat) : (s.set f v i).shadows = s.shadows := rfl
@[simp] theorem set_holds (f : Fld) (v i : Nat) : (s.set f v i).holds = s.holds := rfl
@[simp] theorem set_now (f : Fld) (v i : Nat) : (s.set f v i).now = s.now := rfl
@[simp] theorem set_tiles (f : Fld) (v i : Nat) : (s.set f v i).tiles = s.tiles := rfl
@[simp] theorem set_groups (f : Fld) (v i : Nat) : (s.set f v i).groups = s.groups := rfl
@[simp] theorem set_hamper (f : Fld) (v i : Nat) : (s.set f v i).hamper = s.hamper := rfl
@[simp] theorem set_usfen (f : Fld) (v i : Nat) : (s.set f v i).usfen = s.usfen := rfl
@[simp] theorem set_freeCtr (f : Fld) (v i : Nat) : (s.set f v i).freeCtr = s.freeCtr := rfl
@[simp] theorem set_readData (f : Fld) (v i : Nat) : (s.set f v i).readData = s.readData := rfl
@[simp] theorem set_pinFrom (f : Fld) (v i : Nat) : (s.set f v i).pinFrom = s.pinFrom := rfl
@[simp] theorem set_pinHigh (f : Fld) (v i : Nat) : (s.set f v i).pinHigh = s.pinHigh := rfl
@[simp] theorem set_hwinEvent (f : Fld) (v i : Nat) : (s.set f v i).hwinEvent = s.hwinEvent := rfl
@[simp] theorem set_hwinThrAt (f : Fld) (v i : Nat) : (s.set f v i).hwinThrAt = s.hwinThrAt := rfl
@[simp] theorem set_hwinLevel (f : Fld) (v i : Nat) : (s.set f v i).hwinLevel = s.hwinLevel := rfl
@[simp] theorem set_cores (f : Fld) (v i : Nat) : (s.set f v i).cores = s.cores := rfl
@[simp] theorem set_ps (f : Fld) (v i : Nat) : (s.set f v i).ps = s.ps := rfl
@[simp] theorem set_house (f : Fld) (v i : Nat) : (s.set f v i).house = s.house := rfl
@[simp] theorem set_houseArmed (f : Fld) (v i : Nat) : (s.set f v i).houseArmed = s.houseArmed := rfl
@[simp] theorem set_siteTrig (f : Fld) (v i : Nat) : (s.set f v i).siteTrig = s.siteTrig := rfl
@[simp] theorem set_feeds (f : Fld) (v i : Nat) : (s.set f v i).feeds = s.feeds := rfl
@[simp] theorem set_emus (f : Fld) (v i : Nat) : (s.set f v i).emus = s.emus := rfl
@[simp] theorem set_sfe (f : Fld) (v i : Nat) : (s.set f v i).sfe = s.sfe := rfl
@[simp] theorem set_lookout (f : Fld) (v i : Nat) : (s.set f v i).lookout = s.lookout := rfl
@[simp] theorem set_canopy (f : Fld) (v i : Nat) : (s.set f v i).canopy = s.canopy := rfl
@[simp] theorem set_clock (f : Fld) (v i : Nat) : (s.set f v i).clock = s.clock := rfl
@[simp] theorem set_spcs (f : Fld) (v i : Nat) : (s.set f v i).spcs = s.spcs := rfl
@[simp] theorem set_spt (f : Fld) (v i : Nat) : (s.set f v i).spt = s.spt := rfl
@[simp] theorem set_tap (f : Fld) (v i : Nat) : (s.set f v i).tap = s.tap := rfl
@[simp] theorem set_perst (f : Fld) (v i : Nat) : (s.set f v i).perst = s.perst := rfl
@[simp] theorem set_ppsOut (f : Fld) (v i : Nat) : (s.set f v i).ppsOut = s.ppsOut := rfl
@[simp] theorem set_pending (f : Fld) (v i : Nat) : (s.set f v i).pending = s.pending := rfl

/-! ### setFlag -/

@[simp] theorem setFlag_mem (f : Fld) (b : Bool) (i : Nat) : (s.setFlag f b i).mem = s.mem := rfl
@[simp] theorem setFlag_host (f : Fld) (b : Bool) (i : Nat) : (s.setFlag f b i).host = s.host := rfl
@[simp] theorem setFlag_shadows (f : Fld) (b : Bool) (i : Nat) : (s.setFlag f b i).shadows = s.shadows := rfl
@[simp] theorem setFlag_holds (f : Fld) (b : Bool) (i : Nat) : (s.setFlag f b i).holds = s.holds := rfl
@[simp] theorem setFlag_now (f : Fld) (b : Bool) (i : Nat) : (s.setFlag f b i).now = s.now := rfl
@[simp] theorem setFlag_tiles (f : Fld) (b : Bool) (i : Nat) : (s.setFlag f b i).tiles = s.tiles := rfl
@[simp] theorem setFlag_groups (f : Fld) (b : Bool) (i : Nat) : (s.setFlag f b i).groups = s.groups := rfl
@[simp] theorem setFlag_hamper (f : Fld) (b : Bool) (i : Nat) : (s.setFlag f b i).hamper = s.hamper := rfl
@[simp] theorem setFlag_usfen (f : Fld) (b : Bool) (i : Nat) : (s.setFlag f b i).usfen = s.usfen := rfl
@[simp] theorem setFlag_freeCtr (f : Fld) (b : Bool) (i : Nat) : (s.setFlag f b i).freeCtr = s.freeCtr := rfl
@[simp] theorem setFlag_readData (f : Fld) (b : Bool) (i : Nat) : (s.setFlag f b i).readData = s.readData := rfl
@[simp] theorem setFlag_pinFrom (f : Fld) (b : Bool) (i : Nat) : (s.setFlag f b i).pinFrom = s.pinFrom := rfl
@[simp] theorem setFlag_pinHigh (f : Fld) (b : Bool) (i : Nat) : (s.setFlag f b i).pinHigh = s.pinHigh := rfl
@[simp] theorem setFlag_hwinEvent (f : Fld) (b : Bool) (i : Nat) : (s.setFlag f b i).hwinEvent = s.hwinEvent := rfl
@[simp] theorem setFlag_hwinThrAt (f : Fld) (b : Bool) (i : Nat) : (s.setFlag f b i).hwinThrAt = s.hwinThrAt := rfl
@[simp] theorem setFlag_hwinLevel (f : Fld) (b : Bool) (i : Nat) : (s.setFlag f b i).hwinLevel = s.hwinLevel := rfl
@[simp] theorem setFlag_cores (f : Fld) (b : Bool) (i : Nat) : (s.setFlag f b i).cores = s.cores := rfl
@[simp] theorem setFlag_ps (f : Fld) (b : Bool) (i : Nat) : (s.setFlag f b i).ps = s.ps := rfl
@[simp] theorem setFlag_house (f : Fld) (b : Bool) (i : Nat) : (s.setFlag f b i).house = s.house := rfl
@[simp] theorem setFlag_houseArmed (f : Fld) (b : Bool) (i : Nat) : (s.setFlag f b i).houseArmed = s.houseArmed := rfl
@[simp] theorem setFlag_siteTrig (f : Fld) (b : Bool) (i : Nat) : (s.setFlag f b i).siteTrig = s.siteTrig := rfl
@[simp] theorem setFlag_feeds (f : Fld) (b : Bool) (i : Nat) : (s.setFlag f b i).feeds = s.feeds := rfl
@[simp] theorem setFlag_emus (f : Fld) (b : Bool) (i : Nat) : (s.setFlag f b i).emus = s.emus := rfl
@[simp] theorem setFlag_sfe (f : Fld) (b : Bool) (i : Nat) : (s.setFlag f b i).sfe = s.sfe := rfl
@[simp] theorem setFlag_lookout (f : Fld) (b : Bool) (i : Nat) : (s.setFlag f b i).lookout = s.lookout := rfl
@[simp] theorem setFlag_canopy (f : Fld) (b : Bool) (i : Nat) : (s.setFlag f b i).canopy = s.canopy := rfl
@[simp] theorem setFlag_clock (f : Fld) (b : Bool) (i : Nat) : (s.setFlag f b i).clock = s.clock := rfl
@[simp] theorem setFlag_spcs (f : Fld) (b : Bool) (i : Nat) : (s.setFlag f b i).spcs = s.spcs := rfl
@[simp] theorem setFlag_spt (f : Fld) (b : Bool) (i : Nat) : (s.setFlag f b i).spt = s.spt := rfl
@[simp] theorem setFlag_tap (f : Fld) (b : Bool) (i : Nat) : (s.setFlag f b i).tap = s.tap := rfl
@[simp] theorem setFlag_perst (f : Fld) (b : Bool) (i : Nat) : (s.setFlag f b i).perst = s.perst := rfl
@[simp] theorem setFlag_ppsOut (f : Fld) (b : Bool) (i : Nat) : (s.setFlag f b i).ppsOut = s.ppsOut := rfl
@[simp] theorem setFlag_pending (f : Fld) (b : Bool) (i : Nat) : (s.setFlag f b i).pending = s.pending := rfl

/-! ### setTile -/

@[simp] theorem setTile_regs (n : Fin 64) (t : Tile) : (s.setTile n t).regs = s.regs := rfl
@[simp] theorem setTile_mem (n : Fin 64) (t : Tile) : (s.setTile n t).mem = s.mem := rfl
@[simp] theorem setTile_host (n : Fin 64) (t : Tile) : (s.setTile n t).host = s.host := rfl
@[simp] theorem setTile_shadows (n : Fin 64) (t : Tile) : (s.setTile n t).shadows = s.shadows := rfl
@[simp] theorem setTile_holds (n : Fin 64) (t : Tile) : (s.setTile n t).holds = s.holds := rfl
@[simp] theorem setTile_now (n : Fin 64) (t : Tile) : (s.setTile n t).now = s.now := rfl
@[simp] theorem setTile_tiles (n : Fin 64) (t : Tile) : (s.setTile n t).tiles = s.tiles.set n t := rfl
@[simp] theorem setTile_groups (n : Fin 64) (t : Tile) : (s.setTile n t).groups = s.groups := rfl
@[simp] theorem setTile_hamper (n : Fin 64) (t : Tile) : (s.setTile n t).hamper = s.hamper := rfl
@[simp] theorem setTile_usfen (n : Fin 64) (t : Tile) : (s.setTile n t).usfen = s.usfen := rfl
@[simp] theorem setTile_freeCtr (n : Fin 64) (t : Tile) : (s.setTile n t).freeCtr = s.freeCtr := rfl
@[simp] theorem setTile_readData (n : Fin 64) (t : Tile) : (s.setTile n t).readData = s.readData := rfl
@[simp] theorem setTile_pinFrom (n : Fin 64) (t : Tile) : (s.setTile n t).pinFrom = s.pinFrom := rfl
@[simp] theorem setTile_pinHigh (n : Fin 64) (t : Tile) : (s.setTile n t).pinHigh = s.pinHigh := rfl
@[simp] theorem setTile_hwinEvent (n : Fin 64) (t : Tile) : (s.setTile n t).hwinEvent = s.hwinEvent := rfl
@[simp] theorem setTile_hwinThrAt (n : Fin 64) (t : Tile) : (s.setTile n t).hwinThrAt = s.hwinThrAt := rfl
@[simp] theorem setTile_hwinLevel (n : Fin 64) (t : Tile) : (s.setTile n t).hwinLevel = s.hwinLevel := rfl
@[simp] theorem setTile_cores (n : Fin 64) (t : Tile) : (s.setTile n t).cores = s.cores := rfl
@[simp] theorem setTile_ps (n : Fin 64) (t : Tile) : (s.setTile n t).ps = s.ps := rfl
@[simp] theorem setTile_house (n : Fin 64) (t : Tile) : (s.setTile n t).house = s.house := rfl
@[simp] theorem setTile_houseArmed (n : Fin 64) (t : Tile) : (s.setTile n t).houseArmed = s.houseArmed := rfl
@[simp] theorem setTile_siteTrig (n : Fin 64) (t : Tile) : (s.setTile n t).siteTrig = s.siteTrig := rfl
@[simp] theorem setTile_feeds (n : Fin 64) (t : Tile) : (s.setTile n t).feeds = s.feeds := rfl
@[simp] theorem setTile_emus (n : Fin 64) (t : Tile) : (s.setTile n t).emus = s.emus := rfl
@[simp] theorem setTile_sfe (n : Fin 64) (t : Tile) : (s.setTile n t).sfe = s.sfe := rfl
@[simp] theorem setTile_lookout (n : Fin 64) (t : Tile) : (s.setTile n t).lookout = s.lookout := rfl
@[simp] theorem setTile_canopy (n : Fin 64) (t : Tile) : (s.setTile n t).canopy = s.canopy := rfl
@[simp] theorem setTile_clock (n : Fin 64) (t : Tile) : (s.setTile n t).clock = s.clock := rfl
@[simp] theorem setTile_spcs (n : Fin 64) (t : Tile) : (s.setTile n t).spcs = s.spcs := rfl
@[simp] theorem setTile_spt (n : Fin 64) (t : Tile) : (s.setTile n t).spt = s.spt := rfl
@[simp] theorem setTile_tap (n : Fin 64) (t : Tile) : (s.setTile n t).tap = s.tap := rfl
@[simp] theorem setTile_perst (n : Fin 64) (t : Tile) : (s.setTile n t).perst = s.perst := rfl
@[simp] theorem setTile_ppsOut (n : Fin 64) (t : Tile) : (s.setTile n t).ppsOut = s.ppsOut := rfl
@[simp] theorem setTile_pending (n : Fin 64) (t : Tile) : (s.setTile n t).pending = s.pending := rfl

/-! ### modTile -/

@[simp] theorem modTile_regs (n : Fin 64) (f : Tile → Tile) : (s.modTile n f).regs = s.regs := rfl
@[simp] theorem modTile_mem (n : Fin 64) (f : Tile → Tile) : (s.modTile n f).mem = s.mem := rfl
@[simp] theorem modTile_host (n : Fin 64) (f : Tile → Tile) : (s.modTile n f).host = s.host := rfl
@[simp] theorem modTile_shadows (n : Fin 64) (f : Tile → Tile) : (s.modTile n f).shadows = s.shadows := rfl
@[simp] theorem modTile_holds (n : Fin 64) (f : Tile → Tile) : (s.modTile n f).holds = s.holds := rfl
@[simp] theorem modTile_now (n : Fin 64) (f : Tile → Tile) : (s.modTile n f).now = s.now := rfl
@[simp] theorem modTile_tiles (n : Fin 64) (f : Tile → Tile) : (s.modTile n f).tiles = s.tiles.set n (f (s.tile n)) := rfl
@[simp] theorem modTile_groups (n : Fin 64) (f : Tile → Tile) : (s.modTile n f).groups = s.groups := rfl
@[simp] theorem modTile_hamper (n : Fin 64) (f : Tile → Tile) : (s.modTile n f).hamper = s.hamper := rfl
@[simp] theorem modTile_usfen (n : Fin 64) (f : Tile → Tile) : (s.modTile n f).usfen = s.usfen := rfl
@[simp] theorem modTile_freeCtr (n : Fin 64) (f : Tile → Tile) : (s.modTile n f).freeCtr = s.freeCtr := rfl
@[simp] theorem modTile_readData (n : Fin 64) (f : Tile → Tile) : (s.modTile n f).readData = s.readData := rfl
@[simp] theorem modTile_pinFrom (n : Fin 64) (f : Tile → Tile) : (s.modTile n f).pinFrom = s.pinFrom := rfl
@[simp] theorem modTile_pinHigh (n : Fin 64) (f : Tile → Tile) : (s.modTile n f).pinHigh = s.pinHigh := rfl
@[simp] theorem modTile_hwinEvent (n : Fin 64) (f : Tile → Tile) : (s.modTile n f).hwinEvent = s.hwinEvent := rfl
@[simp] theorem modTile_hwinThrAt (n : Fin 64) (f : Tile → Tile) : (s.modTile n f).hwinThrAt = s.hwinThrAt := rfl
@[simp] theorem modTile_hwinLevel (n : Fin 64) (f : Tile → Tile) : (s.modTile n f).hwinLevel = s.hwinLevel := rfl
@[simp] theorem modTile_cores (n : Fin 64) (f : Tile → Tile) : (s.modTile n f).cores = s.cores := rfl
@[simp] theorem modTile_ps (n : Fin 64) (f : Tile → Tile) : (s.modTile n f).ps = s.ps := rfl
@[simp] theorem modTile_house (n : Fin 64) (f : Tile → Tile) : (s.modTile n f).house = s.house := rfl
@[simp] theorem modTile_houseArmed (n : Fin 64) (f : Tile → Tile) : (s.modTile n f).houseArmed = s.houseArmed := rfl
@[simp] theorem modTile_siteTrig (n : Fin 64) (f : Tile → Tile) : (s.modTile n f).siteTrig = s.siteTrig := rfl
@[simp] theorem modTile_feeds (n : Fin 64) (f : Tile → Tile) : (s.modTile n f).feeds = s.feeds := rfl
@[simp] theorem modTile_emus (n : Fin 64) (f : Tile → Tile) : (s.modTile n f).emus = s.emus := rfl
@[simp] theorem modTile_sfe (n : Fin 64) (f : Tile → Tile) : (s.modTile n f).sfe = s.sfe := rfl
@[simp] theorem modTile_lookout (n : Fin 64) (f : Tile → Tile) : (s.modTile n f).lookout = s.lookout := rfl
@[simp] theorem modTile_canopy (n : Fin 64) (f : Tile → Tile) : (s.modTile n f).canopy = s.canopy := rfl
@[simp] theorem modTile_clock (n : Fin 64) (f : Tile → Tile) : (s.modTile n f).clock = s.clock := rfl
@[simp] theorem modTile_spcs (n : Fin 64) (f : Tile → Tile) : (s.modTile n f).spcs = s.spcs := rfl
@[simp] theorem modTile_spt (n : Fin 64) (f : Tile → Tile) : (s.modTile n f).spt = s.spt := rfl
@[simp] theorem modTile_tap (n : Fin 64) (f : Tile → Tile) : (s.modTile n f).tap = s.tap := rfl
@[simp] theorem modTile_perst (n : Fin 64) (f : Tile → Tile) : (s.modTile n f).perst = s.perst := rfl
@[simp] theorem modTile_ppsOut (n : Fin 64) (f : Tile → Tile) : (s.modTile n f).ppsOut = s.ppsOut := rfl
@[simp] theorem modTile_pending (n : Fin 64) (f : Tile → Tile) : (s.modTile n f).pending = s.pending := rfl

/-! ### modPlan -/

@[simp] theorem modPlan_regs (n : Fin 64) (f : Planner → Planner) : (s.modPlan n f).regs = s.regs := rfl
@[simp] theorem modPlan_mem (n : Fin 64) (f : Planner → Planner) : (s.modPlan n f).mem = s.mem := rfl
@[simp] theorem modPlan_host (n : Fin 64) (f : Planner → Planner) : (s.modPlan n f).host = s.host := rfl
@[simp] theorem modPlan_shadows (n : Fin 64) (f : Planner → Planner) : (s.modPlan n f).shadows = s.shadows := rfl
@[simp] theorem modPlan_holds (n : Fin 64) (f : Planner → Planner) : (s.modPlan n f).holds = s.holds := rfl
@[simp] theorem modPlan_now (n : Fin 64) (f : Planner → Planner) : (s.modPlan n f).now = s.now := rfl
@[simp] theorem modPlan_groups (n : Fin 64) (f : Planner → Planner) : (s.modPlan n f).groups = s.groups := rfl
@[simp] theorem modPlan_hamper (n : Fin 64) (f : Planner → Planner) : (s.modPlan n f).hamper = s.hamper := rfl
@[simp] theorem modPlan_usfen (n : Fin 64) (f : Planner → Planner) : (s.modPlan n f).usfen = s.usfen := rfl
@[simp] theorem modPlan_freeCtr (n : Fin 64) (f : Planner → Planner) : (s.modPlan n f).freeCtr = s.freeCtr := rfl
@[simp] theorem modPlan_readData (n : Fin 64) (f : Planner → Planner) : (s.modPlan n f).readData = s.readData := rfl
@[simp] theorem modPlan_pinFrom (n : Fin 64) (f : Planner → Planner) : (s.modPlan n f).pinFrom = s.pinFrom := rfl
@[simp] theorem modPlan_pinHigh (n : Fin 64) (f : Planner → Planner) : (s.modPlan n f).pinHigh = s.pinHigh := rfl
@[simp] theorem modPlan_hwinEvent (n : Fin 64) (f : Planner → Planner) : (s.modPlan n f).hwinEvent = s.hwinEvent := rfl
@[simp] theorem modPlan_hwinThrAt (n : Fin 64) (f : Planner → Planner) : (s.modPlan n f).hwinThrAt = s.hwinThrAt := rfl
@[simp] theorem modPlan_hwinLevel (n : Fin 64) (f : Planner → Planner) : (s.modPlan n f).hwinLevel = s.hwinLevel := rfl
@[simp] theorem modPlan_cores (n : Fin 64) (f : Planner → Planner) : (s.modPlan n f).cores = s.cores := rfl
@[simp] theorem modPlan_ps (n : Fin 64) (f : Planner → Planner) : (s.modPlan n f).ps = s.ps := rfl
@[simp] theorem modPlan_house (n : Fin 64) (f : Planner → Planner) : (s.modPlan n f).house = s.house := rfl
@[simp] theorem modPlan_houseArmed (n : Fin 64) (f : Planner → Planner) : (s.modPlan n f).houseArmed = s.houseArmed := rfl
@[simp] theorem modPlan_siteTrig (n : Fin 64) (f : Planner → Planner) : (s.modPlan n f).siteTrig = s.siteTrig := rfl
@[simp] theorem modPlan_feeds (n : Fin 64) (f : Planner → Planner) : (s.modPlan n f).feeds = s.feeds := rfl
@[simp] theorem modPlan_emus (n : Fin 64) (f : Planner → Planner) : (s.modPlan n f).emus = s.emus := rfl
@[simp] theorem modPlan_sfe (n : Fin 64) (f : Planner → Planner) : (s.modPlan n f).sfe = s.sfe := rfl
@[simp] theorem modPlan_lookout (n : Fin 64) (f : Planner → Planner) : (s.modPlan n f).lookout = s.lookout := rfl
@[simp] theorem modPlan_canopy (n : Fin 64) (f : Planner → Planner) : (s.modPlan n f).canopy = s.canopy := rfl
@[simp] theorem modPlan_clock (n : Fin 64) (f : Planner → Planner) : (s.modPlan n f).clock = s.clock := rfl
@[simp] theorem modPlan_spcs (n : Fin 64) (f : Planner → Planner) : (s.modPlan n f).spcs = s.spcs := rfl
@[simp] theorem modPlan_spt (n : Fin 64) (f : Planner → Planner) : (s.modPlan n f).spt = s.spt := rfl
@[simp] theorem modPlan_tap (n : Fin 64) (f : Planner → Planner) : (s.modPlan n f).tap = s.tap := rfl
@[simp] theorem modPlan_perst (n : Fin 64) (f : Planner → Planner) : (s.modPlan n f).perst = s.perst := rfl
@[simp] theorem modPlan_ppsOut (n : Fin 64) (f : Planner → Planner) : (s.modPlan n f).ppsOut = s.ppsOut := rfl
@[simp] theorem modPlan_pending (n : Fin 64) (f : Planner → Planner) : (s.modPlan n f).pending = s.pending := rfl

/-! ### modCur -/

@[simp] theorem modCur_regs (n : Fin 64) (f : CurState → CurState) : (s.modCur n f).regs = s.regs := rfl
@[simp] theorem modCur_mem (n : Fin 64) (f : CurState → CurState) : (s.modCur n f).mem = s.mem := rfl
@[simp] theorem modCur_host (n : Fin 64) (f : CurState → CurState) : (s.modCur n f).host = s.host := rfl
@[simp] theorem modCur_shadows (n : Fin 64) (f : CurState → CurState) : (s.modCur n f).shadows = s.shadows := rfl
@[simp] theorem modCur_holds (n : Fin 64) (f : CurState → CurState) : (s.modCur n f).holds = s.holds := rfl
@[simp] theorem modCur_now (n : Fin 64) (f : CurState → CurState) : (s.modCur n f).now = s.now := rfl
@[simp] theorem modCur_groups (n : Fin 64) (f : CurState → CurState) : (s.modCur n f).groups = s.groups := rfl
@[simp] theorem modCur_hamper (n : Fin 64) (f : CurState → CurState) : (s.modCur n f).hamper = s.hamper := rfl
@[simp] theorem modCur_usfen (n : Fin 64) (f : CurState → CurState) : (s.modCur n f).usfen = s.usfen := rfl
@[simp] theorem modCur_freeCtr (n : Fin 64) (f : CurState → CurState) : (s.modCur n f).freeCtr = s.freeCtr := rfl
@[simp] theorem modCur_readData (n : Fin 64) (f : CurState → CurState) : (s.modCur n f).readData = s.readData := rfl
@[simp] theorem modCur_pinFrom (n : Fin 64) (f : CurState → CurState) : (s.modCur n f).pinFrom = s.pinFrom := rfl
@[simp] theorem modCur_pinHigh (n : Fin 64) (f : CurState → CurState) : (s.modCur n f).pinHigh = s.pinHigh := rfl
@[simp] theorem modCur_hwinEvent (n : Fin 64) (f : CurState → CurState) : (s.modCur n f).hwinEvent = s.hwinEvent := rfl
@[simp] theorem modCur_hwinThrAt (n : Fin 64) (f : CurState → CurState) : (s.modCur n f).hwinThrAt = s.hwinThrAt := rfl
@[simp] theorem modCur_hwinLevel (n : Fin 64) (f : CurState → CurState) : (s.modCur n f).hwinLevel = s.hwinLevel := rfl
@[simp] theorem modCur_cores (n : Fin 64) (f : CurState → CurState) : (s.modCur n f).cores = s.cores := rfl
@[simp] theorem modCur_ps (n : Fin 64) (f : CurState → CurState) : (s.modCur n f).ps = s.ps := rfl
@[simp] theorem modCur_house (n : Fin 64) (f : CurState → CurState) : (s.modCur n f).house = s.house := rfl
@[simp] theorem modCur_houseArmed (n : Fin 64) (f : CurState → CurState) : (s.modCur n f).houseArmed = s.houseArmed := rfl
@[simp] theorem modCur_siteTrig (n : Fin 64) (f : CurState → CurState) : (s.modCur n f).siteTrig = s.siteTrig := rfl
@[simp] theorem modCur_feeds (n : Fin 64) (f : CurState → CurState) : (s.modCur n f).feeds = s.feeds := rfl
@[simp] theorem modCur_emus (n : Fin 64) (f : CurState → CurState) : (s.modCur n f).emus = s.emus := rfl
@[simp] theorem modCur_sfe (n : Fin 64) (f : CurState → CurState) : (s.modCur n f).sfe = s.sfe := rfl
@[simp] theorem modCur_lookout (n : Fin 64) (f : CurState → CurState) : (s.modCur n f).lookout = s.lookout := rfl
@[simp] theorem modCur_canopy (n : Fin 64) (f : CurState → CurState) : (s.modCur n f).canopy = s.canopy := rfl
@[simp] theorem modCur_clock (n : Fin 64) (f : CurState → CurState) : (s.modCur n f).clock = s.clock := rfl
@[simp] theorem modCur_spcs (n : Fin 64) (f : CurState → CurState) : (s.modCur n f).spcs = s.spcs := rfl
@[simp] theorem modCur_spt (n : Fin 64) (f : CurState → CurState) : (s.modCur n f).spt = s.spt := rfl
@[simp] theorem modCur_tap (n : Fin 64) (f : CurState → CurState) : (s.modCur n f).tap = s.tap := rfl
@[simp] theorem modCur_perst (n : Fin 64) (f : CurState → CurState) : (s.modCur n f).perst = s.perst := rfl
@[simp] theorem modCur_ppsOut (n : Fin 64) (f : CurState → CurState) : (s.modCur n f).ppsOut = s.ppsOut := rfl
@[simp] theorem modCur_pending (n : Fin 64) (f : CurState → CurState) : (s.modCur n f).pending = s.pending := rfl

/-! ### modLull -/

@[simp] theorem modLull_regs (n : Fin 64) (f : LullState → LullState) : (s.modLull n f).regs = s.regs := rfl
@[simp] theorem modLull_mem (n : Fin 64) (f : LullState → LullState) : (s.modLull n f).mem = s.mem := rfl
@[simp] theorem modLull_host (n : Fin 64) (f : LullState → LullState) : (s.modLull n f).host = s.host := rfl
@[simp] theorem modLull_shadows (n : Fin 64) (f : LullState → LullState) : (s.modLull n f).shadows = s.shadows := rfl
@[simp] theorem modLull_holds (n : Fin 64) (f : LullState → LullState) : (s.modLull n f).holds = s.holds := rfl
@[simp] theorem modLull_now (n : Fin 64) (f : LullState → LullState) : (s.modLull n f).now = s.now := rfl
@[simp] theorem modLull_groups (n : Fin 64) (f : LullState → LullState) : (s.modLull n f).groups = s.groups := rfl
@[simp] theorem modLull_hamper (n : Fin 64) (f : LullState → LullState) : (s.modLull n f).hamper = s.hamper := rfl
@[simp] theorem modLull_usfen (n : Fin 64) (f : LullState → LullState) : (s.modLull n f).usfen = s.usfen := rfl
@[simp] theorem modLull_freeCtr (n : Fin 64) (f : LullState → LullState) : (s.modLull n f).freeCtr = s.freeCtr := rfl
@[simp] theorem modLull_readData (n : Fin 64) (f : LullState → LullState) : (s.modLull n f).readData = s.readData := rfl
@[simp] theorem modLull_pinFrom (n : Fin 64) (f : LullState → LullState) : (s.modLull n f).pinFrom = s.pinFrom := rfl
@[simp] theorem modLull_pinHigh (n : Fin 64) (f : LullState → LullState) : (s.modLull n f).pinHigh = s.pinHigh := rfl
@[simp] theorem modLull_hwinEvent (n : Fin 64) (f : LullState → LullState) : (s.modLull n f).hwinEvent = s.hwinEvent := rfl
@[simp] theorem modLull_hwinThrAt (n : Fin 64) (f : LullState → LullState) : (s.modLull n f).hwinThrAt = s.hwinThrAt := rfl
@[simp] theorem modLull_hwinLevel (n : Fin 64) (f : LullState → LullState) : (s.modLull n f).hwinLevel = s.hwinLevel := rfl
@[simp] theorem modLull_cores (n : Fin 64) (f : LullState → LullState) : (s.modLull n f).cores = s.cores := rfl
@[simp] theorem modLull_ps (n : Fin 64) (f : LullState → LullState) : (s.modLull n f).ps = s.ps := rfl
@[simp] theorem modLull_house (n : Fin 64) (f : LullState → LullState) : (s.modLull n f).house = s.house := rfl
@[simp] theorem modLull_houseArmed (n : Fin 64) (f : LullState → LullState) : (s.modLull n f).houseArmed = s.houseArmed := rfl
@[simp] theorem modLull_siteTrig (n : Fin 64) (f : LullState → LullState) : (s.modLull n f).siteTrig = s.siteTrig := rfl
@[simp] theorem modLull_feeds (n : Fin 64) (f : LullState → LullState) : (s.modLull n f).feeds = s.feeds := rfl
@[simp] theorem modLull_emus (n : Fin 64) (f : LullState → LullState) : (s.modLull n f).emus = s.emus := rfl
@[simp] theorem modLull_sfe (n : Fin 64) (f : LullState → LullState) : (s.modLull n f).sfe = s.sfe := rfl
@[simp] theorem modLull_lookout (n : Fin 64) (f : LullState → LullState) : (s.modLull n f).lookout = s.lookout := rfl
@[simp] theorem modLull_canopy (n : Fin 64) (f : LullState → LullState) : (s.modLull n f).canopy = s.canopy := rfl
@[simp] theorem modLull_clock (n : Fin 64) (f : LullState → LullState) : (s.modLull n f).clock = s.clock := rfl
@[simp] theorem modLull_spcs (n : Fin 64) (f : LullState → LullState) : (s.modLull n f).spcs = s.spcs := rfl
@[simp] theorem modLull_spt (n : Fin 64) (f : LullState → LullState) : (s.modLull n f).spt = s.spt := rfl
@[simp] theorem modLull_tap (n : Fin 64) (f : LullState → LullState) : (s.modLull n f).tap = s.tap := rfl
@[simp] theorem modLull_perst (n : Fin 64) (f : LullState → LullState) : (s.modLull n f).perst = s.perst := rfl
@[simp] theorem modLull_ppsOut (n : Fin 64) (f : LullState → LullState) : (s.modLull n f).ppsOut = s.ppsOut := rfl
@[simp] theorem modLull_pending (n : Fin 64) (f : LullState → LullState) : (s.modLull n f).pending = s.pending := rfl

/-! ### modSd -/

@[simp] theorem modSd_regs (n : Fin 64) (f : Sundial → Sundial) : (s.modSd n f).regs = s.regs := rfl
@[simp] theorem modSd_mem (n : Fin 64) (f : Sundial → Sundial) : (s.modSd n f).mem = s.mem := rfl
@[simp] theorem modSd_host (n : Fin 64) (f : Sundial → Sundial) : (s.modSd n f).host = s.host := rfl
@[simp] theorem modSd_shadows (n : Fin 64) (f : Sundial → Sundial) : (s.modSd n f).shadows = s.shadows := rfl
@[simp] theorem modSd_holds (n : Fin 64) (f : Sundial → Sundial) : (s.modSd n f).holds = s.holds := rfl
@[simp] theorem modSd_now (n : Fin 64) (f : Sundial → Sundial) : (s.modSd n f).now = s.now := rfl
@[simp] theorem modSd_groups (n : Fin 64) (f : Sundial → Sundial) : (s.modSd n f).groups = s.groups := rfl
@[simp] theorem modSd_hamper (n : Fin 64) (f : Sundial → Sundial) : (s.modSd n f).hamper = s.hamper := rfl
@[simp] theorem modSd_usfen (n : Fin 64) (f : Sundial → Sundial) : (s.modSd n f).usfen = s.usfen := rfl
@[simp] theorem modSd_freeCtr (n : Fin 64) (f : Sundial → Sundial) : (s.modSd n f).freeCtr = s.freeCtr := rfl
@[simp] theorem modSd_readData (n : Fin 64) (f : Sundial → Sundial) : (s.modSd n f).readData = s.readData := rfl
@[simp] theorem modSd_pinFrom (n : Fin 64) (f : Sundial → Sundial) : (s.modSd n f).pinFrom = s.pinFrom := rfl
@[simp] theorem modSd_pinHigh (n : Fin 64) (f : Sundial → Sundial) : (s.modSd n f).pinHigh = s.pinHigh := rfl
@[simp] theorem modSd_hwinEvent (n : Fin 64) (f : Sundial → Sundial) : (s.modSd n f).hwinEvent = s.hwinEvent := rfl
@[simp] theorem modSd_hwinThrAt (n : Fin 64) (f : Sundial → Sundial) : (s.modSd n f).hwinThrAt = s.hwinThrAt := rfl
@[simp] theorem modSd_hwinLevel (n : Fin 64) (f : Sundial → Sundial) : (s.modSd n f).hwinLevel = s.hwinLevel := rfl
@[simp] theorem modSd_cores (n : Fin 64) (f : Sundial → Sundial) : (s.modSd n f).cores = s.cores := rfl
@[simp] theorem modSd_ps (n : Fin 64) (f : Sundial → Sundial) : (s.modSd n f).ps = s.ps := rfl
@[simp] theorem modSd_house (n : Fin 64) (f : Sundial → Sundial) : (s.modSd n f).house = s.house := rfl
@[simp] theorem modSd_houseArmed (n : Fin 64) (f : Sundial → Sundial) : (s.modSd n f).houseArmed = s.houseArmed := rfl
@[simp] theorem modSd_siteTrig (n : Fin 64) (f : Sundial → Sundial) : (s.modSd n f).siteTrig = s.siteTrig := rfl
@[simp] theorem modSd_feeds (n : Fin 64) (f : Sundial → Sundial) : (s.modSd n f).feeds = s.feeds := rfl
@[simp] theorem modSd_emus (n : Fin 64) (f : Sundial → Sundial) : (s.modSd n f).emus = s.emus := rfl
@[simp] theorem modSd_sfe (n : Fin 64) (f : Sundial → Sundial) : (s.modSd n f).sfe = s.sfe := rfl
@[simp] theorem modSd_lookout (n : Fin 64) (f : Sundial → Sundial) : (s.modSd n f).lookout = s.lookout := rfl
@[simp] theorem modSd_canopy (n : Fin 64) (f : Sundial → Sundial) : (s.modSd n f).canopy = s.canopy := rfl
@[simp] theorem modSd_clock (n : Fin 64) (f : Sundial → Sundial) : (s.modSd n f).clock = s.clock := rfl
@[simp] theorem modSd_spcs (n : Fin 64) (f : Sundial → Sundial) : (s.modSd n f).spcs = s.spcs := rfl
@[simp] theorem modSd_spt (n : Fin 64) (f : Sundial → Sundial) : (s.modSd n f).spt = s.spt := rfl
@[simp] theorem modSd_tap (n : Fin 64) (f : Sundial → Sundial) : (s.modSd n f).tap = s.tap := rfl
@[simp] theorem modSd_perst (n : Fin 64) (f : Sundial → Sundial) : (s.modSd n f).perst = s.perst := rfl
@[simp] theorem modSd_ppsOut (n : Fin 64) (f : Sundial → Sundial) : (s.modSd n f).ppsOut = s.ppsOut := rfl
@[simp] theorem modSd_pending (n : Fin 64) (f : Sundial → Sundial) : (s.modSd n f).pending = s.pending := rfl

/-! ### modForce -/

@[simp] theorem modForce_regs (n : Fin 64) (f : Force → Force) : (s.modForce n f).regs = s.regs := rfl
@[simp] theorem modForce_mem (n : Fin 64) (f : Force → Force) : (s.modForce n f).mem = s.mem := rfl
@[simp] theorem modForce_host (n : Fin 64) (f : Force → Force) : (s.modForce n f).host = s.host := rfl
@[simp] theorem modForce_shadows (n : Fin 64) (f : Force → Force) : (s.modForce n f).shadows = s.shadows := rfl
@[simp] theorem modForce_holds (n : Fin 64) (f : Force → Force) : (s.modForce n f).holds = s.holds := rfl
@[simp] theorem modForce_now (n : Fin 64) (f : Force → Force) : (s.modForce n f).now = s.now := rfl
@[simp] theorem modForce_groups (n : Fin 64) (f : Force → Force) : (s.modForce n f).groups = s.groups := rfl
@[simp] theorem modForce_hamper (n : Fin 64) (f : Force → Force) : (s.modForce n f).hamper = s.hamper := rfl
@[simp] theorem modForce_usfen (n : Fin 64) (f : Force → Force) : (s.modForce n f).usfen = s.usfen := rfl
@[simp] theorem modForce_freeCtr (n : Fin 64) (f : Force → Force) : (s.modForce n f).freeCtr = s.freeCtr := rfl
@[simp] theorem modForce_readData (n : Fin 64) (f : Force → Force) : (s.modForce n f).readData = s.readData := rfl
@[simp] theorem modForce_pinFrom (n : Fin 64) (f : Force → Force) : (s.modForce n f).pinFrom = s.pinFrom := rfl
@[simp] theorem modForce_pinHigh (n : Fin 64) (f : Force → Force) : (s.modForce n f).pinHigh = s.pinHigh := rfl
@[simp] theorem modForce_hwinEvent (n : Fin 64) (f : Force → Force) : (s.modForce n f).hwinEvent = s.hwinEvent := rfl
@[simp] theorem modForce_hwinThrAt (n : Fin 64) (f : Force → Force) : (s.modForce n f).hwinThrAt = s.hwinThrAt := rfl
@[simp] theorem modForce_hwinLevel (n : Fin 64) (f : Force → Force) : (s.modForce n f).hwinLevel = s.hwinLevel := rfl
@[simp] theorem modForce_cores (n : Fin 64) (f : Force → Force) : (s.modForce n f).cores = s.cores := rfl
@[simp] theorem modForce_ps (n : Fin 64) (f : Force → Force) : (s.modForce n f).ps = s.ps := rfl
@[simp] theorem modForce_house (n : Fin 64) (f : Force → Force) : (s.modForce n f).house = s.house := rfl
@[simp] theorem modForce_houseArmed (n : Fin 64) (f : Force → Force) : (s.modForce n f).houseArmed = s.houseArmed := rfl
@[simp] theorem modForce_siteTrig (n : Fin 64) (f : Force → Force) : (s.modForce n f).siteTrig = s.siteTrig := rfl
@[simp] theorem modForce_feeds (n : Fin 64) (f : Force → Force) : (s.modForce n f).feeds = s.feeds := rfl
@[simp] theorem modForce_emus (n : Fin 64) (f : Force → Force) : (s.modForce n f).emus = s.emus := rfl
@[simp] theorem modForce_sfe (n : Fin 64) (f : Force → Force) : (s.modForce n f).sfe = s.sfe := rfl
@[simp] theorem modForce_lookout (n : Fin 64) (f : Force → Force) : (s.modForce n f).lookout = s.lookout := rfl
@[simp] theorem modForce_canopy (n : Fin 64) (f : Force → Force) : (s.modForce n f).canopy = s.canopy := rfl
@[simp] theorem modForce_clock (n : Fin 64) (f : Force → Force) : (s.modForce n f).clock = s.clock := rfl
@[simp] theorem modForce_spcs (n : Fin 64) (f : Force → Force) : (s.modForce n f).spcs = s.spcs := rfl
@[simp] theorem modForce_spt (n : Fin 64) (f : Force → Force) : (s.modForce n f).spt = s.spt := rfl
@[simp] theorem modForce_tap (n : Fin 64) (f : Force → Force) : (s.modForce n f).tap = s.tap := rfl
@[simp] theorem modForce_perst (n : Fin 64) (f : Force → Force) : (s.modForce n f).perst = s.perst := rfl
@[simp] theorem modForce_ppsOut (n : Fin 64) (f : Force → Force) : (s.modForce n f).ppsOut = s.ppsOut := rfl
@[simp] theorem modForce_pending (n : Fin 64) (f : Force → Force) : (s.modForce n f).pending = s.pending := rfl

/-! ### modLegs -/

@[simp] theorem modLegs_regs (n : Fin 64) (f : Legs → Legs) : (s.modLegs n f).regs = s.regs := rfl
@[simp] theorem modLegs_mem (n : Fin 64) (f : Legs → Legs) : (s.modLegs n f).mem = s.mem := rfl
@[simp] theorem modLegs_host (n : Fin 64) (f : Legs → Legs) : (s.modLegs n f).host = s.host := rfl
@[simp] theorem modLegs_shadows (n : Fin 64) (f : Legs → Legs) : (s.modLegs n f).shadows = s.shadows := rfl
@[simp] theorem modLegs_holds (n : Fin 64) (f : Legs → Legs) : (s.modLegs n f).holds = s.holds := rfl
@[simp] theorem modLegs_now (n : Fin 64) (f : Legs → Legs) : (s.modLegs n f).now = s.now := rfl
@[simp] theorem modLegs_groups (n : Fin 64) (f : Legs → Legs) : (s.modLegs n f).groups = s.groups := rfl
@[simp] theorem modLegs_hamper (n : Fin 64) (f : Legs → Legs) : (s.modLegs n f).hamper = s.hamper := rfl
@[simp] theorem modLegs_usfen (n : Fin 64) (f : Legs → Legs) : (s.modLegs n f).usfen = s.usfen := rfl
@[simp] theorem modLegs_freeCtr (n : Fin 64) (f : Legs → Legs) : (s.modLegs n f).freeCtr = s.freeCtr := rfl
@[simp] theorem modLegs_readData (n : Fin 64) (f : Legs → Legs) : (s.modLegs n f).readData = s.readData := rfl
@[simp] theorem modLegs_pinFrom (n : Fin 64) (f : Legs → Legs) : (s.modLegs n f).pinFrom = s.pinFrom := rfl
@[simp] theorem modLegs_pinHigh (n : Fin 64) (f : Legs → Legs) : (s.modLegs n f).pinHigh = s.pinHigh := rfl
@[simp] theorem modLegs_hwinEvent (n : Fin 64) (f : Legs → Legs) : (s.modLegs n f).hwinEvent = s.hwinEvent := rfl
@[simp] theorem modLegs_hwinThrAt (n : Fin 64) (f : Legs → Legs) : (s.modLegs n f).hwinThrAt = s.hwinThrAt := rfl
@[simp] theorem modLegs_hwinLevel (n : Fin 64) (f : Legs → Legs) : (s.modLegs n f).hwinLevel = s.hwinLevel := rfl
@[simp] theorem modLegs_cores (n : Fin 64) (f : Legs → Legs) : (s.modLegs n f).cores = s.cores := rfl
@[simp] theorem modLegs_ps (n : Fin 64) (f : Legs → Legs) : (s.modLegs n f).ps = s.ps := rfl
@[simp] theorem modLegs_house (n : Fin 64) (f : Legs → Legs) : (s.modLegs n f).house = s.house := rfl
@[simp] theorem modLegs_houseArmed (n : Fin 64) (f : Legs → Legs) : (s.modLegs n f).houseArmed = s.houseArmed := rfl
@[simp] theorem modLegs_siteTrig (n : Fin 64) (f : Legs → Legs) : (s.modLegs n f).siteTrig = s.siteTrig := rfl
@[simp] theorem modLegs_feeds (n : Fin 64) (f : Legs → Legs) : (s.modLegs n f).feeds = s.feeds := rfl
@[simp] theorem modLegs_emus (n : Fin 64) (f : Legs → Legs) : (s.modLegs n f).emus = s.emus := rfl
@[simp] theorem modLegs_sfe (n : Fin 64) (f : Legs → Legs) : (s.modLegs n f).sfe = s.sfe := rfl
@[simp] theorem modLegs_lookout (n : Fin 64) (f : Legs → Legs) : (s.modLegs n f).lookout = s.lookout := rfl
@[simp] theorem modLegs_canopy (n : Fin 64) (f : Legs → Legs) : (s.modLegs n f).canopy = s.canopy := rfl
@[simp] theorem modLegs_clock (n : Fin 64) (f : Legs → Legs) : (s.modLegs n f).clock = s.clock := rfl
@[simp] theorem modLegs_spcs (n : Fin 64) (f : Legs → Legs) : (s.modLegs n f).spcs = s.spcs := rfl
@[simp] theorem modLegs_spt (n : Fin 64) (f : Legs → Legs) : (s.modLegs n f).spt = s.spt := rfl
@[simp] theorem modLegs_tap (n : Fin 64) (f : Legs → Legs) : (s.modLegs n f).tap = s.tap := rfl
@[simp] theorem modLegs_perst (n : Fin 64) (f : Legs → Legs) : (s.modLegs n f).perst = s.perst := rfl
@[simp] theorem modLegs_ppsOut (n : Fin 64) (f : Legs → Legs) : (s.modLegs n f).ppsOut = s.ppsOut := rfl
@[simp] theorem modLegs_pending (n : Fin 64) (f : Legs → Legs) : (s.modLegs n f).pending = s.pending := rfl

/-! ### setByte -/

@[simp] theorem setByte_regs (a : Nat) (b : Byte) : (s.setByte a b).regs = s.regs := rfl
@[simp] theorem setByte_mem (a : Nat) (b : Byte) : (s.setByte a b).mem = sparsePut 0 a b s.mem := rfl
@[simp] theorem setByte_host (a : Nat) (b : Byte) : (s.setByte a b).host = s.host := rfl
@[simp] theorem setByte_shadows (a : Nat) (b : Byte) : (s.setByte a b).shadows = s.shadows := rfl
@[simp] theorem setByte_holds (a : Nat) (b : Byte) : (s.setByte a b).holds = s.holds := rfl
@[simp] theorem setByte_now (a : Nat) (b : Byte) : (s.setByte a b).now = s.now := rfl
@[simp] theorem setByte_tiles (a : Nat) (b : Byte) : (s.setByte a b).tiles = s.tiles := rfl
@[simp] theorem setByte_groups (a : Nat) (b : Byte) : (s.setByte a b).groups = s.groups := rfl
@[simp] theorem setByte_hamper (a : Nat) (b : Byte) : (s.setByte a b).hamper = s.hamper := rfl
@[simp] theorem setByte_usfen (a : Nat) (b : Byte) : (s.setByte a b).usfen = s.usfen := rfl
@[simp] theorem setByte_freeCtr (a : Nat) (b : Byte) : (s.setByte a b).freeCtr = s.freeCtr := rfl
@[simp] theorem setByte_readData (a : Nat) (b : Byte) : (s.setByte a b).readData = s.readData := rfl
@[simp] theorem setByte_pinFrom (a : Nat) (b : Byte) : (s.setByte a b).pinFrom = s.pinFrom := rfl
@[simp] theorem setByte_pinHigh (a : Nat) (b : Byte) : (s.setByte a b).pinHigh = s.pinHigh := rfl
@[simp] theorem setByte_hwinEvent (a : Nat) (b : Byte) : (s.setByte a b).hwinEvent = s.hwinEvent := rfl
@[simp] theorem setByte_hwinThrAt (a : Nat) (b : Byte) : (s.setByte a b).hwinThrAt = s.hwinThrAt := rfl
@[simp] theorem setByte_hwinLevel (a : Nat) (b : Byte) : (s.setByte a b).hwinLevel = s.hwinLevel := rfl
@[simp] theorem setByte_cores (a : Nat) (b : Byte) : (s.setByte a b).cores = s.cores := rfl
@[simp] theorem setByte_ps (a : Nat) (b : Byte) : (s.setByte a b).ps = s.ps := rfl
@[simp] theorem setByte_house (a : Nat) (b : Byte) : (s.setByte a b).house = s.house := rfl
@[simp] theorem setByte_houseArmed (a : Nat) (b : Byte) : (s.setByte a b).houseArmed = s.houseArmed := rfl
@[simp] theorem setByte_siteTrig (a : Nat) (b : Byte) : (s.setByte a b).siteTrig = s.siteTrig := rfl
@[simp] theorem setByte_feeds (a : Nat) (b : Byte) : (s.setByte a b).feeds = s.feeds := rfl
@[simp] theorem setByte_emus (a : Nat) (b : Byte) : (s.setByte a b).emus = s.emus := rfl
@[simp] theorem setByte_sfe (a : Nat) (b : Byte) : (s.setByte a b).sfe = s.sfe := rfl
@[simp] theorem setByte_lookout (a : Nat) (b : Byte) : (s.setByte a b).lookout = s.lookout := rfl
@[simp] theorem setByte_canopy (a : Nat) (b : Byte) : (s.setByte a b).canopy = s.canopy := rfl
@[simp] theorem setByte_clock (a : Nat) (b : Byte) : (s.setByte a b).clock = s.clock := rfl
@[simp] theorem setByte_spcs (a : Nat) (b : Byte) : (s.setByte a b).spcs = s.spcs := rfl
@[simp] theorem setByte_spt (a : Nat) (b : Byte) : (s.setByte a b).spt = s.spt := rfl
@[simp] theorem setByte_tap (a : Nat) (b : Byte) : (s.setByte a b).tap = s.tap := rfl
@[simp] theorem setByte_perst (a : Nat) (b : Byte) : (s.setByte a b).perst = s.perst := rfl
@[simp] theorem setByte_ppsOut (a : Nat) (b : Byte) : (s.setByte a b).ppsOut = s.ppsOut := rfl
@[simp] theorem setByte_pending (a : Nat) (b : Byte) : (s.setByte a b).pending = s.pending := rfl

/-! ### setPort -/

@[simp] theorem setPort_regs (p : Fin 4) (q : Port) : (s.setPort p q).regs = s.regs := rfl
@[simp] theorem setPort_mem (p : Fin 4) (q : Port) : (s.setPort p q).mem = s.mem := rfl
@[simp] theorem setPort_host (p : Fin 4) (q : Port) : (s.setPort p q).host = s.host := rfl
@[simp] theorem setPort_shadows (p : Fin 4) (q : Port) : (s.setPort p q).shadows = s.shadows := rfl
@[simp] theorem setPort_holds (p : Fin 4) (q : Port) : (s.setPort p q).holds = s.holds := rfl
@[simp] theorem setPort_now (p : Fin 4) (q : Port) : (s.setPort p q).now = s.now := rfl
@[simp] theorem setPort_tiles (p : Fin 4) (q : Port) : (s.setPort p q).tiles = s.tiles := rfl
@[simp] theorem setPort_groups (p : Fin 4) (q : Port) : (s.setPort p q).groups = s.groups := rfl
@[simp] theorem setPort_hamper (p : Fin 4) (q : Port) : (s.setPort p q).hamper = s.hamper := rfl
@[simp] theorem setPort_freeCtr (p : Fin 4) (q : Port) : (s.setPort p q).freeCtr = s.freeCtr := rfl
@[simp] theorem setPort_readData (p : Fin 4) (q : Port) : (s.setPort p q).readData = s.readData := rfl
@[simp] theorem setPort_pinFrom (p : Fin 4) (q : Port) : (s.setPort p q).pinFrom = s.pinFrom := rfl
@[simp] theorem setPort_pinHigh (p : Fin 4) (q : Port) : (s.setPort p q).pinHigh = s.pinHigh := rfl
@[simp] theorem setPort_hwinEvent (p : Fin 4) (q : Port) : (s.setPort p q).hwinEvent = s.hwinEvent := rfl
@[simp] theorem setPort_hwinThrAt (p : Fin 4) (q : Port) : (s.setPort p q).hwinThrAt = s.hwinThrAt := rfl
@[simp] theorem setPort_hwinLevel (p : Fin 4) (q : Port) : (s.setPort p q).hwinLevel = s.hwinLevel := rfl
@[simp] theorem setPort_cores (p : Fin 4) (q : Port) : (s.setPort p q).cores = s.cores := rfl
@[simp] theorem setPort_ps (p : Fin 4) (q : Port) : (s.setPort p q).ps = s.ps := rfl
@[simp] theorem setPort_house (p : Fin 4) (q : Port) : (s.setPort p q).house = s.house := rfl
@[simp] theorem setPort_houseArmed (p : Fin 4) (q : Port) : (s.setPort p q).houseArmed = s.houseArmed := rfl
@[simp] theorem setPort_siteTrig (p : Fin 4) (q : Port) : (s.setPort p q).siteTrig = s.siteTrig := rfl
@[simp] theorem setPort_feeds (p : Fin 4) (q : Port) : (s.setPort p q).feeds = s.feeds := rfl
@[simp] theorem setPort_emus (p : Fin 4) (q : Port) : (s.setPort p q).emus = s.emus := rfl
@[simp] theorem setPort_sfe (p : Fin 4) (q : Port) : (s.setPort p q).sfe = s.sfe := rfl
@[simp] theorem setPort_lookout (p : Fin 4) (q : Port) : (s.setPort p q).lookout = s.lookout := rfl
@[simp] theorem setPort_canopy (p : Fin 4) (q : Port) : (s.setPort p q).canopy = s.canopy := rfl
@[simp] theorem setPort_clock (p : Fin 4) (q : Port) : (s.setPort p q).clock = s.clock := rfl
@[simp] theorem setPort_spcs (p : Fin 4) (q : Port) : (s.setPort p q).spcs = s.spcs := rfl
@[simp] theorem setPort_spt (p : Fin 4) (q : Port) : (s.setPort p q).spt = s.spt := rfl
@[simp] theorem setPort_tap (p : Fin 4) (q : Port) : (s.setPort p q).tap = s.tap := rfl
@[simp] theorem setPort_perst (p : Fin 4) (q : Port) : (s.setPort p q).perst = s.perst := rfl
@[simp] theorem setPort_ppsOut (p : Fin 4) (q : Port) : (s.setPort p q).ppsOut = s.ppsOut := rfl
@[simp] theorem setPort_pending (p : Fin 4) (q : Port) : (s.setPort p q).pending = s.pending := rfl

/-! ### setGroup -/

@[simp] theorem setGroup_regs (k : Nat) (g : Option GroupSlot) : (s.setGroup k g).regs = s.regs := by unfold setGroup; split <;> rfl
@[simp] theorem setGroup_mem (k : Nat) (g : Option GroupSlot) : (s.setGroup k g).mem = s.mem := by unfold setGroup; split <;> rfl
@[simp] theorem setGroup_host (k : Nat) (g : Option GroupSlot) : (s.setGroup k g).host = s.host := by unfold setGroup; split <;> rfl
@[simp] theorem setGroup_shadows (k : Nat) (g : Option GroupSlot) : (s.setGroup k g).shadows = s.shadows := by unfold setGroup; split <;> rfl
@[simp] theorem setGroup_holds (k : Nat) (g : Option GroupSlot) : (s.setGroup k g).holds = s.holds := by unfold setGroup; split <;> rfl
@[simp] theorem setGroup_now (k : Nat) (g : Option GroupSlot) : (s.setGroup k g).now = s.now := by unfold setGroup; split <;> rfl
@[simp] theorem setGroup_tiles (k : Nat) (g : Option GroupSlot) : (s.setGroup k g).tiles = s.tiles := by unfold setGroup; split <;> rfl
@[simp] theorem setGroup_hamper (k : Nat) (g : Option GroupSlot) : (s.setGroup k g).hamper = s.hamper := by unfold setGroup; split <;> rfl
@[simp] theorem setGroup_usfen (k : Nat) (g : Option GroupSlot) : (s.setGroup k g).usfen = s.usfen := by unfold setGroup; split <;> rfl
@[simp] theorem setGroup_freeCtr (k : Nat) (g : Option GroupSlot) : (s.setGroup k g).freeCtr = s.freeCtr := by unfold setGroup; split <;> rfl
@[simp] theorem setGroup_readData (k : Nat) (g : Option GroupSlot) : (s.setGroup k g).readData = s.readData := by unfold setGroup; split <;> rfl
@[simp] theorem setGroup_pinFrom (k : Nat) (g : Option GroupSlot) : (s.setGroup k g).pinFrom = s.pinFrom := by unfold setGroup; split <;> rfl
@[simp] theorem setGroup_pinHigh (k : Nat) (g : Option GroupSlot) : (s.setGroup k g).pinHigh = s.pinHigh := by unfold setGroup; split <;> rfl
@[simp] theorem setGroup_hwinEvent (k : Nat) (g : Option GroupSlot) : (s.setGroup k g).hwinEvent = s.hwinEvent := by unfold setGroup; split <;> rfl
@[simp] theorem setGroup_hwinThrAt (k : Nat) (g : Option GroupSlot) : (s.setGroup k g).hwinThrAt = s.hwinThrAt := by unfold setGroup; split <;> rfl
@[simp] theorem setGroup_hwinLevel (k : Nat) (g : Option GroupSlot) : (s.setGroup k g).hwinLevel = s.hwinLevel := by unfold setGroup; split <;> rfl
@[simp] theorem setGroup_cores (k : Nat) (g : Option GroupSlot) : (s.setGroup k g).cores = s.cores := by unfold setGroup; split <;> rfl
@[simp] theorem setGroup_ps (k : Nat) (g : Option GroupSlot) : (s.setGroup k g).ps = s.ps := by unfold setGroup; split <;> rfl
@[simp] theorem setGroup_house (k : Nat) (g : Option GroupSlot) : (s.setGroup k g).house = s.house := by unfold setGroup; split <;> rfl
@[simp] theorem setGroup_houseArmed (k : Nat) (g : Option GroupSlot) : (s.setGroup k g).houseArmed = s.houseArmed := by unfold setGroup; split <;> rfl
@[simp] theorem setGroup_siteTrig (k : Nat) (g : Option GroupSlot) : (s.setGroup k g).siteTrig = s.siteTrig := by unfold setGroup; split <;> rfl
@[simp] theorem setGroup_feeds (k : Nat) (g : Option GroupSlot) : (s.setGroup k g).feeds = s.feeds := by unfold setGroup; split <;> rfl
@[simp] theorem setGroup_emus (k : Nat) (g : Option GroupSlot) : (s.setGroup k g).emus = s.emus := by unfold setGroup; split <;> rfl
@[simp] theorem setGroup_sfe (k : Nat) (g : Option GroupSlot) : (s.setGroup k g).sfe = s.sfe := by unfold setGroup; split <;> rfl
@[simp] theorem setGroup_lookout (k : Nat) (g : Option GroupSlot) : (s.setGroup k g).lookout = s.lookout := by unfold setGroup; split <;> rfl
@[simp] theorem setGroup_canopy (k : Nat) (g : Option GroupSlot) : (s.setGroup k g).canopy = s.canopy := by unfold setGroup; split <;> rfl
@[simp] theorem setGroup_clock (k : Nat) (g : Option GroupSlot) : (s.setGroup k g).clock = s.clock := by unfold setGroup; split <;> rfl
@[simp] theorem setGroup_spcs (k : Nat) (g : Option GroupSlot) : (s.setGroup k g).spcs = s.spcs := by unfold setGroup; split <;> rfl
@[simp] theorem setGroup_spt (k : Nat) (g : Option GroupSlot) : (s.setGroup k g).spt = s.spt := by unfold setGroup; split <;> rfl
@[simp] theorem setGroup_tap (k : Nat) (g : Option GroupSlot) : (s.setGroup k g).tap = s.tap := by unfold setGroup; split <;> rfl
@[simp] theorem setGroup_perst (k : Nat) (g : Option GroupSlot) : (s.setGroup k g).perst = s.perst := by unfold setGroup; split <;> rfl
@[simp] theorem setGroup_ppsOut (k : Nat) (g : Option GroupSlot) : (s.setGroup k g).ppsOut = s.ppsOut := by unfold setGroup; split <;> rfl
@[simp] theorem setGroup_pending (k : Nat) (g : Option GroupSlot) : (s.setGroup k g).pending = s.pending := by unfold setGroup; split <;> rfl

/-! ### setCore -/

@[simp] theorem setCore_mem (k : Fin 66) (c : Core) : (s.setCore k c).mem = s.mem := by
  unfold setCore; dsimp only; split
  · rw [setFlag_mem, setFlag_mem, set_mem, set_mem]
  · rfl
@[simp] theorem setCore_host (k : Fin 66) (c : Core) : (s.setCore k c).host = s.host := by
  unfold setCore; dsimp only; split
  · rw [setFlag_host, setFlag_host, set_host, set_host]
  · rfl
@[simp] theorem setCore_shadows (k : Fin 66) (c : Core) : (s.setCore k c).shadows = s.shadows := by
  unfold setCore; dsimp only; split
  · rw [setFlag_shadows, setFlag_shadows, set_shadows, set_shadows]
  · rfl
@[simp] theorem setCore_holds (k : Fin 66) (c : Core) : (s.setCore k c).holds = s.holds := by
  unfold setCore; dsimp only; split
  · rw [setFlag_holds, setFlag_holds, set_holds, set_holds]
  · rfl
@[simp] theorem setCore_now (k : Fin 66) (c : Core) : (s.setCore k c).now = s.now := by
  unfold setCore; dsimp only; split
  · rw [setFlag_now, setFlag_now, set_now, set_now]
  · rfl
@[simp] theorem setCore_tiles (k : Fin 66) (c : Core) : (s.setCore k c).tiles = s.tiles := by
  unfold setCore; dsimp only; split
  · rw [setFlag_tiles, setFlag_tiles, set_tiles, set_tiles]
  · rfl
@[simp] theorem setCore_groups (k : Fin 66) (c : Core) : (s.setCore k c).groups = s.groups := by
  unfold setCore; dsimp only; split
  · rw [setFlag_groups, setFlag_groups, set_groups, set_groups]
  · rfl
@[simp] theorem setCore_hamper (k : Fin 66) (c : Core) : (s.setCore k c).hamper = s.hamper := by
  unfold setCore; dsimp only; split
  · rw [setFlag_hamper, setFlag_hamper, set_hamper, set_hamper]
  · rfl
@[simp] theorem setCore_usfen (k : Fin 66) (c : Core) : (s.setCore k c).usfen = s.usfen := by
  unfold setCore; dsimp only; split
  · rw [setFlag_usfen, setFlag_usfen, set_usfen, set_usfen]
  · rfl
@[simp] theorem setCore_freeCtr (k : Fin 66) (c : Core) : (s.setCore k c).freeCtr = s.freeCtr := by
  unfold setCore; dsimp only; split
  · rw [setFlag_freeCtr, setFlag_freeCtr, set_freeCtr, set_freeCtr]
  · rfl
@[simp] theorem setCore_readData (k : Fin 66) (c : Core) : (s.setCore k c).readData = s.readData := by
  unfold setCore; dsimp only; split
  · rw [setFlag_readData, setFlag_readData, set_readData, set_readData]
  · rfl
@[simp] theorem setCore_pinFrom (k : Fin 66) (c : Core) : (s.setCore k c).pinFrom = s.pinFrom := by
  unfold setCore; dsimp only; split
  · rw [setFlag_pinFrom, setFlag_pinFrom, set_pinFrom, set_pinFrom]
  · rfl
@[simp] theorem setCore_pinHigh (k : Fin 66) (c : Core) : (s.setCore k c).pinHigh = s.pinHigh := by
  unfold setCore; dsimp only; split
  · rw [setFlag_pinHigh, setFlag_pinHigh, set_pinHigh, set_pinHigh]
  · rfl
@[simp] theorem setCore_hwinEvent (k : Fin 66) (c : Core) : (s.setCore k c).hwinEvent = s.hwinEvent := by
  unfold setCore; dsimp only; split
  · rw [setFlag_hwinEvent, setFlag_hwinEvent, set_hwinEvent, set_hwinEvent]
  · rfl
@[simp] theorem setCore_hwinThrAt (k : Fin 66) (c : Core) : (s.setCore k c).hwinThrAt = s.hwinThrAt := by
  unfold setCore; dsimp only; split
  · rw [setFlag_hwinThrAt, setFlag_hwinThrAt, set_hwinThrAt, set_hwinThrAt]
  · rfl
@[simp] theorem setCore_hwinLevel (k : Fin 66) (c : Core) : (s.setCore k c).hwinLevel = s.hwinLevel := by
  unfold setCore; dsimp only; split
  · rw [setFlag_hwinLevel, setFlag_hwinLevel, set_hwinLevel, set_hwinLevel]
  · rfl
@[simp] theorem setCore_ps (k : Fin 66) (c : Core) : (s.setCore k c).ps = s.ps := by
  unfold setCore; dsimp only; split
  · rw [setFlag_ps, setFlag_ps, set_ps, set_ps]
  · rfl
@[simp] theorem setCore_house (k : Fin 66) (c : Core) : (s.setCore k c).house = s.house := by
  unfold setCore; dsimp only; split
  · rw [setFlag_house, setFlag_house, set_house, set_house]
  · rfl
@[simp] theorem setCore_houseArmed (k : Fin 66) (c : Core) : (s.setCore k c).houseArmed = s.houseArmed := by
  unfold setCore; dsimp only; split
  · rw [setFlag_houseArmed, setFlag_houseArmed, set_houseArmed, set_houseArmed]
  · rfl
@[simp] theorem setCore_siteTrig (k : Fin 66) (c : Core) : (s.setCore k c).siteTrig = s.siteTrig := by
  unfold setCore; dsimp only; split
  · rw [setFlag_siteTrig, setFlag_siteTrig, set_siteTrig, set_siteTrig]
  · rfl
@[simp] theorem setCore_feeds (k : Fin 66) (c : Core) : (s.setCore k c).feeds = s.feeds := by
  unfold setCore; dsimp only; split
  · rw [setFlag_feeds, setFlag_feeds, set_feeds, set_feeds]
  · rfl
@[simp] theorem setCore_emus (k : Fin 66) (c : Core) : (s.setCore k c).emus = s.emus := by
  unfold setCore; dsimp only; split
  · rw [setFlag_emus, setFlag_emus, set_emus, set_emus]
  · rfl
@[simp] theorem setCore_sfe (k : Fin 66) (c : Core) : (s.setCore k c).sfe = s.sfe := by
  unfold setCore; dsimp only; split
  · rw [setFlag_sfe, setFlag_sfe, set_sfe, set_sfe]
  · rfl
@[simp] theorem setCore_lookout (k : Fin 66) (c : Core) : (s.setCore k c).lookout = s.lookout := by
  unfold setCore; dsimp only; split
  · rw [setFlag_lookout, setFlag_lookout, set_lookout, set_lookout]
  · rfl
@[simp] theorem setCore_canopy (k : Fin 66) (c : Core) : (s.setCore k c).canopy = s.canopy := by
  unfold setCore; dsimp only; split
  · rw [setFlag_canopy, setFlag_canopy, set_canopy, set_canopy]
  · rfl
@[simp] theorem setCore_clock (k : Fin 66) (c : Core) : (s.setCore k c).clock = s.clock := by
  unfold setCore; dsimp only; split
  · rw [setFlag_clock, setFlag_clock, set_clock, set_clock]
  · rfl
@[simp] theorem setCore_spcs (k : Fin 66) (c : Core) : (s.setCore k c).spcs = s.spcs := by
  unfold setCore; dsimp only; split
  · rw [setFlag_spcs, setFlag_spcs, set_spcs, set_spcs]
  · rfl
@[simp] theorem setCore_spt (k : Fin 66) (c : Core) : (s.setCore k c).spt = s.spt := by
  unfold setCore; dsimp only; split
  · rw [setFlag_spt, setFlag_spt, set_spt, set_spt]
  · rfl
@[simp] theorem setCore_tap (k : Fin 66) (c : Core) : (s.setCore k c).tap = s.tap := by
  unfold setCore; dsimp only; split
  · rw [setFlag_tap, setFlag_tap, set_tap, set_tap]
  · rfl
@[simp] theorem setCore_perst (k : Fin 66) (c : Core) : (s.setCore k c).perst = s.perst := by
  unfold setCore; dsimp only; split
  · rw [setFlag_perst, setFlag_perst, set_perst, set_perst]
  · rfl
@[simp] theorem setCore_ppsOut (k : Fin 66) (c : Core) : (s.setCore k c).ppsOut = s.ppsOut := by
  unfold setCore; dsimp only; split
  · rw [setFlag_ppsOut, setFlag_ppsOut, set_ppsOut, set_ppsOut]
  · rfl
@[simp] theorem setCore_pending (k : Fin 66) (c : Core) : (s.setCore k c).pending = s.pending := by
  unfold setCore; dsimp only; split
  · rw [setFlag_pending, setFlag_pending, set_pending, set_pending]
  · rfl

/-! ### modFeed -/

@[simp] theorem modFeed_regs (k : Fin 16) (f : Feed → Feed) : (s.modFeed k f).regs = s.regs := rfl
@[simp] theorem modFeed_mem (k : Fin 16) (f : Feed → Feed) : (s.modFeed k f).mem = s.mem := rfl
@[simp] theorem modFeed_host (k : Fin 16) (f : Feed → Feed) : (s.modFeed k f).host = s.host := rfl
@[simp] theorem modFeed_shadows (k : Fin 16) (f : Feed → Feed) : (s.modFeed k f).shadows = s.shadows := rfl
@[simp] theorem modFeed_holds (k : Fin 16) (f : Feed → Feed) : (s.modFeed k f).holds = s.holds := rfl
@[simp] theorem modFeed_now (k : Fin 16) (f : Feed → Feed) : (s.modFeed k f).now = s.now := rfl
@[simp] theorem modFeed_tiles (k : Fin 16) (f : Feed → Feed) : (s.modFeed k f).tiles = s.tiles := rfl
@[simp] theorem modFeed_groups (k : Fin 16) (f : Feed → Feed) : (s.modFeed k f).groups = s.groups := rfl
@[simp] theorem modFeed_hamper (k : Fin 16) (f : Feed → Feed) : (s.modFeed k f).hamper = s.hamper := rfl
@[simp] theorem modFeed_usfen (k : Fin 16) (f : Feed → Feed) : (s.modFeed k f).usfen = s.usfen := rfl
@[simp] theorem modFeed_freeCtr (k : Fin 16) (f : Feed → Feed) : (s.modFeed k f).freeCtr = s.freeCtr := rfl
@[simp] theorem modFeed_readData (k : Fin 16) (f : Feed → Feed) : (s.modFeed k f).readData = s.readData := rfl
@[simp] theorem modFeed_pinFrom (k : Fin 16) (f : Feed → Feed) : (s.modFeed k f).pinFrom = s.pinFrom := rfl
@[simp] theorem modFeed_pinHigh (k : Fin 16) (f : Feed → Feed) : (s.modFeed k f).pinHigh = s.pinHigh := rfl
@[simp] theorem modFeed_hwinEvent (k : Fin 16) (f : Feed → Feed) : (s.modFeed k f).hwinEvent = s.hwinEvent := rfl
@[simp] theorem modFeed_hwinThrAt (k : Fin 16) (f : Feed → Feed) : (s.modFeed k f).hwinThrAt = s.hwinThrAt := rfl
@[simp] theorem modFeed_hwinLevel (k : Fin 16) (f : Feed → Feed) : (s.modFeed k f).hwinLevel = s.hwinLevel := rfl
@[simp] theorem modFeed_cores (k : Fin 16) (f : Feed → Feed) : (s.modFeed k f).cores = s.cores := rfl
@[simp] theorem modFeed_ps (k : Fin 16) (f : Feed → Feed) : (s.modFeed k f).ps = s.ps := rfl
@[simp] theorem modFeed_house (k : Fin 16) (f : Feed → Feed) : (s.modFeed k f).house = s.house := rfl
@[simp] theorem modFeed_houseArmed (k : Fin 16) (f : Feed → Feed) : (s.modFeed k f).houseArmed = s.houseArmed := rfl
@[simp] theorem modFeed_siteTrig (k : Fin 16) (f : Feed → Feed) : (s.modFeed k f).siteTrig = s.siteTrig := rfl
@[simp] theorem modFeed_emus (k : Fin 16) (f : Feed → Feed) : (s.modFeed k f).emus = s.emus := rfl
@[simp] theorem modFeed_sfe (k : Fin 16) (f : Feed → Feed) : (s.modFeed k f).sfe = s.sfe := rfl
@[simp] theorem modFeed_lookout (k : Fin 16) (f : Feed → Feed) : (s.modFeed k f).lookout = s.lookout := rfl
@[simp] theorem modFeed_canopy (k : Fin 16) (f : Feed → Feed) : (s.modFeed k f).canopy = s.canopy := rfl
@[simp] theorem modFeed_clock (k : Fin 16) (f : Feed → Feed) : (s.modFeed k f).clock = s.clock := rfl
@[simp] theorem modFeed_spcs (k : Fin 16) (f : Feed → Feed) : (s.modFeed k f).spcs = s.spcs := rfl
@[simp] theorem modFeed_spt (k : Fin 16) (f : Feed → Feed) : (s.modFeed k f).spt = s.spt := rfl
@[simp] theorem modFeed_tap (k : Fin 16) (f : Feed → Feed) : (s.modFeed k f).tap = s.tap := rfl
@[simp] theorem modFeed_perst (k : Fin 16) (f : Feed → Feed) : (s.modFeed k f).perst = s.perst := rfl
@[simp] theorem modFeed_ppsOut (k : Fin 16) (f : Feed → Feed) : (s.modFeed k f).ppsOut = s.ppsOut := rfl
@[simp] theorem modFeed_pending (k : Fin 16) (f : Feed → Feed) : (s.modFeed k f).pending = s.pending := rfl

/-! ### modEmu -/

@[simp] theorem modEmu_regs (e : Fin 8) (f : Emu → Emu) : (s.modEmu e f).regs = s.regs := rfl
@[simp] theorem modEmu_mem (e : Fin 8) (f : Emu → Emu) : (s.modEmu e f).mem = s.mem := rfl
@[simp] theorem modEmu_host (e : Fin 8) (f : Emu → Emu) : (s.modEmu e f).host = s.host := rfl
@[simp] theorem modEmu_shadows (e : Fin 8) (f : Emu → Emu) : (s.modEmu e f).shadows = s.shadows := rfl
@[simp] theorem modEmu_holds (e : Fin 8) (f : Emu → Emu) : (s.modEmu e f).holds = s.holds := rfl
@[simp] theorem modEmu_now (e : Fin 8) (f : Emu → Emu) : (s.modEmu e f).now = s.now := rfl
@[simp] theorem modEmu_tiles (e : Fin 8) (f : Emu → Emu) : (s.modEmu e f).tiles = s.tiles := rfl
@[simp] theorem modEmu_groups (e : Fin 8) (f : Emu → Emu) : (s.modEmu e f).groups = s.groups := rfl
@[simp] theorem modEmu_hamper (e : Fin 8) (f : Emu → Emu) : (s.modEmu e f).hamper = s.hamper := rfl
@[simp] theorem modEmu_usfen (e : Fin 8) (f : Emu → Emu) : (s.modEmu e f).usfen = s.usfen := rfl
@[simp] theorem modEmu_freeCtr (e : Fin 8) (f : Emu → Emu) : (s.modEmu e f).freeCtr = s.freeCtr := rfl
@[simp] theorem modEmu_readData (e : Fin 8) (f : Emu → Emu) : (s.modEmu e f).readData = s.readData := rfl
@[simp] theorem modEmu_pinFrom (e : Fin 8) (f : Emu → Emu) : (s.modEmu e f).pinFrom = s.pinFrom := rfl
@[simp] theorem modEmu_pinHigh (e : Fin 8) (f : Emu → Emu) : (s.modEmu e f).pinHigh = s.pinHigh := rfl
@[simp] theorem modEmu_hwinEvent (e : Fin 8) (f : Emu → Emu) : (s.modEmu e f).hwinEvent = s.hwinEvent := rfl
@[simp] theorem modEmu_hwinThrAt (e : Fin 8) (f : Emu → Emu) : (s.modEmu e f).hwinThrAt = s.hwinThrAt := rfl
@[simp] theorem modEmu_hwinLevel (e : Fin 8) (f : Emu → Emu) : (s.modEmu e f).hwinLevel = s.hwinLevel := rfl
@[simp] theorem modEmu_cores (e : Fin 8) (f : Emu → Emu) : (s.modEmu e f).cores = s.cores := rfl
@[simp] theorem modEmu_ps (e : Fin 8) (f : Emu → Emu) : (s.modEmu e f).ps = s.ps := rfl
@[simp] theorem modEmu_house (e : Fin 8) (f : Emu → Emu) : (s.modEmu e f).house = s.house := rfl
@[simp] theorem modEmu_houseArmed (e : Fin 8) (f : Emu → Emu) : (s.modEmu e f).houseArmed = s.houseArmed := rfl
@[simp] theorem modEmu_siteTrig (e : Fin 8) (f : Emu → Emu) : (s.modEmu e f).siteTrig = s.siteTrig := rfl
@[simp] theorem modEmu_feeds (e : Fin 8) (f : Emu → Emu) : (s.modEmu e f).feeds = s.feeds := rfl
@[simp] theorem modEmu_sfe (e : Fin 8) (f : Emu → Emu) : (s.modEmu e f).sfe = s.sfe := rfl
@[simp] theorem modEmu_lookout (e : Fin 8) (f : Emu → Emu) : (s.modEmu e f).lookout = s.lookout := rfl
@[simp] theorem modEmu_canopy (e : Fin 8) (f : Emu → Emu) : (s.modEmu e f).canopy = s.canopy := rfl
@[simp] theorem modEmu_clock (e : Fin 8) (f : Emu → Emu) : (s.modEmu e f).clock = s.clock := rfl
@[simp] theorem modEmu_spcs (e : Fin 8) (f : Emu → Emu) : (s.modEmu e f).spcs = s.spcs := rfl
@[simp] theorem modEmu_spt (e : Fin 8) (f : Emu → Emu) : (s.modEmu e f).spt = s.spt := rfl
@[simp] theorem modEmu_tap (e : Fin 8) (f : Emu → Emu) : (s.modEmu e f).tap = s.tap := rfl
@[simp] theorem modEmu_perst (e : Fin 8) (f : Emu → Emu) : (s.modEmu e f).perst = s.perst := rfl
@[simp] theorem modEmu_ppsOut (e : Fin 8) (f : Emu → Emu) : (s.modEmu e f).ppsOut = s.ppsOut := rfl
@[simp] theorem modEmu_pending (e : Fin 8) (f : Emu → Emu) : (s.modEmu e f).pending = s.pending := rfl

/-! ### modSpt -/

@[simp] theorem modSpt_regs (f : Spt → Spt) : (s.modSpt f).regs = s.regs := rfl
@[simp] theorem modSpt_mem (f : Spt → Spt) : (s.modSpt f).mem = s.mem := rfl
@[simp] theorem modSpt_host (f : Spt → Spt) : (s.modSpt f).host = s.host := rfl
@[simp] theorem modSpt_shadows (f : Spt → Spt) : (s.modSpt f).shadows = s.shadows := rfl
@[simp] theorem modSpt_holds (f : Spt → Spt) : (s.modSpt f).holds = s.holds := rfl
@[simp] theorem modSpt_now (f : Spt → Spt) : (s.modSpt f).now = s.now := rfl
@[simp] theorem modSpt_tiles (f : Spt → Spt) : (s.modSpt f).tiles = s.tiles := rfl
@[simp] theorem modSpt_groups (f : Spt → Spt) : (s.modSpt f).groups = s.groups := rfl
@[simp] theorem modSpt_hamper (f : Spt → Spt) : (s.modSpt f).hamper = s.hamper := rfl
@[simp] theorem modSpt_usfen (f : Spt → Spt) : (s.modSpt f).usfen = s.usfen := rfl
@[simp] theorem modSpt_freeCtr (f : Spt → Spt) : (s.modSpt f).freeCtr = s.freeCtr := rfl
@[simp] theorem modSpt_readData (f : Spt → Spt) : (s.modSpt f).readData = s.readData := rfl
@[simp] theorem modSpt_pinFrom (f : Spt → Spt) : (s.modSpt f).pinFrom = s.pinFrom := rfl
@[simp] theorem modSpt_pinHigh (f : Spt → Spt) : (s.modSpt f).pinHigh = s.pinHigh := rfl
@[simp] theorem modSpt_hwinEvent (f : Spt → Spt) : (s.modSpt f).hwinEvent = s.hwinEvent := rfl
@[simp] theorem modSpt_hwinThrAt (f : Spt → Spt) : (s.modSpt f).hwinThrAt = s.hwinThrAt := rfl
@[simp] theorem modSpt_hwinLevel (f : Spt → Spt) : (s.modSpt f).hwinLevel = s.hwinLevel := rfl
@[simp] theorem modSpt_cores (f : Spt → Spt) : (s.modSpt f).cores = s.cores := rfl
@[simp] theorem modSpt_ps (f : Spt → Spt) : (s.modSpt f).ps = s.ps := rfl
@[simp] theorem modSpt_house (f : Spt → Spt) : (s.modSpt f).house = s.house := rfl
@[simp] theorem modSpt_houseArmed (f : Spt → Spt) : (s.modSpt f).houseArmed = s.houseArmed := rfl
@[simp] theorem modSpt_siteTrig (f : Spt → Spt) : (s.modSpt f).siteTrig = s.siteTrig := rfl
@[simp] theorem modSpt_feeds (f : Spt → Spt) : (s.modSpt f).feeds = s.feeds := rfl
@[simp] theorem modSpt_emus (f : Spt → Spt) : (s.modSpt f).emus = s.emus := rfl
@[simp] theorem modSpt_sfe (f : Spt → Spt) : (s.modSpt f).sfe = s.sfe := rfl
@[simp] theorem modSpt_lookout (f : Spt → Spt) : (s.modSpt f).lookout = s.lookout := rfl
@[simp] theorem modSpt_canopy (f : Spt → Spt) : (s.modSpt f).canopy = s.canopy := rfl
@[simp] theorem modSpt_clock (f : Spt → Spt) : (s.modSpt f).clock = s.clock := rfl
@[simp] theorem modSpt_spcs (f : Spt → Spt) : (s.modSpt f).spcs = s.spcs := rfl
@[simp] theorem modSpt_spt (f : Spt → Spt) : (s.modSpt f).spt = f s.spt := rfl
@[simp] theorem modSpt_tap (f : Spt → Spt) : (s.modSpt f).tap = s.tap := rfl
@[simp] theorem modSpt_perst (f : Spt → Spt) : (s.modSpt f).perst = s.perst := rfl
@[simp] theorem modSpt_ppsOut (f : Spt → Spt) : (s.modSpt f).ppsOut = s.ppsOut := rfl
@[simp] theorem modSpt_pending (f : Spt → Spt) : (s.modSpt f).pending = s.pending := rfl

/-! ### modHamper -/

@[simp] theorem modHamper_regs (f : Hamper → Hamper) : (s.modHamper f).regs = s.regs := rfl
@[simp] theorem modHamper_mem (f : Hamper → Hamper) : (s.modHamper f).mem = s.mem := rfl
@[simp] theorem modHamper_host (f : Hamper → Hamper) : (s.modHamper f).host = s.host := rfl
@[simp] theorem modHamper_shadows (f : Hamper → Hamper) : (s.modHamper f).shadows = s.shadows := rfl
@[simp] theorem modHamper_holds (f : Hamper → Hamper) : (s.modHamper f).holds = s.holds := rfl
@[simp] theorem modHamper_now (f : Hamper → Hamper) : (s.modHamper f).now = s.now := rfl
@[simp] theorem modHamper_tiles (f : Hamper → Hamper) : (s.modHamper f).tiles = s.tiles := rfl
@[simp] theorem modHamper_groups (f : Hamper → Hamper) : (s.modHamper f).groups = s.groups := rfl
@[simp] theorem modHamper_hamper (f : Hamper → Hamper) : (s.modHamper f).hamper = f s.hamper := rfl
@[simp] theorem modHamper_usfen (f : Hamper → Hamper) : (s.modHamper f).usfen = s.usfen := rfl
@[simp] theorem modHamper_freeCtr (f : Hamper → Hamper) : (s.modHamper f).freeCtr = s.freeCtr := rfl
@[simp] theorem modHamper_readData (f : Hamper → Hamper) : (s.modHamper f).readData = s.readData := rfl
@[simp] theorem modHamper_pinFrom (f : Hamper → Hamper) : (s.modHamper f).pinFrom = s.pinFrom := rfl
@[simp] theorem modHamper_pinHigh (f : Hamper → Hamper) : (s.modHamper f).pinHigh = s.pinHigh := rfl
@[simp] theorem modHamper_hwinEvent (f : Hamper → Hamper) : (s.modHamper f).hwinEvent = s.hwinEvent := rfl
@[simp] theorem modHamper_hwinThrAt (f : Hamper → Hamper) : (s.modHamper f).hwinThrAt = s.hwinThrAt := rfl
@[simp] theorem modHamper_hwinLevel (f : Hamper → Hamper) : (s.modHamper f).hwinLevel = s.hwinLevel := rfl
@[simp] theorem modHamper_cores (f : Hamper → Hamper) : (s.modHamper f).cores = s.cores := rfl
@[simp] theorem modHamper_ps (f : Hamper → Hamper) : (s.modHamper f).ps = s.ps := rfl
@[simp] theorem modHamper_house (f : Hamper → Hamper) : (s.modHamper f).house = s.house := rfl
@[simp] theorem modHamper_houseArmed (f : Hamper → Hamper) : (s.modHamper f).houseArmed = s.houseArmed := rfl
@[simp] theorem modHamper_siteTrig (f : Hamper → Hamper) : (s.modHamper f).siteTrig = s.siteTrig := rfl
@[simp] theorem modHamper_feeds (f : Hamper → Hamper) : (s.modHamper f).feeds = s.feeds := rfl
@[simp] theorem modHamper_emus (f : Hamper → Hamper) : (s.modHamper f).emus = s.emus := rfl
@[simp] theorem modHamper_sfe (f : Hamper → Hamper) : (s.modHamper f).sfe = s.sfe := rfl
@[simp] theorem modHamper_lookout (f : Hamper → Hamper) : (s.modHamper f).lookout = s.lookout := rfl
@[simp] theorem modHamper_canopy (f : Hamper → Hamper) : (s.modHamper f).canopy = s.canopy := rfl
@[simp] theorem modHamper_clock (f : Hamper → Hamper) : (s.modHamper f).clock = s.clock := rfl
@[simp] theorem modHamper_spcs (f : Hamper → Hamper) : (s.modHamper f).spcs = s.spcs := rfl
@[simp] theorem modHamper_spt (f : Hamper → Hamper) : (s.modHamper f).spt = s.spt := rfl
@[simp] theorem modHamper_tap (f : Hamper → Hamper) : (s.modHamper f).tap = s.tap := rfl
@[simp] theorem modHamper_perst (f : Hamper → Hamper) : (s.modHamper f).perst = s.perst := rfl
@[simp] theorem modHamper_ppsOut (f : Hamper → Hamper) : (s.modHamper f).ppsOut = s.ppsOut := rfl
@[simp] theorem modHamper_pending (f : Hamper → Hamper) : (s.modHamper f).pending = s.pending := rfl

/-! ### modCanopy -/

@[simp] theorem modCanopy_regs (f : Canopy → Canopy) : (s.modCanopy f).regs = s.regs := rfl
@[simp] theorem modCanopy_mem (f : Canopy → Canopy) : (s.modCanopy f).mem = s.mem := rfl
@[simp] theorem modCanopy_host (f : Canopy → Canopy) : (s.modCanopy f).host = s.host := rfl
@[simp] theorem modCanopy_shadows (f : Canopy → Canopy) : (s.modCanopy f).shadows = s.shadows := rfl
@[simp] theorem modCanopy_holds (f : Canopy → Canopy) : (s.modCanopy f).holds = s.holds := rfl
@[simp] theorem modCanopy_now (f : Canopy → Canopy) : (s.modCanopy f).now = s.now := rfl
@[simp] theorem modCanopy_tiles (f : Canopy → Canopy) : (s.modCanopy f).tiles = s.tiles := rfl
@[simp] theorem modCanopy_groups (f : Canopy → Canopy) : (s.modCanopy f).groups = s.groups := rfl
@[simp] theorem modCanopy_hamper (f : Canopy → Canopy) : (s.modCanopy f).hamper = s.hamper := rfl
@[simp] theorem modCanopy_usfen (f : Canopy → Canopy) : (s.modCanopy f).usfen = s.usfen := rfl
@[simp] theorem modCanopy_freeCtr (f : Canopy → Canopy) : (s.modCanopy f).freeCtr = s.freeCtr := rfl
@[simp] theorem modCanopy_readData (f : Canopy → Canopy) : (s.modCanopy f).readData = s.readData := rfl
@[simp] theorem modCanopy_pinFrom (f : Canopy → Canopy) : (s.modCanopy f).pinFrom = s.pinFrom := rfl
@[simp] theorem modCanopy_pinHigh (f : Canopy → Canopy) : (s.modCanopy f).pinHigh = s.pinHigh := rfl
@[simp] theorem modCanopy_hwinEvent (f : Canopy → Canopy) : (s.modCanopy f).hwinEvent = s.hwinEvent := rfl
@[simp] theorem modCanopy_hwinThrAt (f : Canopy → Canopy) : (s.modCanopy f).hwinThrAt = s.hwinThrAt := rfl
@[simp] theorem modCanopy_hwinLevel (f : Canopy → Canopy) : (s.modCanopy f).hwinLevel = s.hwinLevel := rfl
@[simp] theorem modCanopy_cores (f : Canopy → Canopy) : (s.modCanopy f).cores = s.cores := rfl
@[simp] theorem modCanopy_ps (f : Canopy → Canopy) : (s.modCanopy f).ps = s.ps := rfl
@[simp] theorem modCanopy_house (f : Canopy → Canopy) : (s.modCanopy f).house = s.house := rfl
@[simp] theorem modCanopy_houseArmed (f : Canopy → Canopy) : (s.modCanopy f).houseArmed = s.houseArmed := rfl
@[simp] theorem modCanopy_siteTrig (f : Canopy → Canopy) : (s.modCanopy f).siteTrig = s.siteTrig := rfl
@[simp] theorem modCanopy_feeds (f : Canopy → Canopy) : (s.modCanopy f).feeds = s.feeds := rfl
@[simp] theorem modCanopy_emus (f : Canopy → Canopy) : (s.modCanopy f).emus = s.emus := rfl
@[simp] theorem modCanopy_sfe (f : Canopy → Canopy) : (s.modCanopy f).sfe = s.sfe := rfl
@[simp] theorem modCanopy_lookout (f : Canopy → Canopy) : (s.modCanopy f).lookout = s.lookout := rfl
@[simp] theorem modCanopy_canopy (f : Canopy → Canopy) : (s.modCanopy f).canopy = f s.canopy := rfl
@[simp] theorem modCanopy_clock (f : Canopy → Canopy) : (s.modCanopy f).clock = s.clock := rfl
@[simp] theorem modCanopy_spcs (f : Canopy → Canopy) : (s.modCanopy f).spcs = s.spcs := rfl
@[simp] theorem modCanopy_spt (f : Canopy → Canopy) : (s.modCanopy f).spt = s.spt := rfl
@[simp] theorem modCanopy_tap (f : Canopy → Canopy) : (s.modCanopy f).tap = s.tap := rfl
@[simp] theorem modCanopy_perst (f : Canopy → Canopy) : (s.modCanopy f).perst = s.perst := rfl
@[simp] theorem modCanopy_ppsOut (f : Canopy → Canopy) : (s.modCanopy f).ppsOut = s.ppsOut := rfl
@[simp] theorem modCanopy_pending (f : Canopy → Canopy) : (s.modCanopy f).pending = s.pending := rfl

/-! ### modLookout -/

@[simp] theorem modLookout_regs (f : Lookout → Lookout) : (s.modLookout f).regs = s.regs := rfl
@[simp] theorem modLookout_mem (f : Lookout → Lookout) : (s.modLookout f).mem = s.mem := rfl
@[simp] theorem modLookout_host (f : Lookout → Lookout) : (s.modLookout f).host = s.host := rfl
@[simp] theorem modLookout_shadows (f : Lookout → Lookout) : (s.modLookout f).shadows = s.shadows := rfl
@[simp] theorem modLookout_holds (f : Lookout → Lookout) : (s.modLookout f).holds = s.holds := rfl
@[simp] theorem modLookout_now (f : Lookout → Lookout) : (s.modLookout f).now = s.now := rfl
@[simp] theorem modLookout_tiles (f : Lookout → Lookout) : (s.modLookout f).tiles = s.tiles := rfl
@[simp] theorem modLookout_groups (f : Lookout → Lookout) : (s.modLookout f).groups = s.groups := rfl
@[simp] theorem modLookout_hamper (f : Lookout → Lookout) : (s.modLookout f).hamper = s.hamper := rfl
@[simp] theorem modLookout_usfen (f : Lookout → Lookout) : (s.modLookout f).usfen = s.usfen := rfl
@[simp] theorem modLookout_freeCtr (f : Lookout → Lookout) : (s.modLookout f).freeCtr = s.freeCtr := rfl
@[simp] theorem modLookout_readData (f : Lookout → Lookout) : (s.modLookout f).readData = s.readData := rfl
@[simp] theorem modLookout_pinFrom (f : Lookout → Lookout) : (s.modLookout f).pinFrom = s.pinFrom := rfl
@[simp] theorem modLookout_pinHigh (f : Lookout → Lookout) : (s.modLookout f).pinHigh = s.pinHigh := rfl
@[simp] theorem modLookout_hwinEvent (f : Lookout → Lookout) : (s.modLookout f).hwinEvent = s.hwinEvent := rfl
@[simp] theorem modLookout_hwinThrAt (f : Lookout → Lookout) : (s.modLookout f).hwinThrAt = s.hwinThrAt := rfl
@[simp] theorem modLookout_hwinLevel (f : Lookout → Lookout) : (s.modLookout f).hwinLevel = s.hwinLevel := rfl
@[simp] theorem modLookout_cores (f : Lookout → Lookout) : (s.modLookout f).cores = s.cores := rfl
@[simp] theorem modLookout_ps (f : Lookout → Lookout) : (s.modLookout f).ps = s.ps := rfl
@[simp] theorem modLookout_house (f : Lookout → Lookout) : (s.modLookout f).house = s.house := rfl
@[simp] theorem modLookout_houseArmed (f : Lookout → Lookout) : (s.modLookout f).houseArmed = s.houseArmed := rfl
@[simp] theorem modLookout_siteTrig (f : Lookout → Lookout) : (s.modLookout f).siteTrig = s.siteTrig := rfl
@[simp] theorem modLookout_feeds (f : Lookout → Lookout) : (s.modLookout f).feeds = s.feeds := rfl
@[simp] theorem modLookout_emus (f : Lookout → Lookout) : (s.modLookout f).emus = s.emus := rfl
@[simp] theorem modLookout_sfe (f : Lookout → Lookout) : (s.modLookout f).sfe = s.sfe := rfl
@[simp] theorem modLookout_lookout (f : Lookout → Lookout) : (s.modLookout f).lookout = f s.lookout := rfl
@[simp] theorem modLookout_canopy (f : Lookout → Lookout) : (s.modLookout f).canopy = s.canopy := rfl
@[simp] theorem modLookout_clock (f : Lookout → Lookout) : (s.modLookout f).clock = s.clock := rfl
@[simp] theorem modLookout_spcs (f : Lookout → Lookout) : (s.modLookout f).spcs = s.spcs := rfl
@[simp] theorem modLookout_spt (f : Lookout → Lookout) : (s.modLookout f).spt = s.spt := rfl
@[simp] theorem modLookout_tap (f : Lookout → Lookout) : (s.modLookout f).tap = s.tap := rfl
@[simp] theorem modLookout_perst (f : Lookout → Lookout) : (s.modLookout f).perst = s.perst := rfl
@[simp] theorem modLookout_ppsOut (f : Lookout → Lookout) : (s.modLookout f).ppsOut = s.ppsOut := rfl
@[simp] theorem modLookout_pending (f : Lookout → Lookout) : (s.modLookout f).pending = s.pending := rfl

/-! ### modClock -/

@[simp] theorem modClock_regs (f : Clock → Clock) : (s.modClock f).regs = s.regs := rfl
@[simp] theorem modClock_mem (f : Clock → Clock) : (s.modClock f).mem = s.mem := rfl
@[simp] theorem modClock_host (f : Clock → Clock) : (s.modClock f).host = s.host := rfl
@[simp] theorem modClock_shadows (f : Clock → Clock) : (s.modClock f).shadows = s.shadows := rfl
@[simp] theorem modClock_holds (f : Clock → Clock) : (s.modClock f).holds = s.holds := rfl
@[simp] theorem modClock_now (f : Clock → Clock) : (s.modClock f).now = s.now := rfl
@[simp] theorem modClock_tiles (f : Clock → Clock) : (s.modClock f).tiles = s.tiles := rfl
@[simp] theorem modClock_groups (f : Clock → Clock) : (s.modClock f).groups = s.groups := rfl
@[simp] theorem modClock_hamper (f : Clock → Clock) : (s.modClock f).hamper = s.hamper := rfl
@[simp] theorem modClock_usfen (f : Clock → Clock) : (s.modClock f).usfen = s.usfen := rfl
@[simp] theorem modClock_freeCtr (f : Clock → Clock) : (s.modClock f).freeCtr = s.freeCtr := rfl
@[simp] theorem modClock_readData (f : Clock → Clock) : (s.modClock f).readData = s.readData := rfl
@[simp] theorem modClock_pinFrom (f : Clock → Clock) : (s.modClock f).pinFrom = s.pinFrom := rfl
@[simp] theorem modClock_pinHigh (f : Clock → Clock) : (s.modClock f).pinHigh = s.pinHigh := rfl
@[simp] theorem modClock_hwinEvent (f : Clock → Clock) : (s.modClock f).hwinEvent = s.hwinEvent := rfl
@[simp] theorem modClock_hwinThrAt (f : Clock → Clock) : (s.modClock f).hwinThrAt = s.hwinThrAt := rfl
@[simp] theorem modClock_hwinLevel (f : Clock → Clock) : (s.modClock f).hwinLevel = s.hwinLevel := rfl
@[simp] theorem modClock_cores (f : Clock → Clock) : (s.modClock f).cores = s.cores := rfl
@[simp] theorem modClock_ps (f : Clock → Clock) : (s.modClock f).ps = s.ps := rfl
@[simp] theorem modClock_house (f : Clock → Clock) : (s.modClock f).house = s.house := rfl
@[simp] theorem modClock_houseArmed (f : Clock → Clock) : (s.modClock f).houseArmed = s.houseArmed := rfl
@[simp] theorem modClock_siteTrig (f : Clock → Clock) : (s.modClock f).siteTrig = s.siteTrig := rfl
@[simp] theorem modClock_feeds (f : Clock → Clock) : (s.modClock f).feeds = s.feeds := rfl
@[simp] theorem modClock_emus (f : Clock → Clock) : (s.modClock f).emus = s.emus := rfl
@[simp] theorem modClock_sfe (f : Clock → Clock) : (s.modClock f).sfe = s.sfe := rfl
@[simp] theorem modClock_lookout (f : Clock → Clock) : (s.modClock f).lookout = s.lookout := rfl
@[simp] theorem modClock_canopy (f : Clock → Clock) : (s.modClock f).canopy = s.canopy := rfl
@[simp] theorem modClock_clock (f : Clock → Clock) : (s.modClock f).clock = f s.clock := rfl
@[simp] theorem modClock_spcs (f : Clock → Clock) : (s.modClock f).spcs = s.spcs := rfl
@[simp] theorem modClock_spt (f : Clock → Clock) : (s.modClock f).spt = s.spt := rfl
@[simp] theorem modClock_tap (f : Clock → Clock) : (s.modClock f).tap = s.tap := rfl
@[simp] theorem modClock_perst (f : Clock → Clock) : (s.modClock f).perst = s.perst := rfl
@[simp] theorem modClock_ppsOut (f : Clock → Clock) : (s.modClock f).ppsOut = s.ppsOut := rfl
@[simp] theorem modClock_pending (f : Clock → Clock) : (s.modClock f).pending = s.pending := rfl

/-! ### Reads past an update of something else -/

@[simp] theorem byte_wr (a : Nat) (v : Word) (x : Nat) : (s.wr a v).byte x = s.byte x := rfl
@[simp] theorem hostByte_wr (a : Nat) (v : Word) (x : Nat) : (s.wr a v).hostByte x = s.hostByte x := rfl
@[simp] theorem tile_wr (a : Nat) (v : Word) (m : Fin 64) : (s.wr a v).tile m = s.tile m := rfl
@[simp] theorem core_wr (a : Nat) (v : Word) (k : Fin 66) : (s.wr a v).core k = s.core k := rfl
@[simp] theorem byte_set (f : Fld) (v i : Nat) (x : Nat) : (s.set f v i).byte x = s.byte x := rfl
@[simp] theorem hostByte_set (f : Fld) (v i : Nat) (x : Nat) : (s.set f v i).hostByte x = s.hostByte x := rfl
@[simp] theorem tile_set (f : Fld) (v i : Nat) (m : Fin 64) : (s.set f v i).tile m = s.tile m := rfl
@[simp] theorem core_set (f : Fld) (v i : Nat) (k : Fin 66) : (s.set f v i).core k = s.core k := rfl
@[simp] theorem byte_setFlag (f : Fld) (b : Bool) (i : Nat) (x : Nat) : (s.setFlag f b i).byte x = s.byte x := rfl
@[simp] theorem hostByte_setFlag (f : Fld) (b : Bool) (i : Nat) (x : Nat) : (s.setFlag f b i).hostByte x = s.hostByte x := rfl
@[simp] theorem tile_setFlag (f : Fld) (b : Bool) (i : Nat) (m : Fin 64) : (s.setFlag f b i).tile m = s.tile m := rfl
@[simp] theorem core_setFlag (f : Fld) (b : Bool) (i : Nat) (k : Fin 66) : (s.setFlag f b i).core k = s.core k := rfl
@[simp] theorem rd_setTile (n : Fin 64) (t : Tile) (x : Nat) : (s.setTile n t).rd x = s.rd x := rfl
@[simp] theorem get_setTile (n : Fin 64) (t : Tile) (fd : Fld) (j : Nat) : (s.setTile n t).get fd j = s.get fd j := rfl
@[simp] theorem byte_setTile (n : Fin 64) (t : Tile) (x : Nat) : (s.setTile n t).byte x = s.byte x := rfl
@[simp] theorem hostByte_setTile (n : Fin 64) (t : Tile) (x : Nat) : (s.setTile n t).hostByte x = s.hostByte x := rfl
@[simp] theorem core_setTile (n : Fin 64) (t : Tile) (k : Fin 66) : (s.setTile n t).core k = s.core k := rfl
@[simp] theorem rd_modTile (n : Fin 64) (f : Tile → Tile) (x : Nat) : (s.modTile n f).rd x = s.rd x := rfl
@[simp] theorem get_modTile (n : Fin 64) (f : Tile → Tile) (fd : Fld) (j : Nat) : (s.modTile n f).get fd j = s.get fd j := rfl
@[simp] theorem byte_modTile (n : Fin 64) (f : Tile → Tile) (x : Nat) : (s.modTile n f).byte x = s.byte x := rfl
@[simp] theorem hostByte_modTile (n : Fin 64) (f : Tile → Tile) (x : Nat) : (s.modTile n f).hostByte x = s.hostByte x := rfl
@[simp] theorem core_modTile (n : Fin 64) (f : Tile → Tile) (k : Fin 66) : (s.modTile n f).core k = s.core k := rfl
@[simp] theorem rd_modPlan (n : Fin 64) (f : Planner → Planner) (x : Nat) : (s.modPlan n f).rd x = s.rd x := rfl
@[simp] theorem get_modPlan (n : Fin 64) (f : Planner → Planner) (fd : Fld) (j : Nat) : (s.modPlan n f).get fd j = s.get fd j := rfl
@[simp] theorem byte_modPlan (n : Fin 64) (f : Planner → Planner) (x : Nat) : (s.modPlan n f).byte x = s.byte x := rfl
@[simp] theorem hostByte_modPlan (n : Fin 64) (f : Planner → Planner) (x : Nat) : (s.modPlan n f).hostByte x = s.hostByte x := rfl
@[simp] theorem core_modPlan (n : Fin 64) (f : Planner → Planner) (k : Fin 66) : (s.modPlan n f).core k = s.core k := rfl
@[simp] theorem rd_modCur (n : Fin 64) (f : CurState → CurState) (x : Nat) : (s.modCur n f).rd x = s.rd x := rfl
@[simp] theorem get_modCur (n : Fin 64) (f : CurState → CurState) (fd : Fld) (j : Nat) : (s.modCur n f).get fd j = s.get fd j := rfl
@[simp] theorem byte_modCur (n : Fin 64) (f : CurState → CurState) (x : Nat) : (s.modCur n f).byte x = s.byte x := rfl
@[simp] theorem hostByte_modCur (n : Fin 64) (f : CurState → CurState) (x : Nat) : (s.modCur n f).hostByte x = s.hostByte x := rfl
@[simp] theorem core_modCur (n : Fin 64) (f : CurState → CurState) (k : Fin 66) : (s.modCur n f).core k = s.core k := rfl
@[simp] theorem rd_modLull (n : Fin 64) (f : LullState → LullState) (x : Nat) : (s.modLull n f).rd x = s.rd x := rfl
@[simp] theorem get_modLull (n : Fin 64) (f : LullState → LullState) (fd : Fld) (j : Nat) : (s.modLull n f).get fd j = s.get fd j := rfl
@[simp] theorem byte_modLull (n : Fin 64) (f : LullState → LullState) (x : Nat) : (s.modLull n f).byte x = s.byte x := rfl
@[simp] theorem hostByte_modLull (n : Fin 64) (f : LullState → LullState) (x : Nat) : (s.modLull n f).hostByte x = s.hostByte x := rfl
@[simp] theorem core_modLull (n : Fin 64) (f : LullState → LullState) (k : Fin 66) : (s.modLull n f).core k = s.core k := rfl
@[simp] theorem rd_modSd (n : Fin 64) (f : Sundial → Sundial) (x : Nat) : (s.modSd n f).rd x = s.rd x := rfl
@[simp] theorem get_modSd (n : Fin 64) (f : Sundial → Sundial) (fd : Fld) (j : Nat) : (s.modSd n f).get fd j = s.get fd j := rfl
@[simp] theorem byte_modSd (n : Fin 64) (f : Sundial → Sundial) (x : Nat) : (s.modSd n f).byte x = s.byte x := rfl
@[simp] theorem hostByte_modSd (n : Fin 64) (f : Sundial → Sundial) (x : Nat) : (s.modSd n f).hostByte x = s.hostByte x := rfl
@[simp] theorem core_modSd (n : Fin 64) (f : Sundial → Sundial) (k : Fin 66) : (s.modSd n f).core k = s.core k := rfl
@[simp] theorem rd_modForce (n : Fin 64) (f : Force → Force) (x : Nat) : (s.modForce n f).rd x = s.rd x := rfl
@[simp] theorem get_modForce (n : Fin 64) (f : Force → Force) (fd : Fld) (j : Nat) : (s.modForce n f).get fd j = s.get fd j := rfl
@[simp] theorem byte_modForce (n : Fin 64) (f : Force → Force) (x : Nat) : (s.modForce n f).byte x = s.byte x := rfl
@[simp] theorem hostByte_modForce (n : Fin 64) (f : Force → Force) (x : Nat) : (s.modForce n f).hostByte x = s.hostByte x := rfl
@[simp] theorem core_modForce (n : Fin 64) (f : Force → Force) (k : Fin 66) : (s.modForce n f).core k = s.core k := rfl
@[simp] theorem rd_modLegs (n : Fin 64) (f : Legs → Legs) (x : Nat) : (s.modLegs n f).rd x = s.rd x := rfl
@[simp] theorem get_modLegs (n : Fin 64) (f : Legs → Legs) (fd : Fld) (j : Nat) : (s.modLegs n f).get fd j = s.get fd j := rfl
@[simp] theorem byte_modLegs (n : Fin 64) (f : Legs → Legs) (x : Nat) : (s.modLegs n f).byte x = s.byte x := rfl
@[simp] theorem hostByte_modLegs (n : Fin 64) (f : Legs → Legs) (x : Nat) : (s.modLegs n f).hostByte x = s.hostByte x := rfl
@[simp] theorem core_modLegs (n : Fin 64) (f : Legs → Legs) (k : Fin 66) : (s.modLegs n f).core k = s.core k := rfl
@[simp] theorem rd_setByte (a : Nat) (b : Byte) (x : Nat) : (s.setByte a b).rd x = s.rd x := rfl
@[simp] theorem get_setByte (a : Nat) (b : Byte) (fd : Fld) (j : Nat) : (s.setByte a b).get fd j = s.get fd j := rfl
@[simp] theorem hostByte_setByte (a : Nat) (b : Byte) (x : Nat) : (s.setByte a b).hostByte x = s.hostByte x := rfl
@[simp] theorem tile_setByte (a : Nat) (b : Byte) (m : Fin 64) : (s.setByte a b).tile m = s.tile m := rfl
@[simp] theorem core_setByte (a : Nat) (b : Byte) (k : Fin 66) : (s.setByte a b).core k = s.core k := rfl
@[simp] theorem rd_setPort (p : Fin 4) (q : Port) (x : Nat) : (s.setPort p q).rd x = s.rd x := rfl
@[simp] theorem get_setPort (p : Fin 4) (q : Port) (fd : Fld) (j : Nat) : (s.setPort p q).get fd j = s.get fd j := rfl
@[simp] theorem byte_setPort (p : Fin 4) (q : Port) (x : Nat) : (s.setPort p q).byte x = s.byte x := rfl
@[simp] theorem hostByte_setPort (p : Fin 4) (q : Port) (x : Nat) : (s.setPort p q).hostByte x = s.hostByte x := rfl
@[simp] theorem tile_setPort (p : Fin 4) (q : Port) (m : Fin 64) : (s.setPort p q).tile m = s.tile m := rfl
@[simp] theorem core_setPort (p : Fin 4) (q : Port) (k : Fin 66) : (s.setPort p q).core k = s.core k := rfl
@[simp] theorem rd_setGroup (k : Nat) (g : Option GroupSlot) (x : Nat) : (s.setGroup k g).rd x = s.rd x := by unfold rd; rw [setGroup_regs]
@[simp] theorem get_setGroup (k : Nat) (g : Option GroupSlot) (fd : Fld) (j : Nat) : (s.setGroup k g).get fd j = s.get fd j := by unfold get rd; rw [setGroup_regs]
@[simp] theorem byte_setGroup (k : Nat) (g : Option GroupSlot) (x : Nat) : (s.setGroup k g).byte x = s.byte x := by unfold byte; rw [setGroup_mem]
@[simp] theorem hostByte_setGroup (k : Nat) (g : Option GroupSlot) (x : Nat) : (s.setGroup k g).hostByte x = s.hostByte x := by unfold hostByte; rw [setGroup_host]
@[simp] theorem tile_setGroup (k : Nat) (g : Option GroupSlot) (m : Fin 64) : (s.setGroup k g).tile m = s.tile m := by unfold tile; rw [setGroup_tiles]
@[simp] theorem core_setGroup (q : Nat) (g : Option GroupSlot) (k : Fin 66) : (s.setGroup q g).core k = s.core k := by unfold core; rw [setGroup_cores]
@[simp] theorem byte_setCore (k : Fin 66) (c : Core) (x : Nat) : (s.setCore k c).byte x = s.byte x := by unfold byte; rw [setCore_mem]
@[simp] theorem hostByte_setCore (k : Fin 66) (c : Core) (x : Nat) : (s.setCore k c).hostByte x = s.hostByte x := by unfold hostByte; rw [setCore_host]
@[simp] theorem tile_setCore (k : Fin 66) (c : Core) (m : Fin 64) : (s.setCore k c).tile m = s.tile m := by unfold tile; rw [setCore_tiles]
@[simp] theorem rd_modFeed (k : Fin 16) (f : Feed → Feed) (x : Nat) : (s.modFeed k f).rd x = s.rd x := rfl
@[simp] theorem get_modFeed (k : Fin 16) (f : Feed → Feed) (fd : Fld) (j : Nat) : (s.modFeed k f).get fd j = s.get fd j := rfl
@[simp] theorem byte_modFeed (k : Fin 16) (f : Feed → Feed) (x : Nat) : (s.modFeed k f).byte x = s.byte x := rfl
@[simp] theorem hostByte_modFeed (k : Fin 16) (f : Feed → Feed) (x : Nat) : (s.modFeed k f).hostByte x = s.hostByte x := rfl
@[simp] theorem tile_modFeed (k : Fin 16) (f : Feed → Feed) (m : Fin 64) : (s.modFeed k f).tile m = s.tile m := rfl
@[simp] theorem core_modFeed (q : Fin 16) (f : Feed → Feed) (k : Fin 66) : (s.modFeed q f).core k = s.core k := rfl
@[simp] theorem rd_modEmu (e : Fin 8) (f : Emu → Emu) (x : Nat) : (s.modEmu e f).rd x = s.rd x := rfl
@[simp] theorem get_modEmu (e : Fin 8) (f : Emu → Emu) (fd : Fld) (j : Nat) : (s.modEmu e f).get fd j = s.get fd j := rfl
@[simp] theorem byte_modEmu (e : Fin 8) (f : Emu → Emu) (x : Nat) : (s.modEmu e f).byte x = s.byte x := rfl
@[simp] theorem hostByte_modEmu (e : Fin 8) (f : Emu → Emu) (x : Nat) : (s.modEmu e f).hostByte x = s.hostByte x := rfl
@[simp] theorem tile_modEmu (e : Fin 8) (f : Emu → Emu) (m : Fin 64) : (s.modEmu e f).tile m = s.tile m := rfl
@[simp] theorem core_modEmu (e : Fin 8) (f : Emu → Emu) (k : Fin 66) : (s.modEmu e f).core k = s.core k := rfl
@[simp] theorem rd_modSpt (f : Spt → Spt) (x : Nat) : (s.modSpt f).rd x = s.rd x := rfl
@[simp] theorem get_modSpt (f : Spt → Spt) (fd : Fld) (j : Nat) : (s.modSpt f).get fd j = s.get fd j := rfl
@[simp] theorem byte_modSpt (f : Spt → Spt) (x : Nat) : (s.modSpt f).byte x = s.byte x := rfl
@[simp] theorem hostByte_modSpt (f : Spt → Spt) (x : Nat) : (s.modSpt f).hostByte x = s.hostByte x := rfl
@[simp] theorem tile_modSpt (f : Spt → Spt) (m : Fin 64) : (s.modSpt f).tile m = s.tile m := rfl
@[simp] theorem core_modSpt (f : Spt → Spt) (k : Fin 66) : (s.modSpt f).core k = s.core k := rfl
@[simp] theorem rd_modHamper (f : Hamper → Hamper) (x : Nat) : (s.modHamper f).rd x = s.rd x := rfl
@[simp] theorem get_modHamper (f : Hamper → Hamper) (fd : Fld) (j : Nat) : (s.modHamper f).get fd j = s.get fd j := rfl
@[simp] theorem byte_modHamper (f : Hamper → Hamper) (x : Nat) : (s.modHamper f).byte x = s.byte x := rfl
@[simp] theorem hostByte_modHamper (f : Hamper → Hamper) (x : Nat) : (s.modHamper f).hostByte x = s.hostByte x := rfl
@[simp] theorem tile_modHamper (f : Hamper → Hamper) (m : Fin 64) : (s.modHamper f).tile m = s.tile m := rfl
@[simp] theorem core_modHamper (f : Hamper → Hamper) (k : Fin 66) : (s.modHamper f).core k = s.core k := rfl
@[simp] theorem rd_modCanopy (f : Canopy → Canopy) (x : Nat) : (s.modCanopy f).rd x = s.rd x := rfl
@[simp] theorem get_modCanopy (f : Canopy → Canopy) (fd : Fld) (j : Nat) : (s.modCanopy f).get fd j = s.get fd j := rfl
@[simp] theorem byte_modCanopy (f : Canopy → Canopy) (x : Nat) : (s.modCanopy f).byte x = s.byte x := rfl
@[simp] theorem hostByte_modCanopy (f : Canopy → Canopy) (x : Nat) : (s.modCanopy f).hostByte x = s.hostByte x := rfl
@[simp] theorem tile_modCanopy (f : Canopy → Canopy) (m : Fin 64) : (s.modCanopy f).tile m = s.tile m := rfl
@[simp] theorem core_modCanopy (f : Canopy → Canopy) (k : Fin 66) : (s.modCanopy f).core k = s.core k := rfl
@[simp] theorem rd_modLookout (f : Lookout → Lookout) (x : Nat) : (s.modLookout f).rd x = s.rd x := rfl
@[simp] theorem get_modLookout (f : Lookout → Lookout) (fd : Fld) (j : Nat) : (s.modLookout f).get fd j = s.get fd j := rfl
@[simp] theorem byte_modLookout (f : Lookout → Lookout) (x : Nat) : (s.modLookout f).byte x = s.byte x := rfl
@[simp] theorem hostByte_modLookout (f : Lookout → Lookout) (x : Nat) : (s.modLookout f).hostByte x = s.hostByte x := rfl
@[simp] theorem tile_modLookout (f : Lookout → Lookout) (m : Fin 64) : (s.modLookout f).tile m = s.tile m := rfl
@[simp] theorem core_modLookout (f : Lookout → Lookout) (k : Fin 66) : (s.modLookout f).core k = s.core k := rfl
@[simp] theorem rd_modClock (f : Clock → Clock) (x : Nat) : (s.modClock f).rd x = s.rd x := rfl
@[simp] theorem get_modClock (f : Clock → Clock) (fd : Fld) (j : Nat) : (s.modClock f).get fd j = s.get fd j := rfl
@[simp] theorem byte_modClock (f : Clock → Clock) (x : Nat) : (s.modClock f).byte x = s.byte x := rfl
@[simp] theorem hostByte_modClock (f : Clock → Clock) (x : Nat) : (s.modClock f).hostByte x = s.hostByte x := rfl
@[simp] theorem tile_modClock (f : Clock → Clock) (m : Fin 64) : (s.modClock f).tile m = s.tile m := rfl
@[simp] theorem core_modClock (f : Clock → Clock) (k : Fin 66) : (s.modClock f).core k = s.core k := rfl

end State
end Sys2Proof.Machine
end

