-- ==== Sys2Proof/Laws/Hiker.lean ====
section
/-! SUPPORT. The Hiker cores: their registers, the core that an update leaves, and what the end of an instruction does. -/

namespace Sys2Proof.Machine

theorem State.readG_zero (c : Core) : State.readG c 0 = 0 := rfl

/-- A general register after a write: g0 keeps 0. -/
theorem State.readG_writeG (c : Core) (r x : Fin 16) (v : Word) :
    State.readG (State.writeG c r v) x = if x = r ∧ x ≠ 0 then v else State.readG c x := by
  unfold State.readG State.writeG
  by_cases hr : r = 0
  · subst hr
    by_cases hx : x = 0 <;> simp [hx]
  · by_cases hx : x = 0
    · simp [hx]
    · by_cases h : x = r
      · subst h; simp [hx]
      · have : r.val ≠ x.val := fun e => h (Fin.ext e.symm)
        simp [hr, hx, h, Vector.getElem_set_ne _ _ this]

/-- The core that was set. -/
theorem State.core_setCore (s : State) (k j : Fin 66) (c : Core) : (s.setCore k c).core j = if j = k then c else s.core j := by
  have h : ∀ t : State, t.cores = s.cores.set k c → t.core j = if j = k then c else s.core j := by
    intro t ht
    unfold State.core
    by_cases e : j = k
    · subst e; simp [ht]
    · have : k.val ≠ j.val := fun h => e (Fin.ext h.symm)
      simp [ht, e, Vector.getElem_set_ne _ _ this]
  unfold State.setCore
  split
  · exact h _ rfl
  · exact h _ rfl

theorem State.core_modCore (s : State) (k j : Fin 66) (f : Core → Core) :
    (s.modCore k f).core j = if j = k then f (s.core k) else s.core j := State.core_setCore s k j _

/-- An instruction outside delay slots and loop ends goes on to the next word. -/
theorem State.complete'_next (c : Core) (old : Vector LoopLevel 2) (hd : c.delay = none)
    (h0 : ¬ (State.loopOn c 0 = true ∧ c.pc = old[0].le)) (h1 : ¬ (State.loopOn c 1 = true ∧ c.pc = old[1].le)) :
    State.complete' c old = { c with pc := c.pc + 4 } := by
  have e : ∀ (i : Fin 2) (l : LoopLevel), ¬ (State.loopOn c i = true ∧ c.pc = l.le) → State.loopEnd c i l = (c, true) := by
    intro i l h
    unfold State.loopEnd
    rw [if_pos]
    by_cases hl : State.loopOn c i = true
    · exact Or.inr fun h' => h ⟨hl, h'⟩
    · exact Or.inl hl
  unfold State.complete'
  rw [hd]
  simp [e 1 _ h1, e 0 _ h0, hd]

/-- A delay slot passes control to its branch's target. -/
theorem State.complete'_slot (c : Core) (old : Vector LoopLevel 2) (d : Word × Word) (h : c.delay = some d) :
    State.complete' c old = { c with pc := d.2, delay := none } := by
  unfold State.complete'
  rw [h]

/-- With no halt, stop or step due, nothing follows an instruction. -/
theorem State.settle_none (s : State) (k : Fin 66) (hd : (s.core k).deferred = none) (hs : (s.core k).stepping = false) :
    s.settle k = s := by
  unfold State.settle
  simp [hd, hs]

/-- A core that is not in WAIT goes on. -/
theorem State.waitEnds_none (s : State) (k : Fin 66) (h : (s.core k).waiting = false) : s.waitEnds k = s := by
  unfold State.waitEnds
  simp [h]

/-- A row runs its instruction on a core that fetches it. -/
theorem State.runHiker_at (s : State) (k : Fin 66) (w : Word) (i : HInstr) (row : HInstr → Option (Fin 66 → State → Eff))
    (f : Fin 66 → State → Eff) (h : Fetches s k w i) (hr : row i = some f) :
    s.runHiker k w row = ((s.cacheFetch k (s.core k).pc.toNat).runInstr k i f).settle k := by
  obtain ⟨h1, h2, h3, h4, h5⟩ := h
  unfold State.runHiker
  rw [State.waitEnds_none s k h2]
  cases e : s.fetchWords k (s.core k).pc.toNat with
  | none => simp [e] at h4
  | some ws =>
    rw [e] at h4
    have h4' : w ∈ ws := by simpa using h4
    simp [h1, h2, h3, e, h4', State.runWord, h5, hr]

/-- A row does nothing on a core that fetches an instruction of another row. -/
theorem State.runHiker_other (s : State) (k : Fin 66) (w : Word) (i : HInstr) (row : HInstr → Option (Fin 66 → State → Eff))
    (h : Fetches s k w i) (hr : row i = none) : s.runHiker k w row = s := by
  obtain ⟨h1, h2, h3, h4, h5⟩ := h
  unfold State.runHiker
  rw [State.waitEnds_none s k h2]
  cases e : s.fetchWords k (s.core k).pc.toNat with
  | none => simp [e] at h4
  | some ws =>
    rw [e] at h4
    have h4' : w ∈ ws := by simpa using h4
    simp [h1, h2, h3, e, h4', State.runWord, h5, hr]

/-- Where an instruction may stand, its effect is finished on the counted core. -/
theorem State.runInstr_done (s t : State) (k : Fin 66) (i : HInstr) (f : Fin 66 → State → Eff) (hm : misplaced (s.core k) i = false)
    (hl : (s.core k).lock = none) (he : f k (s.modCore k State.counted) = .done t) :
    s.runInstr k i f = t.modCore k fun c => State.complete' c (s.core k).loops := by
  have hc : (s.modCore k State.counted).core k = State.counted (s.core k) := by rw [State.core_modCore, if_pos rfl]
  have ho : State.overCount (State.counted (s.core k)) (.done t) = .done t := by simp [State.overCount, State.counted, hl]
  unfold State.runInstr
  simp only [hm, he, hc, ho, Bool.false_eq_true, if_false, State.finishEff]
  rfl

/-- A place that Canopy's cache does not fetch for: a tile core's fetch changes nothing. -/
theorem State.cacheFetch_tile (s : State) (k : Fin 66) (pc : Nat) (h : k.val < 64) : s.cacheFetch k pc = s := by
  unfold State.cacheFetch
  simp [h]

end Sys2Proof.Machine
end

