-- ==== Sys2Proof/Laws/Sparse.lean ====
section
/-! SUPPORT. Sparse maps: a read after a write, and the canonical form that every write keeps. -/

namespace Sys2Proof.Machine

variable {α : Type}

theorem sparseFind_insert (k j : Nat) (v : α) (l : List (Nat × α)) :
    sparseFind j (sparseInsert k v l) = if j = k then some v else sparseFind j l := by
  induction l with
  | nil => simp [sparseInsert, sparseFind, eq_comm]
  | cons e l ih =>
    obtain ⟨k', v'⟩ := e
    simp only [sparseInsert]
    split
    · simp [sparseFind, eq_comm]
    · split
      · subst k'
        simp only [sparseFind, eq_comm]
        split <;> simp_all
      · simp only [sparseFind, ih]
        split <;> rename_i h1
        · subst h1
          simp_all [eq_comm]
        · rfl

theorem sparseFind_erase (k j : Nat) (l : List (Nat × α)) :
    sparseFind j (sparseErase k l) = if j = k then none else sparseFind j l := by
  induction l with
  | nil => simp [sparseErase, sparseFind]
  | cons e l ih =>
    obtain ⟨k', v'⟩ := e
    simp only [sparseErase]
    split
    · subst k'
      simp only [ih, sparseFind]
      split <;> simp_all [eq_comm]
    · simp only [sparseFind, ih]
      split <;> simp_all [eq_comm]

/-- A read of a sparse map after a write. -/
theorem sparseFind_put [DecidableEq α] (d v : α) (k j : Nat) (l : List (Nat × α)) :
    (sparseFind j (sparsePut d k v l)).getD d = if j = k then v else (sparseFind j l).getD d := by
  unfold sparsePut
  split
  · simp only [sparseFind_erase]
    split <;> simp_all
  · simp only [sparseFind_insert]
    split <;> simp

/-- A read of another key after a write. -/
theorem sparseFind_put_ne [DecidableEq α] (d v : α) {k j : Nat} (h : j ≠ k) (l : List (Nat × α)) :
    sparseFind j (sparsePut d k v l) = sparseFind j l := by
  unfold sparsePut
  split <;> simp [sparseFind_erase, sparseFind_insert, h]

theorem keysRiseFrom_mono {lo lo' : Nat} (h : lo' ≤ lo) (l : List (Nat × α)) (hl : keysRiseFrom lo l = true) :
    keysRiseFrom lo' l = true := by
  cases l with
  | nil => rfl
  | cons e l =>
    obtain ⟨k, v⟩ := e
    simp only [keysRiseFrom, Bool.and_eq_true, decide_eq_true_eq] at *
    exact ⟨by omega, hl.2⟩

theorem keysRiseFrom_insert (k : Nat) (v : α) (l : List (Nat × α)) :
    ∀ lo, lo ≤ k → keysRiseFrom lo l = true → keysRiseFrom lo (sparseInsert k v l) = true := by
  induction l with
  | nil => intro lo h _; simp [sparseInsert, keysRiseFrom, h]
  | cons e l ih =>
    obtain ⟨k', v'⟩ := e
    intro lo h hl
    simp only [keysRiseFrom, Bool.and_eq_true, decide_eq_true_eq] at hl
    simp only [sparseInsert]
    split
    · simp only [keysRiseFrom, Bool.and_eq_true, decide_eq_true_eq]
      exact ⟨h, by omega, hl.2⟩
    · split
      · subst k'
        simp only [keysRiseFrom, Bool.and_eq_true, decide_eq_true_eq]
        exact ⟨h, hl.2⟩
      · simp only [keysRiseFrom, Bool.and_eq_true, decide_eq_true_eq]
        exact ⟨hl.1, ih (k' + 1) (by omega) hl.2⟩

theorem keysRiseFrom_erase (k : Nat) (l : List (Nat × α)) :
    ∀ lo, keysRiseFrom lo l = true → keysRiseFrom lo (sparseErase k l) = true := by
  induction l with
  | nil => intro lo _; rfl
  | cons e l ih =>
    obtain ⟨k', v'⟩ := e
    intro lo hl
    simp only [keysRiseFrom, Bool.and_eq_true, decide_eq_true_eq] at hl
    simp only [sparseErase]
    split
    · exact keysRiseFrom_mono (by omega) _ (ih (k' + 1) hl.2)
    · simp only [keysRiseFrom, Bool.and_eq_true, decide_eq_true_eq]
      exact ⟨hl.1, ih (k' + 1) hl.2⟩

theorem all_insert (p : Nat × α → Bool) (k : Nat) (v : α) (l : List (Nat × α)) (hp : p (k, v) = true) (hl : l.all p = true) :
    (sparseInsert k v l).all p = true := by
  induction l with
  | nil => simp [sparseInsert, hp]
  | cons e l ih =>
    obtain ⟨k', v'⟩ := e
    simp only [List.all_cons, Bool.and_eq_true] at hl
    simp only [sparseInsert]
    split
    · simp [hp, hl.1, hl.2]
    · split
      · simp [hp, hl.2]
      · simp [hl.1, ih hl.2]

theorem all_erase (p : Nat × α → Bool) (k : Nat) (l : List (Nat × α)) (hl : l.all p = true) :
    (sparseErase k l).all p = true := by
  induction l with
  | nil => rfl
  | cons e l ih =>
    obtain ⟨k', v'⟩ := e
    simp only [List.all_cons, Bool.and_eq_true] at hl
    simp only [sparseErase]
    split
    · exact ih hl.2
    · simp [hl.1, ih hl.2]

/-- A write keeps the canonical form. -/
theorem sparseWf_put [DecidableEq α] (d : Nat → α) (k : Nat) (v : α) (l : List (Nat × α)) (h : sparseWf d l = true) :
    sparseWf d (sparsePut (d k) k v l) = true := by
  simp only [sparseWf, Bool.and_eq_true] at *
  unfold sparsePut
  split
  · exact ⟨keysRiseFrom_erase k l 0 h.1, all_erase _ k l h.2⟩
  · rename_i hv
    exact ⟨keysRiseFrom_insert k v l 0 (Nat.zero_le _) h.1, all_insert _ k v l (by simpa using hv) h.2⟩

theorem keysRiseFrom_filter (p : Nat × α → Bool) (l : List (Nat × α)) :
    ∀ lo, keysRiseFrom lo l = true → keysRiseFrom lo (l.filter p) = true := by
  induction l with
  | nil => intro lo _; rfl
  | cons e l ih =>
    obtain ⟨k', v'⟩ := e
    intro lo hl
    simp only [keysRiseFrom, Bool.and_eq_true, decide_eq_true_eq] at hl
    simp only [List.filter_cons]
    split
    · simp only [keysRiseFrom, Bool.and_eq_true, decide_eq_true_eq]
      exact ⟨hl.1, ih _ hl.2⟩
    · exact keysRiseFrom_mono (by omega) _ (ih (k' + 1) hl.2)

/-- Entries that a filter keeps keep the canonical form. -/
theorem sparseWf_filter [DecidableEq α] (d : Nat → α) (p : Nat × α → Bool) (l : List (Nat × α)) (h : sparseWf d l = true) :
    sparseWf d (l.filter p) = true := by
  simp only [sparseWf, Bool.and_eq_true] at *
  refine ⟨keysRiseFrom_filter p l 0 h.1, ?_⟩
  simp only [List.all_eq_true, List.mem_filter] at *
  exact fun x hx => h.2 x hx.1

end Sys2Proof.Machine
end

