-- ==== Sys2Proof/Laws/Registers.lean ====
section
/-! SUPPORT. Registers and fields: a read after a write of the same field, of a neighbour in the word, of another word. -/

namespace Sys2Proof.Machine

/-- Bits of a field of a word. -/
theorem testBit_bits (v m l i : Nat) : (bits v m l).testBit i = (decide (i < m + 1 - l) && v.testBit (l + i)) := by
  unfold bits
  rw [Nat.testBit_mod_two_pow, Nat.testBit_div_two_pow, Nat.add_comm i l]

theorem insertBits_toNat (w : Word) (m l v : Nat) (hl : l ≤ m) (hm : m < 32) :
    (insertBits w m l v).toNat = 2 ^ (m + 1) * (w.toNat / 2 ^ (m + 1)) + (2 ^ l * (v % 2 ^ (m + 1 - l)) + w.toNat % 2 ^ l) := by
  have hw := w.isLt
  obtain ⟨k, hk⟩ : ∃ k, m + 1 = l + k := ⟨m + 1 - l, by omega⟩
  have hkk : m + 1 - l = k := by omega
  unfold insertBits bits
  rw [hkk, hk]
  have e1 : w.toNat = 2 ^ l * (w.toNat / 2 ^ l) + w.toNat % 2 ^ l := (Nat.div_add_mod _ _).symm
  have e2 : w.toNat / 2 ^ l = 2 ^ k * (w.toNat / 2 ^ (l + k)) + w.toNat / 2 ^ l % 2 ^ k := by
    rw [Nat.pow_add, ← Nat.div_div_eq_div_mul]; exact (Nat.div_add_mod _ _).symm
  have hv : v % 2 ^ k < 2 ^ k := Nat.mod_lt _ (Nat.two_pow_pos k)
  have hlo : w.toNat % 2 ^ l < 2 ^ l := Nat.mod_lt _ (Nat.two_pow_pos l)
  generalize hA : w.toNat / 2 ^ (l + k) = A at *
  generalize hB : w.toNat / 2 ^ l % 2 ^ k = B at *
  generalize hC : w.toNat % 2 ^ l = C at *
  generalize hV : v % 2 ^ k = V at *
  have hpow : (2 : Nat) ^ (l + k) = 2 ^ l * 2 ^ k := Nat.pow_add _ _ _
  have e3 : w.toNat = 2 ^ (l + k) * A + 2 ^ l * B + C := by
    rw [e1, e2, hpow, Nat.mul_add, Nat.mul_assoc]
  have e4 : w.toNat - B * 2 ^ l + V * 2 ^ l = 2 ^ (l + k) * A + (2 ^ l * V + C) := by
    rw [e3, Nat.mul_comm B, Nat.mul_comm V]; omega
  rw [e4, BitVec.toNat_ofNat, Nat.mod_eq_of_lt]
  have h32 : (2 : Nat) ^ 32 = 2 ^ (l + k) * 2 ^ (32 - (l + k)) := by rw [← Nat.pow_add]; congr 1; omega
  have hA' : A < 2 ^ (32 - (l + k)) := by
    rw [← hA]; apply Nat.div_lt_of_lt_mul; rw [← h32]; exact hw
  have hVC : 2 ^ l * V + C < 2 ^ (l + k) := by
    rw [hpow]
    calc 2 ^ l * V + C < 2 ^ l * V + 2 ^ l := by omega
      _ = 2 ^ l * (V + 1) := by rw [Nat.mul_add, Nat.mul_one]
      _ ≤ 2 ^ l * 2 ^ k := Nat.mul_le_mul_left _ hv
  rw [h32]
  calc 2 ^ (l + k) * A + (2 ^ l * V + C) < 2 ^ (l + k) * A + 2 ^ (l + k) := by omega
    _ = 2 ^ (l + k) * (A + 1) := by rw [Nat.mul_add, Nat.mul_one]
    _ ≤ 2 ^ (l + k) * 2 ^ (32 - (l + k)) := Nat.mul_le_mul_left _ hA'

/-- Bits of a word with one field replaced. -/
theorem testBit_insertBits (w : Word) (m l v i : Nat) (hl : l ≤ m) (hm : m < 32) :
    (insertBits w m l v).toNat.testBit i =
      if l ≤ i ∧ i ≤ m then v.testBit (i - l) else w.toNat.testBit i := by
  have hlo : w.toNat % 2 ^ l < 2 ^ l := Nat.mod_lt _ (Nat.two_pow_pos l)
  have hv : v % 2 ^ (m + 1 - l) < 2 ^ (m + 1 - l) := Nat.mod_lt _ (Nat.two_pow_pos _)
  have hin : 2 ^ l * (v % 2 ^ (m + 1 - l)) + w.toNat % 2 ^ l < 2 ^ (m + 1) := by
    have hp : (2 : Nat) ^ (m + 1) = 2 ^ l * 2 ^ (m + 1 - l) := by rw [← Nat.pow_add]; congr 1; omega
    rw [hp]
    calc _ < 2 ^ l * (v % 2 ^ (m + 1 - l)) + 2 ^ l := by omega
      _ = 2 ^ l * (v % 2 ^ (m + 1 - l) + 1) := by rw [Nat.mul_add, Nat.mul_one]
      _ ≤ _ := Nat.mul_le_mul_left _ hv
  rw [insertBits_toNat w m l v hl hm, Nat.testBit_two_pow_mul_add _ hin, Nat.testBit_two_pow_mul_add _ hlo]
  by_cases h1 : i < m + 1
  · by_cases h2 : i < l
    · have h3 : ¬ (l ≤ i ∧ i ≤ m) := by omega
      simp [h1, h2, h3, Nat.testBit_mod_two_pow]
    · have h3 : l ≤ i ∧ i ≤ m := by omega
      have h4 : i - l < m + 1 - l := by omega
      simp [h1, h2, h3, h4, Nat.testBit_mod_two_pow]
  · have h3 : ¬ (l ≤ i ∧ i ≤ m) := by omega
    simp only [h1, h3, if_false, Nat.testBit_div_two_pow]
    congr 1; omega

/-- The field that was replaced. -/
theorem bits_insertBits (w : Word) (m l v : Nat) (hl : l ≤ m) (hm : m < 32) :
    bits (insertBits w m l v).toNat m l = v % 2 ^ (m + 1 - l) := by
  apply Nat.eq_of_testBit_eq
  intro i
  rw [testBit_bits, testBit_insertBits _ _ _ _ _ hl hm, Nat.testBit_mod_two_pow]
  by_cases h : i < m + 1 - l
  · simp [h, show l ≤ l + i ∧ l + i ≤ m by omega]
  · simp [h]

/-- A field beside the one that was replaced. -/
theorem bits_insertBits_ne (w : Word) (m l v m' l' : Nat) (hl : l ≤ m) (hm : m < 32) (hne : m' < l ∨ m < l') :
    bits (insertBits w m l v).toNat m' l' = bits w.toNat m' l' := by
  apply Nat.eq_of_testBit_eq
  intro i
  rw [testBit_bits, testBit_bits, testBit_insertBits _ _ _ _ _ hl hm]
  by_cases h : i < m' + 1 - l'
  · simp [h, show ¬ (l ≤ l' + i ∧ l' + i ≤ m) by omega]
  · simp [h]

namespace State

theorem rd_wr (s : State) (a b : Nat) (v : Word) : (s.wr a v).rd b = if b = a then v else s.rd b := by
  unfold rd wr
  by_cases h : b = a
  · subst h; simp [sparseFind_put]
  · simp [sparseFind_put_ne _ _ h, h]

theorem rd_wr_ne (s : State) (a b : Nat) (v : Word) (h : b ≠ a) : (s.wr a v).rd b = s.rd b := by simp [rd_wr, h]

/-- A field after it was set. -/
theorem get_set_same (s : State) (f : Fld) (v i : Nat) (hl : f.lsb ≤ f.msb) (hm : f.msb < 32) :
    (s.set f v i).get f i = v % 2 ^ (f.msb + 1 - f.lsb) := by
  simp [get, set, rd_wr, bits_insertBits _ _ _ _ hl hm]

/-- A field of another word. -/
theorem get_set_word (s : State) (f g : Fld) (v i j : Nat) (h : g.at j ≠ f.at i) : (s.set f v i).get g j = s.get g j := by
  simp [get, set, rd_wr, h]

/-- Another field of the same word. -/
theorem get_set_bits (s : State) (f g : Fld) (v i j : Nat) (hl : f.lsb ≤ f.msb) (hm : f.msb < 32)
    (h : g.msb < f.lsb ∨ f.msb < g.lsb) : (s.set f v i).get g j = s.get g j := by
  by_cases hw : g.at j = f.at i
  · simp [get, set, rd_wr, hw, bits_insertBits_ne _ _ _ _ _ _ hl hm h]
  · exact get_set_word s f g v i j hw

/-- A word that the field does not lie in. -/
theorem rd_set_ne (s : State) (f : Fld) (v i a : Nat) (h : a ≠ f.at i) : (s.set f v i).rd a = s.rd a := by
  simp [set, rd_wr, h]

/-- A register write keeps the map canonical. -/
theorem wr_wf (s : State) (a : Nat) (v : Word) (h : sparseWf resetWord s.regs = true) :
    sparseWf resetWord (s.wr a v).regs = true := sparseWf_put resetWord a v s.regs h

/-- Setting a field keeps the map canonical. -/
theorem set_wf (s : State) (f : Fld) (v i : Nat) (h : sparseWf resetWord s.regs = true) :
    sparseWf resetWord (s.set f v i).regs = true := wr_wf _ _ _ h

end State
end Sys2Proof.Machine
end

