-- ==== Sys2Proof/Laws/Memory.lean ====
section
/-! SUPPORT. Reads after writes of the memories, and that each memory operation keeps the canonical form. -/

namespace Sys2Proof.Machine
namespace State

theorem byte_setByte (s : State) (a x : Nat) (b : Byte) : (s.setByte a b).byte x = if x = a then b else s.byte x := by
  unfold byte setByte
  by_cases h : x = a
  · subst h; simp [sparseFind_put]
  · simp [sparseFind_put_ne _ _ h, h]

/-- A byte after a byte string was written: inside the string its byte, outside it what it was. -/
theorem byte_setBytes (l : List Byte) : ∀ (s : State) (a x : Nat),
    (s.setBytes a l).byte x = if a ≤ x ∧ x < a + l.length then l.getD (x - a) 0 else s.byte x := by
  induction l with
  | nil => intro s a x; simp [setBytes, show ¬ (a ≤ x ∧ x < a) by omega]
  | cons b l ih =>
    intro s a x
    simp only [setBytes, ih, byte_setByte, List.length_cons]
    by_cases h1 : x = a
    · subst h1; simp [show ¬ (x + 1 ≤ x) by omega]
    · by_cases h2 : a + 1 ≤ x ∧ x < a + 1 + l.length
      · rw [if_pos h2, if_pos ⟨by omega, by omega⟩, show x - a = (x - (a + 1)) + 1 by omega, List.getD_cons_succ]
      · rw [if_neg h2, if_neg h1, if_neg (by omega)]

/-- Every byte outside a written string keeps its value. -/
theorem memOutside_setBytes (s : State) (a : Nat) (l : List Byte) : MemOutside a l.length s (s.setBytes a l) := by
  intro x hx
  rw [byte_setBytes, if_neg (by omega)]

theorem hostByte_hostStore (l : List Byte) : ∀ (s : State) (a x : Nat),
    (s.hostStore a l).hostByte x = if a ≤ x ∧ x < a + l.length then l.getD (x - a) 0 else s.hostByte x := by
  induction l with
  | nil => intro s a x; simp [hostStore, show ¬ (a ≤ x ∧ x < a) by omega]
  | cons b l ih =>
    intro s a x
    have hb : ∀ y, hostByte { s with host := sparsePut 0 a b s.host } y = if y = a then b else s.hostByte y := by
      intro y
      unfold hostByte
      by_cases h : y = a
      · subst h; simp [sparseFind_put]
      · simp [sparseFind_put_ne _ _ h, h]
    simp only [hostStore, ih, hb, List.length_cons]
    by_cases h1 : x = a
    · subst h1; simp [show ¬ (x + 1 ≤ x) by omega]
    · by_cases h2 : a + 1 ≤ x ∧ x < a + 1 + l.length
      · rw [if_pos h2, if_pos ⟨by omega, by omega⟩, show x - a = (x - (a + 1)) + 1 by omega, List.getD_cons_succ]
      · rw [if_neg h2, if_neg h1, if_neg (by omega)]

@[simp] theorem bytes_length (s : State) (a k : Nat) : (s.bytes a k).length = k := by
  induction k generalizing a with
  | zero => rfl
  | succ k ih => simp [bytes, ih]

theorem setByte_wf (s : State) (a : Nat) (b : Byte) (h : Memory.wf s.mem = true) : Memory.wf (s.setByte a b).mem = true :=
  sparseWf_put _ a b s.mem h

theorem setBytes_wf (l : List Byte) : ∀ (s : State) (a : Nat), Memory.wf s.mem = true → Memory.wf (s.setBytes a l).mem = true := by
  induction l with
  | nil => intro s a h; exact h
  | cons b l ih => intro s a h; exact ih _ _ (setByte_wf s a b h)

theorem store_wf (s : State) (a k v : Nat) (h : Memory.wf s.mem = true) : Memory.wf (s.store a k v).mem = true :=
  setBytes_wf _ s a h

theorem hostStore_wf (l : List Byte) : ∀ (s : State) (a : Nat), Memory.wf s.host = true →
    Memory.wf (s.hostStore a l).host = true := by
  induction l with
  | nil => intro s a h; exact h
  | cons b l ih => intro s a h; exact ih _ _ (sparseWf_put _ a b s.host h)

theorem sharedWrite_wf (s : State) (w : Option (Fin 66)) (a : Nat) (b : List Byte) (h : Memory.wf s.mem = true) :
    Memory.wf (s.sharedWrite w a b).mem = true := by
  simp only [sharedWrite, breakLocks]
  exact setBytes_wf b s a h

/-- A write of the Hiker region or the shared SRAM leaves every other byte. -/
theorem memOutside_sharedWrite (s : State) (w : Option (Fin 66)) (a : Nat) (b : List Byte) :
    MemOutside a b.length s (s.sharedWrite w a b) := by
  intro x hx
  simp only [sharedWrite, breakLocks, byte]
  exact memOutside_setBytes s a b x hx

theorem setBytes_regs (l : List Byte) : ∀ (s : State) (a : Nat), (s.setBytes a l).regs = s.regs := by
  induction l with
  | nil => intro s a; rfl
  | cons b l ih => intro s a; exact ih _ _

theorem hostStore_regs (l : List Byte) : ∀ (s : State) (a : Nat), (s.hostStore a l).regs = s.regs := by
  induction l with
  | nil => intro s a; rfl
  | cons b l ih => intro s a; exact ih _ _

/-- A write of the on-chip memories keeps the canonical form of all three maps. -/
theorem setByte_canonical (s : State) (a : Nat) (b : Byte) (h : Canonical s) : Canonical (s.setByte a b) :=
  ⟨h.1, setByte_wf s a b h.2.1, h.2.2⟩

/-- A register write keeps the canonical form of all three maps. -/
theorem wr_canonical (s : State) (a : Nat) (v : Word) (h : Canonical s) : Canonical (s.wr a v) := ⟨wr_wf s a v h.1, h.2⟩

/-- An update of the state beside the three maps keeps their canonical form. -/
theorem canonical_of_eq {s t : State} (h : Canonical s) (hr : t.regs = s.regs) (hm : t.mem = s.mem) (hh : t.host = s.host) :
    Canonical t := by unfold Canonical at *; rw [hr, hm, hh]; exact h

end State
end Sys2Proof.Machine
end

