-- ==== Sys2Proof/Laws/Post.lean ====
section
/-! SUPPORT. What sending out can do: an event, a completion, a frame or a journal record changes registers, host memory, the rings,
the link ports and the fault log, and nothing else. -/

namespace Sys2Proof.Machine

/-- `t` differs from `s` at most in what sending out changes. -/
def OnlyPost (s t : State) : Prop := t = { s with regs := t.regs, host := t.host, hamper := t.hamper, usfen := t.usfen, ps := t.ps }

namespace OnlyPost

theorem refl (s : State) : OnlyPost s s := rfl

theorem trans {s t u : State} (h : OnlyPost s t) (k : OnlyPost t u) : OnlyPost s u := by
  unfold OnlyPost at *
  rw [k, h]

theorem mem {s t : State} (h : OnlyPost s t) : t.mem = s.mem := by rw [h]
theorem tiles {s t : State} (h : OnlyPost s t) : t.tiles = s.tiles := by rw [h]
theorem groups {s t : State} (h : OnlyPost s t) : t.groups = s.groups := by rw [h]
theorem cores {s t : State} (h : OnlyPost s t) : t.cores = s.cores := by rw [h]
theorem now {s t : State} (h : OnlyPost s t) : t.now = s.now := by rw [h]
theorem canopy {s t : State} (h : OnlyPost s t) : t.canopy = s.canopy := by rw [h]
theorem clock {s t : State} (h : OnlyPost s t) : t.clock = s.clock := by rw [h]
theorem pending {s t : State} (h : OnlyPost s t) : t.pending = s.pending := by rw [h]

/-- A fold of steps that only send out only sends out. -/
theorem foldl {α : Type} (f : State → α → State) (h : ∀ s a, OnlyPost s (f s a)) (l : List α) : ∀ s, OnlyPost s (l.foldl f s) := by
  induction l with
  | nil => exact refl
  | cons a l ih => exact fun s => (h s a).trans (ih _)

end OnlyPost

namespace State

theorem set_post (s : State) (f : Fld) (v i : Nat) : OnlyPost s (s.set f v i) := rfl

theorem setPort_post (s : State) (p : Fin 4) (q : Port) : OnlyPost s (s.setPort p q) := rfl

theorem hostStore_post (l : List Byte) : ∀ (s : State) (a : Nat), OnlyPost s (s.hostStore a l) := by
  induction l with
  | nil => exact fun s _ => OnlyPost.refl s
  | cons b l ih => exact fun s a => (show OnlyPost s { s with host := sparsePut 0 a b s.host } from rfl).trans (ih _ _)

theorem sendVector_post (s : State) (v : Nat) : OnlyPost s (s.sendVector v) := by
  unfold sendVector; split <;> rfl

theorem onWire_post (s : State) (p : Fin 4) (f : Frame) : OnlyPost s (s.onWire p f) := rfl

theorem sendNumbered_post (s : State) (p : Fin 4) (f : Frame) : OnlyPost s (s.sendNumbered p f) := by
  unfold sendNumbered; dsimp only; repeat' split
  all_goals rfl

theorem sendOn_post (s : State) (p : Fin 4) (f : Frame) : OnlyPost s (s.sendOn p f) := by
  unfold sendOn; repeat' split
  · exact OnlyPost.refl s
  · exact onWire_post _ _ _
  · exact sendNumbered_post _ _ _

theorem floodExcept_post (s : State) (f : Frame) (x : Option (Fin 4)) : OnlyPost s (s.floodExcept f x) :=
  OnlyPost.foldl _ (fun s p => by
    split
    · exact OnlyPost.refl s
    · exact sendOn_post _ _ _) _ s

theorem flood_post (s : State) (typ : Nat) (b : List Byte) : OnlyPost s (s.flood typ b) := floodExcept_post _ _ _

theorem sendRouted_post (s : State) (typ r d : Nat) (b : List Byte) : OnlyPost s (s.sendRouted typ r d b) := by
  unfold sendRouted; split
  · exact OnlyPost.refl s
  · exact sendOn_post _ _ _

theorem toHost_post (s : State) (d : Bool) (a : Nat) (b : List Byte) (v : Option Nat) : OnlyPost s (s.toHost d a b v) := by
  unfold toHost; split
  · cases v with
    | none => exact hostStore_post _ _ _
    | some v => exact (hostStore_post _ _ _).trans (sendVector_post _ _)
  · exact sendOn_post _ _ _

theorem setCoal_post (s : State) (r v : Nat) : OnlyPost s (s.setCoal r v) := rfl

theorem coalesce_post (s : State) (r l : Nat) (b : Bool) : OnlyPost s (s.coalesce r l b).2 := by
  unfold coalesce; split <;> rfl

theorem eventToRing_post (e kind tile seq time : Nat) (b : List Byte) (s : State) : OnlyPost s (eventToRing e kind tile seq time b s) := by
  unfold eventToRing; split
  · exact OnlyPost.refl s
  · dsimp only; split
    · rfl
    · refine OnlyPost.trans ?_ (toHost_post _ _ _ _ _)
      exact (coalesce_post s (64 + e) (s.get R.EV_CFG_coal_count e) false).trans rfl

theorem eventToMailbox_post (kind tile seq time : Nat) (b : List Byte) (s : State) :
    OnlyPost s (eventToMailbox kind tile seq time b s) := by
  unfold eventToMailbox; dsimp only; repeat' split
  all_goals rfl

/-- An event record of any kind and time. -/
theorem eventAt_post (s : State) (time kind tile : Nat) (b : List Byte) : OnlyPost s (s.eventAt time kind tile b) := by
  unfold eventAt; dsimp only
  have h : ∀ u : State, OnlyPost s u → OnlyPost s (if u.hostKind = 2 then eventToMailbox kind tile s.hamper.evSeq time b u
      else (List.range 8).foldl (fun s' e => eventToRing e kind tile s.hamper.evSeq time b s') u) := by
    intro u hu
    split
    · exact hu.trans (eventToMailbox_post _ _ _ _ _ _)
    · exact hu.trans (OnlyPost.foldl _ (fun s e => eventToRing_post _ _ _ _ _ _ _) _ _)
  exact h _ (by split <;> rfl)

theorem event_post (s : State) (kind tile : Nat) (b : List Byte) : OnlyPost s (s.event kind tile b) := eventAt_post _ _ _ _ _

theorem cplWrite_post (s : State) (c : Nat) (b : List Byte) (irq : Bool) : OnlyPost s (s.cplWrite c b irq) := by
  unfold cplWrite; dsimp only
  refine OnlyPost.trans ?_ (toHost_post _ _ _ _ _)
  exact (coalesce_post s c (s.get R.CQ_CFG_coal_count c) irq).trans (set_post _ _ _ _)

theorem cplToCq_post (s : State) (c : Nat) (b : List Byte) (irq : Bool) : OnlyPost s (s.cplToCq c b irq) := by
  unfold cplToCq; repeat' split
  · exact OnlyPost.refl s
  · exact rfl
  · exact cplWrite_post _ _ _ _

theorem cplToMailbox_post (s : State) (b : List Byte) : OnlyPost s (s.cplToMailbox b) := by
  unfold cplToMailbox; split <;> rfl

/-- A completion delivered to the host or to the root that sent the command. -/
theorem deliver_post (s : State) (r : CmdRef) (st fl res : Nat) : OnlyPost s (s.deliver r st fl res) := by
  unfold deliver
  cases r.own with
  | false => exact sendRouted_post _ _ _ _ _
  | true =>
    by_cases h : s.hostKind = 2
    · simp only [h, if_true]; exact cplToMailbox_post _ _
    · simp only [h, if_true, if_false]; exact cplToCq_post _ _ _ _

theorem setTracks_post (s : State) (l : List Track) : OnlyPost s (s.setTracks l) := rfl

theorem unfetch_post (s : State) (r : CmdRef) : OnlyPost s (s.unfetch r) := rfl

/-- A command's final completion. -/
theorem complete_post (s : State) (r : CmdRef) (st res : Nat) : OnlyPost s (s.complete r st res) := by
  unfold complete; dsimp only
  exact (deliver_post s _ _ _ _).trans rfl

theorem accepted_post (s : State) (r : CmdRef) (res : Nat) : OnlyPost s (s.accepted r res) := by
  unfold accepted; split
  · exact deliver_post _ _ _ _ _
  · exact OnlyPost.refl s

/-- The end of a command that acts at once. -/
theorem finish_post (s : State) (r : CmdRef) (st res : Nat) : OnlyPost s (s.finish r st res) := by
  unfold finish; split
  · exact (accepted_post _ _ _).trans (complete_post _ _ _ _)
  · exact complete_post _ _ _ _

theorem track_post (s : State) (r : CmdRef) (p : Point) : OnlyPost s (s.track r p) := rfl

theorem completeAt_post (s : State) (p : Point) (st res : Nat) : OnlyPost s (s.completeAt p st res) :=
  OnlyPost.foldl _ (fun s t => complete_post s _ _ _) _ s

theorem journal_post (s : State) (j kind tile time : Nat) (b : List Byte) : OnlyPost s (s.journal j kind tile time b) := by
  unfold journal; repeat' split
  all_goals rfl

end State
end Sys2Proof.Machine
end

