-- ==== Sys2Proof/WellFormed.lean ====
section
/-! DEFINITION. The commands whose operands a sender can form: a Hiker word of its own row, a descriptor of whole slots, a frame
whose header and payload fit their fields, a list of boundary cells. The machine's meanings are total; a statement or a test
uses these checks where it means a command that can arrive. -/

namespace Sys2Proof
open Sys2Proof.Machine

/-- A Hiker word decodes to an instruction of row `r` (R427, R428). -/
def rowIs (r : Nat) (w : Word) : Bool := decide ((HInstr.decode w).map HInstr.row = some r)

/-- A requester names a tile that exists (R11). -/
def Requester.wf : Requester → Bool
  | .tile n => decide (n < 64)
  | _ => true

/-- A route of `depth` levels (R463): unit numbers of 12 bits, zero above. -/
def routeWf (route depth : Nat) : Bool := decide (depth ≤ 6) && decide (route < 2 ^ (12 * depth))

/-- The origin of a command: a tag of 16 bits, a queue and a completion queue that exist, a route (R463, R469). -/
def CmdRef.wf (r : CmdRef) : Bool :=
  decide (r.tag < 2 ^ 16) && decide (r.sq < 128) && decide (r.cq < 64) && routeWf r.srcRoute r.srcDepth

/-- A command is a slot of 64 bytes with EXT slots of 64 bytes (R463, R465). -/
def Desc.wf (d : Desc) : Bool :=
  d.ref.wf && decide (d.slot.length = 64) && d.ext.all fun e => decide (e.length = 64)

/-- Slots read from a ring have 64 bytes each (R463). -/
def slotsWf (slots : Option (List (List Byte))) : Bool := (slots.getD []).all fun e => decide (e.length = 64)

/-- A frame fits its header (R494): a payload of at most 272 bytes, a multiple of 4, and a route for each end; a flooded frame
names no destination. -/
def Frame.wf (f : Frame) : Bool :=
  decide (f.typ < 256) && decide (f.hops < 256) && decide (f.lseq < 2 ^ 16) && routeWf f.dstRoute f.dstDepth &&
    routeWf f.srcRoute f.srcDepth && decide (f.payload.length ≤ 272) && decide (f.payload.length % 4 = 0) &&
    (!f.flood || decide (f.dstDepth = 0))

/-- A tile of the unit named by a route that exists (R463). -/
def AxisRef.wf (a : AxisRef) : Bool := routeWf a.route a.depth

/-- A flash density that the window can hold or truncates (R643): at most 2^32 bytes. -/
def Sfdp.wf (d : Sfdp) : Bool := decide (d.log2 ≤ 32)

/-- A boundary cell is named once. -/
def cellsWf (cells : List (Fin 64 × Fin 256)) : Bool := decide (cells.map Prod.fst).Nodup

/-- A command that a sender can form. -/
def Instr.wf : Instr → Bool
  | .groupForm d _ ms => d.wf && ms.all AxisRef.wf
  | .groupDissolve d => d.wf
  | .groupMove d => d.wf
  | .groupStop d => d.wf
  | .groupAbort d => d.wf
  | .groupFreeze d => d.wf
  | .groupResume d => d.wf
  | .groupReplace d => d.wf
  | .migrate d => d.wf
  | .migrateLeader d => d.wf
  | .siteTrigger d => d.wf
  | .add _ w => rowIs 0x100 w
  | .adc _ w => rowIs 0x101 w
  | .sub _ w => rowIs 0x102 w
  | .sbc _ w => rowIs 0x103 w
  | .and _ w => rowIs 0x104 w
  | .or _ w => rowIs 0x105 w
  | .xor _ w => rowIs 0x106 w
  | .andn _ w => rowIs 0x107 w
  | .shl _ w => rowIs 0x108 w
  | .shr _ w => rowIs 0x109 w
  | .sar _ w => rowIs 0x10A w
  | .ror _ w => rowIs 0x10B w
  | .min _ w => rowIs 0x10C w
  | .max _ w => rowIs 0x10D w
  | .minu _ w => rowIs 0x10E w
  | .maxu _ w => rowIs 0x10F w
  | .clz _ w => rowIs 0x110 w
  | .sextb _ w => rowIs 0x111 w
  | .sexth _ w => rowIs 0x112 w
  | .sel _ w => rowIs 0x113 w
  | .slt _ w => rowIs 0x114 w
  | .sltu _ w => rowIs 0x115 w
  | .mul _ w => rowIs 0x200 w
  | .mulh _ w => rowIs 0x201 w
  | .mulhu _ w => rowIs 0x202 w
  | .div _ w => rowIs 0x204 w
  | .divu _ w => rowIs 0x205 w
  | .rem _ w => rowIs 0x206 w
  | .remu _ w => rowIs 0x207 w
  | .addi _ w => rowIs 0x400 w
  | .andi _ w => rowIs 0x500 w
  | .ori _ w => rowIs 0x600 w
  | .xori _ w => rowIs 0x700 w
  | .lui _ w => rowIs 0x800 w
  | .cmpi _ w => rowIs 0xA00 w
  | .shli _ w => rowIs 0x900 w
  | .shri _ w => rowIs 0x901 w
  | .sari _ w => rowIs 0x902 w
  | .rori _ w => rowIs 0x903 w
  | .ldw _ w => rowIs 0x1000 w
  | .ldh _ w => rowIs 0x1100 w
  | .ldhu _ w => rowIs 0x1200 w
  | .ldb _ w => rowIs 0x1300 w
  | .ldbu _ w => rowIs 0x1400 w
  | .stw _ w => rowIs 0x1800 w
  | .sth _ w => rowIs 0x1900 w
  | .stb _ w => rowIs 0x1A00 w
  | .b _ w => rowIs 0x2000 w
  | .j _ w => rowIs 0x2100 w
  | .jal _ w => rowIs 0x2200 w
  | .jr _ w => rowIs 0x2300 w
  | .jalr _ w => rowIs 0x2301 w
  | .loop _ w => rowIs 0x2400 w
  | .mfs _ w => rowIs 0x3000 w
  | .mts _ w => rowIs 0x3001 w
  | .eret _ w => rowIs 0x3002 w
  | .syscall _ w => rowIs 0x3003 w
  | .hBreak _ w => rowIs 0x3004 w
  | .lock _ w => rowIs 0x3005 w
  | .unlock _ w => rowIs 0x3006 w
  | .sync _ w => rowIs 0x3007 w
  | .wait _ w => rowIs 0x3008 w
  | .iinvAll _ w => rowIs 0x3010 w
  | .iinvLine _ w => rowIs 0x3011 w
  | .dcleanLine _ w => rowIs 0x3012 w
  | .dinvLine _ w => rowIs 0x3013 w
  | .dcleanAll _ w => rowIs 0x3014 w
  | .hikerLoad d _ => d.wf
  | .descriptorFetch _ slots => slotsWf slots
  | .nop d => d.wf
  | .segment d => d.wf
  | .regWrite d => d.wf
  | .regRead d => d.wf
  | .handleAlloc d => d.wf
  | .handleFree d => d.wf
  | .timeSet d => d.wf
  | .fence d => d.wf
  | .hello _ f => f.wf
  | .linkAck _ f => f.wf
  | .frameForward _ f _ _ _ => f.wf
  | .chainAlarm _ f => f.wf
  | .groupAlarm _ f => f.wf
  | .scaleReq _ f => f.wf
  | .discardNotice _ f => f.wf
  | .gustReq _ f => f.wf
  | .planChecksumFrame _ f => f.wf
  | .commandFrame _ f => f.wf
  | .completionFrame _ f => f.wf
  | .groupSeg _ f => f.wf
  | .startFrame _ f => f.wf
  | .epochFrame _ f => f.wf
  | .readyFrame _ f => f.wf
  | .groupCmdFrame _ f => f.wf
  | .leaderState _ f => f.wf
  | .rollCall _ f => f.wf
  | .rollReply _ f => f.wf
  | .rollEntry _ f => f.wf
  | .authority _ f => f.wf
  | .handleSync _ f => f.wf
  | .routeLost _ f => f.wf
  | .tunnelWrite _ f _ => f.wf
  | .tunnelRead _ f _ => f.wf
  | .tunnelData _ f => f.wf
  | .safetyRegWrite d => d.wf
  | .safetyTableWrite d => d.wf
  | .splitOwnWrite d => d.wf
  | .commandVeto d => d.wf
  | .install d => d.wf
  | .erase d => d.wf
  | .provision d => d.wf
  | .imageActivate d => d.wf
  | .lullRelease d => d.wf
  | .authorityClaim d => d.wf
  | .epochReset d => d.wf
  | .benchMode d => d.wf
  | .lkAlarmArm who _ => who.wf
  | .xipLineRead _ _ _ got => (got.map fun b => decide (b.length = 32)).getD true
  | .extest cells => cellsWf cells
  | .samplePreload cells => cellsWf cells
  | .extestPulse cells => cellsWf cells
  | .extestTrain cells => cellsWf cells
  | .registerWrite who _ _ _ => who.wf
  | .xipDiscoveryDone d _ _ => (d.map Sfdp.wf).getD true
  | .planTick _ | .segmentStart _ | .dwellEnd _ | .velocityDurationEnd _ | .heldSegmentPlace _ | .stop _ | .abort _ | .flush _
  | .freeze _ | .resume _ | .resumeRetry _ | .positionWrite _ | .targetReplace _ | .planCapWrite _ _ _ | .posEventArm _ _ _
  | .sleepDelayExpiry _ | .holdTimeoutExpiry _ | .wakeComplete _ | .energiseComplete _ | .deenergiseComplete _
  | .tileLullExit _ | .sramEccError _ | .legSelftestFail _ | .tileWake _ | .energise _ | .release _ | .tileReset _ _
  | .groupReady _ | .scaleApply _ | .planChecksumTick _ | .checksumTimeout _ _ | .groupCmdApply _ | .migrateMarker _
  | .shapeSwapRequest _ | .shapeSwap _ | .ustepCtlWrite _ _ | .ustepTblDataAccess _ _ | .curScaleWrite _ _ | .currentRampStep _
  | .standDelayExpiry _ | .parkDelayExpiry _ | .chopWindowOutput _ _ _ _ _ _ | .chopTimeExpiry _ _ _ _ | .maxOnRefresh _ _
  | .chopOffsetWrite _ _ | .pwmPeriodStart _ _ _ | .regulationLoss _ _ | .sundialUpdate _ _ _ | .stallDecision _ | .confDecay _
  | .confLow _ | .mapLoad _ | .mapCheck _ | .sdClear _ | .walkStart _ | .walkAbort _ | .walkPhaseComplete _ _ _ _
  | .walkGrantTimeout _ | .learn _ _ _ | .learnAbort _ _ | .obstructionDecision _ | .retryWaitExpiry _ | .blindCeiling _
  | .gustSample _ | .gust _ | .pushConfirm _ _ _ | .pushTimeout _ | .fbProfDataAccess _ _ _ | .fbSegDataAccess _ _
  | .homeEdge _ _ _ | .homeMaxTravel _ | .homeSettleEnd _ | .posWrapWrite _ | .legOvrWrite _ _ | .pwmPeriodWrite _ _ _
  | .prechargeEnd _ | .tripPin _ _ | .tripCfgWrite _ _ | .tripWindow _ _ _ _ | .tripStickyClear _ | .legTripStickyClear _ _
  | .brakeEngage _ | .clockStop _ _ _ | .lullClrVeto _ | .lullClrMismatch _ | .lullClrDebug _ | .lullClrClock _
  | .lullClrAlarm _ | .lullClrDusk _ | .resetPin | .rotationStep _ _ _ | .sliceFailure _ _ _ _ | .refLost _ | .adcRefWrite _ _
  | .adcCalDataRead _ | .scanTrigger _ _ | .scanGo _ | .scanDisarm _ | .scanComplete _ _ | .supplyConversion _
  | .scanAlarmArm _ _ | .scanAlarmFire _ | .scanBufWrite _ _ | .scanRptrWrite _ _ | .waveformTick _ _ _ | .siteTrigArm
  | .siteTrigCancel | .siteTrigFire _ | .houseGo | .houseDisarm | .houseAlarmArm _ | .houseAlarmFire | .windowLatchSet _ _ _
  | .winLatchClear _ _ | .winTestWrite _ _ | .feedbackEdge _ _ | .indexEdge _ | .reedHoldoffEnd _ _ | .ssiFrameStart _
  | .ssiNow _ | .ssiFrameEnd _ _ | .standstill _ | .fbCfgWrite _ _ | .fbPosWrite _ _ | .fbRevWrite _ _ | .idxArm _
  | .fbAxisWrite _ _ _ | .emuCfgWrite _ _ | .emuCountStep _ | .sfeVisit | .frequencyConversionDone _ _ _
  | .voltageConversionDone _ _ | .toneCheck _ _ _ | .checkNow | .sfeSteerWrite _ | .sfeTestWrite _ | .interrupt _ | .tiPlace _
  | .tiRelease _ _ | .tiAlarmArm _ _ | .tiAlarmDisarm _ | .tiAlarmFire _ | .hikerUser _ _ | .coreMailSend _ _ | .inAck _
  | .hostMailSend _ _ | .fromAck _ | .hikerStart _ _ | .hikerStop _ | .hikerReset _ | .hikerLoadDone _ _ | .sqDoorbell _
  | .cqDoorbell _ | .evDoorbell _ | .completionRelease _ | .coalTimer _ | .schedDue | .journalWrite | .jrHeadWrite _ _
  | .sqCfgWrite _ _ | .cqCfgWrite _ _ | .evCfgWrite _ _ | .jrCfgWrite _ _ | .mailboxGo | .mbCplPop | .mbEvtPop | .helloSend _
  | .linkAckSend _ | .linkDown _ _ | .sfpSignalChange _ _ _ _ _ | .replayTimeout _ | .portFaultEnd _ | .chainAlarmSend
  | .domainDeassert _ | .groupAlarmCopy _ | .groupAlarmExpiry _ | .rollCallGo | .rollTimeout | .sfpAccess _ _
  | .ddmPoll _ _ _ _ | .mirrorPoll | .syncSend | .syncFrame _ | .followUp _ | .delayReq _ _ | .delayResp _ | .holdoverTimeout
  | .ppsEdge _ | .timeStepApply | .canopyScan _ | .governorRound | .lockstepMismatch _ | .comparatorSelftest _
  | .scanWatchdog _ | .canopyEccError _ _ _ _ | .vetoRaise _ _ _ | .vetoDrop _ _ _ | .scanKick _ | .locksSet _ _ | .hostKick
  | .cmbStatus | .cmbCheckpoint | .cmbVersion | .lockoutEnd | .dozeRequest | .twilightRequest | .nightRequest | .duskTest
  | .autoDoze | .deviceWake _ | .duskStart _ | .duskOutcome | .x32Loss | .x32Restore | .refClockLoss | .supplyFall
  | .checkpointCommit | .ckptTimer | .blockFailure _ | .recordRefresh | .psLoadGo _ _ | .psLogDataRead | .paramSave | .spcGo _
  | .spcFlushTx _ | .spcFlushRx _ | .spcAbort _ _ | .spcTxPush _ _ | .spcRxPop _ | .spcFrameDone _ _ | .xipDiscovery
  | .sptCommand _ _ _ | .sptDeselect _ | .dawn _ _ _ _ | .powerOn | .deviceReset _ | .recoveryDone | .dbgViewRead _
  | .dbgConsumeRead _ | .dbgWrite _ | .dbgHalt _ _ | .dbgResume _ _ | .dbgStep _ _ | .canopyHalt | .canopyResume | .canopyStep
  | .jtagDbgUpdate _ | .idcode | .clamp | .highz | .dbgAccess | .bypass | .tapReset | .sramPageWrite _ _ | .windowRead _ _ _
  | .windowWrite _ _ _ _ | .linkAlignmentChange _ _ | .deadTimeExpiry _ _ | .dutyCompare _ _ _ | .blankingEnd _ _ _ _
  | .referenceSettled _ _ _ | .pciePerst _ | .acquiringTimeout | .ppsSilence | .atPpsTimeout | .ppsOutPulse | .contestReport
  | .psLoadDone _ | .paramSaveDone | .sfpAccessDone _ _ => true

end Sys2Proof
end

