-- ==== Sys2Proof/Tests/Slice0.lean ====
section
/-! SUPPORT. Tests: ill-formed commands that each check refuses, words of the spec's encoding tables and worked example, single
steps whose results the spec gives, and for each statement a state and operands that meet its hypotheses. -/

set_option Elab.async false
set_option maxRecDepth 100000

namespace Sys2Proof.Tests
open Sys2Proof Sys2Proof.Machine

/-! ### States -/

/-- Run, after a Dawn, at a site time of 5 ms. -/
def run : State :=
  let s := State.reset
  let s := { s with lookout := { s.lookout with dawnCause := none }, now := 5000000 }
  (s.set R.DAWN_STATUS_stage 5)
def idle (n : Nat := 3) : State := run.set R.TILE_STATE_state 1 n
def hold (n : Nat := 3) : State := run.set R.TILE_STATE_state 2 n
def mv (n : Nat := 3) : State := run.set R.TILE_STATE_state 3 n
def lull (n : Nat := 3) : State := run.set R.TILE_STATE_state 4 n
def fault (n : Nat := 3) : State := run.set R.TILE_STATE_state 5 n

def sg (ty : Nat) : Seg := ⟨ty, 100, 3, 0x4000000, 0x0FFFFFFF, 0xFFFFFFFF, 0, 0⟩
def ex (g : Seg) : Exec := { (run.newExec 3 g 4000000) with target := some (3*2^70), ticks := 200 }
def withExec (s : State) (g : Seg) : State := s.modPlan 3 fun p => { p with exec := some (ex g) }
def n3 : Fin 64 := 3
/-- segments in the trail of a tile: the tail counts them. -/
def inTrail (s : State) (g : Seg) : State := (s.setBytes (slotAddr 3 (s.tail 3)) (segBytes g)).set R.TRAIL_PTR_tail (s.tail 3 + 1)
  3
def rf : CmdRef := ⟨true, 0, 0, 1, 7, 1, false, true⟩
def dsc (n : Fin 64) : Desc := ⟨rf, n, segBytes (sg 1) ++ segBytes (sg 1), []⟩
def wk : Walk :=
  { s0 := 0, row := 0, stop := 0, back := false, ticks := 0, goal := 0, atGoal := true, done := true, lSum := [], kSum := [], rFit := none, cable := (0, 0, 0, 0), tMap := 0, least := 255, lone := 0, kept := none }
def withWalk (s : State) (ph : Nat) : State := (s.modSd 3 fun d => { d with walk := some wk }).set R.WALK_STATUS_phase ph 3
def homeSeg (m : Nat) : Seg := ⟨5, m * 2 ^ 28 + 2 ^ 24, 0, 0x4000000, 0x0FFFFFFF, 0xFFFFFFFF, 0, 50000⟩
def homeEx (m : Nat) (ph : HomePhase) : Exec := let e := ex (homeSeg m); { e with target := some 0, home := { e.home with phase := ph } }
def withHome (m : Nat) (ph : HomePhase) : State := (mv.modPlan 3 fun p => { p with exec := some (homeEx m ph) })
def mapStored : State := idle.psPutRecord (32768 + 512 * 3) 0x06 3 1 false [1, 2, 3]
def cv : Conv := (State.adc hold (some 3)).conv[0]
def scanRunOf (k src : Nat) : ScanRun :=
  { supply := false, src := src, late := false, mask := 2 ^ k, avg := 0, refs := 0, start := 5000000, epoch := 0, toBuf := true, degraded := false }
def withScan (s : State) (k : Nat) : State := (s.modAdc (some 3) fun a =>
  { a with run := some (scanRunOf k 1) }).setFlag R.ADC_STATUS_scan_busy true 3
def rot0 : Rotation := { shadow := [(1, 2), (0, 1)], off := 40, gain := 0x8000, residual := 1 }
def feedOn (m : Nat) : State := ((hold.setFlag R.FB_CFG_enable true 5).set R.FB_CFG_mode m 5)
def sfeOn : State := ((hold.setFlag R.SFE_CTL_enable true).setFlag R.SFE_CFG_enable true 6).set R.SFE_CTL_check_s 0
def withVisit (check volt : Bool) : State :=
  { sfeOn with now := 1000000000, sfe := { sfeOn.sfe with visit := some { ch := 6, check := check, volt := volt, lead := false, leadDue := false, began := 0, cfg := (sfeOn.rd (R.SFE_CFG_enable.at 6)).toNat, par := 0, aux := 0, lim := 0 } } }
def mem0 : Member :=
  { index := 0, depth := 0, tile := 3, route := 0, base := 0, chained := false, reqV := 32768, reqA := 32768, accStop := 0, jerkStop := 0, ready := none, reported := 0 }
def gslot : GroupSlot :=
  { tag := 9, epoch := 0, lead := 50, leaderHere := true, leaderRoute := 0, leaderDepth := 0, devices := [(0, 0)], members := [mem0], nextSeq := 2047, startPending := false, last := none, lastSeg := none, cut := none, moves := [], scales := [], reqSeq := 0, cmds := [], checks := [], retract := none, alarmUntil := 0, alarmAt := 0, alarmCopies := 0, alarmCause := 0, alarmOrigin := 0, migrate := none }
def grp (g : GroupSlot) (s : State := hold) : State := ((s.setGroup 2 (some g)).setFlag R.GROUP_CFG_member_en true 3).set
  R.GROUP_CFG_slot 2 3
def dsl (l : List (Nat × Nat × Nat)) : Desc :=
  { dsc 3 with slot := (List.range 64).map fun i => BitVec.ofNat 8 ((l.foldl (fun a e => if e.1 ≤ i ∧ i < e.1 + e.2.1 then e.2.2 / 256 ^ (i - e.1) else a) 0) % 256) }
def entryExt : List Byte := [0, 0, 0, 0, 0, 0, 0, 0] ++ bytesLE 4 51200 ++ bytesLE 4 100000 ++ bytesLE 4 200000 ++ bytesLE 4
  300000 ++ List.replicate 40 0
def moveD : Desc := { dsl [(0x20, 2, 9), (0x22, 1, 1)] with ext := [entryExt] }
def coreR (st : Nat) (s : State := hold) : State := s.set R.HIKER_STATUS_state st 3
def readySeg : Seg := ⟨6 + 5 * 65536, 51200, 51200, 100000, 200000, 300000, 2, 0⟩
def scq : ScaleReq := { device := 0, seq := 0, apply := 4000, reqV := 1000, reqA := 2000 }
def up (s : State := hold) : State := (s.modCore State.canopy0 fun c => { c with wasState := 2, stopped := false }).modCore
  State.canopy1 fun c => { c with wasState := 2, stopped := false }
def safe3 (w0 w3 : Nat) (s : State := up) : State := (s.putSafety 3 0 w0).putSafety 3 3 w3
def askCmb (c : Nat) (s : State := up) : State := (s.setFlag R.CMB_CTL_to_full true).modCore State.canopy0 fun k =>
  { k with inBox := #v[BitVec.ofNat 32 c, 0, 0, 0] }
def spcOn (k : Nat) (tx rx : List Word) (s : State := hold) : State := let u := s.setFlag R.SPC_CFG_enable true k; { u with spcs := Vector.ofFn fun _ => { tx := tx, rx := rx, frame := none, code := 0, strobe := false, csA := false, csB := false, lastEdge := 0, endsAt := 0, sent := [] } }
def spcFrame (f : Nat × Bool) (tx rx : List Word) (s : State := hold) : State := let u := spcOn 2 tx rx s; { u.setFlag R.SPC_STATUS_busy true 2 with spcs := u.spcs.map fun p => { p with frame := some f } }
def sptHost : State := hold.set R.HAMPER_CTL_host 2
def root (s : State := hold) : State := s.setFlag R.USF_ID_root true
def dbgAt (space off data : Nat) (s : State := hold) : State := ((s.set R.DBG_ADDR_space space).set R.DBG_ADDR_offset off).set
  R.DBG_DATA_data data
def tapAt (ir : Nat) (s : State := hold) : State := { s with tap := { s.tap with ir := ir } }
def pcieH (s : State := hold) : State := (s.set R.HAMPER_CTL_host 1).setFlag R.USF_ID_root true
def sqOn (q k head tail : Nat) (s : State := pcieH) : State := ((((s.setFlag R.SQ_CFG_enable true q).set R.SQ_CFG_size_log2 k
  q).set R.SQ_HEAD_head head q).set R.SQ_TAIL_tail tail q).set R.SQ_STATUS_state 1 q
def cqOn (c k head tail : Nat) (s : State := pcieH) : State := ((((s.setFlag R.CQ_CFG_enable true c).set R.CQ_CFG_size_log2 k
  c).set R.CQ_HEAD_head head c).set R.CQ_TAIL_tail tail c).set R.CQ_STATUS_state 1 c
def evOn (e k head tail : Nat) (s : State := pcieH) : State := (((s.setFlag R.EV_CFG_enable true e).set R.EV_CFG_size_log2 k
  e).set R.EV_HEAD_head head e).set R.EV_TAIL_tail tail e
def jrOn (j k head tail : Nat) (s : State := pcieH) : State := (((s.setFlag R.JR_CFG_enable true j).set R.JR_CFG_size_log2 k
  j).set R.JR_HEAD_LO_head head j).set R.JR_TAIL_LO_tail tail j
def stg : Staged := { ring := 1, kind := 4, tile := 3, time := 5, epoch := 0, body := List.replicate 50 1 }
def mbox (s : State := hold) : State := s.set R.HAMPER_CTL_host 2
def ref2 : CmdRef := ⟨true, 0, 0, 0, 7, 0, false, false⟩
def dml (l : List (Nat × Nat × Nat)) : Desc := { dsl l with ref := ref2 }
def mod (f : Hamper → Hamper) (s : State) : State := { s with hamper := f s.hamper }
def upP (p : Fin 4) (s : State := hold) : State := let u := (s.set R.USF_PSTATUS_state 4 p).setFlag R.USF_PCFG_enable true p; u.setPort p { u.port p with aligned := true, wasUp := true }
def trP (v : Nat) (al : Bool) (p : Fin 4 := 2) (s : State := hold) : State := let u := (s.set R.USF_PSTATUS_state v p).setFlag R.USF_PCFG_enable true p; u.setPort p { u.port p with aligned := al }
def fr (typ : Nat) (b : List Byte) (fl : Bool := true) (lseq : Nat := 0) : Frame :=
  { typ := typ, hops := 9, dstDepth := 0, flood := fl, srcDepth := 1, lseq := lseq, dstRoute := 0, srcRoute := 7, payload := b }
def grpU (g : GroupSlot) : State := grp g (upP 2)
def helloB (port : Nat) : List Byte := bytesLE 8 0x1234567 ++ [BitVec.ofNat 8 port, 0, 0, 0] ++ List.replicate 16 0
def rollS (w : Nat) (s : State := hold) : State := let u := ((s.set R.USF_ROUTE0_route_lo 0x1001).set R.USF_ID_depth 2).set R.USF_ROLL_GEN_generation 4; { u with usfen := { u.usfen with roll := some { waits := w, below := 1, counted := 3, result := 0, asked := 0 } } }
def dsc2 : List Byte := [0, 0, 7, 0, 0, 0, 0, 0xC0] ++ List.replicate 56 0
def rtr : CmdRef := ⟨true, 0, 0, 0, 7, 0, false, false⟩
def trk (p : Point) (s : State) : State := { s with hamper := { s.hamper with tracks := [{ ref := rtr, point := p }] } }
def kk : List Byte := [1, 2, 3, 4, 5, 6, 7, 8, 9, 10, 11, 12, 13, 14, 15, 16]
def ks : KeySlot := { key := some kk, rights := 0x7F, counter := 5, mark := 4096 }
def keyed0 (x : KeySlot := ks) (s : State := mbox up) : State := let u := s.set R.CANOPY_STATUS_fw_state 1; { u with canopy := { u.canopy with slots := u.canopy.slots.set 0 x } }
def hd (l : List (Nat × Nat × Nat)) (c : Nat := 6) : List Byte := (List.range 52).map fun i => BitVec.ofNat 8 (((l ++ [(0x2C, 8,
  c)]).foldl (fun (a : Nat) (e : Nat × Nat × Nat) => if e.1 ≤ i ∧ i < e.1 + e.2.1 then e.2.2 / 256 ^ (i - e.1) else a) 0) % 256)
def sealed (key h : List Byte) (ext : List (List Byte) := []) : Desc :=
  { ref := ref2, tile := 0, slot := h ++ (cmac key (bytesLE 8 Config.serial ++ h ++ ext.flatMap fun e => e.drop 4)).take 12, ext := ext }
def badMac (h : List Byte) (b : Byte) : Desc := { ref := ref2, tile := 0, slot := h ++ List.replicate 12 b, ext := [] }
/-- the all-zero-key provisioning's new key and check value -/
def newKey : List Byte := [9, 8, 7, 6, 5, 4, 3, 2, 1, 0, 1, 2, 3, 4, 5, 6]
def provExt : List (List Byte) := [[1, 0, 0, 0] ++ newKey ++ List.replicate 44 0]
def offS (s : State := hold) : State := { s with lookout := { s.lookout with off := true } }
def due (c : Nat) (s : State := hold) : State := { s with lookout := { s.lookout with dawnCause := some c } }
def wrapped : List Byte := [214, 20, 22, 37, 171, 75, 213, 192, 238, 25, 17, 95, 119, 166, 111, 75, 20, 187, 180, 252, 242, 33,
  60, 171]
/-- Bytes from an address as memory cells. -/
def cellsAt (a : Nat) : List Byte → List (Nat × Byte)
  | [] => []
  | b :: l => (a, b) :: cellsAt (a + 1) l
def imaged : State :=
  { keyed0 with mem := cellsAt 1342701568 ([206, 173, 172, 175, 254, 255, 254, 255, 254, 255, 255, 255, 251, 255, 255, 255, 191, 180, 179] ++ List.replicate 45 255 ++ [254, 253, 252, 251] ++ List.replicate 60 255 ++ [24, 53, 84, 198] ++ List.replicate 60 255 ++ [170, 182, 178, 188, 85, 73, 77, 67] ++ List.replicate 56 255) }
/-- Core 3, running and standing at `i`; `f` sets its registers. -/
def hk (i : HInstr) (f : Core → Core := id) (s : State := hold) : State := ((coreR 2 s).modCore 3 fun c =>
  f { c with pc := 0x18100 }).setBytes (tileSram 3 + 0x18100) (bytesLE 4 i.encode.toNat)
/-- Canopy core A, in steward mode, standing at `i`. -/
def cp (i : HInstr) (f : Core → Core := id) (s : State := up) : State := (s.modCore State.canopy0 fun c =>
  f { c with pc := 0x100, status := 0x80000000 }).setBytes 0x100 (bytesLE 4 i.encode.toNat)
def gr (l : List (Fin 16 × Word)) (c : Core) : Core := l.foldl (fun (c : Core) (e : Fin 16 × Word) => State.writeG c e.1 e.2) c
def sta (v : Word) (c : Core) : Core := { c with status := v }
def locked (st : List (Nat × Byte)) (broken : Bool) (c : Core) : Core :=
  { c with lock := some { lockPc := 0x18080, count := 5, stores := st, reserved := [], broken := broken } }
def withLock7 (s : State) : State := s.modCore 7 fun c =>
  { c with lock := some { lockPc := 0, count := 3, stores := [], reserved := [0x20000004], broken := false } }
def xipOn (s : State := hold) : State := ((s.setFlag R.XIP_CFG_enable true).setFlag R.XIP_STATUS_ready true).set
  R.XIP_STATUS_log2_bytes 24

/-! ### Ill-formed commands, one for each check of WellFormed -/

theorem test_wf_row : Instr.wf (.add 3 0x0488C000) = true ∧ Instr.wf (.add 3 0x0488C001) = false ∧ Instr.wf (.add 3 0) = false := by
  decide

theorem test_wf_slot : Instr.wf (.groupStop (dsl [])) = true ∧ Instr.wf (.groupStop { dsl [] with slot := [0] }) = false ∧
    Instr.wf (.groupStop { dsl [] with ext := [[]] }) = false := by decide

theorem test_wf_ref : Instr.wf (.groupStop { dsl [] with ref := { rf with tag := 65536 } }) = false ∧
    Instr.wf (.groupStop { dsl [] with ref := { rf with sq := 128 } }) = false ∧
    Instr.wf (.groupStop { dsl [] with ref := { rf with cq := 64 } }) = false ∧
    Instr.wf (.groupStop { dsl [] with ref := { rf with srcRoute := 4096, srcDepth := 1 } }) = false := by decide

theorem test_wf_frame : Instr.wf (.hello 0 { fr 0xBE [0, 0, 0, 0] with srcRoute := 7, srcDepth := 1 }) = true ∧
    Instr.wf (.hello 0 (fr 256 [])) = false ∧ Instr.wf (.hello 0 { fr 0xBE [] with hops := 256 }) = false ∧
    Instr.wf (.hello 0 (fr 0xBE [1])) = false ∧ Instr.wf (.hello 0 { fr 0xBE [] with dstDepth := 1 }) = false ∧
    Instr.wf (.hello 0 (fr 0xBE [] true 65536)) = false ∧ Instr.wf (.hello 0 { fr 0xBE [] with srcDepth := 7 }) = false ∧
    Instr.wf (.hello 0 (fr 0xBE (List.replicate 276 0))) = false := by decide +kernel

theorem test_wf_requester : Instr.wf (.lkAlarmArm (.tile 64) 0) = false ∧ Instr.wf (.lkAlarmArm (.tile 63) 0) = true := by decide

theorem test_wf_axes : Instr.wf (.groupForm (dsl []) none [{ route := 0, depth := 7, tile := 0 }]) = false := by decide +kernel

theorem test_wf_fetched : Instr.wf (.descriptorFetch 0 (some [[0]])) = false := by decide

theorem test_wf_line : Instr.wf (.xipLineRead 3 0 0 (some [0])) = false ∧ Instr.wf (.xipLineRead 3 0 0 none) = true := by decide

theorem test_wf_cells : Instr.wf (.extest [(1, 2), (1, 3)]) = false ∧ Instr.wf (.extest [(1, 2), (2, 3)]) = true := by decide

theorem test_wf_flash :
    Instr.wf (.xipDiscoveryDone (some { log2 := 33, addrBytes := 0, quad := none, quadAddr := none, four := none }) true true) =
      false := by decide

/-! ### Words of the worked example and the tables of 14_hiker_instructions.md -/

/-- The words of the routine at 0x0001_A000 (the worked example under R450). -/
theorem test_worked_words : [0x20400001, 0x18449000, 0x04800005, 0x91008003, 0x40C40000, 0x10440004, 0x0488C000, 0x21002000, 0xC0000005,
      0x40D00100, 0x04CC8000, 0x60D00100, 0xC1400006, 0x28140000, 0x807FFFFA, 0x04000005].map HInstr.decode =
    [some (.lui 1 1), some (.imm .ori 1 1 false 0x9000), some (.alu .or 2 0 0 false), some (.loopImm false 8 3),
     some (.load .ldw 3 1 0), some (.imm .addi 1 1 false 4), some (.alu .add 2 2 3 false), some (.lui 4 0x2000), some .lock,
     some (.load .ldw 3 4 0x100), some (.alu .add 3 3 2 false), some (.store .stw 3 4 0x100), some (.unlock 5), some (.cmpi 5 0),
     some (.b 1 (-6)), some (.alu .or 0 0 0 false)] := by decide

/-- Words written out from R427: SUBS g0, g3, g4; SEL g1, g2, g3 on LTS; DIV g1, g2, g3; SARI g5, g6, 31. -/
theorem test_register_words : [0b000001_0000_0011_0100_1_000_0000_000010, 0b000001_0001_0010_0011_0_000_1100_010011,
      0b000010_0001_0010_0011_0_0000000_000100, 0b001001_0101_0110_0_0_00000000_10_0_11111].map HInstr.decode =
    [some (.alu .sub 0 3 4 true), some (.sel 1 2 3 false 0xC), some (.mul .div 1 2 3 false), some (.shift .sari 5 6 false 31)] := by
  decide

/-- Words written out from R427: JAL −1; JALR g14; LOOP 1, g7, 2; MFS g2, EPC; MTS VBASE, g3; SYSCALL 0x123; CACHE IINV_LINE, g9. -/
theorem test_control_words : [0b100010_11111111111111111111111111, 0b100011_1_000_1110_000000000000000000,
      0b100100_1_0_00000000_0111_000000000010, 0b110000_0010_0000_00010_0000000_000000, 0b110000_0000_0011_00101_0000000_000001,
      0b110000_0000_0000_000100100011_000011, 0b110000_0000_1001_00001_0000000_001001].map HInstr.decode =
    [some (.jal (-1)), some (.jalr 14), some (.loopReg true 7 2), some (.mfs 2 2), some (.mts 5 3), some (.syscall 0x123),
     some (.cache .iinvLine 9)] := by decide

/-- Words that R428 refuses: 0, a reserved major opcode, fn, cond, cache operation, a field that must be 0, JALR g15. -/
theorem test_illegal_words : [0x00000000, 0x0C000000, 0x04000016, 0x83C00000, 0xC000A009, 0x10410004, 0x8E3C0000].all
    (fun w => (HInstr.decode w).isNone) = true := by decide

/-! ### What meets each statement's hypotheses -/

theorem sealed_ok (key h : List Byte) (e : List (List Byte)) (hl : h.length = 52) : macOk key (sealed key h e) = true := by
  have h1 : (h ++ (cmac key (bytesLE 8 Config.serial ++ h ++ e.flatMap fun x => x.drop 4)).take 12).take 0x34 = h :=
    List.take_left' hl
  have h2 : (h ++ (cmac key (bytesLE 8 Config.serial ++ h ++ e.flatMap fun x => x.drop 4)).take 12).drop 0x34 =
      (cmac key (bytesLE 8 Config.serial ++ h ++ e.flatMap fun x => x.drop 4)).take 12 := List.drop_left' hl
  simp only [macOk, keyMessage, sealed, h1, h2, List.take_take, Nat.min_self, decide_true]

theorem badMac_one (key h : List Byte) (hl : h.length = 52) (h0 : macOk key (badMac h 0) = true) : macOk key (badMac h 1) = false
  := by
  have e0 : (h ++ List.replicate 12 (0 : Byte)).take 0x34 = h := List.take_left' hl
  have e1 : (h ++ List.replicate 12 (1 : Byte)).take 0x34 = h := List.take_left' hl
  have d0 : (h ++ List.replicate 12 (0 : Byte)).drop 0x34 = List.replicate 12 0 := List.drop_left' hl
  have d1 : (h ++ List.replicate 12 (1 : Byte)).drop 0x34 = List.replicate 12 1 := List.drop_left' hl
  simp only [macOk, keyMessage, badMac, e0, e1, d0, d1, decide_eq_true_eq, decide_eq_false_iff_not] at *
  rw [h0]
  decide

theorem refusal_none {s : State} {b : List Byte} (h1 : fieldLE b 8 1 % 4 = 0) (h2 : s.isRoot = false) (h5 : s.isRootB = false)
    (h3 : bit (fieldLE b 9 1) 0 = false) (h4 : fieldLE b 0 8 ≠ Config.serial) : s.refusalOf 2 b = 0 := by
  simp [State.refusalOf, h1, h2, h3, h4, h5]

theorem witness_LinkPortsTrainComeUpAndGoDown_1 : ∃ (p : Fin 4) (s : State) (f : Frame),
    f.typ = 0xBE ∧ s.portState p = 3 ∧ s.refusalOf p f.payload = 0 := by
  by_cases h : fieldLE (helloB 0) 0 8 = Config.serial
  · exact ⟨2, trP 3 true, fr 0xBE (9 :: (helloB 0).drop 1), by decide +kernel, by decide +kernel,
      refusal_none (by decide +kernel) (by decide +kernel) (by decide +kernel) (by decide +kernel) (by rw [← h]; decide +kernel)⟩
  · exact ⟨2, trP 3 true, fr 0xBE (helloB 0), by decide +kernel, by decide +kernel,
      refusal_none (by decide +kernel) (by decide +kernel) (by decide +kernel) (by decide +kernel) h⟩

theorem witness_KeyedChecksStopAtTheFirstThatFails_5 : ∃ (c : Instr) (d : Desc) (s : State) (key : List Byte),
    KeyedCmd c d ∧ MailOpen s d.ref ∧ KeyPasses s d key ∧ macOk key d = false := by
  by_cases h : macOk kk (badMac (hd [(0, 1, 0x45)]) 0) = true
  · exact ⟨.epochReset (badMac (hd [(0, 1, 0x45)]) 1), badMac (hd [(0, 1, 0x45)]) 1, keyed0, kk, by decide +kernel,
    by decide +kernel,
      by decide +kernel, badMac_one kk _ (by decide +kernel) h⟩
  · exact ⟨.epochReset (badMac (hd [(0, 1, 0x45)]) 0), badMac (hd [(0, 1, 0x45)]) 0, keyed0, kk, by decide +kernel,
    by decide +kernel,
      by decide +kernel, by simpa using h⟩

def imagedHead : PsHead :=
  { line := 8192, cls := 1, opened := false, index := 1, gen := 1, len := 4, time := 5000000, epoch := 0 }
def crcFrom (c : BitVec 32) (l : List Byte) : BitVec 32 := l.foldl crcByte c
theorem crcFrom_append (c : BitVec 32) (a b : List Byte) : crcFrom c (a ++ b) = crcFrom (crcFrom c a) b := List.foldl_append

theorem imaged_valid : imaged.psValid imagedHead = true := by
  have hb : imaged.psBytes (64 * 8192) 128 = ((imaged.psBytes (64 * 8192) 32 ++ imaged.psBytes (64 * 8192 + 32) 32) ++
      imaged.psBytes (64 * 8192 + 64) 32) ++ imaged.psBytes (64 * 8192 + 96) 32 := by decide +kernel
  have h1 : crcFrom 0xFFFFFFFF#32 (imaged.psBytes (64 * 8192) 32) = 1723409078#32 := by decide +kernel
  have h2 : crcFrom 1723409078#32 (imaged.psBytes (64 * 8192 + 32) 32) = 3214017170#32 := by decide +kernel
  have h3 : crcFrom 3214017170#32 (imaged.psBytes (64 * 8192 + 64) 32) = 2832247976#32 := by decide +kernel
  have h4 : crcFrom 2832247976#32 (imaged.psBytes (64 * 8192 + 96) 32) = 3327407384#32 := by decide +kernel
  have hc : crc32c (imaged.psBytes (64 * 8192) 128) = (3327407384#32 ^^^ 0xFFFFFFFF#32).toNat := by
    rw [hb]
    show ((crcFrom 0xFFFFFFFF#32 _) ^^^ 0xFFFFFFFF#32).toNat = _
    rw [crcFrom_append, crcFrom_append, crcFrom_append, h1, h2, h3, h4]
  have hd1 : decide (natLE (imaged.psBytes (64 * (8192 + 2)) 4) = (3327407384#32 ^^^ 0xFFFFFFFF#32).toNat) = true :=
    by decide +kernel
  have hd2 : decide (imaged.psBytes (64 * (8192 + 2 + 1)) 8 = bytesLE 4 (psCommit 1) ++ bytesLE 4 (2 ^ 32 - 1 - psCommit 1)) =
    true := by
    decide +kernel
  have hn : 1 + (imagedHead.len + 63) / 64 = 2 := by decide
  have hl : imagedHead.line = 8192 := rfl
  have hg : imagedHead.gen = 1 := rfl
  have hle : decide (imagedHead.len ≤ 0x80000) = true := by decide
  unfold State.psValid
  simp only [hn, hl, hg]
  rw [hle]
  simp only [Nat.reduceMul, Nat.reduceAdd] at hc hd1 hd2 ⊢
  rw [hc, hd1, hd2]
  rfl

theorem imaged_head : imaged.psHeadAt 8192 = some imagedHead := by decide +kernel

theorem imaged_heads : imaged.psHeads 0x01 1 = [imagedHead] := by
  have hh : imaged.psHeads 0x01 1 = ([8192].filterMap imaged.psHeadAt).filter (fun h =>
    decide (h.cls = 1) && decide (h.index = 1)) := rfl
  rw [hh]
  simp only [List.filterMap_cons, imaged_head, List.filterMap_nil]
  decide

theorem one_head_in_force (s : State) (h : PsHead) (h1 : s.psHeads 0x01 1 = [h]) (h2 : s.psValid h = true) : s.psInForce 0x01 1 =
  some h := by
  unfold State.psInForce
  rw [h1]
  simp [h2]

theorem imaged_in_force : imaged.psInForce 0x01 1 = some imagedHead := one_head_in_force imaged imagedHead imaged_heads
  imaged_valid

theorem witness_KeyedCommandsAct_13 : ∃ (d : Desc) (key : List Byte) (s : State) (i : Nat) (h : PsHead) (b : List Byte),
    (KeyPasses s d key) ∧ (keyedOp d = 0x42) ∧ (fieldLE d.slot 0x20 1 = i) ∧ (i < 2) ∧ (s.psInForce 0x01 i = some h) ∧
      (s.psPayload h = b) ∧ (macOk key d) :=
  ⟨sealed kk (hd [(0, 1, 0x42), (0x20, 1, 1)]), kk, imaged, 1, imagedHead, [1, 2, 3, 4], by decide +kernel, by decide +kernel,
    by decide +kernel, by decide +kernel, imaged_in_force, by decide +kernel, sealed_ok _ _ _ (by decide +kernel)⟩

def dOld : Desc := sealed kk (hd [(0, 1, 0x46)] 5)

theorem witness_KeyedChecksStopAtTheFirstThatFails_6 : ∃ (c : Instr) (d : Desc) (s : State) (key : List Byte),
    (KeyedCmd c d) ∧ (MailOpen s d.ref) ∧ (s.keyedUp) ∧ (s.canopy.lockedUntil = none) ∧
      ((s.keySlot (keySlotOf d)).key = some key) ∧
      (State.asksProvision d = false) ∧ ((s.keySlot (keySlotOf d)).rights.testBit (keyedOp d - 0x40)) ∧
      (keyCounter d ≤ (s.keySlot (keySlotOf d)).counter) ∧ (macOk key d) :=
  ⟨.benchMode dOld, dOld, keyed0, kk,
    .inr (.inr (.inr (.inr (.inr (.inr (.inr (.inr (.inr (.inr (.inr ⟨rfl, by decide +kernel⟩)))))))))), by decide +kernel,
    by decide +kernel, by decide +kernel, by decide +kernel, by decide +kernel, by decide +kernel, by decide +kernel,
    sealed_ok _ _ _ (by decide +kernel)⟩

theorem witness_StepRunsTheFrontCommand : ∃ s : State, s.pending = [] := ⟨State.reset, rfl⟩

theorem witness_CanonicalFormIsKept : ∃ s t : State, Canonical s ∧ step s = .next t :=
  ⟨State.reset, State.reset.idle, ⟨by decide +kernel, by decide +kernel, by decide +kernel⟩, rfl⟩

theorem witness_HikerDecodeAndEncodeAgree :
    (∃ i : HInstr, i.wf = true) ∧ ∃ (w : Word) (i : HInstr), HInstr.decode w = some i :=
  ⟨⟨.lock, by decide⟩, ⟨0xC0000005, .lock, by decide⟩⟩

/-- The hypotheses of TileStateCommandsMoveTheTile can be met, clause by clause. -/
theorem witness_TileStateCommandsMoveTheTile :
    (∃ (n : Fin 64) (s : State),
      (s.dawnDone) ∧ (s.st n = stIdle) ∧ (s.trailCount n = 0) ∧ (s.sleepRun n) ∧ ((s.tile n).cur.energising = false) ∧
        ((s.core (State.coreIx n)).lock = none) ∧ ((s.core (State.coreIx n)).deferred ≠ some true)) ∧
    (∃ (n : Fin 64) (s : State),
      (s.st n = stHolding) ∧ (s.trailCount n = 0) ∧ (s.frozen n = false) ∧ (s.holdRun n) ∧
        ((s.tile n).cur.deenergising = false)) ∧
    (∃ (n : Fin 64) (s : State),
      (s.st n = stAsleep) ∧ ((s.tile n).lull.wakePending = true) ∧ (s.deviceRuns) ∧ (s.dawnDone)) ∧
    (∃ (n : Fin 64) (s : State),
      (s.st n = stIdle) ∧ ((s.tile n).cur.energising = true) ∧ (s.flag R.CUR_STATUS_scale_invalid n = false) ∧
        (min (s.get R.CUR_LEVEL_hold n) (s.get R.CUR_CAP_cap n) ≤ s.levelCode n)) ∧
    (∃ (n : Fin 64) (s : State),
      (s.st n = stHolding) ∧ ((s.tile n).cur.deenergising = true) ∧ ((s.tile n).cur.ramped = 0) ∧
        ((s.tile n).cur.belowLoA = true) ∧ ((s.tile n).cur.belowLoB = true)) ∧
    (∃ (n : Fin 64) (s : State),
      (s.st n = stLull) ∧ (s.get R.TILE_STATE_lull_source n = 0)) ∧
    (∃ (n : Fin 64) (s : State),
      (s.st n = stAsleep)) ∧
    (∃ (n : Fin 64) (s : State),
      (s.st n = stIdle) ∧ (s.mayEnergise n) ∧ ((s.tile n).cur.energising = false)) ∧
    (∃ (n : Fin 64) (s : State),
      (s.st n = stHolding) ∧ ((s.tile n).cur.deenergising = false)) :=
  ⟨⟨n3, { idle.set R.TILE_TIMEOUTS_sleep_delay 5 3 with now := 60000000 }, by decide +kernel⟩,
   ⟨n3, { hold.set R.TILE_TIMEOUTS_hold_timeout 5 3 with now := 6000000000 }, by decide +kernel⟩,
   ⟨n3, run.modLull 3 fun l => {l with wakePending := true}, by decide +kernel⟩,
   ⟨n3, (idle.set R.CUR_STATUS_scale_invalid 0 3).modCur 3 fun c => {c with energising := true, ramped := 4000},
     by decide +kernel⟩,
   ⟨n3, hold.modCur 3 fun c => {c with deenergising := true, ramped := 0, belowLoA := true, belowLoB := true}, by decide +kernel⟩,
   ⟨n3, lull, by decide +kernel⟩,
   ⟨n3, run, by decide +kernel⟩,
   ⟨n3, (idle.set R.CUR_STATUS_scale_invalid 0 3).set R.ADC_REF_f_settled 1 3, by decide +kernel⟩,
   ⟨n3, hold, by decide +kernel⟩⟩

/-- The hypotheses of FaultsLatchTheirCause can be met, clause by clause. -/
theorem witness_FaultsLatchTheirCause :
    (∃ (n : Fin 64) (s : State),
      (s.st n ≠ stFault)) ∧
    (∃ (n : Fin 64) (s : State),
      (s.st n = stFault) ∧ (s.get R.TILE_STATE_lull_source n = 0)) :=
  ⟨⟨n3, hold, by decide +kernel⟩,
   ⟨n3, fault, by decide +kernel⟩⟩

/-- The hypotheses of PlannerRunsSegments can be met, clause by clause. -/
theorem witness_PlannerRunsSegments :
    (∃ (n : Fin 64) (s : State),
      (s.st n = stHolding) ∧ ((s.plan n).held = none) ∧ ((s.plan n).exec = none) ∧ ((s.plan n).headRepl = none) ∧
        (s.walking n = false) ∧ (s.hasRun n = false) ∧ (s.headReady n s.tickStart) ∧
        (s.isLate n (s.head n) (s.segAt n (s.head n)) s.tickStart = false) ∧ (segType (s.segAt n (s.head n)) = 1)) ∧
    (∃ (n : Fin 64) (s : State) (e : _),
      ((s.plan n).exec = some e) ∧ ((s.plan n).handover = false) ∧ (segIsMove e.seg) ∧ (s.st n ≠ stAsleep) ∧
        ((s.sd n).stallDue = false) ∧ ((s.force n).due = false) ∧ (s.get R.POS_WRAP_modulus n = 0) ∧
        (∀ k : Fin 16, s.flag R.FB_AXIS_bind k = false) ∧ ((planStep (s.execLimits n e) (s.motion n) e.target (signed 32
        e.seg.w3).sign (s.jointVel n e s.tickStart)).2 = TickEnd.runs)) ∧
    (∃ (n : Fin 64) (s : State) (e : _),
      ((s.plan n).exec = some e) ∧ (segType e.seg = 4) ∧ (e.stop = Stopping.none) ∧ (e.seg.w1 ≤ e.ticks)) ∧
    (∃ (n : Fin 64) (s : State) (e : _),
      ((s.plan n).exec = some e) ∧ (segType e.seg = 3) ∧ (e.stop = Stopping.none) ∧ (e.seg.w1 ≠ 0) ∧ (e.seg.w1 ≤ e.ticks)) :=
  ⟨⟨n3, inTrail hold (sg 1), by decide +kernel⟩,
   ⟨n3, withExec mv (sg 1), ex (sg 1), by decide +kernel⟩,
   ⟨n3, withExec mv (sg 4), ex (sg 4), by decide +kernel⟩,
   ⟨n3, withExec mv (sg 3), ex (sg 3), by decide +kernel⟩⟩

/-- The hypotheses of TrailCommandsAct can be met, clause by clause. -/
theorem witness_TrailCommandsAct :
    (∃ (n : Fin 64) (s : State) (e : _),
      (s.runsGroup n = false ∧ s.walking n = false ∧ (s.plan n).handover = false) ∧ ((s.plan n).exec = some e) ∧
        (e.stop = Stopping.none) ∧ ((s.plan n).replaced = none) ∧ ((s.force n).acted = false)) ∧
    (∃ (n : Fin 64) (s : State) (e : _),
      (s.runsGroup n = false ∧ s.walking n = false ∧ (s.plan n).handover = false) ∧ ((s.plan n).exec = some e) ∧
        ((s.plan n).replaced = none)) ∧
    (∃ (n : Fin 64) (s : State),
      (s.runsGroup n = false ∧ s.walking n = false ∧ (s.plan n).handover = false) ∧ (s.st n ≠ stMoving) ∧
        (s.trailCount n ≤ 1024) ∧ (s.placedNow n = 0)) ∧
    (∃ (n : Fin 64) (s : State),
      (s.runsGroup n = false ∧ s.walking n = false ∧ (s.plan n).handover = false)) ∧
    (∃ (n : Fin 64) (s : State),
      (s.runsGroup n = false ∧ s.walking n = false ∧ (s.plan n).handover = false) ∧
        (s.st n ≠ stMoving ∨ (s.plan n).exec ≠ none)) ∧
    (∃ (n : Fin 64) (s : State),
      (s.runsGroup n = false ∧ s.walking n = false ∧ (s.plan n).handover = false) ∧ (s.st n ≠ stLull) ∧ (s.st n ≠ stFault) ∧
        ((s.plan n).held = none)) ∧
    (∃ (n : Fin 64) (s : State) (e : _),
      (s.runsGroup n = false ∧ s.walking n = false ∧ (s.plan n).handover = false) ∧ (s.st n ≠ stLull) ∧ (s.st n ≠ stFault) ∧
        ((s.plan n).held = some e) ∧ (e.stop = Stopping.none)) :=
  ⟨⟨n3, withExec mv (sg 1), ex (sg 1), by decide +kernel⟩,
   ⟨n3, withExec mv (sg 1), ex (sg 1), by decide +kernel⟩,
   ⟨n3, inTrail (inTrail (inTrail hold (sg 1)) (sg 4)) (sg 5), by decide +kernel⟩,
   ⟨n3, hold, by decide +kernel⟩,
   ⟨n3, hold, by decide +kernel⟩,
   ⟨n3, (inTrail hold (sg 1)).freeze 3, by decide +kernel⟩,
   ⟨n3, (hold.freeze 3).modPlan 3 fun p => {p with held := some (ex (sg 1))}, ex (sg 1), by decide +kernel⟩⟩

/-- The hypotheses of PlannerWritesLand can be met, clause by clause. -/
theorem witness_PlannerWritesLand :
    (∃ (n : Fin 64) (s : State) (v : _),
      ((s.plan n).posWrite = some v) ∧ (s.mayWritePos n)) ∧
    (∃ (n : Fin 64) (s : State),
      (s.get R.REPLACE_CTL_ptr n = s.head n) ∧ ((s.plan n).stoppedOn ≠ some s.tickStart) ∧
        (s.flag R.REPLACE_CTL_new_limits n = false) ∧ (s.trailCount n ≠ 0) ∧ (s.runsGroup n = false) ∧ ((s.plan n).held = none) ∧
        ((s.plan n).exec = none) ∧ (segIsMove (s.segAt n (s.head n)))) ∧
    (∃ (n : Fin 64) (s : State) (v : Word),
      (v.toNat < 2 ^ 31) ∧ (v.toNat ≤ s.get R.FB_CEIL_ceil n)) ∧
    (∃ (v : Word),
      (v.getLsbD 31 = true)) ∧
    (∃ (n : Fin 64) (s : State) (d : _),
      ((s.hamper.heldGroup.any fun h => decide (h.1 = n.val)) = false) ∧ ((s.hamper.heldSegs.find? fun (d : Desc) =>
        decide (d.tile = n)) = some d) ∧ (s.trailCount n < 1024)) :=
  ⟨⟨n3, hold.modPlan 3 fun p => {p with posWrite := some (2^64-5)}, (2^64-5), by decide +kernel⟩,
   ⟨n3, (inTrail hold (sg 1)).set R.REPLACE_HI_new_int 7 3, by decide +kernel⟩,
   ⟨n3, hold, 77, by decide +kernel⟩,
   ⟨0xE0000123, by decide +kernel⟩,
   ⟨n3, { hold with hamper := { hold.hamper with heldSegs := [dsc 3] } }, dsc 3, by decide +kernel⟩⟩

/-- The hypotheses of LegTimerCommandsAct can be met, clause by clause. -/
theorem witness_LegTimerCommandsAct :
    (∃ (v : Word),
      (1000 ≤ bits v.toNat 15 0) ∧ (bits v.toNat 15 0 ≤ 25000)) ∧
    (∃ (v : Word),
      (bits v.toNat 15 0 < 1000 ∨ 25000 < bits v.toNat 15 0)) ∧
    (∃ (n : Fin 64) (s : State),
      (∀ k : Fin 4, (s.legs n).pre.testBit k → s.precharged n k)) ∧
    (∃ (n : Fin 64) (s : State),
      (s.flag R.LEG_STATUS_held_off n) ∧ ((s.tile n).lull.brakeArmed) ∧ (s.brakeChoice n) ∧ (s.pinsTaken = false) ∧
        (s.tilesEnabled)) ∧
    (∃ (n : Fin 64) (s : State) (k : Fin 4) (i : Nat),
      (i = 2 * k.val ∨ i = 2 * k.val + 1) ∧ (s.flag R.LEG_STATUS_held_off n = false) ∧ (s.pinsTaken = false) ∧ (s.tilesEnabled) ∧
        ((s.legs n).want.testBit i) ∧ ((s.legs n).want.testBit (State.otherGate i) = false) ∧ (s.mayTurnOn n i)) ∧
    (∃ (n : Fin 64) (s : State) (k : Fin 4),
      (s.energised n) ∧ (s.inDuty n (legPhase k)) ∧ ((s.legs n).live.testBit k)) ∧
    (∃ (n : Fin 64) (s : State),
      (s.periodDue n)) :=
  ⟨⟨1000, by decide +kernel⟩,
   ⟨999, by decide +kernel⟩,
   ⟨n3, ((hold.setFlag R.LEG_STATUS_precharging true 3).set R.LEG_STATUS_gates 0x55 3).modLegs 3 fun l => { l with pre := 15 },
     by decide +kernel⟩,
   ⟨n3, ((lull.setFlag R.LEG_STATUS_held_off true 3).setFlag R.LEG_CTL_lull_brake true 3).modLull 3 fun l =>
     {l with brakeArmed := true}, by decide +kernel⟩,
   ⟨n3, hold.modLegs 3 fun l => {l with want := 0x20}, 2, 5, by decide +kernel⟩,
   ⟨n3, (hold.setFlag R.CHOP_STATUS_duty_a true 3).modLegs 3 fun l =>
     {l with live := 15, period := 5000, deadHl := 10, deadLh := 10, minPulse := 20, cmp := 0x14}, 1, by decide +kernel⟩,
   ⟨n3, hold, by decide +kernel⟩⟩

/-- The hypotheses of TripsAndClockStopLatchLull can be met, clause by clause. -/
theorem witness_TripsAndClockStopLatchLull :
    (∃ (s : State) (k : Fin 16) (high : Bool),
      (s.fbit R.TRIP_STICKY_sticky k = false) ∧ (s.flag R.TRIP_CFG_enable k) ∧
        ((high != s.flag R.TRIP_CFG_active_low k) = true)) ∧
    (∃ (s : State),
      (s.flag R.TRIP_LOCK_lock = false)) ∧
    (∃ (n : Fin 64) (s : State) (x : Fin 2) (code : Int) (part : Fin 16) (w : Fin 6),
      (w = (if x = 0 then 2 else 3)) ∧ (s.winRuns n (2 + x.val)) ∧ (s.get (R.WIN_CFG_test.nth (2 + x.val)) n = 0) ∧
        (s.tripEnabled n x) ∧ (16 * (s.get (R.WIN_THR_upper.nth (2 + x.val)) n : Int) ≤ (levelOf code part) ∨
        (levelOf code part) ≤ 16 * (s.get (R.WIN_THR_lower.nth (2 + x.val)) n : Int)) ∧ (s.thrHolds (s.legs n).thrAt[w] = false) ∧
        (s.winBlanked n (2 + x.val) = false) ∧ (s.tripSticky n x = false)) ∧
    (∃ (n : Fin 64) (s : State),
      (s.st n ≠ stAsleep)) ∧
    (∃ (n : Fin 64) (s : State) (leg : _) (stops : _),
      (s.st n = stAsleep) ∧ (stops = false ∨ leg = false)) :=
  ⟨⟨((hold.setFlag R.TRIP_CFG_active_low false 4).setFlag R.TRIP_CFG_enable true 4).set R.TRIP_ROUTE_LO_tiles_lo 8 4, 4, true,
    by decide +kernel⟩,
   ⟨hold, by decide +kernel⟩,
   ⟨n3, hold.setFlag R.LEG_TRIP_en_w1 true 3, 1, 1024, 0, 3, by decide +kernel⟩,
   ⟨n3, hold, by decide +kernel⟩,
   ⟨n3, run, false, true, by decide +kernel⟩⟩

/-- The hypotheses of LullSourcesReleaseByTheirRoute can be met, clause by clause. -/
theorem witness_LullSourcesReleaseByTheirRoute :
    (∃ (s : State) (v : Word) (k : Fin 16),
      (v.getLsbD k = true) ∧ (s.fbit R.TRIP_STICKY_sticky k)) ∧
    (∃ (n : Fin 64) (s : State) (v : Word) (x : Fin 2),
      (v.getLsbD (8 + x.val) = true) ∧ (s.tripSticky n x)) ∧
    (∃ (n : Fin 64) (s : State),
      (s.fbit R.TILE_STATE_lull_source 4 n)) ∧
    (∃ (n : Fin 64) (s : State),
      (s.fbit R.TILE_STATE_lull_source 5 n) ∧ (s.clocksQualify n)) ∧
    (∃ (n : Fin 64) (s : State),
      (s.fbit R.TILE_STATE_lull_source 6 n) ∧ (s.alarmAsserted n = false) ∧ (s.domainsRaised = 0)) :=
  ⟨⟨hold.set R.TRIP_STICKY_sticky 0x10, 0x30, 4, by decide +kernel⟩,
   ⟨n3, lull.setFlag R.LEG_TRIP_sticky_w1 true 3, 0x300, 1, by decide +kernel⟩,
   ⟨n3, lull.setBit R.TILE_STATE_lull_source 4 true 3, by decide +kernel⟩,
   ⟨n3, lull.setBit R.TILE_STATE_lull_source 5 true 3, by decide +kernel⟩,
   ⟨n3, lull.setBit R.TILE_STATE_lull_source 6 true 3, by decide +kernel⟩⟩

/-- The hypotheses of CurrentCommandsAct can be met, clause by clause. -/
theorem witness_CurrentCommandsAct :
    (∃ (n : Fin 64) (s : State),
      (s.flag R.USTEP_STATUS_swap_pending n = false) ∧ (s.shapeOk n)) ∧
    (∃ (n : Fin 64) (s : State),
      (s.flag R.USTEP_STATUS_swap_pending n = false) ∧ (s.shapeOk n = false)) ∧
    (∃ (n : Fin 64) (s : State),
      (s.flag R.USTEP_STATUS_swap_pending n) ∧ (s.st n ≠ stMoving ∨ (s.elecIndex n ≠ s.get R.USTEP_STATUS_e n ∧
        s.elecIndex n % 256 = 0))) ∧
    (∃ (n : Fin 64) (s : State),
      (s.flag R.USTEP_STATUS_swap_pending n) ∧ (s.st n = stMoving) ∧ (s.elecIndex n = s.get R.USTEP_STATUS_e n ∨
        s.elecIndex n % 256 ≠ 0)) ∧
    (∃ (n : Fin 64) (s : State) (v : Word),
      (s.st n ≠ stMoving) ∧ (v.getLsbD 31 = false)) ∧
    (∃ (n : Fin 64) (s : State),
      (s.get R.USTEP_TBL_ADDR_index n ≤ 256) ∧ (s.flag R.USTEP_TBL_ADDR_active_sel n = false) ∧
        (s.flag R.USTEP_STATUS_swap_pending n = false)) ∧
    (∃ (n : Fin 64) (s : State),
      (s.st n ≠ stHolding) ∧ (s.st n ≠ stMoving)) ∧
    (∃ (n : Fin 64) (s : State),
      (s.st n = stHolding ∨ s.st n = stMoving)) ∧
    (∃ (n : Fin 64) (s : State),
      (s.energised n) ∧ (s.rampDue n) ∧ (s.get R.CUR_TIMING_ramp_step n ≠ 0)) ∧
    (∃ (n : Fin 64) (s : State),
      (s.st n = stHolding) ∧ ((s.tile n).cur.enteredAt + 10000000 * s.get R.CUR_TIMING_stand_delay n ≤ s.now)) ∧
    (∃ (n : Fin 64) (s : State) (a : _),
      (s.st n = stHolding) ∧ ((s.targetLevel n).1 = 2) ∧ (s.levelCode n = min (s.get R.CUR_LEVEL_hold n) (s.get R.CUR_CAP_cap n))
        ∧ ((s.tile n).cur.heldAt = some a) ∧ (a + 1000000000 * s.get R.CUR_TIMING_park_delay n ≤ s.now) ∧
        (s.get R.CUR_TIMING_park_delay n ≠ 0)) :=
  ⟨⟨n3, hold, by decide +kernel⟩,
   ⟨n3, hold.setShape 3 1 0 7, by decide +kernel⟩,
   ⟨n3, hold.setFlag R.USTEP_STATUS_swap_pending true 3, by decide +kernel⟩,
   ⟨n3, mv.setFlag R.USTEP_STATUS_swap_pending true 3, by decide +kernel⟩,
   ⟨n3, hold, 0x400000A5, by decide +kernel⟩,
   ⟨n3, hold.set R.USTEP_TBL_ADDR_index 256 3, by decide +kernel⟩,
   ⟨n3, idle, by decide +kernel⟩,
   ⟨n3, hold, by decide +kernel⟩,
   ⟨n3, hold.set R.CUR_TIMING_ramp_step 4 3, by decide +kernel⟩,
   ⟨n3, { hold with now := 200000000 }, by decide +kernel⟩,
   ⟨n3,
     { ((hold.set R.CUR_TIMING_park_delay 4 3).set R.CUR_TIMING_stand_delay 0 3).modCur 3 fun c => {c with stood := true, heldAt := some 5, ramped := hold.get R.CUR_LEVEL_hold 3} with now := 5000000000 },
     5, by decide +kernel⟩⟩

/-- The hypotheses of ChopperCommandsAct can be met, clause by clause. -/
theorem witness_ChopperCommandsAct :
    (∃ (n : Fin 64) (s : State) (x : Fin 2) (w : Fin 6) (code : Int) (part : Fin 16) (r : Bool × Bool),
      (w = (if x = 0 then 0 else 1)) ∧ (r = State.winCompare (s.winDir n x) (s.get (R.WIN_THR_upper.nth x) n) (s.get
        (R.WIN_THR_lower.nth x) n) 0 false false (levelOf code part)) ∧ (s.thrHolds (s.legs n).thrAt[w] = false) ∧
        (s.energised n = false) ∧ (s.st n ≠ stAsleep) ∧ (s.get (R.WIN_CFG_test.nth x) n = 0) ∧
        (s.fbit R.WIN_STATUS_latched x n ∨ State.condHolds (s.get (R.WIN_CFG_cond.nth x) n) r.1 r.2 = false)) ∧
    (∃ (n : Fin 64) (s : State) (x : Fin 2),
      (s.energised n) ∧ (s.inDuty n x = false) ∧ ((s.legs n).live / 4 ^ x.val % 4 = 3) ∧ ((s.legs n).pre / 4 ^ x.val % 4 = 0) ∧
        (s.bstate n x = 0) ∧ ((s.chop n x).below) ∧ ((s.chop n x).lastEdge + 5 * s.get R.CHOP_TIME_blank n ≤ s.now) ∧
        (s.sp n x ≠ 0) ∧ (5 * s.get R.CHOP_TIME_min_off n ≤ s.now - (s.chop n x).since)) ∧
    (∃ (n : Fin 64) (s : State) (k : Fin 4),
      (s.refreshDue n k)) ∧
    (∃ (n : Fin 64) (s : State) (x : Fin 2) (a : _),
      (s.energised n) ∧ ((s.chop n x).unregAt = some a) ∧ (a + 1000000 * max 1 (s.get R.CHOP_LIMIT_reg_loss n) ≤ s.now)) ∧
    (∃ (n : Fin 64) (s : State) (w : Fin 6),
      (s.winRuns n w) ∧ (s.get (R.WIN_CFG_test.nth w) n = 0) ∧ (State.condHolds (s.get (R.WIN_CFG_cond.nth w) n) (s.winAbove n w)
        (s.winBelow n w)) ∧ (s.winBlanked n w = false) ∧ (s.get (R.WIN_CFG_clr.nth w) n = 0)) :=
  ⟨⟨n3, idle.setBit R.WIN_STATUS_latched 1 true 3, 1, 1, 4096, 0, (true, false), by decide +kernel⟩,
   ⟨n3, ((hold.setInt R.PHASE_SP_sp_b (-500) 3).modLegs 3 fun l => {l with live := 15}).modChop 3 1 fun c =>
     {c with below := true, since := 4000}, 1, by decide +kernel⟩,
   ⟨n3, (hold.set R.LEG_STATUS_gates 0x80 3).set R.CHOP_LIMIT_refresh 8 3, 3, by decide +kernel⟩,
   ⟨n3, { (withExec mv (sg 1)).modChop 3 1 fun c => { c with unregAt := some 7 } with now := 900000000 }, 1, 7,
     by decide +kernel⟩,
   ⟨n3, (hold.setBit R.WIN_STATUS_raw 9 true 3), 4, by decide +kernel⟩⟩

/-- The hypotheses of WindowsLatchAndClear can be met, clause by clause. -/
theorem witness_WindowsLatchAndClear :
    (∃ (n : Fin 64) (s : State) (w : Fin 6) (code : Int) (part : Fin 16) (r : Bool × Bool),
      (r = State.winCompare (s.winDir n w) (s.get (R.WIN_THR_upper.nth w) n) (s.get (R.WIN_THR_lower.nth w) n) (if w.val < 2 then
        0 else State.hystCodes (s.get (R.WIN_CFG_hyst.nth w) n)) (s.winAbove n w) (s.winBelow n w) (levelOf code part)) ∧
        (s.thrHolds (s.legs n).thrAt[w] = false) ∧ (s.winRuns n w) ∧ (s.get (R.WIN_CFG_test.nth w) n = 0) ∧
        (State.condHolds (s.get (R.WIN_CFG_cond.nth w) n) r.1 r.2) ∧ (s.winBlanked n w = false)) ∧
    (∃ (s : State) (h : Fin 8) (code : Int) (part : Fin 16) (r : Bool × Bool),
      (r = State.winCompare 1 (s.get R.HWIN_THR_upper h) (s.get R.HWIN_THR_lower h) (State.hystCodes (s.get R.HWIN_CFG_hyst h))
        (s.hwinAbove h) (s.hwinBelow h) (levelOf code part)) ∧ (s.thrHolds s.hwinThrAt[h] = false) ∧ (s.hwinRuns h) ∧
        (s.get R.HWIN_CFG_test h = 0) ∧ (State.condHolds (s.get R.HWIN_CFG_cond h) r.1 r.2)) ∧
    (∃ (n : Fin 64) (s : State) (v : Word) (w : Fin 6),
      (v.getLsbD (24 + w.val) = true) ∧ (s.get (R.WIN_CFG_clr.nth w) n = 0) ∧ (s.winHolds n w = false)) ∧
    (∃ (n : Fin 64) (s : State) (v : Word) (w : Fin 6),
      (bits v.toNat 24 23 = 0) ∧ (bits v.toNat 29 28 ≠ 1) ∧ (w = 4 ∨ (w = 5 ∧ s.flag R.WIN_STATUS_push_owned n = false))) :=
  ⟨⟨n3, hold, 4, 1024, 0, (true, false), by decide +kernel⟩,
   ⟨hold, 4, 1024, 0, (true, false), by decide +kernel⟩,
   ⟨n3, hold.setBit R.WIN_STATUS_latched 4 true 3, 0x3F000000, 4, by decide +kernel⟩,
   ⟨n3, hold, 0xA0000400, 4, by decide +kernel⟩⟩

/-- The hypotheses of SundialUpdatesAndDecides can be met, clause by clause. -/
theorem witness_SundialUpdatesAndDecides :
    (∃ (n : Fin 64) (s : State),
      (s.flag R.RIPPLE_CTL_enable n) ∧ (s.sdMode n = 1 ∨ s.sdMode n = 2)) ∧
    (∃ (n : Fin 64) (s : State),
      (s.flag R.RIPPLE_CTL_enable n = false)) ∧
    (∃ (n : Fin 64) (s : State) (e : _),
      ((s.sd n).stallDue) ∧ (s.st n = stMoving) ∧ ((s.plan n).exec = some e) ∧
        (segType e.seg = 1 ∨ segType e.seg = 2 ∨ segType e.seg = 3)) ∧
    (∃ (n : Fin 64) (s : State),
      ((s.sd n).fitAt + 100000 ≤ s.now)) ∧
    (∃ (n : Fin 64) (s : State),
      (s.st n = stMoving) ∧ ((s.sd n).lowArmed) ∧ (s.get R.SD_STALL2_blind_limit n ≠ 0) ∧
        (s.get R.SD_CONF_conf n < s.get R.SD_STALL_stall_conf n) ∧ (max (s.sd n).lowAt (s.tile n).cur.enteredAt + 100000 * s.get
        R.SD_STALL2_blind_limit n ≤ s.now)) :=
  ⟨⟨n3, (hold.setFlag R.RIPPLE_CTL_enable true 3).setFlag R.SD_CTL_enable true 3, by decide +kernel⟩,
   ⟨n3, hold.setFlag R.RIPPLE_CTL_enable false 3, by decide +kernel⟩,
   ⟨n3, (withExec mv (sg 1)).modSd 3 fun d => {d with stallDue := true}, ex (sg 1), by decide +kernel⟩,
   ⟨n3, hold.set R.SD_CONF_conf 201 3, by decide +kernel⟩,
   ⟨n3, (((withExec mv (sg 1)).set R.SD_STALL2_blind_limit 5 3).set R.SD_STALL2_blind_action 3 3).modSd 3 fun d =>
     {d with lowArmed := true}, by decide +kernel⟩⟩

/-- The hypotheses of MapsAndWalksRun can be met, clause by clause. -/
theorem witness_MapsAndWalksRun :
    (∃ (n : Fin 64) (s : State),
      (s.mapRefused n = false) ∧ (s.psInForce 0x06 n = none)) ∧
    (∃ (n : Fin 64) (s : State),
      (s.mapRefused n = false) ∧ (s.st n ≠ stFault)) ∧
    (∃ (n : Fin 64) (s : State),
      (s.mapRefused n = false) ∧ (s.mapMagic n)) ∧
    (∃ (n : Fin 64) (s : State),
      (s.mapRefused n = false) ∧ (s.mapMagic n = false)) ∧
    (∃ (n : Fin 64) (s : State),
      (s.mapRefused n)) ∧
    (∃ (n : Fin 64) (s : State),
      (s.walking n = false) ∧ (s.st n = stHolding) ∧ (s.trailCount n = 0) ∧ (s.frozen n = false) ∧ (s.isMember n = false) ∧
        (s.flag R.CUR_STATUS_scale_invalid n = false) ∧ (50 ≤ s.get R.WALK_CFG_i_max_ma n) ∧
        (s.get R.WALK_CFG_i_max_ma n ≤ s.get R.CUR_SCALE_fs_ma n) ∧ (s.get R.WALK_CFG_dwell n ≠ 0) ∧
        (s.flag R.RIPPLE_CTL_enable n) ∧ (s.get R.RIPPLE_CTL_decim n = 0) ∧ (262144 ≤ s.get R.WALK_SPEED_speed n) ∧
        (s.get R.WALK_SPEED_speed n ≤ 14680064) ∧ (s.flag R.SD_STATUS_rate_60 n = false)) ∧
    (∃ (n : Fin 64) (s : State),
      (s.walking n)) ∧
    (∃ (n : Fin 64) (s : State) (w : _) (settle : List Nat),
      ((s.sd n).walk = some w) ∧ (w.done) ∧ (s.get R.WALK_STATUS_phase n = 1) ∧ (State.walkRing settle ≤ 4000) ∧ (s.walkUnit n)) ∧
    (∃ (n : Fin 64) (s : State) (w : _),
      ((s.sd n).walk = some w) ∧ (1000000 ≤ w.lone) ∧ (s.walkUnit n = false)) :=
  ⟨⟨n3, (idle.setFlag R.SD_STATUS_map_valid true 3).setBytes (tileSram 3) [1,2,3], by decide +kernel⟩,
   ⟨n3, mapStored, by decide +kernel⟩,
   ⟨n3, idle.setBytes (tileSram 3) (bytesLE 4 0x53440001), by decide +kernel⟩,
   ⟨n3, idle.setFlag R.SD_STATUS_map_valid true 3, by decide +kernel⟩,
   ⟨n3, hold, by decide +kernel⟩,
   ⟨n3, (((((hold.setFlag R.CUR_STATUS_scale_invalid false 3).set R.WALK_CFG_i_max_ma 500 3).set R.CUR_SCALE_fs_ma 1000 3).set
     R.WALK_CFG_dwell 10 3).setFlag R.RIPPLE_CTL_enable true 3).set R.WALK_SPEED_speed 300000 3, by decide +kernel⟩,
   ⟨n3, withWalk mv 4, by decide +kernel⟩,
   ⟨n3, (withWalk hold 1).setFlag R.SD_STATUS_grant true 3, wk, [], by decide +kernel⟩,
   ⟨n3, (withWalk mv 4).modSd 3 fun d => { d with walk := some { wk with lone := 1000000 } }, { wk with lone := 1000000 },
     by decide +kernel⟩⟩

/-- The hypotheses of ForceBudgetActs can be met, clause by clause. -/
theorem witness_ForceBudgetActs :
    (∃ (n : Fin 64) (s : State) (dir : Fin 4) (keyed : _),
      (s.fbLocked n = false ∨ keyed = true) ∧ (dir ≠ 0) ∧ (s.travelValid n)) ∧
    (∃ (n : Fin 64) (s : State) (keyed : _),
      (s.fbLocked n = false ∨ keyed = true)) ∧
    (∃ (n : Fin 64) (s : State),
      (s.fbLocked n)) ∧
    (∃ (n : Fin 64) (s : State) (e : _),
      ((s.force n).due) ∧ (s.st n = stMoving) ∧ ((s.sd n).stallDue = false) ∧ ((s.plan n).exec = some e) ∧ (segIsMove e.seg)) ∧
    (∃ (n : Fin 64) (s : State) (e : _),
      (s.retryWaited n) ∧ ((s.plan n).held = some e) ∧ (e.stop = Stopping.retrying)) ∧
    (∃ (n : Fin 64) (s : State) (e : _),
      ((s.plan n).exec = some e) ∧ (s.flag R.FB_CTL_enable n) ∧ (s.get R.FB_SLOW_blind_ms n ≠ 0) ∧ (s.st n = stMoving) ∧
        (State.testedSeg e.seg) ∧ ((s.force n).blindCeil = none) ∧ ((s.force n).assessedAt + 1000000 * s.get R.FB_SLOW_blind_ms n
        ≤ s.now)) :=
  ⟨⟨n3, hold.set R.FB_TRAVEL_HI_hi 5000 3, 3, false, by decide +kernel⟩,
   ⟨n3, (hold.setFlag R.FB_STATUS_learning_pos true 3).setFlag R.FB_LOCK_lock true 3, true, by decide +kernel⟩,
   ⟨n3, hold.setFlag R.FB_LOCK_lock true 3, by decide +kernel⟩,
   ⟨n3, ((withExec mv (sg 1)).modForce 3 fun d => {d with due := true}).set R.FB_POLICY_policy 1 3, ex (sg 1), by decide +kernel⟩,
   ⟨n3,
     { (mv.setFlag R.FB_STATUS_policy_busy true 3).modPlan 3 fun p => {p with held := some {ex (sg 1) with stop := Stopping.retrying}} with now := 1000000000000 },
     {ex (sg 1) with stop := Stopping.retrying}, by decide +kernel⟩,
   ⟨n3, {((withExec mv (sg 1)).setFlag R.FB_CTL_enable true 3).set R.FB_SLOW_blind_ms 20 3 with now := 20000000}, ex (sg 1),
     by decide +kernel⟩⟩

/-- The hypotheses of GustAndPushAct can be met, clause by clause. -/
theorem witness_GustAndPushAct :
    (∃ (n : Fin 64) (s : State),
      (s.flag R.GUST_CTL_enable n) ∧ (s.st n = stMoving ∨ (s.st n = stHolding ∧ s.flag R.GUST_CTL_in_hold n))) ∧
    (∃ (n : Fin 64) (s : State),
      (s.flag R.GUST_CTL_enable n) ∧ (s.st n = stHolding) ∧ (s.flag R.GUST_CTL_in_hold n = false)) ∧
    (∃ (n : Fin 64) (s : State),
      (s.flag R.GUST_CTL_enable n) ∧ (s.st n ≠ stMoving) ∧ (s.st n ≠ stHolding)) ∧
    (∃ (n : Fin 64) (s : State),
      (s.flag R.GUST_CTL_enable n) ∧ (s.flag R.GUST_STATUS_latched n = false) ∧
        (max 1 (s.get R.GUST_CTL_hold_ms n) ≤ (s.force n).above)) ∧
    (∃ (n : Fin 64) (s : State) (l : List (Bool × Bool)) (ts : List Nat) (r : Bool × Nat × Nat) (t0 : Nat),
      ((s.force n).pushAt = some t0) ∧ (State.pushFind (max 1 (s.get R.PUSH_CTL_periods n)) none none 0 0 (((l.zip ts).map fun (c
        : (Bool × Bool) × Nat) => (c.1.1, c.1.2, c.2)).filter fun c => decide (c.2.2 ≤ 500000000) && decide (t0 + c.2.2 ≤ s.now))
        = some r)) ∧
    (∃ (n : Fin 64) (s : State) (t0 : Nat),
      ((s.force n).pushAt = some t0) ∧ (t0 + 500000000 ≤ s.now)) :=
  ⟨⟨n3, mv.setFlag R.GUST_CTL_enable true 3, by decide +kernel⟩,
   ⟨n3, (hold.setFlag R.GUST_CTL_enable true 3).setFlag R.GUST_CTL_in_hold false 3, by decide +kernel⟩,
   ⟨n3, idle.setFlag R.GUST_CTL_enable true 3, by decide +kernel⟩,
   ⟨n3, (mv.setFlag R.GUST_CTL_enable true 3).modForce 3 fun f => {f with above := 70000}, by decide +kernel⟩,
   ⟨n3, idle.modForce 3 fun f => {f with pushAt := some 5}, [(false, true), (true, true), (false, false), (true, false), (false,
     true), (true, true), (false, false), (true, false), (false, true), (true, true)], [1, 2, 3, 4, 5, 6, 7, 8, 9, 10], (true, 2,
     2), 5, by decide +kernel⟩,
   ⟨n3, { idle.modForce 3 fun f => {f with pushAt := some 5} with now := 600000000 }, 5, by decide +kernel⟩⟩

/-- The hypotheses of HomingPhasesEnd can be met, clause by clause. -/
theorem witness_HomingPhasesEnd :
    (∃ (n : Fin 64) (s : State) (e : _) (pin : Fin 3) (high : _),
      (s.homeWaits n = some e) ∧ (e.home.phase = HomePhase.latch) ∧ (pin.val = bits e.seg.w1 25 24) ∧
        (s.portEdges (Fin.ofNat 16 (bits e.seg.w1 23 20)) pin) ∧ ((high != bit e.seg.w1 19) = true)) ∧
    (∃ (n : Fin 64) (s : State) (e : _),
      (s.homeWaits n = some e) ∧ (e.home.phase = HomePhase.search ∨ e.home.phase = HomePhase.latch ∨
        e.home.phase = HomePhase.index) ∧ (e.target = some (s.plan n).p)) ∧
    (∃ (n : Fin 64) (s : State) (e : _),
      (s.homeWaits n = some e) ∧ (e.home.phase = HomePhase.confirm) ∧ (e.startTime + 100000 * s.get R.TILE_TIMEOUTS_settle n ≤
        s.tickEnd) ∧ (s.get R.SD_STALL2_pos_conf n ≤ s.get R.SD_CONF_conf n)) ∧
    (∃ (n : Fin 64) (s : State) (m : _),
      ((s.plan n).wrapWrite = some m) ∧ (s.mayWritePos n) ∧ (m % 1024 = 0) ∧ (m ≤ 2 ^ 31)) ∧
    (∃ (n : Fin 64) (s : State) (m : _),
      ((s.plan n).wrapWrite = some m) ∧ (s.mayWritePos n = false ∨ m % 1024 ≠ 0 ∨ 2 ^ 31 < m)) :=
  ⟨⟨n3, (withHome 2 .latch).setFlag R.FB_CFG_enable true 0, homeEx 2 .latch, 1, true, by decide +kernel⟩,
   ⟨n3, withHome 2 .search, homeEx 2 .search, by decide +kernel⟩,
   ⟨n3, (((withHome 6 .confirm).set R.TILE_TIMEOUTS_settle 0 3).set R.SD_CONF_conf 255 3), homeEx 6 .confirm, by decide +kernel⟩,
   ⟨n3, hold.modPlan 3 fun p => {p with wrapWrite := some 204800, p := -7 * 2^70}, 204800, by decide +kernel⟩,
   ⟨n3, hold.modPlan 3 fun p => {p with wrapWrite := some 204801}, 204801, by decide +kernel⟩⟩

/-- The hypotheses of ConvertersRotateAndDegrade can be met, clause by clause. -/
theorem witness_ConvertersRotateAndDegrade :
    (∃ (n : Fin 64) (s : State) (c : Fin 4) (r : _) (k : Nat),
      (c ≠ 3) ∧ (s.spareOf (some n) c = some k) ∧ (s.calEnabled (some n)) ∧ (s.convRuns (some n) c) ∧
        ((s.convOf (some n) c).rotAt + s.rotNs (some n) ≤ s.now) ∧ (r.shadow.length ≤ (if c.val < 2 then 8192 else 1024)) ∧
        ((sliceStep r (s.convOf (some n) c).pos.length (2 ^ 20) ((s.convOf (some n) c).slices.getD k Slice.reset)).bad < 2)) ∧
    (∃ (s : State) (r : _) (k : Nat),
      (s.spareOf none 3 = some k) ∧ (s.calEnabled none) ∧ (s.convRuns none 3) ∧ ((s.convOf none 3).rotAt ≤ s.now) ∧
        (r.shadow.length ≤ 1024) ∧ ((sliceStep r (s.convOf none 3).pos.length (2 ^ 20) ((s.convOf none 3).slices.getD k
        Slice.reset)).bad < 2)) ∧
    (∃ (n : Fin 64) (s : State) (u : Option (Fin 64)) (c : Fin 4) (k : Nat),
      (u = some n ∧ c ≠ 3 ∨ u = none ∧ c = 3) ∧ (k < convSize c) ∧ (s.fbit (State.failedFld c) k (State.placeIx u) = false)) ∧
    (∃ (n : Fin 64) (q : Fin 4),
      (n.val / 16 = q.val)) ∧
    (∃ (n : Fin 64) (s : State),
      (s.st n ≠ stHolding) ∧ (s.st n ≠ stMoving) ∧ (s.st n ≠ stLull)) ∧
    (∃ (n : Fin 64) (s : State) (v : Word),
      (s.st n = stHolding ∨ s.st n = stMoving ∨ s.st n = stLull) ∧ (v.getLsbD 31 ≠ s.flag R.ADC_REF_f_ref n)) ∧
    (∃ (n : Fin 64) (s : State) (c : _),
      ((let k := s.get R.ADC_CAL_ADDR_slice n; if k < 5 then ((s.tile n).adc.conv[0]).slices[k]? else if k < 10 then ((s.tile n).adc.conv[1]).slices[k - 5]? else ((s.tile n).adc.conv[2]).slices[k - 10]?) = some c)) :=
  ⟨⟨n3, hold.set R.ADC_SLICES_spare_f1 4 3, 1, rot0, 4, by decide +kernel⟩,
   ⟨(hold.set R.HOUSE_STATUS_spare 2).setFlag R.HOUSE_CTL_cal_en true, rot0, 2, by decide +kernel⟩,
   ⟨n3, hold, some 3, 1, 4, by decide +kernel⟩,
   ⟨n3, 0, by decide +kernel⟩,
   ⟨n3, idle, by decide +kernel⟩,
   ⟨n3, hold, 0x80000080, by decide +kernel⟩,
   ⟨n3, (hold.set R.ADC_CAL_ADDR_slice 12 3).set R.ADC_CAL_ADDR_coeff 1 3, Slice.reset, by decide +kernel⟩⟩

/-- The hypotheses of ScansStartAndComplete can be met, clause by clause. -/
theorem witness_ScansStartAndComplete :
    (∃ (n : Fin 64) (s : State) (src : Fin 8),
      (src ≠ 0) ∧ (s.get R.SCAN_TRIG_src n = src) ∧ (s.get R.SCAN_TRIG_div n < (s.adc (some n)).div + 1) ∧
        (s.get R.SCAN_TRIG_delay n = 0) ∧ (s.scanRuns (some n)) ∧ ((s.adc (some n)).run = none) ∧
        (s.get R.SCAN_MASK_mask n ≠ 0)) ∧
    (∃ (n : Fin 64) (s : State) (src : Fin 8),
      (src ≠ 0) ∧ (s.get R.SCAN_TRIG_src n = src) ∧ (s.get R.SCAN_TRIG_div n < (s.adc (some n)).div + 1) ∧
        (s.get R.SCAN_TRIG_delay n ≠ 0)) ∧
    (∃ (n : Fin 64) (s : State) (src : Fin 8),
      (src ≠ 0) ∧ (s.get R.SCAN_TRIG_src n = src) ∧ ((s.adc (some n)).div + 1 ≤ s.get R.SCAN_TRIG_div n)) ∧
    (∃ (n : Fin 64) (s : State),
      (s.scanRuns (some n)) ∧ (s.get R.SCAN_MASK_mask n ≠ 0)) ∧
    (∃ (s : State),
      (s.scanRuns none) ∧ (s.get R.HOUSE_MASK_mask ≠ 0) ∧ (s.house.run = none)) ∧
    (∃ (n : Fin 64) (s : State),
      (s.st n = stHolding ∨ s.st n = stMoving ∨ s.st n = stLull) ∧ ((s.adc (some n)).run = none) ∧ (s.scanRuns (some n)) ∧
        ((s.adc (some n)).vmAt + 100000 ≤ s.now)) ∧
    (∃ (n : Fin 64) (s : State) (r : _) (k : Fin 16),
      ((s.adc (some n)).run = some r) ∧ ((s.adc (some n)).waiting = none) ∧ (r.mask = 2 ^ k.val) ∧ (s.runEnd (some n) r ≤ s.now) ∧
        (r.supply = true ∨ s.get R.SCAN_TRIG_src n ≠ 5)) ∧
    (∃ (v : Word),
      (bits v.toNat 8 0 ≠ 0) ∧ (bits v.toNat 8 0 ≤ 512) ∧ (0x18000 ≤ 64 * bits v.toNat 23 12) ∧
        (64 * (bits v.toNat 23 12 + bits v.toNat 8 0) ≤ 0x20000)) ∧
    (∃ (v : Word),
      (bits v.toNat 8 0 = 0 ∨ 64 * bits v.toNat 23 12 < 0x18000 ∨ 0x20000 < 64 * (bits v.toNat 23 12 + bits v.toNat 8 0))) ∧
    (∃ (n : Fin 64) (s : State) (v : Word),
      (bits v.toNat 12 0 < 16 * s.get R.SCAN_BUF_len n) ∧ (if s.get R.SCAN_WPTR_wrap n = bits v.toNat 31 31 then bits v.toNat 12 0
        ≤ s.get R.SCAN_WPTR_idx n else s.get R.SCAN_WPTR_idx n ≤ bits v.toNat 12 0)) ∧
    (∃ (n : Fin 64) (s : State) (a : List Int) (b : List Int),
      (s.flag R.WAVE_CTL_enable n) ∧ (s.fastRuns n) ∧ (a ≠ []) ∧ (b ≠ []) ∧ ((s.adc (some n)).wave.length + 1 < 250)) :=
  ⟨⟨n3, (hold.set R.SCAN_TRIG_src 2 3).set R.SCAN_MASK_mask 5 3, 2, by decide +kernel⟩,
   ⟨n3, (hold.set R.SCAN_TRIG_src 2 3).set R.SCAN_TRIG_delay 5 3, 2, by decide +kernel⟩,
   ⟨n3, (hold.set R.SCAN_TRIG_src 2 3).set R.SCAN_TRIG_div 4 3, 2, by decide +kernel⟩,
   ⟨n3, hold.set R.SCAN_MASK_mask 5 3, by decide +kernel⟩,
   ⟨hold.set R.HOUSE_MASK_mask 5, by decide +kernel⟩,
   ⟨n3, hold, by decide +kernel⟩,
   ⟨n3, { withScan hold 4 with now := 6000000 }, scanRunOf 4 1, 4, by decide +kernel⟩,
   ⟨0x80600010, by decide +kernel⟩,
   ⟨0x80700110, by decide +kernel⟩,
   ⟨n3, (hold.set R.SCAN_WPTR_idx 7 3).set R.SCAN_BUF_len 2 3, 0x00000006, by decide +kernel⟩,
   ⟨n3, hold.setFlag R.WAVE_CTL_enable true 3, [5], [-5, 6], by decide +kernel⟩⟩

/-- The hypotheses of AlarmsAndSiteTriggerAct can be met, clause by clause. -/
theorem witness_AlarmsAndSiteTriggerAct :
    (∃ (n : Fin 64) (s : State),
      (s.flag R.ADC_STATUS_alarm_armed n) ∧ (s.alarmTime (some n) ≤ s.now)) ∧
    (∃ (s : State),
      (s.houseArmed) ∧ (s.alarmTime none ≤ s.now)) ∧
    (∃ (s : State),
      (s.now + 2000 ≤ s.get64 R.SITE_TRIG_LO_time_lo R.SITE_TRIG_HI_time_hi)) ∧
    (∃ (s : State),
      (s.get64 R.SITE_TRIG_LO_time_lo R.SITE_TRIG_HI_time_hi < s.now + 2000)) ∧
    (∃ (s : State) (d : Desc),
      (s.now + 2000 ≤ fieldLE d.slot 0x20 8)) ∧
    (∃ (s : State) (x : Nat × Nat),
      (s.siteTrig = some x) ∧ (x.1 ≤ s.now)) :=
  ⟨⟨n3, hold.setFlag R.ADC_STATUS_alarm_armed true 3, by decide +kernel⟩,
   ⟨{ hold with houseArmed := true }, by decide +kernel⟩,
   ⟨hold.set R.SITE_TRIG_LO_time_lo 5002000, by decide +kernel⟩,
   ⟨hold.set R.SITE_TRIG_LO_time_lo 5001999, by decide +kernel⟩,
   ⟨{ hold with now := 5000 }, dsc 3, by decide +kernel⟩,
   ⟨{ (hold.set R.SITE_TRIG_MASK_LO_tiles_lo 0xFF) with siteTrig := some (7, 0) }, (7, 0), by decide +kernel⟩⟩

/-- The hypotheses of FeedbackPortsCount can be met, clause by clause. -/
theorem witness_FeedbackPortsCount :
    (∃ (k : Fin 16) (s : State) (pins : Fin 8),
      (s.feedRuns k) ∧ (s.feedMode k = 0) ∧ ((quadPlace (s.feedLevels k pins.val) + 4 - quadPlace (s.get R.FBK_STATUS_levels k)) %
        4 = 1 ∨ (quadPlace (s.feedLevels k pins.val) + 4 - quadPlace (s.get R.FBK_STATUS_levels k)) % 4 = 3)) ∧
    (∃ (k : Fin 16) (s : State),
      (s.flag R.FB_CFG_enable k = false)) ∧
    (∃ (k : Fin 16) (s : State),
      (s.feedRuns k) ∧ (s.get R.FB_CFG_idx_mode k ≠ 0) ∧ ((s.feed k).zRose) ∧ (s.indexPasses k)) ∧
    (∃ (k : Fin 16) (s : State) (pin : Fin 2) (t0 : Nat),
      ((s.feed k).hold[pin] = some t0) ∧ (t0 ≤ s.now) ∧ (s.feedMode k = 3) ∧ (s.feedRuns k) ∧
        ((s.get R.FBK_STATUS_levels k).testBit pin = (s.feed k).acc.testBit pin)) ∧
    (∃ (k : Fin 16) (s : State),
      (s.feedRuns k) ∧ (s.feedMode k = 5) ∧ ((s.feed k).frame = none) ∧ (State.passedSince (s.feed k).frameEnd (1000 * max 1
        (s.get R.FB_MODECFG_mono k)) s.now)) ∧
    (∃ (k : Fin 16) (s : State) (at_ : Nat) (idle : _),
      ((s.feed k).frame = some (at_, idle)) ∧ (s.flag R.FB_MODECFG_line_chk k = false ∨ idle = true) ∧ ((s.feed k).last = none) ∧
        (s.get R.FB_MODECFG_bits k ≤ 32)) ∧
    (∃ (k : Fin 16) (s : State) (t0 : Nat) (up : _),
      ((s.feed k).prev = some (t0, up)) ∧ (s.feedRuns k) ∧ (s.feedMode k ≠ 5) ∧
        (t0 + 10000 * max 1 (s.get R.FB_STAND_stand k) ≤ s.now - 10 * s.feedFilt k)) ∧
    (∃ (v : Word),
      (v.toNat ≤ 2 ^ 31)) ∧
    (∃ (v : Word),
      (2 ^ 31 < v.toNat)) :=
  ⟨⟨5, feedOn 0, 1, by decide +kernel⟩,
   ⟨5, hold, by decide +kernel⟩,
   ⟨5, ((((feedOn 1).set R.FB_CFG_idx_mode 2 5).set R.FB_POS_pos 99 5).setFlag R.FBK_STATUS_idx_armed true 5).modFeed 5 fun f =>
     { f with zRose := true }, by decide +kernel⟩,
   ⟨5, (feedOn 3).modFeed 5 fun f => { f with hold := f.hold.set 1 (some 77) }, 1, 77, by decide +kernel⟩,
   ⟨5, feedOn 5, by decide +kernel⟩,
   ⟨5, ((feedOn 5).set R.FB_MODECFG_bits 13 5).modFeed 5 fun f => { f with frame := some (99, true) }, 99, true,
     by decide +kernel⟩,
   ⟨5, ((feedOn 0).set R.FB_STAND_stand 7 5).modFeed 5 fun f => { f with prev := some (0, true) }, 0, true, by decide +kernel⟩,
   ⟨0x80000000, by decide +kernel⟩,
   ⟨0x80000001, by decide +kernel⟩⟩

/-- The hypotheses of FeedbackConfigurationAndEmulation can be met, clause by clause. -/
theorem witness_FeedbackConfigurationAndEmulation :
    (∃ (k : Fin 16) (s : State) (v : Word),
      (s.flag R.FB_CFG_enable k = false) ∧ (bits v.toNat 30 28 < 6) ∧ (bits v.toNat 23 22 ≠ 3) ∧
        (bits v.toNat 23 22 = 0 ∨ bits v.toNat 30 28 < 4)) ∧
    (∃ (v : Word),
      (6 ≤ bits v.toNat 30 28 ∨ bits v.toNat 23 22 = 3 ∨ (bits v.toNat 23 22 ≠ 0 ∧ 4 ≤ bits v.toNat 30 28))) ∧
    (∃ (v : Word),
      (v.toNat % 65536 ≠ 0)) ∧
    (∃ (j : Fin 8) (s : State) (v : Word),
      (s.flag R.EMU_CFG_enable j = false) ∧ (v.getLsbD 31 = true)) ∧
    (∃ (j : Fin 8) (s : State),
      (s.flag R.EMU_CFG_enable j) ∧ (s.fieldRuns) ∧ (s.getInt R.EMU_COUNT_count j ≠ s.emuTarget j) ∧
        (State.passedSince (s.emu j).edge (10 * max 4 (s.get R.EMU_CFG_gap j)) s.now)) :=
  ⟨⟨5, hold.set R.FB_CFG_mode 3 5, 0x9F4003FF, by decide +kernel⟩,
   ⟨0xF0000000, by decide +kernel⟩,
   ⟨0x00050003, by decide +kernel⟩,
   ⟨1, ((hold.set R.EMU_LINES_lines 500 1).set R.EMU_USTEPS_ustep_rev 51200 1).modPlan 3 fun p => { p with p := -12345 * 2 ^ 70 },
     0x80300000, by decide +kernel⟩,
   ⟨1, (((hold.setFlag R.EMU_CFG_enable true 1).set R.EMU_CFG_tile 3 1).set R.EMU_LINES_lines 500 1).modPlan 3 fun p =>
     { p with p := -12345 * 2 ^ 70 }, by decide +kernel⟩⟩

/-- The hypotheses of SensorFrontEndVisitsAndDecides can be met, clause by clause. -/
theorem witness_SensorFrontEndVisitsAndDecides :
    (∃ (k : Fin 8) (s : State),
      (s.flag R.SFE_CTL_enable) ∧ (s.flag R.SFE_CTL_test = false) ∧ (s.sfe.visit = none) ∧ (s.fieldRuns) ∧ (s.sfe.asked = []) ∧
        (s.sfeNext s.sfe.next = some k) ∧ (s.get R.SFE_CTL_check_s = 0) ∧ ((s.sfeCh k).left = 0)) ∧
    (∃ (k : Fin 8) (s : State) (v : Visit),
      (s.sfeGated v) ∧ (s.sfe.visit = some v) ∧ (v.ch = k.val) ∧ (v.check = false) ∧ (v.volt = false)) ∧
    (∃ (k : Fin 8) (s : State) (v : Visit),
      (s.sfe.visit = some v) ∧ (v.ch = k.val) ∧ (v.check = false) ∧ (v.volt = true) ∧ (v.lead = false) ∧ (v.leadDue = false) ∧
        (s.sfeSlotted v) ∧ (s.flag R.SFE_STATUS_house_lost = false)) ∧
    (∃ (k : Fin 8) (s : State) (v : Visit) (re : Int),
      (s.sfe.visit = some v) ∧ (v.ch = k.val) ∧ (v.check = true) ∧ (s.flag R.SFE_STATUS_house_lost = false) ∧ (s.sfeToned v) ∧
        (0 < re)) ∧
    (∃ (s : State) (v : Word),
      (s.flag R.SFE_CTL_test) ∧ (16 ≤ bits v.toNat 4 0 ∨ bits v.toNat 4 0 ≠ bits v.toNat 12 8) ∧ (bits v.toNat 26 24 ≠ 7)) ∧
    (∃ (s : State),
      (s.flag R.SFE_CTL_test = false)) :=
  ⟨⟨6, sfeOn, by decide +kernel⟩,
   ⟨6, withVisit false false,
     { ch := 6, check := false, volt := false, lead := false, leadDue := false, began := 0, cfg := (sfeOn.rd (R.SFE_CFG_enable.at 6)).toNat, par := 0, aux := 0, lim := 0 },
     by decide +kernel⟩,
   ⟨6, withVisit false true,
     { ch := 6, check := false, volt := true, lead := false, leadDue := false, began := 0, cfg := (sfeOn.rd (R.SFE_CFG_enable.at 6)).toNat, par := 0, aux := 0, lim := 0 },
     by decide +kernel⟩,
   ⟨6, withVisit true true,
     { ch := 6, check := true, volt := true, lead := false, leadDue := false, began := 0, cfg := (sfeOn.rd (R.SFE_CFG_enable.at 6)).toNat, par := 0, aux := 0, lim := 0 },
     9000000, by decide +kernel⟩,
   ⟨hold.setFlag R.SFE_CTL_test true, 0x03000502, by decide +kernel⟩,
   ⟨hold, by decide +kernel⟩⟩

/-- The hypotheses of GroupsFormMoveAndDissolve can be met, clause by clause. -/
theorem witness_GroupsFormMoveAndDissolve :
    (∃ (k : Fin 16) (d : Desc) (s : State) (ms : List AxisRef) (tag : _),
      (s.motionRefusal d.ref = none) ∧ (s.isRoot = false ∨ d.ref.own = false) ∧ (fieldLE d.slot 0x20 2 = tag) ∧ (tag ≠ 0) ∧
        (s.slotOfTag tag = none) ∧ (50 ≤ fieldLE d.slot 0x22 2) ∧ (fieldLE d.slot 0x22 2 ≤ 1000) ∧
        (fieldLE d.slot 0x24 1 = ms.length) ∧ (ms ≠ []) ∧ (ms.length ≤ 16) ∧ (ms.Nodup) ∧
        (((ms.filter fun a => s.isHere a).any fun a => s.isMember a.tile || decide (s.get R.POS_WRAP_modulus a.tile ≠ 0)) = false)
        ∧ (((List.range 16).find? fun i => (s.group i).isNone) = some k.val)) ∧
    (∃ (k : Fin 16) (d : Desc) (s : State),
      (s.slotOfTag (fieldLE d.slot 0x20 2) = some k.val)) ∧
    (∃ (k : Fin 16) (d : Desc) (g : GroupSlot) (s : State) (len : Nat) (vel : Nat) (acc : Nat) (jerk : Nat),
      (s.motionRefusal d.ref = none) ∧ (s.ledSlot (fieldLE d.slot 0x20 2) = some k.val) ∧ (s.group k = some g) ∧
        (State.moveFieldsOk d g (moveEntries d)) ∧ (len = pathLen (s.moveDists g (moveEntries d) (State.moveReqOf d).absolute)) ∧
        (vel = pathLimit len (((s.moveDists g (moveEntries d) (State.moveReqOf d).absolute).map (fun (e : Nat × Int) =>
        e.2)).zip ((moveEntries d).map GroupEntry.vel))) ∧ (acc = pathLimit len (((s.moveDists g (moveEntries d) (State.moveReqOf
        d).absolute).map (fun (e : Nat × Int) => e.2)).zip ((moveEntries d).map GroupEntry.acc))) ∧
        (jerk = pathLimit len (((s.moveDists g (moveEntries d) (State.moveReqOf d).absolute).map (fun (e : Nat × Int) =>
        e.2)).zip ((moveEntries d).map GroupEntry.jerk))) ∧ (0 < vel) ∧ (vel < 2 ^ 31) ∧ (0 < acc) ∧ (0 < jerk) ∧
        (bits (State.moveReqOf d).w0 15 9 ≤ 100) ∧ (((s.moveDists g (moveEntries d) (State.moveReqOf d).absolute).any
        (s.outsideSoft g)) = false)) ∧
    (∃ (s : State) (n : Fin 64),
      (s.readyNow n) ∧ (s.timeGood)) ∧
    (∃ (s : State) (n : Fin 64),
      (s.readyNow n = false ∨ s.timeGood = false)) ∧
    (∃ (k : Fin 16) (g : GroupSlot) (s : State),
      (s.group k = some g)) ∧
    (∃ (k : Fin 16) (g : GroupSlot) (s : State) (n : Fin 64) (epoch : Nat) (seq : Nat),
      (s.tickEnd % 10000000 = 0) ∧ (s.timeGood) ∧ (s.ranNow k = [(n, epoch, seq)]) ∧ (s.group k = some g) ∧ (g.leaderHere) ∧
        (g.checks = [])) ∧
    (∃ (k : Fin 16) (g : GroupSlot) (s : State) (tick : Nat),
      (s.group k = some g) ∧ (g.leaderHere) ∧ ((g.checks.filter fun (c : Checksum) => decide (c.tick = tick)) ≠ []) ∧
        (g.devices.any (fun (e : Nat × Nat) => (g.checks.filter fun (c : Checksum) =>
        decide (c.tick = tick)).all fun (c : Checksum) => decide (c.device ≠ e.1)))) ∧
    (∃ (k : Fin 16) (g : GroupSlot) (s : State) (tick : Nat),
      (s.group k = some g) ∧ (g.devices.all (fun (e : Nat × Nat) => (g.checks.filter fun (c : Checksum) =>
        decide (c.tick = tick)).any fun (c : Checksum) => decide (c.device = e.1)))) :=
  ⟨⟨1, dsl [(0x20, 2, 9), (0x22, 2, 60), (0x24, 1, 2)], hold.setGroup 0 (some { gslot with tag := 4 }), [⟨0, 0, 5⟩, ⟨0, 0, 63⟩],
    9, by decide +kernel⟩,
   ⟨2, moveD, grp gslot, by decide +kernel⟩,
   ⟨2, moveD, gslot, grp gslot, 51200, 100000, 200000, 300000, by decide +kernel⟩,
   ⟨inTrail (grp gslot (hold.set R.TIME_STATUS_state 1)) readySeg, n3, by decide +kernel⟩,
   ⟨(grp gslot).setFlag R.GROUP_STATUS_ready true 3, n3, by decide +kernel⟩,
   ⟨2, { gslot with scales := [scq] }, grp { gslot with scales := [scq] }, by decide +kernel⟩,
   ⟨2, gslot, (grp gslot ({ (hold.set R.TIME_STATUS_state 1) with now := 9999000 })).modPlan 3 fun p =>
     { p with groupRun := some (10000000, 0, 1) }, n3, 0, 1, by decide +kernel⟩,
   ⟨2, { gslot with devices := [(0, 0), (5, 1)], checks := [⟨77, 0, 5, 1⟩] },
     grp { gslot with devices := [(0, 0), (5, 1)], checks := [⟨77, 0, 5, 1⟩] }, 77, by decide +kernel⟩,
   ⟨2, { gslot with checks := [⟨77, 0, 5, 1⟩] }, grp { gslot with checks := [⟨77, 0, 5, 1⟩] }, 77, by decide +kernel⟩⟩

/-- The hypotheses of GroupCommandsScheduleAndAct can be met, clause by clause. -/
theorem witness_GroupCommandsScheduleAndAct :
    (∃ (k : Fin 16) (d : Desc) (g : GroupSlot) (s : State) (apply : Nat),
      (s.ledSlot (fieldLE d.slot 0x20 2) = some k.val) ∧ (s.group k = some g) ∧ (s.spread g = false ∨ s.stepHolds = false) ∧
        (apply = if s.spread g then State.tickAtOrAfter (s.tickStart + State.leadNs g) else s.tickEnd)) ∧
    (∃ (k : Fin 16) (d : Desc) (g : GroupSlot) (s : State) (apply : Nat),
      (s.motionRefusal d.ref = none) ∧ (s.ledSlot (fieldLE d.slot 0x20 2) = some k.val) ∧ (s.group k = some g) ∧
        (s.spread g = false ∨ s.stepHolds = false) ∧ (apply = if s.spread g then State.tickAtOrAfter (s.tickStart + State.leadNs
        g) else s.tickEnd)) ∧
    (∃ (k : Fin 16) (d : Desc) (g : GroupSlot) (s : State),
      (s.ledSlot (fieldLE d.slot 0x20 2) = some k.val) ∧ (s.group k = some g) ∧ (s.spread g) ∧ (s.stepHolds)) ∧
    (∃ (d : Desc) (s : State) (st : Nat),
      (s.motionRefusal d.ref = some st) ∧ (MailOpen s d.ref)) ∧
    (∃ (d : Desc) (s : State),
      (s.ledSlot (fieldLE d.slot 0x20 2) = none) ∧ (MailOpen s d.ref)) ∧
    (∃ (k : Fin 16) (g : GroupSlot) (s : State) (c : GroupCmd),
      (s.group k = some g) ∧ ((g.cmds.filter fun (c : GroupCmd) => decide (c.apply ≤ s.tickStart)) = [c]) ∧
        (c.cmd = State.gcStop ∨ c.cmd = State.gcAbort ∨ c.cmd = State.gcFreeze)) ∧
    (∃ (k : Fin 16) (g : GroupSlot) (s : State) (c : GroupCmd) (r : CmdRef),
      (s.group k = some g) ∧ ((g.cmds.filter fun (c : GroupCmd) => decide (c.apply ≤ s.tickStart)) = [c]) ∧
        (c.cmd = State.gcFreeze) ∧ (c.ref = some r) ∧ (MailOpen s r)) ∧
    (∃ (k : Fin 16) (g : GroupSlot) (s : State) (c : GroupCmd),
      (s.group k = some g) ∧ ((g.cmds.filter fun (c : GroupCmd) => decide (c.apply ≤ s.tickStart)) = [c]) ∧
        (c.cmd = State.gcResume)) ∧
    (∃ (k : Fin 16) (g : GroupSlot) (s : State) (c : GroupCmd),
      (s.group k = some g) ∧ ((g.cmds.filter fun (c : GroupCmd) => decide (c.apply ≤ s.tickStart)) = [c]) ∧
        (c.cmd = State.gcReplace)) ∧
    (∃ (k : Fin 16) (g : GroupSlot) (s : State),
      (s.group k = some g) ∧ ((g.cmds.filter fun (c : GroupCmd) => decide (c.apply ≤ s.tickStart)) = [])) :=
  ⟨⟨2, moveD, gslot, grp gslot, hold.tickEnd, by decide +kernel⟩,
   ⟨2, moveD, gslot, grp gslot, hold.tickEnd, by decide +kernel⟩,
   ⟨2, moveD, { gslot with devices := [(0, 0), (7, 1)] }, ((grp { gslot with devices := [(0, 0), (7, 1)] }).setFlag
     R.TIME_STATUS_step_pending true).set R.TIME_STEP_AT_LO_at_ (hold.now + 100000), by decide +kernel⟩,
   ⟨{ dsc 3 with ref := ref2 }, mbox (hold.set R.USF_AUTH_state 2), 0x0F, by decide +kernel⟩,
   ⟨{ dsc 3 with ref := ref2 }, mbox, by decide +kernel⟩,
   ⟨2, { gslot with cmds := [⟨1, 0, 4000, 0, 0, some rf⟩] }, grp { gslot with cmds := [⟨1, 0, 4000, 0, 0, some rf⟩] } (withExec mv
     (sg 1)), ⟨1, 0, 4000, 0, 0, some rf⟩, by decide +kernel⟩,
   ⟨2, { gslot with cmds := [⟨4, 0, 4000, 0, 0, some ref2⟩] }, mbox (grp { gslot with cmds := [⟨4, 0, 4000, 0, 0, some ref2⟩] }
     (inTrail hold (sg 1))), ⟨4, 0, 4000, 0, 0, some ref2⟩, ref2, by decide +kernel⟩,
   ⟨2, { gslot with cmds := [⟨5, 0, 4000, 0, 0, some rf⟩] }, (grp { gslot with cmds := [⟨5, 0, 4000, 0, 0, some rf⟩] }).setFlag
     R.TILE_STATE_trail_frozen true 3, ⟨5, 0, 4000, 0, 0, some rf⟩, by decide +kernel⟩,
   ⟨2, { gslot with cmds := [⟨8, 700, 4000, 0, 0, some rf⟩] }, grp { gslot with cmds := [⟨8, 700, 4000, 0, 0, some rf⟩] }
     (withExec mv (sg 6)), ⟨8, 700, 4000, 0, 0, some rf⟩, by decide +kernel⟩,
   ⟨2, gslot, grp gslot, by decide +kernel⟩⟩

/-- The hypotheses of TileInterfaceActs can be met, clause by clause. -/
theorem witness_TileInterfaceActs :
    (∃ (n : Fin 64) (s : State) (g : Seg),
      (g = (let c := s.core (State.coreIx n); (⟨c.seg[0].toNat, c.seg[1].toNat, c.seg[2].toNat, c.seg[3].toNat, c.seg[4].toNat, c.seg[5].toNat, c.seg[6].toNat, c.seg[7].toNat⟩ : Seg))) ∧ (segType g ≠ 6) ∧ (s.segLegal n g) ∧ (s.trailCount n < 1024)) ∧
    (∃ (n : Fin 64) (s : State) (g : Seg),
      (g = (let c := s.core (State.coreIx n); (⟨c.seg[0].toNat, c.seg[1].toNat, c.seg[2].toNat, c.seg[3].toNat, c.seg[4].toNat, c.seg[5].toNat, c.seg[6].toNat, c.seg[7].toNat⟩ : Seg))) ∧ (segType g ≠ 6) ∧ (s.segLegal n g = false)) ∧
    (∃ (n : Fin 64) (s : State) (code : BitVec 16),
      (0 < s.trailCount n) ∧ ((s.plan n).exec = none) ∧ (segCond (s.segAt n (s.head n)) = 4) ∧
        ((s.segAt n (s.head n)).w6 % 65536 = code.toNat)) ∧
    (∃ (n : Fin 64) (s : State) (lo : Word),
      (sparseFind (State.tiKey n 0x30) s.holds = some (Requester.tile n, lo))) ∧
    (∃ (n : Fin 64) (s : State),
      (sparseFind (State.tiKey n 0x30) s.holds = none)) ∧
    (∃ (n : Fin 64) (s : State),
      ((s.core (State.coreIx n)).armed) ∧ ((s.core (State.coreIx n)).alarm ≤ s.now) ∧ (s.coreState n ≠ 7)) ∧
    (∃ (n : Fin 64) (s : State),
      (s.flag R.HIKER_MBOX_CTL_from_full n = false)) ∧
    (∃ (n : Fin 64) (s : State),
      (s.flag R.HIKER_MBOX_CTL_from_full n)) ∧
    (∃ (n : Fin 64) (s : State),
      (s.flag R.HIKER_MBOX_CTL_to_full n = false)) ∧
    (∃ (n : Fin 64) (s : State),
      (s.flag R.HIKER_MBOX_CTL_to_full n)) :=
  ⟨⟨n3, hold.modCore 3 fun c => { c with seg := #v[4, 100, 0, 0, 0, 0, 0, 0] }, ⟨4, 100, 0, 0, 0, 0, 0, 0⟩, by decide +kernel⟩,
   ⟨n3, hold.modCore 3 fun c => { c with seg := #v[9, 0, 0, 0, 0, 0, 0, 0] }, ⟨9, 0, 0, 0, 0, 0, 0, 0⟩, by decide +kernel⟩,
   ⟨n3, inTrail hold ⟨1 + 4 * 65536, 0, 0, 5, 5, 5, 77, 0⟩, 77, by decide +kernel⟩,
   ⟨n3, { hold with holds := [(State.tiKey 3 0x30, (.tile 3, 9))] }, 9, by decide +kernel⟩,
   ⟨n3, hold, by decide +kernel⟩,
   ⟨n3, hold.modCore 3 fun c => { c with armed := true, alarm := 7 }, by decide +kernel⟩,
   ⟨n3, hold.modCore 3 fun c => { c with outBox := #v[1, 2, 3, 4] }, by decide +kernel⟩,
   ⟨n3, hold.setFlag R.HIKER_MBOX_CTL_from_full true 3, by decide +kernel⟩,
   ⟨n3, run, by decide +kernel⟩,
   ⟨n3, hold.setFlag R.HIKER_MBOX_CTL_to_full true 3, by decide +kernel⟩⟩

/-- The hypotheses of CoresStartStopAndInterrupt can be met, clause by clause. -/
theorem witness_CoresStartStopAndInterrupt :
    (∃ (s : State) (k : Fin 66) (c : Core),
      (s.coreRuns k) ∧ (c = State.endWait (s.core k)) ∧ (State.atBoundary c) ∧ (c.status.getLsbD 29) ∧
        (c.status.getLsbD 28 = false) ∧ (State.readyLines (s.core k) ≠ 0) ∧ (c.stepping = false)) ∧
    (∃ (n : Fin 64) (s : State) (v : Word),
      (bits v.toNat 28 27 ≠ 0) ∧ (s.innerState n ≠ 1) ∧ (s.innerState n ≠ 2) ∧ (s.innerState n ≠ 4)) ∧
    (∃ (n : Fin 64) (s : State) (v : Word),
      (bits v.toNat 28 27 = 0) ∧ (s.innerState n = 3)) ∧
    (∃ (n : Fin 64) (s : State),
      (s.coreState n = 2) ∧ (State.atBoundary (State.endWait (s.core (State.coreIx n)))) ∧
        ((s.core (State.coreIx n)).deferred ≠ some true)) ∧
    (∃ (n : Fin 64) (s : State),
      (s.coreState n = 2) ∧ (State.atBoundary (State.endWait (s.core (State.coreIx n))) = false) ∧
        ((s.core (State.coreIx n)).deferred ≠ some true)) ∧
    (∃ (n : Fin 64) (s : State),
      (s.innerState n ≠ 0)) ∧
    (∃ (n : Fin 64) (s : State) (img : Option (List Byte)) (src : Option (List Byte)) (r : Nat),
      (src = s.loadSource n img) ∧ (s.innerState n = 1) ∧ ((s.core (State.coreIx n)).loadSrc ≠ 3) ∧
        (r = State.imageCheck src false 0x18000 0x20000 (s.get R.HIKER_XIP_offset n))) ∧
    (∃ (n : Fin 64) (s : State) (d : Desc),
      (d.tile = n) ∧ (s.motionRefusal d.ref = none) ∧ (s.innerState n = 1) ∧ ((s.core (State.coreIx n)).loadSrc = 3) ∧
        (s.isRoot)) :=
  ⟨⟨(coreR 2).modCore 3 fun c => { c with irqPend := 0x120, irqEn := 0xFFFF, status := 0xA0000000 }, 3,
    { hold.core 3 with irqPend := 0x120, irqEn := 0xFFFF, status := 0xA0000000 }, by decide +kernel⟩,
   ⟨n3, hold, 0x90000000, by decide +kernel⟩,
   ⟨n3, coreR 3, 0x80000000, by decide +kernel⟩,
   ⟨n3, coreR 2, by decide +kernel⟩,
   ⟨n3, (coreR 2).modCore 3 fun c => { c with shadow := true }, by decide +kernel⟩,
   ⟨n3, coreR 2, by decide +kernel⟩,
   ⟨n3, coreR 1, none, none, 7, by decide +kernel⟩,
   ⟨n3, ((coreR 1).setFlag R.USF_ID_root true).modCore 3 fun c => { c with loadSrc := 3 }, dsc 3, by decide +kernel⟩⟩

/-- The hypotheses of CanopyScansAndVetoes can be met, clause by clause. -/
theorem witness_CanopyScansAndVetoes :
    (∃ (n : Fin 64) (s : State),
      (s.gridDue s.canopy.scanAt[(0 : Fin 2)] 50000) ∧ (s.split = false) ∧ (s.coreRuns State.canopy0) ∧ (∀ m : Fin 64, m ≠ n →
        bit (s.safety m 0) 31 = false) ∧ (s.st n ≠ stAsleep) ∧ (bit (s.safety n 0) 31) ∧ (s.scanTests n = none)) ∧
    (∃ (n : Fin 64) (s : State),
      (s.gridDue s.canopy.scanAt[(0 : Fin 2)] 50000) ∧ (s.split = false) ∧ (s.coreRuns State.canopy0) ∧ (∀ m : Fin 64, m ≠ n →
        bit (s.safety m 0) 31 = false) ∧ (s.st n = stHolding ∨ s.st n = stMoving) ∧ (bit (s.safety n 0) 31) ∧
        (bit (s.safety n 0) 30 = false) ∧ (bit (s.safety n 0) 29 = false) ∧ (bit (s.safety n 0) 28) ∧
        (s.safety n 3 < (s.getInt R.VEL_vel n).natAbs) ∧ (max 1 (bits (s.safety n 0) 25 22) ≤ bits (s.safety n 7) 23 16) ∧
        (s.vetoed n = false)) ∧
    (∃ (n : Fin 64) (s : State),
      (s.gridDue s.canopy.scanAt[(0 : Fin 2)] 50000) ∧ (s.split = false) ∧ (s.coreRuns State.canopy0) ∧ (∀ m : Fin 64, m ≠ n →
        bit (s.safety m 0) 31 = false) ∧ (s.st n ≠ stAsleep) ∧ (bit (s.safety n 0) 31) ∧ (bit (s.safety n 0) 30 = false) ∧
        (bit (s.safety n 0) 29 = false) ∧ (bit (s.safety n 0) 28 = false) ∧ (bit (s.safety n 0) 27 = false) ∧
        (bit (s.safety n 0) 26) ∧ (bits (s.safety 64 0) 15 0 ≠ 0) ∧ (1000000 * bits (s.safety 64 0) 15 0 < s.now -
        s.canopy.hostKick) ∧ (s.vetoed n = false)) ∧
    (∃ (s : State) (one : Bool),
      (s.coreRuns (s.canopyCore one) = false)) ∧
    (∃ (s : State) (one : Bool),
      (s.gridDue s.canopy.scanAt[s.canopyIndex one] 50000 = false)) ∧
    (∃ (n : Fin 64) (s : State) (one : Bool) (hi : Bool) (v : Word),
      (n ∈ s.maskTiles one hi v)) ∧
    (∃ (n : Fin 64) (s : State) (one : Bool) (hi : Bool) (v : Word),
      (n ∈ s.maskTiles one hi v) ∧ (s.vetoed n)) ∧
    (∃ (s : State) (one : Bool) (hi : Bool) (v : Word),
      (∀ m ∈ s.maskTiles one hi v, s.canopy.ticket.testBit m.val = false ∨ s.vetoed m = false)) ∧
    (∃ (n : Fin 64) (s : State) (one : Bool),
      (s.split = false ∨ s.ownedByOne n = one)) :=
  ⟨⟨n3, (safe3 0x90000000 5).putSafety 3 7 0x01020005, by decide +kernel⟩,
   ⟨n3, ((safe3 0x90000000 5).putSafety 3 7 0x01020005).setInt R.VEL_vel (-6) 3, by decide +kernel⟩,
   ⟨n3, (safe3 0x84000000 5).putSafety 64 0 3, by decide +kernel⟩,
   ⟨hold, false, by decide +kernel⟩,
   ⟨{ up with canopy := { up.canopy with scanAt := #v[some 5000000, none] } }, false, by decide +kernel⟩,
   ⟨n3, hold, false, false, 8, by decide +kernel⟩,
   ⟨n3,
     { (lull.setBit R.TILE_STATE_lull_source 2 true 3).setMaskBit R.VETO_LO_tiles R.VETO_HI_tiles 3 true with canopy := { hold.canopy with ticket := 8 } },
     false, false, 8, by decide +kernel⟩,
   ⟨{ hold with canopy := { hold.canopy with ticket := 8 } }, false, false, 8, by decide +kernel⟩,
   ⟨n3, hold, false, by decide +kernel⟩⟩

/-- The hypotheses of CanopyFailureStopsThePair can be met, clause by clause. -/
theorem witness_CanopyFailureStopsThePair :
    (∃ (s : State),
      (s.get R.CANOPY_STATUS_mode = 0) ∧ ((s.core State.canopy0).stopped = false)) ∧
    (∃ (s : State),
      (s.recent s.canopy.testAt 99000000 = false) ∧ (s.get R.CANOPY_STATUS_mode = 0) ∧ ((s.core State.canopy0).stopped = false)) ∧
    (∃ (s : State),
      (s.recent s.canopy.testAt 99000000 = false) ∧ (s.get R.CANOPY_STATUS_mode = 0) ∧ ((s.core State.canopy0).stopped = false)) ∧
    (∃ (s : State),
      (s.get R.CANOPY_STATUS_mode ≠ 0 ∨ (s.core State.canopy0).stopped = true)) ∧
    (∃ (s : State),
      (s.get R.CANOPY_STATUS_mode = 0) ∧ (s.bench = false) ∧ ((s.core State.canopy0).stopped = false) ∧
        ((s.core State.canopy0).wasState ≠ 0) ∧ (s.canopy.kickAt[(0 : Fin 2)] + 200000 ≤ s.now)) ∧
    (∃ (s : State) (one : Bool),
      (s.now < s.canopy.kickAt[(if s.split && one then 1 else 0 : Fin 2)] + 200000)) ∧
    (∃ (s : State),
      (s.get R.CANOPY_STATUS_mode = 0)) :=
  ⟨⟨up, by decide +kernel⟩,
   ⟨up.set R.CANOPY_SELFTEST_word 0x1FF, by decide +kernel⟩,
   ⟨up, by decide +kernel⟩,
   ⟨up.modCore State.canopy0 fun c => { c with stopped := true }, by decide +kernel⟩,
   ⟨up, by decide +kernel⟩,
   ⟨{ up with now := 199999 }, false, by decide +kernel⟩,
   ⟨up, by decide +kernel⟩⟩

/-- The hypotheses of GovernorRoundKeepsCapacity can be met, clause by clause. -/
theorem witness_GovernorRoundKeepsCapacity :
    (∃ (s : State),
      (s.canopyUp) ∧ (s.gridDue s.canopy.roundAt 100000)) ∧
    (∃ (s : State),
      (s.canopyUp = false)) :=
  ⟨⟨((up.set R.GOV_COST_full_mw 100).set R.GOV_COST_red_mw 0).set R.GOV_CAP_budget_mw 250, by decide +kernel⟩,
   ⟨hold, by decide +kernel⟩⟩

/-- The hypotheses of CanopyMailboxAnswers can be met, clause by clause. -/
theorem witness_CanopyMailboxAnswers :
    (∃ (s : State),
      (s.cmbWaiting = some 1)) ∧
    (∃ (s : State),
      (s.cmbWaiting = some 3)) ∧
    (∃ (s : State),
      (s.cmbWaiting = some 2) ∧ (s.flag R.PWR_STATUS_dusk_active = false)) ∧
    (∃ (s : State),
      (s.cmbWaiting = some 2) ∧ (s.flag R.PWR_STATUS_dusk_active)) ∧
    (∃ (s : State) (c : Nat),
      (s.cmbWaiting = some c) ∧ (c = 0 ∨ 3 < c)) ∧
    (∃ (s : State),
      (s.cmbWaiting = none)) :=
  ⟨⟨askCmb 1, by decide +kernel⟩,
   ⟨askCmb 3, by decide +kernel⟩,
   ⟨(askCmb 2).set R.PS_STATUS_mode 2, by decide +kernel⟩,
   ⟨(askCmb 2).setFlag R.PWR_STATUS_dusk_active true, by decide +kernel⟩,
   ⟨askCmb 0, 0, by decide +kernel⟩,
   ⟨hold, by decide +kernel⟩⟩

/-- The hypotheses of CheckpointsCommitAndWait can be met, clause by clause. -/
theorem witness_CheckpointsCommitAndWait :
    (∃ (s : State),
      (s.ps.want = none)) ∧
    (∃ (s : State) (c : Nat),
      (s.ps.want = some c) ∧ (c ≠ 2) ∧ (s.get R.PS_CKPT_GEN_gen ≠ 0) ∧ (s.now < s.ps.lastCommit + 10000000 * s.get
        R.PS_CKPT_CFG_min_gap)) ∧
    (∃ (s : State) (c : Nat),
      (s.ps.want = some c) ∧ (s.canopyUp) ∧ (s.get R.PS_STATUS_mode ≠ 2) ∧ (c = 2 ∨ s.get R.PS_CKPT_GEN_gen = 0 ∨
        s.ps.lastCommit + 10000000 * s.get R.PS_CKPT_CFG_min_gap ≤ s.now)) ∧
    (∃ (s : State),
      (s.ps.want = some 2) ∧ (s.canopyUp) ∧ (s.get R.PS_STATUS_mode ≠ 2) ∧ (s.ps.volatile_.testBit 0 = false) ∧
        (s.ps.openGen = none)) ∧
    (∃ (s : State),
      (s.ps.want = none) ∧ (s.get R.PS_STATUS_mode = 0) ∧ (s.flag R.PS_CKPT_CFG_timer_en) ∧ (s.ps.moved) ∧
        (s.ps.lastCommit + 60 * 10 ^ 9 * max 1 (s.get R.PS_CKPT_CFG_timer_min) ≤ s.now)) ∧
    (∃ (s : State),
      (s.flag R.PS_CKPT_CFG_timer_en = false ∨ s.ps.moved = false ∨ s.now < s.ps.lastCommit + 60 * 10 ^ 9 * max 1 (s.get
        R.PS_CKPT_CFG_timer_min))) ∧
    (∃ (s : State),
      (s.get R.TIME_STATUS_state ≠ 0) ∧ (s.deviceRuns) ∧ (s.canopyUp) ∧ (s.ps.refreshed + 86400 * 10 ^ 9 ≤ s.now)) ∧
    (∃ (s : State),
      (s.get R.TIME_STATUS_state = 0 ∨ s.deviceRuns = false ∨ s.now < s.ps.refreshed + 86400 * 10 ^ 9)) :=
  ⟨⟨up, by decide +kernel⟩,
   ⟨let u := (up.set R.PS_CKPT_GEN_gen 4).set R.PS_CKPT_CFG_min_gap 1; { u with ps := { u.ps with want := some 1 } }, 1, by decide +kernel⟩,
   ⟨let u := up; { u with ps := { u.ps with want := some 1 } }, 1, by decide +kernel⟩,
   ⟨let u := up; { u with ps := { u.ps with want := some 2 } }, by decide +kernel⟩,
   ⟨let u := up.setFlag R.PS_CKPT_CFG_timer_en true; { u with ps := { u.ps with moved := true }, now := 6000000000000 }, by decide +kernel⟩,
   ⟨up, by decide +kernel⟩,
   ⟨{ up.set R.TIME_STATUS_state 1 with now := 86400000000000 }, by decide +kernel⟩,
   ⟨up, by decide +kernel⟩⟩

/-- The hypotheses of StoreFailuresLoadsAndSaves can be met, clause by clause. -/
theorem witness_StoreFailuresLoadsAndSaves :
    (∃ (s : State),
      (s.flag R.PWR_STATUS_dusk_active = false) ∧ (s.ps.used < 128)) ∧
    (∃ (s : State),
      (s.flag R.PWR_STATUS_dusk_active = false) ∧ (128 ≤ s.ps.used) ∧ (s.get R.PS_STATUS_mode = 0) ∧ (s.ps.victims = [])) ∧
    (∃ (s : State),
      (s.flag R.PWR_STATUS_dusk_active)) ∧
    (∃ (s : State),
      (s.flag R.PS_LOAD_CTL_busy = false)) ∧
    (∃ (s : State),
      (s.flag R.PS_LOAD_CTL_busy)) ∧
    (∃ (s : State),
      (s.flag R.PS_LOAD_CTL_busy)) ∧
    (∃ (s : State),
      (s.flag R.PS_LOAD_CTL_busy) ∧ (s.get R.PS_LOAD_CTL_kind = 0) ∧ (s.get R.PS_LOAD_CTL_number ≠ s.get R.DAWN_STATUS_booted)) ∧
    (∃ (s : State),
      (s.flag R.PS_LOAD_CTL_busy) ∧ (s.get R.PS_LOAD_CTL_kind = 0) ∧ (s.get R.PS_LOAD_CTL_number = s.get R.DAWN_STATUS_booted)) ∧
    (∃ (s : State),
      (s.flag R.PS_LOAD_CTL_busy) ∧ (s.get R.PS_LOAD_CTL_kind = 1) ∧ (s.get R.DAWN_STATUS_stage ≠ 6) ∧
        (65536 < s.get R.PS_LOAD_LEN_length)) ∧
    (∃ (s : State),
      (s.flag R.PS_LOAD_CTL_busy = false)) ∧
    (∃ (s : State),
      (s.ps.log = [])) ∧
    (∃ (s : State),
      (s.flag R.PARAM_SAVE_busy = false) ∧ (s.flag R.PWR_STATUS_dusk_active = false)) ∧
    (∃ (s : State),
      (s.flag R.PARAM_SAVE_busy = false) ∧ (s.flag R.PWR_STATUS_dusk_active)) ∧
    (∃ (s : State),
      (s.flag R.PARAM_SAVE_busy)) ∧
    (∃ (s : State),
      (s.flag R.PARAM_SAVE_busy)) ∧
    (∃ (s : State),
      (s.flag R.PARAM_SAVE_busy = false)) :=
  ⟨⟨up, by decide +kernel⟩,
   ⟨let u := up; { u with ps := { u.ps with used := 128 } }, by decide +kernel⟩,
   ⟨up.setFlag R.PWR_STATUS_dusk_active true, by decide +kernel⟩,
   ⟨hold, by decide +kernel⟩,
   ⟨hold.setFlag R.PS_LOAD_CTL_busy true, by decide +kernel⟩,
   ⟨hold.setFlag R.PS_LOAD_CTL_busy true, by decide +kernel⟩,
   ⟨(hold.setFlag R.PS_LOAD_CTL_busy true).set R.PS_LOAD_CTL_number 1, by decide +kernel⟩,
   ⟨hold.setFlag R.PS_LOAD_CTL_busy true, by decide +kernel⟩,
   ⟨((hold.setFlag R.PS_LOAD_CTL_busy true).set R.PS_LOAD_CTL_kind 1).set R.PS_LOAD_LEN_length 65537, by decide +kernel⟩,
   ⟨hold, by decide +kernel⟩,
   ⟨hold.set R.PS_LOG_ADDR_word 15, by decide +kernel⟩,
   ⟨hold, by decide +kernel⟩,
   ⟨hold.setFlag R.PWR_STATUS_dusk_active true, by decide +kernel⟩,
   ⟨hold.setFlag R.PARAM_SAVE_busy true, by decide +kernel⟩,
   ⟨hold.setFlag R.PARAM_SAVE_busy true, by decide +kernel⟩,
   ⟨hold, by decide +kernel⟩⟩

/-- The hypotheses of SiteTimeExchangesSteer can be met, clause by clause. -/
theorem witness_SiteTimeExchangesSteer :
    (∃ (s : State) (p : Fin 4),
      (p ≠ 0) ∧ (s.portUp p)) ∧
    (∃ (s : State) (b : List Byte),
      (s.isMaster = false) ∧ (bit (fieldLE b 3 1) 0 = false) ∧ (s.portUp 0)) ∧
    (∃ (s : State) (b : List Byte),
      (s.isMaster = false) ∧ (bit (fieldLE b 3 1) 0) ∧ (s.now < fieldLE b 8 8)) ∧
    (∃ (s : State),
      (s.isMaster)) ∧
    (∃ (s : State) (x : SyncRx),
      (s.clock.sync = some x)) ∧
    (∃ (s : State) (p : Fin 4),
      (s.portUp p)) ∧
    (∃ (s : State) (b : List Byte) (x : SyncRx) (t1 : Nat) (d : Int) (o : Int),
      (s.clock.sync = some x) ∧ (x.t1 = some t1) ∧ (s.isMaster = false) ∧ (x.seq = fieldLE b 0 2) ∧
        (s.clock.picky = false ∨ x.locked = true) ∧ (d = truncDiv (((x.t2 : Int) - t1) + ((fieldLE b 8 8 : Int) - x.t3)) 2) ∧
        (o = (x.t2 : Int) - t1 - d) ∧ (-2147483648 ≤ d ∧ d ≤ 2147483647)) ∧
    (∃ (s : State),
      (s.get R.TIME_STATUS_state = 4) ∧ (s.clock.syncAt + 10000 * s.get R.TIME_CFG_interval ≤ s.now)) ∧
    (∃ (s : State),
      (s.get R.TIME_STATUS_state ≠ 4 ∨ s.now < s.clock.syncAt + 10000 * s.get R.TIME_CFG_interval)) :=
  ⟨⟨hold.set R.USF_PSTATUS_state 4 2, 2, by decide +kernel⟩,
   ⟨hold.set R.USF_PSTATUS_state 4 0, bytesLE 2 77 ++ [1, 8] ++ List.replicate 20 0, by decide +kernel⟩,
   ⟨hold, bytesLE 2 77 ++ [1, 5, 0, 0, 0, 0] ++ bytesLE 8 9000000 ++ bytesLE 8 8000000, by decide +kernel⟩,
   ⟨hold.set R.TIME_STATUS_state 2, by decide +kernel⟩,
   ⟨{ hold with clock := { hold.clock with sync := some { seq := 77, t1 := none, t2 := 5000000, t3 := 5000000, epoch := 0, saturated := false, locked := true } } },
     { seq := 77, t1 := none, t2 := 5000000, t3 := 5000000, epoch := 0, saturated := false, locked := true }, by decide +kernel⟩,
   ⟨hold.set R.USF_PSTATUS_state 4 2, 2, by decide +kernel⟩,
   ⟨{ hold with clock := { hold.clock with sync := some { seq := 77, t1 := some 4999000, t2 := 5000000, t3 := 5000000, epoch := 0, saturated := false, locked := true } } },
     bytesLE 2 77 ++ [0, 0, 0, 0, 0, 0] ++ bytesLE 8 4999190,
     { seq := 77, t1 := some 4999000, t2 := 5000000, t3 := 5000000, epoch := 0, saturated := false, locked := true }, 4999000, 95,
     905, by decide +kernel⟩,
   ⟨(hold.set R.TIME_STATUS_state 4).set R.TIME_CFG_interval 10, by decide +kernel⟩,
   ⟨hold.set R.TIME_STATUS_state 3, by decide +kernel⟩⟩

/-- The hypotheses of TimeEdgesAndStepsApply can be met, clause by clause. -/
theorem witness_TimeEdgesAndStepsApply :
    (∃ (s : State) (fall : Bool),
      (s.flag R.TIME_CFG_pps_en) ∧ (s.isMaster) ∧ (s.flag R.TIME_CFG_pps_fall = fall) ∧
        (∀ a ∈ s.clock.ppsAt, a + 900000000 ≤ s.now)) ∧
    (∃ (s : State) (fall : Bool),
      (s.flag R.TIME_CFG_pps_en = false ∨ s.isMaster = false ∨ s.flag R.TIME_CFG_pps_fall ≠ fall ∨ (∃ a ∈ s.clock.ppsAt,
        s.now < a + 900000000))) ∧
    (∃ (s : State) (a : Nat),
      (s.clock.ppsAt = some a) ∧ (s.get R.TIME_STATUS_state = 2)) ∧
    (∃ (s : State) (d : Int),
      (s.stepPending) ∧ (s.stepAt ≤ s.now) ∧ (d = (s.stepNew : Int) - s.stepAt) ∧ (s.clock.ppsLater = none) ∧
        (s.clock.waits = [])) ∧
    (∃ (s : State),
      (s.stepPending = false ∨ s.now < s.stepAt)) ∧
    (∃ (s : State) (a : Nat),
      (s.clock.woke = some a)) :=
  ⟨⟨(hold.setFlag R.TIME_CFG_pps_en true).set R.TIME_STATUS_state 1, false, by decide +kernel⟩,
   ⟨(hold.setFlag R.TIME_CFG_pps_en true).set R.TIME_STATUS_state 1, true, by decide +kernel⟩,
   ⟨{ hold.set R.TIME_STATUS_state 2 with now := 7100000000, clock := { hold.clock with ppsAt := some 6000000000 } }, 6000000000,
     by decide +kernel⟩,
   ⟨(((hold.set R.TIME_STEP_AT_LO_at_ 4000000).set R.TIME_STEP_NEW_LO_new 3000000).setFlag R.TIME_STATUS_step_pending true).set
     R.TIME_EPOCH_epoch 9, -1000000, by decide +kernel⟩,
   ⟨hold, by decide +kernel⟩,
   ⟨{ hold with clock := { hold.clock with woke := some 0 }, now := 100000000 }, 0, by decide +kernel⟩⟩

/-- The hypotheses of PowerStatesEnterAndWake can be met, clause by clause. -/
theorem witness_PowerStatesEnterAndWake :
    (∃ (s : State) (r : Nat),
      (s.get R.PWR_STATUS_state < 2) ∧ (r ≠ 0)) ∧
    (∃ (s : State),
      (s.get R.PWR_STATUS_state = 0) ∧ (s.powerRefusal 1 = 0)) ∧
    (∃ (s : State),
      (s.get R.PWR_STATUS_state < 2) ∧ (s.spcBusy = false)) ∧
    (∃ (s : State),
      (s.get R.PWR_STATUS_state < 2) ∧ (s.spcBusy)) ∧
    (∃ (s : State) (b : Fin 7),
      (b.val ≠ 1) ∧ (s.get R.PWR_STATUS_state = 1 ∨ s.get R.PWR_STATUS_state = 2) ∧ (s.wakeEnabled b) ∧
        (s.flag R.PWR_STATUS_dusk_active = false)) ∧
    (∃ (s : State) (b : Fin 7),
      (b.val ≠ 1) ∧ (s.get R.PWR_STATUS_state = 3) ∧ (s.wakeEnabled b) ∧ (s.flag R.PWR_STATUS_dusk_active = false)) ∧
    (∃ (s : State) (b : Fin 7),
      (b.val ≠ 1) ∧ (s.get R.PWR_STATUS_state ≠ 0) ∧ (s.wakeEnabled b = false)) :=
  ⟨⟨hold, 1, by decide +kernel⟩,
   ⟨idle.setFlag R.PWR_STATUS_supply_good true, by decide +kernel⟩,
   ⟨(idle.setFlag R.PWR_STATUS_supply_good true).set R.WAKE_EN_en 1, by decide +kernel⟩,
   ⟨((idle.setFlag R.PWR_STATUS_supply_good true).set R.WAKE_EN_en 1).setFlag R.SPC_STATUS_busy true 2, by decide +kernel⟩,
   ⟨(run.set R.PWR_STATUS_state 1).set R.WAKE_EN_en 0x7F, 6, by decide +kernel⟩,
   ⟨(run.set R.PWR_STATUS_state 3).set R.WAKE_EN_en 0x7F, 6, by decide +kernel⟩,
   ⟨run.set R.PWR_STATUS_state 3, 6, by decide +kernel⟩⟩

/-- The hypotheses of DuskAndClocksKeepPositions can be met, clause by clause. -/
theorem witness_DuskAndClocksKeepPositions :
    (∃ (s : State) (c : Fin 3),
      (s.duskDue (c.val + 1)) ∧ (s.flag R.PWR_STATUS_dusk_active = false) ∧ (s.lookout.off = false) ∧
        (s.get R.PWR_STATUS_state < 2)) ∧
    (∃ (s : State) (c : Fin 3),
      (s.duskDue (c.val + 1) = false ∨ s.flag R.PWR_STATUS_dusk_active = true ∨ s.lookout.off = true)) ∧
    (∃ (s : State),
      (s.flag R.PWR_STATUS_dusk_active = false ∨ s.ps.want = some 2)) ∧
    (∃ (s : State),
      (s.flag R.PWR_STATUS_dusk_active) ∧ (s.ps.want ≠ some 2) ∧ (s.flag R.PWR_STATUS_supply_good = false ∨
        s.flag R.PS_STATUS_restored = false)) ∧
    (∃ (s : State) (a : Nat),
      (s.flag R.PWR_STATUS_dusk_active) ∧ (s.ps.want ≠ some 2) ∧ (s.flag R.PWR_STATUS_supply_good) ∧
        (s.flag R.PS_STATUS_restored) ∧ (s.lookout.goodFrom = some a) ∧ (a + 1000000 * max 1 (s.get R.DUSK_CFG_recover) ≤ s.now) ∧
        (s.get R.PWR_STATUS_state < 2)) :=
  ⟨⟨(hold.setFlag R.DUSK_CFG_clock_en true).setFlag R.CLK_STATUS_ref_lost true, 2, by decide +kernel⟩,
   ⟨hold, 1, by decide +kernel⟩,
   ⟨hold, by decide +kernel⟩,
   ⟨hold.setFlag R.PWR_STATUS_dusk_active true, by decide +kernel⟩,
   ⟨{ (((lull.setFlag R.PWR_STATUS_dusk_active true).setFlag R.PWR_STATUS_supply_good true).setFlag R.PS_STATUS_restored true).setBit R.TILE_STATE_lull_source 7 true 3 with lookout := { hold.lookout with goodFrom := some 0 }, now := 300000000 },
     0, by decide +kernel⟩⟩

/-- The hypotheses of SerialPortsMoveFrames can be met, clause by clause. -/
theorem witness_SerialPortsMoveFrames :
    (∃ (k : Fin 4) (s : State) (need : Nat),
      (need = s.get R.SPC_FRAME_count k + 1) ∧ (s.flag R.SPC_CFG_enable k) ∧ (s.flag R.SPC_STATUS_busy k = false) ∧
        (need ≤ (s.spc k).tx.length) ∧ ((s.spc k).rx.length + need ≤ 32) ∧ (s.flag R.XIP_CFG_enable = false)) ∧
    (∃ (k : Fin 4) (s : State),
      ((s.get R.SPC_FRAME_sel k = 2 ∧ k = 0 ∧ s.flag R.XIP_CFG_enable = true) ∨ s.flag R.SPC_CFG_enable k = false ∨
        s.flag R.SPC_STATUS_busy k = true ∨ (s.spc k).tx.length < s.get R.SPC_FRAME_count k + 1 ∨
        32 < (s.spc k).rx.length + (s.get R.SPC_FRAME_count k + 1))) ∧
    (∃ (k : Fin 4) (s : State),
      (s.flag R.SPC_STATUS_busy k = false)) ∧
    (∃ (k : Fin 4) (s : State),
      (s.flag R.SPC_STATUS_busy k)) ∧
    (∃ (k : Fin 4) (s : State) (f : Nat × Bool),
      ((s.spc k).frame = some f) ∧ (s.now < (s.spc k).lastEdge ∨ s.flag R.SPC_STATUS_xip_wait k = true)) ∧
    (∃ (k : Fin 4) (s : State) (f : Nat × Bool) (last : Bool),
      ((s.spc k).frame = some f) ∧ (last = true ∨ ((s.spc k).lastEdge ≤ s.now ∧ s.flag R.SPC_STATUS_xip_wait k = false))) ∧
    (∃ (k : Fin 4) (s : State),
      ((s.spc k).frame = none)) ∧
    (∃ (k : Fin 4) (s : State) (w : Word) (l : List Word),
      ((s.spc k).rx = w :: l)) ∧
    (∃ (k : Fin 4) (s : State),
      ((s.spc k).rx = [])) ∧
    (∃ (k : Fin 4) (s : State) (got : List Word),
      ((s.spc k).frame = some (got.length, false)) ∧ (s.flag R.SPC_STATUS_xip_wait k = false) ∧ ((s.spc k).endsAt ≤ s.now) ∧
        (s.lookout.entry = none)) ∧
    (∃ (k : Fin 4) (s : State) (got : List Word) (need : Nat),
      ((s.spc k).frame = some (need, true)) ∧ (got.length ≤ need) ∧ (s.lookout.entry = none)) :=
  ⟨⟨2, (spcOn 2 [1, 2, 3] [9]).set R.SPC_FRAME_count 1 2, 2, by decide +kernel⟩,
   ⟨2, hold, by decide +kernel⟩,
   ⟨2, spcOn 2 [1, 2, 3] [9], by decide +kernel⟩,
   ⟨2, spcFrame (2, false) [1, 2] [], by decide +kernel⟩,
   ⟨2, let u := spcFrame (2, false) [1, 2] []; u.setSpc 2 { u.spc 2 with lastEdge := u.now + 1 }, (2, false), by decide +kernel⟩,
   ⟨2, spcFrame (2, false) [1, 2] [], (2, false), true, by decide +kernel⟩,
   ⟨2, hold, by decide +kernel⟩,
   ⟨2, spcOn 2 [] [7, 8], 7, [8], by decide +kernel⟩,
   ⟨2, hold, by decide +kernel⟩,
   ⟨2, (spcFrame (2, false) [1, 2, 5] [4]).set R.SPC_CFG_bits 7 2, [0xFFFF, 3], by decide +kernel⟩,
   ⟨2, spcFrame (2, true) [1, 2, 5] [4], [3], 2, by decide +kernel⟩⟩

/-- The hypotheses of FlashReadsAndTargetFramesAct can be met, clause by clause. -/
theorem witness_FlashReadsAndTargetFramesAct :
    (∃ (s : State) (d : Sfdp) (m : Nat),
      (s.flag R.XIP_STATUS_busy) ∧ (d.log2 < 256) ∧ (m = s.get R.XIP_CFG_max_width)) ∧
    (∃ (s : State),
      (s.flag R.XIP_STATUS_busy)) ∧
    (∃ (s : State) (k : Fin 66),
      (s.coreRuns k)) ∧
    (∃ (s : State) (k : Fin 66),
      (s.coreRuns k)) ∧
    (∃ (s : State) (k : Fin 66),
      (s.coreRuns k = false)) ∧
    (∃ (s : State) (w : Word),
      (bits w.toNat 31 30 = 0) ∧ (s.sptBad w = false)) ∧
    (∃ (s : State) (w : Word),
      (bits w.toNat 31 30 = 1) ∧ (s.sptBad w)) ∧
    (∃ (s : State) (w : Word),
      (bits w.toNat 31 30 = 1) ∧ (bits w.toNat 29 20 = 0) ∧ (s.sptBad w = false) ∧ (s.spt.stream = false)) ∧
    (∃ (s : State) (w : Word) (k : Nat),
      (bits w.toNat 31 30 = 2) ∧ (bits w.toNat 29 20 = 0) ∧ (s.sptBad w = false) ∧ (s.spt.compat = false) ∧ (k ≤ 64)) ∧
    (∃ (s : State) (v : Word),
      (s.spt.stream = false) ∧ (s.spt.whole) ∧ (s.spt.words ≤ 1032) ∧ (s.spt.held = [(0x40, v)]) ∧ (v.toNat % 256 ≤ 0x41)) ∧
    (∃ (s : State) (part : Fin 32),
      (s.spt.stream = false) ∧ (part ≠ 0 ∨ s.spt.whole = false ∨ 1032 < s.spt.words)) :=
  ⟨⟨(hold.setFlag R.XIP_STATUS_busy true).set R.XIP_CFG_max_width 2,
    { log2 := 24, addrBytes := 0, quad := some (0x6B, 8), quadAddr := some (0xEB, 6), four := none }, 2, by decide +kernel⟩,
   ⟨hold.setFlag R.XIP_STATUS_busy true, by decide +kernel⟩,
   ⟨coreR 2, 3, by decide +kernel⟩,
   ⟨coreR 2, 3, by decide +kernel⟩,
   ⟨hold, 3, by decide +kernel⟩,
   ⟨sptHost, 0, by decide +kernel⟩,
   ⟨sptHost, 0x40000001, by decide +kernel⟩,
   ⟨sptHost, 0x40000040, by decide +kernel⟩,
   ⟨sptHost, 0x80000000, 64, by decide +kernel⟩,
   ⟨{ sptHost with spt := { sptHost.spt with held := [(0x40, 0x41)], words := 1032, whole := true } }, 0x41, by decide +kernel⟩,
   ⟨{ sptHost with spt := { sptHost.spt with held := [(0x40, 0x41)], words := 2, whole := true } }, 31, by decide +kernel⟩⟩

/-- The hypotheses of RegisterWritesFollowAccessCodes can be met, clause by clause. -/
theorem witness_RegisterWritesFollowAccessCodes :
    (∃ (s : State) (who : Requester),
      (who ≠ Requester.pcie ∨ s.perst = false)) ∧
    (∃ (s : State) (who : Requester),
      (who ≠ Requester.pcie ∨ s.perst = false)) ∧
    (∃ (off : BitVec 20),
      (off.toNat < 0x10000) ∧ (off.toNat % 4 = 0) ∧ ((regRow off.toNat).isNone)) ∧
    (∃ (s : State) (who : Requester) (off : BitVec 20) (len : Fin 5),
      (who = Requester.spt ∨ who = Requester.debug ∨ who = Requester.pcie ∧ s.perst = false) ∧ (off.toNat < 0x80000) ∧
        (len ≠ 4 ∨ off.toNat % 4 ≠ 0)) ∧
    (∃ (s : State) (off : BitVec 16),
      (s.perst = false) ∧ (off.toNat < 0x8000)) ∧
    (∃ (s : State) (off : BitVec 16) (a : Nat),
      (s.perst = false) ∧ (0x8000 ≤ off.toNat) ∧ (off.toNat < 0x8400) ∧ (off.toNat % 4 = 0) ∧ (s.hamper.pba = []) ∧ (0x8000 ≤ a) ∧
        (a < 0x8400)) ∧
    (∃ (s : State) (who : Requester) (off : BitVec 16) (len : Fin 5),
      (who ≠ Requester.pcie ∨ s.perst = true ∨ len ≠ 4 ∨ 0x8400 ≤ off.toNat)) ∧
    (∃ (s : State),
      (s.perst)) ∧
    (∃ (s : State) (dbg : Bool) (a : BitVec 19) (k : Fin 3) (m : Nat),
      (a.toNat % 2 ^ k.val = 0) ∧ (0x40 ≤ s.pageOf dbg) ∧ (s.windowAddr dbg a.toNat = some m)) ∧
    (∃ (s : State) (dbg : Bool) (a : BitVec 19) (k : Fin 3) (n : Fin 64),
      (a.toNat % 2 ^ k.val = 0) ∧ (a.toNat < 0x8000) ∧ (s.pageOf dbg = n.val) ∧ (dbg = true ∨ s.isRoot = true) ∧
        (s.st n ≠ stAsleep) ∧ (s.st n ≠ stIdle)) ∧
    (∃ (s : State) (dbg : Bool) (a : BitVec 19) (k : Fin 3) (n : Fin 64),
      (a.toNat % 2 ^ k.val = 0) ∧ (a.toNat < 0x8000) ∧ (s.pageOf dbg = n.val) ∧ (dbg = true ∨ s.isRoot = true) ∧
        (s.st n = stAsleep ∨ s.st n = stIdle) ∧ ((s.tile n).cur.energising = false) ∧ (s.walking n = false)) :=
  ⟨⟨hold, Requester.pcie, by decide +kernel⟩,
   ⟨hold.set R.WAKE_CAUSE_cause 0x7F, Requester.spt, by decide +kernel⟩,
   ⟨0x1FFC, by decide +kernel⟩,
   ⟨hold, Requester.pcie, 0x1008, 2, by decide +kernel⟩,
   ⟨hold, 0x7FFC, by decide +kernel⟩,
   ⟨hold, 0x801C, 0x802C, by decide +kernel⟩,
   ⟨hold, Requester.pcie, 0x9000, 4, by decide +kernel⟩,
   ⟨{ hold with perst := true }, by decide +kernel⟩,
   ⟨hold.set R.SRAM_PAGE_target 0x41 1, true, 0x104, 1, sharedSram + 0x80104, by decide +kernel⟩,
   ⟨hold.set R.SRAM_PAGE_target 3 1, true, 0x104, 2, n3, by decide +kernel⟩,
   ⟨root (idle.set R.SRAM_PAGE_target 3 0), false, 0x7FFC, 2, n3, by decide +kernel⟩⟩

/-- The hypotheses of DebugAccessesAnswer can be met, clause by clause. -/
theorem witness_DebugAccessesAnswer :
    (∃ (s : State) (off : Nat),
      (s.lookout.off = false) ∧ (s.lookout.dawnCause = none) ∧ (s.get R.DBG_ADDR_space = 0) ∧ (off = s.get R.DBG_ADDR_offset) ∧
        (off % 4 = 0) ∧ (off < 0x80000)) ∧
    (∃ (s : State),
      (s.lookout.off = false) ∧ (s.lookout.dawnCause = none) ∧ (s.get R.DBG_ADDR_space = 0) ∧
        (s.get R.DBG_ADDR_offset = 0x901C)) ∧
    (∃ (s : State),
      (s.lookout.off = false) ∧ (s.lookout.dawnCause.isSome = true ∨ 2 ≤ s.get R.DBG_ADDR_space ∨
        s.get R.DBG_ADDR_offset % 4 ≠ 0 ∨ (s.get R.DBG_ADDR_space = 0 ∧ 0xF000 ≤ s.get R.DBG_ADDR_offset ∧
        s.get R.DBG_ADDR_offset < 0xF100))) ∧
    (∃ (s : State) (k : Fin 66) (r : Fin 16),
      (s.lookout.off = false) ∧ (s.lookout.dawnCause = none) ∧ (s.get R.DBG_ADDR_space = 1) ∧
        (s.get R.DBG_ADDR_offset = 0x1000 * k.val + 4 * r.val) ∧ (s.isHalted k) ∧ (r ≠ 0)) ∧
    (∃ (s : State) (k : Fin 66) (r : Fin 16),
      (s.lookout.off = false) ∧ (s.lookout.dawnCause = none) ∧ (s.get R.DBG_ADDR_space = 1) ∧
        (s.get R.DBG_ADDR_offset = 0x1000 * k.val + 4 * r.val) ∧ (s.isHalted k = false)) ∧
    (∃ (s : State) (w : BitVec 41),
      (s.lookout.off = false) ∧ (s.tap.ir = 0x10) ∧ (w.toNat / 2 ^ 32 = 256)) ∧
    (∃ (s : State) (w : BitVec 41),
      (s.lookout.off = false) ∧ (s.tap.ir = 0x10) ∧ (w.toNat / 2 ^ 32 = 0)) ∧
    (∃ (s : State),
      (s.lookout.off = false) ∧ (s.tap.ir ≠ 0x10)) :=
  ⟨⟨dbgAt 0 0x901C 0, 0x901C, by decide +kernel⟩,
   ⟨dbgAt 0 0x901C 0xA1234, by decide +kernel⟩,
   ⟨dbgAt 0 0xF004 0, by decide +kernel⟩,
   ⟨dbgAt 1 0x303C 77 (coreR 4), 3, 15, by decide +kernel⟩,
   ⟨dbgAt 1 0x3000 77 (coreR 2), 3, 0, by decide +kernel⟩,
   ⟨tapAt 0x10, 0x10040001234, by decide +kernel⟩,
   ⟨tapAt 0x10 (dbgAt 1 0x3000 77), 5, by decide +kernel⟩,
   ⟨hold, by decide +kernel⟩⟩

/-- The hypotheses of HaltsAndTestPortTakeTheCores can be met, clause by clause. -/
theorem witness_HaltsAndTestPortTakeTheCores :
    (∃ (n : Fin 64) (s : State) (hi : _) (v : Word),
      (n ∈ State.wordTiles hi v) ∧ (s.coreState n = 2) ∧ (State.atBoundary (State.endWait (s.core (State.coreIx n))))) ∧
    (∃ (n : Fin 64) (s : State) (hi : _) (v : Word),
      (n ∈ State.wordTiles hi v) ∧ (s.coreState n = 2) ∧ (State.atBoundary (State.endWait (s.core (State.coreIx n))) = false)) ∧
    (∃ (n : Fin 64) (s : State) (hi : _) (v : Word),
      (n ∈ State.wordTiles hi v) ∧ (s.coreState n = 4)) ∧
    (∃ (s : State) (hi : _) (v : Word),
      (∀ m ∈ State.wordTiles hi v, s.coreState m ≠ 4)) ∧
    (∃ (s : State),
      ((s.core s.canopyChosen).wasState = 2) ∧ (s.isHalted s.canopyChosen = false) ∧
        (State.atBoundary (State.endWait (s.core s.canopyChosen)))) ∧
    (∃ (s : State),
      (s.isHalted s.canopyChosen)) ∧
    (∃ (s : State),
      (s.isHalted s.canopyChosen = false)) ∧
    (∃ (s : State),
      (s.bench = false)) ∧
    (∃ (s : State),
      (s.bench)) ∧
    (∃ (s : State),
      (s.pinsTaken)) ∧
    (∃ (s : State),
      (s.pinsTaken = false)) :=
  ⟨⟨n3, coreR 2, false, 8, by decide +kernel⟩,
   ⟨n3, (coreR 2).modCore 3 fun c => { c with shadow := true }, false, 8, by decide +kernel⟩,
   ⟨n3, coreR 4, false, 8, by decide +kernel⟩,
   ⟨coreR 2, false, 8, by decide +kernel⟩,
   ⟨up, by decide +kernel⟩,
   ⟨up.set R.DBG_CANOPY_halted 1, by decide +kernel⟩,
   ⟨up, by decide +kernel⟩,
   ⟨hold.set R.LEG_STATUS_gates 0x5A 3, by decide +kernel⟩,
   ⟨hold.setFlag R.CANOPY_STATUS_bench true, by decide +kernel⟩,
   ⟨tapAt 0, by decide +kernel⟩,
   ⟨hold, by decide +kernel⟩⟩

/-- The hypotheses of DoorbellsMoveRings can be met, clause by clause. -/
theorem witness_DoorbellsMoveRings :
    (∃ (s : State) (v : Word) (q : Nat),
      (q = bits v.toNat 31 24) ∧ (q < 0x80) ∧ (s.hostKind = 1) ∧ (s.perst = false) ∧ (s.get R.PWR_STATUS_state ≠ 1) ∧
        (s.flag R.SQ_CFG_enable q) ∧ (bits v.toNat 23 17 = 0) ∧ (v.toNat % 65536 < 2 ^ s.get R.SQ_CFG_size_log2 q) ∧
        (State.ringFill (s.get R.SQ_CFG_size_log2 q) (v.toNat % 2 ^ 17) (s.get R.SQ_HEAD_head q) ≤ 2 ^ s.get R.SQ_CFG_size_log2
        q)) ∧
    (∃ (s : State) (v : Word) (q : Nat),
      (q = bits v.toNat 31 24) ∧ (q < 0x80) ∧ (s.hostKind = 1) ∧ (s.perst = false) ∧ (s.get R.PWR_STATUS_state ≠ 1) ∧
        (s.flag R.SQ_CFG_enable q) ∧ (bits v.toNat 23 17 ≠ 0 ∨ 2 ^ s.get R.SQ_CFG_size_log2 q ≤ v.toNat % 65536) ∧
        (s.get R.SQ_STATUS_state q ≠ 2)) ∧
    (∃ (s : State) (v : Word) (c : Nat),
      (c + 0x80 = bits v.toNat 31 24) ∧ (c < 64) ∧ (s.hostKind = 1) ∧ (s.perst = false) ∧ (s.get R.PWR_STATUS_state ≠ 1) ∧
        (s.flag R.CQ_CFG_enable c) ∧ (bits v.toNat 23 17 = 0) ∧ (State.headOk 16 (s.get R.CQ_CFG_size_log2 c) (s.get
        R.CQ_TAIL_tail c) (s.get R.CQ_HEAD_head c) (v.toNat % 2 ^ 17))) ∧
    (∃ (s : State) (v : Word) (e : Nat),
      (e + 0xC0 = bits v.toNat 31 24) ∧ (e < 8) ∧ (s.hostKind = 1) ∧ (s.perst = false) ∧ (s.get R.PWR_STATUS_state ≠ 1) ∧
        (s.flag R.EV_CFG_enable e) ∧ (bits v.toNat 23 17 = 0) ∧ (State.headOk 16 (s.get R.EV_CFG_size_log2 e) (s.get
        R.EV_TAIL_tail e) (s.get R.EV_HEAD_head e) (v.toNat % 2 ^ 17))) ∧
    (∃ (s : State) (v : Word) (x : Nat),
      (x = bits v.toNat 31 24) ∧ (s.hostKind = 1) ∧ (s.perst = false) ∧ (s.get R.PWR_STATUS_state ≠ 1)) ∧
    (∃ (s : State),
      (s.hostKind ≠ 1 ∨ s.perst = true)) ∧
    (∃ (s : State) (j : Fin 4) (h : BitVec 64),
      (s.flag R.USF_MIRROR_CFG_enable = false) ∧ (h.toNat % 64 = 0) ∧ (State.headOk 52 (s.get R.JR_CFG_size_log2 j) (s.jrTail j)
        (s.jrHead j) (h.toNat % 2 ^ 53))) :=
  ⟨⟨sqOn 5 4 0xF 0xF, 0x0501000F, 5, by decide +kernel⟩,
   ⟨sqOn 5 4 0 0, 0x05000010, 5, by decide +kernel⟩,
   ⟨cqOn 5 4 2 0x10003, 0x85010003, 5, by decide +kernel⟩,
   ⟨evOn 7 4 2 5, 0xC7000003, 7, by decide +kernel⟩,
   ⟨pcieH, 0x7F000003, 0x7F, by decide +kernel⟩,
   ⟨mbox, by decide +kernel⟩,
   ⟨jrOn 1 16 0x40 0x100, 1, 0x80, by decide +kernel⟩⟩

/-- The hypotheses of RingsAreSetUpAndDrained can be met, clause by clause. -/
theorem witness_RingsAreSetUpAndDrained :
    (∃ (s : State) (q : Fin 128) (v : Word),
      (State.sizeOk v) ∧ (v.getLsbD 31) ∧ (s.hostKind = 1) ∧ (s.flag R.SQ_CFG_enable q = false)) ∧
    (∃ (s : State) (q : Fin 128) (v : Word),
      (State.sizeOk v) ∧ (v.getLsbD 31 = false) ∧ (s.flag R.SQ_CFG_enable q)) ∧
    (∃ (v : Word),
      (bits v.toNat 28 24 < 4 ∨ 16 < bits v.toNat 28 24)) ∧
    (∃ (s : State) (c : Fin 64) (v : Word),
      (State.sizeOk v) ∧ (v.getLsbD 31) ∧ (s.hostKind = 1) ∧ (s.flag R.CQ_CFG_enable c = false)) ∧
    (∃ (s : State) (e : Fin 8) (v : Word),
      (State.sizeOk v) ∧ (v.getLsbD 31) ∧ (s.hostKind ≠ 2) ∧ (s.flag R.EV_CFG_enable e = false) ∧ (s.hamper.owed = [])) ∧
    (∃ (s : State) (j : Fin 4) (v : Word),
      (16 ≤ bits v.toNat 29 24) ∧ (bits v.toNat 29 24 ≤ 52) ∧ (v.getLsbD 31) ∧ (s.hostKind ≠ 2) ∧
        (s.flag R.JR_CFG_enable j = false)) ∧
    (∃ (v : Word),
      (bits v.toNat 29 24 < 16 ∨ 52 < bits v.toNat 29 24)) ∧
    (∃ (s : State) (c : Fin 64) (h : HeldCpl),
      (s.hostKind ≠ 2) ∧ (s.hamper.heldCpls.find? (fun (x : HeldCpl) => decide (x.cq = c.val)) = some h) ∧
        (s.get R.CQ_STATUS_state c = 1) ∧ (s.cqSpace c)) ∧
    (∃ (s : State) (c : Fin 64),
      (s.hostKind ≠ 2) ∧ (∀ x ∈ s.hamper.heldCpls, x.cq ≠ c.val)) ∧
    (∃ (s : State) (h : HeldCpl) (l : List HeldCpl),
      (s.hostKind = 2) ∧ (s.hamper.heldCpls = h :: l) ∧ (s.hamper.cplFifo.length < 64)) ∧
    (∃ (s : State) (r : Fin 72),
      (s.coalCount r = 0)) ∧
    (∃ (s : State) (r : Fin 72) (us : Nat),
      (us = (if r.val < 64 then s.get R.CQ_CFG_coal_us r else s.get R.EV_CFG_coal_us (r - 64))) ∧
        (us = 0 ∨ s.now < (sparseFind r.val s.hamper.coalAt).getD 0 + 1000 * us)) ∧
    (∃ (s : State) (r : Fin 72) (v : Nat),
      (s.coalCount r ≠ 0) ∧ ((sparseFind r.val s.hamper.coalAt).getD 0 + 1000 * (if r.val < 64 then s.get R.CQ_CFG_coal_us r else
        s.get R.EV_CFG_coal_us (r - 64)) ≤ s.now) ∧ (r.val < 64 ∧ s.get R.CQ_CFG_coal_us r ≠ 0 ∧
        v = s.get R.CQ_CFG_vector r ∨ 64 ≤ r.val ∧ s.get R.EV_CFG_coal_us (r - 64) ≠ 0 ∧ s.isRoot = true ∧
        v = s.get R.EV_CFG_vector (r - 64))) ∧
    (∃ (s : State) (r : Staged) (size : Nat),
      (s.hamper.staged = [r]) ∧ (s.flag R.JR_CFG_enable r.ring) ∧ (s.jrRoom r) ∧ (s.jrWeight (State.stagedBy r) = 0) ∧
        (size = 64 * State.len64 r.body.length) ∧ (size ≤ 2 ^ s.get R.JR_CFG_size_log2 r.ring - s.jrTail r.ring % 2 ^ 52)) ∧
    (∃ (s : State) (r : Staged) (size : Nat),
      (s.hamper.staged = [r]) ∧ (s.flag R.JR_CFG_enable r.ring) ∧ (s.jrRoom r) ∧ (0 < s.jrWeight (State.stagedBy r)) ∧
        (size = 64 * State.len64 r.body.length) ∧ (s.hamper.jrTurn = State.stagedBy r) ∧
        (size ≤ (sparseFind (State.stagedBy r) s.hamper.jrCredit).getD 0) ∧ (size ≤ 2 ^ s.get R.JR_CFG_size_log2 r.ring - s.jrTail
        r.ring % 2 ^ 52)) ∧
    (∃ (s : State) (r : Staged),
      (s.hamper.staged = [r]) ∧ (s.flag R.JR_CFG_enable r.ring = false)) ∧
    (∃ (s : State),
      (s.hamper.heldCpls = [])) :=
  ⟨⟨pcieH, 127, 0x90000000, by decide +kernel⟩,
   ⟨mod (fun h =>
     { h with scheds := [{ desc := { dsc 3 with ref := { rf with sq := 5 } }, epoch := 0, time := 9, arrived := 0 }] }) (sqOn 5 4
     0 0), 5, 0x04000000, by decide +kernel⟩,
   ⟨0x83000000, by decide +kernel⟩,
   ⟨pcieH, 63, 0x84000000, by decide +kernel⟩,
   ⟨hold, 7, 0x84000000, by decide +kernel⟩,
   ⟨hold, 3, 0xB4000000, by decide +kernel⟩,
   ⟨0xB5000000, by decide +kernel⟩,
   ⟨mod (fun x => { x with heldCpls := [{ cq := 5, bytes := List.replicate 16 0, irq := true }] }) (cqOn 5 4 2 0xF), 5,
     { cq := 5, bytes := List.replicate 16 0, irq := true }, by decide +kernel⟩,
   ⟨pcieH, 5, by decide +kernel⟩,
   ⟨mod (fun x => { x with heldCpls := [{ cq := 0, bytes := List.replicate 16 0, irq := true }] }) mbox,
     { cq := 0, bytes := List.replicate 16 0, irq := true }, [], by decide +kernel⟩,
   ⟨pcieH, 71, by decide +kernel⟩,
   ⟨pcieH.setCoal 5 3, 5, 0, by decide +kernel⟩,
   ⟨mod (fun h => { h with coalAt := [] }) (((pcieH.setCoal 5 3).set R.CQ_CFG_coal_us 9 5).set R.CQ_CFG_vector 9 5), 5, 9,
     by decide +kernel⟩,
   ⟨mod (fun h => { h with staged := [stg] }) ((jrOn 1 16 0 0xFF80).set R.HAMPER_WEIGHT_nibbles 0 0), stg, 128,
     by decide +kernel⟩,
   ⟨mod (fun h => { h with staged := [stg], jrTurn := 3, jrCredit := [(3, 128)] }) (jrOn 1 16 0 0xFF00), stg, 128,
     by decide +kernel⟩,
   ⟨mod (fun h => { h with staged := [stg] }) pcieH, stg, by decide +kernel⟩,
   ⟨mod (fun h => { h with cplFifo := [List.replicate 16 1, List.replicate 16 2], evFifo := [List.replicate 32 1] }) mbox,
     by decide +kernel⟩⟩

/-- The hypotheses of DescriptorsActAndAnswer can be met, clause by clause. -/
theorem witness_DescriptorsActAndAnswer :
    (∃ (s : State) (d : Desc),
      (s.inOrder d = false)) ∧
    (∃ (s : State) (d : Desc),
      (s.inOrder d) ∧ (∀ x ∈ s.hamper.fetched, opOf x.slot ∉ [2, 3, 4]) ∧ (s.motionRefusal d.ref = none) ∧
        (s.segLegal d.tile (State.descSeg d)) ∧ (s.trailCount d.tile < 1024) ∧ (∀ x ∈ s.hamper.heldSegs, x.tile ≠ d.tile)) ∧
    (∃ (s : State) (d : Desc),
      (s.inOrder d) ∧ (∀ x ∈ s.hamper.fetched, opOf x.slot ∉ [2, 3, 4]) ∧ (s.motionRefusal d.ref = none) ∧
        (s.segLegal d.tile (State.descSeg d)) ∧ (1024 ≤ s.trailCount d.tile ∨ s.hamper.heldSegs.any fun (x : Desc) =>
        decide (x.tile = d.tile))) ∧
    (∃ (s : State) (d : Desc),
      (s.inOrder d) ∧ (∀ x ∈ s.hamper.fetched, opOf x.slot ∉ [2, 3, 4]) ∧ (s.motionRefusal d.ref = none) ∧
        (s.segLegal d.tile (State.descSeg d) = false)) ∧
    (∃ (s : State) (d : Desc) (st : Nat),
      (s.inOrder d) ∧ (∀ x ∈ s.hamper.fetched, opOf x.slot ∉ [2, 3, 4]) ∧ (s.motionRefusal d.ref = some st)) ∧
    (∃ (d : Desc),
      (fieldLE d.slot 0x20 4 = 0x901C) ∧ (fieldLE d.slot 0x24 4 = 1)) ∧
    (∃ (d : Desc),
      (fieldLE d.slot 0x20 4 = 0x901C) ∧ (fieldLE d.slot 0x24 4 = 1)) ∧
    (∃ (s : State) (d : Desc) (a : AxisRef) (tile : Bool),
      (s.named d.ref.sq d.slot = some (a, tile)) ∧ ((s.serialAt a).isSome) ∧ (s.flag R.USF_ID_ring = false) ∧
        (s.freeHandle < 65536)) ∧
    (∃ (s : State) (d : Desc),
      (s.named d.ref.sq d.slot = none)) ∧
    (∃ (s : State) (d : Desc) (e : Nat × Nat × Nat),
      (s.hamper.handles.find? (fun (x : Nat × Nat × Nat) => decide (x.1 = fieldLE d.slot 0x20 2)) = some e) ∧
        (s.flag R.USF_ID_ring = false)) ∧
    (∃ (s : State) (d : Desc),
      (∀ x ∈ s.hamper.handles, x.1 ≠ fieldLE d.slot 0x20 2)) ∧
    (∃ (s : State),
      (s.isMaster = false ∨ s.stepPending = true)) ∧
    (∃ (s : State) (d : Desc),
      (s.isMaster) ∧ (s.stepPending = false) ∧ (fieldLE d.slot 0x28 1 = 0) ∧
        (((fieldLE d.slot 0x20 8 : Int) - s.now).natAbs ≤ 100000000)) ∧
    (∃ (s : State) (d : Desc),
      (s.isMaster) ∧ (s.stepPending = false) ∧ (fieldLE d.slot 0x28 1 = 0) ∧
        (100000000 < ((fieldLE d.slot 0x20 8 : Int) - s.now).natAbs)) ∧
    (∃ (s : State) (d : Desc),
      (s.isMaster) ∧ (s.stepPending = false) ∧ (fieldLE d.slot 0x28 1 = 1)) :=
  ⟨⟨mod (fun h =>
    { h with fetched := [{ dsc 3 with ref := { ref2 with tag := 9 }, slot := (2 : Byte) :: List.replicate 63 0 }, { dsc 3 with ref := ref2 }] })
    mbox, { dsc 3 with ref := ref2 }, by decide +kernel⟩,
   ⟨mbox, { dsc 3 with ref := ref2 }, by decide +kernel⟩,
   ⟨mbox (hold.set R.TRAIL_PTR_tail 1024 3), { dsc 3 with ref := ref2 }, by decide +kernel⟩,
   ⟨mbox, { dsl [(0x20, 4, 0x0F)] with ref := ref2 }, by decide +kernel⟩,
   ⟨mbox (hold.set R.USF_AUTH_state 2), { dsc 3 with ref := ref2 }, 0x0F, by decide +kernel⟩,
   ⟨dml [(0x20, 4, 0x901C), (0x24, 4, 1), (0x28, 4, 0x12345)], by decide +kernel⟩,
   ⟨dml [(0x20, 4, 0x901C), (0x24, 4, 1)], by decide +kernel⟩,
   ⟨mod (fun h => { h with handles := [(0, 5, 6)] }) mbox, dml [(4, 4, 0xC0030000)], hold.axisHere 3, true, by decide +kernel⟩,
   ⟨mbox, dml [], by decide +kernel⟩,
   ⟨mod (fun h => { h with handles := [(0, 5, 6), (9, 5, 6)] }) mbox, dml [(0x20, 2, 9)], (9, 5, 6), by decide +kernel⟩,
   ⟨mbox, dml [(0x20, 2, 9)], by decide +kernel⟩,
   ⟨mbox, by decide +kernel⟩,
   ⟨mbox (hold.set R.TIME_STATUS_state 1), dml [(0x20, 8, 5000100)], by decide +kernel⟩,
   ⟨mbox (hold.set R.TIME_STATUS_state 1), dml [(0x20, 8, 500010000)], by decide +kernel⟩,
   ⟨mbox (hold.set R.TIME_STATUS_state 1), dml [(0x20, 8, 500010000), (0x28, 1, 1)], by decide +kernel⟩⟩

/-- The hypotheses of CommandsAreFetchedScheduledAndMigrated can be met, clause by clause. -/
theorem witness_CommandsAreFetchedScheduledAndMigrated :
    (∃ (s : State) (q : Fin 128),
      (s.hamper.waiting = []) ∧ (s.fetchNext ≠ some q.val)) ∧
    (∃ (s : State) (q : Fin 128),
      (s.hamper.waiting = []) ∧ (s.fetchNext = some q.val) ∧ (s.hostKind ≠ 2)) ∧
    (∃ (s : State) (q : Fin 128) (slot : List Byte),
      (s.hamper.waiting = []) ∧ (s.fetchNext = some q.val) ∧ (s.hostKind = 2) ∧ (s.hamper.mbSlots = [slot]) ∧ (opOf slot = 0x12) ∧
        (bit (flagsOf slot) 1 = false) ∧ (s.hamper.cplFifo.length < 64)) ∧
    (∃ (s : State) (q : Fin 128) (slot : List Byte),
      (s.hamper.waiting = []) ∧ (s.fetchNext = some q.val) ∧ (s.hostKind = 2) ∧ (s.hamper.mbSlots = [slot]) ∧ (opOf slot = 0x00) ∧
        (headerOk slot) ∧ (payloadOk slot []) ∧ (modeOf slot = 3) ∧ (s.unfinished q = false) ∧ (fieldLE slot 0x12 2 = 0) ∧
        (fieldLE slot 0x18 8 = 0)) ∧
    (∃ (s : State),
      (s.hamper.scheds.find? s.isDue = none)) ∧
    (∃ (s : State) (x : Sched),
      (s.hamper.scheds = [x]) ∧ (s.isDue x) ∧ (opOf x.desc.slot = 0) ∧ (MailOpen s x.desc.ref)) ∧
    (∃ (s : State) (d : Desc),
      (isRebind d.slot) ∧ (s.motionRefusal d.ref = none) ∧ (s.hamper.migrating.all (fun (m : Nat × CmdRef × List CmdRef) =>
        decide (m.1 ≠ d.ref.sq))) ∧ (bits (fieldLE d.slot 0x24 4) 31 30 = 0) ∧ (d.ref.sq < 128)) ∧
    (∃ (d : Desc),
      (isRebind d.slot = false)) ∧
    (∃ (s : State) (d : Desc),
      (isRebind d.slot) ∧ (s.motionRefusal d.ref = none) ∧ (s.hamper.migrating.any (fun (m : Nat × CmdRef × List CmdRef) =>
        decide (m.1 = d.ref.sq))) ∧ (MailOpen s d.ref)) ∧
    (∃ (s : State) (q : Fin 128),
      (∀ m ∈ s.hamper.migrating, m.1 = q.val → m.2.2 ≠ [])) ∧
    (∃ (s : State) (q : Fin 128) (m : Nat × CmdRef × List CmdRef),
      (s.hamper.migrating.find? (fun (x : Nat × CmdRef × List CmdRef) => decide (x.1 = q.val)) = some m) ∧ (m.2.2 = [])) ∧
    (∃ (s : State) (d : Desc) (k : Nat) (g : GroupSlot),
      (isRebind d.slot = false) ∧ (s.motionRefusal d.ref = none) ∧ (s.ledSlot (fieldLE d.slot 0x22 2) = some k) ∧
        (s.group k = some g) ∧ (k < groupMax) ∧ (s.nextHop (fieldLE d.slot 0x28 9) (fieldLE d.slot 0x31 1) = Hop.consume) ∧
        (g.epoch < 65536)) ∧
    (∃ (s : State) (d : Desc),
      (isRebind d.slot = false) ∧ (s.motionRefusal d.ref = none) ∧ (s.ledSlot (fieldLE d.slot 0x22 2) = none) ∧
        (MailOpen s d.ref)) :=
  ⟨⟨hold, 0, by decide +kernel⟩,
   ⟨sqOn 5 4 0 1, 5, by decide +kernel⟩,
   ⟨mod (fun h => { h with mbSlots := [0x12 :: List.replicate 63 0] }) (mbox.setFlag R.MB_CTL_busy true), 0,
     0x12 :: List.replicate 63 0, by decide +kernel⟩,
   ⟨mod (fun h => { h with mbSlots := [[0, 0, 7, 0, 0, 0, 0, 0xC0] ++ List.replicate 56 0] }) (mbox.setFlag R.MB_CTL_busy true),
     0, [0, 0, 7, 0, 0, 0, 0, 0xC0] ++ List.replicate 56 0, by decide +kernel⟩,
   ⟨hold, by decide +kernel⟩,
   ⟨mod (fun h => { h with scheds := [{ desc := dml [], epoch := 0, time := 4999001, arrived := 0 }] }) mbox,
     { desc := dml [], epoch := 0, time := 4999001, arrived := 0 }, by decide +kernel⟩,
   ⟨sqOn 5 4 0 0, { dsl [(0, 1, 0x0D), (0x21, 1, 5)] with ref := { ref2 with sq := 5 } }, by decide +kernel⟩,
   ⟨dml [], by decide +kernel⟩,
   ⟨mod (fun h => { h with migrating := [(0, ref2, [])] }) mbox, dml [(0, 1, 0x0D)], by decide +kernel⟩,
   ⟨mod (fun h => { h with migrating := [(0, ref2, [rf])] }) mbox, 0, by decide +kernel⟩,
   ⟨mod (fun h => { h with migrating := [(0, ref2, [])] }) (mbox.set R.SQ_STATUS_state 3 0), 0, (0, ref2, []), by decide +kernel⟩,
   ⟨grp { gslot with leaderRoute := 1, leaderDepth := 1 } (mbox ((hold.set R.USF_ROUTE0_route_lo 1).set R.USF_ID_depth 1)),
     dml [(0, 1, 0x0D), (0x20, 1, 1), (0x22, 2, 9), (0x28, 1, 1), (0x31, 1, 1)], 2,
     { gslot with leaderRoute := 1, leaderDepth := 1 }, by decide +kernel⟩,
   ⟨mbox, dml [(0, 1, 0x0D), (0x20, 1, 1), (0x22, 2, 9)], by decide +kernel⟩⟩

/-- The hypotheses of LinkPortsTrainComeUpAndGoDown can be met, clause by clause. -/
theorem witness_LinkPortsTrainComeUpAndGoDown :
    (∃ (p : Fin 4) (s : State) (f : Frame),
      (f.typ = 0xBE) ∧ (s.portState p = 3) ∧ (s.refusalOf p f.payload ≠ 0)) ∧
    (∃ (p : Fin 4) (s : State) (f : Frame),
      (f.typ ≠ 0xBE ∨ (s.portState p ≠ 3 ∧ s.portState p ≠ 4 ∧ s.portState p ≠ 5))) ∧
    (∃ (p : Fin 4) (s : State),
      (s.flag R.USF_PCFG_enable p) ∧ (s.flag R.USF_PSTATUS_mod_abs p = false) ∧ ((s.port p).aligned) ∧ ((s.port p).hello = none) ∧
        (s.recent (s.port p).helloAt 10000 = false)) ∧
    (∃ (p : Fin 4) (s : State),
      (s.flag R.USF_PCFG_enable p = false ∨ s.flag R.USF_PSTATUS_mod_abs p = true ∨ (s.port p).aligned = false ∨
        (s.port p).hello.isSome = true ∨ s.recent (s.port p).helloAt 10000 = true)) ∧
    (∃ (p : Fin 4) (s : State) (f : Frame),
      (Taken s p f 0xBF) ∧ (bit (fieldLE f.payload 4 1) 0 = false) ∧ (bit (fieldLE f.payload 4 1) 1 = false) ∧
        ((s.port p).waitCmd = []) ∧ ((s.port p).waitBulk = [])) ∧
    (∃ (p : Fin 4) (s : State),
      (s.portUp p)) ∧
    (∃ (p : Fin 4) (s : State),
      (s.portUp p = false)) ∧
    (∃ (p : Fin 4) (s : State) (aligned : Bool),
      (s.portUp p) ∧ (if aligned then (s.port p).heardAt + 100000 ≤ s.now else (s.port p).aligned = false ∧
        (s.port p).lostAt + 10000 ≤ s.now)) ∧
    (∃ (p : Fin 4) (s : State) (aligned : Bool),
      (if aligned then s.now < (s.port p).heardAt + 100000 else (s.port p).aligned = true ∨ s.now < (s.port p).lostAt + 10000)) ∧
    (∃ (p : Fin 4) (s : State) (modAbs : Bool) (los : Bool) (txFault : Bool),
      (s.flag R.USF_PSTATUS_mod_abs p ≠ modAbs ∨ s.flag R.USF_PSTATUS_los p ≠ los ∨ s.flag R.USF_PSTATUS_tx_fault p ≠ txFault) ∧
        (s.get R.PWR_STATUS_state < 2)) ∧
    (∃ (p : Fin 4) (s : State) (modAbs : Bool) (los : Bool) (txFault : Bool),
      (s.flag R.USF_PSTATUS_mod_abs p = modAbs) ∧ (s.flag R.USF_PSTATUS_los p = los) ∧
        (s.flag R.USF_PSTATUS_tx_fault p = txFault)) ∧
    (∃ (p : Fin 4) (s : State),
      (s.portUp p) ∧ ((s.port p).ackedAt + 20000 ≤ s.now) ∧ ((s.port p).unackedCmd ++ (s.port p).unackedBulk ≠ []) ∧
        (((s.port p).unackedCmd ++ (s.port p).unackedBulk).all (fun (e : Frame × Nat) => decide (e.2 < 8)))) ∧
    (∃ (p : Fin 4) (s : State),
      (((s.port p).unackedCmd = [] ∧ (s.port p).unackedBulk = []) ∨ s.now < (s.port p).ackedAt + 20000)) ∧
    (∃ (p : Fin 4) (s : State),
      (s.portUp p) ∧ ((s.port p).ackedAt + 20000 ≤ s.now) ∧ (((s.port p).unackedCmd ++ (s.port p).unackedBulk).any (fun (e : Frame
        × Nat) => decide (8 ≤ e.2)))) ∧
    (∃ (p : Fin 4) (s : State),
      (s.portState p = 6) ∧ ((s.port p).faultAt + 1000000 ≤ s.now) ∧ (s.flag R.USF_PSTATUS_tx_fault p = false) ∧
        (s.flag R.USF_PSTATUS_mod_abs p = false) ∧ (s.flag R.USF_PCFG_enable p)) ∧
    (∃ (p : Fin 4) (s : State),
      (s.portState p ≠ 6 ∨ s.flag R.USF_PSTATUS_tx_fault p = true ∨ s.now < (s.port p).faultAt + 1000000)) ∧
    (∃ (p : Fin 4) (s : State),
      (s.portState p = 2 ∨ s.portState p = 3) ∧ (s.flag R.USF_PSTATUS_tx_fault p = false) ∧
        (s.flag R.USF_PSTATUS_mod_abs p = false) ∧ (s.flag R.USF_PCFG_enable p)) ∧
    (∃ (p : Fin 4) (s : State) (v : Word),
      (s.flag R.SFP_CMD_busy p = false) ∧ (bits v.toNat 23 16 = 0xA0 ∨ bits v.toNat 23 16 = 0xA2)) ∧
    (∃ (p : Fin 4) (s : State) (v : Word),
      (s.flag R.SFP_CMD_busy p ∨ (bits v.toNat 23 16 ≠ 0xA0 ∧ bits v.toNat 23 16 ≠ 0xA2))) ∧
    (∃ (p : Fin 4) (s : State),
      (s.flag R.SFP_CMD_busy p)) ∧
    (∃ (p : Fin 4) (s : State),
      (s.flag R.SFP_CMD_busy p = false)) ∧
    (∃ (p : Fin 4) (s : State),
      ((s.port p).options / 64 % 2 = 1) ∧ (s.recent (s.port p).ddmAt 1000000000 = false) ∧
        (s.flag R.USF_PSTATUS_mod_abs p = false)) ∧
    (∃ (p : Fin 4) (s : State),
      (s.flag R.USF_PSTATUS_mod_abs p = true ∨ (s.port p).options / 64 % 2 = 0 ∨ s.recent (s.port p).ddmAt 1000000000 = true)) :=
  ⟨⟨2, trP 3 true, fr 0xBE (helloB 1), by decide +kernel⟩,
   ⟨2, hold, fr 0xBE (helloB 1), by decide +kernel⟩,
   ⟨2, (trP 3 true).setFlag R.USF_PSTATUS_mod_abs false 2, by decide +kernel⟩,
   ⟨2, let u := (trP 3 true).setFlag R.USF_PSTATUS_mod_abs false 2; u.setPort 2 { u.port 2 with helloAt := some u.now }, by decide +kernel⟩,
   ⟨2, let u := upP 2; u.setPort 2 { u.port 2 with unackedCmd := [(fr 0x80 [] false 1, 0), (fr 0x80 [] false 2, 0)] }, fr 0xBF [1, 0, 0, 0, 0, 0, 0, 0, 5, 0, 0, 0, 6, 0, 0, 0] false, by decide +kernel⟩,
   ⟨2, let u := upP 2; u.setPort 2 { u.port 2 with nakCmd := true }, by decide +kernel⟩,
   ⟨2, hold, by decide +kernel⟩,
   ⟨2, (upP 2).setFlag R.USF_PSTATUS_mod_abs false 2, true, by decide +kernel⟩,
   ⟨2, let u := upP 2; u.setPort 2 { u.port 2 with heardAt := u.now }, true, by decide +kernel⟩,
   ⟨2, (upP 2).setFlag R.USF_PSTATUS_mod_abs false 2, true, true, false, by decide +kernel⟩,
   ⟨2, hold, hold.flag R.USF_PSTATUS_mod_abs 2, hold.flag R.USF_PSTATUS_los 2, hold.flag R.USF_PSTATUS_tx_fault 2,
     by decide +kernel⟩,
   ⟨2, let u := upP 2; u.setPort 2 { u.port 2 with unackedCmd := [(fr 0x80 [] false 1, 0), (fr 0x80 [] false 2, 7)], unackedBulk := [(fr 0xC0 [] false 1, 3)] }, by decide +kernel⟩,
   ⟨2, let u := upP 2; u.setPort 2 { u.port 2 with unackedCmd := [(fr 0x80 [] false 1, 0)], ackedAt := u.now }, by decide +kernel⟩,
   ⟨2, let u := upP 2; u.setPort 2 { u.port 2 with unackedCmd := [(fr 0x80 [] false 1, 0), (fr 0x80 [] false 2, 8)] }, by decide +kernel⟩,
   ⟨2, (trP 6 true).setFlag R.USF_PSTATUS_mod_abs false 2, by decide +kernel⟩,
   ⟨2, (trP 6 true).setFlag R.USF_PSTATUS_tx_fault true 2, by decide +kernel⟩,
   ⟨2, (trP 2 false).setFlag R.USF_PSTATUS_mod_abs false 2, by decide +kernel⟩,
   ⟨2, hold, 0x90A21234, by decide +kernel⟩,
   ⟨2, hold.setFlag R.SFP_CMD_busy true 2, 0x90A21234, by decide +kernel⟩,
   ⟨2, hold.setFlag R.SFP_CMD_busy true 2, by decide +kernel⟩,
   ⟨2, hold, by decide +kernel⟩,
   ⟨2, let u := (upP 2).setFlag R.USF_PSTATUS_mod_abs false 2; u.setPort 2 { u.port 2 with options := 0x68 }, by decide +kernel⟩,
   ⟨2, hold.setFlag R.USF_PSTATUS_mod_abs true 2, by decide +kernel⟩⟩

/-- The hypotheses of ChainAlarmsAndGroupFramesAct can be met, clause by clause. -/
theorem witness_ChainAlarmsAndGroupFramesAct :
    (∃ (s : State) (q : Fin 4),
      (s.get R.USF_DOM_STATE_raised ≠ 0) ∧ (s.usfen.alarmSent + 100000 ≤ s.now) ∧ (s.portUp q)) ∧
    (∃ (s : State),
      (s.get R.USF_DOM_STATE_raised = 0 ∨ s.now < s.usfen.alarmSent + 100000)) ∧
    (∃ (p : Fin 4) (f : Frame) (s : State) (d : Fin 16) (n : Fin 64),
      (Taken s p f 0x01) ∧ ((fieldLE f.payload 0 2).testBit d.val) ∧ (s.maskBit R.USF_DOM_LO_tiles_lo R.USF_DOM_HI_tiles_hi n.val
        d.val)) ∧
    (∃ (s : State) (d : Fin 16),
      (s.fbit R.USF_DOM_STATE_asserted d.val) ∧ (s.fbit R.USF_DOM_STATE_raised d.val = false) ∧
        ((sparseFind d.val s.usfen.domSeen).getD 0 + 350000 ≤ s.now)) ∧
    (∃ (s : State) (d : Fin 16),
      (s.fbit R.USF_DOM_STATE_asserted d.val = false ∨ s.fbit R.USF_DOM_STATE_raised d.val ∨
        s.now < (sparseFind d.val s.usfen.domSeen).getD 0 + 350000)) ∧
    (∃ (s : State) (k : Fin 16) (g : GroupSlot) (q : Fin 4),
      (s.group k.val = some g) ∧ (g.alarmCopies ≠ 0) ∧ (g.alarmAt + 100000 * (3 - g.alarmCopies) ≤ s.now) ∧ (s.portUp q)) ∧
    (∃ (s : State) (k : Fin 16) (g : GroupSlot),
      (s.group k.val = some g) ∧ (g.alarmCopies = 0 ∨ s.now < g.alarmAt + 100000 * (3 - g.alarmCopies))) ∧
    (∃ (s : State) (k : Fin 16),
      (s.group k.val = none)) ∧
    (∃ (p : Fin 4) (f : Frame) (s : State) (k : Nat) (n : Fin 64),
      (Taken s p f 0x00) ∧ (s.slotOfTag (fieldLE f.payload 0 2) = some k) ∧ (n ∈ s.localMembers k)) ∧
    (∃ (s : State) (k : Fin 16) (g : GroupSlot),
      (s.group k.val = some g)) ∧
    (∃ (p : Fin 4) (f : Frame) (s : State) (k : Nat) (g : GroupSlot),
      (Taken s p f 0x02) ∧ (s.slotOfTag (fieldLE f.payload 0 2) = some k) ∧ (s.group k = some g) ∧
        (s.now ≤ fieldLE f.payload 8 8)) ∧
    (∃ (p : Fin 4) (f : Frame) (s : State) (k : Nat) (g : GroupSlot),
      (Taken s p f 0x86) ∧ (s.slotOfTag (fieldLE f.payload 0 2) = some k) ∧ (s.group k = some g) ∧
        (s.now ≤ fieldLE f.payload 8 8)) ∧
    (∃ (f : Frame) (s : State) (k : Nat) (n : Fin 64),
      (s.slotOfTag (fieldLE f.payload 0 2) = some k) ∧ (n ∈ s.localMembers k) ∧ (fieldLE f.payload 8 8 < s.now)) ∧
    (∃ (p : Fin 4) (f : Frame) (s : State) (k : Nat) (n : Fin 64),
      (Taken s p f 0x03) ∧ (s.slotOfTag (fieldLE f.payload 0 2) = some k) ∧ (s.localMembers k = [n]) ∧
        ((s.plan n).groupRan.contains (fieldLE f.payload 2 2, fieldLE f.payload 4 2) = false)) ∧
    (∃ (p : Fin 4) (f : Frame) (s : State) (k : Nat) (n : Fin 64),
      (Taken s p f 0x03) ∧ (s.slotOfTag (fieldLE f.payload 0 2) = some k) ∧ (s.localMembers k = [n]) ∧
        ((s.plan n).groupRan.contains (fieldLE f.payload 2 2, fieldLE f.payload 4 2))) ∧
    (∃ (p : Fin 4) (f : Frame) (s : State) (k : Nat) (g : GroupSlot),
      (Taken s p f 0x04) ∧ (s.slotOfTag (fieldLE f.payload 0 2) = some k) ∧ (s.group k = some g) ∧
        (g.leaderHere = false ∨ g.retract ≠ none)) ∧
    (∃ (p : Fin 4) (f : Frame) (s : State) (k : Nat) (g : GroupSlot),
      (Taken s p f 0x04) ∧ (s.slotOfTag (fieldLE f.payload 0 2) = some k) ∧ (s.group k = some g) ∧ (g.leaderHere) ∧
        (g.retract = none) ∧ (g.cmds = []) ∧ (g.devices = [(s.ownRoute, s.ownDepth)])) ∧
    (∃ (p : Fin 4) (f : Frame) (s : State) (k : Nat) (g : GroupSlot),
      (Taken s p f 0x50) ∧ (s.slotOfTag (fieldLE f.payload 0 2) = some k) ∧ (s.group k = some g)) ∧
    (∃ (p : Fin 4) (f : Frame) (s : State) (k : Nat) (g : GroupSlot) (n : Fin 64) (q : Seg),
      (Taken s p f 0x82) ∧ (s.slotOfTag (fieldLE f.payload 0 2) = some k) ∧ (s.group k = some g) ∧ (State.newer (bits q.w6 31 16) g.epoch = false) ∧ (State.newer (s.get R.GROUP_LEAD_epoch n) (bits q.w6 31 16) = false) ∧ ((s.localMembers k).find? (fun (m : Fin 64) => decide (s.get R.GROUP_CFG_member m = fieldLE f.payload 2 1)) = some n) ∧ (q = (let h : Seg := segOfBytes (f.payload.drop 4); { h with w6 := h.w6 - h.w6 % 16 + k })) ∧ (bit q.w6 15 = false) ∧ (s.segLegal n q) ∧ (s.trailCount n < 1024) ∧ (s.hamper.heldGroup.all (fun (h : Nat × Seg × Option Nat × Bool) => decide (h.1 ≠ n.val)))) ∧
    (∃ (p : Fin 4) (f : Frame) (s : State) (k : Nat) (g : GroupSlot) (n : Fin 64) (q : Nat × Nat × Option Nat),
      (Taken s p f 0x83) ∧ (s.slotOfTag (fieldLE f.payload 0 2) = some k) ∧ (s.group k = some g) ∧
        (State.newer (fieldLE f.payload 2 2) g.epoch = false) ∧ (State.newer g.epoch (fieldLE f.payload 2 2) = false) ∧
        (s.localMembers k = [n]) ∧ ((s.plan n).slots = [q]) ∧ (segType (s.segAt n q.1) = 6) ∧ (segCond (s.segAt n q.1) = 5) ∧
        (bits (s.segAt n q.1).w6 14 4 = fieldLE f.payload 4 2) ∧ (bits (s.segAt n q.1).w6 31 16 = fieldLE f.payload 2 2) ∧
        (s.now ≤ fieldLE f.payload 8 8)) ∧
    (∃ (p : Fin 4) (f : Frame) (s : State) (k : Nat) (g : GroupSlot) (n : Fin 64),
      (Taken s p f 0x84) ∧ (s.slotOfTag (fieldLE f.payload 0 2) = some k) ∧ (s.group k = some g) ∧ (s.localMembers k = [n]) ∧
        (g.migrate = none) ∧ (State.newer (fieldLE f.payload 2 2) g.epoch) ∧ (s.flag R.GROUP_STATUS_waiting_start n = false)) ∧
    (∃ (p : Fin 4) (f : Frame) (s : State) (k : Nat) (g : GroupSlot) (n : Fin 64),
      (Taken s p f 0x84) ∧ (s.slotOfTag (fieldLE f.payload 0 2) = some k) ∧ (s.group k = some g) ∧ (s.localMembers k = [n]) ∧
        (State.newer g.epoch (fieldLE f.payload 2 2))) ∧
    (∃ (p : Fin 4) (f : Frame) (s : State) (k : Nat) (g : GroupSlot),
      (Taken s p f 0x85) ∧ (s.slotOfTag (fieldLE f.payload 0 2) = some k) ∧ (s.group k = some g) ∧ (g.leaderHere) ∧
        (g.moves = []) ∧ (g.last.map (fun (x : Nat × List (Nat × Int)) => x.1) ≠ some (fieldLE f.payload 6 2)) ∧
        (g.members.any (fun (m : Member) => decide (m.index ≠ fieldLE f.payload 2 1) && decide (m.ready ≠ some (fieldLE f.payload
        6 2))))) ∧
    (∃ (p : Fin 4) (f : Frame) (s : State) (j : Nat),
      (Taken s p f 0x87) ∧ (s.usfen.leadParts = []) ∧ (j < fieldLE f.payload 3 1) ∧ (j ≠ fieldLE f.payload 2 1)) ∧
    (∃ (p : Fin 4) (f : Frame) (s : State) (k : Nat) (g : GroupSlot),
      (Taken s p f 0x87) ∧ (s.usfen.leadParts = []) ∧ (fieldLE f.payload 3 1 = 1) ∧ (fieldLE f.payload 2 1 = 0) ∧
        (s.slotOfTag (fieldLE f.payload 0 2) = some k) ∧ (s.group k = some g)) ∧
    (∃ (f : Frame) (s : State),
      (s.slotOfTag (fieldLE f.payload 0 2) = none)) ∧
    (∃ (f : Frame) (s : State),
      (s.slotOfTag (fieldLE f.payload 0 2) = none)) :=
  ⟨⟨(upP 1 (upP 2)).set R.USF_DOM_STATE_raised 5, 2, by decide +kernel⟩,
   ⟨hold, by decide +kernel⟩,
   ⟨2, fr 1 [0x05, 0, 0, 0, 0, 0, 0, 0], ((upP 1 (upP 2)).set R.USF_DOM_STATE_asserted 2).set R.USF_DOM_HI_tiles_hi 8 2, 2, 35,
     by decide +kernel⟩,
   ⟨hold.set R.USF_DOM_STATE_asserted 0x8001, 15, by decide +kernel⟩,
   ⟨let u := hold.set R.USF_DOM_STATE_asserted 0x8001; { u with usfen := { u.usfen with domSeen := [(0, 4650001)] } }, 0, by decide +kernel⟩,
   ⟨grpU { gslot with alarmCopies := 2, alarmUntil := 6000000 }, 2, { gslot with alarmCopies := 2, alarmUntil := 6000000 }, 2,
     by decide +kernel⟩,
   ⟨grpU { gslot with alarmCopies := 2, alarmAt := 4900001 }, 2, { gslot with alarmCopies := 2, alarmAt := 4900001 },
     by decide +kernel⟩,
   ⟨hold, 2, by decide +kernel⟩,
   ⟨2, fr 0 [9, 0, 2, 1, 7, 0, 0, 0, 0, 0, 0, 0, 0, 0, 0, 0], grpU gslot, 2, 3, by decide +kernel⟩,
   ⟨grp { gslot with alarmUntil := 5000000 }, 2, { gslot with alarmUntil := 5000000 }, by decide +kernel⟩,
   ⟨2, fr 2 ([9, 0, 2, 1, 7, 0, 3, 0] ++ bytesLE 8 5000000), grpU gslot, 2, gslot, by decide +kernel⟩,
   ⟨2, fr 0x86 ([9, 0, 4, 0, 7, 0, 3, 0] ++ bytesLE 8 5000000) false 1, grpU gslot, 2, gslot, by decide +kernel⟩,
   ⟨fr 2 ([9, 0, 2, 1, 7, 0, 3, 0] ++ bytesLE 8 4999999), grpU gslot, 2, 3, by decide +kernel⟩,
   ⟨2, fr 3 [9, 0, 0, 0, 2, 0, 0, 0], let u := inTrail (grpU gslot) { readySeg with w6 := 0x22 }; u.modPlan 3 fun p => { p with slots := [(u.head 3, 0, none)] }, 2, 3, by decide +kernel⟩,
   ⟨2, fr 3 [9, 0, 0, 0, 2, 0, 0, 0], (grpU gslot).modPlan 3 fun p => { p with groupRan := [(0, 2)] }, 2, 3, by decide +kernel⟩,
   ⟨2, fr 4 [9, 0, 0, 0, 2, 0, 0, 0], grpU { gslot with retract := some 5 }, 2, { gslot with retract := some 5 },
     by decide +kernel⟩,
   ⟨2, fr 4 [9, 0, 0, 0, 2, 0, 0, 0], grpU gslot, 2, gslot, by decide +kernel⟩,
   ⟨2, fr 0x50 ([9, 0, 0, 0, 1, 2, 3, 4] ++ bytesLE 8 5000000 ++ [0, 1]), grpU gslot, 2, gslot, by decide +kernel⟩,
   ⟨2, fr 0x82 ([9, 0, 0, 0] ++ segBytes readySeg) false 1, (grpU gslot).set R.POS_HI_pos_int 100 3, 2, gslot, 3,
     { readySeg with w6 := 2 }, by decide +kernel⟩,
   ⟨2, fr 0x83 ([9, 0, 0, 0, 2, 0, 0, 0] ++ bytesLE 8 6000000) false 1, let u := inTrail (grpU gslot) { readySeg with w6 := 0x22 }; u.modPlan 3 fun p => { p with slots := [(u.head 3, 0, none)] }, 2, gslot, 3, (0, 0, none), by decide +kernel⟩,
   ⟨2, fr 0x84 ([9, 0, 5, 0, 7, 0, 0, 0, 0, 0, 0, 0, 0, 1, 0, 0]) false 1, grpU gslot, 2, gslot, 3, by decide +kernel⟩,
   ⟨2, fr 0x84 ([9, 0, 0xFF, 0xFF, 7, 0, 0, 0, 0, 0, 0, 0, 0, 1, 0, 0]) false 1, grpU gslot, 2, gslot, 3, by decide +kernel⟩,
   ⟨2, fr 0x85 ([9, 0, 1, 0, 0, 0, 0, 0, 0, 0, 0, 0, 1, 0, 0, 0]) false 1,
     grpU { gslot with members := [mem0, { mem0 with index := 1, route := 5 }] }, 2,
     { gslot with members := [mem0, { mem0 with index := 1, route := 5 }] }, by decide +kernel⟩,
   ⟨2, fr 0x87 ([9, 0, 0, 2] ++ List.replicate 100 0) false 1, grpU gslot, 1, by decide +kernel⟩,
   ⟨2, fr 0x87 ([9, 0, 0, 1, 5, 0, 0, 1, 0, 0, 3, 0] ++ List.replicate 20 0) false 1,
     grpU { gslot with leaderHere := false, leaderRoute := 7, devices := [] }, 2,
     { gslot with leaderHere := false, leaderRoute := 7, devices := [] }, by decide +kernel⟩,
   ⟨fr 0x50 [8, 0] false 1, grpU gslot, by decide +kernel⟩,
   ⟨fr 0x82 [8, 0] false 1, grpU gslot, by decide +kernel⟩⟩

/-- The hypotheses of RollCallsAndAuthorityClaimsSettle can be met, clause by clause. -/
theorem witness_RollCallsAndAuthorityClaimsSettle :
    (∃ (s : State),
      (s.isRollRoot = false) ∧ (s.flag R.USF_ROLL_busy = false)) ∧
    (∃ (s : State),
      (s.flag R.USF_ROLL_busy)) ∧
    (∃ (s : State),
      (s.isRollRoot) ∧ (s.flag R.USF_ROLL_busy = false) ∧ (s.flag R.USF_ID_ring = false)) ∧
    (∃ (s : State),
      (s.isRollRoot) ∧ (s.flag R.USF_ROLL_busy = false) ∧ (s.flag R.USF_ID_ring = false) ∧ (s.portUp 1 = false) ∧
        (s.portUp 2 = false) ∧ (s.portUp 3 = false)) ∧
    (∃ (p : Fin 4) (f : Frame) (s : State),
      (Taken s p f 0x88) ∧ (s.ownDepth = 0 ∨ s.get R.USF_ROLL_GEN_generation ≠ fieldLE f.payload 0 4) ∧
        (fieldLE f.payload 8 9 < 2 ^ 72) ∧ (fieldLE f.payload 4 1 < 8)) ∧
    (∃ (p : Fin 4) (f : Frame) (s : State),
      (Taken s p f 0x88) ∧ (s.ownDepth ≠ 0) ∧ (s.get R.USF_ROLL_GEN_generation = fieldLE f.payload 0 4)) ∧
    (∃ (p : Fin 4) (f : Frame) (s : State) (r : RollCall),
      (Taken s p f 0x89) ∧ (s.usfen.roll = some r) ∧ (r.waits = p.val) ∧ (p = 1) ∧ (s.isRollRoot) ∧
        (fieldLE f.payload 0 4 = s.get R.USF_ROLL_GEN_generation)) ∧
    (∃ (p : Fin 4) (f : Frame) (s : State) (r : RollCall),
      (Taken s p f 0x89) ∧ (s.usfen.roll = some r) ∧ (r.waits = p.val) ∧ (p = 2) ∧ (s.portUp 3) ∧ (s.ownDepth < 6) ∧
        (fieldLE f.payload 4 2 ≤ 4095) ∧ (fieldLE f.payload 0 4 = s.get R.USF_ROLL_GEN_generation)) ∧
    (∃ (p : Fin 4) (f : Frame) (s : State),
      (Taken s p f 0x89) ∧ (s.usfen.roll = none)) ∧
    (∃ (p : Fin 4) (f : Frame) (s : State),
      (Taken s p f 0x8A)) ∧
    (∃ (s : State) (r : RollCall),
      (s.usfen.roll = some r) ∧ (r.asked + 10000000 ≤ s.now) ∧ (s.isRollRoot)) ∧
    (∃ (s : State),
      (∀ r, s.usfen.roll = some r → s.now < r.asked + 10000000)) ∧
    (∃ (p : Fin 4) (f : Frame) (s : State),
      (Taken s p f 0x8B) ∧ (s.get R.USF_AUTH_EPOCH_epoch < fieldLE f.payload 0 4 ∨ s.get R.USF_AUTH_state = 0 ∨
        s.get R.USF_AUTH_state = 2) ∧ (fieldLE f.payload 4 2 < 4096)) ∧
    (∃ (p : Fin 4) (f : Frame) (s : State),
      (Taken s p f 0x8B) ∧ (s.get R.USF_AUTH_state = 1 ∨ s.get R.USF_AUTH_state = 3) ∧
        (fieldLE f.payload 0 4 < s.get R.USF_AUTH_EPOCH_epoch)) ∧
    (∃ (p : Fin 4) (f : Frame) (s : State) (u : Nat) (u0 : Nat),
      (Taken s p f 0x8B) ∧ (s.get R.USF_AUTH_state = 1) ∧ (fieldLE f.payload 0 4 = s.get R.USF_AUTH_EPOCH_epoch) ∧
        (u = fieldLE f.payload 4 2) ∧ (u < 4096) ∧ (u0 = s.get R.USF_AUTH_holder) ∧ (u ≠ u0) ∧
        (fieldLE f.payload 7 1 = s.usfen.claimEpoch) ∧ (((fieldLE f.payload 8 8 : Int) - s.usfen.claimTime).natAbs ≤ 100000000)) ∧
    (∃ (p : Fin 4) (f : Frame) (s : State) (u : Nat) (u0 : Nat),
      (Taken s p f 0x8B) ∧ (s.get R.USF_AUTH_state = 1) ∧ (fieldLE f.payload 0 4 = s.get R.USF_AUTH_EPOCH_epoch) ∧
        (u = fieldLE f.payload 4 2) ∧ (u < 4096) ∧ (u0 = s.get R.USF_AUTH_holder) ∧ (u ≠ u0) ∧
        (fieldLE f.payload 7 1 ≠ s.usfen.claimEpoch ∨ 100000000 < ((fieldLE f.payload 8 8 : Int) - s.usfen.claimTime).natAbs)) ∧
    (∃ (p : Fin 4) (f : Frame) (s : State),
      (Taken s p f 0x8C)) ∧
    (∃ (p : Fin 4) (f : Frame) (s : State) (r : CmdRef) (x : Nat × Nat),
      (Taken s p f 0x8D) ∧ (s.isRoot) ∧ (s.isRootB = false) ∧ (s.hamper.tracks = [({ ref := r, point := .remote x.1 x.2 } :
        Track)]) ∧ (fieldLE f.payload 9 1 = 1) ∧ (fieldLE f.payload 0x0A 1 = 1) ∧
        (routeField (fieldLE f.payload 0 9) 0 < routeField x.1 0) ∧ (MailOpen s r)) ∧
    (∃ (p : Fin 4) (f : Frame) (s : State),
      (Taken s p f 0x8D) ∧ (s.isRoot = false)) :=
  ⟨⟨hold, by decide +kernel⟩,
   ⟨hold.setFlag R.USF_ROLL_busy true, by decide +kernel⟩,
   ⟨root hold, by decide +kernel⟩,
   ⟨root hold, by decide +kernel⟩,
   ⟨0, fr 0x88 ([5, 0, 0, 0, 2, 0, 0, 0, 1, 0x10, 0, 0, 0, 0, 0, 0, 0, 0, 0, 0]) false 1, upP 2 (upP 0), by decide +kernel⟩,
   ⟨0, fr 0x88 ([5, 0, 0, 0, 2, 0, 0, 0, 1, 0x10, 0, 0, 0, 0, 0, 0, 0, 0, 0, 0]) false 1,
     ((upP 2 (upP 0)).set R.USF_ID_depth 2).set R.USF_ROLL_GEN_generation 5, by decide +kernel⟩,
   ⟨1, fr 0x89 [4, 0, 0, 0, 2, 0, 0, 0, 7, 0, 0, 0] false 1, root (rollS 1 (upP 1)),
     { waits := 1, below := 1, counted := 3, result := 0, asked := 0 }, by decide +kernel⟩,
   ⟨2, fr 0x89 [4, 0, 0, 0, 3, 0, 0, 0, 7, 0, 0, 0] false 1, rollS 2 (upP 2 (upP 3)),
     { waits := 2, below := 1, counted := 3, result := 0, asked := 0 }, by decide +kernel⟩,
   ⟨2, fr 0x89 [4, 0, 0, 0, 3, 0, 0, 0, 7, 0, 0, 0] false 1, upP 2, by decide +kernel⟩,
   ⟨1, fr 0x8A (bytesLE 8 77 ++ bytesLE 9 2 ++ [1, 1, 0]) false 1, let u := root (upP 1); { u with usfen := { u.usfen with units := [(5, 1, 1, true), (77, 9, 2, false)] } }, by decide +kernel⟩,
   ⟨{ root (rollS 2) with now := 10000000 }, { waits := 2, below := 1, counted := 3, result := 0, asked := 0 },
     by decide +kernel⟩,
   ⟨hold, by decide +kernel⟩,
   ⟨1, fr 0x8B ([5, 0, 0, 0, 2, 0, 0, 0] ++ bytesLE 8 5000) true 1, ((upP 1).set R.USF_AUTH_state 3).set R.USF_AUTH_EPOCH_epoch 4,
     by decide +kernel⟩,
   ⟨1, fr 0x8B ([3, 0, 0, 0, 2, 0, 0, 0] ++ bytesLE 8 5000) true 1, ((upP 1).set R.USF_AUTH_state 1).set R.USF_AUTH_EPOCH_epoch 4,
     by decide +kernel⟩,
   ⟨1, fr 0x8B ([4, 0, 0, 0, 2, 0, 0, 0] ++ bytesLE 8 100000000) true 1, (((upP 1).set R.USF_AUTH_state 1).set
     R.USF_AUTH_EPOCH_epoch 4).set R.USF_AUTH_holder 7, 2, 7, by decide +kernel⟩,
   ⟨1, fr 0x8B ([4, 0, 0, 0, 2, 0, 0, 0] ++ bytesLE 8 100000001) true 1, (((upP 1).set R.USF_AUTH_state 1).set
     R.USF_AUTH_EPOCH_epoch 4).set R.USF_AUTH_holder 7, 2, 7, by decide +kernel⟩,
   ⟨1, fr 0x8C ([4, 0, 1, 9] ++ bytesLE 8 100000001) false 1, mod (fun h => { h with handles := [(4, 5, 6), (5, 5, 5)] }) (upP 1),
     by decide +kernel⟩,
   ⟨1, fr 0x8D (bytesLE 9 2 ++ [1, 1, 0]) true 1, trk (.remote 3 1) (root (upP 1 mbox)), rtr, (3, 1), by decide +kernel⟩,
   ⟨1, fr 0x8D (bytesLE 9 2 ++ [1, 1, 0]) true 1, upP 1, by decide +kernel⟩⟩

/-- The hypotheses of CommandsAndHostMemoryCrossTheChain can be met, clause by clause. -/
theorem witness_CommandsAndHostMemoryCrossTheChain :
    (∃ (p : Fin 4) (f : Frame) (s : State) (j : Nat),
      (Taken s p f 0x80) ∧ (s.get R.PWR_STATUS_state ≠ 1) ∧ (s.usfen.cmdParts = []) ∧ (j < fieldLE f.payload 2 1) ∧
        (j ≠ fieldLE f.payload 1 1)) ∧
    (∃ (p : Fin 4) (f : Frame) (s : State) (slot : List Byte),
      (Taken s p f 0x80) ∧ (s.get R.PWR_STATUS_state ≠ 1) ∧ (s.usfen.cmdParts = []) ∧ (fieldLE f.payload 2 1 = 1) ∧
        (fieldLE f.payload 1 1 = 0) ∧ (slot = f.payload.drop 4) ∧ (slot.length = 64) ∧ (opOf slot = 0) ∧
        (fieldLE slot 0x18 8 = 0) ∧ (s.hamper.waiting = []) ∧ (s.mayTrack)) ∧
    (∃ (p : Fin 4) (f : Frame) (s : State) (slot : List Byte),
      (Taken s p f 0x80) ∧ (s.get R.PWR_STATUS_state ≠ 1) ∧ (s.usfen.cmdParts = []) ∧ (fieldLE f.payload 2 1 = 1) ∧
        (fieldLE f.payload 1 1 = 0) ∧ (slot = f.payload.drop 4) ∧ (slot.length = 64) ∧ (s.mayTrack = false)) ∧
    (∃ (p : Fin 4) (f : Frame) (s : State) (r : CmdRef) (x : Nat × Nat),
      (Taken s p f 0x81) ∧ (s.hamper.tracks = [({ ref := r, point := .remote x.1 x.2 } : Track)]) ∧
        (r.sq = fieldLE f.payload 4 1) ∧ (r.tag = fieldLE f.payload 0 2) ∧ (bit (fieldLE f.payload 3 1) 1) ∧
        (fieldLE f.payload 2 1 = 0x00) ∧ (s.hamper.forms = []) ∧ (MailOpen s r)) ∧
    (∃ (p : Fin 4) (f : Frame) (s : State),
      (Taken s p f 0x81) ∧ (s.hamper.tracks = [])) ∧
    (∃ (p : Fin 4) (f : Frame) (s : State),
      (Taken s p f 0xC0) ∧ (bit (fieldLE f.payload 0x0A 1) 7 = false)) ∧
    (∃ (p : Fin 4) (f : Frame) (s : State),
      (Taken s p f 0xC1)) ∧
    (∃ (p : Fin 4) (f : Frame) (s : State) (q : Fin 4),
      (Taken s p f 0xC1) ∧ (s.nextHop f.srcRoute f.srcDepth = Hop.port q) ∧ (s.portUp q) ∧ ((s.port q).waitBulk = []) ∧
        ((s.port q).usedBulk + 6 ≤ (s.port q).creditBulk + 256) ∧ (fieldLE f.payload 8 2 ≤ 256) ∧ (f.flood = false)) ∧
    (∃ (p : Fin 4) (f : Frame) (s : State) (r : TunnelRead),
      (Taken s p f 0xC2) ∧ (s.usfen.reads = [r]) ∧ (r.tag = fieldLE f.payload 0 2) ∧ (r.load = none) ∧
        (fieldLE f.payload 4 1 = 0) ∧ (r.got.length + (f.payload.drop 16).length < r.len)) ∧
    (∃ (p : Fin 4) (f : Frame) (s : State),
      (Taken s p f 0xC2) ∧ (s.usfen.reads = [])) ∧
    (∃ (s : State),
      (s.flag R.USF_MIRROR_CFG_enable) ∧ (s.isRoot = false) ∧ (s.recent s.usfen.mirrorAt (1000 * max 1 (s.get
        R.USF_MIRROR_CFG_poll_us)) = false ∨ s.ringFull = true)) ∧
    (∃ (s : State),
      (s.flag R.USF_MIRROR_CFG_enable = false ∨ s.isRoot = true ∨ (s.recent s.usfen.mirrorAt (1000 * max 1 (s.get
        R.USF_MIRROR_CFG_poll_us)) = true ∧ s.ringFull = false))) ∧
    (∃ (p : Fin 4) (s : State),
      (s.portUp p)) ∧
    (∃ (p : Fin 4) (s : State),
      (s.portUp p = false)) ∧
    (∃ (p : Fin 4) (f : Frame) (s : State) (q : Fin 4),
      (s.portUp p) ∧ ((s.receive p f).1) ∧ (frameCls f < 2) ∧ (f.flood = false) ∧ (f.dstDepth ≠ 0) ∧
        (s.nextHop f.dstRoute f.dstDepth = Hop.port q) ∧ (q ≠ p) ∧ (s.portUp q)) ∧
    (∃ (f : Frame) (s : State),
      (f.flood = false) ∧ (f.dstDepth ≠ 0) ∧ (f.dstRoute ≠ s.ownRoute ∨ f.dstDepth ≠ s.ownDepth)) ∧
    (∃ (q : Fin 4) (n : Fin 64),
      (n.val / 16 = q.val)) :=
  ⟨⟨2, fr 0x80 ([3, 0, 2, 0] ++ dsc2) false 1, upP 2, 1, by decide +kernel⟩,
   ⟨2, fr 0x80 ([3, 0, 1, 0] ++ dsc2) false 1, upP 2, dsc2, by decide +kernel⟩,
   ⟨2, fr 0x80 ([3, 0, 1, 0] ++ dsc2) false 1, mod (fun h =>
     { h with tracks := List.replicate 4096 { ref := ref2, point := .action } }) (upP 2), dsc2, by decide +kernel⟩,
   ⟨1, fr 0x81 ([7, 0, 0, 2, 0, 0, 0, 0] ++ bytesLE 8 0x1234 ++ [0, 0, 0, 0]) false 1, trk (.remote 3 1) (root (upP 1 mbox)), rtr,
     (3, 1), by decide +kernel⟩,
   ⟨1, fr 0x81 ([7, 0, 0, 2, 0, 0, 0, 0] ++ bytesLE 8 0x1234 ++ [0, 0, 0, 0]) false 1, root (upP 1 mbox), by decide +kernel⟩,
   ⟨1, fr 0xC0 (bytesLE 8 0x1000 ++ [3, 0, 0, 0, 0, 0, 0, 0, 1, 2, 3]) false 1, root (upP 1), by decide +kernel⟩,
   ⟨1, fr 0xC1 (bytesLE 8 0x1000 ++ [3, 0, 9, 0, 0, 0, 0, 0]) false 1, root (upP 1), by decide +kernel⟩,
   ⟨1, { fr 0xC1 (bytesLE 8 0x1000 ++ [3, 0, 9, 0, 0, 0, 0, 0]) false 1 with srcRoute := 3 },
     ((root (upP 1)).set R.USF_ROUTE0_route_lo 1).set R.USF_ID_depth 1, 1, by decide +kernel⟩,
   ⟨1, fr 0xC2 ([7, 0, 0, 0, 0] ++ List.replicate 11 0 ++ [1, 2]) false 1, let u := upP 1; { u with usfen := { u.usfen with reads := [{ tag := 7, load := none, store := false, len := 64, got := [9] }] } }, { tag := 7, load := none, store := false, len := 64, got := [9] }, by decide +kernel⟩,
   ⟨1, fr 0xC2 ([7, 0, 0, 0, 0] ++ List.replicate 11 0 ++ [1, 2]) false 1, upP 1, by decide +kernel⟩,
   ⟨(upP 0).setFlag R.USF_MIRROR_CFG_enable true, by decide +kernel⟩,
   ⟨hold, by decide +kernel⟩,
   ⟨1, upP 1, by decide +kernel⟩,
   ⟨1, hold, by decide +kernel⟩,
   ⟨0, { fr 0x04 [] false 0 with dstRoute := 3, dstDepth := 1 }, ((upP 0 (upP 1)).set R.USF_ROUTE0_route_lo 1).set R.USF_ID_depth
     1, 1, by decide +kernel⟩,
   ⟨{ fr 0x04 [] false 0 with dstRoute := 3, dstDepth := 1 }, upP 0, by decide +kernel⟩,
   ⟨3, 63, by decide +kernel⟩⟩

/-- The hypotheses of KeyedChecksStopAtTheFirstThatFails can be met, clause by clause. -/
theorem witness_KeyedChecksStopAtTheFirstThatFails :
    (∃ (c : Instr) (d : Desc) (s : State),
      (KeyedCmd c d) ∧ (MailOpen s d.ref) ∧ (s.keyedUp = false)) ∧
    (∃ (c : Instr) (d : Desc) (s : State),
      (KeyedCmd c d) ∧ (MailOpen s d.ref) ∧ (s.keyedUp) ∧ (s.canopy.lockedUntil.isSome)) ∧
    (∃ (c : Instr) (d : Desc) (s : State),
      (KeyedCmd c d) ∧ (MailOpen s d.ref) ∧ (s.keyedUp) ∧ (s.canopy.lockedUntil = none) ∧ ((s.keySlot (keySlotOf d)).key = none) ∧
        (s.provisioning d = false)) ∧
    (∃ (c : Instr) (d : Desc) (s : State),
      (KeyedCmd c d) ∧ (MailOpen s d.ref) ∧ (s.keyedUp) ∧ (s.canopy.lockedUntil = none) ∧ ((s.keySlot (keySlotOf d)).key ≠ none) ∧
        (State.asksProvision d = false) ∧ ((s.keySlot (keySlotOf d)).rights.testBit (keyedOp d - 0x40) = false)) ∧
    (∃ (d : Desc),
      (keyedOp d < 0x40 ∨ 0x47 ≤ keyedOp d)) ∧
    (∃ (s : State) (u : Nat),
      (s.canopy.lockedUntil = some u) ∧ (u ≤ s.now)) ∧
    (∃ (s : State),
      (s.canopy.lockedUntil.all (fun (u : Nat) => decide (s.now < u)))) :=
  ⟨⟨.benchMode (dml [(0, 1, 0x46)]), dml [(0, 1, 0x46)], mbox, by decide +kernel⟩,
   ⟨.erase (dml [(0, 1, 0x41), (0x20, 1, 2)]), dml [(0, 1, 0x41), (0x20, 1, 2)], let u := keyed0; { u with canopy := { u.canopy with lockedUntil := some 9000000 } }, by decide +kernel⟩,
   ⟨.lullRelease (dml [(0, 1, 0x43), (7, 1, 3)]), dml [(0, 1, 0x43), (7, 1, 3)], keyed0, by decide +kernel⟩,
   ⟨.authorityClaim (dml [(0, 1, 0x44)]), dml [(0, 1, 0x44)], keyed0 { ks with rights := 0x2F }, by decide +kernel⟩,
   ⟨dml [(0, 1, 0x47)], by decide +kernel⟩,
   ⟨let u := keyed0; { u with canopy := { u.canopy with lockedUntil := some 5000000, fails := 8, lockouts := 1 } }, 5000000, by decide +kernel⟩,
   ⟨let u := keyed0; { u with canopy := { u.canopy with lockedUntil := some 5000001, fails := 8, lockouts := 1 } }, by decide +kernel⟩⟩

/-- The hypotheses of KeyedCommandsAct can be met, clause by clause. -/
theorem witness_KeyedCommandsAct :
    (∃ (d : Desc) (key : List Byte) (s : State) (w : Nat),
      (KeyPasses s d key) ∧ (keyedOp d = 0x40) ∧ (fieldLE d.slot 0x20 4 = R.DUSK_CFG.off) ∧
        (w = State.maskedWord (s.rd R.DUSK_CFG.off).toNat (fieldLE d.slot 0x24 4) (fieldLE d.slot 0x28 4)) ∧ (macOk key d)) ∧
    (∃ (d : Desc) (key : List Byte) (s : State),
      (KeyPasses s d key) ∧ (keyedOp d = 0x40) ∧ (safetyKind d = 0) ∧ (State.safetyTarget (bits (fieldLE d.slot 0x20 4) 19 0) =
        false) ∧ (macOk key d)) ∧
    (∃ (d : Desc) (key : List Byte) (s : State) (i : Nat),
      (KeyPasses s d key) ∧ (keyedOp d = 0x40) ∧ (safetyKind d = 1) ∧ (fieldLE d.slot 0x20 3 = i) ∧ (i < 520) ∧ (i % 8 ≠ 7) ∧
        (macOk key d)) ∧
    (∃ (d : Desc) (key : List Byte) (s : State),
      (KeyPasses s d key) ∧ (keyedOp d = 0x40) ∧ (safetyKind d = 1) ∧ (520 ≤ fieldLE d.slot 0x20 3 ∨
        fieldLE d.slot 0x20 3 % 8 = 7) ∧ (macOk key d)) ∧
    (∃ (d : Desc) (key : List Byte) (s : State) (own : Nat) (v : Nat),
      (KeyPasses s d key) ∧ (keyedOp d = 0x40) ∧ (safetyKind d = 2) ∧ (fieldLE d.slot 0x20 3 = 1) ∧
        (own = s.canopy.ownNext.getD (s.get64 R.SPLIT_OWN_LO_tiles R.SPLIT_OWN_HI_tiles)) ∧
        (v = State.maskedWord (own / 2 ^ 32) (fieldLE d.slot 0x24 4) (fieldLE d.slot 0x28 4)) ∧ (macOk key d)) ∧
    (∃ (d : Desc) (key : List Byte) (s : State) (n : Fin 64),
      (KeyPasses s d key) ∧ (keyedOp d = 0x40) ∧ (safetyKind d = 3) ∧ ((fieldLE d.slot 0x24 4 + 2 ^ 32 * fieldLE d.slot 0x28
        4).testBit n.val) ∧ (macOk key d)) ∧
    (∃ (d : Desc) (key : List Byte) (s : State) (i : Fin 8),
      (KeyPasses s d key) ∧ (keyedOp d = 0x41) ∧ (keyOp d = 1) ∧ (fieldLE d.slot 0x21 1 = i.val) ∧
        (fieldLE d.slot 0x22 1 &&& (0xFF - (s.keySlot (keySlotOf d)).rights % 128) = 0) ∧ (macOk key d)) ∧
    (∃ (d : Desc) (key : List Byte) (s : State),
      (KeyPasses s d key) ∧ (keyedOp d = 0x41) ∧ (keyOp d = 1) ∧ (8 ≤ fieldLE d.slot 0x21 1 ∨
        fieldLE d.slot 0x22 1 &&& (0xFF - (s.keySlot (keySlotOf d)).rights % 128) ≠ 0) ∧ (macOk key d)) ∧
    (∃ (d : Desc) (key : List Byte) (s : State) (i : Fin 8),
      (KeyPasses s d key) ∧ (keyedOp d = 0x41) ∧ (keyOp d = 2) ∧ (fieldLE d.slot 0x21 1 = i.val) ∧ (s.otherKeeper i.val) ∧
        (macOk key d)) ∧
    (∃ (d : Desc) (key : List Byte) (s : State),
      (KeyPasses s d key) ∧ (keyedOp d = 0x41) ∧ (keyOp d = 2) ∧ (fieldLE d.slot 0x21 1 < 8) ∧
        (s.otherKeeper (fieldLE d.slot 0x21 1) = false) ∧ (macOk key d)) ∧
    (∃ (d : Desc) (s : State) (new : List Byte),
      (s.keyedUp) ∧ (s.canopy.lockedUntil = none) ∧ (s.canopy.fails = 0) ∧ (s.canopy.lockouts = 0) ∧ (s.provisioning d) ∧
        ((s.keySlot 0).counter < keyCounter d) ∧ (keyCounter d < (s.keySlot 0).mark) ∧ (new = ((d.ext.headD []).drop 4).take 16) ∧
        (keyCheck new = fieldLE d.slot 0x24 4) ∧ (macOk zeroKey d)) ∧
    (∃ (d : Desc) (s : State),
      (s.keyedUp) ∧ (s.canopy.lockedUntil = none) ∧ (s.noKeys = false) ∧ (keyedOp d = 0x41) ∧ (keyOp d = 3)) ∧
    (∃ (d : Desc) (key : List Byte) (s : State),
      (KeyPasses s d key) ∧ (keyedOp d = 0x42) ∧ (2 ≤ fieldLE d.slot 0x20 1 ∨ s.psInForce 0x01 (fieldLE d.slot 0x20 1) = none) ∧
        (macOk key d)) ∧
    (∃ (d : Desc) (key : List Byte) (s : State) (n : Fin 64),
      (KeyPasses s d key) ∧ (keyedOp d = 0x43) ∧ ((fieldLE d.slot 0x20 8).testBit n.val) ∧ (s.vetoed n) ∧
        (s.vetoPersists n = false) ∧ (macOk key d)) ∧
    (∃ (d : Desc) (key : List Byte) (s : State),
      (KeyPasses s d key) ∧ (keyedOp d = 0x43) ∧ (∀ n : Fin 64, (fieldLE d.slot 0x20 8).testBit n.val = true → s.vetoed n = true →
        s.vetoPersists n = true) ∧ (macOk key d)) ∧
    (∃ (d : Desc) (key : List Byte) (s : State),
      (KeyPasses s d key) ∧ (keyedOp d = 0x44) ∧ (s.isRoot) ∧ (s.get R.USF_AUTH_EPOCH_epoch < fieldLE d.slot 0x20 4) ∧
        (s.get R.USF_ID_unit < 4096) ∧ (macOk key d)) ∧
    (∃ (d : Desc) (key : List Byte) (s : State),
      (KeyPasses s d key) ∧ (s.isRoot = false) ∧ (keyedOp d = 0x44) ∧ (macOk key d)) ∧
    (∃ (d : Desc) (key : List Byte) (s : State),
      (KeyPasses s d key) ∧ (keyedOp d = 0x45) ∧ (s.isMaster) ∧ (s.stepPending = false) ∧ (macOk key d)) ∧
    (∃ (d : Desc) (key : List Byte) (s : State),
      (KeyPasses s d key) ∧ (keyedOp d = 0x45) ∧ (s.isMaster = false ∨ s.stepPending) ∧ (macOk key d)) ∧
    (∃ (d : Desc) (key : List Byte) (s : State),
      (KeyPasses s d key) ∧ (keyedOp d = 0x46) ∧ (s.flag R.DAWN_STRAPS_bench_en) ∧ (macOk key d)) ∧
    (∃ (d : Desc) (key : List Byte) (s : State),
      (KeyPasses s d key) ∧ (keyedOp d = 0x46) ∧ (s.flag R.DAWN_STRAPS_bench_en = false) ∧ (fieldLE d.slot 0x20 1 ≠ 0) ∧
        (macOk key d)) ∧
    (∃ (d : Desc) (key : List Byte) (s : State),
      (KeyPasses s d key) ∧ (keyedOp d = 0x40) ∧ (safetyKind d = 2) ∧ (2 ≤ fieldLE d.slot 0x20 3) ∧ (macOk key d)) ∧
    (∃ (d : Desc) (s : State),
      (s.keyedUp) ∧ (s.canopy.lockedUntil = none) ∧ (s.provisioning d) ∧ ((s.keySlot 0).counter < keyCounter d) ∧
        (keyCounter d < (s.keySlot 0).mark) ∧ (keyCheck (((d.ext.headD []).drop 4).take 16) ≠ fieldLE d.slot 0x24 4) ∧
        (macOk zeroKey d)) ∧
    (∃ (d : Desc) (key : List Byte) (s : State),
      (KeyPasses s d key) ∧ (keyedOp d = 0x44) ∧ (s.isRoot) ∧ (s.get R.USF_AUTH_state = 1) ∧
        (fieldLE d.slot 0x20 4 < s.get R.USF_AUTH_EPOCH_epoch) ∧ (macOk key d)) :=
  ⟨⟨sealed kk (hd [(0, 1, 0x40), (0x20, 4, 0x101C), (0x24, 4, 0x80000055), (0x28, 4, 0xC000000F)]), kk, keyed0,
    State.maskedWord (keyed0.rd R.DUSK_CFG.off).toNat 0x80000055 0xC000000F, by decide +kernel, by decide +kernel,
    by decide +kernel, by decide +kernel, sealed_ok _ _ _ (by decide +kernel)⟩,
   ⟨sealed kk (hd [(0, 1, 0x40), (0x20, 4, 0x9000), (0x24, 4, 0x55), (0x28, 4, 0x0F)]), kk, keyed0, by decide +kernel,
     by decide +kernel, by decide +kernel, by decide +kernel, sealed_ok _ _ _ (by decide +kernel)⟩,
   ⟨sealed kk (hd [(0, 1, 0x40), (0x20, 4, 0x0100001B), (0x24, 4, 0xFFFFFFFF), (0x28, 4, 0xFFFFFFFF)]), kk, keyed0, 27,
     by decide +kernel, by decide +kernel, by decide +kernel, by decide +kernel, by decide +kernel, by decide +kernel,
     sealed_ok _ _ _ (by decide +kernel)⟩,
   ⟨sealed kk (hd [(0, 1, 0x40), (0x20, 4, 0x01000208), (0x24, 4, 0xFFFFFFFF), (0x28, 4, 0xFFFFFFFF)]), kk, keyed0,
     by decide +kernel, by decide +kernel, by decide +kernel, by decide +kernel, sealed_ok _ _ _ (by decide +kernel)⟩,
   ⟨sealed kk (hd [(0, 1, 0x40), (0x20, 4, 0x02000001), (0x24, 4, 5), (0x28, 4, 0xF)]), kk, keyed0,
     keyed0.get64 R.SPLIT_OWN_LO_tiles R.SPLIT_OWN_HI_tiles, State.maskedWord (keyed0.get64 R.SPLIT_OWN_LO_tiles
     R.SPLIT_OWN_HI_tiles / 2 ^ 32) 5 0xF, by decide +kernel, by decide +kernel, by decide +kernel, by decide +kernel,
     by decide +kernel, by decide +kernel, sealed_ok _ _ _ (by decide +kernel)⟩,
   ⟨sealed kk (hd [(0, 1, 0x40), (0x20, 4, 0x03000000), (0x24, 4, 1), (0x28, 4, 8)]), kk, keyed0, 35, by decide +kernel,
     by decide +kernel, by decide +kernel, by decide +kernel, sealed_ok _ _ _ (by decide +kernel)⟩,
   ⟨sealed kk (hd [(0, 1, 0x41), (0x20, 1, 1), (0x21, 1, 2), (0x22, 1, 5), (0x24, 4, 4294173364)]) [[1, 0, 0,
     0] ++ wrapped ++ List.replicate 36 0], kk, keyed0, 2, by decide +kernel, by decide +kernel, by decide +kernel,
     by decide +kernel, by decide +kernel, sealed_ok _ _ _ (by decide +kernel)⟩,
   ⟨sealed kk (hd [(0, 1, 0x41), (0x20, 1, 1), (0x21, 1, 8), (0x22, 1, 5)]), kk, keyed0, by decide +kernel, by decide +kernel,
     by decide +kernel, by decide +kernel, sealed_ok _ _ _ (by decide +kernel)⟩,
   ⟨sealed kk (hd [(0, 1, 0x41), (0x20, 1, 2), (0x21, 1, 2)]), kk, keyed0, 2, by decide +kernel, by decide +kernel,
     by decide +kernel, by decide +kernel, by decide +kernel, sealed_ok _ _ _ (by decide +kernel)⟩,
   ⟨sealed kk (hd [(0, 1, 0x41), (0x20, 1, 2)]), kk, keyed0, by decide +kernel, by decide +kernel, by decide +kernel,
     by decide +kernel, by decide +kernel, sealed_ok _ _ _ (by decide +kernel)⟩,
   ⟨sealed zeroKey (hd [(0, 1, 0x41), (0x20, 1, 3), (0x24, 4, 4294173364)]) provExt,
     keyed0 { key := none, rights := 0, counter := 5, mark := 4096 }, newKey, by decide +kernel, by decide +kernel,
     by decide +kernel, by decide +kernel, by decide +kernel, by decide +kernel, by decide +kernel, by decide +kernel,
     by decide +kernel, sealed_ok _ _ _ (by decide +kernel)⟩,
   ⟨dml [(0, 1, 0x41), (0x20, 1, 3)], keyed0, by decide +kernel⟩,
   ⟨sealed kk (hd [(0, 1, 0x42), (0x20, 1, 1)]), kk, keyed0, by decide +kernel, by decide +kernel, by decide +kernel,
     sealed_ok _ _ _ (by decide +kernel)⟩,
   ⟨sealed kk (hd [(0, 1, 0x43), (0x20, 8, 0x900000000)]), kk, (keyed0.raiseVeto 35 7 0 0).raiseVeto 3 7 0 0, 35,
     by decide +kernel, by decide +kernel, by decide +kernel, by decide +kernel, by decide +kernel,
     sealed_ok _ _ _ (by decide +kernel)⟩,
   ⟨sealed kk (hd [(0, 1, 0x43), (0x20, 8, 0x900000000)]), kk, keyed0, by decide +kernel, by decide +kernel, by decide +kernel,
     sealed_ok _ _ _ (by decide +kernel)⟩,
   ⟨sealed kk (hd [(0, 1, 0x44), (0x20, 4, 7)]), kk, (root keyed0).set R.USF_ID_unit 1, by decide +kernel, by decide +kernel,
     by decide +kernel, by decide +kernel, by decide +kernel, sealed_ok _ _ _ (by decide +kernel)⟩,
   ⟨sealed kk (hd [(0, 1, 0x44), (0x20, 4, 7)]), kk, keyed0, by decide +kernel, by decide +kernel, by decide +kernel,
     sealed_ok _ _ _ (by decide +kernel)⟩,
   ⟨sealed kk (hd [(0, 1, 0x45)]), kk, keyed0.set R.TIME_STATUS_state 1, by decide +kernel, by decide +kernel, by decide +kernel,
     by decide +kernel, sealed_ok _ _ _ (by decide +kernel)⟩,
   ⟨sealed kk (hd [(0, 1, 0x45)]), kk, keyed0.set R.TIME_STATUS_state 3, by decide +kernel, by decide +kernel, by decide +kernel,
     sealed_ok _ _ _ (by decide +kernel)⟩,
   ⟨sealed kk (hd [(0, 1, 0x46), (0x20, 1, 1)]), kk, keyed0.setFlag R.DAWN_STRAPS_bench_en true, by decide +kernel,
     by decide +kernel, by decide +kernel, sealed_ok _ _ _ (by decide +kernel)⟩,
   ⟨sealed kk (hd [(0, 1, 0x46), (0x20, 1, 1)]), kk, keyed0, by decide +kernel, by decide +kernel, by decide +kernel,
     by decide +kernel, sealed_ok _ _ _ (by decide +kernel)⟩,
   ⟨sealed kk (hd [(0, 1, 0x40), (0x20, 4, 0x02000002), (0x24, 4, 5), (0x28, 4, 0xF)]), kk, keyed0, by decide +kernel,
     by decide +kernel, by decide +kernel, by decide +kernel, sealed_ok _ _ _ (by decide +kernel)⟩,
   ⟨sealed zeroKey (hd [(0, 1, 0x41), (0x20, 1, 3), (0x24, 4, 4294173365)]) provExt,
     keyed0 { key := none, rights := 0, counter := 5, mark := 4096 }, by decide +kernel, by decide +kernel, by decide +kernel,
     by decide +kernel, by decide +kernel, by decide +kernel, sealed_ok _ _ _ (by decide +kernel)⟩,
   ⟨sealed kk (hd [(0, 1, 0x44), (0x20, 4, 7)]), kk, (((root keyed0).set R.USF_ID_unit 1).set R.USF_AUTH_state 1).set
     R.USF_AUTH_EPOCH_epoch 8, by decide +kernel, by decide +kernel, by decide +kernel, by decide +kernel, by decide +kernel,
     sealed_ok _ _ _ (by decide +kernel)⟩⟩

/-- The hypotheses of ResetSourcesAndDawn can be met, clause by clause. -/
theorem witness_ResetSourcesAndDawn :
    (∃ (s : State),
      (s.lookout.off)) ∧
    (∃ (s : State),
      (s.lookout.off = false)) ∧
    (∃ (s : State),
      (s.lookout.off = false)) ∧
    (∃ (s : State),
      (s.lookout.off)) ∧
    (∃ (s : State),
      (s.lookout.off = false)) ∧
    (∃ (v : Word),
      (v ≠ 0xDA0000A5#32)) ∧
    (∃ (s : State),
      (s.get R.DAWN_STATUS_stage = 6) ∧ (s.flag R.PS_LOAD_CTL_busy = false) ∧ (s.get R.PS_LOAD_CTL_kind = 0) ∧
        (s.get R.PS_LOAD_CTL_result = 0)) ∧
    (∃ (s : State),
      (s.get R.DAWN_STATUS_stage ≠ 6 ∨ s.flag R.PS_LOAD_CTL_busy ∨ s.get R.PS_LOAD_CTL_kind ≠ 0 ∨
        s.get R.PS_LOAD_CTL_result ≠ 0)) ∧
    (∃ (s : State),
      (s.lookout.dawnCause = none)) ∧
    (∃ (s : State) (straps : Fin 32),
      (s.lookout.off = false) ∧ (s.lookout.dawnCause = some 1) ∧ (s.mem = []) ∧
        (bits straps.val R.DAWN_STRAPS_boot_src.msb R.DAWN_STRAPS_boot_src.lsb = 2)) ∧
    (∃ (s : State) (straps : Fin 32),
      (s.lookout.off = false) ∧ (s.lookout.dawnCause = some 1) ∧ (bits straps.val R.DAWN_STRAPS_split.msb R.DAWN_STRAPS_split.lsb
        = 0)) :=
  ⟨⟨offS, by decide +kernel⟩,
   ⟨hold, by decide +kernel⟩,
   ⟨hold, by decide +kernel⟩,
   ⟨offS (due 1), by decide +kernel⟩,
   ⟨hold, by decide +kernel⟩,
   ⟨0xDA0000A4, by decide +kernel⟩,
   ⟨hold.set R.DAWN_STATUS_stage 6, by decide +kernel⟩,
   ⟨hold, by decide +kernel⟩,
   ⟨hold, by decide +kernel⟩,
   ⟨due 1, 2, by decide +kernel⟩,
   ⟨due 1, 2, by decide +kernel⟩⟩

/-- The hypotheses of RegisterInstructionsWriteTheirResults can be met, clause by clause. -/
theorem witness_RegisterInstructionsWriteTheirResults :
    (∃ (s : State) (k : Fin 66) (w : Word) (gd : BitVec 4) (ga : BitVec 4) (gb : BitVec 4) (f : Bool),
      (AtInstr s k w (.alu .add gd ga gb f))) ∧
    (∃ (s : State) (k : Fin 66) (w : Word) (gd : BitVec 4) (ga : BitVec 4) (gb : BitVec 4) (f : Bool),
      (AtInstr s k w (.alu .adc gd ga gb f))) ∧
    (∃ (s : State) (k : Fin 66) (w : Word) (gd : BitVec 4) (ga : BitVec 4) (gb : BitVec 4) (f : Bool),
      (AtInstr s k w (.alu .sub gd ga gb f))) ∧
    (∃ (s : State) (k : Fin 66) (w : Word) (gd : BitVec 4) (ga : BitVec 4) (gb : BitVec 4) (f : Bool),
      (AtInstr s k w (.alu .sbc gd ga gb f))) ∧
    (∃ (s : State) (k : Fin 66) (w : Word) (gd : BitVec 4) (ga : BitVec 4) (gb : BitVec 4) (f : Bool),
      (AtInstr s k w (.alu .and gd ga gb f))) ∧
    (∃ (s : State) (k : Fin 66) (w : Word) (gd : BitVec 4) (ga : BitVec 4) (gb : BitVec 4) (f : Bool),
      (AtInstr s k w (.alu .or gd ga gb f))) ∧
    (∃ (s : State) (k : Fin 66) (w : Word) (gd : BitVec 4) (ga : BitVec 4) (gb : BitVec 4) (f : Bool),
      (AtInstr s k w (.alu .xor gd ga gb f))) ∧
    (∃ (s : State) (k : Fin 66) (w : Word) (gd : BitVec 4) (ga : BitVec 4) (gb : BitVec 4) (f : Bool),
      (AtInstr s k w (.alu .andn gd ga gb f))) ∧
    (∃ (s : State) (k : Fin 66) (w : Word) (gd : BitVec 4) (ga : BitVec 4) (gb : BitVec 4) (f : Bool),
      (AtInstr s k w (.alu .shl gd ga gb f))) ∧
    (∃ (s : State) (k : Fin 66) (w : Word) (gd : BitVec 4) (ga : BitVec 4) (gb : BitVec 4) (f : Bool),
      (AtInstr s k w (.alu .shr gd ga gb f))) ∧
    (∃ (s : State) (k : Fin 66) (w : Word) (gd : BitVec 4) (ga : BitVec 4) (gb : BitVec 4) (f : Bool),
      (AtInstr s k w (.alu .sar gd ga gb f))) ∧
    (∃ (s : State) (k : Fin 66) (w : Word) (gd : BitVec 4) (ga : BitVec 4) (gb : BitVec 4) (f : Bool),
      (AtInstr s k w (.alu .ror gd ga gb f))) ∧
    (∃ (s : State) (k : Fin 66) (w : Word) (gd : BitVec 4) (ga : BitVec 4) (gb : BitVec 4) (f : Bool),
      (AtInstr s k w (.alu .min gd ga gb f))) ∧
    (∃ (s : State) (k : Fin 66) (w : Word) (gd : BitVec 4) (ga : BitVec 4) (gb : BitVec 4) (f : Bool),
      (AtInstr s k w (.alu .max gd ga gb f))) ∧
    (∃ (s : State) (k : Fin 66) (w : Word) (gd : BitVec 4) (ga : BitVec 4) (gb : BitVec 4) (f : Bool),
      (AtInstr s k w (.alu .minu gd ga gb f))) ∧
    (∃ (s : State) (k : Fin 66) (w : Word) (gd : BitVec 4) (ga : BitVec 4) (gb : BitVec 4) (f : Bool),
      (AtInstr s k w (.alu .maxu gd ga gb f))) ∧
    (∃ (s : State) (k : Fin 66) (w : Word) (gd : BitVec 4) (ga : BitVec 4) (f : Bool),
      (AtInstr s k w (.alu1 .clz gd ga f))) ∧
    (∃ (s : State) (k : Fin 66) (w : Word) (gd : BitVec 4) (ga : BitVec 4) (f : Bool),
      (AtInstr s k w (.alu1 .sextb gd ga f))) ∧
    (∃ (s : State) (k : Fin 66) (w : Word) (gd : BitVec 4) (ga : BitVec 4) (f : Bool),
      (AtInstr s k w (.alu1 .sexth gd ga f))) ∧
    (∃ (s : State) (k : Fin 66) (w : Word) (gd : BitVec 4) (ga : BitVec 4) (gb : BitVec 4) (f : Bool),
      (AtInstr s k w (.alu .slt gd ga gb f))) ∧
    (∃ (s : State) (k : Fin 66) (w : Word) (gd : BitVec 4) (ga : BitVec 4) (gb : BitVec 4) (f : Bool),
      (AtInstr s k w (.alu .sltu gd ga gb f))) ∧
    (∃ (s : State) (k : Fin 66) (w : Word) (gd : BitVec 4) (ga : BitVec 4) (f : Bool) (n : BitVec 5),
      (AtInstr s k w (.shift .shli gd ga f n))) ∧
    (∃ (s : State) (k : Fin 66) (w : Word) (gd : BitVec 4) (ga : BitVec 4) (f : Bool) (n : BitVec 5),
      (AtInstr s k w (.shift .shri gd ga f n))) ∧
    (∃ (s : State) (k : Fin 66) (w : Word) (gd : BitVec 4) (ga : BitVec 4) (f : Bool) (n : BitVec 5),
      (AtInstr s k w (.shift .sari gd ga f n))) ∧
    (∃ (s : State) (k : Fin 66) (w : Word) (gd : BitVec 4) (ga : BitVec 4) (f : Bool) (n : BitVec 5),
      (AtInstr s k w (.shift .rori gd ga f n))) ∧
    (∃ (s : State) (k : Fin 66) (w : Word) (gd : BitVec 4) (ga : BitVec 4) (gb : BitVec 4) (f : Bool),
      (AtInstr s k w (.mul .mul gd ga gb f))) ∧
    (∃ (s : State) (k : Fin 66) (w : Word) (gd : BitVec 4) (ga : BitVec 4) (gb : BitVec 4) (f : Bool),
      (AtInstr s k w (.mul .mulh gd ga gb f))) ∧
    (∃ (s : State) (k : Fin 66) (w : Word) (gd : BitVec 4) (ga : BitVec 4) (gb : BitVec 4) (f : Bool),
      (AtInstr s k w (.mul .mulhu gd ga gb f))) ∧
    (∃ (s : State) (k : Fin 66) (w : Word) (gd : BitVec 4) (ga : BitVec 4) (gb : BitVec 4) (f : Bool),
      (AtInstr s k w (.mul .div gd ga gb f)) ∧ (G s k gb ≠ 0)) ∧
    (∃ (s : State) (k : Fin 66) (w : Word) (gd : BitVec 4) (ga : BitVec 4) (gb : BitVec 4) (f : Bool),
      (AtInstr s k w (.mul .divu gd ga gb f)) ∧ (G s k gb ≠ 0)) ∧
    (∃ (s : State) (k : Fin 66) (w : Word) (gd : BitVec 4) (ga : BitVec 4) (gb : BitVec 4) (f : Bool),
      (AtInstr s k w (.mul .rem gd ga gb f)) ∧ (G s k gb ≠ 0)) ∧
    (∃ (s : State) (k : Fin 66) (w : Word) (gd : BitVec 4) (ga : BitVec 4) (gb : BitVec 4) (f : Bool),
      (AtInstr s k w (.mul .remu gd ga gb f)) ∧ (G s k gb ≠ 0)) ∧
    (∃ (s : State) (k : Fin 66) (w : Word) (gd : BitVec 4) (ga : BitVec 4) (gb : BitVec 4) (f : Bool),
      (AtInstr s k w (.mul .div gd ga gb f)) ∧ (G s k gb = 0) ∧ ((s.core k).status.getLsbD 28 = false)) ∧
    (∃ (s : State) (k : Fin 66) (w : Word) (gd : BitVec 4) (ga : BitVec 4) (gb : BitVec 4) (f : Bool),
      (AtInstr s k w (.mul .divu gd ga gb f)) ∧ (G s k gb = 0) ∧ ((s.core k).status.getLsbD 28 = false)) ∧
    (∃ (s : State) (k : Fin 66) (w : Word) (gd : BitVec 4) (ga : BitVec 4) (gb : BitVec 4) (f : Bool),
      (AtInstr s k w (.mul .rem gd ga gb f)) ∧ (G s k gb = 0) ∧ ((s.core k).status.getLsbD 28 = false)) ∧
    (∃ (s : State) (k : Fin 66) (w : Word) (gd : BitVec 4) (ga : BitVec 4) (gb : BitVec 4) (f : Bool),
      (AtInstr s k w (.mul .remu gd ga gb f)) ∧ (G s k gb = 0) ∧ ((s.core k).status.getLsbD 28 = false)) ∧
    (∃ (s : State) (k : Fin 66) (w : Word) (gd : BitVec 4) (ga : BitVec 4) (off : BitVec 18) (o : Nat),
      (AtInstr s k w (.load .ldw gd ga off)) ∧ (s.place k false (G s k ga + BitVec.signExtend 32 off).toNat = some (Place.reg o))
        ∧ ((G s k ga + BitVec.signExtend 32 off).toNat % 4 = 0)) ∧
    (∃ (s : State) (k : Fin 66) (w : Word) (gd : BitVec 4) (ga : BitVec 4) (off : BitVec 18) (o : Nat),
      (AtInstr s k w (.load .ldw gd ga off)) ∧ (s.place k false (G s k ga + BitVec.signExtend 32 off).toNat = some (Place.ti o)) ∧
        ((G s k ga + BitVec.signExtend 32 off).toNat % 4 = 0)) ∧
    (∃ (s : State) (k : Fin 66) (w : Word) (gd : BitVec 4) (ga : BitVec 4) (off : BitVec 18) (o : Nat),
      (AtInstr s k w (.load .ldh gd ga off)) ∧ (s.place k false (G s k ga + BitVec.signExtend 32 off).toNat = some (Place.reg o))
        ∧ ((G s k ga + BitVec.signExtend 32 off).toNat % 2 = 0)) ∧
    (∃ (s : State) (k : Fin 66) (w : Word) (gd : BitVec 4) (ga : BitVec 4) (off : BitVec 18) (o : Nat),
      (AtInstr s k w (.load .ldh gd ga off)) ∧ (s.place k false (G s k ga + BitVec.signExtend 32 off).toNat = some (Place.ti o)) ∧
        ((G s k ga + BitVec.signExtend 32 off).toNat % 2 = 0)) ∧
    (∃ (s : State) (k : Fin 66) (w : Word) (gd : BitVec 4) (ga : BitVec 4) (off : BitVec 18) (o : Nat),
      (AtInstr s k w (.load .ldhu gd ga off)) ∧ (s.place k false (G s k ga + BitVec.signExtend 32 off).toNat = some (Place.reg o))
        ∧ ((G s k ga + BitVec.signExtend 32 off).toNat % 2 = 0)) ∧
    (∃ (s : State) (k : Fin 66) (w : Word) (gd : BitVec 4) (ga : BitVec 4) (off : BitVec 18) (o : Nat),
      (AtInstr s k w (.load .ldhu gd ga off)) ∧ (s.place k false (G s k ga + BitVec.signExtend 32 off).toNat = some (Place.ti o))
        ∧ ((G s k ga + BitVec.signExtend 32 off).toNat % 2 = 0)) ∧
    (∃ (s : State) (k : Fin 66) (w : Word) (gd : BitVec 4) (ga : BitVec 4) (off : BitVec 18) (o : Nat),
      (AtInstr s k w (.load .ldb gd ga off)) ∧ (s.place k false (G s k ga + BitVec.signExtend 32 off).toNat = some (Place.reg o)))
        ∧
    (∃ (s : State) (k : Fin 66) (w : Word) (gd : BitVec 4) (ga : BitVec 4) (off : BitVec 18) (o : Nat),
      (AtInstr s k w (.load .ldb gd ga off)) ∧ (s.place k false (G s k ga + BitVec.signExtend 32 off).toNat = some (Place.ti o)))
        ∧
    (∃ (s : State) (k : Fin 66) (w : Word) (gd : BitVec 4) (ga : BitVec 4) (off : BitVec 18) (o : Nat),
      (AtInstr s k w (.load .ldbu gd ga off)) ∧ (s.place k false (G s k ga + BitVec.signExtend 32 off).toNat = some (Place.reg
        o))) ∧
    (∃ (s : State) (k : Fin 66) (w : Word) (gd : BitVec 4) (ga : BitVec 4) (off : BitVec 18) (o : Nat),
      (AtInstr s k w (.load .ldbu gd ga off)) ∧ (s.place k false (G s k ga + BitVec.signExtend 32 off).toNat = some (Place.ti o)))
        ∧
    (∃ (s : State) (k : Fin 66) (w : Word) (gs : BitVec 4) (ga : BitVec 4) (off : BitVec 18) (a : Nat),
      (AtInstr s k w (.store .stw gs ga off)) ∧ ((G s k ga + BitVec.signExtend 32 off).toNat % 4 = 0) ∧
        ((s.core k).stores.length < 4) ∧ (s.place k true (G s k ga + BitVec.signExtend 32 off).toNat = some (Place.ram a))) ∧
    (∃ (s : State) (k : Fin 66) (w : Word) (gs : BitVec 4) (ga : BitVec 4) (off : BitVec 18) (a : Nat) (e : Nat × List Byte) (rest
      : List (Nat × List Byte)),
      (AtInstr s k w (.store .stw gs ga off)) ∧ ((G s k ga + BitVec.signExtend 32 off).toNat % 4 = 0) ∧ (k.val < 64) ∧
        ((s.core k).stores = e :: rest) ∧ (3 ≤ rest.length) ∧ (s.place k true (G s k ga + BitVec.signExtend 32 off).toNat = some
        (Place.ram a))) ∧
    (∃ (s : State) (k : Fin 66) (w : Word) (gs : BitVec 4) (ga : BitVec 4) (off : BitVec 18) (a : Nat) (e : Nat × List Byte) (rest
      : List (Nat × List Byte)) (j : Fin 66) (l : LockSeq),
      (AtInstr s k w (.store .stw gs ga off)) ∧ ((G s k ga + BitVec.signExtend 32 off).toNat % 4 = 0) ∧ (k.val < 64) ∧
        ((s.core k).stores = e :: rest) ∧ (3 ≤ rest.length) ∧ (s.place k true (G s k ga + BitVec.signExtend 32 off).toNat = some
        (Place.ram a)) ∧ (j ≠ k) ∧ ((s.core j).lock = some l)) ∧
    (∃ (s : State) (k : Fin 66) (w : Word) (gs : BitVec 4) (ga : BitVec 4) (off : BitVec 18) (o : Nat),
      (AtInstr s k w (.store .stw gs ga off)) ∧ (s.place k true (G s k ga + BitVec.signExtend 32 off).toNat = some (Place.reg o))
        ∧ ((G s k ga + BitVec.signExtend 32 off).toNat % 4 = 0)) ∧
    (∃ (s : State) (k : Fin 66) (w : Word) (gs : BitVec 4) (ga : BitVec 4) (off : BitVec 18) (o : Nat),
      (AtInstr s k w (.store .stw gs ga off)) ∧ (s.place k true (G s k ga + BitVec.signExtend 32 off).toNat = some (Place.ti o)) ∧
        ((G s k ga + BitVec.signExtend 32 off).toNat % 4 = 0)) ∧
    (∃ (s : State) (k : Fin 66) (w : Word) (gs : BitVec 4) (ga : BitVec 4) (off : BitVec 18) (a : Nat),
      (AtInstr s k w (.store .sth gs ga off)) ∧ ((G s k ga + BitVec.signExtend 32 off).toNat % 2 = 0) ∧
        ((s.core k).stores.length < 4) ∧ (s.place k true (G s k ga + BitVec.signExtend 32 off).toNat = some (Place.ram a))) ∧
    (∃ (s : State) (k : Fin 66) (w : Word) (gs : BitVec 4) (ga : BitVec 4) (off : BitVec 18) (a : Nat) (e : Nat × List Byte) (rest
      : List (Nat × List Byte)),
      (AtInstr s k w (.store .sth gs ga off)) ∧ ((G s k ga + BitVec.signExtend 32 off).toNat % 2 = 0) ∧ (k.val < 64) ∧
        ((s.core k).stores = e :: rest) ∧ (3 ≤ rest.length) ∧ (s.place k true (G s k ga + BitVec.signExtend 32 off).toNat = some
        (Place.ram a))) ∧
    (∃ (s : State) (k : Fin 66) (w : Word) (gs : BitVec 4) (ga : BitVec 4) (off : BitVec 18) (a : Nat) (e : Nat × List Byte) (rest
      : List (Nat × List Byte)) (j : Fin 66) (l : LockSeq),
      (AtInstr s k w (.store .sth gs ga off)) ∧ ((G s k ga + BitVec.signExtend 32 off).toNat % 2 = 0) ∧ (k.val < 64) ∧
        ((s.core k).stores = e :: rest) ∧ (3 ≤ rest.length) ∧ (s.place k true (G s k ga + BitVec.signExtend 32 off).toNat = some
        (Place.ram a)) ∧ (j ≠ k) ∧ ((s.core j).lock = some l)) ∧
    (∃ (s : State) (k : Fin 66) (w : Word) (gs : BitVec 4) (ga : BitVec 4) (off : BitVec 18) (o : Nat),
      (AtInstr s k w (.store .sth gs ga off)) ∧ (s.place k true (G s k ga + BitVec.signExtend 32 off).toNat = some (Place.reg o))
        ∧ ((G s k ga + BitVec.signExtend 32 off).toNat % 2 = 0)) ∧
    (∃ (s : State) (k : Fin 66) (w : Word) (gs : BitVec 4) (ga : BitVec 4) (off : BitVec 18) (o : Nat),
      (AtInstr s k w (.store .sth gs ga off)) ∧ (s.place k true (G s k ga + BitVec.signExtend 32 off).toNat = some (Place.ti o)) ∧
        ((G s k ga + BitVec.signExtend 32 off).toNat % 2 = 0)) ∧
    (∃ (s : State) (k : Fin 66) (w : Word) (gs : BitVec 4) (ga : BitVec 4) (off : BitVec 18) (a : Nat),
      (AtInstr s k w (.store .stb gs ga off)) ∧ ((s.core k).stores.length < 4) ∧
        (s.place k true (G s k ga + BitVec.signExtend 32 off).toNat = some (Place.ram a))) ∧
    (∃ (s : State) (k : Fin 66) (w : Word) (gs : BitVec 4) (ga : BitVec 4) (off : BitVec 18) (a : Nat) (e : Nat × List Byte) (rest
      : List (Nat × List Byte)),
      (AtInstr s k w (.store .stb gs ga off)) ∧ (k.val < 64) ∧ ((s.core k).stores = e :: rest) ∧ (3 ≤ rest.length) ∧
        (s.place k true (G s k ga + BitVec.signExtend 32 off).toNat = some (Place.ram a))) ∧
    (∃ (s : State) (k : Fin 66) (w : Word) (gs : BitVec 4) (ga : BitVec 4) (off : BitVec 18) (a : Nat) (e : Nat × List Byte) (rest
      : List (Nat × List Byte)) (j : Fin 66) (l : LockSeq),
      (AtInstr s k w (.store .stb gs ga off)) ∧ (k.val < 64) ∧ ((s.core k).stores = e :: rest) ∧ (3 ≤ rest.length) ∧
        (s.place k true (G s k ga + BitVec.signExtend 32 off).toNat = some (Place.ram a)) ∧ (j ≠ k) ∧
        ((s.core j).lock = some l)) ∧
    (∃ (s : State) (k : Fin 66) (w : Word) (gs : BitVec 4) (ga : BitVec 4) (off : BitVec 18) (o : Nat),
      (AtInstr s k w (.store .stb gs ga off)) ∧ (s.place k true (G s k ga + BitVec.signExtend 32 off).toNat = some (Place.reg o)))
        ∧
    (∃ (s : State) (k : Fin 66) (w : Word) (gs : BitVec 4) (ga : BitVec 4) (off : BitVec 18) (o : Nat),
      (AtInstr s k w (.store .stb gs ga off)) ∧ (s.place k true (G s k ga + BitVec.signExtend 32 off).toNat = some (Place.ti o)))
        :=
  ⟨⟨hk (.alu .add 3 1 2 true) (fun c => gr [(1, 0x7FFFFFFF), (2, 5)] { c with status := c.status ||| 3 }), 3,
    HInstr.encode (.alu .add 3 1 2 true), 3, 1, 2, true, by decide +kernel⟩,
   ⟨hk (.alu .adc 3 1 2 true) (fun c => gr [(1, 0x7FFFFFFF), (2, 5)] { c with status := c.status ||| 3 }), 3,
     HInstr.encode (.alu .adc 3 1 2 true), 3, 1, 2, true, by decide +kernel⟩,
   ⟨hk (.alu .sub 3 1 2 true) (fun c => gr [(1, 0x7FFFFFFF), (2, 5)] { c with status := c.status ||| 3 }), 3,
     HInstr.encode (.alu .sub 3 1 2 true), 3, 1, 2, true, by decide +kernel⟩,
   ⟨hk (.alu .sbc 3 1 2 true) (fun c => gr [(1, 0x7FFFFFFF), (2, 5)] { c with status := c.status ||| 3 }), 3,
     HInstr.encode (.alu .sbc 3 1 2 true), 3, 1, 2, true, by decide +kernel⟩,
   ⟨hk (.alu .and 3 1 2 true) (fun c => gr [(1, 0x7FFFFFFF), (2, 5)] { c with status := c.status ||| 3 }), 3,
     HInstr.encode (.alu .and 3 1 2 true), 3, 1, 2, true, by decide +kernel⟩,
   ⟨hk (.alu .or 3 1 2 true) (fun c => gr [(1, 0x7FFFFFFF), (2, 5)] { c with status := c.status ||| 3 }), 3,
     HInstr.encode (.alu .or 3 1 2 true), 3, 1, 2, true, by decide +kernel⟩,
   ⟨hk (.alu .xor 3 1 2 true) (fun c => gr [(1, 0x7FFFFFFF), (2, 5)] { c with status := c.status ||| 3 }), 3,
     HInstr.encode (.alu .xor 3 1 2 true), 3, 1, 2, true, by decide +kernel⟩,
   ⟨hk (.alu .andn 3 1 2 true) (fun c => gr [(1, 0x7FFFFFFF), (2, 5)] { c with status := c.status ||| 3 }), 3,
     HInstr.encode (.alu .andn 3 1 2 true), 3, 1, 2, true, by decide +kernel⟩,
   ⟨hk (.alu .shl 3 1 2 true) (fun c => gr [(1, 0x80000001), (2, 0)] { c with status := c.status ||| 3 }), 3,
     HInstr.encode (.alu .shl 3 1 2 true), 3, 1, 2, true, by decide +kernel⟩,
   ⟨hk (.alu .shr 3 1 2 true) (fun c => gr [(1, 0x80000001), (2, 0)] { c with status := c.status ||| 3 }), 3,
     HInstr.encode (.alu .shr 3 1 2 true), 3, 1, 2, true, by decide +kernel⟩,
   ⟨hk (.alu .sar 3 1 2 true) (fun c => gr [(1, 0x80000001), (2, 0)] { c with status := c.status ||| 3 }), 3,
     HInstr.encode (.alu .sar 3 1 2 true), 3, 1, 2, true, by decide +kernel⟩,
   ⟨hk (.alu .ror 3 1 2 true) (fun c => gr [(1, 0x80000001), (2, 0)] { c with status := c.status ||| 3 }), 3,
     HInstr.encode (.alu .ror 3 1 2 true), 3, 1, 2, true, by decide +kernel⟩,
   ⟨hk (.alu .min 3 1 2 true) (fun c => gr [(1, 0x80000000), (2, 1)] { c with status := c.status ||| 3 }), 3,
     HInstr.encode (.alu .min 3 1 2 true), 3, 1, 2, true, by decide +kernel⟩,
   ⟨hk (.alu .max 3 1 2 true) (fun c => gr [(1, 0x80000000), (2, 1)] { c with status := c.status ||| 3 }), 3,
     HInstr.encode (.alu .max 3 1 2 true), 3, 1, 2, true, by decide +kernel⟩,
   ⟨hk (.alu .minu 3 1 2 true) (fun c => gr [(1, 0x80000000), (2, 1)] { c with status := c.status ||| 3 }), 3,
     HInstr.encode (.alu .minu 3 1 2 true), 3, 1, 2, true, by decide +kernel⟩,
   ⟨hk (.alu .maxu 3 1 2 true) (fun c => gr [(1, 0x80000000), (2, 1)] { c with status := c.status ||| 3 }), 3,
     HInstr.encode (.alu .maxu 3 1 2 true), 3, 1, 2, true, by decide +kernel⟩,
   ⟨hk (.alu1 .clz 3 1 true) (gr [(1, 0)]), 3, HInstr.encode (.alu1 .clz 3 1 true), 3, 1, true, by decide +kernel⟩,
   ⟨hk (.alu1 .sextb 3 1 true) (gr [(1, 0x80)]), 3, HInstr.encode (.alu1 .sextb 3 1 true), 3, 1, true, by decide +kernel⟩,
   ⟨hk (.alu1 .sexth 3 1 true) (gr [(1, 0x80)]), 3, HInstr.encode (.alu1 .sexth 3 1 true), 3, 1, true, by decide +kernel⟩,
   ⟨hk (.alu .slt 3 1 2 true) (fun c => gr [(1, 0x80000000), (2, 1)] { c with status := c.status ||| 3 }), 3,
     HInstr.encode (.alu .slt 3 1 2 true), 3, 1, 2, true, by decide +kernel⟩,
   ⟨hk (.alu .sltu 3 1 2 true) (fun c => gr [(1, 0x80000000), (2, 1)] { c with status := c.status ||| 3 }), 3,
     HInstr.encode (.alu .sltu 3 1 2 true), 3, 1, 2, true, by decide +kernel⟩,
   ⟨hk (.shift .shli 3 1 true 0) (gr [(1, 0xC0000003)]), 3, HInstr.encode (.shift .shli 3 1 true 0), 3, 1, true, 0,
     by decide +kernel⟩,
   ⟨hk (.shift .shri 3 1 true 0) (gr [(1, 0xC0000003)]), 3, HInstr.encode (.shift .shri 3 1 true 0), 3, 1, true, 0,
     by decide +kernel⟩,
   ⟨hk (.shift .sari 3 1 true 0) (gr [(1, 0xC0000003)]), 3, HInstr.encode (.shift .sari 3 1 true 0), 3, 1, true, 0,
     by decide +kernel⟩,
   ⟨hk (.shift .rori 3 1 true 0) (gr [(1, 0xC0000003)]), 3, HInstr.encode (.shift .rori 3 1 true 0), 3, 1, true, 0,
     by decide +kernel⟩,
   ⟨hk (.mul .mul 3 1 2 true) (fun c => gr [(1, 0xFFFFFFFF), (2, 0xFFFFFFFE)] { c with status := c.status ||| 3 }), 3,
     HInstr.encode (.mul .mul 3 1 2 true), 3, 1, 2, true, by decide +kernel⟩,
   ⟨hk (.mul .mulh 3 1 2 true) (fun c => gr [(1, 0xFFFFFFFF), (2, 0xFFFFFFFE)] { c with status := c.status ||| 3 }), 3,
     HInstr.encode (.mul .mulh 3 1 2 true), 3, 1, 2, true, by decide +kernel⟩,
   ⟨hk (.mul .mulhu 3 1 2 true) (fun c => gr [(1, 0xFFFFFFFF), (2, 0xFFFFFFFE)] { c with status := c.status ||| 3 }), 3,
     HInstr.encode (.mul .mulhu 3 1 2 true), 3, 1, 2, true, by decide +kernel⟩,
   ⟨hk (.mul .div 3 1 2 true) (fun c => gr [(1, 0xFFFFFFFF), (2, 0xFFFFFFFE)] { c with status := c.status ||| 3 }), 3,
     HInstr.encode (.mul .div 3 1 2 true), 3, 1, 2, true, by decide +kernel⟩,
   ⟨hk (.mul .divu 3 1 2 true) (fun c => gr [(1, 0xFFFFFFFF), (2, 0xFFFFFFFE)] { c with status := c.status ||| 3 }), 3,
     HInstr.encode (.mul .divu 3 1 2 true), 3, 1, 2, true, by decide +kernel⟩,
   ⟨hk (.mul .rem 3 1 2 true) (fun c => gr [(1, 0xFFFFFFFF), (2, 0xFFFFFFFE)] { c with status := c.status ||| 3 }), 3,
     HInstr.encode (.mul .rem 3 1 2 true), 3, 1, 2, true, by decide +kernel⟩,
   ⟨hk (.mul .remu 3 1 2 true) (fun c => gr [(1, 0xFFFFFFFF), (2, 0xFFFFFFFE)] { c with status := c.status ||| 3 }), 3,
     HInstr.encode (.mul .remu 3 1 2 true), 3, 1, 2, true, by decide +kernel⟩,
   ⟨hk (.mul .div 3 1 2 true) (fun c => gr [(1, 7)] { c with vbase := 0x18400, status := c.status ||| 7 }), 3,
     HInstr.encode (.mul .div 3 1 2 true), 3, 1, 2, true, by decide +kernel⟩,
   ⟨hk (.mul .divu 3 1 2 true) (fun c => gr [(1, 7)] { c with vbase := 0x18400, status := c.status ||| 7 }), 3,
     HInstr.encode (.mul .divu 3 1 2 true), 3, 1, 2, true, by decide +kernel⟩,
   ⟨hk (.mul .rem 3 1 2 true) (fun c => gr [(1, 7)] { c with vbase := 0x18400, status := c.status ||| 7 }), 3,
     HInstr.encode (.mul .rem 3 1 2 true), 3, 1, 2, true, by decide +kernel⟩,
   ⟨hk (.mul .remu 3 1 2 true) (fun c => gr [(1, 7)] { c with vbase := 0x18400, status := c.status ||| 7 }), 3,
     HInstr.encode (.mul .remu 3 1 2 true), 3, 1, 2, true, by decide +kernel⟩,
   ⟨hk (.load .ldw 3 1 (4)) (fun c => gr [(1, 0x10000000), (2, 0x818283F4)] (id c)), 3, HInstr.encode (.load .ldw 3 1 (4)), 3, 1,
     4, 0x13004, by decide +kernel⟩,
   ⟨hk (.load .ldw 3 1 (0x38)) (fun c => gr [(1, 0x10001000), (2, 0x818283F4)] (id c)), 3, HInstr.encode (.load .ldw 3 1 (0x38)),
     3, 1, 0x38, 0x38, by decide +kernel⟩,
   ⟨hk (.load .ldh 3 1 (4)) (fun c => gr [(1, 0x10000000), (2, 0x818283F4)] (id c)), 3, HInstr.encode (.load .ldh 3 1 (4)), 3, 1,
     4, 0x13004, by decide +kernel⟩,
   ⟨hk (.load .ldh 3 1 (0x38)) (fun c => gr [(1, 0x10001000), (2, 0x818283F4)] (id c)), 3, HInstr.encode (.load .ldh 3 1 (0x38)),
     3, 1, 0x38, 0x38, by decide +kernel⟩,
   ⟨hk (.load .ldhu 3 1 (4)) (fun c => gr [(1, 0x10000000), (2, 0x818283F4)] (id c)), 3, HInstr.encode (.load .ldhu 3 1 (4)), 3,
     1, 4, 0x13004, by decide +kernel⟩,
   ⟨hk (.load .ldhu 3 1 (0x38)) (fun c => gr [(1, 0x10001000), (2, 0x818283F4)] (id c)), 3,
     HInstr.encode (.load .ldhu 3 1 (0x38)), 3, 1, 0x38, 0x38, by decide +kernel⟩,
   ⟨hk (.load .ldb 3 1 (4)) (fun c => gr [(1, 0x10000000), (2, 0x818283F4)] (id c)), 3, HInstr.encode (.load .ldb 3 1 (4)), 3, 1,
     4, 0x13004, by decide +kernel⟩,
   ⟨hk (.load .ldb 3 1 (0x38)) (fun c => gr [(1, 0x10001000), (2, 0x818283F4)] (id c)), 3, HInstr.encode (.load .ldb 3 1 (0x38)),
     3, 1, 0x38, 0x38, by decide +kernel⟩,
   ⟨hk (.load .ldbu 3 1 (4)) (fun c => gr [(1, 0x10000000), (2, 0x818283F4)] (id c)), 3, HInstr.encode (.load .ldbu 3 1 (4)), 3,
     1, 4, 0x13004, by decide +kernel⟩,
   ⟨hk (.load .ldbu 3 1 (0x38)) (fun c => gr [(1, 0x10001000), (2, 0x818283F4)] (id c)), 3,
     HInstr.encode (.load .ldbu 3 1 (0x38)), 3, 1, 0x38, 0x38, by decide +kernel⟩,
   ⟨hk (.store .stw 2 1 (-4)) (fun c => gr [(1, 0x18204), (2, 0x818283F4)] (id c)), 3, HInstr.encode (.store .stw 2 1 (-4)), 2, 1,
     -4, tileSram 3 + 0x18200, by decide +kernel⟩,
   ⟨hk (.store .stw 2 1 (-4)) (fun c => gr [(1, 0x18204), (2, 0x818283F4)] ((fun (c : Core) =>
     { c with stores := [(0x20000010, [1, 7]), (0x20000011, [2]), (0x20000012, [3]), (0x20000013, [4])] }) c)), 3,
     HInstr.encode (.store .stw 2 1 (-4)), 2, 1, -4, tileSram 3 + 0x18200, (0x20000010, [1, 7]), [(0x20000011, [2]), (0x20000012,
     [3]), (0x20000013, [4])], by decide +kernel⟩,
   ⟨withLock7 <| hk (.store .stw 2 1 (4)) (fun c => gr [(1, 0x20000000), (2, 0x818283F4)] ((fun (c : Core) =>
     { c with stores := [(0x20000004, [1, 7]), (0x20000011, [2]), (0x20000012, [3]), (0x20000013, [4])] }) c)), 3,
     HInstr.encode (.store .stw 2 1 (4)), 2, 1, 4, 0x20000004, (0x20000004, [1, 7]), [(0x20000011, [2]), (0x20000012, [3]),
     (0x20000013, [4])], 7, { lockPc := 0, count := 3, stores := [], reserved := [0x20000004], broken := false },
     by decide +kernel⟩,
   ⟨hk (.store .stw 2 1 (4)) (fun c => gr [(1, 0x10000000), (2, 0x818283F4)] (id c)), 3, HInstr.encode (.store .stw 2 1 (4)), 2,
     1, 4, 0x13004, by decide +kernel⟩,
   ⟨hk (.store .stw 2 1 (4)) (fun c => gr [(1, 0x10001000), (2, 0x818283F4)] (id c)), 3, HInstr.encode (.store .stw 2 1 (4)), 2,
     1, 4, 4, by decide +kernel⟩,
   ⟨hk (.store .sth 2 1 (-4)) (fun c => gr [(1, 0x18204), (2, 0x818283F4)] (id c)), 3, HInstr.encode (.store .sth 2 1 (-4)), 2, 1,
     -4, tileSram 3 + 0x18200, by decide +kernel⟩,
   ⟨hk (.store .sth 2 1 (-4)) (fun c => gr [(1, 0x18204), (2, 0x818283F4)] ((fun (c : Core) =>
     { c with stores := [(0x20000010, [1, 7]), (0x20000011, [2]), (0x20000012, [3]), (0x20000013, [4])] }) c)), 3,
     HInstr.encode (.store .sth 2 1 (-4)), 2, 1, -4, tileSram 3 + 0x18200, (0x20000010, [1, 7]), [(0x20000011, [2]), (0x20000012,
     [3]), (0x20000013, [4])], by decide +kernel⟩,
   ⟨withLock7 <| hk (.store .sth 2 1 (4)) (fun c => gr [(1, 0x20000000), (2, 0x818283F4)] ((fun (c : Core) =>
     { c with stores := [(0x20000004, [1, 7]), (0x20000011, [2]), (0x20000012, [3]), (0x20000013, [4])] }) c)), 3,
     HInstr.encode (.store .sth 2 1 (4)), 2, 1, 4, 0x20000004, (0x20000004, [1, 7]), [(0x20000011, [2]), (0x20000012, [3]),
     (0x20000013, [4])], 7, { lockPc := 0, count := 3, stores := [], reserved := [0x20000004], broken := false },
     by decide +kernel⟩,
   ⟨hk (.store .sth 2 1 (4)) (fun c => gr [(1, 0x10000000), (2, 0x818283F4)] (id c)), 3, HInstr.encode (.store .sth 2 1 (4)), 2,
     1, 4, 0x13004, by decide +kernel⟩,
   ⟨hk (.store .sth 2 1 (4)) (fun c => gr [(1, 0x10001000), (2, 0x818283F4)] (id c)), 3, HInstr.encode (.store .sth 2 1 (4)), 2,
     1, 4, 4, by decide +kernel⟩,
   ⟨hk (.store .stb 2 1 (-4)) (fun c => gr [(1, 0x18204), (2, 0x818283F4)] (id c)), 3, HInstr.encode (.store .stb 2 1 (-4)), 2, 1,
     -4, tileSram 3 + 0x18200, by decide +kernel⟩,
   ⟨hk (.store .stb 2 1 (-4)) (fun c => gr [(1, 0x18204), (2, 0x818283F4)] ((fun (c : Core) =>
     { c with stores := [(0x20000010, [1, 7]), (0x20000011, [2]), (0x20000012, [3]), (0x20000013, [4])] }) c)), 3,
     HInstr.encode (.store .stb 2 1 (-4)), 2, 1, -4, tileSram 3 + 0x18200, (0x20000010, [1, 7]), [(0x20000011, [2]), (0x20000012,
     [3]), (0x20000013, [4])], by decide +kernel⟩,
   ⟨withLock7 <| hk (.store .stb 2 1 (4)) (fun c => gr [(1, 0x20000000), (2, 0x818283F4)] ((fun (c : Core) =>
     { c with stores := [(0x20000004, [1, 7]), (0x20000011, [2]), (0x20000012, [3]), (0x20000013, [4])] }) c)), 3,
     HInstr.encode (.store .stb 2 1 (4)), 2, 1, 4, 0x20000004, (0x20000004, [1, 7]), [(0x20000011, [2]), (0x20000012, [3]),
     (0x20000013, [4])], 7, { lockPc := 0, count := 3, stores := [], reserved := [0x20000004], broken := false },
     by decide +kernel⟩,
   ⟨hk (.store .stb 2 1 (4)) (fun c => gr [(1, 0x10000000), (2, 0x818283F4)] (id c)), 3, HInstr.encode (.store .stb 2 1 (4)), 2,
     1, 4, 0x13004, by decide +kernel⟩,
   ⟨hk (.store .stb 2 1 (4)) (fun c => gr [(1, 0x10001000), (2, 0x818283F4)] (id c)), 3, HInstr.encode (.store .stb 2 1 (4)), 2,
     1, 4, 4, by decide +kernel⟩⟩

/-- The hypotheses of ConditionsReadTheFlagsBefore can be met, clause by clause. -/
theorem witness_ConditionsReadTheFlagsBefore :
    (∃ (s : State) (k : Fin 66) (w : Word) (cond : BitVec 4) (n : Bool) (z : Bool) (c : Bool) (v : Bool) (gd : BitVec 4) (ga :
      BitVec 4) (gb : BitVec 4) (f : Bool) (yes : Bool),
      (AtInstr s k w (.sel gd ga gb f cond)) ∧ (flagsNow (s.core k) = (⟨n, z, c, v⟩ : Nzcv)) ∧
        ((cond, yes) ∈ ([(0, true), (1, z), (2, !z), (3, c), (4, !c), (5, c && !z), (6, !c || z), (7, n), (8, !n), (9, v), (10,
        !v), (11, n == v), (12, n != v), (13, !z && n == v), (14, z || n != v)] : List (BitVec 4 × Bool)))) ∧
    (∃ (s : State) (k : Fin 66) (w : Word) (cond : BitVec 4) (n : Bool) (z : Bool) (c : Bool) (v : Bool) (off : BitVec 22) (yes :
      Bool),
      (AtInstr s k w (.b cond off)) ∧ (flagsNow (s.core k) = (⟨n, z, c, v⟩ : Nzcv)) ∧
        ((cond, yes) ∈ ([(0, true), (1, z), (2, !z), (3, c), (4, !c), (5, c && !z), (6, !c || z), (7, n), (8, !n), (9, v), (10,
        !v), (11, n == v), (12, n != v), (13, !z && n == v), (14, z || n != v)] : List (BitVec 4 × Bool)))) ∧
    (∃ (w : Word),
      (w.toNat / 2 ^ 26 = 0x20 ∧ w.toNat / 2 ^ 22 % 16 = 15 ∨ w.toNat / 2 ^ 26 = 1 ∧ w.toNat % 64 = 0x13 ∧
        w.toNat / 2 ^ 6 % 16 = 15)) :=
  ⟨⟨hk (.sel 3 1 2 true 0) (fun c => gr [(1, 7), (2, 0x80000000)] { c with status := 0x40000000 }), 3,
    HInstr.encode (.sel 3 1 2 true 0), 0, false, false, false, false, 3, 1, 2, true, true, by decide +kernel⟩,
   ⟨hk (.b 0 (-2)) (sta 0x40000000), 3, HInstr.encode (.b 0 (-2)), 0, false, false, false, false, -2, true, by decide +kernel⟩,
   ⟨0x83C00001, by decide +kernel⟩⟩

/-- The hypotheses of ImmediatesAndOffsetsExtend can be met, clause by clause. -/
theorem witness_ImmediatesAndOffsetsExtend :
    (∃ (s : State) (k : Fin 66) (w : Word) (gd : BitVec 4) (ga : BitVec 4) (f : Bool) (v : BitVec 16),
      (AtInstr s k w (.imm .addi gd ga f v))) ∧
    (∃ (s : State) (k : Fin 66) (w : Word) (gd : BitVec 4) (ga : BitVec 4) (f : Bool) (v : BitVec 16),
      (AtInstr s k w (.imm .andi gd ga f v))) ∧
    (∃ (s : State) (k : Fin 66) (w : Word) (gd : BitVec 4) (ga : BitVec 4) (f : Bool) (v : BitVec 16),
      (AtInstr s k w (.imm .ori gd ga f v))) ∧
    (∃ (s : State) (k : Fin 66) (w : Word) (gd : BitVec 4) (ga : BitVec 4) (f : Bool) (v : BitVec 16),
      (AtInstr s k w (.imm .xori gd ga f v))) ∧
    (∃ (s : State) (k : Fin 66) (w : Word) (gd : BitVec 4) (v : BitVec 16),
      (AtInstr s k w (.lui gd v))) ∧
    (∃ (s : State) (k : Fin 66) (w : Word) (ga : BitVec 4) (v : BitVec 16),
      (AtInstr s k w (.cmpi ga v))) ∧
    (∃ (s : State) (k : Fin 66) (w : Word) (gd : BitVec 4) (ga : BitVec 4) (off : BitVec 18) (p : Place) (a : Nat) (m : Nat),
      (AtInstr s k w (.load .ldw gd ga off)) ∧ ((G s k ga + BitVec.signExtend 32 off).toNat % 4 = 0) ∧ (k.val < 64) ∧
        (s.place k false (G s k ga + BitVec.signExtend 32 off).toNat = some p) ∧ (p = Place.ram a ∨ p = Place.rom a) ∧
        (m = if p = Place.rom a then natLE (s.memBytes a 4) else State.bufferedLoad (s.core k) a 4 (natLE (s.memBytes a 4)))) ∧
    (∃ (s : State) (k : Fin 66) (w : Word) (gd : BitVec 4) (ga : BitVec 4) (off : BitVec 18),
      (AtInstr s k w (.load .ldw gd ga off)) ∧ ((G s k ga + BitVec.signExtend 32 off).toNat % 4 ≠ 0) ∧
        ((s.core k).status.getLsbD 28 = false)) ∧
    (∃ (s : State) (k : Fin 66) (w : Word) (gd : BitVec 4) (ga : BitVec 4) (off : BitVec 18),
      (AtInstr s k w (.load .ldw gd ga off)) ∧ ((G s k ga + BitVec.signExtend 32 off).toNat % 4 = 0) ∧
        (s.place k false (G s k ga + BitVec.signExtend 32 off).toNat = none) ∧ ((s.core k).status.getLsbD 28 = false)) ∧
    (∃ (s : State) (k : Fin 66) (w : Word) (gd : BitVec 4) (ga : BitVec 4) (off : BitVec 18) (p : Place) (a : Nat) (m : Nat),
      (AtInstr s k w (.load .ldh gd ga off)) ∧ ((G s k ga + BitVec.signExtend 32 off).toNat % 2 = 0) ∧ (k.val < 64) ∧
        (s.place k false (G s k ga + BitVec.signExtend 32 off).toNat = some p) ∧ (p = Place.ram a ∨ p = Place.rom a) ∧
        (m = if p = Place.rom a then natLE (s.memBytes a 2) else State.bufferedLoad (s.core k) a 2 (natLE (s.memBytes a 2)))) ∧
    (∃ (s : State) (k : Fin 66) (w : Word) (gd : BitVec 4) (ga : BitVec 4) (off : BitVec 18),
      (AtInstr s k w (.load .ldh gd ga off)) ∧ ((G s k ga + BitVec.signExtend 32 off).toNat % 2 ≠ 0) ∧
        ((s.core k).status.getLsbD 28 = false)) ∧
    (∃ (s : State) (k : Fin 66) (w : Word) (gd : BitVec 4) (ga : BitVec 4) (off : BitVec 18),
      (AtInstr s k w (.load .ldh gd ga off)) ∧ ((G s k ga + BitVec.signExtend 32 off).toNat % 2 = 0) ∧
        (s.place k false (G s k ga + BitVec.signExtend 32 off).toNat = none) ∧ ((s.core k).status.getLsbD 28 = false)) ∧
    (∃ (s : State) (k : Fin 66) (w : Word) (gd : BitVec 4) (ga : BitVec 4) (off : BitVec 18) (p : Place) (a : Nat) (m : Nat),
      (AtInstr s k w (.load .ldhu gd ga off)) ∧ ((G s k ga + BitVec.signExtend 32 off).toNat % 2 = 0) ∧ (k.val < 64) ∧
        (s.place k false (G s k ga + BitVec.signExtend 32 off).toNat = some p) ∧ (p = Place.ram a ∨ p = Place.rom a) ∧
        (m = if p = Place.rom a then natLE (s.memBytes a 2) else State.bufferedLoad (s.core k) a 2 (natLE (s.memBytes a 2)))) ∧
    (∃ (s : State) (k : Fin 66) (w : Word) (gd : BitVec 4) (ga : BitVec 4) (off : BitVec 18),
      (AtInstr s k w (.load .ldhu gd ga off)) ∧ ((G s k ga + BitVec.signExtend 32 off).toNat % 2 ≠ 0) ∧
        ((s.core k).status.getLsbD 28 = false)) ∧
    (∃ (s : State) (k : Fin 66) (w : Word) (gd : BitVec 4) (ga : BitVec 4) (off : BitVec 18),
      (AtInstr s k w (.load .ldhu gd ga off)) ∧ ((G s k ga + BitVec.signExtend 32 off).toNat % 2 = 0) ∧
        (s.place k false (G s k ga + BitVec.signExtend 32 off).toNat = none) ∧ ((s.core k).status.getLsbD 28 = false)) ∧
    (∃ (s : State) (k : Fin 66) (w : Word) (gd : BitVec 4) (ga : BitVec 4) (off : BitVec 18) (p : Place) (a : Nat) (m : Nat),
      (AtInstr s k w (.load .ldb gd ga off)) ∧ (k.val < 64) ∧ (s.place k false (G s k ga + BitVec.signExtend 32 off).toNat = some
        p) ∧ (p = Place.ram a ∨ p = Place.rom a) ∧ (m = if p = Place.rom a then natLE (s.memBytes a 1) else State.bufferedLoad
        (s.core k) a 1 (natLE (s.memBytes a 1)))) ∧
    (∃ (s : State) (k : Fin 66) (w : Word) (gd : BitVec 4) (ga : BitVec 4) (off : BitVec 18),
      (AtInstr s k w (.load .ldb gd ga off)) ∧ (s.place k false (G s k ga + BitVec.signExtend 32 off).toNat = none) ∧
        ((s.core k).status.getLsbD 28 = false)) ∧
    (∃ (s : State) (k : Fin 66) (w : Word) (gd : BitVec 4) (ga : BitVec 4) (off : BitVec 18) (p : Place) (a : Nat) (m : Nat),
      (AtInstr s k w (.load .ldbu gd ga off)) ∧ (k.val < 64) ∧ (s.place k false (G s k ga + BitVec.signExtend 32 off).toNat = some
        p) ∧ (p = Place.ram a ∨ p = Place.rom a) ∧ (m = if p = Place.rom a then natLE (s.memBytes a 1) else State.bufferedLoad
        (s.core k) a 1 (natLE (s.memBytes a 1)))) ∧
    (∃ (s : State) (k : Fin 66) (w : Word) (gd : BitVec 4) (ga : BitVec 4) (off : BitVec 18),
      (AtInstr s k w (.load .ldbu gd ga off)) ∧ (s.place k false (G s k ga + BitVec.signExtend 32 off).toNat = none) ∧
        ((s.core k).status.getLsbD 28 = false)) ∧
    (∃ (s : State) (k : Fin 66) (w : Word) (gs : BitVec 4) (ga : BitVec 4) (off : BitVec 18) (a : Nat),
      (AtInstr s k w (.store .stw gs ga off)) ∧ ((G s k ga + BitVec.signExtend 32 off).toNat % 4 = 0) ∧
        (s.place k true (G s k ga + BitVec.signExtend 32 off).toNat = some (Place.ram a))) ∧
    (∃ (s : State) (k : Fin 66) (w : Word) (gs : BitVec 4) (ga : BitVec 4) (off : BitVec 18),
      (AtInstr s k w (.store .stw gs ga off)) ∧ ((G s k ga + BitVec.signExtend 32 off).toNat % 4 ≠ 0) ∧
        ((s.core k).status.getLsbD 28 = false)) ∧
    (∃ (s : State) (k : Fin 66) (w : Word) (gs : BitVec 4) (ga : BitVec 4) (off : BitVec 18),
      (AtInstr s k w (.store .stw gs ga off)) ∧ ((G s k ga + BitVec.signExtend 32 off).toNat % 4 = 0) ∧
        (s.place k true (G s k ga + BitVec.signExtend 32 off).toNat = none) ∧ ((s.core k).status.getLsbD 28 = false)) ∧
    (∃ (s : State) (k : Fin 66) (w : Word) (gs : BitVec 4) (ga : BitVec 4) (off : BitVec 18) (a : Nat),
      (AtInstr s k w (.store .sth gs ga off)) ∧ ((G s k ga + BitVec.signExtend 32 off).toNat % 2 = 0) ∧
        (s.place k true (G s k ga + BitVec.signExtend 32 off).toNat = some (Place.ram a))) ∧
    (∃ (s : State) (k : Fin 66) (w : Word) (gs : BitVec 4) (ga : BitVec 4) (off : BitVec 18),
      (AtInstr s k w (.store .sth gs ga off)) ∧ ((G s k ga + BitVec.signExtend 32 off).toNat % 2 ≠ 0) ∧
        ((s.core k).status.getLsbD 28 = false)) ∧
    (∃ (s : State) (k : Fin 66) (w : Word) (gs : BitVec 4) (ga : BitVec 4) (off : BitVec 18),
      (AtInstr s k w (.store .sth gs ga off)) ∧ ((G s k ga + BitVec.signExtend 32 off).toNat % 2 = 0) ∧
        (s.place k true (G s k ga + BitVec.signExtend 32 off).toNat = none) ∧ ((s.core k).status.getLsbD 28 = false)) ∧
    (∃ (s : State) (k : Fin 66) (w : Word) (gs : BitVec 4) (ga : BitVec 4) (off : BitVec 18) (a : Nat),
      (AtInstr s k w (.store .stb gs ga off)) ∧ (s.place k true (G s k ga + BitVec.signExtend 32 off).toNat = some (Place.ram a)))
        ∧
    (∃ (s : State) (k : Fin 66) (w : Word) (gs : BitVec 4) (ga : BitVec 4) (off : BitVec 18),
      (AtInstr s k w (.store .stb gs ga off)) ∧ (s.place k true (G s k ga + BitVec.signExtend 32 off).toNat = none) ∧
        ((s.core k).status.getLsbD 28 = false)) ∧
    (∃ (s : State) (k : Fin 66) (w : Word) (off : BitVec 26),
      (AtInstr s k w (.j off))) ∧
    (∃ (s : State) (k : Fin 66) (w : Word) (off : BitVec 26),
      (AtInstr s k w (.jal off))) ∧
    (∃ (s : State) (k : Fin 66) (w : Word) (off : BitVec 22),
      (AtInstr s k w (.b 0 off))) :=
  ⟨⟨hk (.imm .addi 3 1 true 0x8000) (gr [(1, 5)]), 3, HInstr.encode (.imm .addi 3 1 true 0x8000), 3, 1, true, 0x8000,
    by decide +kernel⟩,
   ⟨hk (.imm .andi 3 1 true 0x8000) (gr [(1, 5)]), 3, HInstr.encode (.imm .andi 3 1 true 0x8000), 3, 1, true, 0x8000,
     by decide +kernel⟩,
   ⟨hk (.imm .ori 3 1 true 0x8000) (gr [(1, 5)]), 3, HInstr.encode (.imm .ori 3 1 true 0x8000), 3, 1, true, 0x8000,
     by decide +kernel⟩,
   ⟨hk (.imm .xori 3 1 true 0x8000) (gr [(1, 5)]), 3, HInstr.encode (.imm .xori 3 1 true 0x8000), 3, 1, true, 0x8000,
     by decide +kernel⟩,
   ⟨hk (.lui 3 0x8001) id, 3, HInstr.encode (.lui 3 0x8001), 3, 0x8001, by decide +kernel⟩,
   ⟨hk (.cmpi 1 0x8000) (gr [(1, 0x7FFFFFFF)]), 3, HInstr.encode (.cmpi 1 0x8000), 1, 0x8000, by decide +kernel⟩,
   ⟨hk (.load .ldw 3 1 (-4)) (fun c => gr [(1, 0x18104), (2, 0x818283F4)] (id c)), 3, HInstr.encode (.load .ldw 3 1 (-4)), 3, 1,
     -4, .ram (tileSram 3 + 0x18100), tileSram 3 + 0x18100, 0x40C7FFFC, by decide +kernel⟩,
   ⟨hk (.load .ldw 3 1 (-5)) (fun c => gr [(1, 0x18104), (2, 0x818283F4)] (id c)), 3, HInstr.encode (.load .ldw 3 1 (-5)), 3, 1,
     -5, by decide +kernel⟩,
   ⟨hk (.load .ldw 3 1 (0)) (fun c => gr [(1, 0x30000000), (2, 0x818283F4)] (id c)), 3, HInstr.encode (.load .ldw 3 1 (0)), 3, 1,
     0, by decide +kernel⟩,
   ⟨hk (.load .ldh 3 1 (-4)) (fun c => gr [(1, 0x18104), (2, 0x818283F4)] (id c)), 3, HInstr.encode (.load .ldh 3 1 (-4)), 3, 1,
     -4, .ram (tileSram 3 + 0x18100), tileSram 3 + 0x18100, 0xFFFC, by decide +kernel⟩,
   ⟨hk (.load .ldh 3 1 (-5)) (fun c => gr [(1, 0x18104), (2, 0x818283F4)] (id c)), 3, HInstr.encode (.load .ldh 3 1 (-5)), 3, 1,
     -5, by decide +kernel⟩,
   ⟨hk (.load .ldh 3 1 (0)) (fun c => gr [(1, 0x30000000), (2, 0x818283F4)] (id c)), 3, HInstr.encode (.load .ldh 3 1 (0)), 3, 1,
     0, by decide +kernel⟩,
   ⟨hk (.load .ldhu 3 1 (-4)) (fun c => gr [(1, 0x18104), (2, 0x818283F4)] (id c)), 3, HInstr.encode (.load .ldhu 3 1 (-4)), 3, 1,
     -4, .ram (tileSram 3 + 0x18100), tileSram 3 + 0x18100, 0xFFFC, by decide +kernel⟩,
   ⟨hk (.load .ldhu 3 1 (-5)) (fun c => gr [(1, 0x18104), (2, 0x818283F4)] (id c)), 3, HInstr.encode (.load .ldhu 3 1 (-5)), 3, 1,
     -5, by decide +kernel⟩,
   ⟨hk (.load .ldhu 3 1 (0)) (fun c => gr [(1, 0x30000000), (2, 0x818283F4)] (id c)), 3, HInstr.encode (.load .ldhu 3 1 (0)), 3,
     1, 0, by decide +kernel⟩,
   ⟨hk (.load .ldb 3 1 (-4)) (fun c => gr [(1, 0x18104), (2, 0x818283F4)] (id c)), 3, HInstr.encode (.load .ldb 3 1 (-4)), 3, 1,
     -4, .ram (tileSram 3 + 0x18100), tileSram 3 + 0x18100, 0xFC, by decide +kernel⟩,
   ⟨hk (.load .ldb 3 1 (0)) (fun c => gr [(1, 0x30000000), (2, 0x818283F4)] (id c)), 3, HInstr.encode (.load .ldb 3 1 (0)), 3, 1,
     0, by decide +kernel⟩,
   ⟨hk (.load .ldbu 3 1 (-4)) (fun c => gr [(1, 0x18104), (2, 0x818283F4)] (id c)), 3, HInstr.encode (.load .ldbu 3 1 (-4)), 3, 1,
     -4, .ram (tileSram 3 + 0x18100), tileSram 3 + 0x18100, 0xFC, by decide +kernel⟩,
   ⟨hk (.load .ldbu 3 1 (0)) (fun c => gr [(1, 0x30000000), (2, 0x818283F4)] (id c)), 3, HInstr.encode (.load .ldbu 3 1 (0)), 3,
     1, 0, by decide +kernel⟩,
   ⟨hk (.store .stw 2 1 (-4)) (fun c => gr [(1, 0x18204), (2, 0x818283F4)] (id c)), 3, HInstr.encode (.store .stw 2 1 (-4)), 2, 1,
     -4, tileSram 3 + 0x18200, by decide +kernel⟩,
   ⟨hk (.store .stw 2 1 (-5)) (fun c => gr [(1, 0x18104), (2, 0x818283F4)] (id c)), 3, HInstr.encode (.store .stw 2 1 (-5)), 2, 1,
     -5, by decide +kernel⟩,
   ⟨hk (.store .stw 2 1 (0)) (fun c => gr [(1, 0x100), (2, 0x818283F4)] (id c)), 3, HInstr.encode (.store .stw 2 1 (0)), 2, 1, 0,
     by decide +kernel⟩,
   ⟨hk (.store .sth 2 1 (-4)) (fun c => gr [(1, 0x18204), (2, 0x818283F4)] (id c)), 3, HInstr.encode (.store .sth 2 1 (-4)), 2, 1,
     -4, tileSram 3 + 0x18200, by decide +kernel⟩,
   ⟨hk (.store .sth 2 1 (-5)) (fun c => gr [(1, 0x18104), (2, 0x818283F4)] (id c)), 3, HInstr.encode (.store .sth 2 1 (-5)), 2, 1,
     -5, by decide +kernel⟩,
   ⟨hk (.store .sth 2 1 (0)) (fun c => gr [(1, 0x100), (2, 0x818283F4)] (id c)), 3, HInstr.encode (.store .sth 2 1 (0)), 2, 1, 0,
     by decide +kernel⟩,
   ⟨hk (.store .stb 2 1 (-4)) (fun c => gr [(1, 0x18204), (2, 0x818283F4)] (id c)), 3, HInstr.encode (.store .stb 2 1 (-4)), 2, 1,
     -4, tileSram 3 + 0x18200, by decide +kernel⟩,
   ⟨hk (.store .stb 2 1 (0)) (fun c => gr [(1, 0x100), (2, 0x818283F4)] (id c)), 3, HInstr.encode (.store .stb 2 1 (0)), 2, 1, 0,
     by decide +kernel⟩,
   ⟨hk (.j (-3)) id, 3, HInstr.encode (.j (-3)), -3, by decide +kernel⟩,
   ⟨hk (.jal (-3)) id, 3, HInstr.encode (.jal (-3)), -3, by decide +kernel⟩,
   ⟨hk (.b 0 (-3)) id, 3, HInstr.encode (.b 0 (-3)), -3, by decide +kernel⟩⟩

/-- The hypotheses of ControlAndSystemInstructionsAct can be met, clause by clause. -/
theorem witness_ControlAndSystemInstructionsAct :
    (∃ (s : State) (k : Fin 66) (w : Word) (ga : BitVec 4),
      (AtInstr s k w (.jr ga))) ∧
    (∃ (s : State) (k : Fin 66) (w : Word) (ga : BitVec 4),
      (AtInstr s k w (.jalr ga))) ∧
    (∃ (s : State) (k : Fin 66) (w : Word) (gd : BitVec 4) (ga : BitVec 4) (gb : BitVec 4) (f : Bool) (from_ : Word) (dst : Word),
      (Fetches s k w (.alu .add gd ga gb f)) ∧ ((s.core k).lock = none) ∧ ((s.core k).delay = some (from_, dst)) ∧
        (atLoopEnd (s.core k) = false) ∧ ((s.core k).deferred = none) ∧ ((s.core k).stepping = false)) ∧
    (∃ (s : State) (k : Fin 66) (w : Word) (off : BitVec 26) (from_ : Word) (dst : Word),
      (Fetches s k w (.j off)) ∧ ((s.core k).lock = none) ∧ ((s.core k).delay = some (from_, dst)) ∧
        ((s.core k).deferred = none) ∧ ((s.core k).stepping = false) ∧ ((s.core k).status.getLsbD 28 = false)) ∧
    (∃ (s : State) (k : Fin 66) (w : Word) (gd : BitVec 4) (ga : BitVec 4) (gb : BitVec 4) (f : Bool),
      (Fetches s k w (.alu .add gd ga gb f)) ∧ ((s.core k).lock = none) ∧ ((s.core k).delay = none) ∧
        (State.loopOn (s.core k) 0 = true) ∧ (State.loopOn (s.core k) 1 = false) ∧ ((s.core k).pc = (s.core k).loops[0].le) ∧
        ((s.core k).deferred = none) ∧ ((s.core k).stepping = false)) ∧
    (∃ (s : State) (k : Fin 66) (w : Word) (count : BitVec 12) (e : BitVec 12) (ga : BitVec 4) (n : Word),
      (AtInstr s k w (.loopImm false count e) ∧ n = count.setWidth 32 ∨ AtInstr s k w (.loopReg false ga e) ∧ n = G s k ga) ∧
        (e ≠ 0) ∧ (State.loopOn (s.core k) 1 = false) ∧ (State.loopOn (s.core k) 0 = false)) ∧
    (∃ (s : State) (k : Fin 66) (w : Word) (count : BitVec 12) (e : BitVec 12) (ga : BitVec 4) (n : Word),
      (AtInstr s k w (.loopImm true count e) ∧ n = count.setWidth 32 ∨ AtInstr s k w (.loopReg true ga e) ∧ n = G s k ga) ∧
        (e ≠ 0) ∧ (State.loopOn (s.core k) 1 = false) ∧ (State.loopOn (s.core k) 0 = false ∨
        ((s.core k).pc + BitVec.ofNat 32 (4 * e.toNat)).toNat ≤ (s.core k).loops[0].le.toNat)) ∧
    (∃ (s : State) (k : Fin 66) (w : Word) (count : BitVec 12) (e : BitVec 12) (level : Bool),
      (AtInstr s k w (.loopImm level count e)) ∧ ((s.core k).status.getLsbD 28 = false) ∧
        (e = 0 ∨ State.loopOn (s.core k) 1 = true ∨ level = false ∧ State.loopOn (s.core k) 0 = true ∨ level = true ∧
        State.loopOn (s.core k) 0 = true ∧ (s.core k).loops[0].le.toNat < ((s.core k).pc + BitVec.ofNat 32 (4 * e.toNat)).toNat))
        ∧
    (∃ (s : State) (k : Fin 66) (w : Word) (gd : BitVec 4) (num : BitVec 5) (v : Word),
      (AtInstr s k w (.mfs gd num)) ∧ (num.toNat < 14) ∧ (privileged k (s.core k) = true ∨ num = 0 ∨ 6 ≤ num.toNat ∧
        num.toNat ≤ 11) ∧ (([(s.core k).status, (s.core k).estatus, (s.core k).epc, (s.core k).ecause, (s.core k).ebadaddr,
        (s.core k).vbase, (s.core k).loops[0].ls, (s.core k).loops[0].le, (s.core k).loops[0].lc, (s.core k).loops[1].ls,
        (s.core k).loops[1].le, (s.core k).loops[1].lc, (s.core k).kscr[0], (s.core k).kscr[1]] : List Word)[num.toNat]? = some
        v)) ∧
    (∃ (s : State) (k : Fin 66) (w : Word) (gd : BitVec 4),
      (AtInstr s k w (.mfs gd 14)) ∧ (k.val < 64)) ∧
    (∃ (s : State) (k : Fin 66) (w : Word) (gd : BitVec 4),
      (AtInstr s k w (.mfs gd 15))) ∧
    (∃ (s : State) (k : Fin 66) (num : BitVec 5),
      ((s.core k).status.getLsbD 28 = false) ∧ (privileged k (s.core k) = false) ∧ (num.toNat < 16) ∧ (num ≠ 0) ∧
        (¬ (6 ≤ num.toNat ∧ num.toNat ≤ 11)) ∧ (num ≠ 14) ∧ (num ≠ 15)) ∧
    (∃ (s : State) (k : Fin 66) (num : BitVec 5),
      ((s.core k).status.getLsbD 28 = false) ∧ (k.val < 64) ∧ (16 ≤ num.toNat)) ∧
    (∃ (s : State) (k : Fin 66) (w : Word) (ga : BitVec 4) (num : BitVec 5),
      (AtInstr s k w (.mts num ga)) ∧ ((s.core k).status.getLsbD 28 = false) ∧ (num = 14 ∨ num = 15)) ∧
    (∃ (s : State) (k : Fin 66) (w : Word) (ga : BitVec 4),
      (AtInstr s k w (.mts 1 ga)) ∧ (privileged k (s.core k) = true)) ∧
    (∃ (s : State) (k : Fin 66) (w : Word) (ga : BitVec 4),
      (AtInstr s k w (.mts 2 ga)) ∧ (privileged k (s.core k) = true)) ∧
    (∃ (s : State) (k : Fin 66) (w : Word) (ga : BitVec 4),
      (AtInstr s k w (.mts 3 ga)) ∧ (privileged k (s.core k) = true)) ∧
    (∃ (s : State) (k : Fin 66) (w : Word) (ga : BitVec 4),
      (AtInstr s k w (.mts 4 ga)) ∧ (privileged k (s.core k) = true)) ∧
    (∃ (s : State) (k : Fin 66) (w : Word) (ga : BitVec 4),
      (AtInstr s k w (.mts 5 ga)) ∧ (privileged k (s.core k) = true)) ∧
    (∃ (s : State) (k : Fin 66) (w : Word) (ga : BitVec 4),
      (AtInstr s k w (.mts 6 ga))) ∧
    (∃ (s : State) (k : Fin 66) (w : Word) (ga : BitVec 4),
      (AtInstr s k w (.mts 9 ga))) ∧
    (∃ (s : State) (k : Fin 66) (w : Word) (ga : BitVec 4),
      (AtInstr s k w (.mts 7 ga))) ∧
    (∃ (s : State) (k : Fin 66) (w : Word) (ga : BitVec 4),
      (AtInstr s k w (.mts 10 ga))) ∧
    (∃ (s : State) (k : Fin 66) (w : Word) (ga : BitVec 4),
      (AtInstr s k w (.mts 8 ga))) ∧
    (∃ (s : State) (k : Fin 66) (w : Word) (ga : BitVec 4),
      (AtInstr s k w (.mts 11 ga))) ∧
    (∃ (s : State) (k : Fin 66) (w : Word) (ga : BitVec 4),
      (AtInstr s k w (.mts 12 ga)) ∧ (privileged k (s.core k) = true)) ∧
    (∃ (s : State) (k : Fin 66) (w : Word) (ga : BitVec 4),
      (AtInstr s k w (.mts 13 ga)) ∧ (privileged k (s.core k) = true)) ∧
    (∃ (s : State) (k : Fin 66) (w : Word) (ga : BitVec 4),
      (AtInstr s k w (.mts 0 ga)) ∧ ((s.core k).status.toNat / 2 ^ 30 = 0)) ∧
    (∃ (s : State) (k : Fin 66) (w : Word) (ga : BitVec 4) (v : Word),
      (AtInstr s k w (.mts 0 ga)) ∧ (v = G s k ga) ∧ ((s.core k).status.toNat / 2 ^ 30 ≠ 0) ∧
        (v.toNat / 2 ^ 30 ≤ (s.core k).status.toNat / 2 ^ 30) ∧ (v.toNat / 2 ^ 30 ≠ 3) ∧ (k.val < 64 → v.toNat / 2 ^ 30 ≠ 2)) ∧
    (∃ (s : State) (k : Fin 66) (w : Word) (ga : BitVec 4) (v : Word),
      (AtInstr s k w (.mts 0 ga)) ∧ (v = G s k ga) ∧ ((s.core k).status.getLsbD 28 = false) ∧
        ((s.core k).status.toNat / 2 ^ 30 ≠ 0) ∧ ((s.core k).status.toNat / 2 ^ 30 < v.toNat / 2 ^ 30 ∨ v.toNat / 2 ^ 30 = 3 ∨
        k.val < 64 ∧ v.toNat / 2 ^ 30 = 2)) ∧
    (∃ (s : State) (k : Fin 66) (w : Word),
      (AtInstr s k w .eret) ∧ (privileged k (s.core k) = true)) ∧
    (∃ (s : State) (k : Fin 66) (w : Word),
      (AtInstr s k w (.eret)) ∧ ((s.core k).status.getLsbD 28 = false) ∧ (privileged k (s.core k) = false)) ∧
    (∃ (s : State) (k : Fin 66) (w : Word) (ga : BitVec 4),
      (AtInstr s k w (.cache .iinvAll ga)) ∧ ((s.core k).status.getLsbD 28 = false) ∧ (privileged k (s.core k) = false)) ∧
    (∃ (s : State) (k : Fin 66) (w : Word) (ga : BitVec 4),
      (AtInstr s k w (.cache .iinvLine ga)) ∧ ((s.core k).status.getLsbD 28 = false) ∧ (privileged k (s.core k) = false)) ∧
    (∃ (s : State) (k : Fin 66) (w : Word) (ga : BitVec 4),
      (AtInstr s k w (.cache .dcleanLine ga)) ∧ ((s.core k).status.getLsbD 28 = false) ∧ (privileged k (s.core k) = false)) ∧
    (∃ (s : State) (k : Fin 66) (w : Word) (ga : BitVec 4),
      (AtInstr s k w (.cache .dinvLine ga)) ∧ ((s.core k).status.getLsbD 28 = false) ∧ (privileged k (s.core k) = false)) ∧
    (∃ (s : State) (k : Fin 66) (w : Word) (ga : BitVec 4),
      (AtInstr s k w (.cache .dcleanAll ga)) ∧ ((s.core k).status.getLsbD 28 = false) ∧ (privileged k (s.core k) = false)) ∧
    (∃ (s : State) (k : Fin 66) (w : Word) (code : BitVec 12),
      (AtInstr s k w (.syscall code)) ∧ ((s.core k).status.getLsbD 28 = false)) ∧
    (∃ (s : State) (k : Fin 66) (w : Word) (code : BitVec 12),
      (AtInstr s k w (.brk code)) ∧ ((s.core k).status.getLsbD 28 = false)) ∧
    (∃ (s : State) (k : Fin 66) (w : Word) (code : BitVec 12),
      (Fetches s k w (.brk code)) ∧ ((s.core k).delay = none) ∧ ((s.core k).lock = none) ∧ (atLoopEnd (s.core k) = false) ∧
        ((s.core k).deferred = none) ∧ ((s.core k).stepping = true) ∧ (k.val < 64)) ∧
    (∃ (s : State) (k : Fin 66) (w : Word),
      (AtInstr s k w .lock) ∧ ((s.core k).stores = [])) ∧
    (∃ (s : State) (k : Fin 66) (w : Word) (gd : BitVec 4) (l : LockSeq),
      (Fetches s k w (.unlock gd)) ∧ ((s.core k).lock = some l) ∧ (l.count ≤ 63) ∧ ((s.core k).delay = none) ∧
        (atLoopEnd (s.core k) = false) ∧ ((s.core k).deferred = none) ∧ ((s.core k).stepping = false) ∧ (l.broken = true)) ∧
    (∃ (s : State) (k : Fin 66) (w : Word) (gd : BitVec 4) (l : LockSeq),
      (Fetches s k w (.unlock gd)) ∧ ((s.core k).lock = some l) ∧ (l.count ≤ 63) ∧ ((s.core k).delay = none) ∧
        (atLoopEnd (s.core k) = false) ∧ ((s.core k).deferred = none) ∧ ((s.core k).stepping = false) ∧ (l.broken = false) ∧
        (k.val < 64)) ∧
    (∃ (s : State) (k : Fin 66),
      ((s.core k).status.getLsbD 28 = false) ∧ ((s.core k).delay = none) ∧ (atLoopEnd (s.core k) = false) ∧
        ((s.core k).deferred = none) ∧ ((s.core k).stepping = false)) ∧
    (∃ (s : State) (k : Fin 66) (w : Word) (e : Nat × List Byte),
      (AtInstr s k w .lock) ∧ ((s.core k).stores = [e]) ∧ (k.val < 64)) ∧
    (∃ (s : State) (k : Fin 66) (w : Word) (e : Nat × List Byte),
      (AtInstr s k w .sync) ∧ ((s.core k).stores = [e]) ∧ (k.val < 64)) ∧
    (∃ (s : State) (k : Fin 66) (w : Word),
      (AtInstr s k w .sync) ∧ ((s.core k).stores = [])) ∧
    (∃ (s : State) (k : Fin 66) (w : Word),
      (AtInstr s k w .wait) ∧ (((s.core k).irqPend &&& (s.core k).irqEn) = 0)) ∧
    (∃ (s : State) (k : Fin 66) (w : Word),
      (AtInstr s k w .wait) ∧ (((s.core k).irqPend &&& (s.core k).irqEn) ≠ 0) ∧ ((s.core k).status.getLsbD 29 = false)) ∧
    (∃ (s : State) (k : Fin 66) (w : Word) (n : Fin 16),
      (AtInstr s k w .wait) ∧ (((s.core k).irqPend &&& (s.core k).irqEn).getLsbD n = true) ∧ (∀ j : Fin 16, j < n →
        ((s.core k).irqPend &&& (s.core k).irqEn).getLsbD j = false) ∧ ((s.core k).status.getLsbD 29 = true) ∧
        ((s.core k).status.getLsbD 28 = false)) ∧
    (∃ (s : State) (k : Fin 66) (w : Word) (ga : BitVec 4),
      (AtInstr s k w (.cache .iinvAll ga)) ∧ (privileged k (s.core k) = true)) ∧
    (∃ (s : State) (k : Fin 66) (w : Word) (ga : BitVec 4),
      (AtInstr s k w (.cache .iinvAll ga)) ∧ (privileged k (s.core k) = true)) ∧
    (∃ (s : State) (k : Fin 66) (w : Word) (ga : BitVec 4),
      (AtInstr s k w (.cache .iinvLine ga)) ∧ (privileged k (s.core k) = true)) ∧
    (∃ (s : State) (k : Fin 66) (w : Word) (ga : BitVec 4),
      (AtInstr s k w (.cache .dcleanLine ga)) ∧ (k.val < 64) ∧ ((s.core k).stores = []) ∧ (privileged k (s.core k) = true)) ∧
    (∃ (s : State) (k : Fin 66) (w : Word) (ga : BitVec 4),
      (AtInstr s k w (.cache .dinvLine ga)) ∧ (k.val < 64) ∧ ((s.core k).stores = []) ∧ (privileged k (s.core k) = true)) ∧
    (∃ (s : State) (k : Fin 66) (w : Word) (ga : BitVec 4),
      (AtInstr s k w (.cache .dcleanAll ga)) ∧ (k.val < 64) ∧ ((s.core k).stores = []) ∧ (privileged k (s.core k) = true)) ∧
    (∃ (s : State) (k : Fin 66) (w : Word) (ga : BitVec 4) (l : Line),
      (AtInstr s k w (.cache .dcleanLine ga)) ∧ (64 ≤ k.val) ∧ ((s.core k).stores = []) ∧ (privileged k (s.core k) = true) ∧
        (State.lineOf (s.core k).dcache (G s k ga).toNat = some l) ∧ (l.dirty = true) ∧ (l.bytes.length = 32)) ∧
    (∃ (s : State) (k : Fin 66) (w : Word) (ga : BitVec 4) (l : Line),
      (AtInstr s k w (.cache .dinvLine ga)) ∧ (64 ≤ k.val) ∧ ((s.core k).stores = []) ∧ (privileged k (s.core k) = true) ∧
        (State.lineOf (s.core k).dcache (G s k ga).toNat = some l)) ∧
    (∃ (s : State) (k : Fin 66) (w : Word) (ga : BitVec 4),
      (AtInstr s k w (.cache .dcleanAll ga)) ∧ (64 ≤ k.val) ∧ ((s.core k).stores = []) ∧ (privileged k (s.core k) = true) ∧
        (∀ x ∈ (s.core k).dcache, x.addr % 32 = 0)) :=
  ⟨⟨hk (.jr 4) (gr [(4, 0x18300)]), 3, HInstr.encode (.jr 4), 4, by decide +kernel⟩,
   ⟨hk (.jalr 4) (gr [(4, 0x18300)]), 3, HInstr.encode (.jalr 4), 4, by decide +kernel⟩,
   ⟨hk (.alu .add 3 1 2 false) (fun c => gr [(1, 4), (2, 5)] { c with delay := some (0x180FC, 0x18200) }), 3,
     HInstr.encode (.alu .add 3 1 2 false), 3, 1, 2, false, 0x180FC, 0x18200, by decide +kernel⟩,
   ⟨hk (.j 4) (fun c => { c with delay := some (0x180FC, 0x18200) }), 3, HInstr.encode (.j 4), 4, 0x180FC, 0x18200,
     by decide +kernel⟩,
   ⟨hk (.alu .add 3 1 2 false) (fun c =>
     { c with status := 0x44000000, loops := c.loops.set 0 { ls := 0x180F0, le := 0x18100, lc := 2 } }), 3,
     HInstr.encode (.alu .add 3 1 2 false), 3, 1, 2, false, by decide +kernel⟩,
   ⟨hk (.loopImm false 8 3) id, 3, HInstr.encode (.loopImm false 8 3), 8, 3, 0, 8, by decide +kernel⟩,
   ⟨hk (.loopImm true 8 3) id, 3, HInstr.encode (.loopImm true 8 3), 8, 3, 0, 8, by decide +kernel⟩,
   ⟨hk (.loopImm false 8 0) id, 3, HInstr.encode (.loopImm false 8 0), 8, 0, false, by decide +kernel⟩,
   ⟨hk (.mfs 3 2) (fun c =>
     { c with epc := 0x18ABC, ebadaddr := 7, kscr := #v[8, 9], loops := #v[⟨1, 2, 3⟩, ⟨4, 5, 6⟩], status := c.status ||| 5 }), 3,
     HInstr.encode (.mfs 3 2), 3, 2, 0x18ABC, by decide +kernel⟩,
   ⟨hk (.mfs 3 14) id, 3, HInstr.encode (.mfs 3 14), 3, by decide +kernel⟩,
   ⟨hk (.mfs 3 15) id, 3, HInstr.encode (.mfs 3 15), 3, by decide +kernel⟩,
   ⟨hk (.mfs 3 5) (sta 1), 3, 5, by decide +kernel⟩,
   ⟨hk (.mfs 3 16) id, 3, 16, by decide +kernel⟩,
   ⟨hk (.mts 14 3) id, 3, HInstr.encode (.mts 14 3), 3, 14, by decide +kernel⟩,
   ⟨hk (.mts 1 4) (gr [(4, 0xFEDCBA98)]), 3, HInstr.encode (.mts 1 4), 4, by decide +kernel⟩,
   ⟨hk (.mts 2 4) (gr [(4, 0xFEDCBA98)]), 3, HInstr.encode (.mts 2 4), 4, by decide +kernel⟩,
   ⟨hk (.mts 3 4) (gr [(4, 0xFEDCBA98)]), 3, HInstr.encode (.mts 3 4), 4, by decide +kernel⟩,
   ⟨hk (.mts 4 4) (gr [(4, 0xFEDCBA98)]), 3, HInstr.encode (.mts 4 4), 4, by decide +kernel⟩,
   ⟨hk (.mts 5 4) (gr [(4, 0xFEDCBA98)]), 3, HInstr.encode (.mts 5 4), 4, by decide +kernel⟩,
   ⟨hk (.mts 6 4) (gr [(4, 0xFEDCBA98)]), 3, HInstr.encode (.mts 6 4), 4, by decide +kernel⟩,
   ⟨hk (.mts 9 4) (gr [(4, 0xFEDCBA98)]), 3, HInstr.encode (.mts 9 4), 4, by decide +kernel⟩,
   ⟨hk (.mts 7 4) (gr [(4, 0xFEDCBA98)]), 3, HInstr.encode (.mts 7 4), 4, by decide +kernel⟩,
   ⟨hk (.mts 10 4) (gr [(4, 0xFEDCBA98)]), 3, HInstr.encode (.mts 10 4), 4, by decide +kernel⟩,
   ⟨hk (.mts 8 4) (gr [(4, 0xFEDCBA98)]), 3, HInstr.encode (.mts 8 4), 4, by decide +kernel⟩,
   ⟨hk (.mts 11 4) (gr [(4, 0xFEDCBA98)]), 3, HInstr.encode (.mts 11 4), 4, by decide +kernel⟩,
   ⟨hk (.mts 12 4) (gr [(4, 0xFEDCBA98)]), 3, HInstr.encode (.mts 12 4), 4, by decide +kernel⟩,
   ⟨hk (.mts 13 4) (gr [(4, 0xFEDCBA98)]), 3, HInstr.encode (.mts 13 4), 4, by decide +kernel⟩,
   ⟨hk (.mts 0 4) (fun c => gr [(4, 0xFEDCBA98)] (sta 3 c)), 3, HInstr.encode (.mts 0 4), 4, by decide +kernel⟩,
   ⟨hk (.mts 0 4) (gr [(4, 0x2FFFFFFF)]), 3, HInstr.encode (.mts 0 4), 4, 0x2FFFFFFF, by decide +kernel⟩,
   ⟨hk (.mts 0 4) (gr [(4, 0x80000000)]), 3, HInstr.encode (.mts 0 4), 4, 0x80000000, by decide +kernel⟩,
   ⟨hk (.eret) (fun c => { c with epc := 0x18200, estatus := 3 }), 3, HInstr.encode (.eret), by decide +kernel⟩,
   ⟨hk (.eret) (sta 4), 3, HInstr.encode (.eret), by decide +kernel⟩,
   ⟨hk (.cache .iinvAll 3) (sta 4), 3, HInstr.encode (.cache .iinvAll 3), 3, by decide +kernel⟩,
   ⟨hk (.cache .iinvLine 3) (sta 4), 3, HInstr.encode (.cache .iinvLine 3), 3, by decide +kernel⟩,
   ⟨hk (.cache .dcleanLine 3) (sta 4), 3, HInstr.encode (.cache .dcleanLine 3), 3, by decide +kernel⟩,
   ⟨hk (.cache .dinvLine 3) (sta 4), 3, HInstr.encode (.cache .dinvLine 3), 3, by decide +kernel⟩,
   ⟨hk (.cache .dcleanAll 3) (sta 4), 3, HInstr.encode (.cache .dcleanAll 3), 3, by decide +kernel⟩,
   ⟨hk (.syscall 0xABC) (sta 5), 3, HInstr.encode (.syscall 0xABC), 0xABC, by decide +kernel⟩,
   ⟨hk (.brk 0xABC) (sta 5), 3, HInstr.encode (.brk 0xABC), 0xABC, by decide +kernel⟩,
   ⟨hk (.brk 4) (fun c => { c with stepping := true }), 3, HInstr.encode (.brk 4), 4, by decide +kernel⟩,
   ⟨hk (.lock) id, 3, HInstr.encode (.lock), by decide +kernel⟩,
   ⟨hk (.unlock 5) (fun c => locked [(0x20000001, 9)] true (gr [(5, 77)] c)), 3, HInstr.encode (.unlock 5), 5,
     { lockPc := 0x18080, count := 5, stores := [(0x20000001, 9)], reserved := [], broken := true }, by decide +kernel⟩,
   ⟨hk (.unlock 5) (locked [(0x20000001, 9), (0x20000001, 8), (0x20000002, 7)] false), 3, HInstr.encode (.unlock 5), 5,
     { lockPc := 0x18080, count := 5, stores := [(0x20000001, 9), (0x20000001, 8), (0x20000002, 7)], reserved := [], broken := false },
     by decide +kernel⟩,
   ⟨hk (.unlock 3) id, 3, by decide +kernel⟩,
   ⟨hk (.lock) (fun c => { c with stores := [(0x20000010, [1, 7])] }), 3, HInstr.encode (.lock), (0x20000010, [1, 7]),
     by decide +kernel⟩,
   ⟨hk (.sync) (fun c => { c with stores := [(0x20000010, [1, 7])] }), 3, HInstr.encode (.sync), (0x20000010, [1, 7]),
     by decide +kernel⟩,
   ⟨hk (.sync) (fun c => { c with stale := [(1, 2)] }), 3, HInstr.encode (.sync), by decide +kernel⟩,
   ⟨hk (.wait) id, 3, HInstr.encode (.wait), by decide +kernel⟩,
   ⟨hk (.wait) (fun c => { c with irqPend := 0x80, irqEn := 0x80 }), 3, HInstr.encode (.wait), by decide +kernel⟩,
   ⟨hk (.wait) (fun c => { c with irqPend := 0x180, irqEn := 0x180, status := 0x60000000 }), 3, HInstr.encode (.wait), 7,
     by decide +kernel⟩,
   ⟨hk (.cache .iinvAll 0) (fun c => { c with fetchBuf := [⟨0x60000000, [], false⟩] }), 3, HInstr.encode (.cache .iinvAll 0), 0,
     by decide +kernel⟩,
   ⟨cp (.cache .iinvAll 0) id, State.canopy0, HInstr.encode (.cache .iinvAll 0), 0, by decide +kernel⟩,
   ⟨hk (.cache .iinvLine 4) (fun c => gr [(4, 0x60000047)]
     { c with fetchBuf := [⟨0x60000000, [], false⟩, ⟨0x60000040, [], false⟩] }), 3, HInstr.encode (.cache .iinvLine 4), 4,
     by decide +kernel⟩,
   ⟨hk (.cache .dcleanLine 4) (fun c => { c with stale := [(1, 2)] }), 3, HInstr.encode (.cache .dcleanLine 4), 4,
     by decide +kernel⟩,
   ⟨hk (.cache .dinvLine 4) (fun c => { c with stale := [(1, 2)] }), 3, HInstr.encode (.cache .dinvLine 4), 4, by decide +kernel⟩,
   ⟨hk (.cache .dcleanAll 4) (fun c => { c with stale := [(1, 2)] }), 3, HInstr.encode (.cache .dcleanAll 4), 4,
     by decide +kernel⟩,
   ⟨cp (.cache .dcleanLine 4) (fun c => gr [(4, 0x20000047)]
     { c with dcache := [{ addr := 0x20000040, bytes := List.replicate 32 7, dirty := true }] }), State.canopy0,
     HInstr.encode (.cache .dcleanLine 4), 4, { addr := 0x20000040, bytes := List.replicate 32 7, dirty := true },
     by decide +kernel⟩,
   ⟨cp (.cache .dinvLine 4) (fun c => gr [(4, 0x20000047)]
     { c with dcache := [{ addr := 0x20000040, bytes := List.replicate 32 7, dirty := true }] }), State.canopy0,
     HInstr.encode (.cache .dinvLine 4), 4, { addr := 0x20000040, bytes := List.replicate 32 7, dirty := true },
     by decide +kernel⟩,
   ⟨cp (.cache .dcleanAll 4) (fun c => gr [(4, 0x20000047)]
     { c with dcache := [{ addr := 0x20000040, bytes := List.replicate 32 7, dirty := true }] }), State.canopy0,
     HInstr.encode (.cache .dcleanAll 4), 4, by decide +kernel⟩⟩

end Sys2Proof.Tests
end

section
/-! The canonical form of the registers, the on-chip memories and the host memory (O59). All three maps change through
`sparsePut` and `List.filter` alone, so every function of the model keeps the form. `Canonical.f` says so of `State.f`, in the
model's order, and a proof follows the function's own calls: `h.set.modTile` is the form after a `set` and a `modTile`. -/

namespace Sys2Proof.Machine

/-- The machine that an instruction's effect leaves, where it leaves one, stands in canonical form. -/
def CanonicalEff : Eff → Prop
  | .done s => Canonical s
  | .jumped s => Canonical s
  | _ => True

/-- Every effect that a row of the instruction set gives keeps the canonical form. -/
def CanonicalRow (row : HInstr → Option (Fin 66 → State → Eff)) : Prop :=
  ∀ i f, row i = some f → ∀ k s, Canonical s → CanonicalEff (f k s)

/-- The machine that an outcome gives, where it gives one, stands in canonical form. -/
def CanonicalRes : Res → Prop
  | .next s => Canonical s
  | _ => True

namespace Canonical

protected theorem ite {c : Prop} {_ : Decidable c} {a b : State} (ha : Canonical a) (hb : Canonical b) :
    Canonical (if c then a else b) := by
  split <;> assumption

protected theorem dite {c : Prop} {_ : Decidable c} {a : c → State} {b : ¬c → State} (ha : ∀ x, Canonical (a x))
    (hb : ∀ x, Canonical (b x)) : Canonical (if x : c then a x else b x) := by
  split <;> simp [*]

theorem fst_of_eq {α : Type} {p q : State × α} (h : Canonical q.1) (e : p = q) : Canonical p.1 := e ▸ h

theorem snd_of_eq {α : Type} {p q : α × State} (h : Canonical q.2) (e : p = q) : Canonical p.2 := e ▸ h

theorem mk_fst {α : Type} {s : State} {a : α} (h : Canonical s) : Canonical (s, a).1 := h

theorem mk_snd {α : Type} {s : State} {a : α} (h : Canonical s) : Canonical (a, s).2 := h

theorem ite_fst {α : Type} {c : Prop} {_ : Decidable c} {a b : State × α} (ha : Canonical a.1) (hb : Canonical b.1) :
    Canonical (if c then a else b).1 := by
  split <;> assumption

theorem ite_snd {α : Type} {c : Prop} {_ : Decidable c} {a b : α × State} (ha : Canonical a.2) (hb : Canonical b.2) :
    Canonical (if c then a else b).2 := by
  split <;> assumption

theorem ite_snd_snd {α β : Type} {c : Prop} {_ : Decidable c} {a b : α × β × State} (ha : Canonical a.2.2)
    (hb : Canonical b.2.2) : Canonical (if c then a else b).2.2 := by
  split <;> assumption

theorem ite_state {c : Prop} {_ : Decidable c} {a b : KeyedOut} (ha : Canonical a.state) (hb : Canonical b.state) :
    Canonical (if c then a else b).state := by
  split <;> assumption

theorem foldl_proj {α β : Type} (π : α → State) {f : α → β → α} {l : List β} {a : α} (ha : Canonical (π a))
    (hf : ∀ a x, Canonical (π a) → Canonical (π (f a x))) : Canonical (π (l.foldl f a)) := by
  induction l generalizing a with
  | nil => exact ha
  | cons x l ih => exact ih (hf a x ha)

section
variable {s : State} (h : Canonical s)
include h

/-- An update of anything beside the three maps. -/
theorem update {shadows holds now tiles groups hamper usfen freeCtr readData pinFrom pinHigh hwinEvent hwinThrAt
    hwinLevel cores ps house houseArmed siteTrig feeds emus sfe lookout canopy clock spcs spt tap perst ppsOut
    pending} :
    Canonical
      { regs := s.regs, mem := s.mem, host := s.host, shadows, holds, now, tiles, groups, hamper, usfen, freeCtr,
        readData, pinFrom, pinHigh, hwinEvent, hwinThrAt, hwinLevel, cores, ps, house, houseArmed,
        siteTrig, feeds, emus, sfe, lookout, canopy, clock, spcs, spt, tap, perst, ppsOut, pending } :=
  h

theorem foldl {α : Type} {f : State → α → State} {l : List α} (hf : ∀ t x, Canonical t → Canonical (f t x)) :
    Canonical (l.foldl f s) :=
  foldl_proj id h hf

/-- Entries that leave the on-chip memories leave the rest in canonical form. -/
theorem filterMem {p} : Canonical { s with mem := s.mem.filter p } :=
  ⟨h.1, sparseWf_filter _ p s.mem h.2.1, h.2.2⟩

theorem getD {o : Option State} (ho : ∀ t, o = some t → Canonical t) : Canonical (o.getD s) := by
  cases o with
  | none => exact h
  | some t => exact ho t rfl

/-! ### The functions of Machine/Ops.lean -/

theorem wr {off v} : Canonical (s.wr off v) := State.wr_canonical s off v h

theorem set {f v i} : Canonical (s.set f v i) := h.wr

theorem setInt {f v i} : Canonical (s.setInt f v i) := h.set

theorem setFlag {f b i} : Canonical (s.setFlag f b i) := h.set

theorem bump {f i k} : Canonical (s.bump f i k) := h.set

theorem setBit {f b on i} : Canonical (s.setBit f b on i) := h.set

theorem setMaskBit {lo hi n on i} : Canonical (s.setMaskBit lo hi n on i) := .ite h.setBit h.setBit

theorem set64 {lo hi v i} : Canonical (s.set64 lo hi v i) := h.set.set

theorem setTile {n t} : Canonical (s.setTile n t) := h.update

theorem modTile {n f} : Canonical (s.modTile n f) := h.setTile

theorem modPlan {n f} : Canonical (s.modPlan n f) := h.modTile

theorem modCur {n f} : Canonical (s.modCur n f) := h.modTile

theorem modLull {n f} : Canonical (s.modLull n f) := h.modTile

theorem forTiles {l f} (hf : ∀ n t, Canonical t → Canonical (f n t)) : Canonical (s.forTiles l f) :=
  h.foldl fun t n => hf n t

theorem setByte {a b} : Canonical (s.setByte a b) := State.setByte_canonical s a b h

theorem setBytes {a l} : Canonical (s.setBytes a l) := by
  induction l generalizing s a with
  | nil => exact h
  | cons b l ih => exact ih h.setByte

theorem store {a k v} : Canonical (s.store a k v) := h.setBytes

theorem hostStore {a l} : Canonical (s.hostStore a l) := by
  induction l generalizing s a with
  | nil => exact h
  | cons b l ih =>
    exact ih (s := { s with host := sparsePut 0 a b s.host }) ⟨h.1, h.2.1, sparseWf_put _ a b s.host h.2.2⟩

theorem fresh : Canonical s.fresh.2 := h.update

/-! ### The functions of Machine/Post.lean -/

theorem sendVector {v} : Canonical (s.sendVector v) := .ite h.update h.update

theorem setPort {p q} : Canonical (s.setPort p q) := h.update

theorem onWire {p f} : Canonical (s.onWire p f) := h.update.set

theorem sendNumbered {p f} : Canonical (s.sendNumbered p f) :=
  .ite (.ite h.setPort h.setPort.onWire) (.ite h.setPort h.setPort.onWire)

theorem sendOn {p f} : Canonical (s.sendOn p f) := .ite h (.ite h.onWire h.sendNumbered)

theorem floodExcept {f not} : Canonical (s.floodExcept f not) := h.foldl fun _ _ ht => .ite ht ht.sendOn

theorem flood {typ payload} : Canonical (s.flood typ payload) := h.floodExcept

theorem sendRouted {typ dstRoute dstDepth payload} : Canonical (s.sendRouted typ dstRoute dstDepth payload) := by
  unfold State.sendRouted
  split
  · exact h
  · exact h.sendOn

theorem toHost {viaD addr data vec} : Canonical (s.toHost viaD addr data vec) := by
  unfold State.toHost
  extract_lets s1
  have h1 : Canonical s1 := h.hostStore
  split
  · split
    · exact h1.sendVector
    · exact h1
  · exact h.sendOn

theorem setCoal {r v} : Canonical (s.setCoal r v) := h.update

theorem coalesce {r limit now} : Canonical (s.coalesce r limit now).2 := .ite_snd h.setCoal h.setCoal

theorem eventToRing {e kind tile seq time payload} : Canonical (s.eventToRing e kind tile seq time payload) :=
  .ite h (.ite h.set.update h.coalesce.update.set.toHost)

theorem eventToMailbox {kind tile seq time payload} : Canonical (s.eventToMailbox kind tile seq time payload) :=
  .ite h (.ite h.set.update h.update.set)

theorem eventAt {time kind tile payload} : Canonical (s.eventAt time kind tile payload) := by
  unfold State.eventAt
  extract_lets _ _ _ _ s2
  have h2 : Canonical s2 := (Canonical.ite h.update h).update
  exact .ite h2.eventToMailbox (h2.foldl fun _ _ ht => ht.eventToRing)

theorem event {kind tile payload} : Canonical (s.event kind tile payload) := h.eventAt

theorem cplWrite {c b irq} : Canonical (s.cplWrite c b irq) := h.coalesce.set.toHost

theorem cplToCq {c b irq} : Canonical (s.cplToCq c b irq) := .ite h (.ite h.update.bump h.cplWrite)

theorem cplToMailbox {b} : Canonical (s.cplToMailbox b) := .ite h.update h.update.set

theorem deliver {r status flags result} : Canonical (s.deliver r status flags result) :=
  .ite (.ite h.cplToMailbox h.cplToCq) h.sendRouted

theorem setTracks {l} : Canonical (s.setTracks l) := h.update.set

theorem unfetch {r} : Canonical (s.unfetch r) := h.update

theorem complete {r status result} : Canonical (s.complete r status result) := h.deliver.update.unfetch.setTracks

theorem accepted {r result} : Canonical (s.accepted r result) := .ite h.deliver h

theorem finish {r status result} : Canonical (s.finish r status result) := (Canonical.ite h.accepted h).complete

theorem track {r p} : Canonical (s.track r p) := h.unfetch.setTracks

theorem completeAt {p status result} : Canonical (s.completeAt p status result) := h.foldl fun _ _ ht => ht.complete

theorem journal {j kind tile time body} : Canonical (s.journal j kind tile time body) :=
  .ite h (.ite h.set.update h.update)

/-! ### The functions of Machine/CoreOps.lean -/

theorem setCore {k c} : Canonical (s.setCore k c) := by
  unfold State.setCore
  extract_lets s1
  have h1 : Canonical s1 := h.update
  exact .ite h1.set.set.setFlag.setFlag h1

theorem modCore {k f} : Canonical (s.modCore k f) := h.setCore

theorem pendLine {k line} : Canonical (s.pendLine k line) := h.modCore

theorem raiseLine {n line} : Canonical (s.raiseLine n line) := h.pendLine

theorem raiseCanopy {line} : Canonical (s.raiseCanopy line) := by
  unfold State.raiseCanopy
  extract_lets s1
  have h1 : Canonical s1 := h.pendLine
  exact .ite h1.pendLine h1

theorem putCoreState {n v} : Canonical (s.putCoreState n v) := h.set.setMaskBit

theorem putInner {n v} : Canonical (s.putInner n v) := .ite h.modCore h.putCoreState

theorem scramble {a k} : Canonical (s.scramble a k) := by
  induction k generalizing s a with
  | zero => exact h
  | succ k ih => exact ih h.fresh.setByte

theorem coreSleep {n} : Canonical (s.coreSleep n) := .ite h h.modCore.putCoreState

theorem coreWake {n} : Canonical (s.coreWake n) := .ite h.modCore.putCoreState h

theorem coreFault {n} : Canonical (s.coreFault n) := (Canonical.ite h.set.scramble.event h).putCoreState

theorem coreReset {n} : Canonical (s.coreReset n) := .ite h (Canonical.ite h.setFlag h).modCore.putInner

theorem breakLocks {writer a bytes} : Canonical (s.breakLocks writer a bytes) := h.update

theorem sharedWrite {writer a b} : Canonical (s.sharedWrite writer a b) := h.setBytes.breakLocks

/-! ### The functions of Machine/CurrentOps.lean -/

theorem modChop {n x f} : Canonical (s.modChop n x f) := h.modTile

theorem modLegs {n f} : Canonical (s.modLegs n f) := h.modTile

theorem setShape {n b i v} : Canonical (s.setShape n b i v) := h.modTile

theorem putThr {n w upper lower} : Canonical (s.putThr n w upper lower) := .ite h h.set.set.modLegs

theorem putThresholds {n x} : Canonical (s.putThresholds n x) := .ite h h.putThr

theorem flipBank {n} : Canonical (s.flipBank n) := h.set.setFlag

theorem swapAtEntry {n e} : Canonical (s.swapAtEntry n e) := .ite h.flipBank h

theorem refreshPhase {n} : Canonical (s.refreshPhase n) :=
  h.swapAtEntry.set.set.setInt.setInt.putThresholds.putThresholds

theorem clockPhase {n} : Canonical (s.clockPhase n) := .ite h.refreshPhase h

theorem showLevel {n} : Canonical (s.showLevel n) :=
  (Canonical.ite h.modCur h).set.set.modCur.setFlag.set.refreshPhase

theorem putCap {n v} : Canonical (s.putCap n v) := (Canonical.ite h.modCur h).set.showLevel

theorem startCurrent {n g0} : Canonical (s.startCurrent n g0) := (Canonical.ite h.set h).modCur.showLevel

/-! ### The functions of Machine/Ripple.lean -/

theorem setBstate {n x v} : Canonical (s.setBstate n x v) := .ite h.set h.set

theorem showDecim {n} : Canonical (s.showDecim n) := h.set

theorem advanceIdx {n idx wrap size} : Canonical (s.advanceIdx n idx wrap size) := .ite h.set h.set.set

theorem putSample {n x p} : Canonical (s.putSample n x p) := h.store.advanceIdx

theorem takeSample {n x t} : Canonical (s.takeSample n x t) := by
  unfold State.takeSample
  extract_lets _ s1
  have h1 : Canonical s1 := .ite h.setFlag h
  exact .ite h1.putSample h1

theorem startStored {n x} : Canonical (s.startStored n x) := h.modChop

theorem putEdge {n x} : Canonical (s.putEdge n x) := by
  unfold State.putEdge
  extract_lets _ _ s1
  have h1 : Canonical s1 := .ite h.startStored h
  exact .ite h1.setBytes.advanceIdx h1

theorem capture {n old} : Canonical (s.capture n old) :=
  .ite h (h.foldl fun _ _ ht => ht.foldl fun _ _ hu => hu.takeSample)

theorem cycleRate {n x} : Canonical (s.cycleRate n x) := h.modChop

/-! ### The functions of Machine/Gates.lean -/

theorem putGate {n i on} : Canonical (s.putGate n i on) := .ite h h.setBit.modLegs.modChop.putEdge

theorem noteBlocked {n r} : Canonical (s.noteBlocked n r) := by
  unfold State.noteBlocked
  extract_lets _ _ s1
  have h1 : Canonical s1 := h.set
  exact (Canonical.ite h1.event h1).modLegs

theorem putGates {n g may} : Canonical (s.putGates n g may) :=
  (h.foldl fun _ _ ht => .ite ht ht.putGate).foldl fun _ _ ht => .ite ht.putGate ht

theorem applyGates {n} : Canonical (s.applyGates n) := .ite h h.noteBlocked.modLegs.putGates

theorem dropStale {n} : Canonical (s.dropStale n) := .ite h.modLegs h

theorem updateGates {n} : Canonical (s.updateGates n) := h.dropStale.applyGates

theorem gatesLow {n} : Canonical (s.gatesLow n) := (h.modLegs.foldl fun _ _ ht => ht.putGate).setFlag

theorem driveCells {n} : Canonical (s.driveCells n) := h.noteBlocked.putGates

theorem deadTimeOver {n k} : Canonical (s.deadTimeOver n k) :=
  .ite (.ite h.driveCells h) (.ite h (h.foldl fun _ _ ht => .ite ht.putGate ht))

theorem endRefresh {n} : Canonical (s.endRefresh n) := .ite h h.modLegs.updateGates

theorem setPeak {n x v} : Canonical (s.setPeak n x v) := .ite h.set h.set

theorem cutPeak {n x} : Canonical (s.cutPeak n x) := .ite h.fresh.setPeak h

theorem markUnreg {n x t} : Canonical (s.markUnreg n x t) := (Canonical.ite h.setFlag h.setFlag).modChop

theorem noteLong {n x} : Canonical (s.noteLong n x) := .ite h h.markUnreg

theorem regulatorsOff {n} : Canonical (s.regulatorsOff n) :=
  h.noteLong.noteLong.cutPeak.cutPeak.setFlag.setFlag.setBstate.setBstate.modChop.modChop.modLegs.updateGates

theorem energiseLegs {n} : Canonical (s.energiseLegs n) := h.setBstate.setBstate.modChop.modChop.modLegs.updateGates

theorem wantRegulator {n onTick} : Canonical (s.wantRegulator n onTick) := h.modChop.modChop

theorem chooseRegulator {n} : Canonical (s.chooseRegulator n) := h.wantRegulator

theorem writeChopCtl {n v} : Canonical (s.writeChopCtl n v) := .ite h.setFlag h.wr.wantRegulator.refreshPhase

theorem setRaw {n w above below} : Canonical (s.setRaw n w above below) := h.setBit.setBit

theorem showTripActive {n x} : Canonical (s.showTripActive n x) := by
  unfold State.showTripActive
  extract_lets _ _ s1
  have h1 : Canonical s1 := .ite h.modLegs h
  exact .ite h1.setFlag h1.setFlag

theorem stirWindow {n w} : Canonical (s.stirWindow n w) := h.modLegs

theorem stopWindows {n} : Canonical (s.stopWindows n) := by
  unfold State.stopWindows
  extract_lets s1
  have h1 : Canonical s1 := h.foldl fun _ _ ht => .ite ht ht.setRaw.stirWindow
  exact .ite h1 h1.modChop.modChop.showTripActive.showTripActive

theorem stirHouseWindow {x} : Canonical (s.stirHouseWindow x) := h.update

theorem stopHouseWindows : Canonical (s.stopHouseWindows) :=
  h.foldl fun _ _ ht => .ite ht ht.setBit.setBit.stirHouseWindow

theorem winClear {n w} : Canonical (s.winClear n w) := .ite h h.setBit.setBit

theorem winClearRoute {n route ws} : Canonical (s.winClearRoute n route ws) :=
  h.foldl fun _ _ ht => .ite ht.winClear ht

/-! ### The functions of Machine/StoreOps.lean -/

theorem psProgram {line b} : Canonical (s.psProgram line b) := h.setBytes

theorem psClear {b} : Canonical (s.psClear b) := .ite h.filterMem h.filterMem.update.set

theorem psClears {b k} : Canonical (s.psClears b k) := by
  induction k generalizing s b with
  | zero => exact h
  | succ k ih => exact ih h.psClear

theorem psPutRecord {line cls index gen opened payload} :
    Canonical (s.psPutRecord line cls index gen opened payload) :=
  h.psProgram

theorem psMoveAt {r line} : Canonical (s.psMoveAt r line) := h.update

theorem psPlace {r cls index gen payload} : Canonical (s.psPlace r cls index gen payload).1 :=
  .ite_fst h.psPutRecord.psMoveAt h

theorem psCompactOne {r} : Canonical (s.psCompactOne r) := by
  unfold State.psCompactOne
  split
  · exact h
  · exact (h.foldl fun _ _ ht => ht.psPlace).psClear

theorem psCompact {r k} : Canonical (s.psCompact r k) := by
  induction k generalizing s with
  | zero => exact h
  | succ k ih => exact .ite (ih h.psCompactOne) h

theorem psWrite {cls index payload} : Canonical (s.psWrite cls index payload).1 := .ite_fst h h.psCompact.psPlace

theorem faultLog {record} : Canonical (s.faultLog record) := h.update.psWrite.set

theorem commitTile {n} : Canonical (s.commitTile n).1 := h.psWrite

theorem commitDevice : Canonical s.commitDevice.1 := h.psWrite

theorem psWriteMap {n payload} : Canonical (s.psWriteMap n payload).1 := by
  unfold State.psWriteMap
  split
  · exact h
  · dsimp only
    exact h.psClears.psPutRecord.psClears.psPutRecord

/-! ### The functions of Machine/Scale.lean -/

theorem setGroup {k g} : Canonical (s.setGroup k g) := .dite (fun _ => h.update) (fun _ => h)

theorem waitStep {w} : Canonical (s.waitStep w) := h.update

theorem distributeRequest {k} : Canonical (s.distributeRequest k) := by
  unfold State.distributeRequest
  extract_lets
  split
  · exact h
  · extract_lets _ _ _ s1
    have h1 : Canonical s1 := h.setGroup
    exact .ite h (.ite h.waitStep (.ite h1.flood h1))

theorem scaleRequest {n} : Canonical (s.scaleRequest n) := by
  unfold State.scaleRequest
  split
  · exact h
  · exact .ite h h.set.set.distributeRequest

theorem applyScale {k t} : Canonical (s.applyScale k t) := by
  unfold State.applyScale
  split
  · exact h
  · exact h.forTiles fun _ _ ht => ht.set.set

/-! ### The functions of Machine/Budget.lean -/

theorem modSd {n f} : Canonical (s.modSd n f) := h.modTile

theorem modForce {n f} : Canonical (s.modForce n f) := h.modTile

theorem showScores {n} : Canonical (s.showScores n) := h.foldl fun _ _ ht => ht.set.set

theorem capRearm {n} : Canonical (s.capRearm n) := .ite h.modForce h

theorem putConf {n c} : Canonical (s.putConf n c) := by
  unfold State.putConf
  extract_lets s1
  have h1 : Canonical s1 := h.set
  exact (Canonical.ite h1 h1.modSd).modLull

theorem sundialClear {n} : Canonical (s.sundialClear n) := h.modSd.showScores.set.set.putConf.set.set.capRearm

theorem putTemp {n r t} : Canonical (s.putTemp n r t) := h.modSd.set.set

theorem countGrant {on} : Canonical (s.countGrant on) := h.set

theorem setGrant {n on} : Canonical (s.setGrant n on) := .ite h h.setFlag.setMaskBit.countGrant

theorem dropLoan {n} : Canonical (s.dropLoan n) := by
  unfold State.dropLoan
  extract_lets _ s1
  have h1 : Canonical s1 := h.setFlag.set.set
  exact .ite (Canonical.ite h1.set h1).countGrant h

theorem makeLoan {lender n} : Canonical (s.makeLoan lender n) := h.setFlag.set.set.set.countGrant

theorem govTile {n} : Canonical (s.govTile n) := by
  unfold State.govTile
  extract_lets _ _ _ s1
  have h1 : Canonical s1 := .ite h h.setMaskBit.set
  exact .ite h1 h1.setGrant

theorem syncRates {n num den} : Canonical (s.syncRates n num den) := h.set.set

theorem walkEnd {n result} : Canonical (s.walkEnd n result) := by
  unfold State.walkEnd
  extract_lets s1 kept s2 s3
  have h1 : Canonical s1 := h.dropLoan
  have h2 : Canonical s2 := by
    unfold s2
    clear_value kept
    split
    · exact .ite h1 h1.putTemp
    · exact h1
  have h3 : Canonical s3 := h2.modSd.setFlag
  exact (Canonical.ite h3.set h3).set.set.govTile

theorem walkAbort {n} : Canonical (s.walkAbort n) := .ite h.modPlan.syncRates.walkEnd h

theorem endLoan {n} : Canonical (s.endLoan n) := h.foldl fun _ _ ht => .ite ht.dropLoan.sundialClear ht

theorem putCapV {n v} : Canonical (s.putCapV n v) := h.set.scaleRequest

theorem applyCeil {n old new} : Canonical (s.applyCeil n old new) := by
  unfold State.applyCeil
  extract_lets
  split
  · exact h.modPlan.modForce.putCapV
  · split
    · split
      · exact h
      · exact h.modPlan.putCapV
    · exact h

theorem budgetCeil {n} : Canonical (s.budgetCeil n) := by
  unfold State.budgetCeil
  extract_lets _ _ _ _ _ _ _ _ s3
  have h3 : Canonical s3 := h.setFlag.setFlag.setFlag.setFlag.set
  exact .ite h3 h3.applyCeil

theorem writeCapV {n v} : Canonical (s.writeCapV n v) := .ite h.modPlan.modForce.putCapV h.modForce.putCapV

theorem putProf {n i mean count} : Canonical (s.putProf n i mean count) := h.modForce

theorem setLearning {n dir b} : Canonical (s.setLearning n dir b) := .ite h.setFlag h.setFlag

theorem setLearned {n dir b} : Canonical (s.setLearned n dir b) := .ite h.setFlag h.setFlag

theorem fbEvent {n flag kind payload} : Canonical (s.fbEvent n flag kind payload) := h.setFlag.raiseLine.event

theorem commitProfile {n} : Canonical (s.commitProfile n) := h.psWrite.modForce

theorem referenceEnd {n dir start status} : Canonical (s.referenceEnd n dir start status) :=
  .ite (h.foldl fun _ _ ht => .ite ht.putProf ht.putProf).setLearning.setLearned.setFlag.set.fbEvent.commitProfile
    h.fbEvent

theorem adaptProfile {n dir} : Canonical (s.adaptProfile n dir) := by
  unfold State.adaptProfile
  exact (h.foldl fun _ _ ht => .ite ht.putProf ht).modForce

theorem budgetOnRetire {n status ptr dir} : Canonical (s.budgetOnRetire n status ptr dir) := by
  unfold State.budgetOnRetire
  extract_lets _ s1 _ s2
  have h1 : Canonical s1 := by
    unfold s1
    split
    · exact h.referenceEnd
    · split
      · exact .ite h.adaptProfile h
      · exact h
  have h2 : Canonical s2 := h1.modForce
  exact (Canonical.ite h2 h2.set.setFlag.setFlag).budgetCeil

theorem budgetStopped {n} : Canonical (s.budgetStopped n) := h.modForce.modSd.set.setFlag.setFlag

theorem budgetStart {n ptr tested dir pos again} : Canonical (s.budgetStart n ptr tested dir pos again) :=
  h.modSd.modForce.set.setFlag

theorem mapNowValid {n} : Canonical (s.mapNowValid n) := by
  unfold State.mapNowValid
  extract_lets _ _ _ _ s3
  have h3 : Canonical s3 := h.setFlag.modForce.putTemp
  exact (Canonical.ite h3.setLearned.setLearned.setFlag.fbEvent h3).budgetCeil

theorem mapInvalid {n} : Canonical (s.mapInvalid n) := h.setFlag.putConf.budgetCeil

theorem placeMap {n payload} : Canonical (s.placeMap n payload) := h.setBytes.setBytes

/-! ### The functions of Machine/TileBase.lean -/

theorem wakeFires {b} : Canonical (s.wakeFires b) := .ite h.setBit h

theorem showLowPower {n} : Canonical (s.showLowPower n) := h.setFlag.stopWindows

theorem showPush {n} : Canonical (s.showPush n) := by
  unfold State.showPush
  extract_lets _ _ _ _ s1
  have h1 : Canonical s1 := h.setFlag
  exact .ite h1.putThr.set.set.set.setFlag h1

theorem countRun {v} : Canonical (s.countRun v) := .ite h.update (.ite h.update h)

theorem putPower {v} : Canonical (s.putPower v) :=
  h.countRun.update.set.bump.stopHouseWindows.foldl fun _ _ ht => ht.showLowPower

theorem noteWake {was} : Canonical (s.noteWake was) := h.event

theorem dozeWake : Canonical (s.dozeWake) := .ite h.putPower.noteWake h

theorem wantCheckpoint {cause} : Canonical (s.wantCheckpoint cause) :=
  .ite h (.ite h (.ite h (Canonical.ite h.raiseCanopy h).update))

theorem homeRetired {n ptr g status x time} : Canonical (s.homeRetired n ptr g status x time) := by
  unfold State.homeRetired
  extract_lets _ _ _ _ s3
  have h3 : Canonical s3 := h.set.set.set.setFlag.setFlag
  exact (Canonical.ite h3.setFlag h3).eventAt

theorem estimatorStart {n again} : Canonical (s.estimatorStart n again) := by
  unfold State.estimatorStart
  split
  · exact h
  · exact h.budgetStart

theorem movingTick : Canonical (s.movingTick) := by
  unfold State.movingTick
  extract_lets _ s1
  have h1 : Canonical s1 := h.update
  exact .ite h1 (Canonical.ite h1.psClear h1).psProgram.update.setFlag

/-! ### The functions of Machine/TileOps.lean -/

theorem onEnter {n new} : Canonical (s.onEnter n new) := by
  unfold State.onEnter
  extract_lets _ s1 s2 s3 _ s5
  have h1 : Canonical s1 := h.modCur
  have h2 : Canonical s2 := .ite h1.sundialClear h1
  have h3 : Canonical s3 := .ite h2 h2.modCur.regulatorsOff
  have h5 : Canonical s5 := (Canonical.ite h3.coreSleep (.ite h3.coreFault h3.coreWake)).showLowPower.showPush
  exact (Canonical.ite h5.modTile.setFlag h5).showLevel

theorem goState {n new time} : Canonical (s.goState n new time) := by
  unfold State.goState
  extract_lets _ _ s2 s3
  have h2 : Canonical s2 := h.set.set.onEnter.govTile.raiseLine
  have h3 : Canonical s3 := .ite h2.endLoan h2
  exact (Canonical.ite h3.raiseLine.raiseCanopy (.ite h3.raiseCanopy h3)).eventAt

theorem freeze {n} : Canonical (s.freeze n) := h.setFlag

theorem needHoming {n} : Canonical (s.needHoming n) := h.setFlag

theorem syncPos {n} : Canonical (s.syncPos n) := h.set.set.refreshPhase

theorem shiftRan {n d} : Canonical (s.shiftRan n d) := h.modPlan

theorem movesDone {k g} : Canonical (s.movesDone k g) := by
  unfold State.movesDone
  extract_lets
  refine h.setGroup.foldl fun _ _ ht => ?_
  split
  · exact ht.complete
  · exact ht

theorem memberEnded {n seq status ran} : Canonical (s.memberEnded n seq status ran) := by
  unfold State.memberEnded
  extract_lets
  split
  · exact h
  · exact h.movesDone

theorem retireEvent {n status ptr g time} : Canonical (s.retireEvent n status ptr g time) := by
  unfold State.retireEvent
  extract_lets s1
  have h1 : Canonical s1 := .ite h.eventAt h
  exact .ite h1.wantCheckpoint h1

theorem retireStarted {n status x time} : Canonical (s.retireStarted n status x time) := by
  unfold State.retireStarted
  extract_lets s1
  have h1 : Canonical s1 := h.modCur.budgetOnRetire
  exact .ite h1.journal h1

theorem noteEmpty {n} : Canonical (s.noteEmpty n) := .ite h.modCur h

theorem retire {n status e time} : Canonical (s.retire n status e time) := by
  unfold State.retire
  extract_lets _ _ _ _ _ s4 s5 s6 _ s8
  have h4 : Canonical s4 := h.set.set.set.raiseLine.modPlan.noteEmpty.retireEvent
  have h5 : Canonical s5 := by
    unfold s5
    split
    · exact h4.retireStarted
    · exact h4
  have h6 : Canonical s6 := .ite h5.homeRetired h5
  have h8 : Canonical s8 := (Canonical.ite h6.setFlag h6).completeAt
  exact .ite h8.memberEnded h8

theorem flushWaiting {n k} : Canonical (s.flushWaiting n k) := by
  induction k generalizing s with
  | zero => exact h
  | succ k ih => exact .ite h (ih h.retire)

theorem wakeRequest {n} : Canonical (s.wakeRequest n) := by
  unfold State.wakeRequest
  extract_lets _ s2
  have h2 : Canonical s2 := h.endLoan.dozeWake
  exact .ite h2.modLull h2

theorem beginEnergise {n} : Canonical (s.beginEnergise n) := .ite h.modForce.modCur.energiseLegs.showPush.showLevel h

theorem energiseIfDue {n} : Canonical (s.energiseIfDue n) := .ite h.beginEnergise h

theorem placeSeg {n g} : Canonical (s.placeSeg n g) := h.setBytes.set.modPlan.modForce.wakeRequest.energiseIfDue

theorem cutOff {n status} : Canonical (s.cutOff n status) := by
  unfold State.cutOff
  extract_lets cut s1
  have h1 : Canonical s1 := h.modPlan.syncRates
  clear_value cut
  split
  · exact h1
  · extract_lets s2
    have h2 : Canonical s2 := h1.modPlan
    exact .ite (.ite h2.set.setFlag h2) h1.retire

theorem rechoose {n} : Canonical (s.rechoose n) := .ite (.ite (.ite h h.modLull) h.gatesLow.setFlag.modLull) h

theorem gateOff {n} : Canonical (s.gateOff n) := .ite h.rechoose h.gatesLow.setFlag.setFlag.setMaskBit.modLull

theorem enterLullCore {n} : Canonical (s.enterLullCore n) := by
  unfold State.enterLullCore
  extract_lets _ _ _ _ _ _ s6
  have h6 : Canonical s6 := h.modLull.walkAbort.cutOff.budgetStopped.freeze.goState.gateOff
  exact .ite h (.ite h6.setFlag h6)

theorem latchLull {n b} : Canonical (s.latchLull n b) :=
  (Canonical.ite h h.raiseLine).setBit.enterLullCore.rechoose

theorem noteDomains {mask} : Canonical (s.noteDomains mask) := h.foldl fun _ _ ht => .ite ht.update ht

theorem sendChainAlarm {mask} : Canonical (s.sendChainAlarm mask) := h.update.flood.noteDomains

theorem dropCmds {k} : Canonical (s.dropCmds k) := by
  unfold State.dropCmds
  split
  · exact h
  · extract_lets
    refine h.setGroup.foldl fun _ _ ht => ?_
    split
    · exact ht.complete
    · exact ht

theorem raiseGroupAlarm {k cause origin} : Canonical (s.raiseGroupAlarm k cause origin) := by
  unfold State.raiseGroupAlarm
  split
  · exact h
  · exact h.setGroup.dropCmds.flood.forTiles fun _ _ ht => ht.modLull.latchLull

theorem memberAlarm {n cause} : Canonical (s.memberAlarm n cause) := .ite h.raiseGroupAlarm h

theorem lullAlarm {n b} : Canonical (s.lullAlarm n b) :=
  .ite h.latchLull (Canonical.ite h.modLull h).latchLull.memberAlarm

theorem latchDomains {mask} : Canonical (s.latchDomains mask) := h.forTiles fun _ _ ht => .ite ht.lullAlarm ht

theorem updateDomains : Canonical (s.updateDomains) := by
  unfold State.updateDomains
  extract_lets _ _ _ s1 _ _ s3
  have h1 : Canonical s1 := h.set
  have h3 : Canonical s3 := (Canonical.ite h1.sendChainAlarm h1).set
  exact (Canonical.ite h3.event h3).latchDomains

theorem lullSource {n b} : Canonical (s.lullSource n b) := h.lullAlarm.updateDomains

theorem haltLull {n} : Canonical (s.haltLull n) := .ite h.lullSource h

theorem releaseLull {n b} : Canonical (s.releaseLull n b) :=
  (Canonical.ite h.raiseLine h).setBit.rechoose.updateDomains

theorem tileFault {n cause} : Canonical (s.tileFault n cause) := by
  unfold State.tileFault
  extract_lets _ _ _ _ _ s6
  have h6 : Canonical s6 := h.walkAbort.cutOff.budgetStopped.freeze.set.modLull.goState.gateOff
  exact .ite h (Canonical.ite h6.journal h6).memberAlarm

/-! ### The functions of Machine/FeedOps.lean -/

theorem modFeed {k f} : Canonical (s.modFeed k f) := h.update

theorem modEmu {j f} : Canonical (s.modEmu j f) := h.update

theorem showAxpos {k} : Canonical (s.showAxpos k) := h.setInt

theorem rebase {k} : Canonical (s.rebase k) := .ite h.modFeed.showAxpos h

theorem feedAdd {k d} : Canonical (s.feedAdd k d) := by
  unfold State.feedAdd
  extract_lets _ s2
  have h2 : Canonical s2 := h.set.modFeed
  exact .ite h2.showAxpos h2

theorem countEdge {k d} : Canonical (s.countEdge k d) := by
  unfold State.countEdge
  extract_lets _ _ _ _ _ s3 s4
  have h3 : Canonical s3 := h.feedAdd.set.setFlag.setFlag
  have h4 : Canonical s4 := by
    unfold s4
    split
    · exact .ite h3.set.setInt h3.set.set
    · exact h3.set.set
  exact h4.modFeed

theorem feedError {k kind time} : Canonical (s.feedError k kind time) := by
  unfold State.feedError
  extract_lets _ s2
  have h2 : Canonical s2 := (Canonical.ite h.setFlag (.ite h.setFlag h.setFlag)).bump
  exact .ite h2.modFeed.event h2

theorem feedStill {k} : Canonical (s.feedStill k) := h.set.set.modFeed

theorem inputMeets {k pin rising} : Canonical (s.inputMeets k pin rising) := by
  unfold State.inputMeets
  refine h.forTiles fun _ _ ht => ?_
  split
  · exact ht
  · exact .ite ht.modPlan ht

theorem emuShow {j} : Canonical (s.emuShow j) := by
  unfold State.emuShow
  extract_lets _ _ _ _ _ s3
  have h3 : Canonical s3 := (Canonical.ite h.setFlag h).modEmu.setFlag
  exact (Canonical.ite h3.set h3).setFlag

theorem emuPins {j} : Canonical (s.emuPins j) := h.modEmu

theorem emuPut {j c} : Canonical (s.emuPut j c) := h.setInt.set.emuPins

theorem posJumped {n before} : Canonical (s.posJumped n before) :=
  (h.foldl fun _ _ ht => .ite ht.rebase ht).foldl fun _ _ ht => .ite (Canonical.ite ht ht.modEmu).emuShow ht

/-! ### The functions of Machine/PlanOps.lean -/

theorem softEvent {n ptr asked clamped time} : Canonical (s.softEvent n ptr asked clamped time) := h.eventAt

theorem fixTarget {n e t} : Canonical (s.fixTarget n e t) := by
  unfold State.fixTarget
  extract_lets _ s1
  have h1 : Canonical s1 := h.modPlan
  exact .ite h1.softEvent h1

theorem setEvtSlot {n k e} : Canonical (s.setEvtSlot n k e) := h.modTile

theorem retakeSides {n} : Canonical (s.retakeSides n) := h.foldl fun _ _ ht => .ite ht.setEvtSlot ht

theorem eventMeets {m k} : Canonical (s.eventMeets m k) := h.forTiles fun _ _ ht => .ite ht.modPlan ht

theorem firePosEvent {n k rising time} : Canonical (s.firePosEvent n k rising time) := by
  unfold State.firePosEvent
  extract_lets _ _ s1
  have h1 : Canonical s1 := h.setBit
  exact (Canonical.ite h1 h1.setBit).setEvtSlot.raiseLine.eventAt.eventMeets

theorem stepPosEvent {n k old x time} : Canonical (s.stepPosEvent n k old x time) := by
  unfold State.stepPosEvent
  extract_lets _ _ _ new
  split
  · exact h
  · clear_value new
    split
    · exact h.setEvtSlot
    · extract_lets s1
      have h1 : Canonical s1 := h.setEvtSlot
      exact .ite h1.firePosEvent h1

theorem stepPosEvents {n time} : Canonical (s.stepPosEvents n time) := h.foldl fun _ _ ht => ht.stepPosEvent

theorem cancelPosEvents {n time} : Canonical (s.cancelPosEvents n time) := by
  unfold State.cancelPosEvents
  refine h.foldl fun _ _ ht => ?_
  extract_lets s1
  have h1 : Canonical s1 := ht.setBit.setBit
  exact .ite h1.raiseLine.eventAt ht

theorem reassign {n q homePos} : Canonical (s.reassign n q homePos) :=
  h.set.set.modPlan.syncPos.set.refreshPhase.posJumped.retakeSides

theorem wrapTick {n} : Canonical (s.wrapTick n) := .ite h h.modPlan.syncPos.posJumped.retakeSides

theorem restAfterEnd {n time} : Canonical (s.restAfterEnd n time) := .ite h.goState h

theorem endAtRest {n status e freezes time} : Canonical (s.endAtRest n status e freezes time) := by
  unfold State.endAtRest
  extract_lets s1
  have h1 : Canonical s1 := .ite h.freeze h
  exact (Canonical.ite h1.modForce h1).modPlan.retire.restAfterEnd

theorem yieldCap {n} : Canonical (s.yieldCap n) := h.modCur.putCap.setFlag

theorem finishStop {n e time} : Canonical (s.finishStop n e time) := by
  unfold State.finishStop
  extract_lets
  split
  · exact h.endAtRest.flushWaiting.restAfterEnd
  · exact h.endAtRest
  · exact h.endAtRest
  · exact (Canonical.ite h.yieldCap h).endAtRest
  · exact (Canonical.ite h.freeze h).modPlan.retire.flushWaiting.restAfterEnd
  · exact .ite h.endAtRest h.modPlan.modForce
  · exact h.endAtRest
  · exact h.endAtRest
  · exact h.endAtRest

theorem brake {n how accStop jerkStop} : Canonical (s.brake n how accStop jerkStop) := by
  unfold State.brake
  split
  · exact h
  · exact h.modPlan

theorem homePhase {n e ph dist} : Canonical (s.homePhase n e ph dist) := h.modPlan.set

theorem homeFail {n e result time} : Canonical (s.homeFail n e result time) := h.modPlan.syncRates.endAtRest

theorem homeDone {n q homePos time} : Canonical (s.homeDone n q homePos time) := by
  unfold State.homeDone
  extract_lets s1
  have h1 : Canonical s1 := h.reassign
  split
  · exact h1
  · exact h1.endAtRest

theorem homeStart {n e time} : Canonical (s.homeStart n e time) := by
  unfold State.homeStart
  extract_lets
  split
  · exact h.homeDone
  · exact h.homePhase
  · exact h.homePhase
  · exact .ite h.homeFail (.ite h.homeFail h.homePhase)
  · exact .ite h.homeFail (.ite h.homeFail h.homePhase)
  · exact .ite h.homePhase h.homePhase

theorem homeRest {n e time} : Canonical (s.homeRest n e time) := by
  unfold State.homeRest
  extract_lets
  split
  · exact .ite h (.ite h.homePhase h.homePhase)
  · exact .ite h (.ite h.homePhase (.ite h.homePhase h.homePhase))
  · exact h.homeDone
  · exact .ite h.homeDone h

theorem homeCapture {n e q accStop jerkStop} : Canonical (s.homeCapture n e q accStop jerkStop) := h.modPlan.brake

theorem endOnStart {n e time} : Canonical (s.endOnStart n e time) := h.endAtRest

theorem beginType {n e joint time} : Canonical (s.beginType n e joint time) := by
  unfold State.beginType
  extract_lets _ _ _ _ _ _ _ s2
  have h2 : Canonical s2 := h.modPlan.setFlag.setFlag.scaleRequest
  split
  · exact h.endOnStart
  · exact h.fixTarget
  · exact h.fixTarget
  · exact .ite h.modPlan h
  · exact h.setFlag.homeStart
  · exact .ite h2.endOnStart h2
  · exact h

theorem startHead {n tick joint} : Canonical (s.startHead n tick joint) := by
  unfold State.startHead
  extract_lets _ _ _ s2
  have h2 : Canonical s2 := (Canonical.ite h.setFlag h).setFlag
  exact (Canonical.ite h2 h2.goState).modPlan.startCurrent.modPlan.beginType.estimatorStart

theorem restartHeld {n x tick} : Canonical (s.restartHeld n x tick) := by
  unfold State.restartHeld
  extract_lets _ _ _ _ _ s4
  have h4 : Canonical s4 := (Canonical.ite h h.goState).setFlag.modPlan.startCurrent
  exact (Canonical.ite h4 h4.beginType).estimatorStart

theorem settleHandover {n} : Canonical (s.settleHandover n) := .ite h.startHead h

theorem startDue {n tick} : Canonical (s.startDue n tick) := by
  unfold State.startDue
  extract_lets
  split
  · exact h
  · split
    · exact h.settleHandover
    · split
      · exact .ite h.restartHeld h
      · split
        · exact h
        · split
          · exact h.retire
          · exact .ite h.retire.freeze.eventAt (.ite h.retire.freeze (.ite h.startHead h))

theorem noteRun {n} : Canonical (s.noteRun n) := h.modPlan

theorem putMotion {n e m} : Canonical (s.putMotion n e m) :=
  .ite h.modPlan.set.set.syncPos.syncRates.noteRun h.modPlan.syncPos.syncRates.noteRun

theorem landed {n e time} : Canonical (s.landed n e time) :=
  .ite h.homeRest (.ite h.softEvent.finishStop h.finishStop)

theorem blended {n e time} : Canonical (s.blended n e time) := by
  unfold State.blended
  extract_lets s1
  have h1 : Canonical s1 := h.retire
  exact .ite h1.modPlan h1.modPlan

theorem velocityOver {n e time} : Canonical (s.velocityOver n e time) := by
  unfold State.velocityOver
  split
  · exact h
  · split
    · exact h
    · exact .ite h (.ite h.brake (.ite h.blended h.brake))

theorem runTick {n e tick} : Canonical (s.runTick n e tick) := by
  unfold State.runTick
  extract_lets _ _ _ _ _ _ _ _ _ _ s5
  have h5 : Canonical s5 := h.modPlan.putMotion.modPlan.movingTick.stepPosEvents
  split
  · exact h5.landed
  · exact h5.blended
  · exact h5.velocityOver

/-! ### The functions of Machine/GroupOps.lean -/

theorem refuseCmd {n} : Canonical (s.refuseCmd n) := h.setFlag

theorem unfreeze {n} : Canonical (s.unfreeze n) := by
  unfold State.unfreeze
  extract_lets _ s2 s3
  have h2 : Canonical s2 := (Canonical.ite h.modCur h).setFlag.modForce
  have h3 : Canonical s3 := by
    unfold s3
    split
    · exact h2.putCap
    · exact h2
  exact h3.modCur.setFlag.energiseIfDue

theorem restIfDone {n} : Canonical (s.restIfDone n) := .ite h.restAfterEnd h

theorem undoReplace {n} : Canonical (s.undoReplace n) := by
  unfold State.undoReplace
  extract_lets s1
  have h1 : Canonical s1 := h.modPlan
  split
  · exact h
  · exact .ite (h1.foldl fun _ _ ht => ht.complete) (h1.modPlan.setFlag.foldl fun _ _ ht => ht.complete)

theorem keepReplace {n} : Canonical (s.keepReplace n) := by
  unfold State.keepReplace
  split
  · exact h
  · exact h.modPlan.foldl fun _ _ ht => ht.complete

theorem stopTile {n abort accStop jerkStop how} : Canonical (s.stopTile n abort accStop jerkStop how) := by
  unfold State.stopTile
  extract_lets s1 _ s2
  have h1 : Canonical s1 := h.settleHandover.undoReplace.freeze.modPlan
  have h2 : Canonical s2 := by
    unfold s2
    split
    · exact h1.endAtRest
    · exact h1
  split
  · exact .ite h1 h1.brake
  · exact (Canonical.ite h2.flushWaiting h2).restIfDone

theorem issueGroupCmd {k cmd target accStop jerkStop ref} :
    Canonical (s.issueGroupCmd k cmd target accStop jerkStop ref) := by
  unfold State.issueGroupCmd
  split
  · exact h
  · exact .ite h.waitStep (h.setGroup.foldl fun _ _ ht => .ite ht ht.sendRouted)

theorem freezeCmd {n} : Canonical (s.freezeCmd n).2 := .ite_snd h.issueGroupCmd h.freeze.restIfDone

theorem stopCmd {n abort} : Canonical (s.stopCmd n abort).2 := .ite_snd h.issueGroupCmd h.stopTile

theorem flushCmd {n} : Canonical (s.flushCmd n).2 := .ite_snd h.refuseCmd h.flushWaiting

theorem resumeCmd {n} : Canonical (s.resumeCmd n).2 := by
  unfold State.resumeCmd
  split
  · exact h.refuseCmd
  · split
    · exact .ite_snd h.retire.unfreeze h.unfreeze
    · exact h.unfreeze

theorem resumeRetryCmd {n} : Canonical (s.resumeRetryCmd n).2 := by
  unfold State.resumeRetryCmd
  split
  · exact h.refuseCmd
  · split
    · exact .ite_snd h.modPlan.unfreeze h.refuseCmd
    · exact h.refuseCmd

theorem walkRest {n} : Canonical (s.walkRest n) := by
  unfold State.walkRest
  extract_lets s1
  have h1 : Canonical s1 := h.modPlan.syncRates
  exact .ite h1.goState h1

theorem walkFail {n result} : Canonical (s.walkFail n result) := h.walkRest.walkEnd

theorem walkAbortHold {n} : Canonical (s.walkAbortHold n) := by
  unfold State.walkAbortHold
  extract_lets s1
  have h1 : Canonical s1 := h.walkAbort
  exact .ite (.ite h1.goState h1) h

theorem trailCmd {n cmd} : Canonical (s.trailCmd n cmd).2 := by
  unfold State.trailCmd
  extract_lets s1
  have h1 : Canonical s1 := .ite h h.walkAbortHold
  split
  · exact h1
  · exact h1.stopCmd
  · exact h1.stopCmd
  · exact h1.flushCmd
  · exact h1.freezeCmd
  · exact h1.resumeCmd
  · exact h1.resumeRetryCmd
  · exact h1.refuseCmd

theorem refuseReplace {n status} : Canonical (s.refuseReplace n status).2 := h.setFlag

theorem noteReplaced {n ref} : Canonical (s.noteReplaced n ref) := h.modPlan

theorem replaceTarget {n ptr target lim ref} : Canonical (s.replaceTarget n ptr target lim ref).2 := by
  unfold State.replaceTarget
  extract_lets
  split
  · exact h.refuseReplace
  · split
    · exact h.refuseReplace
    · split
      · exact .ite_snd h.refuseReplace h.noteReplaced.fixTarget
      · exact .ite_snd h.refuseReplace h.noteReplaced.modPlan

theorem groupCmdOn {m c} : Canonical (s.groupCmdOn m c).2 := by
  unfold State.groupCmdOn
  extract_lets s1
  have h1 : Canonical s1 := .ite h.settleHandover h
  split
  · exact h.stopTile
  · split
    · exact h.stopTile
    · split
      · exact h.freeze
      · split
        · exact .ite_snd h.refuseCmd h.unfreeze
        · split
          · exact .ite_snd h1.modPlan h1.refuseReplace
          · exact h1.refuseReplace

theorem groupCmdAll {k c} : Canonical (s.groupCmdAll k c) := by
  unfold State.groupCmdAll
  extract_lets r
  have hr : Canonical r.2 := foldl_proj Prod.snd h fun _ _ ha => ha.groupCmdOn
  split
  · exact hr.complete
  · exact hr

theorem applyGroupCmds {k tick} : Canonical (s.applyGroupCmds k tick) := by
  unfold State.applyGroupCmds
  extract_lets
  split
  · exact h
  · exact h.applyScale.setGroup.foldl fun _ _ ht => ht.foldl fun _ _ hu => hu.groupCmdAll

/-! ### The functions of Machine/SundialOps.lean -/

theorem quotient {num den} : Canonical (s.quotient num den).2 := .ite_snd h.fresh h

theorem sdResistance {f} : Canonical (s.sdResistance f).2 := h.quotient

theorem sdEnterMode {n} : Canonical (s.sdEnterMode n) := .ite h h.modSd.set.showDecim.setFlag.raiseLine

theorem sdScore {n x f} : Canonical (s.sdScore n x f) := h.modSd

theorem sdTrack {n time} : Canonical (s.sdTrack n time) := by
  unfold State.sdTrack
  extract_lets _ _ _ _ _ _ _ s4
  have h4 : Canonical s4 := h.setInt.setInt.set.set
  split
  · exact h4.modSd
  · exact .ite h4.fresh.modSd h4.modSd

theorem fixTemp {n} : Canonical (s.fixTemp n) := .ite h.putTemp h

theorem sdResist {n f} : Canonical (s.sdResist n f) := by
  unfold State.sdResist
  split
  · exact h.fixTemp
  · split
    · exact h
    · extract_lets _ _ s2
      have h2 : Canonical s2 := h.sdResistance
      exact .ite (.ite h2.quotient.putTemp h2.putTemp) h

theorem sdEvent {n flag kind payload} : Canonical (s.sdEvent n flag kind payload) := h.setFlag.raiseLine.event

theorem sdTempRange {n} : Canonical (s.sdTempRange n) := by
  unfold State.sdTempRange
  extract_lets _ _ _ _ s1
  have h1 : Canonical s1 := h.modSd
  exact .ite h1.sdEvent h1

theorem snapshot {n} : Canonical (s.snapshot n) := .ite h.journal h

theorem sdOutputs {n x f time} : Canonical (s.sdOutputs n x f time) := by
  unfold State.sdOutputs
  extract_lets s1
  have h1 : Canonical s1 := by
    unfold s1
    split
    · exact h.sdScore
    · exact h
  exact h1.sdTrack.showScores.set.set.putConf

theorem sdFitOutputs {n x f time} : Canonical (s.sdFitOutputs n x f time) := by
  unfold State.sdFitOutputs
  extract_lets _ s1 s2
  have h1 : Canonical s1 := .ite h.set.setFlag h.set.setFlag
  have h2 : Canonical s2 := by
    unfold s2
    split
    · extract_lets _ s4
      have h4 : Canonical s4 := h1.modSd
      exact .ite h4.set h4.set
    · exact h1
  exact h2.set.set

theorem correctPos {n by_} : Canonical (s.correctPos n by_) := h.modPlan.syncPos.shiftRan

theorem lostStep {n change} : Canonical (s.lostStep n change) := by
  unfold State.lostStep
  extract_lets _ _ _ _ s1
  have h1 : Canonical s1 := h.sdEvent.snapshot
  exact .ite h1.modSd (.ite h1.correctPos.setInt h1.needHoming)

theorem sdCandidate {n} : Canonical (s.sdCandidate n) := .ite (.ite h.modSd h.modSd) h

theorem sdDrift {n cost} : Canonical (s.sdDrift n cost) := by
  unfold State.sdDrift
  split
  · exact h
  · extract_lets _ _ s1
    have h1 : Canonical s1 := h.modSd.set
    exact .ite h (.ite h1.modSd.sdEvent (.ite h1.modSd h1))

theorem sdDecide {n slip} : Canonical (s.sdDecide n slip) := by
  unfold State.sdDecide
  extract_lets _ _ _ _ _ s2
  have h2 : Canonical s2 := (Canonical.ite h.lostStep h).sdCandidate
  exact .ite h2.modSd h2

theorem sdCount {n time} : Canonical (s.sdCount n time) := by
  unfold State.sdCount
  extract_lets s1
  have h1 : Canonical s1 := h.modSd
  exact .ite h1.modSd.snapshot h1.modSd

theorem noteExtremes {n} : Canonical (s.noteExtremes n) := h.modPlan

theorem walkFit {n w x f} : Canonical (s.walkFit n w x f) := by
  unfold State.walkFit
  extract_lets
  split
  · exact .ite h.sdResistance.modSd h
  · exact .ite h.modSd h
  · exact .ite h.modSd h
  · exact h

theorem sdScored {n x f time} : Canonical (s.sdScored n x f time) := by
  unfold State.sdScored
  extract_lets _ _ s1
  have h1 : Canonical s1 := h.sdOutputs.noteExtremes
  exact .ite h1.modSd h1.sdDrift.sdDecide

theorem sdUpdate {n x c} : Canonical (s.sdUpdate n x c).1 := by
  unfold State.sdUpdate
  extract_lets s1 s2 _ _ _ f s4 s5 s6
  have h1 : Canonical s1 := h.setFlag
  have h2 : Canonical s2 := h1.sdEnterMode
  have h4 : Canonical s4 := h2.fixTemp.sdResist.sdFitOutputs
  have h5 : Canonical s5 := by
    unfold s5
    clear_value f
    split
    · exact h4.walkFit
    · exact h4
  have h6 : Canonical s6 := .ite h5.sdTempRange h5
  exact .ite_fst h1 (.ite_fst h2 (.ite_fst h6.putConf.sdCount h6.sdScored.sdCount))

theorem stallNow {n} : Canonical (s.stallNow n) := by
  unfold State.stallNow
  extract_lets _ _ _ _ _ _ s2 _ _ _ _ s6 s7
  have h2 : Canonical s2 := h.modSd.modPlan
  have h6 : Canonical s6 := (Canonical.ite h2.modPlan.syncPos h2).syncRates.sdEvent.snapshot
  have h7 : Canonical s7 := h6.sundialClear
  split
  · exact h.modSd
  · exact .ite (.ite h7.homeFail h7.homePhase)
      (Canonical.ite h6 h6.needHoming).cancelPosEvents.retire.freeze.modForce.setFlag.goState.sundialClear.memberAlarm

theorem stallDecisionOf {n} : Canonical (s.stallDecisionOf n) := .ite h.stallNow h

theorem confDecayOf {n} : Canonical (s.confDecayOf n) := .ite h.putConf.modSd h

theorem confLowOf {n} : Canonical (s.confLowOf n) := by
  unfold State.confLowOf
  extract_lets _ _ _ _ s2 s3
  have h2 : Canonical s2 := h.modSd.sdEvent
  have h3 : Canonical s3 := .ite h2.needHoming h2
  exact .ite (.ite h3.trailCmd h3) h

theorem mapError {n} : Canonical (s.mapError n) := h.setFlag.raiseLine

theorem mapVerify {n} : Canonical (s.mapVerify n) := .ite h.mapInvalid (.ite h.mapNowValid h.mapInvalid.tileFault)

theorem mapRestore {n} : Canonical (s.mapRestore n) := by
  unfold State.mapRestore
  split
  · exact h.mapInvalid
  · exact h.placeMap.mapVerify

theorem mapLoadOf {n} : Canonical (s.mapLoadOf n) := .ite h.mapError h.mapRestore

theorem mapCheckOf {n} : Canonical (s.mapCheckOf n) := .ite h.mapError h.mapVerify

theorem walkStartOf {n} : Canonical (s.walkStartOf n) :=
  .ite h (.ite h.set.set (.ite h.set.set (.ite h.set.set h.modSd.setFlag.set.set.govTile.set.set.set.showLevel)))

theorem putWalk {n w} : Canonical (s.putWalk n w) := h.modSd

theorem walkCreep {n w} : Canonical (s.walkCreep n w) := .ite h.putWalk h.modPlan.syncPos.noteRun.putWalk

theorem walkPass {n w} : Canonical (s.walkPass n w) := by
  unfold State.walkPass
  extract_lets _ _ _ _ _ _ _ s3
  have h3 : Canonical s3 := (Canonical.ite h h.goState).modPlan.syncPos.syncRates.noteRun
  exact .ite h3.putWalk h3

theorem walkTurn {n w} : Canonical (s.walkTurn n w) :=
  .ite h.putWalk (.ite h.putWalk.set.showLevel h.putWalk.walkRest)

theorem walkNextStop {n w} : Canonical (s.walkNextStop n w) :=
  .ite (.ite h.putWalk h.putWalk) (.ite h.putWalk (.ite h.putWalk.set.showLevel h.putWalk))

theorem walkTick {n w} : Canonical (s.walkTick n w) := by
  unfold State.walkTick
  extract_lets _ _ s1
  have h1 : Canonical s1 := h.putWalk
  exact .ite h1 <| .ite h1.walkRest <| .ite (.ite h1.putWalk h1.walkCreep) <|
    .ite (.ite h1.walkCreep (.ite h1.walkNextStop h1.putWalk)) <| .ite (.ite h1.putWalk h1.putWalk) <|
    .ite h1.walkTurn h1.walkPass

theorem newMap {n o k v} : Canonical (s.newMap n o k v) := h.store

theorem walkBuildL {n w} : Canonical (s.walkBuildL n w) := h.foldl fun _ _ ht => ht.newMap

theorem walkBuildK {n w} : Canonical (s.walkBuildK n w) := by
  unfold State.walkBuildK
  extract_lets r
  have hr : Canonical r.1 := foldl_proj Prod.fst h fun _ _ ha => ha.newMap
  exact hr.newMap.newMap

theorem walkHeader {n w} : Canonical (s.walkHeader n w) :=
  h.fresh.newMap.newMap.newMap.newMap.newMap.newMap.newMap.newMap.newMap.newMap.newMap.newMap.newMap.setBytes

theorem walkCableModel {n w} : Canonical (s.walkCableModel n w) := by
  unfold State.walkCableModel
  split
  · exact h.newMap.newMap.newMap.newMap.newMap.setBytes

/-- Unfolded under the application, as in `sfeHouseLost`. -/
theorem walkSucceed {n w} : Canonical (s.walkSucceed n w) := by
  conv => arg 1; fun; fun; fun; delta State.walkSucceed
  extract_lets s1 s2 _ _ s3 s4 s5
  have h2 : Canonical s2 := h.newMap.newMap.newMap
  have h4 : Canonical s4 := h2.setBytes.mapNowValid.sundialClear
  have h5 : Canonical s5 := .ite h4.set.set h4
  clear_value s5
  exact .ite h5.psWriteMap.walkEnd h5.walkEnd

theorem walkPhase {n w ph row goal} : Canonical (s.walkPhase n w ph row goal) := h.fresh.putWalk.set.set.set.showLevel

theorem walkTemp {n} : Canonical (s.walkTemp n) := h.putTemp

theorem walkCable {n ring charge freq} : Canonical (s.walkCable n ring charge freq).2 := h.quotient.quotient

theorem walkCompleteOf {n settle charge freq} : Canonical (s.walkCompleteOf n settle charge freq) := by
  unfold State.walkCompleteOf
  extract_lets
  split
  · exact h
  · extract_lets _ s2 _ s3
    have h2 : Canonical s2 := h.walkBuildK
    have h3 : Canonical s3 := h.set
    split
    · exact h
    · split
      · exact .ite h.walkEnd.showLevel h.walkCable.walkPhase
      · exact h.walkPhase
      · exact .ite h.walkEnd.showLevel h.walkBuildL.walkCableModel.walkPhase
      · exact .ite h2.walkEnd.showLevel h2.walkHeader.walkPhase.walkTemp
      · exact .ite h3.walkEnd.showLevel h3.walkSucceed.showLevel
      · exact h

theorem walkTimeoutOf {n} : Canonical (s.walkTimeoutOf n) := .ite h.walkFail.showLevel h

theorem walkAbortOf {n} : Canonical (s.walkAbortOf n) := h.walkAbortHold.showLevel

/-! ### The functions of Machine/Trail.lean -/

theorem deviation {n k at_} : Canonical (s.deviation n k at_) := by
  unfold State.deviation
  extract_lets _ s1 _ _ s2 s3 _ s5
  have h1 : Canonical s1 := .ite h h.modFeed
  have h2 : Canonical s2 := h1.setInt
  have h3 : Canonical s3 := h2.setFlag
  have h5 : Canonical s5 := h3.modFeed.eventAt
  exact .ite h1 (.ite (.ite h3 (.ite h5.trailCmd h5)) (.ite h2.modFeed h2))

theorem fieldTick {n at_} : Canonical (s.fieldTick n at_) :=
  (h.foldl fun _ _ ht => .ite ht.deviation ht).foldl fun _ _ ht => .ite ht.emuShow ht

theorem dwellEndOf {n} : Canonical (s.dwellEndOf n) := by
  unfold State.dwellEndOf
  split
  · exact .ite h.endAtRest h
  · exact h

theorem velocityDurationEndOf {n} : Canonical (s.velocityDurationEndOf n) := by
  unfold State.velocityDurationEndOf
  split
  · exact .ite h.brake h
  · exact h

theorem placeTracked {d g} : Canonical (s.placeTracked d g) := by
  unfold State.placeTracked
  extract_lets _ _ s1
  have h1 : Canonical s1 := h.placeSeg
  exact .ite h1.track.accepted h1.complete

theorem placeGroup {n g release drop} : Canonical (s.placeGroup n g release drop) := h.placeSeg.modPlan

theorem deliverGroup {n g release drop} : Canonical (s.deliverGroup n g release drop) := .ite h.update h.placeGroup

theorem heldPlaceOf {n} : Canonical (s.heldPlaceOf n) := by
  unfold State.heldPlaceOf
  extract_lets
  split
  · exact .ite h h.update.placeGroup
  · split
    · exact h
    · exact .ite h h.update.placeTracked

theorem commitPos {n v} : Canonical (s.commitPos n v) :=
  h.modPlan.syncPos.syncRates.sundialClear.posJumped.shiftRan.retakeSides

theorem positionWriteOf {n} : Canonical (s.positionWriteOf n) := by
  unfold State.positionWriteOf
  extract_lets _ s1
  have h1 : Canonical s1 := h.modPlan
  split
  · exact h
  · exact .ite h1.commitPos h1.setFlag

theorem targetReplaceOf {n} : Canonical (s.targetReplaceOf n) := h.replaceTarget

theorem capWriteOf {n ofVel v} : Canonical (s.capWriteOf n ofVel v) := .ite h.writeCapV h.set.scaleRequest

theorem posEventArmOf {n k v} : Canonical (s.posEventArmOf n k v) := by
  unfold State.posEventArmOf
  extract_lets _ _ _ _ s4
  have h4 : Canonical s4 := h.set.set.set.set
  exact .ite h4.setBit.setEvtSlot h4.setBit

/-! ### The functions of Machine/TileState.lean -/

theorem sleepExpiry {n} : Canonical (s.sleepExpiry n) := .ite h.goState h

theorem deEnergise {n} : Canonical (s.deEnergise n) := .ite h.modCur.showLevel h

theorem holdExpiry {n} : Canonical (s.holdExpiry n) := .ite h.deEnergise h

theorem wakeDone {n} : Canonical (s.wakeDone n) := .ite h.modLull.goState.haltLull.energiseIfDue h

theorem energiseDone {n} : Canonical (s.energiseDone n) := .ite h.modCur.goState h

theorem deenergiseDone {n} : Canonical (s.deenergiseDone n) := .ite h.goState.energiseIfDue h

theorem releaseGates {n} : Canonical (s.releaseGates n) := by
  unfold State.releaseGates
  extract_lets _ s2
  have h2 : Canonical s2 := h.setFlag.modLull
  exact .ite h2 h2.gatesLow.setFlag.setMaskBit

theorem lullExit {n} : Canonical (s.lullExit n) :=
  .ite (Canonical.ite h.needHoming h).releaseGates.setFlag.goState h

theorem flushLater {n} : Canonical (s.flushLater n) := h.modPlan

theorem tileResetOf {n pass} : Canonical (s.tileResetOf n pass) := by
  unfold State.tileResetOf
  extract_lets s1 _ _ s4
  have h1 : Canonical s1 := h.set
  have h4 : Canonical s4 :=
    (Canonical.ite h1.flushLater h1.flushWaiting).set.set.putThresholds.putThresholds.sundialClear.coreReset
  exact .ite h (.ite (.ite h4.releaseGates.needHoming.goState h4.set) h4)

/-! ### The functions of Machine/Windows.lean -/

theorem putTripSticky {n x b} : Canonical (s.putTripSticky n x b) := .ite h.setFlag h.setFlag

theorem tripEval {n x} : Canonical (s.tripEval n x) := .ite (.ite h h.putTripSticky.event.lullSource.wakeFires) h

theorem winEvent {n w} : Canonical (s.winEvent n w) := .ite h.modLegs.event h.bump

theorem winLatch {n w} : Canonical (s.winLatch n w) := by
  unfold State.winLatch
  extract_lets s1 s2 s3 s4
  have h1 : Canonical s1 := h.setBit
  have h2 : Canonical s2 := .ite h1.modForce h1
  have h3 : Canonical s3 := .ite h2.set.setBit h2
  have h4 : Canonical s4 := .ite h3.raiseLine.winEvent h3
  exact .ite h (.ite h (.ite h4.wakeRequest.wakeFires h4))

theorem winAct {n w} : Canonical (s.winAct n w) := by
  unfold State.winAct
  extract_lets _ _ _ s2 s3
  have h2 : Canonical s2 := h.modLegs.setRaw
  have h3 : Canonical s3 := .ite h2.modChop h2
  exact (Canonical.ite h3.showTripActive.tripEval (.ite h3.showTripActive.tripEval h3)).winLatch

theorem winResult {n w level} : Canonical (s.winResult n w level) := by
  unfold State.winResult
  extract_lets s1
  have h1 : Canonical s1 := h.modLegs
  exact .ite h1 h1.winAct

theorem endHolds {n} : Canonical (s.endHolds n) := h.foldl fun _ _ ht => .ite ht ht.winAct

theorem showSupply : Canonical (s.showSupply) := (Canonical.ite h.wakeFires h).update.setFlag.setFlag

theorem hwinEventOf {x} : Canonical (s.hwinEventOf x) := .ite h.update.event h

theorem hwinLatch {x} : Canonical (s.hwinLatch x) := by
  unfold State.hwinLatch
  extract_lets s1 s2 s3 s4
  have h1 : Canonical s1 := h.setBit
  have h2 : Canonical s2 := .ite h1.set.setBit h1
  have h3 : Canonical s3 := .ite h2.hwinEventOf h2
  have h4 : Canonical s4 := .ite h3.event h3
  exact .ite h (.ite h4.wakeFires h4)

theorem hwinAct {x} : Canonical (s.hwinAct x) := by
  unfold State.hwinAct
  extract_lets _ _ s2
  have h2 : Canonical s2 := h.update.setBit.setBit
  exact (Canonical.ite h2.showSupply h2).hwinLatch

theorem hwinResult {x level} : Canonical (s.hwinResult x level) := by
  unfold State.hwinResult
  extract_lets s1
  have h1 : Canonical s1 := h.update
  exact .ite h1 h1.hwinAct

theorem endHouseHolds : Canonical (s.endHouseHolds) := h.foldl fun _ _ ht => .ite ht ht.hwinAct

theorem clockTile {old n} : Canonical (s.clockTile old n) := by
  unfold State.clockTile
  extract_lets s1 s2
  have h1 : Canonical s1 := h.capture.clockPhase
  have h2 : Canonical s2 := .ite h1 h1.endRefresh
  exact .ite h2 h2.endHolds

theorem clockAll {old} : Canonical (s.clockAll old) := (h.forTiles fun _ _ ht => ht.clockTile).endHouseHolds

theorem hwinClear {x} : Canonical (s.hwinClear x) := .ite h h.setBit.setBit

theorem writeWinStatus {n v} : Canonical (s.writeWinStatus n v) := by
  unfold State.writeWinStatus
  extract_lets s1
  have h1 : Canonical s1 := h.foldl fun _ _ ht => .ite ht.winClear ht
  exact .ite h1.setFlag h1

theorem writeHwinStatus {v} : Canonical (s.writeHwinStatus v) := h.foldl fun _ _ ht => .ite ht.hwinClear ht

theorem refuseWin {n} : Canonical (s.refuseWin n) := h.setFlag

theorem freeRaw {n w} : Canonical (s.freeRaw n w) := h.fresh.setRaw.modLegs

theorem writeWinCfg {n w v canopy} : Canonical (s.writeWinCfg n w v canopy) := by
  unfold State.writeWinCfg
  extract_lets _ _ _ _ s1 s2
  have h1 : Canonical s1 := h.wr
  have h2 : Canonical s2 := .ite h1.freeRaw (.ite h1.stirWindow h1)
  exact .ite (.ite h h.refuseWin) <|
    .ite h.refuseWin (Canonical.ite h2.showTripActive (.ite h2.showTripActive h2)).showLowPower.winLatch.energiseIfDue

theorem writeWinThr {n w v canopy} : Canonical (s.writeWinThr n w v canopy) := by
  unfold State.writeWinThr
  extract_lets _ s1
  have h1 : Canonical s1 := h.wr
  exact .ite h (.ite h1 h1.modLegs)

theorem writeHwinCfg {x v canopy} : Canonical (s.writeHwinCfg x v canopy) := by
  unfold State.writeHwinCfg
  extract_lets _ _ s1
  have h1 : Canonical s1 := h.wr
  exact .ite h (Canonical.ite (.ite h1 h1.stirHouseWindow) h1.fresh.setBit.setBit.update).hwinLatch

theorem writeHwinThr {x v canopy} : Canonical (s.writeHwinThr x v canopy) := by
  unfold State.writeHwinThr
  extract_lets _ s1 s2
  have h1 : Canonical s1 := h.wr
  have h2 : Canonical s2 := .ite h1 h1.update
  exact .ite h (.ite h2.showSupply h2)

theorem windowReports {r level} : Canonical (s.windowReports r level) := by
  unfold State.windowReports
  split
  · exact h.winResult
  · exact h.hwinResult

/-! ### The functions of Machine/Legs.lean -/

theorem writeLegOvr {n v} : Canonical (s.writeLegOvr n v) := h.setFlag.set.updateGates

theorem writePwmPeriod {n v} : Canonical (s.writePwmPeriod n v) := .ite h.set.modLegs h.setFlag

theorem writePwmPhase {n v} : Canonical (s.writePwmPhase n v) := h.set.modLegs

theorem writeLegCtl {n v canopy} : Canonical (s.writeLegCtl n v canopy) := by
  unfold State.writeLegCtl
  extract_lets s1
  have h1 : Canonical s1 := h.set
  exact .ite h1 h1.setFlag.setFlag.rechoose

theorem endPrecharge {n} : Canonical (s.endPrecharge n) := h.modLegs.setFlag.updateGates

theorem writeLegStatus {n v} : Canonical (s.writeLegStatus n v) := (Canonical.ite h.setFlag h).set.updateGates

theorem engageBrake {n} : Canonical (s.engageBrake n) := .ite (h.modLull.foldl fun _ _ ht => ht.putGate).setFlag h

theorem refreshPins : Canonical (s.refreshPins) :=
  h.forTiles fun _ _ ht => .ite ht (.ite ht.lullSource ht.releaseLull)

theorem reportTrip {k} : Canonical (s.reportTrip k) := .ite h.update h.event

theorem pinTrip {k} : Canonical (s.pinTrip k) := .ite h h.setBit.reportTrip.refreshPins.wakeFires

theorem evalPin {k} : Canonical (s.evalPin k) := by
  unfold State.evalPin
  extract_lets _ s1
  have h1 : Canonical s1 := h.setBit
  exact .ite h1.pinTrip h1

theorem pinLevel {k high} : Canonical (s.pinLevel k high) := by
  unfold State.pinLevel
  extract_lets _ s1
  have h1 : Canonical s1 := h.update
  exact (Canonical.ite h1.update h1).evalPin

theorem writeTripCfg {k v canopy} : Canonical (s.writeTripCfg k v canopy) := by
  unfold State.writeTripCfg
  extract_lets _ s1
  have h1 : Canonical s1 := h.wr
  exact .ite h (Canonical.ite h1.update h1).evalPin

theorem writeTripRoute {k lo hi canopy} : Canonical (s.writeTripRoute k lo hi canopy) := .ite h h.wr.wr.refreshPins

theorem clearPins {v} : Canonical (s.clearPins v) := by
  unfold State.clearPins
  extract_lets _ _ s1
  have h1 : Canonical s1 := h.foldl fun _ _ ht => ht.setBit
  exact (Canonical.ite h1 h1.set.bump).refreshPins

theorem countRefused {n} : Canonical (s.countRefused n) := h.bump

theorem clearTripWindows {n v} : Canonical (s.clearTripWindows n v) := by
  unfold State.clearTripWindows
  extract_lets _ _ s1 s2
  have h1 : Canonical s1 := h.foldl fun _ _ ht => ht.putTripSticky
  have h2 : Canonical s2 := .ite h1 h1.set.countRefused
  exact .ite h2.releaseLull h2

theorem writeLegTrip {n v canopy} : Canonical (s.writeLegTrip n v canopy) :=
  (Canonical.ite h h.setFlag.setFlag.set.set.tripEval.tripEval).clearTripWindows

theorem clockChange {n leg stops} : Canonical (s.clockChange n leg stops) := by
  unfold State.clockChange
  extract_lets _ s1 s2
  have h1 : Canonical s1 := h.modLegs
  have h2 : Canonical s2 := .ite h1.tripEval.tripEval h1
  exact .ite (Canonical.ite h2.setFlag h2.setFlag).lullSource h2

theorem lullClr {n v} : Canonical (s.lullClr n v) := by
  unfold State.lullClr
  extract_lets
  refine (Canonical.ite h h.set.countRefused).foldl fun _ _ ht => ?_
  extract_lets s2
  have h2 : Canonical s2 := .ite ht.setFlag.setFlag ht
  exact h2.releaseLull

/-! ### The functions of Machine/Group.lean -/

theorem ifMotion {r f} (hf : ∀ t, Canonical t → Canonical (f t)) : Canonical (s.ifMotion r f) := by
  unfold State.ifMotion
  split
  · exact h.bump.complete
  · exact hf _ h

theorem assignTag : Canonical s.assignTag.2 := h.fresh

theorem joinTile {n tag slot idx lead here} : Canonical (s.joinTile n tag slot idx lead here) :=
  h.set.set.set.setFlag.setFlag.set.set.set.set.set.set.set.set.modPlan

theorem formGroup {tag lead ms leader} : Canonical (s.formGroup tag lead ms leader).2.2 := by
  unfold State.formGroup
  extract_lets _ _ slot
  split
  · exact h
  · clear_value slot
    split
    · exact h
    · exact (Canonical.ite_snd h.assignTag h).setGroup.update.foldl fun _ _ ht => .ite ht.joinTile ht

theorem groupFormDesc {d leader ms} : Canonical (s.groupFormDesc d leader ms) := by
  unfold State.groupFormDesc
  extract_lets
  refine h.ifMotion fun _ ht => ?_
  extract_lets _ l
  clear_value l
  split
  · exact ht.complete
  · extract_lets s1
    have h1 : Canonical s1.2.2 := ht.formGroup
    exact .ite ht.complete h1.finish

theorem leaveTile {n} : Canonical (s.leaveTile n) := h.wr.wr

theorem dissolve {k} : Canonical (s.dissolve k) := by
  unfold State.dissolve
  split
  · exact h
  · extract_lets s1
    have h1 : Canonical s1 := by
      unfold s1
      refine h.foldl fun _ _ ht => ?_
      extract_lets
      split
      · exact ht.complete
      · exact ht
    exact (h1.forTiles fun _ _ ht => ht.leaveTile).setGroup

theorem groupDissolveDesc {d} : Canonical (s.groupDissolveDesc d) := by
  unfold State.groupDissolveDesc
  split
  · exact h.complete
  · exact h.accepted.dissolve.complete

theorem unblendTile {n seq} : Canonical (s.unblendTile n seq) := (h.foldl fun _ _ ht => ht.setBytes).update.modPlan

theorem unblend {g k seq dists} : Canonical (s.unblend g k seq dists) := by
  unfold State.unblend
  extract_lets s1
  have h1 : Canonical s1 := h.forTiles fun _ _ ht => ht.unblendTile
  split
  · exact h1
  · refine h1.foldl fun _ _ ht => ?_
    split
    · exact .ite ht ht.sendRouted
    · exact ht

theorem answerMove {q status} : Canonical (s.answerMove q status) := by
  unfold State.answerMove
  split
  · exact h.complete
  · exact h

theorem issueMove {q k g es} : Canonical (s.issueMove q k g es) := by
  unfold State.issueMove
  extract_lets _ _ _ _ _ _ _ s1 _ _ _ s2 _ s3 s4
  have h1 : Canonical s1 := h.update
  have h2 : Canonical s2 := by
    unfold s2
    split
    · exact .ite h1 h1.unblend
    · exact h1
  have h3 : Canonical s3 := h2.setGroup
  have h4 : Canonical s4 := by
    unfold s4
    split
    · exact h3.track.accepted
    · exact h3
  split
  · exact h1.answerMove
  · refine h4.foldl fun _ _ ht => ?_
    split
    · exact ht
    · exact .ite ht.deliverGroup ht.sendRouted

theorem groupMoveDesc {d} : Canonical (s.groupMoveDesc d) := by
  unfold State.groupMoveDesc
  extract_lets
  refine h.ifMotion fun _ ht => ?_
  split
  · exact ht.complete
  · split
    · exact ht.complete
    · exact .ite ht.issueMove ht.complete

theorem lateFrame {k origin} : Canonical (s.lateFrame k origin) :=
  (h.forTiles fun _ _ ht => ht.setFlag).raiseGroupAlarm

theorem giveStart {n epoch seq t0} : Canonical (s.giveStart n epoch seq t0) := by
  unfold State.giveStart
  split
  · exact h
  · extract_lets _ _ _ s3
    have h3 : Canonical s3 := h.setBytes.modPlan.setFlag
    exact .ite h3.lateFrame h3

theorem fixStart {k epoch seq} : Canonical (s.fixStart k epoch seq) := by
  unfold State.fixStart
  split
  · exact h
  · exact .ite h.waitStep ((h.setGroup.foldl fun _ _ ht => .ite ht ht.sendRouted).forTiles fun _ _ ht => ht.giveStart)

theorem reissue {k g} : Canonical (s.reissue k g) := by
  unfold State.reissue
  extract_lets
  split
  · exact h
  · exact h.setGroup.issueMove.issueGroupCmd

theorem leaderReady {k idx epoch seq pos} : Canonical (s.leaderReady k idx epoch seq pos) := by
  unfold State.leaderReady
  split
  · exact h
  · extract_lets _ _ s1
    have h1 : Canonical s1 := h.setGroup
    exact .ite h (.ite h.reissue (.ite h1.fixStart h1))

theorem sendReady {n x g} : Canonical (s.sendReady n x g) := h.sendRouted

theorem signalReady {n} : Canonical (s.signalReady n) := by
  unfold State.signalReady
  extract_lets _ s1 s2
  have h1 : Canonical s1 := h.setFlag
  have h2 : Canonical s2 := h1.setFlag
  split
  · exact h.setFlag
  · split
    · exact h1
    · split
      · exact h2
      · exact .ite h2.leaderReady h2.sendReady

theorem divergence {k origin} : Canonical (s.divergence k origin) :=
  (h.forTiles fun _ _ ht => ht.setFlag).raiseGroupAlarm

theorem leaderChecksum {k c} : Canonical (s.leaderChecksum k c) := by
  unfold State.leaderChecksum
  split
  · exact h
  · extract_lets _ s1
    have h1 : Canonical s1 := h.setGroup
    exact .ite h1.divergence h1

theorem planChecksum {k} : Canonical (s.planChecksum k) := by
  unfold State.planChecksum
  extract_lets
  split
  · exact h
  · split
    · exact h
    · extract_lets _ s1
      have h1 : Canonical s1 := .ite h.divergence h
      split
      · exact h
      · exact .ite h1.leaderChecksum h1.sendRouted

theorem farEnded {k tick g} : Canonical (s.farEnded k tick g).2 := by
  unfold State.farEnded
  extract_lets _ s1
  have h1 : Canonical s1.2 := h.fresh
  exact .ite_snd (.ite_snd h1 h1.movesDone) h

theorem checksumDue {k tick} : Canonical (s.checksumDue k tick) := by
  unfold State.checksumDue
  split
  · exact h
  · extract_lets _ _ s1 s2
    have h1 : Canonical s1 := h.setGroup
    have h2 : Canonical s2.2 := .ite_snd h1.farEnded h1
    exact .ite (h2.forTiles fun _ _ ht => ht.setFlag).raiseGroupAlarm (.ite h2 h1)

theorem groupCmdDesc {d cmd target} : Canonical (s.groupCmdDesc d cmd target) := by
  unfold State.groupCmdDesc
  split
  · exact h.complete
  · exact h.track.accepted.issueGroupCmd

/-! ### The functions of Machine/Homing.lean -/

theorem homeEdgeOf {n pin high} : Canonical (s.homeEdgeOf n pin high) := by
  unfold State.homeEdgeOf
  extract_lets
  split
  · exact h
  · extract_lets
    split
    · exact h
    · split
      · exact .ite h.homeCapture h
      · exact .ite h.homeCapture h
      · exact .ite h.homeCapture h
      · exact .ite (.ite h.homeCapture h) (.ite h.modPlan h)
      · exact h

theorem homeTravelled {n} : Canonical (s.homeTravelled n) := by
  unfold State.homeTravelled
  split
  · exact h
  · split
    · exact h
    · split
      · exact h.homeFail
      · exact h.homeFail
      · exact h.homeFail
      · exact h.homeFail
      · exact h

theorem homeSettled {n} : Canonical (s.homeSettled n) := by
  unfold State.homeSettled
  extract_lets
  split
  · exact h
  · exact .ite h (.ite h.homeDone.wrapTick h.homeFail)

theorem posWrapOf {n} : Canonical (s.posWrapOf n) := by
  unfold State.posWrapOf
  extract_lets s1
  have h1 : Canonical s1 := h.modPlan
  split
  · exact h
  · extract_lets _ s2
    have h2 : Canonical s2 := h1.set
    exact .ite h1.setFlag (.ite h2 h2.modPlan.syncPos.posJumped.retakeSides)

theorem writeWrapCtl {n v} : Canonical (s.writeWrapCtl n v) := .ite h.setFlag h.set

/-! ### The functions of Machine/ForceOps.lean -/

theorem warnCeiling {n e t} : Canonical (s.warnCeiling n e t) := by
  unfold State.warnCeiling
  extract_lets
  split
  · exact h
  · exact .ite h h.modForce.budgetCeil.fbEvent

theorem obstruct {n cause excess} : Canonical (s.obstruct n cause excess) := h.set.modForce.fbEvent

theorem breachTests {n e} : Canonical (s.breachTests n e) := by
  unfold State.breachTests
  extract_lets _ _ s1 s2 _ _ s3
  have h1 : Canonical s1 := h.setInt
  have h2 : Canonical s2 := .ite h1 h1.warnCeiling
  have h3 : Canonical s3 := h2.set
  exact .ite h2.set (.ite h3.obstruct h3)

theorem sumUpdate {n} : Canonical (s.sumUpdate n) := (Canonical.ite h h.modForce).modPlan

theorem hardStop {n e} : Canonical (s.hardStop n e) := .ite (.ite (.ite h.homeCapture h.modPlan) h.modPlan) h

theorem capHold {n} : Canonical (s.capHold n) := .ite h.modForce.fbEvent h.capRearm

theorem forceUpdate {n} : Canonical (s.forceUpdate n) := by
  unfold State.forceUpdate
  extract_lets _ _ s2 _ _ _ _ s4 _ _ s7 s8
  have h2 : Canonical s2 := h.modForce.setFlag
  have h4 : Canonical s4 := h2.set.set
  have h7 : Canonical s7 := (Canonical.ite h4.set h4).modForce.sumUpdate.capHold
  have h8 : Canonical s8 := h7.setInt
  split
  · exact h2
  · split
    · exact h8
    · split
      · exact h8
      · exact .ite h7.hardStop.breachTests h8

theorem policyBusy {n} : Canonical (s.policyBusy n) := h.setFlag.setFlag

theorem reverseTo {n e} : Canonical (s.reverseTo n e) := by
  unfold State.reverseTo
  extract_lets _ _ _ s1
  have h1 : Canonical s1 := h.modPlan
  exact .ite h1.softEvent h1

theorem policyAct {n e policy} : Canonical (s.policyAct n e policy) := by
  unfold State.policyAct
  extract_lets s1
  have h1 : Canonical s1 := h.policyBusy.modForce
  split
  · exact h1.brake
  · split
    · exact .ite h1.brake h1.reverseTo
    · exact h1.brake.yieldCap
    · exact h1.set.brake
    · exact h1.brake

theorem policyHeld {n e policy} : Canonical (s.policyHeld n e policy) :=
  .ite h.policyBusy.reverseTo (Canonical.ite h.yieldCap h).endAtRest

theorem policyGroup {n e policy} : Canonical (s.policyGroup n e policy) := by
  unfold State.policyGroup
  extract_lets _ s1
  have h1 : Canonical s1 := h.policyBusy.modForce
  split
  · exact h.policyAct
  · exact .ite h1.issueGroupCmd (Canonical.ite h1.set h1).issueGroupCmd

theorem obstructionOf {n} : Canonical (s.obstructionOf n) := by
  unfold State.obstructionOf
  extract_lets _ s1
  have h1 : Canonical s1 := h.modForce
  split
  · exact h
  · split
    · exact .ite h1.policyGroup h1.policyAct
    · exact h1.policyHeld
    · exact h1

theorem retryOver {n} : Canonical (s.retryOver n) := by
  unfold State.retryOver
  extract_lets _ s2
  have h2 : Canonical s2 := h.setFlag.setFlag.modForce
  split
  · exact h
  · split
    · exact .ite h.modPlan.setFlag.setFlag h
    · split
      · exact .ite (.ite h2.reissue h2.sendReady) h
      · exact h

theorem blindOf {n} : Canonical (s.blindOf n) := by
  unfold State.blindOf
  split
  · exact h
  · exact .ite h.modForce.budgetCeil.fbEvent h

theorem learnOf {n dir} : Canonical (s.learnOf n dir) := by
  unfold State.learnOf
  extract_lets s1
  have h1 : Canonical s1 := .ite h.setLearning h
  exact .ite h.fbEvent (.ite h1.setLearning h1)

theorem learnAbortOf {n} : Canonical (s.learnAbortOf n) := h.setLearning.setLearning.modForce

theorem profAccess {n write keyed} : Canonical (s.profAccess n write keyed) := by
  unfold State.profAccess
  extract_lets _ s1
  have h1 : Canonical s1 := by
    unfold s1
    split
    · exact .ite h h.modForce
    · exact h.update
  exact h1.set

theorem segAccess {n write} : Canonical (s.segAccess n write) := by
  unfold State.segAccess
  extract_lets _ s1
  have h1 : Canonical s1 := by
    unfold s1
    split
    · exact h.modForce
    · exact h.update
  exact h1.set.set

theorem flushBehind {n} : Canonical (s.flushBehind n) := by
  unfold State.flushBehind
  extract_lets
  split
  · exact h.flushWaiting
  · exact h.modPlan

theorem placeRetracts {n} : Canonical (s.placeRetracts n) := h.foldl fun _ _ ht => .ite ht.placeSeg.modForce ht

theorem gustRequest {n level} : Canonical (s.gustRequest n level) := by
  unfold State.gustRequest
  split
  · exact h
  · exact h.sendRouted

theorem gustLead {k} : Canonical (s.gustLead k) := by
  unfold State.gustLead
  extract_lets s1
  have h1 : Canonical s1 := h.issueGroupCmd
  split
  · exact h
  · split
    · exact h
    · split
      · exact h1
      · exact h1.update.setGroup.issueMove

theorem gustAct {n level} : Canonical (s.gustAct n level) := by
  unfold State.gustAct
  extract_lets _ _ _ _ s2 _ _ s3 s4 s5 _ s7
  have h2 : Canonical s2 := h.setFlag.fbEvent
  have h3 : Canonical s3 := by
    unfold s3
    split
    · exact h2.endAtRest
    · exact h2
  have h4 : Canonical s4 := h3.flushBehind
  have h5 : Canonical s5 := .ite h4.brake h4
  have h7 : Canonical s7 := (Canonical.ite h5.setFlag h5).modForce.placeRetracts
  exact .ite (.ite h2.gustLead h2.gustRequest) (.ite h2 (.ite h7 h7.unfreeze))

theorem gustSample {n} : Canonical (s.gustSample n) :=
  .ite h (.ite h.modForce.set.set (.ite h.modForce h.modForce.set.set))

theorem gustOf {n} : Canonical (s.gustOf n) := .ite h.modForce.gustAct h

theorem pushConfirm {n crossings} : Canonical (s.pushConfirm n crossings) := by
  unfold State.pushConfirm
  split
  · exact h
  · extract_lets
    split
    · exact h
    · extract_lets _ _ _ s3
      have h3 : Canonical s3 := h.quotient.modForce.fbEvent
      exact .ite h3.placeSeg h3

theorem pushTimeoutOf {n} : Canonical (s.pushTimeoutOf n) := .ite h.modForce h

/-! ### The functions of Machine/PlanTick.lean -/

theorem moveTick {n} : Canonical (s.moveTick n) := by
  unfold State.moveTick
  extract_lets _ s1 s2 s3
  have h1 : Canonical s1 := h.settleHandover
  have h2 : Canonical s2 := .ite h1.chooseRegulator h1
  have h3 : Canonical s3 := by
    unfold s3
    split
    · exact h2.walkTick
    · exact h2
  split
  · exact h3.stepPosEvents
  · exact .ite h2.modPlan.stepPosEvents h2.runTick

theorem tickDecisions {n} : Canonical (s.tickDecisions n) := h.stallDecisionOf.obstructionOf

theorem planTickOf {n} : Canonical (s.planTickOf n) :=
  .ite h h.keepReplace.tickDecisions.modPlan.moveTick.wrapTick.modForce.placeRetracts.modPlan.fieldTick

/-! ### The functions of Machine/Converters.lean -/

theorem modAdc {u f} : Canonical (s.modAdc u f) := by
  unfold State.modAdc
  split
  · exact h.modTile
  · exact h.update

theorem setConv {u c v} : Canonical (s.setConv u c v) := h.modAdc

theorem showCal {u} : Canonical (s.showCal u) := by
  unfold State.showCal
  extract_lets
  split
  · exact h
  · exact h.setFlag.setFlag.setFlag

theorem sfeIdle : Canonical (s.sfeIdle) := h.update.setFlag.setFlag.setFlag

/-- Unfolded under the application: the kernel's check of the whole equation would run the fold. -/
theorem sfeHouseLost : Canonical (s.sfeHouseLost) := by
  conv => arg 1; fun; delta State.sfeHouseLost
  extract_lets s1 s2
  have h2 : Canonical s2 := h.setFlag.foldl fun _ _ ht => .ite ht.setFlag ht
  clear_value s2
  split
  · exact .ite h2.sfeIdle h2
  · exact h2

theorem convDegrade {u c} : Canonical (s.convDegrade u c) := by
  unfold State.convDegrade
  extract_lets _ s1
  have h1 : Canonical s1 := h.setFlag
  split
  · exact .ite h1.setFlag.sfeHouseLost.setFlag.modAdc.event h1
  · extract_lets _ s4 s5
    have h4 : Canonical s4 := h.setFlag.setFlag.setFlag
    have h5 : Canonical s5 := h.setFlag
    exact .ite (.ite h.tileFault (.ite (.ite h4.walkFail.showLevel h4) h)) (.ite h5.setFlag.set.setFlag.modAdc h5)

theorem sliceFail {u c k reason} : Canonical (s.sliceFail u c k reason) := by
  unfold State.sliceFail
  extract_lets _ _ _ _ _ s3 s4 _ _ s6
  have h3 : Canonical s3 := h.setBit.setConv.set.modAdc
  have h4 : Canonical s4 := by
    unfold s4
    split
    · extract_lets s7
      have h7 : Canonical s7 := h3.setFlag
      exact .ite h7 h7.modChop
    · exact h3
  have h6 : Canonical s6 := h4.event.showCal.convDegrade
  split
  · exact h
  · split
    · exact h6.commitTile
    · exact h6.commitDevice

theorem rotate {u c r} : Canonical (s.rotate u c r) := by
  unfold State.rotate
  extract_lets
  split
  · exact h
  · extract_lets _ _ _ _ s2
    have h2 : Canonical s2 := h.setConv.set
    exact .ite h (.ite h2.sliceFail h2)

theorem showSettled {n} : Canonical (s.showSettled n) := h.setFlag

theorem writeAdcRef {n v} : Canonical (s.writeAdcRef n v) := by
  unfold State.writeAdcRef
  extract_lets s1
  have h1 : Canonical s1 := .ite h.setFlag h
  exact .ite (.ite h1 h1.setFlag) h1.setFlag.showSettled.energiseIfDue

theorem refLost {q} : Canonical (s.refLost q) := by
  unfold State.refLost
  refine h.forTiles fun _ _ ht => ?_
  extract_lets s1 _ s3
  have h1 : Canonical s1 := ht.setFlag
  have h3 : Canonical s3 := .ite h1.setFlag.setFlag.modAdc.setFlag.event h1
  exact h3.showSettled

theorem calRead {n} : Canonical (s.calRead n) := by
  unfold State.calRead
  extract_lets _ _ c _ _ s3
  have h3 : Canonical s3 := by
    unfold s3
    clear_value c
    split
    · exact h.update
    · exact h.fresh.update
  exact h3.set

theorem showBusy {u b} : Canonical (s.showBusy u b) := by
  unfold State.showBusy
  split
  · exact h.setFlag
  · exact h.setFlag

theorem scanBegin {u src start late} : Canonical (s.scanBegin u src start late) := by
  unfold State.scanBegin
  extract_lets _ _ _ s1
  have h1 : Canonical s1 := h.modAdc.showBusy
  split
  · exact h
  · split
    · exact .ite h1.setFlag h1
    · exact h1

theorem scanDrop {u} : Canonical (s.scanDrop u) := by
  unfold State.scanDrop
  split
  · exact h.bump
  · exact h.bump

theorem scanStart {u src time} : Canonical (s.scanStart u src time) := by
  unfold State.scanStart
  extract_lets
  split
  · exact h
  · split
    · exact h.scanBegin
    · exact .ite h.scanDrop h.modAdc

theorem scanEvent {u src} : Canonical (s.scanEvent u src) := by
  unfold State.scanEvent
  extract_lets _ _ s1
  have h1 : Canonical s1 := h.modAdc
  exact .ite h (.ite (.ite h1.scanStart h1.modAdc) h.modAdc)

theorem scanDue {u} : Canonical (s.scanDue u) := .ite h (h.modAdc.foldl fun _ _ ht => ht.scanStart)

theorem scansDue : Canonical (s.scansDue) := (h.forTiles fun _ _ ht => ht.scanDue).scanDue

theorem derive {n k code norm} : Canonical (s.derive n k code norm) := by
  unfold State.derive
  extract_lets s1
  have h1 : Canonical s1.2 := h.fresh
  split
  · exact (Canonical.ite h1 h).set
  · exact .ite h.set (.ite h1.set h.set)
  · exact h.set
  · exact h

theorem scanResult {u r k codes} : Canonical (s.scanResult u r k codes).1 := by
  unfold State.scanResult
  extract_lets _ _ _ _ _ _ _ _ _ s2
  have h2 : Canonical s2 := by
    unfold s2
    split
    · extract_lets s3 s4
      have h3 : Canonical s3 := (Canonical.ite h.modAdc h).wr
      have h4 : Canonical s4 := .ite h3.setFlag h3
      exact .ite h4 h4.derive
    · exact h.wr
  exact h2

theorem bufPut {n w} : Canonical (s.bufPut n w) := by
  unfold State.bufPut
  extract_lets _ _ s1
  have h1 : Canonical s1 := h.sharedWrite
  exact .ite h1.set h1.set.set

theorem scanRecord {u r results} : Canonical (s.scanRecord u r results) := by
  unfold State.scanRecord
  extract_lets _ _ _ s1
  have h1 : Canonical s1 := h.modAdc
  split
  · exact .ite h1.journal h1
  · extract_lets _ _ s2
    have h2 : Canonical s2 := .ite h1 (.ite h1.bump (h1.foldl fun _ _ ht => ht.bufPut))
    exact .ite h2.journal h2

theorem scanResults {u r res} : Canonical (s.scanResults u r res).1 :=
  foldl_proj Prod.fst h fun _ _ ha => ha.update.scanResult

theorem scanEnd {u res} : Canonical (s.scanEnd u res) := by
  unfold State.scanEnd
  split
  · exact h
  · extract_lets _ s1 s2 s3
    have h1 : Canonical s1.1 := h.modAdc.showBusy.scanResults
    have h2 : Canonical s2 := .ite h1 h1.scanRecord
    have h3 : Canonical s3 := by
      unfold s3
      split
      · exact .ite h2 h2.raiseLine
      · exact h2
    split
    · exact h
    · split
      · exact h3.modAdc.scanBegin
      · exact .ite h3.scanStart h3

theorem supplyStart {n} : Canonical (s.supplyStart n) := .ite h.modAdc.showBusy h

theorem writeScanBuf {n v} : Canonical (s.writeScanBuf n v) := .ite h.setFlag h.wr.wr.wr.modAdc

theorem writeScanRptr {n v} : Canonical (s.writeScanRptr n v) := .ite h.setFlag h.wr

theorem adcRefuse {n} : Canonical (s.adcRefuse n) := h.setFlag

theorem writeScanTrig {n v} : Canonical (s.writeScanTrig n v) := by
  unfold State.writeScanTrig
  extract_lets s1
  have h1 : Canonical s1 := h.wr.modAdc
  exact .ite h.adcRefuse (.ite h1.scanStart h1)

theorem writeScanMask {n v} : Canonical (s.writeScanMask n v) := .ite h.adcRefuse h.wr

theorem writeScanRefsel {n v} : Canonical (s.writeScanRefsel n v) := .ite h.adcRefuse h.wr

theorem writeScanAvg {n v} : Canonical (s.writeScanAvg n v) := .ite h.adcRefuse h.wr

theorem writeHouseCtl {v} : Canonical (s.writeHouseCtl v) := by
  unfold State.writeHouseCtl
  extract_lets _ s1
  have h1 : Canonical s1 := h.wr
  exact .ite h (.ite h1.scanStart h1)

theorem writeHouseMask {v} : Canonical (s.writeHouseMask v) := .ite h h.wr

theorem setAlarm {u t} : Canonical (s.setAlarm u t) := by
  unfold State.setAlarm
  split
  · exact h.set64
  · exact h.set64

theorem armAlarm {u b} : Canonical (s.armAlarm u b) := by
  unfold State.armAlarm
  split
  · exact h.setFlag
  · exact h.update

theorem alarmFire {u} : Canonical (s.alarmFire u) := .ite h (Canonical.ite h.armAlarm h.setAlarm).scanEvent

theorem waveTick {n a b} : Canonical (s.waveTick n a b) := by
  unfold State.waveTick
  extract_lets _ s1
  have h1 : Canonical s1 := h.modAdc
  exact .ite h (.ite h1 h1.modAdc.journal)

theorem siteArm : Canonical s.siteArm.2 := .ite_snd h.setFlag h.update.setFlag

theorem siteCancel : Canonical (s.siteCancel) := h.update.setFlag

theorem snapTile {n snap} : Canonical (s.snapTile n snap) := by
  unfold State.snapTile
  extract_lets
  split
  · exact h.wr.set
  · split
    · exact h.set.set.set
    · exact h.fresh.fresh.wr.set

theorem siteFire {snaps} : Canonical (s.siteFire snaps) := by
  unfold State.siteFire
  extract_lets
  split
  · exact h
  · extract_lets _ s4
    have h4 : Canonical s4 := h.siteCancel.setFlag.set.setFlag.forTiles fun _ _ ht => ht.scanEvent.snapTile
    exact .ite h (Canonical.ite h4.scanEvent h4).event

theorem siteDesc {d} : Canonical (s.siteDesc d) := h.set64.set64.setFlag.siteArm.finish

/-! ### The functions of Machine/Feedback.lean -/

theorem feedRefuse {k} : Canonical (s.feedRefuse k) := h.setFlag

theorem reedAccept {k pin high} : Canonical (s.reedAccept k pin high) := by
  unfold State.reedAccept
  extract_lets _ _ _ s2
  have h2 : Canonical s2 := h.modFeed.inputMeets
  exact .ite h2.countEdge h2

theorem reedPin {k pin high} : Canonical (s.reedPin k pin high) := .ite h h.reedAccept

theorem inputEdges {k old new pins} : Canonical (s.inputEdges k old new pins) :=
  h.foldl fun _ _ ht => .ite ht ht.inputMeets

theorem feedDecode {k old new} : Canonical (s.feedDecode k old new) := by
  unfold State.feedDecode
  extract_lets
  split
  · split
    · exact h.countEdge
    · exact h.countEdge
    · exact h.feedError
    · exact h
  · exact .ite h.countEdge h
  · exact .ite h (.ite h.countEdge (.ite h.countEdge h))
  · exact h.reedPin.reedPin
  · split
    · exact h.modFeed.feedError
    · exact h.modFeed
    · split
      · exact h
      · exact h.modFeed.countEdge
      · exact h.modFeed.countEdge
      · exact h.modFeed.feedError
  · exact h

theorem feedbackEdgeOf {k pins} : Canonical (s.feedbackEdgeOf k pins) := by
  unfold State.feedbackEdgeOf
  extract_lets s1
  have h1 : Canonical s1 := h.modFeed
  exact .ite h1 h1.set.modFeed.inputEdges.feedDecode

theorem feedStirred {k} : Canonical (s.feedStirred k) := by
  unfold State.feedStirred
  extract_lets s1
  have h1 : Canonical s1 := h.modFeed
  split
  · exact h
  · exact .ite h (.ite h1.wakeFires h1)

theorem indexEdgeOf {k} : Canonical (s.indexEdgeOf k) := by
  unfold State.indexEdgeOf
  extract_lets _ _ s1 _ s2
  have h1 : Canonical s1 := h.modFeed
  have h2 : Canonical s2 := h1.set.setFlag
  exact .ite h1 (Canonical.ite h2.set.setFlag h2).event

theorem reedHoldoffOf {k pin} : Canonical (s.reedHoldoffOf k pin) := by
  unfold State.reedHoldoffOf
  extract_lets
  split
  · exact h
  · exact .ite h h.modFeed.reedPin

theorem ssiStart {k} : Canonical (s.ssiStart k) := .ite h (.ite h.setFlag.modFeed h.modFeed)

theorem ssiPeriod {k} : Canonical (s.ssiPeriod k) := .ite h.modFeed.ssiStart h

theorem ssiLate {k} : Canonical (s.ssiLate k) := .ite h.ssiStart h

theorem clockFeeds : Canonical (s.clockFeeds) := h.foldl fun _ _ ht => ht.feedStirred.ssiLate

theorem ssiSpeed {k d at_ before} : Canonical (s.ssiSpeed k d at_ before) := by
  unfold State.ssiSpeed
  extract_lets _ _ _ s3 _ s4
  have h3 : Canonical s3 := h.setFlag.set.set
  have h4 : Canonical s4 := h3.modFeed
  exact .ite (.ite h4.setFlag h4) h3.modFeed.setFlag

theorem ssiEndOf {k raw} : Canonical (s.ssiEndOf k raw) := by
  unfold State.ssiEndOf
  extract_lets
  split
  · exact h
  · extract_lets _ s2
    have h2 : Canonical s2 := h.modFeed.set
    split
    · exact h
    · split
      · exact h2.feedError
      · split
        · exact h2.modFeed
        · exact .ite h2.feedError h2.modFeed.feedAdd.set.ssiSpeed

theorem standstillOf {k} : Canonical (s.standstillOf k) := by
  unfold State.standstillOf
  extract_lets
  split
  · exact h
  · exact .ite h h.set.set.setFlag.modFeed

theorem feedTake {k} : Canonical (s.feedTake k) := h.set.modFeed

theorem writeFeedCfg {k v} : Canonical (s.writeFeedCfg k v) := by
  unfold State.writeFeedCfg
  extract_lets _ _ _ _ s1
  have h1 : Canonical s1 := h.wr
  exact .ite h.feedRefuse (.ite h1.feedStill.modFeed.feedTake (.ite h1.modFeed h1))

theorem writeFeedRev {k v} : Canonical (s.writeFeedRev k v) := .ite h.feedRefuse h.set.set

theorem writeFeedMode {k v} : Canonical (s.writeFeedMode k v) := by
  unfold State.writeFeedMode
  extract_lets
  split
  · exact .ite h.feedRefuse h.wr
  · exact h.modFeed
  · exact h

theorem writeFeedAxis {k scale v} : Canonical (s.writeFeedAxis k scale v) :=
  .ite (.ite h.feedRefuse h.wr.rebase) h.wr.rebase

theorem feedRestart : Canonical (s.feedRestart) := by
  unfold State.feedRestart
  refine h.foldl fun _ _ ht => ?_
  extract_lets s1
  have h1 : Canonical s1 := .ite ht ht.setFlag
  exact .ite h1.feedStill.feedTake ht

theorem writeEmuCfg {j v} : Canonical (s.writeEmuCfg j v) := by
  unfold State.writeEmuCfg
  extract_lets _ _ s1
  have h1 : Canonical s1 := h.wr
  exact .ite h.setFlag (.ite h1.modEmu.emuPut.emuShow h1.emuPins.emuShow)

theorem writeEmuGear {j lines v} : Canonical (s.writeEmuGear j lines v) := .ite h.setFlag (.ite h.set h.set)

theorem emuStepOf {j} : Canonical (s.emuStepOf j) := by
  unfold State.emuStepOf
  extract_lets s1
  have h1 : Canonical s1 := h.emuShow
  exact .ite h1 h1.modEmu.emuPut.emuShow

/-! ### The functions of Machine/Sfe.lean -/

theorem modSfeCh {k f} : Canonical (s.modSfeCh k f) := h.update

theorem sfeRefuse : Canonical (s.sfeRefuse) := h.setFlag

theorem sfeFresh {k} : Canonical (s.sfeFresh k) := h.modSfeCh.set.setFlag.set.setBit

theorem sfeBegin {k check volt} : Canonical (s.sfeBegin k check volt) :=
  (Canonical.ite h.modSfeCh h.modSfeCh).update.setFlag.set.setFlag.setFlag

theorem sfeScheduled {k} : Canonical (s.sfeScheduled k) := by
  unfold State.sfeScheduled
  extract_lets _ s1 _ _ s2
  have h1 : Canonical s1 := h.update
  have h2 : Canonical s2 := h1.modSfeCh
  exact .ite h1.sfeBegin (.ite h1.setBit.sfeBegin (.ite h2.setFlag h2.sfeBegin))

theorem sfeVisitOf : Canonical (s.sfeVisitOf) := by
  unfold State.sfeVisitOf
  extract_lets
  split
  · exact h
  · split
    · extract_lets s1
      have h1 : Canonical s1 := h.update
      exact .ite h1 h1.sfeBegin
    · split
      · exact h.sfeScheduled
      · exact h

theorem sfeTemp {v r} : Canonical (s.sfeTemp v r) := by
  unfold State.sfeTemp
  extract_lets
  split
  · exact .ite h.set h.set
  · exact .ite h.set h.set
  · exact h.set

theorem sfeDecide {k v} : Canonical (s.sfeDecide k v) := by
  unfold State.sfeDecide
  extract_lets _ s1 s2
  have h1 : Canonical s1 := h.set
  have h2 : Canonical s2 := .ite h1 h1.setFlag.set
  exact .ite h2 h2.event

theorem sfeSensor {v q compliance volt} : Canonical (s.sfeSensor v q compliance volt) := by
  unfold State.sfeSensor
  extract_lets _ _ _ _ _ s1
  have h1 : Canonical s1 := h.modSfeCh.sfeDecide
  exact .ite h1 h1.set.sfeTemp.setFlag.setFlag.setFlag

theorem sfeLead {v q} : Canonical (s.sfeLead v q) := h.set

theorem sfeNextStage {v} : Canonical (s.sfeNextStage v) := .ite h.update h.sfeIdle

theorem sfeRecover {k} : Canonical (s.sfeRecover k) := h.modSfeCh.setBit.event

theorem sfeLeadEnd {v m nc compliance} : Canonical (s.sfeLeadEnd v m nc compliance) :=
  .ite (Canonical.ite h h.sfeRecover).sfeIdle h.sfeLead.sfeIdle

theorem sfeFrequency {m nc compliance} : Canonical (s.sfeFrequency m nc compliance) := by
  unfold State.sfeFrequency
  split
  · exact h
  · extract_lets _ s1
    have h1 : Canonical s1 := h.set.set
    exact .ite h <| .ite h1.sfeLeadEnd <|
      .ite (Canonical.ite h1.sfeDecide h1.sfeRecover).sfeIdle h1.sfeSensor.sfeNextStage

theorem sfeVoltage {sum compliance} : Canonical (s.sfeVoltage sum compliance) := by
  unfold State.sfeVoltage
  extract_lets
  split
  · exact h
  · exact .ite h (.ite h.sfeIdle (.ite h (.ite (Canonical.ite h h.sfeLead).sfeIdle h.sfeSensor.sfeNextStage)))

theorem sfeAc {re} : Canonical (s.sfeAc re).2 := .ite_snd h h.fresh

theorem sfeTone {re im compliance} : Canonical (s.sfeTone re im compliance) := by
  unfold State.sfeTone
  extract_lets
  split
  · exact h
  · exact .ite h (.ite h.sfeIdle (.ite h h.sfeAc.set.set.modSfeCh.sfeDecide.sfeIdle))

theorem sfeCheckNow : Canonical (s.sfeCheckNow) := h.update

theorem sfeDawn : Canonical (s.sfeDawn) := h.update

theorem sfeStop : Canonical (s.sfeStop) := h.sfeIdle

theorem writeSfeCfg {k v} : Canonical (s.writeSfeCfg k v) := by
  unfold State.writeSfeCfg
  extract_lets _ _ s1 _ s2
  have h1 : Canonical s1 := h.wr
  have h2 : Canonical s2 := .ite h1.sfeIdle h1
  exact .ite h.sfeRefuse (.ite h2.sfeFresh h2)

theorem writeSfeSteer {v} : Canonical (s.writeSfeSteer v) := .ite h.sfeRefuse h.set.set.set

theorem sfeTest {on} : Canonical (s.sfeTest on) :=
  .ite (.ite h.sfeRefuse (.ite h h.setFlag.sfeIdle)) (.ite h.setFlag.set.set.update h)

theorem writeSfeCtl {v} : Canonical (s.writeSfeCtl v) := by
  unfold State.writeSfeCtl
  extract_lets _ _ s1 _ _ s3
  have h1 : Canonical s1 := h.setFlag.set
  have h3 : Canonical s3 :=
    (Canonical.ite (h1.update.foldl fun _ _ ht => .ite ht.sfeFresh ht) (.ite h1.sfeIdle h1)).sfeTest
  exact .ite h.sfeRefuse (.ite h3.sfeCheckNow h3)

/-! ### The functions of Machine/CanopyOps.lean -/

theorem showClaim : Canonical (s.showClaim) := h.setFlag

theorem canopyLull {one} : Canonical (s.canopyLull one) := h.forTiles fun _ _ ht => .ite ht ht.lullSource

theorem canopyHold {one} : Canonical (s.canopyHold one) := .ite h.modCore h.modCore.modCore

theorem canopyFail {kind lane one} : Canonical (s.canopyFail kind lane one) := by
  unfold State.canopyFail
  extract_lets s1
  have h1 : Canonical s1 := by
    unfold s1
    split
    · exact h.setFlag.setFlag
    · exact h.setFlag
    · exact h.setFlag
    · exact h.setFlag
  exact (Canonical.ite h1 h1.fresh.set.set).canopyHold.showClaim.event.canopyLull

theorem putSafety {e w v} : Canonical (s.putSafety e w v) := h.update

theorem vetoLine {n} : Canonical (s.vetoLine n) := h.setMaskBit.lullSource

theorem vetoDrop {n} : Canonical (s.vetoDrop n) := .ite h.setMaskBit.releaseLull h

theorem raiseVeto {n cause value limit} : Canonical (s.raiseVeto n cause value limit) := h.putSafety.event.vetoLine

theorem writeVetoRaise {one hi v} : Canonical (s.writeVetoRaise one hi v) := h.forTiles fun _ _ ht => ht.vetoLine

theorem writeVetoDrop {one hi v} : Canonical (s.writeVetoDrop one hi v) :=
  h.forTiles fun _ _ ht => .ite ht.vetoDrop ht

theorem writeScanKick {one} : Canonical (s.writeScanKick one) := h.update

theorem writeLocks {one v} : Canonical (s.writeLocks one v) := by
  unfold State.writeLocks
  extract_lets s1
  have h1 : Canonical s1 := .ite h.setFlag h
  exact .ite (h1.forTiles fun _ _ ht => .ite ht ht.setFlag) h1

theorem writeGrant {one hi v} : Canonical (s.writeGrant one hi v) := .ite h (h.forTiles fun _ _ ht => ht.setGrant)

theorem writeLend {one v} : Canonical (s.writeLend one v) := by
  unfold State.writeLend
  extract_lets _ s1
  have h1 : Canonical s1 := .ite h.dropLoan h
  exact .ite h (.ite h1.makeLoan h1)

theorem canopyMail {w} : Canonical (s.canopyMail w) := by
  unfold State.canopyMail
  extract_lets s1
  have h1 : Canonical s1 := h.set
  exact .ite h1.bump h1.modCore.setFlag.raiseCanopy

/-! ### The functions of Machine/StoreBuffer.lean -/

theorem writeLine {k l} : Canonical (s.writeLine k l) := .ite h.sharedWrite h

theorem dropData {k a back} : Canonical (s.dropData k a back) := by
  unfold State.dropData
  split
  · exact h
  · exact (Canonical.ite h.writeLine h).modCore

theorem dataLine {k a} : Canonical (s.dataLine k a).2 := by
  unfold State.dataLine
  extract_lets s1 _ victim s2
  have h1 : Canonical s1.2 := h.fresh
  have h2 : Canonical s2 := by
    unfold s2
    clear_value victim
    split
    · exact h1.dropData
    · exact h1
  split
  · exact h
  · exact h2.modCore

theorem cacheStore {k a b} : Canonical (s.cacheStore k a b) := by
  unfold State.cacheStore
  exact h.dataLine.modCore

theorem noteStale {k a} : Canonical (s.noteStale k a) := .ite h.modCore h

theorem ramStore {k a b} : Canonical (s.ramStore k a b) := .ite h.noteStale.sharedWrite h.cacheStore

theorem leaveOne {k} : Canonical (s.leaveOne k) := by
  unfold State.leaveOne
  split
  · exact h
  · exact h.modCore.ramStore

theorem leaveAll {k} : Canonical (s.leaveAll k) := h.foldl fun _ _ ht => ht.leaveOne

theorem bufferStore {k a b} : Canonical (s.bufferStore k a b) := by
  unfold State.bufferStore
  exact (Canonical.ite h.leaveOne h).modCore

theorem leaveCores : Canonical (s.leaveCores) := .ite h (h.foldl fun _ _ ht => ht.leaveAll)

/-! ### The functions of Machine/HikerOps.lean -/

theorem pairCapture {key who high} : Canonical (s.pairCapture key who high) := h.update

theorem pairHigh {key who live} : Canonical (s.pairHigh key who live).2 := by
  unfold State.pairHigh
  split
  · exact .ite_snd h.update h
  · exact h

theorem pairHold {key who low} : Canonical (s.pairHold key who low) := h.update

theorem pairTake {key who live} : Canonical (s.pairTake key who live).2 := by
  unfold State.pairTake
  split
  · exact .ite_snd h.update h
  · exact h

theorem takeStop {n halt} : Canonical (s.takeStop n halt) := by
  unfold State.takeStop
  extract_lets _ s2
  have h2 : Canonical s2 := h.leaveAll.modCore.putCoreState
  exact .ite h2.lullSource h2

theorem takeExc {k x} : Canonical (s.takeExc k x) :=
  .ite (.dite (fun _ => h.modCore.tileFault.putCoreState) (fun _ => h.canopyFail)) <|
  .dite (fun _ => h.setCore.set.bump) <| fun _ => h.setCore

theorem raise {k cause bad} : Canonical (s.raise k cause bad) := by
  unfold State.raise
  split
  · exact h.takeExc
  · exact h.takeExc

theorem takeInterrupt {k} : Canonical (s.takeInterrupt k) := .ite h h.setCore.takeExc

theorem requestStop {n halt} : Canonical (s.requestStop n halt) :=
  .ite (.ite h.takeStop h.modCore) (.ite h.modCore (.ite h.takeStop h))

theorem copySections {base img} : Canonical (s.copySections base img) := by
  unfold State.copySections
  refine h.foldl fun _ _ ht => ?_
  split
  · exact ht.setBytes
  · exact ht.setBytes
  · exact ht

theorem coreStart {k img} : Canonical (s.coreStart k img) := h.modCore

theorem loadDone {n img} : Canonical (s.loadDone n img) := by
  unfold State.loadDone
  extract_lets _ _ _ s1
  have h1 : Canonical s1 := h.leaveAll.set
  exact .ite h1.scramble.putInner.event h1.copySections.set.event.coreStart.putInner

theorem hikerStart {n v} : Canonical (s.hikerStart n v) := .ite h.event (.ite h.modCore.putInner h.modCore.putInner)

theorem writeHikerCtl {n v} : Canonical (s.writeHikerCtl n v) := by
  unfold State.writeHikerCtl
  extract_lets _ s1 s2 s3
  have h1 : Canonical s1 := h.set.set.set
  have h2 : Canonical s2 := .ite h1.coreReset h1
  have h3 : Canonical s3 := .ite h2.requestStop h2
  exact .ite h3.hikerStart h3

theorem tiPlace {n} : Canonical (s.tiPlace n) := .ite h.modCore (.ite h.modCore (.ite h.modCore h.placeSeg.modCore))

theorem tiRelease {n code} : Canonical (s.tiRelease n code) := by
  unfold State.tiRelease
  split
  · exact h
  · exact .ite h.modPlan h

theorem tiAlarmFire {n} : Canonical (s.tiAlarmFire n) := .ite h.modCore.raiseLine h

theorem tiAlarmArm {n time} : Canonical (s.tiAlarmArm n time) := h.modCore

theorem tiUser {n w} : Canonical (s.tiUser n w) := h.modCore.event

theorem tiSend {n w} : Canonical (s.tiSend n w) := by
  unfold State.tiSend
  extract_lets s1
  have h1 : Canonical s1 := h.modCore
  exact .ite h1.modCore (h1.setFlag.foldl fun _ _ ht => ht.set).event

theorem tiInAck {n} : Canonical (s.tiInAck n) := h.setFlag

theorem hostMail {n w} : Canonical (s.hostMail n w) := by
  unfold State.hostMail
  extract_lets s1
  have h1 : Canonical s1 := h.set
  exact .ite h1.bump h1.modCore.setFlag.raiseLine.wakeRequest

theorem fromAck {n} : Canonical (s.fromAck n) := h.setFlag.raiseLine

theorem tiWrite {n off v} : Canonical (s.tiWrite n off v) := by
  unfold State.tiWrite
  extract_lets _ s1
  have h1 : Canonical s1 := .ite h.tiInAck h
  split
  · exact h.modCore
  · split
    · exact h.modCore
    · split
      · exact h.modCore
      · split
        · exact h.tiPlace
        · exact h.tiRelease
        · exact h.pairHold
        · exact h.pairTake.tiAlarmArm
        · exact .ite h.modCore h
        · exact h.tiUser
        · exact h.tiSend
        · exact .ite h1.modCore h1
        · exact h.modCore
        · exact h.modCore
        · exact h

theorem tiRead {n off} : Canonical (s.tiRead n off).2 := by
  unfold State.tiRead
  extract_lets
  split
  · exact h
  · split
    · exact h
    · split
      · exact h
      · split
        · exact h
        · split
          · exact h
          · exact h.pairCapture
          · exact h.pairHigh
          · exact h.pairCapture
          · exact h.pairHigh
          · exact h
          · exact h
          · exact h
          · exact h
          · exact h

/-! ### The functions of Machine/Store.lean -/

theorem commitBeside : Canonical (s.commitBeside) := (h.forTiles fun _ _ ht => .ite ht.commitProfile ht).psWrite

theorem commitCkpt {cause} : Canonical (s.commitCkpt cause) := by
  unfold State.commitCkpt
  extract_lets _ _ _ _ _ s2 _ s3
  have h2 : Canonical s2 := .ite h.psClear h
  have h3 : Canonical s3 := .ite h2.psClear h2
  exact .ite h.update (Canonical.ite h3 h3.psProgram).psProgram.set.set.set64.update.setFlag.raiseCanopy

theorem drainLog : Canonical (s.drainLog) := .ite h (h.update.foldl fun _ _ ht => ht.faultLog)

theorem checkpointDue : Canonical (s.checkpointDue) := by
  unfold State.checkpointDue
  extract_lets
  split
  · exact h
  · exact .ite h (.ite h.commitCkpt h.commitCkpt.commitBeside.drainLog)

theorem ckptTimerOf : Canonical (s.ckptTimerOf) := .ite h.wantCheckpoint h

theorem writeRemap : Canonical (s.writeRemap) := h.psClears.psPutRecord.psClears.psPutRecord

theorem replaceContents {b} : Canonical (s.replaceContents b) := .ite h.fresh h.fresh.filterMem

theorem retireBlock {b p} : Canonical (s.retireBlock b p) := by
  unfold State.retireBlock
  extract_lets last pay _ s1 s2
  have h1 : Canonical s1 := h.update.replaceContents.writeRemap
  have h2 : Canonical s2 := by
    unfold s2
    clear_value last pay
    split
    · exact .ite h1.commitCkpt (.ite h1.psWriteMap (.ite h1.psClears.psPutRecord h1.psWrite))
    · exact h1
  exact h2.bump.update.event

theorem keepRegion {b} : Canonical (s.keepRegion b) := h.foldl fun _ _ ht => ht.setByte

theorem makeVolatile {b} : Canonical (s.makeVolatile b) := by
  unfold State.makeVolatile
  extract_lets _ s1 _ _ _ _ s4
  have h1 : Canonical s1 := .ite h h.keepRegion
  have h4 : Canonical s4 := .ite h1.update.set64 (.ite h1.update.set h1)
  exact (Canonical.ite h4.set h4).event

theorem frugalFailure {b} : Canonical (s.frugalFailure b) := by
  unfold State.frugalFailure
  split
  · exact .ite h.psClear.update.retireBlock h.makeVolatile
  · exact h.makeVolatile

theorem enterFrugal : Canonical (s.enterFrugal) := by
  unfold State.enterFrugal
  extract_lets s1 _ s2
  have h1 : Canonical s1 := h.set
  have h2 : Canonical s2 := by
    unfold s2
    split
    · exact .ite h1.update h1
    · exact h1
  exact h2.event

theorem blockFailed {b} : Canonical (s.blockFailed b) := by
  unfold State.blockFailed
  extract_lets
  split
  · exact h.psProgram.setFlag
  · split
    · exact h.set.update.retireBlock
    · exact (Canonical.ite h.enterFrugal h).frugalFailure

theorem refreshRegion {r} : Canonical (s.refreshRegion r) := h.foldl fun _ _ ht => ht.psCompact.psPlace

theorem refreshAll : Canonical (s.refreshAll) := by
  unfold State.refreshAll
  extract_lets
  split
  · exact h
  · refine h.update.refreshRegion.refreshRegion.forTiles fun _ _ ht => ?_
    split
    · exact .ite ht.psClears.psPutRecord ht
    · exact ht

theorem refreshOf : Canonical (s.refreshOf) := .ite h h.refreshAll

theorem showStoreBusy : Canonical (s.showStoreBusy) := h.setFlag

theorem tunnelAsk {addr len load route depth store} : Canonical (s.tunnelAsk addr len load route depth store) :=
  h.update.sendRouted

theorem psTunnel : Canonical (s.psTunnel) := h.foldl fun _ _ ht => ht.tunnelAsk

theorem psLoadGo {kind number} : Canonical (s.psLoadGo kind number) := by
  unfold State.psLoadGo
  extract_lets _ s2
  have h2 : Canonical s2 := h.set.set.setFlag.showStoreBusy
  exact .ite h.set (.ite h2 h2.psTunnel)

theorem psLoadResult {img} : Canonical (s.psLoadResult img).2 := by
  unfold State.psLoadResult
  extract_lets
  split
  · exact .ite_snd h h
  · extract_lets
    split
    · refine .ite_snd h (.ite_snd h (.ite_snd h (.ite_snd h ?_)))
      dsimp only
      exact h.psClears.psPutRecord
    · exact .ite_snd h (.ite_snd h (.ite_snd h (.ite_snd h h.psWrite)))

theorem psLoadDone {img} : Canonical (s.psLoadDone img) :=
  .ite h h.psLoadResult.set.setFlag.showStoreBusy.raiseCanopy.event

theorem readLog : Canonical s.readLog.2 := h.drainLog.set

theorem saveAbandoned : Canonical (s.saveAbandoned) := h.setFlag.set.set.showStoreBusy

theorem paramSaveGo : Canonical (s.paramSaveGo) := .ite h.set (.ite h.saveAbandoned h.setFlag.showStoreBusy)

omit h in
theorem saveOne {cls index payload} {a : State × Nat × Nat} (h : Canonical a.1) :
    Canonical (State.saveOne cls index payload a).1 := by
  unfold State.saveOne
  exact .ite_fst h (.ite_fst h.psWrite h.psWrite)

theorem paramSaveDone : Canonical (s.paramSaveDone) := by
  unfold State.paramSaveDone
  extract_lets a b
  have ha : Canonical a.1 := h.saveOne
  have hb : Canonical b.1 := foldl_proj Prod.fst ha fun _ _ ht => ht.saveOne
  exact .ite h (.ite h.setFlag.set.set.showStoreBusy hb.setFlag.set.set.showStoreBusy)

/-! ### The functions of Machine/Canopy.lean -/

theorem scanTile {n} : Canonical (s.scanTile n) := by
  unfold State.scanTile
  extract_lets
  split
  · exact h
  · split
    · exact h.putSafety.update
    · extract_lets s3
      have h3 : Canonical s3 := h.putSafety.update
      exact .ite h3.raiseVeto h3

theorem scanTick {one} : Canonical (s.scanTick one) := by
  unfold State.scanTick
  extract_lets _ _ s2
  have h2 : Canonical s2 := h.update.pendLine
  exact .ite h (.ite h2 (h2.forTiles fun _ _ ht => .ite ht ht.scanTile).writeScanKick)

theorem scanWatchdogOf {one} : Canonical (s.scanWatchdogOf one) := .ite h h.canopyFail

theorem mismatch {lane} : Canonical (s.mismatch lane) := .ite h h.canopyFail

theorem selftest {ok} : Canonical (s.selftest ok) := by
  unfold State.selftest
  extract_lets _ _ _ _ s2
  have h2 : Canonical s2 := h.update.set.raiseCanopy
  exact .ite h (.ite h2 h2.canopyFail)

theorem canopyEcc {b correctable dirty addr} : Canonical (s.canopyEcc b correctable dirty addr) :=
  .ite (.ite h.bump h.bump) (.ite h.canopyFail (.ite h.modCore h.modCore.modCore))

theorem govRevoke {n} : Canonical (s.govRevoke n) := h.setGrant.dropLoan

theorem govTrim {k f} : Canonical (s.govTrim k f) := by
  induction f generalizing s with
  | zero => exact h
  | succ f ih =>
    unfold State.govTrim
    split
    · exact h
    · split
      · exact ih h.govRevoke
      · exact h

theorem govFill {k f} : Canonical (s.govFill k f) := by
  induction f generalizing s with
  | zero => exact h
  | succ f ih =>
    unfold State.govFill
    extract_lets l
    split
    · exact h
    · split
      · exact h
      · split
        · split
          · exact ih h.makeLoan
          · exact h
        · exact ih h.setGrant

theorem govMove {f} : Canonical (s.govMove f) := by
  induction f generalizing s with
  | zero => exact h
  | succ f ih =>
    unfold State.govMove
    split
    · exact .ite (ih h.govRevoke.setGrant) h
    · exact h

theorem governorRoundOf : Canonical (s.governorRoundOf) := by
  unfold State.governorRoundOf
  extract_lets _ s1 _ _ s3
  have h1 : Canonical s1 := h.update.raiseCanopy
  have h3 : Canonical s3 := (h1.forTiles fun _ _ ht => ht.govTile).govTrim.govFill.govMove
  exact .ite h (.ite h1 (.ite h3.bump h3))

theorem cmbReply {code status w1 w2 w3} : Canonical (s.cmbReply code status w1 w2 w3) :=
  h.set.set.set.set.setFlag.setFlag

theorem cmbServe {code f} (hf : ∀ t, Canonical t → Canonical (f t)) : Canonical (s.cmbServe code f) := by
  unfold State.cmbServe
  split
  · exact h
  · exact .ite (hf _ h) (.ite h.cmbReply h)

theorem cmbStatusOf : Canonical (s.cmbStatusOf) := h.cmbServe fun _ ht => ht.cmbReply

theorem cmbCheckpointOf : Canonical (s.cmbCheckpointOf) := by
  unfold State.cmbCheckpointOf
  refine h.cmbServe fun _ ht => ?_
  extract_lets s1
  have h1 : Canonical s1 := ht.commitCkpt.commitBeside
  exact .ite ht.cmbReply h1.cmbReply

theorem cmbVersionOf : Canonical (s.cmbVersionOf) := h.cmbServe fun _ ht => ht.cmbReply

/-! ### The functions of Machine/Current.lean -/

theorem swapRequest {n} : Canonical (s.swapRequest n) := .ite h (.ite h.setFlag h.setFlag)

theorem swapDue {n} : Canonical (s.swapDue n) := .ite h.flipBank.refreshPhase h.refreshPhase

theorem writeUstepCtl {n v} : Canonical (s.writeUstepCtl n v) := by
  unfold State.writeUstepCtl
  extract_lets _ _ _ s1
  have h1 : Canonical s1 := .ite h (.ite h.setFlag h.set.set.refreshPhase.sundialClear)
  exact .ite h1.swapRequest h1

theorem tblAccess {n w} : Canonical (s.tblAccess n w).2 := by
  unfold State.tblAccess
  extract_lets _ _ _ _ _ s1
  have h1 : Canonical s1 := h.set
  split
  · exact h1
  · exact .ite_snd h1 (.ite_snd h1.setFlag h1.setShape)

theorem writeScale {n v} : Canonical (s.writeScale n v) := .ite h.setFlag h.set.set.setFlag.refreshPhase.energiseIfDue

theorem rampStep {n} : Canonical (s.rampStep n) := .ite h h.modCur.showLevel

theorem standExpiry {n} : Canonical (s.standExpiry n) := .ite h.modCur.showLevel h

theorem parkExpiry {n} : Canonical (s.parkExpiry n) := .ite h.modCur.showLevel h

/-! ### The functions of Machine/Chopper.lean -/

theorem measurePeak {n x l edge} : Canonical (s.measurePeak n x l edge).2 := .ite_snd h.fresh h

theorem setOffset {n x v} : Canonical (s.setOffset n x v) := .ite h.setInt h.setInt

theorem adapt {n x peak} : Canonical (s.adapt n x peak) := by
  unfold State.adapt
  extract_lets _ _ _ _ s1
  have h1 : Canonical s1 := h.setOffset
  exact .ite h (Canonical.ite (.ite h1.setFlag h1.setFlag) h1).putThresholds

theorem endOn {n x byAbove l edge} : Canonical (s.endOn n x byAbove l edge) := by
  unfold State.endOn
  extract_lets _ _ s2
  have h2 : Canonical s2 := h.measurePeak.setPeak
  exact .ite h (.ite h2.adapt h2)

theorem enterBridge {n x new} : Canonical (s.enterBridge n x new) := by
  unfold State.enterBridge
  extract_lets _ _ _ _ _ _ _ _ _ s1
  have h1 : Canonical s1 := h.modChop.setBstate
  exact (Canonical.ite h1.winClearRoute.cycleRate.showDecim h1).putThresholds.updateGates

theorem noteLow {n x below} : Canonical (s.noteLow n x below) := .ite h.modCur h

theorem stepChop {n x l edge} : Canonical (s.stepChop n x l edge) := by
  unfold State.stepChop
  extract_lets s1 s2 _ s3
  have h1 : Canonical s1 := h.noteLow
  have h2 : Canonical s2 := h1.noteLong
  have h3 : Canonical s3 := .ite h2.modChop h2
  split
  · exact h
  · split
    · exact h1
    · split
      · exact h3
      · exact (Canonical.ite h3.endOn h3).enterBridge

theorem chopOutput {n x level l edge} : Canonical (s.chopOutput n x level l edge) := h.winResult.stepChop

theorem refreshPulse {n k} : Canonical (s.refreshPulse n k) :=
  .ite h (Canonical.ite h.setFlag h.setFlag).modLegs.updateGates

theorem writeOffset {n v} : Canonical (s.writeOffset n v) := h.set.set.modChop.modChop.putThresholds.putThresholds

theorem dutyUpdate {n x l} : Canonical (s.dutyUpdate n x l) := by
  unfold State.dutyUpdate
  extract_lets _ r _ _ _ _ _ _ _ _ s2
  have hr : Canonical r.2 := .ite_snd (a := (_, _)) h.fresh h
  have h2 : Canonical s2 := hr.modChop
  exact .ite h2.markUnreg h2.modChop

theorem setDuty {n x b} : Canonical (s.setDuty n x b) := .ite h.setFlag h.setFlag

theorem toDuty {n x} : Canonical (s.toDuty n x) := h.modChop.setDuty.setBstate.setFlag.putThresholds

theorem toHysteresis {n x} : Canonical (s.toHysteresis n x) := h.modChop.setDuty.setBstate.setFlag.putThresholds

theorem putCmp {n k v} : Canonical (s.putCmp n k v) := h.modLegs

theorem dutyCompareOf {n k high} : Canonical (s.dutyCompareOf n k high) := .ite h h.putCmp.updateGates

theorem periodRequest {n k was} : Canonical (s.periodRequest n k was) := .ite h (.ite h.putCmp (.ite h h.putCmp))

theorem periodPhase {n x l} : Canonical (s.periodPhase n x l) := by
  unfold State.periodPhase
  extract_lets _ s1
  have h1 : Canonical s1 := .ite (.ite h.modChop.dutyUpdate h.toHysteresis) (.ite h.toDuty h)
  exact .ite h1.cycleRate.showDecim h1

theorem loadPeriod {n} : Canonical (s.loadPeriod n) := h.modLegs

theorem periodStart {n a b} : Canonical (s.periodStart n a b) := by
  unfold State.periodStart
  extract_lets s1
  have h1 : Canonical s1 := h.loadPeriod.winClearRoute
  exact .ite h <|
    .ite h1
      h1.periodPhase.periodPhase.modLegs.setFlag.periodRequest.periodRequest.periodRequest.periodRequest.applyGates

theorem lossOf {n x} : Canonical (s.lossOf n x) := by
  unfold State.lossOf
  extract_lets s1
  have h1 : Canonical s1 := h.noteLong
  exact .ite h1.tileFault h1

/-! ### The functions of Machine/SiteTime.lean -/

theorem modClock {f} : Canonical (s.modClock f) := h.update

theorem timeStateEvent {v old} : Canonical (s.timeStateEvent v old) := h.event

theorem setTimeState {v} : Canonical (s.setTimeState v) := by
  unfold State.setTimeState
  extract_lets _ s1 s2
  have h1 : Canonical s1 := h.set
  have h2 : Canonical s2 := .ite h1.bump h1
  exact .ite h (Canonical.ite h2.modClock h2).timeStateEvent

theorem putSlew {rem} : Canonical (s.putSlew rem) := h.modClock.setFlag.setInt

theorem advance : Canonical (s.advance) := by
  unfold State.advance
  extract_lets _ _ s1
  have h1 : Canonical s1 := h.update.modClock
  exact .ite h1.putSlew h1

theorem idle : Canonical (s.idle) := h.leaveCores.advance.clockAll.scansDue.clockFeeds.drainLog

theorem moveCount {a d} : Canonical (s.moveCount a d) := h.update

theorem announceStep {t d reset ref} : Canonical (s.announceStep t d reset ref) := h.set64.set64.setFlag.modClock

theorem correct {t c ref} : Canonical (s.correct t c ref) := by
  unfold State.correct
  extract_lets _ s1 s2
  have h1 : Canonical s1 := h.timeStateEvent
  have h2 : Canonical s2 := h.putSlew
  split
  · split
    · exact h1.complete
    · exact h1
  · split
    · split
      · exact h2.complete
      · exact h2
    · exact h.putSlew.announceStep

theorem replayWaits : Canonical (s.replayWaits) := by
  unfold State.replayWaits
  extract_lets
  refine h.modClock.foldl fun _ _ ht => ?_
  split
  · exact ht.distributeRequest
  · exact ht.fixStart
  · exact ht.issueGroupCmd

theorem resetScheds {old} : Canonical (s.resetScheds old) := h.update

theorem applyStep : Canonical (s.applyStep) := by
  unfold State.applyStep
  extract_lets _ _ _ _ ref later _ _ _ s4 s5 s6
  have h4 : Canonical s4 :=
    (Canonical.ite h.resetScheds.set.setFlag (.ite h (.ite h.setFlag h.set))).moveCount.setFlag.modClock.event
  have h5 : Canonical s5 := by
    unfold s5
    clear_value ref
    split
    · exact h4.complete
    · exact h4
  have h6 : Canonical s6 := by
    unfold s6
    clear_value later
    split
    · exact h5.correct
    · exact h5
  exact .ite h h6.replayWaits

theorem ppsEdgeOf {fall} : Canonical (s.ppsEdgeOf fall) := by
  unfold State.ppsEdgeOf
  extract_lets _ _ _ _ _ s3
  have h3 : Canonical s3 := h.set64.setInt.modClock.setTimeState.modClock
  exact .ite h (.ite (h3.foldl fun _ _ ht => .ite ht.complete ht.correct) (.ite h3.modClock h3.correct))

theorem timeSetOf {r value atPps} : Canonical (s.timeSetOf r value atPps) :=
  .ite h.complete (.ite h.accepted.modClock h.accepted.correct)

theorem atPpsTimeoutOf : Canonical (s.atPpsTimeoutOf) := h.modClock.foldl fun _ _ ht => ht.complete

theorem ppsSilenceOf : Canonical (s.ppsSilenceOf) := by
  unfold State.ppsSilenceOf
  split
  · exact .ite h.setTimeState h
  · exact h

theorem sendSync : Canonical (s.sendSync) := .ite h (h.modClock.modClock.foldl fun _ _ ht => ht.sendOn.sendOn)

theorem receiveSync {b} : Canonical (s.receiveSync b) := by
  unfold State.receiveSync
  extract_lets _ _ s1 _ s3
  have h1 : Canonical s1 := h.modClock
  have h3 : Canonical s3 := (Canonical.ite h1.setTimeState h1).sendOn
  exact .ite h (.ite h3.set64.set64.setFlag.modClock.applyStep h3)

theorem receiveFollowUp {b} : Canonical (s.receiveFollowUp b) := by
  unfold State.receiveFollowUp
  split
  · exact .ite h.modClock h
  · exact h

theorem receiveDelayReq {p b} : Canonical (s.receiveDelayReq p b) := h.sendOn

theorem steer {o x} : Canonical (s.steer o x) := .ite h.moveCount.set.setFlag.setFlag h.fresh.setInt.setFlag

theorem judgeOffset {o} : Canonical (s.judgeOffset o) := by
  unfold State.judgeOffset
  extract_lets _ s1
  have h1 : Canonical s1 := h.modClock
  exact .ite (.ite h1.setTimeState h1) (.ite h1.setTimeState h1)

theorem receiveDelayResp {b} : Canonical (s.receiveDelayResp b) := by
  unfold State.receiveDelayResp
  extract_lets
  split
  · exact h
  · split
    · exact h
    · exact .ite h h.setInt.setInt.modClock.judgeOffset.steer

theorem holdoverOf : Canonical (s.holdoverOf) := .ite h.setTimeState h

theorem acquiringTimeoutOf : Canonical (s.acquiringTimeoutOf) := by
  unfold State.acquiringTimeoutOf
  split
  · exact .ite (h.modClock.forTiles fun _ _ ht => ht.energiseIfDue) h
  · exact h

/-! ### The functions of Machine/UsfenOps.lean -/

theorem failTracks {lost} : Canonical (s.failTracks lost) := h.foldl fun _ _ ht => ht.complete

theorem putPort {p v reason} : Canonical (s.putPort p v reason) := by
  unfold State.putPort
  extract_lets s1
  have h1 : Canonical s1 := h.set.set
  exact .ite h (Canonical.ite h1.setPort h1).event

theorem downPort {p} : Canonical (s.downPort p) := h.setPort

theorem portDown {p v reason} : Canonical (s.portDown p v reason) := by
  unfold State.portDown
  extract_lets _ _ s2
  have h2 : Canonical s2 := h.bump.putPort.downPort.flood
  exact .ite h.putPort (Canonical.ite h2.failTracks h2).updateDomains

theorem chooseRate {p} : Canonical (s.chooseRate p) := .ite h h.setFlag

theorem portRest {p} : Canonical (s.portRest p) := h.portDown

theorem authEvent {outcome} : Canonical (s.authEvent outcome) := .ite h h.event

theorem authHold {e u t ep} : Canonical (s.authHold e u t ep) := by
  unfold State.authHold
  extract_lets _ _ _ _ _ s3 s4
  have h3 : Canonical s3 := h.set.set.set.set.update
  have h4 : Canonical s4 := .ite h3.authEvent h3
  exact .ite h4.authEvent (.ite h4.authEvent h4)

theorem authContest {lo hi} : Canonical (s.authContest lo hi) := h.set.set.set.update.authEvent

theorem contestReported : Canonical (s.contestReported) := .ite h h.update.authEvent

theorem authIgnored {u} : Canonical (s.authIgnored u) := .ite h.authEvent h

theorem applyClaim {e u t ep} : Canonical (s.applyClaim e u t ep) :=
  .ite (.ite h.authHold h) <| .ite h.authHold <| .ite h.authIgnored <| .ite h <| .ite h.authContest <|
  .ite h.authHold h.authIgnored

theorem claimAuthority {e} : Canonical (s.claimAuthority e) := h.flood.applyClaim

theorem peerAuthority {b} : Canonical (s.peerAuthority b) := by
  unfold State.peerAuthority
  extract_lets st
  clear_value st
  split
  · exact h.applyClaim
  · exact .ite h.set h
  · exact h.applyClaim.applyClaim
  · exact h

theorem acceptNumbered {p f} : Canonical (s.acceptNumbered p f).2 :=
  .ite_snd (.ite_snd h.setPort (.ite h h.setPort)) (.ite_snd h.setPort (.ite h h.setPort))

theorem receive {p f} : Canonical (s.receive p f).2 := by
  unfold State.receive
  extract_lets _ s1 s2
  have h1 : Canonical s1 := h.set.setPort
  have h2 : Canonical s2.2 := .ite_snd h1.acceptNumbered h1
  exact .ite_snd h (.ite_snd h1.bump (.ite_snd h2 (.ite h2.floodExcept h2)))

theorem onFrame {p f typ act} (hact : ∀ t, Canonical t → Canonical (act t)) :
    Canonical (s.onFrame p f typ act) := by
  unfold State.onFrame
  extract_lets s1
  have h1 : Canonical s1.2 := h.receive
  exact .ite h (.ite h (.ite (hact _ h1) h1))

theorem bulkNext {l k} : Canonical (s.bulkNext l k).2 := by
  induction k generalizing s with
  | zero => exact h
  | succ k ih =>
    unfold State.bulkNext
    extract_lets
    split
    · exact ih h.update
    · exact .ite_snd h.update (ih h.update)

theorem holdBulk {l} : Canonical (s.holdBulk l) := h.setPort

theorem releaseBulk {k} : Canonical (s.releaseBulk k) := by
  induction k generalizing s with
  | zero => exact h
  | succ k ih =>
    unfold State.releaseBulk
    extract_lets q r
    have hr : Canonical r.2 := h.bulkNext
    split
    · exact hr
    · exact .ite h (ih hr.setPort.sendOn.holdBulk)

theorem releaseWaiting {p} : Canonical (s.releaseWaiting p) := by
  unfold State.releaseWaiting
  extract_lets _ _ s2
  have h2 : Canonical s2 := h.setPort.foldl fun _ _ ht => ht.sendOn
  exact .ite h2.releaseBulk (h2.setPort.foldl fun _ _ ht => ht.sendOn)

theorem replay {p cmd bulk} : Canonical (s.replay p cmd bulk) :=
  .ite h.portDown (h.setPort.foldl fun _ _ ht => ht.onWire.bump)

theorem sendAck {p sleep} : Canonical (s.sendAck p sleep) := h.setPort.sendOn

theorem takeRoute {route depth gen} : Canonical (s.takeRoute route depth gen) := by
  unfold State.takeRoute
  extract_lets _ _ s1 _ r
  have h1 : Canonical s1 := h.set.set.set.set.set.set
  have hr : Canonical r.2 := .ite_snd h1 h1.fresh
  exact hr.set

theorem rollEnd {next r} : Canonical (s.rollEnd next r) := by
  unfold State.rollEnd
  extract_lets _ s1
  have h1 : Canonical s1 := h.update
  exact .ite h1.setFlag.set.set.event h1.sendOn

theorem rollAsk {p route depth r} : Canonical (s.rollAsk p route depth r) := h.update.sendOn

theorem rollD {r} : Canonical (s.rollD r) := .ite h.rollEnd (.ite h.rollEnd h.rollAsk)

theorem rollBranch {p r next} (hnext : ∀ t x, Canonical t → Canonical (next t x)) :
    Canonical (s.rollBranch p r next) :=
  .ite (hnext _ _ h) (.ite (hnext _ _ h.portDown) (.ite (hnext _ _ h) h.rollAsk))

theorem rollB1 {r} : Canonical (s.rollB1 r) := h.rollBranch fun _ _ ht => ht.rollD

theorem rollVisit : Canonical (s.rollVisit) := h.setPort.setPort.rollBranch fun _ _ ht => ht.rollB1

theorem ringPath : Canonical s.ringPath.2 := by
  unfold State.ringPath
  extract_lets _ s1
  have h1 : Canonical s1.2 := h.fresh
  exact .ite_snd h (.ite_snd h (.ite_snd h1 h1.update))

theorem rollGo : Canonical (s.rollGo) :=
  .ite h (.ite h.set (.ite h.ringPath.set (Canonical.ite h.ringPath h).setFlag.takeRoute.update.rollVisit))

theorem rollCalled {p b} : Canonical (s.rollCalled p b) := by
  unfold State.rollCalled
  extract_lets _ _ s2
  have h2 : Canonical s2 := h.takeRoute
  exact .ite h.sendOn.portDown (Canonical.ite h2.setTimeState h2).sendRouted.rollVisit

theorem rollReplied {p b} : Canonical (s.rollReplied p b) := by
  unfold State.rollReplied
  extract_lets
  split
  · exact h
  · extract_lets _ s1
    have h1 : Canonical s1 := h.setPort
    exact .ite h (.ite h.rollEnd (.ite h1.rollB1 h1.rollD))

theorem rollEntered {b} : Canonical (s.rollEntered b) := by
  unfold State.rollEntered
  extract_lets _ _ _ s1 s2
  have h1 : Canonical s1 := h.update
  have h2 : Canonical s2 := h1.setFlag
  exact .ite h (.ite (.ite h2.set h2) h1)

/-! ### The functions of Machine/Power.lean -/

theorem modLookout {f} : Canonical (s.modLookout f) := h.update

theorem showLocks {on} : Canonical (s.showLocks on) := h.set.setFlag.set.setFlag

theorem quietPort {p v parks} : Canonical (s.quietPort p v parks) := by
  unfold State.quietPort
  extract_lets _ s1
  have h1 : Canonical s1 := .ite h.bump.putPort h.putPort
  exact (Canonical.ite h1.downPort h1).setPort

theorem quiet {v parks} : Canonical (s.quiet v parks) := by
  unfold State.quiet
  extract_lets s1
  have h1 : Canonical s1 := h.foldl fun _ _ ht => ht.quietPort
  exact (Canonical.ite h1.failTracks h1).sfeStop.update

theorem powerEvent {new was refused} : Canonical (s.powerEvent new was refused) := h.event

theorem sleepIdle : Canonical (s.sleepIdle) := h.modLookout.forTiles fun _ _ ht => ht.goState

theorem powerEnter {target} : Canonical (s.powerEnter target) := by
  unfold State.powerEnter
  extract_lets _ s1
  have h1 : Canonical s1 := h.set.sleepIdle
  exact .ite h1.putPower.powerEvent
    (h1.commitCkpt.commitBeside.drainLog.foldl
      fun _ _ ht => .ite ht.sendAck ht).putPower.powerEvent.quiet.showLocks

theorem powerRequest {target} : Canonical (s.powerRequest target) :=
  .ite h (.ite h.dozeWake (.ite h.set.powerEvent (.ite h.modLookout h.powerEnter)))

theorem autoDozeOf : Canonical (s.autoDozeOf) := .ite h.powerEnter h

theorem twilightWake : Canonical (s.twilightWake) := by
  unfold State.twilightWake
  extract_lets _ s2
  have h2 : Canonical s2 := h.putPower.showLocks.feedRestart.foldl fun _ _ ht => ht.portRest
  exact (Canonical.ite h2 h2.setTimeState.modClock).noteWake

theorem deviceWakeOf {b} : Canonical (s.deviceWakeOf b) := by
  unfold State.deviceWakeOf
  extract_lets _ s1 s2 s3
  have h1 : Canonical s1 := .ite h.modLookout h
  have h2 : Canonical s2 := .ite h1.modLookout h1
  have h3 : Canonical s3 := h2.setBit
  exact .ite h (.ite (.ite h2.setBit h2) (.ite h2 (.ite h3 (.ite h3.dozeWake (.ite h3.twilightWake h3.modLookout)))))

theorem lkAlarmArmOf {who v} : Canonical (s.lkAlarmArmOf who v) := h.pairTake.wr.wr.modLookout

theorem abandonLoad : Canonical (s.abandonLoad) := by
  unfold State.abandonLoad
  extract_lets _ s1
  have h1 : Canonical s1.2 := h.fresh
  exact .ite h (Canonical.ite h1.psClears h1).set.setFlag.showStoreBusy.update.event

/-- Unfolded under the application, as in `sfeHouseLost`. -/
theorem duskRun {cause} : Canonical (s.duskRun cause) := by
  conv => arg 1; fun; fun; delta State.duskRun
  extract_lets _ _ _ _ _ s0 s1 _ s2 s3
  have h0 : Canonical s0 := h.setFlag.set.set.set.modLookout
  have h1 : Canonical s1 := (h0.forTiles fun _ _ ht => ht.lullSource).raiseCanopy
  have h2 : Canonical s2 := (h1.forTiles fun _ _ ht => ht.coreSleep.modTile).quiet.updateDomains.abandonLoad
  have h3 : Canonical s3 := .ite h2.saveAbandoned h2
  clear_value s1 s3
  exact .ite h (.ite h1 h3.update)

theorem duskStartOf {cause} : Canonical (s.duskStartOf cause) := .ite h.duskRun h

theorem duskEnd {outcome} : Canonical (s.duskEnd outcome) := by
  unfold State.duskEnd
  extract_lets _ r _
  have hr : Canonical r.2 := .ite_snd h h.fresh
  exact hr.set.set.setFlag.modLookout

theorem duskRecover : Canonical (s.duskRecover) := by
  unfold State.duskRecover
  extract_lets _ s1
  have h1 : Canonical s1 := h.duskEnd
  exact ((Canonical.ite h1
    ((h1.forTiles fun _ _ ht => .ite ht ht.coreWake).foldl fun _ _ ht => ht.portRest)).forTiles
    fun _ _ ht => ht.releaseLull).event

theorem duskNightOf : Canonical (s.duskNightOf) := by
  unfold State.duskNightOf
  extract_lets _ _ s2
  have h2 : Canonical s2 := h.duskEnd.modLookout
  exact (Canonical.ite h2 h2.putPower).quiet.showLocks

theorem duskOutcomeOf : Canonical (s.duskOutcomeOf) := by
  unfold State.duskOutcomeOf
  split
  · exact h
  · split
    · exact h.duskNightOf
    · split
      · exact .ite h.duskRecover h
      · exact h

theorem xtalEvent : Canonical (s.xtalEvent) := h.event

theorem refClockLossOf : Canonical (s.refClockLossOf) := .ite h h.setFlag.setFlag.xtalEvent.duskStartOf

theorem supplyFallOf : Canonical (s.supplyFallOf) :=
  ⟨rfl, sparseWf_filter _ _ s.mem h.2.1, h.2.2⟩

/-! ### The functions of Machine/Serial.lean -/

theorem setSpc {k p} : Canonical (s.setSpc k p) := h.update.set.set

theorem spcRefuse {k} : Canonical (s.spcRefuse k) := h.setFlag

theorem spcBegin {k} : Canonical (s.spcBegin k) := h.setFlag.setSpc

theorem spcGo {k} : Canonical (s.spcGo k) := by
  unfold State.spcGo
  extract_lets _ _ s1
  have h1 : Canonical s1 := h.setFlag.setSpc
  exact .ite h.spcRefuse (.ite h1.setFlag h1.spcBegin)

theorem spcFlush {k tx} : Canonical (s.spcFlush k tx) := .ite h.spcRefuse h.setSpc

theorem spcAbort {k last} : Canonical (s.spcAbort k last) := by
  unfold State.spcAbort
  extract_lets
  split
  · exact h.spcRefuse
  · exact .ite h h.setSpc

theorem spcPush {k w} : Canonical (s.spcPush k w) := .ite h.setFlag h.setSpc

theorem spcPop {k} : Canonical (s.spcPop k).2 := by
  unfold State.spcPop
  extract_lets
  split
  · exact h.setFlag
  · exact h.setSpc

theorem spcDone {k got} : Canonical (s.spcDone k got) := by
  unfold State.spcDone
  extract_lets _ _ _ _ s2
  have h2 : Canonical s2 := h.setSpc.setFlag.setFlag
  split
  · exact h
  · extract_lets s3 s4
    have h4 : Canonical s4 := .ite h2.setFlag h2.setFlag.bump
    refine .ite h ?_
    clear_value s4
    split
    · exact .ite h4 h4.modLookout.powerEnter
    · exact h4

theorem writeSpcCfg {k v} : Canonical (s.writeSpcCfg k v) := .ite h.setFlag h.wr

theorem xipDiscover : Canonical (s.xipDiscover) := .ite h.setFlag.setFlag h

theorem writeXipCfg {v} : Canonical (s.writeXipCfg v) := by
  unfold State.writeXipCfg
  extract_lets _ s1
  have h1 : Canonical s1 := h.wr
  exact .ite h (.ite h1.xipDiscover h1)

theorem xipError {k o} : Canonical (s.xipError k o) := h.bump.raise

theorem xipDiscovered {d ok} : Canonical (s.xipDiscovered d ok) := by
  unfold State.xipDiscovered
  extract_lets _ _ _ _ _ _ _ _ s4 _ s6
  have h4 : Canonical s4 := h.setFlag.set.set.set.set.setFlag.setFlag
  have h6 : Canonical s6 := (Canonical.ite h4 h4.setFlag).setFlag.setFlag
  exact .ite h (.ite h6.spcBegin h6)

theorem bufferLine {k l} : Canonical (s.bufferLine k l) := by
  unfold State.bufferLine
  extract_lets _ _ r
  have hr : Canonical r.2 := .ite_snd h h.fresh
  exact hr.modCore

theorem xipLine {k o wait got} : Canonical (s.xipLine k o wait got) := by
  unfold State.xipLine
  extract_lets s1
  have h1 : Canonical s1 := h.set
  split
  · exact h1
  · split
    · exact h1.xipError
    · exact h1.bufferLine

/-! ### The functions of Machine/HamperOps.lean -/

theorem modHamper {f} : Canonical (s.modHamper f) := h.update

theorem showErrRings : Canonical (s.showErrRings) := h.set

theorem abortScheds {q} : Canonical (s.abortScheds q) := h.modHamper.foldl fun _ _ ht => ht.complete

theorem sqError {q code} : Canonical (s.sqError q code) := .ite h h.set.set.showErrRings.sendVector.abortScheds

theorem cqError {c code} : Canonical (s.cqError c code) := .ite h h.set.set.showErrRings.sendVector

theorem evError {e} : Canonical (s.evError e) := .ite h h.modHamper.showErrRings.sendVector

theorem abortHeld {q} : Canonical (s.abortHeld q) := h.modHamper.foldl fun _ _ ht => ht.complete

theorem writeSqCfg {q v} : Canonical (s.writeSqCfg q v) := by
  unfold State.writeSqCfg
  extract_lets _ s1
  have h1 : Canonical s1 := h.wr
  exact .ite h (.ite h1.set.set.set (.ite h1.set.showErrRings.abortHeld.abortScheds h1))

theorem writeCqCfg {c v} : Canonical (s.writeCqCfg c v) := by
  unfold State.writeCqCfg
  extract_lets _ s1
  have h1 : Canonical s1 := h.wr
  exact .ite h (.ite h1.set.set.set.setCoal (.ite h1.set.showErrRings h1))

theorem giveOwed {e} : Canonical (s.giveOwed e) := .ite h (h.modHamper.foldl fun _ _ ht => ht.eventToRing)

theorem writeEvCfg {e v} : Canonical (s.writeEvCfg e v) := by
  unfold State.writeEvCfg
  extract_lets _ s1
  have h1 : Canonical s1 := h.wr
  exact .ite h (.ite h1.set.set.setCoal.giveOwed (.ite h1.modHamper.showErrRings h1))

theorem writeJrCfg {j v} : Canonical (s.writeJrCfg j v) := by
  unfold State.writeJrCfg
  extract_lets _ _ s1
  have h1 : Canonical s1 := h.wr
  exact .ite h (.ite h1.set64.set64 h1)

theorem dbBad : Canonical (s.dbBad) := h.bump

theorem sqDoorbell {q v} : Canonical (s.sqDoorbell q v) := .ite h.dbBad (.ite h.dbBad.sqError h.set)

theorem cqDoorbell {c v} : Canonical (s.cqDoorbell c v) := .ite h.dbBad (.ite h.dbBad.cqError h.set)

theorem evHead {e idx t} (ht : s.evHead e idx = some t) : Canonical t := by
  unfold State.evHead at ht
  split at ht <;> cases ht
  exact h.set

theorem evDoorbell {v} : Canonical (s.evDoorbell v) :=
  .ite h.dbBad (.ite h.dbBad.evError (h.dbBad.evError.getD fun _ => h.evHead))

theorem doorbell {v} : Canonical (s.doorbell v) := by
  unfold State.doorbell
  extract_lets _ s1
  have h1 : Canonical s1 := h.dozeWake
  exact .ite h (.ite h1.sqDoorbell (.ite h1.cqDoorbell h1.evDoorbell))

theorem putJrHead {j head t} (ht : s.putJrHead j head = some t) : Canonical t := by
  unfold State.putJrHead at ht
  extract_lets at ht
  split at ht <;> cases ht
  exact h.set64

theorem writeJrHead {j head} : Canonical (s.writeJrHead j head) := .ite h (h.dbBad.getD fun _ => h.putJrHead)

theorem coalTimer {r} : Canonical (s.coalTimer r) := by
  unfold State.coalTimer
  extract_lets _ s1
  have h1 : Canonical s1 := h.setCoal
  exact .ite h (.ite (.ite h h.setCoal.sendVector) (.ite h (.ite h1.sendVector h1.toHost)))

theorem refillMailbox : Canonical (s.refillMailbox) := by
  unfold State.refillMailbox
  split
  · exact h
  · exact .ite h h.modHamper.set

theorem releaseCpl {c} : Canonical (s.releaseCpl c) := by
  unfold State.releaseCpl
  split
  · exact h.refillMailbox
  · split
    · exact h
    · exact .ite h h.modHamper.cplWrite

theorem nextTurn {t} : Canonical (s.nextTurn t) := h.modHamper

theorem jrServe {ready k r} (hr : s.jrServe ready k = some r) : Canonical r.2 := by
  induction k generalizing s with
  | zero => cases hr
  | succ k ih =>
    unfold State.jrServe at hr
    extract_lets at hr
    split at hr
    · extract_lets at hr
      split at hr
      · cases hr
        exact h.modHamper
      · exact ih h.nextTurn hr
    · exact ih (Canonical.ite h.modHamper h).nextTurn hr

theorem jrNext {r} (hr : s.jrNext = some r) : Canonical r.2 := by
  unfold State.jrNext at hr
  extract_lets at hr
  split at hr
  · obtain ⟨x, -, rfl⟩ := Option.map_eq_some_iff.1 hr
    exact h
  · exact h.jrServe hr

theorem toHostAll {d a b v k} : Canonical (s.toHostAll d a b v k) := by
  induction k generalizing s a b with
  | zero => exact h
  | succ k ih => exact .ite h.toHost (ih h.toHost)

theorem jrPut {j kind tile time epoch flags size body} : Canonical (s.jrPut j kind tile time epoch flags size body) :=
  h.modHamper.set64.toHostAll

theorem journalWrite : Canonical (s.journalWrite) := by
  unfold State.journalWrite
  split
  · exact h.modHamper
  · split
    · exact h
    · next r t ht =>
      have h1 : Canonical t := h.jrNext ht
      exact (Canonical.ite h1.modHamper.jrPut h1.modHamper).jrPut

theorem mailboxGo : Canonical (s.mailboxGo) := .ite h h.modHamper.setFlag

theorem popCpl : Canonical s.popCpl.2 := h.modHamper.set.refillMailbox

theorem popEvt : Canonical s.popEvt.2 := h.modHamper.set

/-! ### The functions of Machine/DebugOps.lean -/

theorem writeCanopySpecial {one num v t} (ht : s.writeCanopySpecial one num v = some t) : Canonical t := by
  unfold State.writeCanopySpecial at ht
  split at ht <;> cases ht
  · exact h.writeVetoRaise
  · exact h.writeVetoRaise
  · exact h.writeVetoDrop
  · exact h.writeVetoDrop
  · exact h.writeScanKick
  · exact h.writeLocks
  · exact h
  · exact h
  · exact h.writeGrant
  · exact h.writeGrant
  · exact h.writeLend

theorem readSpecial {k num r} (hr : s.readSpecial k num = some r) : Canonical r.2 := by
  unfold State.readSpecial at hr
  extract_lets at hr
  split at hr
  case h_15 => cases hr; exact h.fresh
  case h_17 =>
    split at hr
    · cases hr
    · obtain ⟨x, -, rfl⟩ := Option.map_eq_some_iff.1 hr
      exact h
  all_goals cases hr; exact h

theorem writeSpecial {k num v t} (ht : s.writeSpecial k num v = some t) : Canonical t := by
  unfold State.writeSpecial at ht
  split at ht
  case h_17 =>
    split at ht
    · cases ht
    · exact h.writeCanopySpecial ht
  case h_4 | h_15 | h_16 => cases ht; exact h
  all_goals cases ht; exact h.modCore

theorem putCanopyHalted {k on} : Canonical (s.putCanopyHalted k on) := by
  unfold State.putCanopyHalted
  extract_lets _ _ _ s2
  have h2 : Canonical s2 := (Canonical.ite h.update (.ite h.update h)).setBit
  exact .ite h2.set h2

theorem takeCanopyHalt {k} : Canonical (s.takeCanopyHalt k) := by
  unfold State.takeCanopyHalt
  extract_lets s1 _ s3
  have h1 : Canonical s1 := h.modCore
  have h3 : Canonical s3 := (Canonical.ite h1.canopyLull h1).putCanopyHalted.setFlag
  exact (Canonical.ite h3 h3.set).showClaim.event

theorem canopyHalt : Canonical (s.canopyHalt) := .ite h (.ite h.takeCanopyHalt h.modCore)

theorem canopyGo {step} : Canonical (s.canopyGo step) := .ite h.modCore.putCanopyHalted h

theorem tileGo {n step} : Canonical (s.tileGo n step) := .ite h.modCore.putCoreState h

theorem haltTiles {hi v} : Canonical (s.haltTiles hi v) := h.forTiles fun _ _ ht => ht.requestStop

theorem goTiles {hi step v} : Canonical (s.goTiles hi step v) := h.forTiles fun _ _ ht => ht.tileGo

theorem writeDbgCanopy {v} : Canonical (s.writeDbgCanopy v) := by
  unfold State.writeDbgCanopy
  extract_lets s1
  have h1 : Canonical s1 := h.set
  exact .ite h1.canopyHalt (.ite h1.canopyGo (.ite h1.canopyGo h1))

theorem dbgCoreRead {off r} (hr : s.dbgCoreRead off = .ok r) : Canonical r.2 := by
  unfold State.dbgCoreRead at hr
  split at hr
  · cases hr
  · extract_lets at hr
    split at hr
    · cases hr
    · split at hr
      · cases hr; exact h
      · split at hr
        · cases hr; exact h
        · split at hr
          · split at hr
            · next x hx => cases hr; exact h.readSpecial hx
            · cases hr
          · cases hr

theorem dbgCoreWrite {off v t} (ht : s.dbgCoreWrite off v = .ok t) : Canonical t := by
  unfold State.dbgCoreWrite at ht
  split at ht
  · cases ht
  · extract_lets at ht
    split at ht
    · cases ht
    · split at ht
      · cases ht; exact h.modCore
      · split at ht
        · cases ht; exact h.modCore
        · split at ht
          · split at ht
            · next u hu => cases ht; exact h.writeSpecial hu
            · cases ht
          · cases ht

theorem holdPins : Canonical (s.holdPins) := by
  unfold State.holdPins
  split
  · exact h
  · split
    · exact h.forTiles fun _ _ ht => ht.driveCells
    · refine h.forTiles fun _ _ ht => ?_
      extract_lets s1
      have h1 : Canonical s1 := ht.gatesLow.setFlag.setFlag
      exact h1.setMaskBit

theorem tapLoad {ir} : Canonical (s.tapLoad ir) := by
  unfold State.tapLoad
  extract_lets _ _ s1
  have h1 : Canonical s1 := h.update
  exact .ite h1.holdPins (.ite h1.update h1)

theorem tapCells {cells} : Canonical (s.tapCells cells) := h.update.holdPins

/-! ### The functions of Machine/RegOps.lean -/

theorem barErr {kind off} : Canonical (s.barErr kind off) := h.bump.set.set

theorem plainWrite {keyed off v} : Canonical (s.plainWrite keyed off v) := by
  unfold State.plainWrite
  split
  · exact h.wr
  · exact h

theorem writeBinding {enabled off v} : Canonical (s.writeBinding enabled off v) := .ite h h.plainWrite

theorem writeControl {off v} : Canonical (s.writeControl off v) := by
  unfold State.writeControl
  extract_lets
  split
  · exact .ite h.update h
  · exact .ite h.paramSaveGo h
  · exact h

theorem writePage {dbg v} : Canonical (s.writePage dbg v) := .ite h.set h.barErr

theorem writePwrCtl {v} : Canonical (s.writePwrCtl v) := by
  unfold State.writePwrCtl
  extract_lets s1 s2
  have h1 : Canonical s1 := h.plainWrite
  have h2 : Canonical s2 := .ite h1.duskStartOf h1
  exact .ite h2.powerRequest h2

theorem writeCanopyBlock {off v} : Canonical (s.writeCanopyBlock off v) := by
  unfold State.writeCanopyBlock
  extract_lets _ s1
  have h1 : Canonical s1 := h.plainWrite
  split
  · exact h.canopyMail
  · exact .ite h.setFlag h
  · exact h.update
  · exact .ite (h1.forTiles fun _ _ ht => ht.govTile) h1

theorem writeRings {off v} : Canonical (s.writeRings off v) :=
  .ite (.ite h.writeSqCfg (.ite h.writeBinding h)) <| .ite (.ite h.writeCqCfg h) <|
  .ite (.ite h.writeEvCfg (.ite h.plainWrite h)) <| .ite h.writeJrCfg h

theorem writePortCfg {p keyed v} : Canonical (s.writePortCfg p keyed v) := by
  unfold State.writePortCfg
  extract_lets _ _ _ s2
  have h2 : Canonical s2 := h.plainWrite.chooseRate.setBit
  exact .ite h (Canonical.ite h2.portDown (.ite h2.portRest h2)).updateDomains

theorem writeSfpCmd {p v} : Canonical (s.writeSfpCmd p v) := by
  unfold State.writeSfpCmd
  extract_lets _ s1 s2
  have h1 : Canonical s1 := .ite h.setFlag h
  have h2 : Canonical s2 := h1.plainWrite
  exact .ite h1 (.ite h2.setFlag h2)

theorem writeUsfen {keyed off v} : Canonical (s.writeUsfen keyed off v) :=
  .ite h.writePortCfg (.ite h.writeSfpCmd (.ite (.ite h.rollGo h) h.plainWrite))

theorem writeSerial {off v} : Canonical (s.writeSerial off v) := by
  unfold State.writeSerial
  extract_lets _ s1 s2 s3
  have h1 : Canonical s1 := .ite h.spcAbort h
  have h2 : Canonical s2 := .ite h1.spcFlush h1
  have h3 : Canonical s3 := .ite h2.spcFlush h2
  split
  · split
    · exact h.writeSpcCfg
    · exact .ite h3.spcGo h3
    · exact h.spcPush
    · exact h.plainWrite
  · exact .ite h.writeXipCfg h.plainWrite

theorem writeFeed {off v} : Canonical (s.writeFeed off v) := by
  unfold State.writeFeed
  extract_lets _ s1
  have h1 : Canonical s1 := .ite h.setFlag h
  split
  · split
    · exact h.writeFeedCfg
    · exact h.writeFeedRev
    · exact h.set
    · exact h.writeFeedMode
    · exact h.writeFeedAxis
    · exact h.writeFeedAxis
    · exact .ite h1.ssiStart h1
    · exact h.plainWrite
  · split
    · exact h.writeEmuCfg
    · exact h.writeEmuGear
    · exact h.writeEmuGear
    · exact h.plainWrite

theorem writeSiteCtl {v} : Canonical (s.writeSiteCtl v) := by
  unfold State.writeSiteCtl
  extract_lets s1 s2
  have h1 : Canonical s1 := h.plainWrite
  have h2 : Canonical s2 := .ite h1.siteCancel h1
  exact .ite h2.siteArm h2

theorem writeAnalog {keyed off v} : Canonical (s.writeAnalog keyed off v) := by
  unfold State.writeAnalog
  extract_lets _ s1
  have h1 : Canonical s1 := .ite h.armAlarm h
  split
  · split
    · exact h.writeSfeCtl
    · exact h.writeSfeSteer
    · exact h.plainWrite
  · split
    · exact .ite h.writeSfeCfg h.plainWrite
    · split
      · split
        · exact h.writeHwinStatus
        · split
          · exact h.writeHwinCfg
          · exact h.writeHwinThr
          · exact h
      · split
        · exact h.writeHouseCtl.showCal
        · exact h.writeHouseMask
        · exact .ite h1.scanStart h1
        · exact h.writeSiteCtl
        · exact h.plainWrite

theorem writeStore {off v} : Canonical (s.writeStore off v) :=
  .ite (.ite h.psLoadGo (.ite h h.plainWrite)) h.plainWrite

theorem writeDebug {off v} : Canonical (s.writeDebug off v) := by
  unfold State.writeDebug
  extract_lets s1
  have h1 : Canonical s1 := h.plainWrite
  split
  · exact h1.haltTiles
  · exact h1.haltTiles
  · exact h1.goTiles
  · exact h1.goTiles
  · exact h1.goTiles
  · exact h1.goTiles
  · exact h.writeDbgCanopy
  · exact h.plainWrite

theorem writeTileAdc {n off v} : Canonical (s.writeTileAdc n off v) := by
  unfold State.writeTileAdc
  extract_lets s1
  have h1 : Canonical s1 := .ite h.armAlarm h
  split
  · exact h.plainWrite.showCal.showSettled
  · exact h.writeAdcRef
  · exact h.writeScanMask
  · exact h.writeScanRefsel
  · exact h.writeScanAvg
  · exact h.writeScanTrig
  · exact .ite h1.scanStart h1
  · exact h.writeScanBuf
  · exact h.writeScanRptr
  · exact h.plainWrite

theorem writeTileWin {n keyed off v} : Canonical (s.writeTileWin n keyed off v) := by
  unfold State.writeTileWin
  extract_lets
  split
  · exact h.writeWinStatus
  · split
    · split
      · exact h.writeWinCfg
      · exact h.writeWinThr
      · exact h
    · exact h

theorem writeTileForce {n keyed off v} : Canonical (s.writeTileForce n keyed off v) := by
  unfold State.writeTileForce
  extract_lets _ s1
  have h1 : Canonical s1 := h.plainWrite.budgetCeil
  split
  · exact .ite h (.ite h1.learnAbortOf (.ite h1.learnOf h1))
  · exact .ite h h.plainWrite
  · exact h.profAccess
  · exact h.segAccess
  · exact h.plainWrite.showPush
  · exact h.plainWrite.budgetCeil

theorem writeTileTrail {n off v} : Canonical (s.writeTileTrail n off v) := by
  unfold State.writeTileTrail
  extract_lets z s1
  have h1 : Canonical s1 := h.plainWrite
  split
  · exact h.posEventArmOf
  · clear_value z
    split
    · exact h.trailCmd
    · exact h.capWriteOf
    · exact h.capWriteOf
    · exact .ite h1.targetReplaceOf h1
    · exact h.modPlan
    · exact h.writeWrapCtl
    · exact h.plainWrite

theorem writeTileCur {n off v} : Canonical (s.writeTileCur n off v) := by
  unfold State.writeTileCur
  extract_lets
  split
  · exact h.writeUstepCtl
  · exact h.tblAccess
  · exact h.writeScale
  · exact h.plainWrite.showLevel
  · exact h.plainWrite.showLevel
  · exact h.plainWrite.showLevel
  · exact h.writeChopCtl
  · exact h.modCur.putCap
  · exact h.writeOffset
  · exact h.plainWrite.setFlag.showDecim
  · exact h.plainWrite.refreshPhase

theorem writeTileSd {n off v} : Canonical (s.writeTileSd n off v) := by
  unfold State.writeTileSd
  extract_lets s1 s2 s3 s4 s5 s6
  have h1 : Canonical s1 := h.plainWrite.govTile
  have h2 : Canonical s2 := .ite h1.fixTemp h1
  have h3 : Canonical s3 := .ite h2.sundialClear h2
  have h4 : Canonical s4 := .ite h3.mapLoadOf h3
  have h5 : Canonical s5 := h.plainWrite
  have h6 : Canonical s6 := .ite h5.walkAbortOf h5
  split
  · exact .ite h4.mapCheckOf h4
  · exact .ite h6.walkStartOf h6
  · exact h.plainWrite

theorem writeTileLeg {n keyed off v} : Canonical (s.writeTileLeg n keyed off v) := by
  unfold State.writeTileLeg
  split
  · exact h.writeLegCtl
  · exact h.writePwmPeriod
  · exact h.writePwmPhase
  · exact h.writeLegOvr
  · exact h.writeLegStatus
  · exact h.writeLegTrip
  · exact h.lullClr
  · exact h.plainWrite

theorem writeTileHiker {n off v} : Canonical (s.writeTileHiker n off v) := by
  unfold State.writeTileHiker
  split
  · exact h.writeHikerCtl
  · exact h.hostMail
  · exact .ite h.fromAck h
  · exact h.plainWrite

theorem writeTile {keyed off v} : Canonical (s.writeTile keyed off v) :=
  .ite h.writeTileTrail <| .ite h.writeTileCur <| .ite h.writeTileSd <| .ite h.writeTileLeg <|
  .ite h.writeTileAdc <| .ite h.writeTileWin <| .ite h.writeTileHiker h.writeTileForce

theorem writeSingle {keyed off v} : Canonical (s.writeSingle keyed off v) := by
  unfold State.writeSingle
  extract_lets s1
  have h1 : Canonical s1 := h.plainWrite
  split
  · exact h.writeTile
  · split
    · exact .ite h.writePage h.writeControl
    · exact .ite h.writePwrCtl h.plainWrite
    · exact h.writeCanopyBlock
    · exact h.writeRings
    · exact h.writeRings
    · exact .ite h1.mailboxGo h1
    · exact h.writeUsfen
    · exact .ite h.writeTripCfg (.ite h.clearPins h.plainWrite)
    · exact h.writeSerial
    · exact h.writeFeed
    · exact h.writeAnalog
    · exact h.writeStore
    · exact h.writeDebug
    · exact h.plainWrite

theorem commitPair {keyed low lo hi} : Canonical (s.commitPair keyed low lo hi) := by
  unfold State.commitPair
  extract_lets
  split
  · split
    · exact h.modPlan
    · exact h.setAlarm.armAlarm
    · exact h.plainWrite.plainWrite
  · exact .ite h.writeTripRoute <| .ite h.writeJrHead <| .ite (.ite h h.plainWrite.plainWrite) <|
      .ite h.plainWrite.plainWrite.updateDomains <| .ite h.plainWrite.plainWrite.modLookout <|
      .ite h.setAlarm.armAlarm h.plainWrite.plainWrite

theorem regWrite {who keyed off v} : Canonical (s.regWrite who keyed off v) := by
  unfold State.regWrite
  extract_lets _ s1
  have h1 : Canonical s1.2 := h.pairTake
  exact .ite h (.ite (.ite h.update h.pairHold) (.ite (.ite h1 h1.commitPair) h.writeSingle))

theorem regRead {who off} : Canonical (s.regRead who off).2 := by
  unfold State.regRead
  extract_lets _ _ t
  have ht : Canonical t.2 := snd_of_eq h.tblAccess rfl
  clear_value t
  split
  · exact h
  · refine .ite_snd h.pairCapture.mk_snd <| .ite_snd h.pairHigh <| .ite_snd h.set.mk_snd <|
      .ite_snd h.popCpl.mk_snd ?_
    refine .ite_snd h.popEvt.mk_snd <| .ite_snd h.spcPop <| .ite_snd h.readLog.mk_snd <| .ite_snd h.calRead.mk_snd ?_
    exact .ite_snd ht.mk_snd <| .ite_snd h.profAccess.mk_snd <|
      .ite_snd h.segAccess.mk_snd (Canonical.ite h.wr h).mk_snd

theorem windowPut {dbg a b} : Canonical (s.windowPut dbg a b) := by
  unfold State.windowPut
  extract_lets _ s1
  have h1 : Canonical s1 := h.barErr
  split
  · exact h
  · exact .ite h.sharedWrite (.ite (.ite h.setBytes.mapInvalid h1) h1)

theorem hostWrite {who jtag off v} : Canonical (s.hostWrite who jtag off v) := .ite h.bump h.regWrite

theorem dbgFail {e} : Canonical (s.dbgFail e) := h.setFlag.set

theorem dbgOk {w} : Canonical (s.dbgOk w) := h.wr.setFlag.set

theorem dbgDone : Canonical (s.dbgDone) := h.setFlag.set

theorem dbgBarRead {view off} : Canonical (s.dbgBarRead view off) := .ite h.dbgOk (Canonical.ite h h.regRead).dbgOk

theorem dbgBarWrite {jtag off v} : Canonical (s.dbgBarWrite jtag off v) :=
  .ite h.dbgFail (.ite h.windowPut.dbgDone h.hostWrite.dbgDone)

theorem dbgCoreAccess {write off} : Canonical (s.dbgCoreAccess write off) := by
  unfold State.dbgCoreAccess
  split
  · split
    · next t ht => exact (h.dbgCoreWrite ht).dbgDone
    · exact h.dbgFail
  · split
    · next r hr => exact (h.dbgCoreRead hr).dbgOk
    · exact h.dbgFail

theorem dbgAccessOf {kind jtag} : Canonical (s.dbgAccessOf kind jtag) :=
  .ite h.dbgFail (.ite h.dbgCoreAccess (.ite h.dbgBarWrite h.dbgBarRead))

theorem writeDbgCmd {jtag v} : Canonical (s.writeDbgCmd jtag v) := by
  unfold State.writeDbgCmd
  extract_lets s1
  have h1 : Canonical s1 := h.plainWrite
  exact .ite h1.dbgAccessOf h1

theorem busWrite {who off v} : Canonical (s.busWrite who off v) := .ite h.writeDbgCmd h.hostWrite

theorem jtagUpdate {w} : Canonical (s.jtagUpdate w) :=
  .ite h (.ite (.ite h.writeDbgCmd (.ite h.regWrite h)) (Canonical.ite_snd h.regRead h).update)

/-! ### The functions of Machine/Keyed.lean -/

theorem keyedDone {status result} : Canonical (Machine.keyedDone status s result).state := h

theorem keyedBars {reason} : Canonical (Machine.keyedBars reason s).state := h

theorem modCanopy {f} : Canonical (s.modCanopy f) := h.update

theorem showKey {k} : Canonical (s.showKey k) := h.setFlag.set.set.set64

theorem putKeySlot {k x} : Canonical (s.putKeySlot k x) := h.modCanopy.showKey

theorem showLockout : Canonical (s.showLockout) := h.setFlag.set.set

theorem commitLockout : Canonical (s.commitLockout) := h.psWrite

theorem tagFailed : Canonical (s.tagFailed) :=
  .ite h.modCanopy.showLockout.commitLockout h.modCanopy.showLockout.commitLockout.event

theorem tagPassed : Canonical (s.tagPassed) := .ite h h.modCanopy.showLockout.commitLockout

theorem lockoutOver : Canonical (s.lockoutOver) := by
  unfold State.lockoutOver
  split
  · exact .ite h h.modCanopy.showLockout.commitLockout
  · exact h

theorem takeCounter {k c first} : Canonical (s.takeCounter k c first).1 := by
  unfold State.takeCounter
  extract_lets _ s1 _ w
  have h1 : Canonical s1 := h.putKeySlot
  have hw : Canonical w.1 := fst_of_eq h1.psWrite rfl
  clear_value w s1
  exact .ite_fst h1 (.ite_fst h1 (.ite_fst hw.putKeySlot.mk_fst hw.mk_fst))

theorem keyedEvent {d status reason} : Canonical (s.keyedEvent d status reason) := h.event

theorem keyedCheck {d act} (hact : ∀ t, Canonical t → Canonical (act t).state) :
    Canonical (s.keyedCheck d act).state := by
  unfold State.keyedCheck
  extract_lets _ _ _ s1 s2
  have h1 : Canonical s1 := h.tagPassed
  have h2 : Canonical s2.1 := h1.takeCounter
  exact .ite_state h.keyedDone <| .ite_state h.keyedDone <| .ite_state h.keyedDone <|
    .ite_state h.tagFailed.keyedDone <| .ite_state h1.keyedDone <| .ite_state (hact _ h2) h2.keyedDone

theorem keyedRun {d act} (hact : ∀ t, Canonical t → Canonical (act t).state) : Canonical (s.keyedRun d act) := by
  unfold State.keyedRun
  extract_lets _ s1
  have h1 : Canonical s1 := (h.raiseCanopy.keyedCheck fun _ ht => hact _ ht).keyedEvent
  exact .ite h.complete (.ite h1.accepted h1.finish)

theorem commitWord {off v} : Canonical (s.commitWord off v).1 := h.psWrite

theorem commitSafety : Canonical s.commitSafety.1 := h.psWrite

omit h in
theorem commitBoth {a : State × Bool} (h : Canonical a.1) {f} (hf : ∀ t, Canonical t → Canonical (f t).1) :
    Canonical (State.commitBoth a f).1 :=
  hf _ h

omit h in
theorem keyedCommit {a : State × Bool} (h : Canonical a.1) : Canonical (State.keyedCommit a).state := h

theorem safetyReg {off value mask} : Canonical (s.safetyReg off value mask).1 := by
  unfold State.safetyReg
  extract_lets _ _ _ s1 _ _ s2
  have h1 : Canonical s1 := h.regWrite
  have h2 : Canonical s2.1 := .ite_fst h1 <|
    .ite_fst (h1.commitWord.commitBoth fun _ ht => ht.commitWord) h1.commitWord
  exact .ite_fst h1.psWrite <| .ite_fst (h2.commitBoth fun _ ht => ht.putSafety.commitSafety) <|
    .ite_fst (h2.commitBoth fun _ ht => ht.putSafety.commitSafety) h2

theorem safetyRegOf {d} : Canonical (s.safetyRegOf d).state := .ite_state h.keyedDone h.safetyReg.keyedCommit

theorem safetyTableOf {d} : Canonical (s.safetyTableOf d).state := by
  unfold State.safetyTableOf
  extract_lets _ _ _ _ _ s1
  have h1 : Canonical s1.1 := h.putSafety.commitSafety
  exact .ite_state h.keyedDone <|
    .ite_state (h1.commitBoth fun _ ht => ht.regWrite.commitWord).keyedCommit h1.keyedCommit

theorem splitOwnOf {d} : Canonical (s.splitOwnOf d).state :=
  .ite_state h.keyedDone (h.modCanopy.commitWord.commitBoth fun _ ht => ht.commitWord).keyedCommit

theorem commandVetoOf {d} : Canonical (s.commandVetoOf d).state := (h.forTiles fun _ _ ht => ht.raiseVeto).keyedDone

theorem commitKey {k} : Canonical (s.commitKey k).1 := h.psWrite

theorem installOf {d} : Canonical (s.installOf d).state := by
  unfold State.installOf
  extract_lets
  split
  · split
    · exact h.keyedDone
    · split
      · exact .ite_state h.keyedDone h.putKeySlot.commitKey.keyedCommit
      · exact h.keyedDone
  · exact h.keyedDone

theorem eraseOf {d} : Canonical (s.eraseOf d).state := by
  unfold State.eraseOf
  extract_lets t
  split
  · exact .ite_state h.keyedBars h.putKeySlot.commitKey.keyedCommit
  · exact h.keyedDone

theorem provisionOf {d} : Canonical (s.provisionOf d).state := by
  unfold State.provisionOf
  extract_lets key
  exact .ite_state h.keyedDone h.putKeySlot.commitKey.keyedCommit

theorem imageActivateOf {d} : Canonical (s.imageActivateOf d).state := by
  unfold State.imageActivateOf
  extract_lets
  split
  · exact h.keyedDone
  · split
    · exact h.keyedDone
    · exact .ite_state h.keyedDone (.ite_state h.keyedBars h.psWrite.keyedDone)

theorem lullReleaseOf {d} : Canonical (s.lullReleaseOf d).state :=
  .ite_state h.keyedBars (h.modCanopy.forTiles fun _ _ ht => ht.vetoDrop).modCanopy.keyedDone

theorem authorityClaimOf {d} : Canonical (s.authorityClaimOf d).state :=
  .ite_state h.keyedBars h.claimAuthority.keyedDone

theorem epochResetOf {d} : Canonical (s.epochResetOf d).state :=
  .ite_state h.keyedBars (.ite_state h.keyedBars h.announceStep.track)

theorem benchModeOf {d} : Canonical (s.benchModeOf d).state :=
  .ite_state h.keyedBars (.ite_state h.keyedDone h.setFlag.showClaim.event.keyedDone)

/-! ### The functions of Machine/CommandOps.lean -/

theorem nopOf {d} : Canonical (s.nopOf d) := h.finish

theorem fenceOf {d} : Canonical (s.fenceOf d) := h.event.finish

theorem segmentOf {d} : Canonical (s.segmentOf d) :=
  h.ifMotion fun _ ht => .ite ht.complete (.ite ht.track.modHamper ht.placeTracked)

theorem trailDesc {d} : Canonical (s.trailDesc d) :=
  .ite (h.ifMotion fun _ ht => ht.trailCmd.finish) h.trailCmd.finish

theorem replaceDesc {d} : Canonical (s.replaceDesc d) := by
  unfold State.replaceDesc
  extract_lets
  refine h.ifMotion fun _ ht => ?_
  extract_lets _ s1
  have h1 : Canonical s1.2 := ht.replaceTarget
  exact .ite h1.track.accepted h1.finish

theorem tileDesc {d} : Canonical (s.tileDesc d) := by
  unfold State.tileDesc
  extract_lets
  split
  · exact h.ifMotion fun _ ht => ht.wakeRequest.finish
  · exact h.ifMotion fun _ ht => ht.beginEnergise.finish
  · exact h.deEnergise.finish
  · exact h.fresh.tileResetOf.finish

theorem regWriteOf {d} : Canonical (s.regWriteOf d) :=
  .ite (h.ifMotion fun _ ht => .ite ht.complete (ht.foldl fun _ _ hu => .ite hu.barErr hu.busWrite).finish) <|
  .ite h.complete (h.foldl fun _ _ ht => .ite ht.barErr ht.busWrite).finish

theorem regReadOf {d} : Canonical (s.regReadOf d) := by
  unfold State.regReadOf
  extract_lets r
  have hr : Canonical r.2 := foldl_proj Prod.snd h fun _ _ ha => .ite_snd ha.barErr ha.regRead
  exact hr.finish

theorem syncHandle {x op tile serial} : Canonical (s.syncHandle x op tile serial) := by
  unfold State.syncHandle
  split
  · exact h.sendRouted
  · exact h

theorem withRing {r act} (hact : ∀ t, Canonical t → Canonical (act t)) : Canonical (s.withRing r act) := by
  unfold State.withRing
  extract_lets s1
  have h1 : Canonical s1.2 := h.ringPath
  exact .ite (.ite (hact _ h1) h1.complete) (hact _ h)

theorem handleAllocOf {d} : Canonical (s.handleAllocOf d) := by
  unfold State.handleAllocOf
  extract_lets
  split
  · exact h.complete
  · split
    · exact h.complete
    · refine h.withRing fun _ ht => ?_
      extract_lets s1
      have h1 : Canonical s1 := ht.modHamper
      exact h1.syncHandle.finish

theorem handleFreeOf {d} : Canonical (s.handleFreeOf d) := by
  unfold State.handleFreeOf
  extract_lets
  split
  · exact h.complete
  · refine h.withRing fun _ ht => ?_
    extract_lets s1
    have h1 : Canonical s1 := ht.modHamper
    exact h1.syncHandle.finish

theorem timeSetDesc {d} : Canonical (s.timeSetDesc d) := h.timeSetOf

theorem groupCmdOf {d} : Canonical (s.groupCmdOf d) := .ite (h.ifMotion fun _ ht => ht.groupCmdDesc) h.groupCmdDesc

theorem rebind {d} : Canonical (s.rebind d) := by
  unfold State.rebind
  extract_lets
  refine h.ifMotion fun _ ht => ?_
  extract_lets _ _ _ _ s4
  have h4 : Canonical s4 := ht.track.accepted.modHamper.wr.set.set
  exact .ite ht.complete (.ite ht.complete (.ite h4.set h4))

theorem markerOf {q} : Canonical (s.markerOf q) := by
  unfold State.markerOf
  split
  · exact h
  · extract_lets _ _ s3
    have h3 : Canonical s3 := h.deliver.modHamper.unfetch.setTracks
    exact .ite h (.ite h3.set h3)

theorem adoptEpoch {k epoch route depth} : Canonical (s.adoptEpoch k epoch route depth) := by
  unfold State.adoptEpoch
  extract_lets
  split
  · exact h
  · extract_lets
    split
    · exact h
    · refine h.setGroup.forTiles fun _ _ ht => ?_
      extract_lets s2
      have h2 : Canonical s2 := ht.set.setFlag
      exact .ite h2.setFlag.signalReady h2

theorem lead {k epoch old} : Canonical (s.lead k epoch old) := by
  unfold State.lead
  split
  · exact h
  · exact (h.foldl fun _ _ ht => .ite ht ht.sendRouted).adoptEpoch

theorem sendLeader {g route depth} : Canonical (s.sendLeader g route depth) := h.foldl fun _ _ ht => ht.sendRouted

theorem migrateLeaderOf {d} : Canonical (s.migrateLeaderOf d) := by
  unfold State.migrateLeaderOf
  extract_lets
  refine h.ifMotion fun _ ht => ?_
  extract_lets
  split
  · exact ht.complete
  · split
    · exact ht.complete
    · extract_lets _ s2
      have h2 : Canonical s2 := ht.track.accepted.sendLeader.setGroup
      split
      · exact ht.setGroup.lead.finish
      · exact .ite ht.complete (h2.forTiles fun _ _ hu => hu.setFlag)

theorem tileOnly {d t} (ht : s.tileOnly d = some t) : Canonical t := by
  unfold State.tileOnly at ht
  split at ht <;> cases ht
  · exact h.trailDesc
  · exact h.replaceDesc
  · exact h.tileDesc

theorem start {d} : Canonical (s.start d) := by
  unfold State.start
  extract_lets s1
  have h1 : Canonical s1 := h.track.modHamper
  split
  · next t ht => exact .ite (h.tileOnly ht) h1
  · exact h1

theorem actReady : Canonical (s.actReady) := by
  unfold State.actReady
  refine h.foldl fun t d ht => ?_
  split
  · next u hu => exact .ite (ht.tileOnly hu) ht
  · exact ht

theorem takeIn {d} : Canonical (s.takeIn d) := by
  unfold State.takeIn
  extract_lets _ s1
  have h1 : Canonical s1 := h.setTracks
  exact .ite h1.track.modHamper h1.start

theorem takeOrWait {d} : Canonical (s.takeOrWait d) := .ite h.takeIn h.modHamper

theorem takeWaiting : Canonical (s.takeWaiting) := by
  unfold State.takeWaiting
  split
  · exact .ite h.modHamper.takeIn h
  · exact h

theorem forward {d a} : Canonical (s.forward d a) := by
  unfold State.forward
  extract_lets _ s1 s2
  have h1 : Canonical s1 := h.track
  have h2 : Canonical s2 := by
    unfold s2
    split
    · exact h1.modHamper
    · exact h1
  split
  · exact h.deliver
  · exact .ite h.deliver (h2.foldl fun _ _ ht => ht.sendRouted)

theorem checkSlots {q slot ext} : Canonical (s.checkSlots q slot ext) := by
  unfold State.checkSlots
  extract_lets
  split
  · exact h.deliver
  · split
    · exact h.deliver
    · split
      · exact h.deliver
      · split
        · exact h.deliver
        · split
          · exact h.deliver
          · exact .ite h.takeIn (.ite h.deliver h.forward)

theorem turnOf {q taken} : Canonical (s.turnOf q taken) := h.modHamper

theorem headOver {q k} : Canonical (s.headOver q k) := by
  induction k generalizing s with
  | zero => exact h
  | succ k ih => exact ih h.set

theorem takeSlots {q slots} : Canonical (s.takeSlots q slots) := by
  unfold State.takeSlots
  extract_lets s1
  have h1 : Canonical s1 := h.turnOf
  split
  · exact h
  · exact .ite h.turnOf (Canonical.ite h1.modHamper.setFlag h1.headOver).checkSlots

theorem fetchFrom {q slots} : Canonical (s.fetchFrom q slots) := by
  unfold State.fetchFrom
  split
  · exact h
  · split
    · exact h.takeSlots
    · split
      · exact h.sqError
      · exact h.takeSlots

theorem performNow {d} : Canonical (s.performNow d) := by
  unfold State.performNow
  split
  · exact h.nopOf
  · exact h.segmentOf
  · exact h.regWriteOf
  · exact h.regReadOf
  · exact h.handleAllocOf
  · exact h.handleFreeOf
  · exact h.groupDissolveDesc
  · exact h.groupMoveDesc
  · exact h.groupCmdOf
  · exact .ite h.rebind h.migrateLeaderOf
  · exact h.timeSetDesc
  · exact h.siteDesc
  · exact h.fenceOf
  · exact h.start

theorem schedDueOf : Canonical (s.schedDueOf) := by
  unfold State.schedDueOf
  split
  · exact h
  · extract_lets _ s1
    have h1 : Canonical s1 := h.modHamper
    exact .ite h1.complete h1.modHamper.performNow

/-! ### The functions of Machine/HikerCore.lean -/

theorem hikerLoadDoneOf {n img} : Canonical (s.hikerLoadDoneOf n img) := .ite h.loadDone h

theorem hikerLoadEnd {d img} : Canonical (s.hikerLoadEnd d img) := by
  unfold State.hikerLoadEnd
  extract_lets _ s1
  have h1 : Canonical s1 := h.loadDone
  exact .ite h.complete (.ite h1.complete (.ite h1.complete h1.complete))

theorem tunnelImage {d len} : Canonical (s.tunnelImage d len) := h.foldl fun _ _ ht => ht.tunnelAsk

theorem hikerLoadOf {d img} : Canonical (s.hikerLoadOf d img) :=
  h.ifMotion fun _ ht => .ite ht.complete (.ite ht.accepted.hikerLoadEnd ht.track.accepted.tunnelImage)

/-! ### The functions of Machine/Usfen.lean -/

theorem helloOf {p f} : Canonical (s.helloOf p f) := by
  unfold State.helloOf
  extract_lets _ _ _ s1 _ _ _ s4 _ _ _ _ s6 _ s7
  have h1 : Canonical s1 := h.set.setPort
  have h4 : Canonical s4 := h1.setPort.set.setFlag.set64
  have h6 : Canonical s6 := h4.setPort.putPort
  have h7 : Canonical s7 := h6.setFlag.setFlag
  exact .ite h <| .ite h1 <|
    .ite (.ite h4.set h4.putPort) (Canonical.ite (.ite h7.set h7) h6).peerAuthority.updateDomains

theorem helloSendOf {p} : Canonical (s.helloSendOf p) := .ite h.setPort.onWire h

theorem linkAcked {p b} : Canonical (s.linkAcked p b) := by
  unfold State.linkAcked
  extract_lets _ _ s1 s2
  have h1 : Canonical s1 := h.setPort
  have h2 : Canonical s2 := .ite h1.replay h1
  exact .ite h2.releaseWaiting h2

theorem linkDownOf {p aligned} : Canonical (s.linkDownOf p aligned) := .ite h h.portRest

theorem sfpEvent {p} : Canonical (s.sfpEvent p) := h.event

theorem sfpChanged {p modAbs los txFault nominal options} :
    Canonical (s.sfpChanged p modAbs los txFault nominal options) := by
  unfold State.sfpChanged
  extract_lets _ _ _ _ s2 _ s3 _ s5
  have h2 : Canonical s2 := h.setFlag.setFlag.setFlag
  have h3 : Canonical s3 := .ite h2.setPort.chooseRate h2
  have h5 : Canonical s5 := (Canonical.ite h3.setFlag h3).sfpEvent
  exact .ite h (.ite (.ite h5.deviceWakeOf h5) (.ite h5.portDown (.ite h5.portDown h5)))

theorem replayDue {p} : Canonical (s.replayDue p) := .ite h h.replay

theorem faultEnd {p} : Canonical (s.faultEnd p) := .ite h h.putPort.portRest

theorem alignmentOf {p on} : Canonical (s.alignmentOf p on) := by
  unfold State.alignmentOf
  extract_lets _ _ _ s1
  have h1 : Canonical s1 := h.setPort
  exact .ite h1.portRest h1

theorem putAsserted {m} : Canonical (s.putAsserted m) := .ite h h.set.event

theorem chainAlarmDue : Canonical (s.chainAlarmDue) := .ite h h.sendChainAlarm

theorem chainAlarmed {b} : Canonical (s.chainAlarmed b) := h.noteDomains.putAsserted.latchDomains

theorem domainOver {d} : Canonical (s.domainOver d) := .ite h h.update.putAsserted

theorem alarmCopy {k} : Canonical (s.alarmCopy k) := by
  unfold State.alarmCopy
  split
  · exact h
  · exact .ite h h.setGroup.flood

theorem groupAlarmed {b} : Canonical (s.groupAlarmed b) := by
  unfold State.groupAlarmed
  extract_lets
  split
  · exact h
  · split
    · exact h
    · exact h.setGroup.dropCmds.forTiles fun _ _ ht => ht.modLull.latchLull

theorem alarmOver {k} : Canonical (s.alarmOver k) := by
  unfold State.alarmOver
  split
  · exact h
  · exact .ite h.setGroup h

theorem scaleAsked {f} : Canonical (s.scaleAsked f) := by
  unfold State.scaleAsked
  extract_lets
  split
  · exact h
  · split
    · exact h
    · extract_lets s1
      have h1 : Canonical s1 := h.setGroup
      exact .ite h1.lateFrame h1

theorem discarded {b} : Canonical (s.discarded b) := by
  unfold State.discarded
  extract_lets
  split
  · exact h
  · refine h.forTiles fun _ _ ht => ?_
    extract_lets _ _ _ s1
    have h1 : Canonical s1 := ht.update
    exact .ite ht.raiseGroupAlarm h1.modPlan

theorem fromLeader {k epoch f} : Canonical (s.fromLeader k epoch f) := h.adoptEpoch

theorem staleFrame {k} : Canonical (s.staleFrame k) := h.forTiles fun _ _ ht => ht.bump

theorem groupSegment {f} : Canonical (s.groupSegment f) := by
  unfold State.groupSegment
  extract_lets
  split
  · exact h
  · extract_lets _ _ s1 release
    have h1 : Canonical s1 := h.fromLeader
    split
    · exact h1
    · extract_lets _ _ s3
      have h3 : Canonical s3 := h1.deliverGroup
      split
      · exact h1
      · split
        · exact .ite h1.unblendTile h1
        · split
          · exact h1.deliverGroup.bump.flood.discarded
          · clear_value release
            split
            · exact .ite h3.lateFrame h3
            · exact h3

theorem started {f} : Canonical (s.started f) := by
  unfold State.started
  extract_lets
  split
  · exact h
  · extract_lets s1
    have h1 : Canonical s1 := h.fromLeader
    split
    · exact h1
    · exact .ite h1.staleFrame (h1.forTiles fun _ _ ht => ht.giveStart)

theorem epochTold {b} : Canonical (s.epochTold b) := by
  unfold State.epochTold
  extract_lets
  split
  · exact h
  · split
    · exact h
    · extract_lets s1
      have h1 : Canonical s1 := by
        unfold s1
        split
        · exact h.setGroup.complete
        · exact h
      exact .ite h.staleFrame h1.adoptEpoch

theorem readied {b} : Canonical (s.readied b) := by
  unfold State.readied
  split
  · exact h
  · exact h.leaderReady

theorem groupCmdTold {b} : Canonical (s.groupCmdTold b) := by
  unfold State.groupCmdTold
  extract_lets
  split
  · exact h
  · split
    · exact h
    · extract_lets s1
      have h1 : Canonical s1 := h.setGroup
      exact .ite h1.lateFrame h1

theorem gustAsked {b} : Canonical (s.gustAsked b) := by
  unfold State.gustAsked
  split
  · exact h
  · exact h.gustLead

theorem checksumTold {f} : Canonical (s.checksumTold f) := by
  unfold State.checksumTold
  extract_lets
  split
  · exact h
  · exact h.leaderChecksum

theorem takeLead {tag first records old} : Canonical (s.takeLead tag first records old) := by
  unfold State.takeLead
  extract_lets _ s1 _ _ slot
  have h1 : Canonical s1 := h.update
  clear_value slot
  split
  · exact h1
  · exact (Canonical.ite h1.fresh h1).setGroup.lead

theorem leaderTold {f} : Canonical (s.leaderTold f) := .ite h.update.takeLead h.update

theorem commandTold {f} : Canonical (s.commandTold f) := by
  unfold State.commandTold
  extract_lets s1 _ _ _ _ _ _ _ _ s2
  have h1 : Canonical s1 := h.dozeWake
  have h2 : Canonical s2 := h1.update
  split
  · split
    · exact h2
    · exact h2.takeWaiting.takeOrWait
  · exact h1.update

theorem noteLeader {r ok result} : Canonical (s.noteLeader r ok result) := by
  unfold State.noteLeader
  split
  · exact h
  · exact h.modHamper

theorem completionTold {b} : Canonical (s.completionTold b) := by
  unfold State.completionTold
  extract_lets
  split
  · exact h
  · exact .ite h.noteLeader.complete h.deliver

theorem handleSynced {b} : Canonical (s.handleSynced b) := h.modHamper

theorem routeLostOf {b} : Canonical (s.routeLostOf b) := by
  unfold State.routeLostOf
  extract_lets _ _ _ _ _ s1
  have h1 : Canonical s1 := .ite h.update h
  exact .ite h (Canonical.ite h1.update h1).failTracks

theorem rollTimedOut : Canonical (s.rollTimedOut) := by
  unfold State.rollTimedOut
  split
  · exact h
  · exact .ite h h.rollEnd

theorem tunnelError {kind route} : Canonical (s.tunnelError kind route) := h.event

theorem tunnelWritten {f ok} : Canonical (s.tunnelWritten f ok) := by
  unfold State.tunnelWritten
  extract_lets _ _ s1
  have h1 : Canonical s1 := h.hostStore
  exact .ite (.ite h1.sendVector h1) h.bump.tunnelError

theorem tunnelServed {f data} : Canonical (s.tunnelServed f data) := by
  unfold State.tunnelServed
  extract_lets
  split
  · exact h.bump.tunnelError.sendRouted
  · exact h.foldl fun _ _ ht => ht.sendRouted

theorem applyMirror {b} : Canonical (s.applyMirror b) :=
  (h.foldl fun _ _ ht => .ite ht (ht.dbBad.getD fun _ => ht.evHead)).foldl fun _ _ ht =>
    .ite ht (ht.dbBad.getD fun _ => ht.putJrHead)

theorem dropReads {f} : Canonical (s.dropReads f) := h.update

theorem tunnelGot {b} : Canonical (s.tunnelGot b) := by
  unfold State.tunnelGot
  extract_lets
  split
  · exact h
  · extract_lets _ s1
    have h1 : Canonical s1 := h.update
    split
    · split
      · exact h.dropReads.psLoadDone
      · split
        · exact h.dropReads.hikerLoadEnd
        · exact h.dropReads
    · split
      · exact .ite h1 h1.dropReads.psLoadDone
      · split
        · exact .ite h1 h1.dropReads.applyMirror
        · exact .ite h1 h1.dropReads.hikerLoadEnd

theorem mirrorPollOf : Canonical (s.mirrorPollOf) := .ite h h.update.tunnelAsk

theorem sfpDone {p got} : Canonical (s.sfpDone p got) := by
  unfold State.sfpDone
  extract_lets s1
  have h1 : Canonical s1 := h.setFlag
  split
  · exact h
  · split
    · exact h1.setFlag
    · exact .ite h1 h1.set

theorem ddmRead {p temp rx flags} : Canonical (s.ddmRead p temp rx flags) := by
  unfold State.ddmRead
  extract_lets _ _ _ _ s3
  have h3 : Canonical s3 := h.setPort.set.set.setFlag
  exact .ite h (.ite h3 h3.sfpEvent)

theorem frameActs {p f host} : Canonical (s.frameActs p f host) := by
  unfold State.frameActs
  split
  · exact h.groupAlarmed
  · exact h.chainAlarmed
  · exact h.scaleAsked
  · exact h.discarded
  · exact h.gustAsked
  · exact h.checksumTold
  · exact h.commandTold
  · exact h.completionTold
  · exact h.groupSegment
  · exact h.started
  · exact h.epochTold
  · exact h.readied
  · exact h.groupCmdTold
  · exact h.leaderTold
  · exact h.rollCalled
  · exact h.rollReplied
  · exact h.rollEntered
  · exact h.applyClaim
  · exact h.handleSynced
  · exact h.routeLostOf
  · exact h.tunnelWritten
  · exact h.tunnelServed
  · exact h.tunnelGot
  · exact h

theorem frameLost {f status} : Canonical (s.frameLost f status) := .ite h.sendRouted h

theorem forwarded {p f hcrcOk pcrcOk host} : Canonical (s.forwarded p f hcrcOk pcrcOk host) := by
  unfold State.forwarded
  extract_lets _ s1 s2 _ s3
  have h1 : Canonical s1 := h.set.setPort
  have h2 : Canonical s2 := h1.bump
  have h3 : Canonical s3.2 := h.receive
  split
  · exact h
  · split
    · exact .ite h1.bump (.ite h2 (.ite h2.setPort h2.setPort))
    · split
      · exact h3
      · split
        · exact h3.frameActs
        · split
          · exact h3.frameActs
          · exact .ite h3.frameLost (.ite h3.frameLost h3.sendOn)

/-! ### The functions of Machine/Misc.lean -/

theorem blankingOver {n x l edge} : Canonical (s.blankingOver n x l edge) :=
  (h.foldl fun _ _ ht => ht.winLatch).tripEval.stepChop

theorem referenceOf {u r ok} : Canonical (s.referenceOf u r ok) := by
  unfold State.referenceOf
  extract_lets
  split
  · exact .ite h.setFlag (.ite h.setFlag h)
  · exact .ite h.refLost (h.forTiles fun _ _ ht => ht.setFlag.showSettled.energiseIfDue)

theorem ppsLevel : Canonical (s.ppsLevel) := h.update

/-! ### The functions of Machine/Dawn.lean -/

theorem dawnClear {cause} : Canonical (s.dawnClear cause) := by
  unfold State.dawnClear
  extract_lets _ _ _ _ _ _ _ t
  have ht : Canonical t := ⟨sparseWf_filter _ _ s.regs h.1, sparseWf_filter _ _ s.mem h.2.1, h.2.2⟩
  clear_value t
  exact (ht.foldl fun _ _ hu => hu.setFlag.setFlag.setFlag).setFlag.set64.setFlag

theorem dawnStraps {old cause straps} : Canonical (s.dawnStraps old cause straps) := h.wr

theorem dawnStageL {old cause straps} : Canonical (s.dawnStageL old cause straps) :=
  h.dawnStraps.set.setFlag.setFlag.set.setFlag.set.showClaim.forTiles fun _ _ ht => ht.set.modCur.eventAt

theorem startFirmware {b} : Canonical (s.startFirmware b) := by
  unfold State.startFirmware
  extract_lets _ _ s3
  have h3 : Canonical s3 := h.copySections.set.coreStart.modCore
  exact (Canonical.ite h3.coreStart.modCore h3).set.showClaim

theorem restoreRemap : Canonical (s.restoreRemap) := h.update

theorem restoreKey {k} : Canonical (s.restoreKey k) := h.putKeySlot

theorem restoreLockout : Canonical (s.restoreLockout) := by
  unfold State.restoreLockout
  split
  · exact h.modCanopy.showLockout
  · exact h.showLockout

theorem restoreSlices {u c failed} : Canonical (s.restoreSlices u c failed) := by
  unfold State.restoreSlices
  extract_lets _ _ _ _ _ s2
  have h2 : Canonical s2 := h.set.set.setConv
  exact .ite h2 h2.showCal.convDegrade

theorem writeBack {cause kept off v} : Canonical (s.writeBack cause kept off v) :=
  .ite h.modForce <| .ite h.setShape.setShape <| .ite h.restoreSlices.restoreSlices.restoreSlices <|
  .ite h.restoreSlices <| .ite h.wr <| .ite h <| .ite h.wr h.regWrite

theorem writeRecord {cause kept x} : Canonical (s.writeRecord cause kept x) := h.foldl fun _ _ ht => ht.writeBack

theorem restoreDevice {cause kept} : Canonical (s.restoreDevice cause kept) := by
  unfold State.restoreDevice
  extract_lets s1
  have h1 : Canonical s1 := by
    unfold s1
    split
    · exact h.writeRecord
    · exact h.set.set
  split
  · exact h1.foldl fun _ _ ht => ht.putSafety
  · exact h1

theorem restoreTile {cause kept n} : Canonical (s.restoreTile cause kept n) := by
  unfold State.restoreTile
  extract_lets s1
  have h1 : Canonical s1 := by
    unfold s1
    split
    · exact h.writeRecord
    · exact h
  split
  · exact h1.modForce.set.setLearned.setLearned
  · exact h1

theorem showStore : Canonical (s.showStore) := h.set.set.set.set.set64.set.set

theorem calibrate {u c} : Canonical (s.calibrate u c) := by
  unfold State.calibrate
  extract_lets
  refine h.foldl fun _ _ ht => ?_
  extract_lets _ s2
  have h2 : Canonical s2.2 := ht.fresh.fresh
  exact .ite ht h2.setConv

theorem restorePort {n v} : Canonical (s.restorePort n v) := by
  unfold State.restorePort
  split
  · exact h.set.rebase
  · exact h

theorem restorePos {entry torn n} : Canonical (s.restorePos entry torn n) := by
  unfold State.restorePos
  extract_lets
  split
  · exact .ite h.modPlan.syncPos.set.refreshPhase.set.setFlag.restorePort h.set.needHoming
  · exact h.set.needHoming

theorem showCkpt {x} : Canonical (s.showCkpt x) := h.set.set64.update

theorem tornDusk {torn} : Canonical (s.tornDusk torn) := (Canonical.ite h.set.modLookout h).modLookout

theorem restoreCkpt : Canonical (s.restoreCkpt) := by
  unfold State.restoreCkpt
  extract_lets
  split
  · exact (h.showCkpt.forTiles fun _ _ ht => ht.restorePos).tornDusk
  · exact (h.forTiles fun _ _ ht => ht.restorePos).tornDusk

theorem dawnStageS {cause kept} : Canonical (s.dawnStageS cause kept) :=
  ((h.restoreRemap.showStore.foldl fun _ _ ht => ht.restoreKey).restoreLockout.restoreDevice.forTiles
    fun _ _ ht => ht.restoreTile).update.setFlag.event

theorem dawnTile {n} : Canonical (s.dawnTile n) := by
  unfold State.dawnTile
  extract_lets s1
  have h1 : Canonical s1 := h.calibrate.calibrate.calibrate
  exact .ite h1.mapInvalid h1.mapRestore

theorem dawnStageT : Canonical (s.dawnStageT) :=
  (((h.forTiles fun _ _ ht => ht.dawnTile).calibrate.foldl
    fun _ _ ht => .ite ht.feedStill.feedTake ht).restoreCkpt.modCanopy.setFlag.forTiles
    fun _ _ ht => ht.setFlag).refreshPins

theorem dawnLinks {refclk} : Canonical (s.dawnLinks refclk) :=
  (h.set.setFlag.update.foldl fun _ _ ht => ht.portRest).showLocks

theorem dawnTime {cause} : Canonical (s.dawnTime cause) := by
  unfold State.dawnTime
  extract_lets s1
  have h1 : Canonical s1 := h.setTimeState
  exact .ite h.setTimeState (.ite h1.modClock h1)

theorem autostart : Canonical (s.autostart) := h.forTiles fun _ _ ht => .ite ht.hikerStart ht

theorem oweEvent {kind payload} : Canonical (s.oweEvent kind payload) := h.event.modHamper

theorem dawnEnd {cause stage} : Canonical (s.dawnEnd cause stage) := by
  unfold State.dawnEnd
  extract_lets _ s2 s3 _ s5 s6
  have h2 : Canonical s2 := h.fresh.set.set
  have h3 : Canonical s3 := .ite h2 h2.putPower
  have h5 : Canonical s5 := (Canonical.ite h3.noteWake h3).oweEvent
  have h6 : Canonical s6 := by
    unfold s6
    split
    · exact h5.oweEvent
    · exact h5
  exact (h6.foldl fun _ _ ht => ht.oweEvent).modLookout.holdPins

theorem dawnRecovery {cause refclk} : Canonical (s.dawnRecovery cause refclk) :=
  h.set.set.dawnLinks.refreshPins.dawnEnd

theorem dawnRun {cause refclk kept} : Canonical (s.dawnRun cause refclk kept) := by
  unfold State.dawnRun
  extract_lets s1
  have h1 : Canonical s1 := h.dawnStageS.dawnStageT.dawnLinks.dawnTime.refreshAll
  exact (Canonical.ite h1.rollGo h1).autostart.sfeDawn.dawnEnd

theorem dawnOf {x} : Canonical (s.dawnOf x) := by
  unfold State.dawnOf
  split
  · exact h
  · extract_lets _ _ s1 s2 _ s3
    have h1 : Canonical s1 := h.dawnClear.dawnStageL
    have h2 : Canonical s2 := .ite h1 h1.selftest
    have h3 : Canonical s3 := h2.set
    split
    · exact h
    · split
      · exact h2.set.set
      · split
        · exact h3.set.startFirmware.dawnRun
        · exact h3.dawnRecovery

theorem dawnDue {cause} : Canonical (s.dawnDue cause) := h.modLookout

theorem powerOnOf : Canonical (s.powerOnOf) := .ite h.update.modLookout.dawnDue h

theorem resetPinOf : Canonical (s.resetPinOf) :=
  .ite h (h.forTiles fun _ _ ht => ht.gatesLow.setFlag.modLull).dawnDue

theorem deviceResetOf {v} : Canonical (s.deviceResetOf v) := .ite h.dawnDue h

theorem recoveryDoneOf : Canonical (s.recoveryDoneOf) := .ite h.dawnDue h

/-! ### The functions of Machine/Hamper.lean -/

theorem doorbellIn {lo hi v} : Canonical (s.doorbellIn lo hi v) := .ite h.doorbell h

omit h in
theorem returning {r : Nat × State} (h : Canonical r.2) : Canonical (State.returning r) := h.update

/-! ### The functions of Machine/RegMap.lean -/

theorem bar0Write {who off len v} : Canonical (s.bar0Write who off len v) :=
  .ite h (.ite (.ite h.regWrite h) (.ite h.windowPut (.ite h.barErr h.busWrite)))

theorem msixWrite {i v} : Canonical (s.msixWrite i v) := by
  unfold State.msixWrite
  extract_lets _ s1
  have h1 : Canonical s1 := h.update
  exact .ite h1.update.sendVector h1

theorem bar2Write {who off len v} : Canonical (s.bar2Write who off len v) :=
  .ite h (.ite h.doorbell (.ite h.msixWrite h))

theorem windowRead {dbg a k} : Canonical (s.windowRead dbg a k) := by
  unfold State.windowRead
  split
  · exact h.barErr
  · split
    · exact h.update
    · exact h.update

theorem windowWrite {dbg a k v} : Canonical (s.windowWrite dbg a k v) := .ite h.barErr h.windowPut

/-! ### The functions of Machine/HikerMem.lean -/

theorem cacheFetch {k pc} : Canonical (s.cacheFetch k pc) := .ite h h.bufferLine

theorem cleanData {k a} : Canonical (s.cleanData k a) := by
  unfold State.cleanData
  split
  · exact h
  · exact h.writeLine.modCore

theorem cleanAll {k} : Canonical (s.cleanAll k) := h.foldl fun _ _ ht => ht.cleanData

theorem cacheLoad {k a size} : Canonical (s.cacheLoad k a size).2 := h.dataLine

theorem lockLoad {k l a size} : Canonical (s.lockLoad k l a size).2 := (Canonical.ite h h.dropData).modCore

theorem lockCommit {k l} : Canonical (s.lockCommit k l) := by
  unfold State.lockCommit
  refine h.foldl fun _ _ ht => ?_
  extract_lets s1
  have h1 : Canonical s1 := .ite ht.noteStale ht.dropData
  exact h1.sharedWrite

theorem coreRegWrite {k off v} : Canonical (s.coreRegWrite k off v) := .ite h.writeDbgCmd h.regWrite

theorem ifRead {k off} : Canonical (s.ifRead k off).2 := by
  unfold State.ifRead
  split
  · exact h.tiRead
  · split
    · exact h
    · exact h
    · exact h

theorem ifWrite {k off v} : Canonical (s.ifWrite k off v) := by
  unfold State.ifWrite
  extract_lets
  split
  · exact h.tiWrite
  · split
    · exact h.modCore
    · exact h.modCore
    · exact h

/-! ### The functions of Machine/HikerRun.lean -/

theorem loadFrom {k p size r} (hr : s.loadFrom k p size = some r) : Canonical r.2 := by
  unfold State.loadFrom at hr
  split at hr
  · split at hr
    · cases hr; exact h.lockLoad
    · cases hr; exact .ite_snd h h.cacheLoad
  · cases hr; exact .ite_snd h h.cacheLoad
  · cases hr; exact h.leaveAll.regRead
  · cases hr; exact h.leaveAll.ifRead
  · obtain ⟨x, -, rfl⟩ := Option.map_eq_some_iff.1 hr
    exact h

theorem goOn {k} : Canonical (s.goOn k) := h.modCore

theorem storeTo {k p b} : Canonical (s.storeTo k p b) := by
  unfold State.storeTo
  split
  · exact h.bufferStore
  · exact h
  · exact h.leaveAll.coreRegWrite
  · exact h.leaveAll.ifWrite
  · exact h

theorem syncOf {k} : Canonical (s.syncOf k) := .ite h h.leaveAll.modCore

theorem waitEnds {k} : Canonical (s.waitEnds k) := .ite h (.ite h.takeInterrupt h.setCore)

theorem dataCache {k f} (hf : ∀ t, Canonical t → Canonical (f t)) : Canonical (s.dataCache k f) :=
  .ite h.syncOf (.ite h (hf _ h.leaveAll))

theorem cacheAct {op a k} : Canonical (s.cacheAct op a k) := by
  unfold State.cacheAct
  split
  · exact h.modCore
  · exact h.modCore
  · exact h.dataCache fun _ ht => ht.cleanData
  · exact h.dataCache fun _ ht => ht.dropData
  · exact h.dataCache fun _ ht => ht.cleanAll

theorem aluEff {op gd ga gb f k} : CanonicalEff (State.aluEff op gd ga gb f k s) := h.modCore

theorem alu1Eff {op gd ga f k} : CanonicalEff (State.alu1Eff op gd ga f k s) := h.modCore

theorem selEff {gd ga gb f c k} : CanonicalEff (State.selEff gd ga gb f c k s) := h.modCore

theorem mulEff {op gd ga gb f k} : CanonicalEff (State.mulEff op gd ga gb f k s) := by
  unfold State.mulEff
  split
  · trivial
  · exact h.modCore

theorem immEff {op gd ga f v k} : CanonicalEff (State.immEff op gd ga f v k s) := h.modCore

theorem luiEff {gd v k} : CanonicalEff (State.luiEff gd v k s) := h.modCore

theorem cmpiEff {ga v k} : CanonicalEff (State.cmpiEff ga v k s) := h.modCore

theorem shiftEff {op gd ga f n k} : CanonicalEff (State.shiftEff op gd ga f n k s) := h.modCore

theorem loadEff {op gd ga off k} : CanonicalEff (State.loadEff op gd ga off k s) := by
  unfold State.loadEff
  extract_lets a
  split
  · trivial
  · split
    · trivial
    · split
      · trivial
      · split
        · next r hr => exact (h.loadFrom hr).modCore
        · split <;> trivial

theorem storeLocked {l p b a k} : CanonicalEff (State.storeLocked l p b a k s) := by
  unfold State.storeLocked
  split
  · extract_lets
    split
    · trivial
    · exact h.modCore
  · trivial

theorem storeEff {op gs ga off k} : CanonicalEff (State.storeEff op gs ga off k s) := by
  unfold State.storeEff
  extract_lets
  split
  · trivial
  · split
    · trivial
    · split
      · trivial
      · split
        · exact h.storeLocked
        · exact h.goOn.storeTo

theorem branchEff {c off k} : CanonicalEff (State.branchEff c off k s) := h.modCore

theorem jumpEff {off link k} : CanonicalEff (State.jumpEff off link k s) := h.modCore

theorem jumpRegEff {ga link k} : CanonicalEff (State.jumpRegEff ga link k s) := h.modCore

theorem loopEff {level count e k} : CanonicalEff (State.loopEff level count e k s) := by
  unfold State.loopEff
  extract_lets
  split
  · trivial
  · exact h.modCore

theorem mfsEff {gd num k} : CanonicalEff (State.mfsEff gd num k s) := by
  unfold State.mfsEff
  extract_lets
  split
  · trivial
  · split
    · trivial
    · next r hr => exact (h.readSpecial hr).modCore

theorem mtsStatus {v k} : CanonicalEff (State.mtsStatus v k s) := by
  unfold State.mtsStatus
  extract_lets
  split
  · exact h.modCore
  · split
    · trivial
    · exact h.modCore

theorem mtsEff {num ga k} : CanonicalEff (State.mtsEff num ga k s) := by
  unfold State.mtsEff
  extract_lets
  split
  · exact h.mtsStatus
  · split
    · trivial
    · split
      · trivial
      · split
        · trivial
        · next t ht => exact h.writeSpecial ht

theorem eretEff {k} : CanonicalEff (State.eretEff k s) := by
  unfold State.eretEff
  split
  · trivial
  · exact h.modCore

omit h in
theorem breakEff {code k} : CanonicalEff (State.breakEff code k s) := by
  unfold State.breakEff
  split <;> trivial

theorem lockEff {k} : CanonicalEff (State.lockEff k s) := by
  unfold State.lockEff
  split
  · trivial
  · exact h.leaveAll.modCore

theorem unlockEff {gd k} : CanonicalEff (State.unlockEff gd k s) := by
  unfold State.unlockEff
  split
  · trivial
  · exact (Canonical.ite h h.lockCommit).modCore

theorem syncEff {k} : CanonicalEff (State.syncEff k s) := h.syncOf

theorem waitEff {k} : CanonicalEff (State.waitEff k s) := by
  unfold State.waitEff
  split
  · trivial
  · exact h.modCore.waitEnds

theorem cacheEff {op ga k} : CanonicalEff (State.cacheEff op ga k s) := by
  unfold State.cacheEff
  split
  · trivial
  · exact h.cacheAct

theorem settle {k} : Canonical (s.settle k) := by
  unfold State.settle
  extract_lets
  split
  · exact h
  · split
    · exact .dite (fun _ => h.takeStop) (fun _ => h.takeCanopyHalt)
    · exact .ite h (.dite (fun _ => h.takeStop) (fun _ => h.modCore.putCanopyHalted))

theorem discardLock {k} : Canonical (s.discardLock k) := by
  unfold State.discardLock
  extract_lets s1
  have h1 : Canonical s1 := h.modCore
  exact .ite h1.setFlag h1

theorem lockOverflow {k} : Canonical (s.lockOverflow k) := by
  unfold State.lockOverflow
  extract_lets
  split
  · exact h
  · exact .ite h.discardLock.modCore h.raise

theorem callExc {k cause code} : Canonical (s.callExc k cause code) := .ite h.raise h.goOn.takeExc

theorem breakHold {k} : Canonical (s.breakHold k) := by
  unfold State.breakHold
  extract_lets s1
  have h1 : Canonical s1 := .ite h.discardLock h
  exact .dite (fun _ => h1.takeStop) (fun _ => h1.modCore.putCanopyHalted)

theorem finishEff {k e} (he : CanonicalEff e) : Canonical (s.finishEff k e) := by
  unfold State.finishEff
  cases e with
  | done t => exact Canonical.modCore (s := t) he
  | jumped t => exact he
  | trap => exact h.raise
  | xip => exact h.xipError
  | stall => exact h
  | call => exact h.callExc
  | hold => exact h.breakHold
  | overflow => exact h.lockOverflow

omit h in
theorem overCount {c e} (he : CanonicalEff e) : CanonicalEff (State.overCount c e) := by
  unfold State.overCount
  split
  · exact he
  · split
    · exact he
    · split
      · split <;> trivial
      · trivial

theorem runInstr {k i f} (hf : ∀ k t, Canonical t → CanonicalEff (f k t)) : Canonical (s.runInstr k i f) := by
  unfold State.runInstr
  extract_lets t
  have ht : Canonical t := h.modCore
  split
  · exact h.raise
  · split
    · exact h
    · exact ht.finishEff (overCount (hf k t ht))

theorem runWord {k w row} (hrow : CanonicalRow row) : Canonical (s.runWord k w row) := by
  unfold State.runWord
  split
  · exact h.cacheFetch.raise.settle
  · split
    · exact h
    · next f hf => exact (h.cacheFetch.runInstr (hrow _ f hf)).settle

theorem runHiker {k w row} (hrow : CanonicalRow row) : Canonical (s.runHiker k w row) := by
  unfold State.runHiker
  extract_lets s1
  have h1 : Canonical s1 := h.waitEnds
  split
  · exact h
  · split
    · exact h1
    · split
      · exact h1.raise.settle
      · split
        · exact .ite h1 h1.xipError.settle
        · exact .ite (h1.runWord hrow) h1

/-! ### The functions of Machine/Spt.lean -/

theorem modSpt {f} : Canonical (s.modSpt f) := h.update

theorem sptRead {off} : Canonical (s.sptRead off).2 := by
  unfold State.sptRead
  split
  · split
    · exact h
    · exact h
  · exact h.regRead

theorem sptWrite {off v} : Canonical (s.sptWrite off v) := .ite h.windowPut h.busWrite

theorem sptFetch {off first stop l} : Canonical (s.sptFetch off first stop l).2 := by
  induction l generalizing s off first with
  | nil => exact h
  | cons w l ih => exact .ite_snd h.sptRead (ih h.sptRead)

theorem sptNative {w bad off n waits} : Canonical (s.sptNative w bad off n waits).2.2 :=
  .ite_snd_snd h (.ite_snd_snd h.sptRead h.sptFetch)

theorem sptCompat {bad off n waits} : Canonical (s.sptCompat bad off n waits).2.2 := .ite_snd_snd h h.sptFetch

theorem sptTake {off data} : Canonical (s.sptTake off data) := .ite (h.foldl fun _ _ ht => ht.sptWrite) h.modSpt

theorem sptCommandOf {w data waits} : Canonical (s.sptCommandOf w data waits) := by
  unfold State.sptCommandOf
  extract_lets _ _ _ s1 s2 _ _ s4
  have h1 : Canonical s1 := h.setFlag
  have h2 : Canonical s2 := .ite h1.bump h1
  have h4 : Canonical s4.2.2 := .ite_snd_snd h2.sptCompat h2.sptNative
  split
  · exact (Canonical.ite h2 h2.sptTake).modSpt
  · exact (Canonical.ite h4.bump h4).modSpt
  · exact h2.modSpt

theorem sptDeselectOf {part} : Canonical (s.sptDeselectOf part) := by
  unfold State.sptDeselectOf
  extract_lets _ s1
  have h1 : Canonical s1 := h.setFlag.modSpt
  exact (Canonical.ite (.ite h1 h1.bump) (.ite (h1.foldl fun _ _ ht => ht.sptWrite) h1.bump)).modSpt

end

/-! ### The rows of the Hiker instruction set -/

theorem addRow : CanonicalRow Machine.addRow := by
  rintro i f e
  unfold Machine.addRow at e
  split at e <;> cases e
  exact fun _ _ ht => ht.aluEff

theorem adcRow : CanonicalRow Machine.adcRow := by
  rintro i f e
  unfold Machine.adcRow at e
  split at e <;> cases e
  exact fun _ _ ht => ht.aluEff

theorem subRow : CanonicalRow Machine.subRow := by
  rintro i f e
  unfold Machine.subRow at e
  split at e <;> cases e
  exact fun _ _ ht => ht.aluEff

theorem sbcRow : CanonicalRow Machine.sbcRow := by
  rintro i f e
  unfold Machine.sbcRow at e
  split at e <;> cases e
  exact fun _ _ ht => ht.aluEff

theorem andRow : CanonicalRow Machine.andRow := by
  rintro i f e
  unfold Machine.andRow at e
  split at e <;> cases e
  exact fun _ _ ht => ht.aluEff

theorem orRow : CanonicalRow Machine.orRow := by
  rintro i f e
  unfold Machine.orRow at e
  split at e <;> cases e
  exact fun _ _ ht => ht.aluEff

theorem xorRow : CanonicalRow Machine.xorRow := by
  rintro i f e
  unfold Machine.xorRow at e
  split at e <;> cases e
  exact fun _ _ ht => ht.aluEff

theorem andnRow : CanonicalRow Machine.andnRow := by
  rintro i f e
  unfold Machine.andnRow at e
  split at e <;> cases e
  exact fun _ _ ht => ht.aluEff

theorem shlRow : CanonicalRow Machine.shlRow := by
  rintro i f e
  unfold Machine.shlRow at e
  split at e <;> cases e
  exact fun _ _ ht => ht.aluEff

theorem shrRow : CanonicalRow Machine.shrRow := by
  rintro i f e
  unfold Machine.shrRow at e
  split at e <;> cases e
  exact fun _ _ ht => ht.aluEff

theorem sarRow : CanonicalRow Machine.sarRow := by
  rintro i f e
  unfold Machine.sarRow at e
  split at e <;> cases e
  exact fun _ _ ht => ht.aluEff

theorem rorRow : CanonicalRow Machine.rorRow := by
  rintro i f e
  unfold Machine.rorRow at e
  split at e <;> cases e
  exact fun _ _ ht => ht.aluEff

theorem minRow : CanonicalRow Machine.minRow := by
  rintro i f e
  unfold Machine.minRow at e
  split at e <;> cases e
  exact fun _ _ ht => ht.aluEff

theorem maxRow : CanonicalRow Machine.maxRow := by
  rintro i f e
  unfold Machine.maxRow at e
  split at e <;> cases e
  exact fun _ _ ht => ht.aluEff

theorem minuRow : CanonicalRow Machine.minuRow := by
  rintro i f e
  unfold Machine.minuRow at e
  split at e <;> cases e
  exact fun _ _ ht => ht.aluEff

theorem maxuRow : CanonicalRow Machine.maxuRow := by
  rintro i f e
  unfold Machine.maxuRow at e
  split at e <;> cases e
  exact fun _ _ ht => ht.aluEff

theorem clzRow : CanonicalRow Machine.clzRow := by
  rintro i f e
  unfold Machine.clzRow at e
  split at e <;> cases e
  exact fun _ _ ht => ht.alu1Eff

theorem sextbRow : CanonicalRow Machine.sextbRow := by
  rintro i f e
  unfold Machine.sextbRow at e
  split at e <;> cases e
  exact fun _ _ ht => ht.alu1Eff

theorem sexthRow : CanonicalRow Machine.sexthRow := by
  rintro i f e
  unfold Machine.sexthRow at e
  split at e <;> cases e
  exact fun _ _ ht => ht.alu1Eff

theorem selRow : CanonicalRow Machine.selRow := by
  rintro i f e
  unfold Machine.selRow at e
  split at e <;> cases e
  exact fun _ _ ht => ht.selEff

theorem sltRow : CanonicalRow Machine.sltRow := by
  rintro i f e
  unfold Machine.sltRow at e
  split at e <;> cases e
  exact fun _ _ ht => ht.aluEff

theorem sltuRow : CanonicalRow Machine.sltuRow := by
  rintro i f e
  unfold Machine.sltuRow at e
  split at e <;> cases e
  exact fun _ _ ht => ht.aluEff

theorem mulRow : CanonicalRow Machine.mulRow := by
  rintro i f e
  unfold Machine.mulRow at e
  split at e <;> cases e
  exact fun _ _ ht => ht.mulEff

theorem mulhRow : CanonicalRow Machine.mulhRow := by
  rintro i f e
  unfold Machine.mulhRow at e
  split at e <;> cases e
  exact fun _ _ ht => ht.mulEff

theorem mulhuRow : CanonicalRow Machine.mulhuRow := by
  rintro i f e
  unfold Machine.mulhuRow at e
  split at e <;> cases e
  exact fun _ _ ht => ht.mulEff

theorem divRow : CanonicalRow Machine.divRow := by
  rintro i f e
  unfold Machine.divRow at e
  split at e <;> cases e
  exact fun _ _ ht => ht.mulEff

theorem divuRow : CanonicalRow Machine.divuRow := by
  rintro i f e
  unfold Machine.divuRow at e
  split at e <;> cases e
  exact fun _ _ ht => ht.mulEff

theorem remRow : CanonicalRow Machine.remRow := by
  rintro i f e
  unfold Machine.remRow at e
  split at e <;> cases e
  exact fun _ _ ht => ht.mulEff

theorem remuRow : CanonicalRow Machine.remuRow := by
  rintro i f e
  unfold Machine.remuRow at e
  split at e <;> cases e
  exact fun _ _ ht => ht.mulEff

theorem addiRow : CanonicalRow Machine.addiRow := by
  rintro i f e
  unfold Machine.addiRow at e
  split at e <;> cases e
  exact fun _ _ ht => ht.immEff

theorem andiRow : CanonicalRow Machine.andiRow := by
  rintro i f e
  unfold Machine.andiRow at e
  split at e <;> cases e
  exact fun _ _ ht => ht.immEff

theorem oriRow : CanonicalRow Machine.oriRow := by
  rintro i f e
  unfold Machine.oriRow at e
  split at e <;> cases e
  exact fun _ _ ht => ht.immEff

theorem xoriRow : CanonicalRow Machine.xoriRow := by
  rintro i f e
  unfold Machine.xoriRow at e
  split at e <;> cases e
  exact fun _ _ ht => ht.immEff

theorem luiRow : CanonicalRow Machine.luiRow := by
  rintro i f e
  unfold Machine.luiRow at e
  split at e <;> cases e
  exact fun _ _ ht => ht.luiEff

theorem cmpiRow : CanonicalRow Machine.cmpiRow := by
  rintro i f e
  unfold Machine.cmpiRow at e
  split at e <;> cases e
  exact fun _ _ ht => ht.cmpiEff

theorem shliRow : CanonicalRow Machine.shliRow := by
  rintro i f e
  unfold Machine.shliRow at e
  split at e <;> cases e
  exact fun _ _ ht => ht.shiftEff

theorem shriRow : CanonicalRow Machine.shriRow := by
  rintro i f e
  unfold Machine.shriRow at e
  split at e <;> cases e
  exact fun _ _ ht => ht.shiftEff

theorem sariRow : CanonicalRow Machine.sariRow := by
  rintro i f e
  unfold Machine.sariRow at e
  split at e <;> cases e
  exact fun _ _ ht => ht.shiftEff

theorem roriRow : CanonicalRow Machine.roriRow := by
  rintro i f e
  unfold Machine.roriRow at e
  split at e <;> cases e
  exact fun _ _ ht => ht.shiftEff

theorem ldwRow : CanonicalRow Machine.ldwRow := by
  rintro i f e
  unfold Machine.ldwRow at e
  split at e <;> cases e
  exact fun _ _ ht => ht.loadEff

theorem ldhRow : CanonicalRow Machine.ldhRow := by
  rintro i f e
  unfold Machine.ldhRow at e
  split at e <;> cases e
  exact fun _ _ ht => ht.loadEff

theorem ldhuRow : CanonicalRow Machine.ldhuRow := by
  rintro i f e
  unfold Machine.ldhuRow at e
  split at e <;> cases e
  exact fun _ _ ht => ht.loadEff

theorem ldbRow : CanonicalRow Machine.ldbRow := by
  rintro i f e
  unfold Machine.ldbRow at e
  split at e <;> cases e
  exact fun _ _ ht => ht.loadEff

theorem ldbuRow : CanonicalRow Machine.ldbuRow := by
  rintro i f e
  unfold Machine.ldbuRow at e
  split at e <;> cases e
  exact fun _ _ ht => ht.loadEff

theorem stwRow : CanonicalRow Machine.stwRow := by
  rintro i f e
  unfold Machine.stwRow at e
  split at e <;> cases e
  exact fun _ _ ht => ht.storeEff

theorem sthRow : CanonicalRow Machine.sthRow := by
  rintro i f e
  unfold Machine.sthRow at e
  split at e <;> cases e
  exact fun _ _ ht => ht.storeEff

theorem stbRow : CanonicalRow Machine.stbRow := by
  rintro i f e
  unfold Machine.stbRow at e
  split at e <;> cases e
  exact fun _ _ ht => ht.storeEff

theorem bRow : CanonicalRow Machine.bRow := by
  rintro i f e
  unfold Machine.bRow at e
  split at e <;> cases e
  exact fun _ _ ht => ht.branchEff

theorem jRow : CanonicalRow Machine.jRow := by
  rintro i f e
  unfold Machine.jRow at e
  split at e <;> cases e
  exact fun _ _ ht => ht.jumpEff

theorem jalRow : CanonicalRow Machine.jalRow := by
  rintro i f e
  unfold Machine.jalRow at e
  split at e <;> cases e
  exact fun _ _ ht => ht.jumpEff

theorem jrRow : CanonicalRow Machine.jrRow := by
  rintro i f e
  unfold Machine.jrRow at e
  split at e <;> cases e
  exact fun _ _ ht => ht.jumpRegEff

theorem jalrRow : CanonicalRow Machine.jalrRow := by
  rintro i f e
  unfold Machine.jalrRow at e
  split at e <;> cases e
  exact fun _ _ ht => ht.jumpRegEff

theorem loopRow : CanonicalRow Machine.loopRow := by
  rintro i f e
  unfold Machine.loopRow at e
  split at e <;> cases e
  · exact fun _ _ ht => ht.loopEff
  · exact fun _ _ ht => ht.loopEff

theorem mfsRow : CanonicalRow Machine.mfsRow := by
  rintro i f e
  unfold Machine.mfsRow at e
  split at e <;> cases e
  exact fun _ _ ht => ht.mfsEff

theorem mtsRow : CanonicalRow Machine.mtsRow := by
  rintro i f e
  unfold Machine.mtsRow at e
  split at e <;> cases e
  exact fun _ _ ht => ht.mtsEff

theorem eretRow : CanonicalRow Machine.eretRow := by
  rintro i f e
  unfold Machine.eretRow at e
  split at e <;> cases e
  exact fun _ _ ht => ht.eretEff

theorem syscallRow : CanonicalRow Machine.syscallRow := by
  rintro i f e
  unfold Machine.syscallRow at e
  split at e <;> cases e
  exact fun _ _ _ => trivial

theorem hBreakRow : CanonicalRow Machine.hBreakRow := by
  rintro i f e
  unfold Machine.hBreakRow at e
  split at e <;> cases e
  exact fun _ _ _ => breakEff

theorem lockRow : CanonicalRow Machine.lockRow := by
  rintro i f e
  unfold Machine.lockRow at e
  split at e <;> cases e
  exact fun _ _ ht => ht.lockEff

theorem unlockRow : CanonicalRow Machine.unlockRow := by
  rintro i f e
  unfold Machine.unlockRow at e
  split at e <;> cases e
  exact fun _ _ ht => ht.unlockEff

theorem syncRow : CanonicalRow Machine.syncRow := by
  rintro i f e
  unfold Machine.syncRow at e
  split at e <;> cases e
  exact fun _ _ ht => ht.syncEff

theorem waitRow : CanonicalRow Machine.waitRow := by
  rintro i f e
  unfold Machine.waitRow at e
  split at e <;> cases e
  exact fun _ _ ht => ht.waitEff

theorem iinvAllRow : CanonicalRow Machine.iinvAllRow := by
  rintro i f e
  unfold Machine.iinvAllRow at e
  split at e <;> cases e
  exact fun _ _ ht => ht.cacheEff

theorem iinvLineRow : CanonicalRow Machine.iinvLineRow := by
  rintro i f e
  unfold Machine.iinvLineRow at e
  split at e <;> cases e
  exact fun _ _ ht => ht.cacheEff

theorem dcleanLineRow : CanonicalRow Machine.dcleanLineRow := by
  rintro i f e
  unfold Machine.dcleanLineRow at e
  split at e <;> cases e
  exact fun _ _ ht => ht.cacheEff

theorem dinvLineRow : CanonicalRow Machine.dinvLineRow := by
  rintro i f e
  unfold Machine.dinvLineRow at e
  split at e <;> cases e
  exact fun _ _ ht => ht.cacheEff

theorem dcleanAllRow : CanonicalRow Machine.dcleanAllRow := by
  rintro i f e
  unfold Machine.dcleanAllRow at e
  split at e <;> cases e
  exact fun _ _ ht => ht.cacheEff

/-! ### The commands and a step -/

theorem exec {s : State} (h : Canonical s) {i : Instr} : CanonicalRes (Machine.exec i s) := by
  cases i with
  | planTick => exact h.planTickOf
  | segmentStart => exact h.startDue
  | dwellEnd => exact h.dwellEndOf
  | velocityDurationEnd => exact h.velocityDurationEndOf
  | heldSegmentPlace => exact h.heldPlaceOf
  | stop => exact h.trailCmd
  | abort => exact h.trailCmd
  | flush => exact h.trailCmd
  | freeze => exact h.trailCmd
  | resume => exact h.trailCmd
  | resumeRetry => exact h.trailCmd
  | positionWrite => exact h.positionWriteOf
  | targetReplace => exact h.targetReplaceOf
  | planCapWrite => exact h.capWriteOf
  | posEventArm => exact h.posEventArmOf
  | sleepDelayExpiry => exact h.sleepExpiry
  | holdTimeoutExpiry => exact h.holdExpiry
  | wakeComplete => exact h.wakeDone
  | energiseComplete => exact h.energiseDone
  | deenergiseComplete => exact h.deenergiseDone
  | tileLullExit => exact h.lullExit
  | sramEccError => exact h.tileFault
  | legSelftestFail => exact h.tileFault
  | tileWake => exact h.wakeRequest
  | energise => exact h.beginEnergise
  | release => exact h.deEnergise
  | tileReset => exact h.tileResetOf
  | groupForm => exact h.groupFormDesc
  | groupDissolve => exact h.groupDissolveDesc
  | groupMove => exact h.groupMoveDesc
  | groupReady => exact h.signalReady
  | scaleApply => exact h.applyScale
  | planChecksumTick => exact h.planChecksum
  | checksumTimeout => exact h.checksumDue
  | groupStop => exact h.groupCmdDesc
  | groupAbort => exact h.groupCmdDesc
  | groupFreeze => exact h.groupCmdDesc
  | groupResume => exact h.ifMotion fun _ ht => ht.groupCmdDesc
  | groupReplace => exact h.ifMotion fun _ ht => ht.groupCmdDesc
  | groupCmdApply => exact h.applyGroupCmds
  | migrate => exact .ite h.rebind h
  | migrateMarker => exact h.markerOf
  | migrateLeader => exact .ite h h.migrateLeaderOf
  | shapeSwapRequest => exact h.swapRequest
  | shapeSwap => exact h.swapDue
  | ustepCtlWrite => exact h.writeUstepCtl
  | ustepTblDataAccess => exact .ite h.tblAccess.update h.tblAccess
  | curScaleWrite => exact h.writeScale
  | currentRampStep => exact h.rampStep
  | standDelayExpiry => exact h.standExpiry
  | parkDelayExpiry => exact h.parkExpiry
  | chopWindowOutput => exact h.chopOutput
  | chopTimeExpiry => exact h.stepChop
  | maxOnRefresh => exact h.refreshPulse
  | chopOffsetWrite => exact h.writeOffset
  | pwmPeriodStart => exact h.periodStart
  | regulationLoss => exact h.lossOf
  | sundialUpdate => exact .ite h.sdUpdate.forceUpdate h.sdUpdate
  | stallDecision => exact h.stallDecisionOf
  | confDecay => exact h.confDecayOf
  | confLow => exact h.confLowOf
  | mapLoad => exact h.mapLoadOf
  | mapCheck => exact h.mapCheckOf
  | sdClear => exact h.sundialClear
  | walkStart => exact h.walkStartOf
  | walkAbort => exact h.walkAbortOf
  | walkPhaseComplete => exact h.walkCompleteOf
  | walkGrantTimeout => exact h.walkTimeoutOf
  | learn => exact .ite h h.learnOf
  | learnAbort => exact .ite h h.learnAbortOf
  | obstructionDecision => exact h.obstructionOf
  | retryWaitExpiry => exact h.retryOver
  | blindCeiling => exact h.blindOf
  | gustSample => exact h.gustSample
  | gust => exact h.gustOf
  | pushConfirm => exact h.pushConfirm
  | pushTimeout => exact h.pushTimeoutOf
  | fbProfDataAccess => exact h.profAccess
  | fbSegDataAccess => exact h.segAccess
  | homeEdge => exact h.homeEdgeOf
  | homeMaxTravel => exact h.homeTravelled
  | homeSettleEnd => exact h.homeSettled
  | posWrapWrite => exact h.posWrapOf
  | legOvrWrite => exact h.writeLegOvr
  | pwmPeriodWrite => exact .ite h.writePwmPhase h.writePwmPeriod
  | prechargeEnd => exact h.endPrecharge
  | tripPin => exact h.pinLevel
  | tripCfgWrite => exact h.writeTripCfg
  | tripWindow => exact h.winResult
  | tripStickyClear => exact h.clearPins
  | legTripStickyClear => exact h.clearTripWindows
  | brakeEngage => exact h.engageBrake
  | clockStop => exact h.clockChange
  | lullClrVeto => exact h.lullClr
  | lullClrMismatch => exact h.lullClr
  | lullClrDebug => exact h.lullClr
  | lullClrClock => exact h.lullClr
  | lullClrAlarm => exact h.lullClr
  | lullClrDusk => exact h.lullClr
  | resetPin => exact h.resetPinOf
  | rotationStep => exact .ite h h.rotate
  | sliceFailure => exact .ite h h.sliceFail
  | refLost => exact h.refLost
  | adcRefWrite => exact h.writeAdcRef
  | adcCalDataRead => exact h.calRead
  | scanTrigger => exact h.scanEvent
  | scanGo => exact h.scanStart
  | scanDisarm => exact h.armAlarm
  | scanComplete => exact h.scanEnd
  | supplyConversion => exact h.supplyStart
  | scanAlarmArm => exact h.setAlarm.armAlarm
  | scanAlarmFire => exact h.alarmFire
  | scanBufWrite => exact h.writeScanBuf
  | scanRptrWrite => exact h.writeScanRptr
  | waveformTick => exact h.waveTick
  | siteTrigArm => exact h.siteArm
  | siteTrigCancel => exact h.siteCancel
  | siteTrigFire => exact h.siteFire
  | siteTrigger => exact h.siteDesc
  | houseGo => exact h.scanStart
  | houseDisarm => exact h.armAlarm
  | houseAlarmArm => exact h.setAlarm.armAlarm
  | houseAlarmFire => exact h.alarmFire
  | windowLatchSet => exact h.windowReports
  | winLatchClear r =>
    cases r with
    | tile => exact h.writeWinStatus
    | house => exact h.writeHwinStatus
  | winTestWrite r =>
    cases r with
    | tile => exact h.writeWinCfg
    | house => exact h.writeHwinCfg
  | feedbackEdge => exact h.feedbackEdgeOf
  | indexEdge => exact h.indexEdgeOf
  | reedHoldoffEnd => exact h.reedHoldoffOf
  | ssiFrameStart => exact h.ssiPeriod
  | ssiNow => exact h.ssiStart
  | ssiFrameEnd => exact h.ssiEndOf
  | standstill => exact h.standstillOf
  | fbCfgWrite => exact h.writeFeedCfg
  | fbPosWrite => exact h.set
  | fbRevWrite => exact h.writeFeedRev
  | idxArm => exact h.setFlag
  | fbAxisWrite => exact h.writeFeedAxis
  | emuCfgWrite => exact h.writeEmuCfg
  | emuCountStep => exact h.emuStepOf
  | sfeVisit => exact h.sfeVisitOf
  | frequencyConversionDone => exact h.sfeFrequency
  | voltageConversionDone => exact h.sfeVoltage
  | toneCheck => exact h.sfeTone
  | checkNow => exact h.sfeCheckNow
  | sfeSteerWrite => exact h.writeSfeSteer
  | sfeTestWrite => exact h.sfeTest
  | add => exact h.runHiker addRow
  | adc => exact h.runHiker adcRow
  | sub => exact h.runHiker subRow
  | sbc => exact h.runHiker sbcRow
  | and => exact h.runHiker andRow
  | or => exact h.runHiker orRow
  | xor => exact h.runHiker xorRow
  | andn => exact h.runHiker andnRow
  | shl => exact h.runHiker shlRow
  | shr => exact h.runHiker shrRow
  | sar => exact h.runHiker sarRow
  | ror => exact h.runHiker rorRow
  | min => exact h.runHiker minRow
  | max => exact h.runHiker maxRow
  | minu => exact h.runHiker minuRow
  | maxu => exact h.runHiker maxuRow
  | clz => exact h.runHiker clzRow
  | sextb => exact h.runHiker sextbRow
  | sexth => exact h.runHiker sexthRow
  | sel => exact h.runHiker selRow
  | slt => exact h.runHiker sltRow
  | sltu => exact h.runHiker sltuRow
  | mul => exact h.runHiker mulRow
  | mulh => exact h.runHiker mulhRow
  | mulhu => exact h.runHiker mulhuRow
  | div => exact h.runHiker divRow
  | divu => exact h.runHiker divuRow
  | rem => exact h.runHiker remRow
  | remu => exact h.runHiker remuRow
  | addi => exact h.runHiker addiRow
  | andi => exact h.runHiker andiRow
  | ori => exact h.runHiker oriRow
  | xori => exact h.runHiker xoriRow
  | lui => exact h.runHiker luiRow
  | cmpi => exact h.runHiker cmpiRow
  | shli => exact h.runHiker shliRow
  | shri => exact h.runHiker shriRow
  | sari => exact h.runHiker sariRow
  | rori => exact h.runHiker roriRow
  | ldw => exact h.runHiker ldwRow
  | ldh => exact h.runHiker ldhRow
  | ldhu => exact h.runHiker ldhuRow
  | ldb => exact h.runHiker ldbRow
  | ldbu => exact h.runHiker ldbuRow
  | stw => exact h.runHiker stwRow
  | sth => exact h.runHiker sthRow
  | stb => exact h.runHiker stbRow
  | b => exact h.runHiker bRow
  | j => exact h.runHiker jRow
  | jal => exact h.runHiker jalRow
  | jr => exact h.runHiker jrRow
  | jalr => exact h.runHiker jalrRow
  | loop => exact h.runHiker loopRow
  | mfs => exact h.runHiker mfsRow
  | mts => exact h.runHiker mtsRow
  | eret => exact h.runHiker eretRow
  | syscall => exact h.runHiker syscallRow
  | hBreak => exact h.runHiker hBreakRow
  | lock => exact h.runHiker lockRow
  | unlock => exact h.runHiker unlockRow
  | sync => exact h.runHiker syncRow
  | wait => exact .ite h.waitEnds (h.runHiker waitRow)
  | iinvAll => exact h.runHiker iinvAllRow
  | iinvLine => exact h.runHiker iinvLineRow
  | dcleanLine => exact h.runHiker dcleanLineRow
  | dinvLine => exact h.runHiker dinvLineRow
  | dcleanAll => exact h.runHiker dcleanAllRow
  | interrupt => exact h.takeInterrupt
  | tiPlace => exact h.tiPlace
  | tiRelease => exact h.tiRelease
  | tiAlarmArm => exact h.tiWrite
  | tiAlarmDisarm => exact h.tiWrite
  | tiAlarmFire => exact h.tiAlarmFire
  | hikerUser => exact h.tiUser
  | coreMailSend => exact h.tiSend
  | inAck => exact h.tiInAck
  | hostMailSend => exact h.hostMail
  | fromAck => exact h.fromAck
  | hikerStart => exact h.hikerStart
  | hikerStop => exact h.requestStop
  | hikerReset => exact h.coreReset
  | hikerLoadDone => exact h.hikerLoadDoneOf
  | hikerLoad => exact .ite h.hikerLoadOf.actReady h
  | sqDoorbell => exact h.doorbellIn
  | cqDoorbell => exact h.doorbellIn
  | evDoorbell => exact h.doorbellIn
  | descriptorFetch => exact h.takeWaiting.fetchFrom
  | completionRelease => exact h.releaseCpl
  | coalTimer => exact h.coalTimer
  | nop => exact h.nopOf
  | segment => exact .ite h.segmentOf.actReady h
  | regWrite => exact h.regWriteOf
  | regRead => exact h.regReadOf
  | handleAlloc => exact h.handleAllocOf
  | handleFree => exact h.handleFreeOf
  | timeSet => exact h.timeSetDesc
  | fence => exact h.fenceOf
  | schedDue => exact h.schedDueOf
  | journalWrite => exact h.journalWrite
  | jrHeadWrite => exact h.writeJrHead
  | sqCfgWrite => exact h.writeSqCfg
  | cqCfgWrite => exact h.writeCqCfg
  | evCfgWrite => exact h.writeEvCfg
  | jrCfgWrite => exact h.writeJrCfg
  | mailboxGo => exact h.mailboxGo
  | mbCplPop => exact h.popCpl.returning
  | mbEvtPop => exact h.popEvt.returning
  | hello => exact h.helloOf
  | helloSend => exact h.helloSendOf
  | linkAck => exact h.onFrame fun _ ht => ht.linkAcked
  | linkAckSend => exact .ite h.sendAck h
  | linkDown => exact h.linkDownOf
  | sfpSignalChange => exact h.sfpChanged
  | replayTimeout => exact h.replayDue
  | portFaultEnd => exact h.faultEnd
  | frameForward => exact h.forwarded
  | chainAlarmSend => exact h.chainAlarmDue
  | chainAlarm => exact h.onFrame fun _ ht => ht.chainAlarmed
  | domainDeassert => exact h.domainOver
  | groupAlarmCopy => exact h.alarmCopy
  | groupAlarm => exact h.onFrame fun _ ht => ht.groupAlarmed
  | groupAlarmExpiry => exact h.alarmOver
  | scaleReq => exact h.onFrame fun _ ht => ht.scaleAsked
  | discardNotice => exact h.onFrame fun _ ht => ht.discarded
  | gustReq => exact h.onFrame fun _ ht => ht.gustAsked
  | planChecksumFrame => exact h.onFrame fun _ ht => ht.checksumTold
  | commandFrame => exact h.onFrame fun _ ht => ht.commandTold
  | completionFrame => exact h.onFrame fun _ ht => ht.completionTold
  | groupSeg => exact h.onFrame fun _ ht => ht.groupSegment
  | startFrame => exact h.onFrame fun _ ht => ht.started
  | epochFrame => exact h.onFrame fun _ ht => ht.epochTold
  | readyFrame => exact h.onFrame fun _ ht => ht.readied
  | groupCmdFrame => exact h.onFrame fun _ ht => ht.groupCmdTold
  | leaderState => exact h.onFrame fun _ ht => ht.leaderTold
  | rollCallGo => exact h.rollGo
  | rollCall => exact h.onFrame fun _ ht => ht.rollCalled
  | rollReply => exact h.onFrame fun _ ht => ht.rollReplied
  | rollEntry => exact h.onFrame fun _ ht => ht.rollEntered
  | rollTimeout => exact h.rollTimedOut
  | authority => exact h.onFrame fun _ ht => ht.applyClaim
  | handleSync => exact h.onFrame fun _ ht => ht.handleSynced
  | routeLost => exact h.onFrame fun _ ht => ht.routeLostOf
  | tunnelWrite => exact h.onFrame fun _ ht => ht.tunnelWritten
  | tunnelRead => exact h.onFrame fun _ ht => ht.tunnelServed
  | tunnelData => exact h.onFrame fun _ ht => ht.tunnelGot
  | sfpAccess => exact h.writeSfpCmd
  | ddmPoll => exact h.ddmRead
  | mirrorPoll => exact h.mirrorPollOf
  | syncSend => exact h.sendSync
  | syncFrame => exact h.receiveSync
  | followUp => exact h.receiveFollowUp
  | delayReq => exact h.receiveDelayReq
  | delayResp => exact h.receiveDelayResp
  | holdoverTimeout => exact h.holdoverOf
  | ppsEdge => exact h.ppsEdgeOf
  | timeStepApply => exact h.applyStep
  | canopyScan => exact h.scanTick
  | governorRound => exact h.governorRoundOf
  | lockstepMismatch => exact h.mismatch
  | comparatorSelftest => exact h.selftest
  | scanWatchdog => exact h.scanWatchdogOf
  | canopyEccError => exact h.canopyEcc
  | vetoRaise => exact h.writeVetoRaise
  | vetoDrop => exact h.writeVetoDrop
  | scanKick => exact h.writeScanKick
  | locksSet => exact h.writeLocks
  | hostKick => exact h.update
  | cmbStatus => exact h.cmbStatusOf
  | cmbCheckpoint => exact h.cmbCheckpointOf
  | cmbVersion => exact h.cmbVersionOf
  | safetyRegWrite => exact .ite (h.keyedRun fun _ ht => ht.safetyRegOf) h
  | safetyTableWrite => exact .ite (h.keyedRun fun _ ht => ht.safetyTableOf) h
  | splitOwnWrite => exact .ite (h.keyedRun fun _ ht => ht.splitOwnOf) h
  | commandVeto => exact .ite (h.keyedRun fun _ ht => ht.commandVetoOf) h
  | install => exact .ite (h.keyedRun fun _ ht => ht.installOf) h
  | erase => exact .ite (h.keyedRun fun _ ht => ht.eraseOf) h
  | provision => exact .ite (h.keyedRun fun _ ht => ht.provisionOf) h
  | imageActivate => exact .ite (h.keyedRun fun _ ht => ht.imageActivateOf) h
  | lullRelease => exact .ite (h.keyedRun fun _ ht => ht.lullReleaseOf) h
  | authorityClaim => exact .ite (h.keyedRun fun _ ht => ht.authorityClaimOf) h
  | epochReset => exact .ite (h.keyedRun fun _ ht => ht.epochResetOf) h
  | benchMode => exact .ite (h.keyedRun fun _ ht => ht.benchModeOf) h
  | lockoutEnd => exact h.lockoutOver
  | dozeRequest => exact h.powerRequest
  | twilightRequest => exact h.powerRequest
  | nightRequest => exact h.powerRequest
  | duskTest => exact h.duskStartOf
  | autoDoze => exact h.autoDozeOf
  | deviceWake => exact h.deviceWakeOf
  | lkAlarmArm => exact h.lkAlarmArmOf
  | duskStart => exact h.duskStartOf
  | duskOutcome => exact h.duskOutcomeOf
  | x32Loss => exact h.setFlag.setFlag.xtalEvent
  | x32Restore => exact h.setFlag.setFlag
  | refClockLoss => exact h.refClockLossOf
  | supplyFall => exact h.supplyFallOf
  | checkpointCommit => exact h.checkpointDue
  | ckptTimer => exact h.ckptTimerOf
  | blockFailure => exact h.blockFailed
  | recordRefresh => exact h.refreshOf
  | psLoadGo => exact h.psLoadGo
  | psLogDataRead => exact h.readLog.update
  | paramSave => exact h.paramSaveGo
  | spcGo => exact h.spcGo
  | spcFlushTx => exact h.spcFlush
  | spcFlushRx => exact h.spcFlush
  | spcAbort => exact h.spcAbort
  | spcTxPush => exact h.spcPush
  | spcRxPop => exact h.spcPop.update
  | spcFrameDone => exact h.spcDone
  | xipDiscovery => exact h.xipDiscover
  | xipLineRead => exact h.xipLine
  | sptCommand => exact h.sptCommandOf
  | sptDeselect => exact h.sptDeselectOf
  | dawn => exact h.dawnOf
  | powerOn => exact h.powerOnOf
  | deviceReset => exact h.deviceResetOf
  | recoveryDone => exact h.recoveryDoneOf
  | dbgViewRead => exact h.dbgAccessOf
  | dbgConsumeRead => exact h.dbgAccessOf
  | dbgWrite => exact h.dbgAccessOf
  | dbgHalt => exact h.haltTiles
  | dbgResume => exact h.goTiles
  | dbgStep => exact h.goTiles
  | canopyHalt => exact h.canopyHalt
  | canopyResume => exact h.canopyGo
  | canopyStep => exact h.canopyGo
  | jtagDbgUpdate => exact h.jtagUpdate.update
  | extest => exact h.tapLoad.tapCells
  | samplePreload => exact h.tapLoad.tapCells
  | idcode => exact h.tapLoad.update
  | clamp => exact h.tapLoad
  | highz => exact h.tapLoad
  | extestPulse => exact h.tapLoad.tapCells
  | extestTrain => exact h.tapLoad.tapCells
  | dbgAccess => exact h.tapLoad
  | bypass => exact h.tapLoad
  | tapReset => exact h.tapLoad
  | sramPageWrite => exact h.writePage
  | windowRead => exact h.windowRead
  | windowWrite => exact h.windowWrite
  | registerWrite who a =>
    cases a with
    | bar0 => exact h.bar0Write
    | bar2 => exact h.bar2Write
  | linkAlignmentChange => exact h.alignmentOf
  | deadTimeExpiry => exact h.deadTimeOver
  | dutyCompare => exact h.dutyCompareOf
  | blankingEnd => exact h.blankingOver
  | referenceSettled => exact h.referenceOf
  | pciePerst => exact h.update
  | acquiringTimeout => exact h.acquiringTimeoutOf
  | ppsSilence => exact h.ppsSilenceOf
  | atPpsTimeout => exact h.atPpsTimeoutOf
  | ppsOutPulse => exact h.ppsLevel
  | contestReport => exact h.contestReported
  | psLoadDone => exact .ite h h.psLoadDone
  | paramSaveDone => exact h.paramSaveDone
  | xipDiscoveryDone => exact h.xipDiscovered
  | sfpAccessDone => exact h.sfpDone

theorem step {s : State} (h : Canonical s) : CanonicalRes (Machine.step s) := by
  unfold Machine.step
  split
  · exact h.idle
  · exact exec h.update

end Canonical

/-- Settles O59: a step is a call of functions of the model, and each of them keeps the form (`Canonical.step`). -/
theorem canonicalFormIsKept : Obligations.CanonicalFormIsKept := by
  intro s t h e
  have hs : CanonicalRes (step s) := h.step
  rwa [e] at hs

end Sys2Proof.Machine
end

section
/-! Writes of the register space and the paged window (O39). -/

namespace Sys2Proof.Machine

/-- A command whose next state is `u` does what holds of `u`. -/
theorem does_of_eq {c : Instr} {s t u : State} {P : State → Prop} (e : t = u) (hc : exec c s = .next t) (h : P u) :
    Does c s P :=
  ⟨u, e ▸ hc, h⟩

namespace State

/-! ### One register word -/

theorem onlyRegs_wr (s : State) (a : Nat) (v : Word) : OnlyRegs [a] s (s.wr a v) :=
  ⟨rfl, fun b hb => rd_wr_ne s a b v (by simpa using hb)⟩

theorem onlyRegs_set (s : State) (f : Fld) (v i : Nat) : OnlyRegs [f.at i] s (s.set f v i) := onlyRegs_wr _ _ _

theorem onlyRegs_trans {l : List Nat} {s t u : State} (h : OnlyRegs l s t) (k : OnlyRegs l t u) : OnlyRegs l s u := by
  obtain ⟨ht, hrt⟩ := h
  obtain ⟨hu, hru⟩ := k
  exact ⟨by rw [hu, ht], fun a ha => (hru a ha).trans (hrt a ha)⟩

theorem onlyRegs_barErr (s : State) (kind off : Nat) : OnlyRegs [R.BAR_ERR.off] s (s.barErr kind off) := by
  unfold barErr bump
  exact onlyRegs_trans (onlyRegs_trans (onlyRegs_set s R.BAR_ERR_count _ 0) (onlyRegs_set _ R.BAR_ERR_kind kind 0))
    (onlyRegs_set _ R.BAR_ERR_offset _ 0)

theorem get_barErr_kind (s : State) (kind off : Nat) : (s.barErr kind off).get R.BAR_ERR_kind = kind % 16 := by
  unfold barErr
  rw [get_set_bits _ _ _ _ _ _ (by decide) (by decide) (by decide), get_set_same _ _ _ _ (by decide) (by decide)]
  rfl

theorem get_barErr_offset (s : State) (kind off : Nat) : (s.barErr kind off).get R.BAR_ERR_offset = off % 2 ^ 20 := by
  unfold barErr
  rw [get_set_same _ _ _ _ (by decide) (by decide)]
  exact Nat.mod_mod _ _

theorem plainWrite_eq_wr {off : Nat} {r : RegRow} (hr : regRow off = some r) (s : State) (keyed : Bool) (v : Word) :
    s.plainWrite keyed off v = s.wr off (r.fields.foldl (fieldWrite (s.lockedAt off && !keyed) v) (s.rd off)) := by
  simp only [plainWrite, hr]

/-- A field of one bit is the flag of that bit. -/
theorem bits_one_ne_zero (v : Word) (i : Nat) : decide (bits v.toNat i i ≠ 0) = v.getLsbD i := by
  rw [← BitVec.testBit_toNat, Nat.testBit_eq_decide_div_mod_eq]
  simp [bits]

/-! ### A word written by a requester -/

theorem bar0Refused_global (s : State) (who : Requester) (jtag : Bool) {off : Nat} (hoff : off < 0x10000) :
    s.bar0Refused who jtag off = false := by
  simp [bar0Refused, show ¬ 0x10000 ≤ off by omega]

/-- An aligned word that any requester writes to a global register goes to that register. -/
theorem bar0Write_global (s : State) (who : Requester) {off : Nat} (v : Word) (hp : who ≠ .pcie ∨ s.perst = false)
    (hoff : off < 0x10000) (ha : off % 4 = 0) (hd : off ≠ R.DBG_CMD.off) :
    s.bar0Write who off 4 v = s.regWrite who false off v := by
  have hperst : ¬ (who = .pcie ∧ s.perst = true) := by
    rintro ⟨rfl, h⟩
    simp [h] at hp
  have hbus : s.busWrite who off v = s.regWrite who false off v := by
    simp [busWrite, hd, hostWrite, bar0Refused_global s who false hoff]
  unfold bar0Write
  extract_lets host
  rw [if_neg hperst]
  split
  · rw [if_pos ⟨rfl, ha, by omega⟩]
  · rw [if_neg (by omega), if_neg (by simp [ha]), hbus]

theorem regWrite_single {off : Nat} (hm : (regRow off).isNone = false) (hl : isPairLow off = false)
    (hh : isPairHigh off = false) (s : State) (who : Requester) (keyed : Bool) (v : Word) :
    s.regWrite who keyed off v = s.writeSingle keyed off v := by
  simp [regWrite, hm, hl, hh]

end State
open State

/-! ### The bytes of a window write -/

theorem natLE_bytesLE (k v : Nat) : natLE (bytesLE k v) = v % 256 ^ k := by
  induction k generalizing v with
  | zero => simp [bytesLE, natLE, Nat.mod_one]
  | succ k ih =>
    have hb : (BitVec.ofNat 8 v).toNat = v % 256 := BitVec.toNat_ofNat v 8
    rw [bytesLE, natLE, ih, hb, Nat.pow_succ', Nat.mod_mul]

@[simp] theorem bytesLE_length (k v : Nat) : (bytesLE k v).length = k := by
  induction k generalizing v with
  | zero => rfl
  | succ k ih => simp [bytesLE, ih]

namespace State

theorem bytes_setBytes (l : List Byte) (s : State) (a : Nat) : (s.setBytes a l).bytes a l.length = l := by
  induction l generalizing s a with
  | nil => rfl
  | cons b l ih =>
    have hb : ((s.setByte a b).setBytes (a + 1) l).byte a = b := by
      rw [memOutside_setBytes _ _ _ a (by omega), byte_setByte, if_pos rfl]
    rw [setBytes, List.length_cons, bytes, hb, ih]

theorem bytes_of_mem {s t : State} (h : t.mem = s.mem) (a k : Nat) : t.bytes a k = s.bytes a k := by
  induction k generalizing a with
  | zero => rfl
  | succ k ih => rw [bytes, bytes, ih, byte, byte, h]

/-- A number stored at an address and read there again. -/
theorem load_of_stored {s t : State} {a k v : Nat} (h : t.mem = (s.setBytes a (bytesLE k v)).mem) :
    t.load a k = v % 256 ^ k := by
  have hl := bytes_setBytes (bytesLE k v) s a
  rw [bytesLE_length] at hl
  rw [load, bytes_of_mem h, hl, natLE_bytesLE]

theorem memOutside_of_stored {s t : State} {a k v : Nat} (h : t.mem = (s.setBytes a (bytesLE k v)).mem) :
    MemOutside a k s t := by
  intro x hx
  have hb := memOutside_setBytes s a (bytesLE k v) x (by simpa using hx)
  rw [← hb, byte, byte, h]

theorem sharedWrite_mem (s : State) (w : Option (Fin 66)) (a : Nat) (b : List Byte) :
    (s.sharedWrite w a b).mem = (s.setBytes a b).mem := by simp only [sharedWrite, breakLocks]

theorem sharedWrite_regs (s : State) (w : Option (Fin 66)) (a : Nat) (b : List Byte) :
    (s.sharedWrite w a b).regs = s.regs := by simp only [sharedWrite, breakLocks, setBytes_regs]

theorem setBytes_tiles (l : List Byte) (s : State) (a : Nat) : (s.setBytes a l).tiles = s.tiles := by
  induction l generalizing s a with
  | nil => rfl
  | cons b l ih => exact ih _ _

theorem sharedWrite_tiles (s : State) (w : Option (Fin 66)) (a : Nat) (b : List Byte) :
    (s.sharedWrite w a b).tiles = s.tiles := by simp only [sharedWrite, breakLocks, setBytes_tiles]

end State

/-! ### Where the window reaches -/

namespace State

theorem windowAddr_tile {s : State} {dbg : Bool} {a : Nat} {n : Fin 64} (ha : a < 0x28000) (hn : s.pageOf dbg = n.val)
    (hr : dbg = true ∨ s.isRoot = true) : s.windowAddr dbg a = some (tileSram n + a) := by
  have hopen : ¬ (¬ dbg = true ∧ ¬ s.isRoot = true) := fun ⟨hd, hs⟩ => hr.elim hd hs
  have hlt : n.val < 0x40 := n.isLt
  simp only [windowAddr, hn]
  rw [if_neg hopen, if_pos hlt, if_pos ha]

theorem windowPut_shared {s : State} {dbg : Bool} {a m : Nat} (b : List Byte) (hm : s.windowAddr dbg a = some m)
    (hp : 0x40 ≤ s.pageOf dbg) : s.windowPut dbg a b = s.sharedWrite none m b := by
  simp only [windowPut, hm]
  rw [if_pos (.inl hp)]

/-- A write below 32 KB of a tile's page is a write of its motor map (R687). -/
theorem windowPut_map {s : State} {dbg : Bool} {a : Nat} {n : Fin 64} (b : List Byte) (ha : a < 0x8000)
    (hn : s.pageOf dbg = n.val) (hr : dbg = true ∨ s.isRoot = true) :
    s.windowPut dbg a b =
      if (s.st n = stAsleep ∨ s.st n = stIdle) ∧ ¬ (s.tile n).cur.energising ∧ ¬ s.walking n then
        (s.setBytes (tileSram n + a) b).mapInvalid n
      else s.barErr 2 (0x80000 + a) := by
  have hlt : n.val < 0x40 := n.isLt
  have ht : tileOf n.val = n := Fin.ext (Nat.mod_eq_of_lt hlt)
  have hm : s.windowAddr dbg a = some (tileSram n + a) := windowAddr_tile (by omega) hn hr
  have hmap : ¬ (0x40 ≤ n.val ∨ (0x18000 ≤ a ∧ a < 0x20000)) := by omega
  simp only [windowPut, hm, hn, ht]
  rw [if_neg hmap, if_pos ha]

end State

/-! ### What an invalid map leaves alone -/

/-- The on-chip memories and the word of SD_STATUS of tile `n` are as before. -/
def MapStatusKept (n : Fin 64) (s t : State) : Prop :=
  t.mem = s.mem ∧ t.rd (R.SD_STATUS_map_valid.at n) = s.rd (R.SD_STATUS_map_valid.at n)

namespace MapStatusKept
variable {n : Fin 64} {s t u : State}

theorem refl : MapStatusKept n s s := ⟨rfl, rfl⟩

theorem trans (h : MapStatusKept n s t) (k : MapStatusKept n t u) : MapStatusKept n s u :=
  ⟨k.1.trans h.1, k.2.trans h.2⟩

theorem set {f : Fld} {v i : Nat} (hf : R.SD_STATUS_map_valid.at n ≠ f.at i) : MapStatusKept n s (s.set f v i) :=
  ⟨rfl, rd_set_ne s f v i _ hf⟩

/-- A field of another register of tile `n`. -/
theorem setTileField {f : Fld} {v : Nat} (hs : f.stride = 0x1000) (ho : f.off ≠ 0x10304) :
    MapStatusKept n s (s.set f v n) :=
  set (by simp only [Fld.at, hs]; omega)

/-- A change that keeps the registers and the on-chip memories. -/
theorem of_eq (hr : t.regs = s.regs) (hm : t.mem = s.mem) : MapStatusKept n s t := ⟨hm, by rw [rd, rd, hr]⟩

theorem ite {c : Prop} {_ : Decidable c} (ht : MapStatusKept n s t) (hu : MapStatusKept n s u) :
    MapStatusKept n s (if c then t else u) := by
  split <;> assumption

theorem foldl {α : Type} {f : State → α → State} (hf : ∀ s a, MapStatusKept n s (f s a)) (l : List α) :
    MapStatusKept n s (l.foldl f s) := by
  induction l generalizing s with
  | nil => exact refl
  | cons a l ih => exact (hf s a).trans ih

theorem setPort {p : Fin 4} {q : Port} : MapStatusKept n s (s.setPort p q) := refl

theorem onWire {p : Fin 4} {f : Frame} : MapStatusKept n s (s.onWire p f) := by
  have ht : MapStatusKept n s { s with usfen := { s.usfen with wire := s.usfen.wire ++ [(p.val, f)] } } := refl
  exact ht.trans (set (by have := p.isLt; simp only [Fld.at]; omega))

theorem sendNumbered {p : Fin 4} {f : Frame} : MapStatusKept n s (s.sendNumbered p f) :=
  .ite (.ite setPort (setPort.trans onWire)) (.ite setPort (setPort.trans onWire))

theorem sendOn {p : Fin 4} {f : Frame} : MapStatusKept n s (s.sendOn p f) := .ite refl (.ite onWire sendNumbered)

theorem flood {typ : Nat} {b : List Byte} : MapStatusKept n s (s.flood typ b) :=
  foldl (fun _ _ => .ite refl sendOn) _

theorem setGroup {k : Nat} {g : Option GroupSlot} : MapStatusKept n s (s.setGroup k g) := of_eq (by simp) (by simp)

theorem distributeRequest {k : Nat} : MapStatusKept n s (s.distributeRequest k) := by
  unfold State.distributeRequest
  split
  · exact refl
  · exact .ite refl (.ite refl (.ite (setGroup.trans flood) setGroup))

theorem scaleRequest : MapStatusKept n s (s.scaleRequest n) := by
  unfold State.scaleRequest
  split
  · exact refl
  · exact .ite refl (((setTileField rfl (by decide)).trans (setTileField rfl (by decide))).trans distributeRequest)

theorem putCapV {v : Nat} : MapStatusKept n s (s.putCapV n v) :=
  (setTileField rfl (by decide)).trans scaleRequest

theorem modPlan {m : Fin 64} {f : Planner → Planner} : MapStatusKept n s (s.modPlan m f) := refl

theorem modForce {m : Fin 64} {f : Force → Force} : MapStatusKept n s (s.modForce m f) := refl

theorem modSd {m : Fin 64} {f : Sundial → Sundial} : MapStatusKept n s (s.modSd m f) := refl

theorem modLull {m : Fin 64} {f : LullState → LullState} : MapStatusKept n s (s.modLull m f) := refl

theorem applyCeil {old new : Nat} : MapStatusKept n s (s.applyCeil n old new) := by
  unfold State.applyCeil
  extract_lets cap saved
  split
  · exact (modPlan.trans modForce).trans putCapV
  · split
    · split
      · exact refl
      · exact modPlan.trans putCapV
    · exact refl

theorem budgetCeil : MapStatusKept n s (s.budgetCeil n) := by
  unfold State.budgetCeil
  extract_lets s1 on e w b old new s2 s3
  have h1 : MapStatusKept n s s1 := setTileField rfl (by decide)
  have h2 : MapStatusKept n s1 s2 := (setTileField rfl (by decide)).trans (setTileField rfl (by decide))
  have h3 : MapStatusKept n s2 s3 := (setTileField rfl (by decide)).trans (setTileField rfl (by decide))
  have h := (h1.trans h2).trans h3
  clear_value s3
  exact .ite h (h.trans applyCeil)

theorem putConf {c : Nat} : MapStatusKept n s (s.putConf n c) := by
  unfold State.putConf
  extract_lets s1 s2
  have h1 : MapStatusKept n s s1 := setTileField rfl (by decide)
  have h2 : MapStatusKept n s s2 := .ite h1 (h1.trans modSd)
  exact h2.trans modLull

theorem mapInvalid : MapStatusKept n (s.setFlag R.SD_STATUS_map_valid false n) (s.mapInvalid n) :=
  putConf.trans budgetCeil

end MapStatusKept

namespace State

theorem mapInvalid_mem (s : State) (n : Fin 64) : (s.mapInvalid n).mem = s.mem :=
  MapStatusKept.mapInvalid.1.trans (setFlag_mem _ _ _ _)

theorem flag_mapInvalid (s : State) (n : Fin 64) : (s.mapInvalid n).flag R.SD_STATUS_map_valid n = false := by
  rw [flag, get, MapStatusKept.mapInvalid.2, ← get, setFlag, get_set_same _ _ _ _ (by decide) (by decide)]
  rfl

end State

/-! ### TIME_CFG and WAKE_CAUSE -/

/-- The fields of TIME_CFG (R522). -/
def timeCfgFields : List FieldRow :=
  [⟨31, 31, .rw, 0x0⟩, ⟨30, 30, .rw, 0x0⟩, ⟨29, 29, .rw, 0x0⟩, ⟨23, 16, .rw, 0xA⟩, ⟨15, 0, .rw, 0x3E8⟩]

theorem regRow_timeCfg : regRow 0x901C = some ⟨R.TIME_CFG, .device, true, timeCfgFields⟩ := by decide

theorem regRow_wakeCause : regRow 0x100C = some ⟨R.WAKE_CAUSE, .alwaysOn, false, [⟨6, 0, .w1c, 0x0⟩]⟩ := by decide

/-- The fields lie apart, so each takes the bits written whatever is written to the others. -/
theorem bits_timeCfg (locked : Bool) (v w : Word) : ∀ f ∈ timeCfgFields,
    bits (timeCfgFields.foldl (fieldWrite locked v) w).toNat f.msb f.lsb = bits v.toNat f.msb f.lsb := by
  simp only [timeCfgFields, List.forall_mem_cons, List.foldl, fieldWrite]
  simp (disch := decide) only [bits_insertBits_ne, bits_insertBits]
  simp [bits]

/-- A bit written 1 is cleared (R7). -/
theorem testBit_wakeCause (locked : Bool) (v w : Word) (b : Fin 7) :
    (bits (fieldWrite locked v w ⟨6, 0, .w1c, 0x0⟩).toNat 6 0).testBit b =
      ((bits w.toNat 6 0).testBit b && !v.getLsbD b) := by
  have hb := b.isLt
  simp only [fieldWrite]
  rw [bits_insertBits _ _ _ _ (by decide) (by decide), Nat.testBit_mod_two_pow, testBit_bits, testBit_bits,
    BitVec.testBit_toNat, BitVec.testBit_toNat, BitVec.getLsbD_and, BitVec.getLsbD_not]
  simp [hb, show b.val < 32 by omega]

section
variable {s : State} {who : Requester} (hp : who ≠ .pcie ∨ s.perst = false)
include hp

theorem bar0Write_timeCfg (v : Word) :
    s.bar0Write who 0x901C 4 v =
      s.wr 0x901C (timeCfgFields.foldl (fieldWrite (s.lockedAt 0x901C && !false) v) (s.rd 0x901C)) := by
  rw [bar0Write_global s who v hp (by decide) (by decide) (by decide),
    regWrite_single (by decide) (by decide) (by decide), ← plainWrite_eq_wr regRow_timeCfg]
  rfl

theorem bar0Write_wakeCause (v : Word) :
    s.bar0Write who 0x100C 4 v =
      s.wr 0x100C (fieldWrite (s.lockedAt 0x100C && !false) v (s.rd 0x100C) ⟨6, 0, .w1c, 0x0⟩) := by
  rw [bar0Write_global s who v hp (by decide) (by decide) (by decide),
    regWrite_single (by decide) (by decide) (by decide)]
  exact plainWrite_eq_wr regRow_wakeCause s false v

theorem timeCfg_takes_word (v : Word) : Does (.registerWrite who (.bar0 0x901C) 4 v) s fun t =>
    t.flag R.TIME_CFG_pps_en = v.getLsbD 31 ∧ t.flag R.TIME_CFG_pps_fall = v.getLsbD 30 ∧
      t.flag R.TIME_CFG_pps_out = v.getLsbD 29 ∧ t.get R.TIME_CFG_step_lead = bits v.toNat 23 16 ∧
      t.get R.TIME_CFG_interval = bits v.toNat 15 0 ∧ OnlyRegs [R.TIME_CFG.off] s t := by
  refine does_of_eq (bar0Write_timeCfg hp v) rfl ?_
  generalize hw : timeCfgFields.foldl (fieldWrite (s.lockedAt 0x901C && !false) v) (s.rd 0x901C) = w
  have hbits : ∀ f ∈ timeCfgFields, bits w.toNat f.msb f.lsb = bits v.toNat f.msb f.lsb := by
    rw [← hw]
    exact bits_timeCfg _ v _
  simp only [timeCfgFields, List.forall_mem_cons] at hbits
  obtain ⟨h31, h30, h29, hlead, hival, -⟩ := hbits
  have hrd : (s.wr 0x901C w).rd 0x901C = w := by rw [rd_wr, if_pos rfl]
  have hget (f : Fld) (hf : f.at 0 = 0x901C) : (s.wr 0x901C w).get f = bits w.toNat f.msb f.lsb := by
    rw [State.get, hf, hrd]
  refine ⟨?_, ?_, ?_, ?_, ?_, onlyRegs_wr s _ w⟩
  · rw [flag, hget _ rfl, h31, bits_one_ne_zero]
  · rw [flag, hget _ rfl, h30, bits_one_ne_zero]
  · rw [flag, hget _ rfl, h29, bits_one_ne_zero]
  · rw [hget _ rfl, hlead]
  · rw [hget _ rfl, hival]

theorem wakeCause_clears_ones (v : Word) : Does (.registerWrite who (.bar0 0x100C) 4 v) s fun t =>
    (∀ b : Fin 7, t.fbit R.WAKE_CAUSE_cause b = (s.fbit R.WAKE_CAUSE_cause b && !v.getLsbD b)) ∧
      OnlyRegs [R.WAKE_CAUSE.off] s t := by
  refine does_of_eq (bar0Write_wakeCause hp v) rfl ⟨fun b => ?_, onlyRegs_wr s _ _⟩
  rw [fbit, State.get, show R.WAKE_CAUSE_cause.at 0 = 0x100C from rfl, rd_wr, if_pos rfl]
  exact testBit_wakeCause _ v _ b

end

/-! ### Writes that no register takes -/

section
variable (s : State)

theorem unmapped_write_ignored (who : Requester) (off : BitVec 20) (v : Word) (hoff : off.toNat < 0x10000)
    (ha : off.toNat % 4 = 0) (hn : (regRow off.toNat).isNone) :
    Does (.registerWrite who (.bar0 off) 4 v) s fun t => t = s := by
  refine ⟨_, rfl, ?_⟩
  change s.bar0Write who off.toNat 4 v = s
  by_cases hp : who = .pcie ∧ s.perst
  · rw [bar0Write, if_pos hp]
  · have hopen : who ≠ .pcie ∨ s.perst = false := by
      by_cases hw : who = .pcie
      · exact .inr (Bool.eq_false_iff.2 fun h => hp ⟨hw, h⟩)
      · exact .inl hw
    have hd : off.toNat ≠ R.DBG_CMD.off := by
      intro h
      rw [h] at hn
      exact absurd hn (by decide)
    rw [bar0Write_global s who v hopen hoff ha hd, regWrite, if_pos hn]

theorem short_write_recorded (who : Requester) (off : BitVec 20) (len : Fin 5) (v : Word)
    (hwho : who = .spt ∨ who = .debug ∨ who = .pcie ∧ s.perst = false) (hoff : off.toNat < 0x80000)
    (hl : len ≠ 4 ∨ off.toNat % 4 ≠ 0) :
    Does (.registerWrite who (.bar0 off) len v) s fun t =>
      t.get R.BAR_ERR_kind = 1 ∧ t.get R.BAR_ERR_offset = off.toNat ∧ OnlyRegs [R.BAR_ERR.off] s t := by
  have hb : s.bar0Write who off.toNat len v = s.barErr 1 off.toNat := by
    have hopen : ¬ (who = .pcie ∧ s.perst = true) := by
      rcases hwho with rfl | rfl | ⟨rfl, h⟩ <;> simp [*]
    have hhost : ¬ ¬ (decide (who = .pcie) || decide (who = .spt) || decide (who = .debug)) = true := by
      rcases hwho with rfl | rfl | ⟨rfl, -⟩ <;> simp
    have hlen : (len : Nat) ≠ 4 ∨ off.toNat % 4 ≠ 0 := hl.imp_left fun h e => h (Fin.ext e)
    unfold bar0Write
    extract_lets host
    rw [if_neg hopen, if_neg hhost, if_neg (by omega), if_pos hlen]
  refine does_of_eq hb rfl ⟨get_barErr_kind s 1 _, ?_, onlyRegs_barErr s 1 _⟩
  rw [get_barErr_offset]
  exact Nat.mod_eq_of_lt off.isLt

theorem perst_write_ignored (off : BitVec 20) (len : Fin 5) (v : Word) (h : s.perst) :
    Does (.registerWrite .pcie (.bar0 off) len v) s fun t => t = s :=
  ⟨_, rfl, if_pos ⟨rfl, h⟩⟩

/-! ### BAR2 -/

theorem bar2_other_ignored (who : Requester) (off : BitVec 16) (len : Fin 5) (v : Word)
    (h : who ≠ .pcie ∨ s.perst = true ∨ len ≠ 4 ∨ 0x8400 ≤ off.toNat) :
    Does (.registerWrite who (.bar2 off) len v) s fun t => t = s := by
  refine ⟨_, rfl, ?_⟩
  change s.bar2Write who off.toNat len v = s
  unfold bar2Write
  split
  · rfl
  · next hopen =>
    obtain ⟨hw, hrest⟩ := not_or.1 hopen
    obtain ⟨hpe, hlen⟩ := not_or.1 hrest
    have hl : len = 4 := Fin.ext (Decidable.not_not.1 hlen)
    have hoff : 0x8400 ≤ off.toNat := ((h.resolve_left hw).resolve_left hpe).resolve_left fun hne => hne hl
    rw [if_neg (by omega), if_neg (by omega)]

/-- With no vector pending a write of the MSI-X table is a write of its word. -/
theorem msixWrite_none_pending {s : State} (i : Nat) (v : Word) (hpba : s.hamper.pba = []) :
    s.msixWrite i v = { s with hamper := { s.hamper with msixTable := sparseInsert i v s.hamper.msixTable } } :=
  if_neg (by simp [hpba])

variable {s} (hpe : s.perst = false)
include hpe

theorem bar2Write_pcie (off : Nat) (v : Word) :
    s.bar2Write .pcie off 4 v =
      if off < 0x8000 then s.doorbell v
      else if off < 0x8400 ∧ off % 4 = 0 then s.msixWrite (off - 0x8000) v else s :=
  if_neg (by simp [hpe])

theorem bar2_doorbell (off : BitVec 16) (v : Word) (hoff : off.toNat < 0x8000) :
    Does (.registerWrite .pcie (.bar2 off) 4 v) s fun t => t = s.doorbell v :=
  ⟨_, rfl, (bar2Write_pcie hpe _ v).trans (if_pos hoff)⟩

omit hpe in
theorem bar2Word_table {a : Nat} (hal : 0x8000 ≤ a) (hah : a < 0x8400) :
    s.bar2Word a = (sparseFind (a - 0x8000) s.hamper.msixTable).getD (if a % 16 = 12 then 1 else 0) :=
  if_pos ⟨hal, hah⟩

theorem bar2_msix (off : BitVec 16) (v : Word) (a : Nat) (hlo : 0x8000 ≤ off.toNat) (hhi : off.toNat < 0x8400)
    (h4 : off.toNat % 4 = 0) (hpba : s.hamper.pba = []) (hal : 0x8000 ≤ a) (hah : a < 0x8400) :
    Does (.registerWrite .pcie (.bar2 off) 4 v) s fun t =>
      t.bar2Word off.toNat = v ∧ (a ≠ off.toNat → t.bar2Word a = s.bar2Word a) ∧ t.regs = s.regs ∧ t.mem = s.mem ∧
      t.tiles = s.tiles := by
  have hb := bar2Write_pcie hpe off.toNat v
  rw [if_neg (by omega), if_pos ⟨hhi, h4⟩, msixWrite_none_pending _ v hpba] at hb
  refine does_of_eq hb rfl ⟨?_, fun hne => ?_, rfl, rfl, rfl⟩
  · rw [bar2Word_table hlo hhi, sparseFind_insert, if_pos rfl]
    rfl
  · rw [bar2Word_table hal hah, bar2Word_table hal hah, sparseFind_insert, if_neg (by omega)]

end

/-! ### SRAM_PAGE and the window -/

section
variable (s : State)

theorem page_taken (dbg : Bool) (v : Word) (h : v.toNat % 256 ≤ 0x41 ∨ v.toNat % 256 = 0xFF) :
    Does (.sramPageWrite dbg v) s fun t =>
      t.get R.SRAM_PAGE_target (if dbg then 1 else 0) = v.toNat % 256 ∧
        OnlyRegs [R.SRAM_PAGE.at (if dbg then 1 else 0)] s t := by
  have hw : s.writePage dbg v = s.set R.SRAM_PAGE_target (v.toNat % 256) (b2n dbg) := if_pos h
  refine does_of_eq hw rfl ⟨?_, ?_⟩
  · exact (get_set_same s R.SRAM_PAGE_target _ (b2n dbg) (by decide) (by decide)).trans (Nat.mod_mod _ _)
  · have hat : R.SRAM_PAGE.at (if dbg then 1 else 0) = R.SRAM_PAGE_target.at (b2n dbg) := rfl
    rw [hat]
    exact onlyRegs_set s _ _ _

theorem page_refused (dbg : Bool) (v : Word) (h1 : 0x41 < v.toNat % 256) (h2 : v.toNat % 256 ≠ 0xFF) :
    Does (.sramPageWrite dbg v) s fun t => t.get R.BAR_ERR_kind = 3 ∧ OnlyRegs [R.BAR_ERR.off] s t := by
  have hw : s.writePage dbg v = s.barErr 3 (0x40 + 4 * b2n dbg) := if_neg (by omega)
  exact does_of_eq hw rfl ⟨get_barErr_kind s 3 _, onlyRegs_barErr s 3 _⟩

theorem windowRead_answers (dbg : Bool) (a : BitVec 19) (k : Fin 3) (h : a.toNat % 2 ^ k.val = 0) :
    Does (.windowRead dbg a k) s fun t => t = { s with readData := t.readData } ∧
      t.readData = (match s.windowAddr dbg a.toNat with | some m => s.load m (2 ^ k.val) | none => 0) := by
  refine ⟨_, rfl, ?_⟩
  change _ = { s with readData := (s.windowRead dbg a.toNat k).readData } ∧ (s.windowRead dbg a.toNat k).readData = _
  rw [windowRead, if_neg (by simpa using h)]
  cases s.windowAddr dbg a.toNat with
  | none => exact ⟨rfl, rfl⟩
  | some m => exact ⟨rfl, rfl⟩

theorem windowRead_unaligned (dbg : Bool) (a : BitVec 19) (k : Fin 3) (h : a.toNat % 2 ^ k.val ≠ 0) :
    Does (.windowRead dbg a k) s fun t => t.get R.BAR_ERR_kind = 1 ∧ OnlyRegs [R.BAR_ERR.off] s t :=
  does_of_eq (t := s.windowRead dbg a.toNat k) (if_pos h) rfl ⟨get_barErr_kind s 1 _, onlyRegs_barErr s 1 _⟩

theorem windowWrite_aligned (dbg : Bool) (a k : Nat) (v : Word) (h : a % 2 ^ k = 0) :
    s.windowWrite dbg a k v = s.windowPut dbg a (bytesLE (2 ^ k) v.toNat) :=
  if_neg (by simpa using h)

variable {s}

theorem windowWrite_shared (dbg : Bool) (a : BitVec 19) (k : Fin 3) (v : Word) (m : Nat) (h : a.toNat % 2 ^ k.val = 0)
    (hp : 0x40 ≤ s.pageOf dbg) (hm : s.windowAddr dbg a.toNat = some m) :
    Does (.windowWrite dbg a k v) s fun t => t.load m (2 ^ k.val) = v.toNat % 256 ^ 2 ^ k.val ∧
      MemOutside m (2 ^ k.val) s t ∧ t.regs = s.regs ∧ t.tiles = s.tiles := by
  have hw := (windowWrite_aligned s dbg a.toNat k v h).trans (windowPut_shared _ hm hp)
  have hmem := sharedWrite_mem s none m (bytesLE (2 ^ k.val) v.toNat)
  exact does_of_eq hw rfl ⟨load_of_stored hmem, memOutside_of_stored hmem, sharedWrite_regs s none m _,
    sharedWrite_tiles s none m _⟩

variable {dbg : Bool} {a : BitVec 19} {k : Fin 3} (v : Word) {n : Fin 64} (h : a.toNat % 2 ^ k.val = 0)
  (ha : a.toNat < 0x8000) (hn : s.pageOf dbg = n.val) (hr : dbg = true ∨ s.isRoot = true)
include h ha hn hr

theorem windowWrite_map_refused (h1 : s.st n ≠ stAsleep) (h2 : s.st n ≠ stIdle) :
    Does (.windowWrite dbg a k v) s fun t => t.get R.BAR_ERR_kind = 2 ∧ OnlyRegs [R.BAR_ERR.off] s t := by
  have hshut : ¬ ((s.st n = stAsleep ∨ s.st n = stIdle) ∧ ¬ (s.tile n).cur.energising ∧ ¬ s.walking n) :=
    fun ⟨hst, _⟩ => hst.elim h1 h2
  have hw := (windowWrite_aligned s dbg a.toNat k v h).trans ((windowPut_map _ ha hn hr).trans (if_neg hshut))
  exact does_of_eq hw rfl ⟨get_barErr_kind s 2 _, onlyRegs_barErr s 2 _⟩

theorem windowWrite_map_taken (hst : s.st n = stAsleep ∨ s.st n = stIdle) (he : (s.tile n).cur.energising = false)
    (hwalk : s.walking n = false) :
    Does (.windowWrite dbg a k v) s fun t =>
      t.load (tileSram n + a.toNat) (2 ^ k.val) = v.toNat % 256 ^ 2 ^ k.val ∧
        MemOutside (tileSram n + a.toNat) (2 ^ k.val) s t ∧ t.flag R.SD_STATUS_map_valid n = false := by
  have hopen : (s.st n = stAsleep ∨ s.st n = stIdle) ∧ ¬ (s.tile n).cur.energising ∧ ¬ s.walking n := by
    simp [hst, he, hwalk]
  have hw := (windowWrite_aligned s dbg a.toNat k v h).trans ((windowPut_map _ ha hn hr).trans (if_pos hopen))
  have hmem := mapInvalid_mem (s.setBytes (tileSram n + a.toNat) (bytesLE (2 ^ k.val) v.toNat)) n
  exact does_of_eq hw rfl ⟨load_of_stored hmem, memOutside_of_stored hmem, flag_mapInvalid _ n⟩

end

/-- Settles O39: each clause follows the write to the one register word or the bytes that it reaches. -/
theorem registerWritesFollowAccessCodes : Obligations.RegisterWritesFollowAccessCodes := by
  intro s
  exact ⟨fun _ v hp => timeCfg_takes_word hp v, fun _ v hp => wakeCause_clears_ones hp v, unmapped_write_ignored s,
    short_write_recorded s, fun off v hpe => bar2_doorbell hpe off v, fun off v a hpe => bar2_msix hpe off v a,
    bar2_other_ignored s, perst_write_ignored s, fun dbg v => ⟨page_taken s dbg v, page_refused s dbg v⟩,
    fun dbg a k => ⟨windowRead_answers s dbg a k, windowRead_unaligned s dbg a k⟩, windowWrite_shared,
    fun _ _ _ v _ h ha hn hr => windowWrite_map_refused v h ha hn hr,
    fun _ _ _ v _ h ha hn hr => windowWrite_map_taken v h ha hn hr⟩

end Sys2Proof.Machine
end

section
/-! Entry to Fault and TILE_RESET (O2). The state and the cause stand in the word of TILE_STATE, so the proof says which
functions leave bits of that word of a tile as they are. `StateBits.f` says so of `State.f`, in the model's order, and a proof
follows the function's own calls: `h.set.modTile` is the field after a `set` and a `modTile`. -/

namespace Sys2Proof.Machine

/-- Bits [hi:lo] of TILE_STATE of tile `n` are `v` (R17). -/
def StateBits (n : Fin 64) (hi lo v : Nat) (s : State) : Prop := s.get ⟨0x10004, 0x1000, 0, hi, lo⟩ n = v

/-- At no index does the field lie in the word of TILE_STATE of a tile: it is a single global field, or its offset differs from
that of TILE_STATE modulo a common divisor of the strides. -/
def Fld.besideState (f : Fld) : Bool :=
  decide (f.stride = 0 ∧ f.off < 0x10000 ∨ f.off % Nat.gcd f.stride 0x1000 ≠ 0x10004 % Nat.gcd f.stride 0x1000)

theorem add_mul_mod_of_dvd {g d : Nat} (h : g ∣ d) (x k : Nat) : (x + d * k) % g = x % g := by
  obtain ⟨c, rfl⟩ := h
  rw [Nat.mul_assoc, Nat.add_mul_mod_self_left]

theorem at_ne_of_besideState {f : Fld} (hf : f.besideState = true) (i n : Nat) : 0x10004 + 0x1000 * n ≠ f.at i := by
  intro he
  simp only [Fld.besideState, decide_eq_true_eq, Fld.at] at hf he
  rcases hf with ⟨hs, ho⟩ | hg
  · rw [hs] at he
    omega
  · exact hg <|
      calc f.off % Nat.gcd f.stride 0x1000
        _ = (f.off + f.stride * i) % Nat.gcd f.stride 0x1000 := (add_mul_mod_of_dvd (Nat.gcd_dvd_left _ _) f.off i).symm
        _ = (0x10004 + 0x1000 * n) % Nat.gcd f.stride 0x1000 := by rw [he]
        _ = 0x10004 % Nat.gcd f.stride 0x1000 := add_mul_mod_of_dvd (Nat.gcd_dvd_right _ _) 0x10004 n

namespace StateBits

protected theorem ite {n : Fin 64} {hi lo v : Nat} {c : Prop} {_ : Decidable c} {a b : State} (ha : StateBits n hi lo v a)
    (hb : StateBits n hi lo v b) : StateBits n hi lo v (if c then a else b) := by
  split <;> assumption

theorem ite_fst {n : Fin 64} {hi lo v : Nat} {α : Type} {c : Prop} {_ : Decidable c} {a b : State × α}
    (ha : StateBits n hi lo v a.1) (hb : StateBits n hi lo v b.1) : StateBits n hi lo v (if c then a else b).1 := by
  split <;> assumption

section
variable {n : Fin 64} {hi lo v : Nat} {s : State} (h : StateBits n hi lo v s)
include h

theorem of_regs {t : State} (hr : t.regs = s.regs) : StateBits n hi lo v t := by
  unfold StateBits State.get State.rd at *
  rw [hr]
  exact h

/-- An update of anything beside the registers. -/
theorem update {mem host shadows holds now tiles groups hamper usfen freeCtr readData pinFrom pinHigh hwinEvent hwinThrAt
    hwinLevel cores ps house houseArmed siteTrig feeds emus sfe lookout canopy clock spcs spt tap perst ppsOut pending} :
    StateBits n hi lo v
      { regs := s.regs, mem, host, shadows, holds, now, tiles, groups, hamper, usfen, freeCtr, readData, pinFrom, pinHigh,
        hwinEvent, hwinThrAt, hwinLevel, cores, ps, house, houseArmed, siteTrig, feeds, emus, sfe, lookout, canopy, clock,
        spcs, spt, tap, perst, ppsOut, pending } :=
  h

theorem foldl {α : Type} {f : State → α → State} {l : List α}
    (hf : ∀ t, StateBits n hi lo v t → ∀ x ∈ l, StateBits n hi lo v (f t x)) : StateBits n hi lo v (l.foldl f s) :=
  List.foldlRecOn l f h hf

/-! ### The functions of Machine/Ops.lean -/

/-- A field beside TILE_STATE: `rfl` shows `hf` of a field of the register map. -/
theorem set {f w i} (hf : f.besideState = true) : StateBits n hi lo v (s.set f w i) :=
  (State.get_set_word s f ⟨0x10004, 0x1000, 0, hi, lo⟩ w i n (at_ne_of_besideState hf i n)).trans h

/-- A field of TILE_STATE of tile `m`, outside the bits if `m` is the tile. -/
theorem setState {f w} {m : Fin 64} (hf : f.off = 0x10004 ∧ f.stride = 0x1000 ∧ f.lsb ≤ f.msb ∧ f.msb < 32)
    (hk : m ≠ n ∨ hi < f.lsb ∨ f.msb < lo) : StateBits n hi lo v (s.set f w m) := by
  obtain ⟨ho, hs, hl, hm⟩ := hf
  rcases hk with hk | hk
  · have hne : (n : Nat) ≠ m := fun e => hk (Fin.ext e.symm)
    refine (State.get_set_word _ _ _ _ _ _ ?_).trans h
    simp only [Fld.at, ho, hs]
    omega
  · exact (State.get_set_bits _ _ _ _ _ _ hl hm hk).trans h

theorem setInt {f w i} (hf : f.besideState = true) : StateBits n hi lo v (s.setInt f w i) := h.set hf

theorem setFlag {f b i} (hf : f.besideState = true) : StateBits n hi lo v (s.setFlag f b i) := h.set hf

theorem bump {f i k} (hf : f.besideState = true) : StateBits n hi lo v (s.bump f i k) := h.set hf

theorem setBit {f b on i} (hf : f.besideState = true) : StateBits n hi lo v (s.setBit f b on i) := h.set hf

theorem setMaskBit {low high k on i} (hl : low.besideState = true) (hh : high.besideState = true) :
    StateBits n hi lo v (s.setMaskBit low high k on i) :=
  .ite (h.setBit hl) (h.setBit hh)

theorem modTile {m f} : StateBits n hi lo v (s.modTile m f) := h.update

theorem modPlan {m f} : StateBits n hi lo v (s.modPlan m f) := h.modTile

theorem modCur {m f} : StateBits n hi lo v (s.modCur m f) := h.modTile

theorem modLull {m f} : StateBits n hi lo v (s.modLull m f) := h.modTile

theorem setBytes {a l} : StateBits n hi lo v (s.setBytes a l) := h.of_regs (State.setBytes_regs _ _ _)

theorem hostStore {a l} : StateBits n hi lo v (s.hostStore a l) := h.of_regs (State.hostStore_regs _ _ _)

/-! ### The functions of Machine/Post.lean -/

theorem sendVector {w} : StateBits n hi lo v (s.sendVector w) := .ite h.update h.update

theorem setPort {p q} : StateBits n hi lo v (s.setPort p q) := h.update

theorem onWire {p f} : StateBits n hi lo v (s.onWire p f) := h.update.set rfl

theorem sendNumbered {p f} : StateBits n hi lo v (s.sendNumbered p f) :=
  .ite (.ite h.setPort h.setPort.onWire) (.ite h.setPort h.setPort.onWire)

theorem sendOn {p f} : StateBits n hi lo v (s.sendOn p f) := .ite h (.ite h.onWire h.sendNumbered)

theorem flood {typ payload} : StateBits n hi lo v (s.flood typ payload) := h.foldl fun _ ht _ _ => .ite ht ht.sendOn

theorem sendRouted {typ route depth payload} : StateBits n hi lo v (s.sendRouted typ route depth payload) := by
  unfold State.sendRouted
  split
  · exact h
  · exact h.sendOn

theorem toHost {viaD addr data vec} : StateBits n hi lo v (s.toHost viaD addr data vec) := by
  unfold State.toHost
  split
  · split
    · exact h.hostStore.sendVector
    · exact h.hostStore
  · exact h.sendOn

theorem coalesce {r limit now} : StateBits n hi lo v (s.coalesce r limit now).2 := by
  unfold State.coalesce
  split <;> exact h

theorem eventToRing {e kind tile seq time payload} : StateBits n hi lo v (s.eventToRing e kind tile seq time payload) :=
  .ite h (.ite (h.set rfl).update (h.coalesce.update.set rfl).toHost)

theorem eventToMailbox {kind tile seq time payload} : StateBits n hi lo v (s.eventToMailbox kind tile seq time payload) :=
  .ite h (.ite (h.set rfl).update (h.update.set rfl))

theorem eventAt {time kind tile payload} : StateBits n hi lo v (s.eventAt time kind tile payload) := by
  unfold State.eventAt
  extract_lets _ _ _ _ s2
  have h2 : StateBits n hi lo v s2 := (StateBits.ite h.update h).update
  exact .ite h2.eventToMailbox (h2.foldl fun _ ht _ _ => ht.eventToRing)

theorem event {kind tile payload} : StateBits n hi lo v (s.event kind tile payload) := h.eventAt

theorem cplWrite {c b irq} : StateBits n hi lo v (s.cplWrite c b irq) := h.coalesce.set rfl |>.toHost

theorem cplToCq {c b irq} : StateBits n hi lo v (s.cplToCq c b irq) := .ite h (.ite (h.update.bump rfl) h.cplWrite)

theorem cplToMailbox {b} : StateBits n hi lo v (s.cplToMailbox b) := .ite h.update (h.update.set rfl)

theorem deliver {r status flags result} : StateBits n hi lo v (s.deliver r status flags result) :=
  .ite (.ite h.cplToMailbox h.cplToCq) h.sendRouted

theorem setTracks {l} : StateBits n hi lo v (s.setTracks l) := h.update.set rfl

theorem complete {r status result} : StateBits n hi lo v (s.complete r status result) := h.deliver.update.setTracks

theorem completeAt {p status result} : StateBits n hi lo v (s.completeAt p status result) :=
  h.foldl fun _ ht _ _ => ht.complete

theorem journal {j kind tile time body} : StateBits n hi lo v (s.journal j kind tile time body) :=
  .ite h (.ite (h.set rfl).update h.update)

/-! ### The functions of Machine/CoreOps.lean -/

theorem setCore {k c} : StateBits n hi lo v (s.setCore k c) := by
  unfold State.setCore
  extract_lets s1
  have h1 : StateBits n hi lo v s1 := h.update
  exact .ite (h1.set rfl |>.set rfl |>.setFlag rfl |>.setFlag rfl) h1

theorem modCore {k f} : StateBits n hi lo v (s.modCore k f) := h.setCore

theorem pendLine {k line} : StateBits n hi lo v (s.pendLine k line) := h.modCore

theorem raiseLine {m line} : StateBits n hi lo v (s.raiseLine m line) := h.pendLine

theorem raiseCanopy {line} : StateBits n hi lo v (s.raiseCanopy line) := .ite h.pendLine.pendLine h.pendLine

theorem putCoreState {m w} : StateBits n hi lo v (s.putCoreState m w) := h.set rfl |>.setMaskBit rfl rfl

theorem putInner {m w} : StateBits n hi lo v (s.putInner m w) := .ite h.modCore h.putCoreState

theorem scramble {a k} : StateBits n hi lo v (s.scramble a k) := by
  induction k generalizing s a with
  | zero => exact h
  | succ k ih => exact ih (s := s.fresh.2.setByte a _) h.update

theorem coreSleep {m} : StateBits n hi lo v (s.coreSleep m) := .ite h h.modCore.putCoreState

theorem coreWake {m} : StateBits n hi lo v (s.coreWake m) := .ite h.modCore.putCoreState h

theorem coreFault {m} : StateBits n hi lo v (s.coreFault m) := (StateBits.ite (h.set rfl).scramble.event h).putCoreState

theorem coreReset {m} : StateBits n hi lo v (s.coreReset m) := .ite h (StateBits.ite (h.setFlag rfl) h).modCore.putInner

/-! ### The functions of Machine/CurrentOps.lean -/

theorem modChop {m x f} : StateBits n hi lo v (s.modChop m x f) := h.modTile

theorem modLegs {m f} : StateBits n hi lo v (s.modLegs m f) := h.modTile

theorem putThr {m w upper lower} : StateBits n hi lo v (s.putThr m w upper lower) := by
  have hu : ∀ w : Fin 6, (R.WIN_THR_upper.nth w).besideState = true := by decide
  have hl : ∀ w : Fin 6, (R.WIN_THR_lower.nth w).besideState = true := by decide
  exact .ite h (modLegs ((h.set (hu w)).set (hl w)))

theorem putThresholds {m x} : StateBits n hi lo v (s.putThresholds m x) := .ite h h.putThr

theorem flipBank {m} : StateBits n hi lo v (s.flipBank m) := h.set rfl |>.setFlag rfl

theorem swapAtEntry {m e} : StateBits n hi lo v (s.swapAtEntry m e) := .ite h.flipBank h

theorem refreshPhase {m} : StateBits n hi lo v (s.refreshPhase m) :=
  h.swapAtEntry.set rfl |>.set rfl |>.setInt rfl |>.setInt rfl |>.putThresholds.putThresholds

theorem showLevel {m} : StateBits n hi lo v (s.showLevel m) :=
  (StateBits.ite h.modCur h).set rfl |>.set rfl |>.modCur.setFlag rfl |>.set rfl |>.refreshPhase

/-! ### The functions of Machine/Ripple.lean and Machine/Gates.lean -/

theorem setBstate {m x w} : StateBits n hi lo v (s.setBstate m x w) := .ite (h.set rfl) (h.set rfl)

theorem advanceIdx {m idx wrap size} (hi' : idx.besideState = true) (hw : wrap.besideState = true) :
    StateBits n hi lo v (s.advanceIdx m idx wrap size) := .ite (h.set hi') ((h.set hi').set hw)

theorem putEdge {m x} : StateBits n hi lo v (s.putEdge m x) := by
  have hi' : ∀ x, (State.edgeIdx x).besideState = true := by decide
  have hw : ∀ x, (State.edgeWrap x).besideState = true := by decide
  unfold State.putEdge
  extract_lets _ _ s1
  have h1 : StateBits n hi lo v s1 := .ite h h
  exact .ite (h1.setBytes.advanceIdx (hi' x) (hw x)) h1

theorem putGate {m i on} : StateBits n hi lo v (s.putGate m i on) := .ite h (h.setBit rfl).modLegs.modChop.putEdge

theorem noteBlocked {m r} : StateBits n hi lo v (s.noteBlocked m r) := by
  unfold State.noteBlocked
  extract_lets _ _ s1
  have h1 : StateBits n hi lo v s1 := h.set rfl
  exact (StateBits.ite h1.event h1).modLegs

theorem putGates {m g may} : StateBits n hi lo v (s.putGates m g may) :=
  (h.foldl fun _ ht _ _ => .ite ht ht.putGate).foldl fun _ ht _ _ => .ite ht.putGate ht

theorem applyGates {m} : StateBits n hi lo v (s.applyGates m) := .ite h h.noteBlocked.modLegs.putGates

theorem updateGates {m} : StateBits n hi lo v (s.updateGates m) := applyGates (.ite h.modLegs h)

theorem gatesLow {m} : StateBits n hi lo v (s.gatesLow m) := (h.modLegs.foldl fun _ ht _ _ => ht.putGate).setFlag rfl

theorem setPeak {m x w} : StateBits n hi lo v (s.setPeak m x w) := .ite (h.set rfl) (h.set rfl)

theorem cutPeak {m x} : StateBits n hi lo v (s.cutPeak m x) := .ite (setPeak (s := s.fresh.2) h.update) h

theorem noteLong {m x} : StateBits n hi lo v (s.noteLong m x) := .ite h (modChop (.ite (h.setFlag rfl) (h.setFlag rfl)))

theorem regulatorsOff {m} : StateBits n hi lo v (s.regulatorsOff m) :=
  h.noteLong.noteLong.cutPeak.cutPeak.setFlag rfl |>.setFlag rfl |>.setBstate.setBstate.modChop.modChop.modLegs.updateGates

theorem showTripActive {m x} : StateBits n hi lo v (s.showTripActive m x) := by
  unfold State.showTripActive
  extract_lets _ _ s1
  have h1 : StateBits n hi lo v s1 := .ite h.modLegs h
  exact .ite (h1.setFlag rfl) (h1.setFlag rfl)

theorem stopWindows {m} : StateBits n hi lo v (s.stopWindows m) := by
  unfold State.stopWindows
  extract_lets s1
  have h1 : StateBits n hi lo v s1 := h.foldl fun _ ht _ _ => .ite ht (ht.setBit rfl |>.setBit rfl).modLegs
  exact .ite h1 h1.modChop.modChop.showTripActive.showTripActive

/-! ### The functions of Machine/StoreOps.lean and Machine/Scale.lean -/

theorem psClear {b} : StateBits n hi lo v (s.psClear b) := .ite h.update (h.update.set rfl)

theorem psPlace {r cls index gen payload} : StateBits n hi lo v (s.psPlace r cls index gen payload).1 :=
  .ite_fst h.setBytes.update h

theorem psCompact {r k} : StateBits n hi lo v (s.psCompact r k) := by
  induction k generalizing s with
  | zero => exact h
  | succ k ih =>
    refine .ite (ih ?_) h
    unfold State.psCompactOne
    split
    · exact h
    · exact (h.foldl fun _ ht _ _ => ht.psPlace).psClear

theorem psWrite {cls index payload} : StateBits n hi lo v (s.psWrite cls index payload).1 := .ite_fst h h.psCompact.psPlace

theorem setGroup {k g} : StateBits n hi lo v (s.setGroup k g) := h.of_regs (by unfold State.setGroup; split <;> rfl)

theorem distributeRequest {k} : StateBits n hi lo v (s.distributeRequest k) := by
  unfold State.distributeRequest
  split
  · exact h
  · exact .ite h (.ite h (.ite h.setGroup.flood h.setGroup))

theorem scaleRequest {m} : StateBits n hi lo v (s.scaleRequest m) := by
  unfold State.scaleRequest
  split
  · exact h
  · exact .ite h (h.set rfl |>.set rfl).distributeRequest

/-! ### The functions of Machine/Budget.lean -/

theorem modSd {m f} : StateBits n hi lo v (s.modSd m f) := h.modTile

theorem modForce {m f} : StateBits n hi lo v (s.modForce m f) := h.modTile

theorem showScores {m} : StateBits n hi lo v (s.showScores m) := by
  have he : ∀ k ∈ List.range 32, (R.SD_HYP_even.nth k).besideState = true := by decide
  have ho : ∀ k ∈ List.range 32, (R.SD_HYP_odd.nth k).besideState = true := by decide
  exact h.foldl fun _ ht k hk => (ht.set (he k hk)).set (ho k hk)

theorem capRearm {m} : StateBits n hi lo v (s.capRearm m) := .ite h.modForce h

theorem putConf {m c} : StateBits n hi lo v (s.putConf m c) := modLull (.ite (h.set rfl) (h.set rfl).modSd)

theorem sundialClear {m} : StateBits n hi lo v (s.sundialClear m) :=
  h.modSd.showScores.set rfl |>.set rfl |>.putConf.set rfl |>.set rfl |>.capRearm

theorem putTemp {m r t} : StateBits n hi lo v (s.putTemp m r t) := h.modSd.set rfl |>.set rfl

theorem countGrant {on} : StateBits n hi lo v (s.countGrant on) := h.set rfl

theorem setGrant {m on} : StateBits n hi lo v (s.setGrant m on) := .ite h (h.setFlag rfl |>.setMaskBit rfl rfl).countGrant

theorem dropLoan {m} : StateBits n hi lo v (s.dropLoan m) := by
  unfold State.dropLoan
  extract_lets _ s1
  have h1 : StateBits n hi lo v s1 := h.setFlag rfl |>.set rfl |>.set rfl
  exact .ite (StateBits.ite (h1.set rfl) h1).countGrant h

theorem govTile {m} : StateBits n hi lo v (s.govTile m) := by
  unfold State.govTile
  extract_lets _ _ _ s1
  have h1 : StateBits n hi lo v s1 := .ite h (h.setMaskBit rfl rfl |>.set rfl)
  exact .ite h1 h1.setGrant

theorem syncRates {m num den} : StateBits n hi lo v (s.syncRates m num den) := h.set rfl |>.set rfl

theorem walkEnd {m result} : StateBits n hi lo v (s.walkEnd m result) := by
  unfold State.walkEnd
  extract_lets s1 kept s2 s3
  have h1 : StateBits n hi lo v s1 := h.dropLoan
  have h2 : StateBits n hi lo v s2 := by
    unfold s2
    clear_value kept
    split
    · exact .ite h1 h1.putTemp
    · exact h1
  have h3 : StateBits n hi lo v s3 := h2.modSd.setFlag rfl
  exact (StateBits.ite (h3.set rfl) h3).set rfl |>.set rfl |>.govTile

theorem walkAbort {m} : StateBits n hi lo v (s.walkAbort m) := .ite h.modPlan.syncRates.walkEnd h

theorem endLoan {m} : StateBits n hi lo v (s.endLoan m) := h.foldl fun _ ht _ _ => .ite ht.dropLoan.sundialClear ht

theorem putCapV {m w} : StateBits n hi lo v (s.putCapV m w) := h.set rfl |>.scaleRequest

theorem applyCeil {m old new} : StateBits n hi lo v (s.applyCeil m old new) := by
  unfold State.applyCeil
  extract_lets
  split
  · exact h.modPlan.modForce.putCapV
  · split
    · split
      · exact h
      · exact h.modPlan.putCapV
    · exact h

theorem budgetCeil {m} : StateBits n hi lo v (s.budgetCeil m) := by
  unfold State.budgetCeil
  extract_lets _ _ _ _ _ _ _ _ s3
  have h3 : StateBits n hi lo v s3 := h.setFlag rfl |>.setFlag rfl |>.setFlag rfl |>.setFlag rfl |>.set rfl
  exact .ite h3 h3.applyCeil

theorem putProf {m i mean count} : StateBits n hi lo v (s.putProf m i mean count) := h.modForce

theorem setLearning {m dir b} : StateBits n hi lo v (s.setLearning m dir b) := .ite (h.setFlag rfl) (h.setFlag rfl)

theorem setLearned {m dir b} : StateBits n hi lo v (s.setLearned m dir b) := .ite (h.setFlag rfl) (h.setFlag rfl)

theorem fbEvent {m f kind payload} (hf : f.besideState = true) :
    StateBits n hi lo v (s.fbEvent m f kind payload) := (h.setFlag hf).raiseLine.event

theorem commitProfile {m} : StateBits n hi lo v (s.commitProfile m) := h.psWrite.modForce

theorem referenceEnd {m dir start status} : StateBits n hi lo v (s.referenceEnd m dir start status) :=
  .ite ((h.foldl fun _ ht _ _ => .ite ht.putProf ht.putProf).setLearning.setLearned.setFlag rfl |>.set rfl
    |>.fbEvent rfl).commitProfile (h.fbEvent rfl)

theorem adaptProfile {m dir} : StateBits n hi lo v (s.adaptProfile m dir) := by
  unfold State.adaptProfile
  exact (h.foldl fun _ ht _ _ => .ite ht.putProf ht).modForce

theorem budgetOnRetire {m status ptr dir} : StateBits n hi lo v (s.budgetOnRetire m status ptr dir) := by
  unfold State.budgetOnRetire
  extract_lets _ s1 _ s2
  have h1 : StateBits n hi lo v s1 := by
    unfold s1
    split
    · exact h.referenceEnd
    · split
      · exact .ite h.adaptProfile h
      · exact h
  have h2 : StateBits n hi lo v s2 := h1.modForce
  exact (StateBits.ite h2 (h2.set rfl |>.setFlag rfl |>.setFlag rfl)).budgetCeil

theorem budgetStopped {m} : StateBits n hi lo v (s.budgetStopped m) := h.modForce.modSd.set rfl |>.setFlag rfl |>.setFlag rfl

/-! ### The functions of Machine/TileBase.lean -/

theorem showLowPower {m} : StateBits n hi lo v (s.showLowPower m) := h.setFlag rfl |>.stopWindows

theorem showPush {m} : StateBits n hi lo v (s.showPush m) :=
  .ite (h.setFlag rfl |>.putThr.set rfl |>.set rfl |>.set rfl |>.setFlag rfl) (h.setFlag rfl)

theorem wantCheckpoint {cause} : StateBits n hi lo v (s.wantCheckpoint cause) :=
  .ite h (.ite h (.ite h (StateBits.ite h.raiseCanopy h).update))

theorem homeRetired {m ptr g status x time} (hk : m ≠ n ∨ hi < 9 ∨ 23 < lo) :
    StateBits n hi lo v (s.homeRetired m ptr g status x time) := by
  unfold State.homeRetired
  extract_lets _ _ _ _ s3
  have h3 : StateBits n hi lo v s3 := h.set rfl |>.set rfl |>.set rfl |>.setFlag rfl |>.setState (by decide)
    (hk.imp_right (by dsimp only; omega))
  exact (StateBits.ite (h3.setFlag rfl) h3).eventAt

/-! ### The functions of Machine/TileOps.lean -/

theorem onEnter {m new} : StateBits n hi lo v (s.onEnter m new) := by
  unfold State.onEnter
  extract_lets _ s1 s2 s3 _ s5
  have h1 : StateBits n hi lo v s1 := h.modCur
  have h2 : StateBits n hi lo v s2 := .ite h1.sundialClear h1
  have h3 : StateBits n hi lo v s3 := .ite h2 h2.modCur.regulatorsOff
  have h5 : StateBits n hi lo v s5 := (StateBits.ite h3.coreSleep (.ite h3.coreFault h3.coreWake)).showLowPower.showPush
  exact (StateBits.ite (h5.modTile.setFlag rfl) h5).showLevel

omit h in
/-- Behind the write of the new state a transition leaves TILE_STATE as it is. -/
theorem goState_of_set {m new time}
    (h : StateBits n hi lo v ((s.set R.TILE_STATE_prev_state (s.st m) m).set R.TILE_STATE_state new m)) :
    StateBits n hi lo v (s.goState m new time) := by
  unfold State.goState
  extract_lets _ _ s2 s3
  have h2 : StateBits n hi lo v s2 := h.onEnter.govTile.raiseLine
  have h3 : StateBits n hi lo v s3 := .ite h2.endLoan h2
  exact (StateBits.ite h3.raiseLine.raiseCanopy (.ite h3.raiseCanopy h3)).eventAt

theorem goState {m new time} (hk : m ≠ n ∨ 6 < lo) : StateBits n hi lo v (s.goState m new time) :=
  goState_of_set ((h.setState (by decide) (hk.imp_right .inr)).setState (by decide) (hk.imp_right (by dsimp only; omega)))

omit h in
theorem goState_state {new time} (hn : new < 8) : StateBits n 2 0 new (s.goState n new time) :=
  goState_of_set ((State.get_set_same _ _ _ _ (by decide) (by decide)).trans (Nat.mod_eq_of_lt hn))

theorem freeze {m} (hk : m ≠ n ∨ hi < 9 ∨ 23 < lo) : StateBits n hi lo v (s.freeze m) :=
  h.setState (by decide) (hk.imp_right (by dsimp only; omega))

theorem needHoming {m} (hk : m ≠ n ∨ hi < 9 ∨ 23 < lo) : StateBits n hi lo v (s.needHoming m) :=
  h.setState (by decide) (hk.imp_right (by dsimp only; omega))

theorem movesDone {k g} : StateBits n hi lo v (s.movesDone k g) := by
  unfold State.movesDone
  extract_lets
  refine h.setGroup.foldl fun _ ht _ _ => ?_
  split
  · exact ht.complete
  · exact ht

theorem memberEnded {m seq status ran} : StateBits n hi lo v (s.memberEnded m seq status ran) := by
  unfold State.memberEnded
  extract_lets
  split
  · exact h
  · exact h.movesDone

theorem retireEvent {m status ptr g time} : StateBits n hi lo v (s.retireEvent m status ptr g time) := by
  unfold State.retireEvent
  extract_lets s1
  have h1 : StateBits n hi lo v s1 := .ite h.eventAt h
  exact .ite h1.wantCheckpoint h1

theorem retireStarted {m status x time} : StateBits n hi lo v (s.retireStarted m status x time) := by
  unfold State.retireStarted
  extract_lets s1
  have h1 : StateBits n hi lo v s1 := h.modCur.budgetOnRetire
  exact .ite h1.journal h1

theorem noteEmpty {m} : StateBits n hi lo v (s.noteEmpty m) := .ite h.modCur h

theorem retire {m status e time} (hk : m ≠ n ∨ hi < 9 ∨ 23 < lo) : StateBits n hi lo v (s.retire m status e time) := by
  unfold State.retire
  extract_lets _ _ _ _ _ s4 s5 s6 _ s8
  have h4 : StateBits n hi lo v s4 := h.set rfl |>.set rfl |>.set rfl |>.raiseLine.modPlan.noteEmpty.retireEvent
  have h5 : StateBits n hi lo v s5 := by
    unfold s5
    split
    · exact h4.retireStarted
    · exact h4
  have h6 : StateBits n hi lo v s6 := .ite (h5.homeRetired hk) h5
  have h8 : StateBits n hi lo v s8 := (StateBits.ite (h6.setFlag rfl) h6).completeAt
  exact .ite h8.memberEnded h8

theorem flushWaiting {m k} (hk : m ≠ n ∨ hi < 9 ∨ 23 < lo) : StateBits n hi lo v (s.flushWaiting m k) := by
  induction k generalizing s with
  | zero => exact h
  | succ k ih => exact .ite h (ih (h.retire hk))

theorem cutOff {m status} (hk : m ≠ n ∨ hi < 9 ∨ 23 < lo) : StateBits n hi lo v (s.cutOff m status) := by
  unfold State.cutOff
  extract_lets cut s1
  have h1 : StateBits n hi lo v s1 := h.modPlan.syncRates
  clear_value cut
  split
  · exact h1
  · exact .ite (.ite (h1.modPlan.set rfl |>.setFlag rfl) h1.modPlan) (h1.retire hk)

theorem rechoose {m} : StateBits n hi lo v (s.rechoose m) := .ite (.ite (.ite h h.modLull) (h.gatesLow.setFlag rfl).modLull) h

theorem gateOff {m} : StateBits n hi lo v (s.gateOff m) :=
  .ite h.rechoose (h.gatesLow.setFlag rfl |>.setFlag rfl |>.setMaskBit rfl rfl).modLull

/-- Another tile enters Lull, or the tile itself stands in Fault (R27). -/
theorem enterLullCore {m} (hf : m = n → s.st n = stFault) : StateBits n hi lo v (s.enterLullCore m) := by
  by_cases hm : m = n
  · have hs : s.enterLullCore m = s := if_pos (.inr (hm ▸ hf hm))
    rw [hs]
    exact h
  · unfold State.enterLullCore
    extract_lets _ _ _ _ s4 _ s6
    have h4 : StateBits n hi lo v s4 := (h.modLull.walkAbort.cutOff (.inl hm)).budgetStopped.freeze (.inl hm)
    have h6 : StateBits n hi lo v s6 := (h4.goState (.inl hm)).gateOff
    exact .ite h (.ite (h6.setFlag rfl) h6)

theorem latchLull {m b} (hf : StateBits n 2 0 stFault s) (hk : hi < 9 ∨ 23 < lo) :
    StateBits n hi lo v (s.latchLull m b) := by
  have hl : ∀ {hi lo v}, StateBits n hi lo v s → hi < 9 ∨ 23 < lo → StateBits n hi lo v
      ((if s.fbit R.TILE_STATE_lull_source b m then s else s.raiseLine m 10).setBit R.TILE_STATE_lull_source b true m) :=
    fun h hk => (StateBits.ite h h.raiseLine).setState (by decide) (.inr (by dsimp only; omega))
  exact ((hl h hk).enterLullCore fun _ => hl hf (.inl (by decide))).rechoose

theorem dropCmds {k} : StateBits n hi lo v (s.dropCmds k) := by
  unfold State.dropCmds
  split
  · exact h
  · extract_lets
    refine h.setGroup.foldl fun _ ht _ _ => ?_
    split
    · exact ht.complete
    · exact ht

/-- A group alarm leaves a member that stands in Fault there (R27, R105). -/
theorem raiseGroupAlarm {k cause origin} (hf : StateBits n 2 0 stFault s) (hk : hi < 9 ∨ 23 < lo) :
    StateBits n hi lo v (s.raiseGroupAlarm k cause origin) := by
  unfold State.raiseGroupAlarm
  split
  · exact h
  · refine (List.foldlRecOn (motive := fun t => StateBits n 2 0 stFault t ∧ StateBits n hi lo v t) _ _
      ⟨hf.setGroup.dropCmds.flood, h.setGroup.dropCmds.flood⟩ fun t ht m _ => ?_).2
    obtain ⟨htf, ht⟩ := ht
    exact ⟨htf.modLull.latchLull htf.modLull (.inl (by decide)), ht.modLull.latchLull htf.modLull hk⟩

theorem memberAlarm {m cause} (hf : StateBits n 2 0 stFault s) (hk : hi < 9 ∨ 23 < lo) :
    StateBits n hi lo v (s.memberAlarm m cause) := .ite (h.raiseGroupAlarm hf hk) h

/-! ### The functions of Machine/TileState.lean -/

theorem flushLater {m} : StateBits n hi lo v (s.flushLater m) := h.modPlan

theorem releaseGates {m} : StateBits n hi lo v (s.releaseGates m) := by
  unfold State.releaseGates
  extract_lets s1 s2
  have h2 : StateBits n hi lo v s2 := h.setFlag rfl |>.modLull
  exact .ite h2 (h2.gatesLow.setFlag rfl |>.setMaskBit rfl rfl)

end

end StateBits

namespace State
open StateBits

variable (s : State) (n : Fin 64)

theorem stateBits_setCause {cause : Nat} (hc : cause < 256) :
    StateBits n 31 24 cause (s.set R.TILE_STATE_fault_cause cause n) :=
  (get_set_same _ _ _ _ (by decide) (by decide)).trans (Nat.mod_eq_of_lt hc)

theorem stateBits_needHoming : StateBits n 11 11 1 (s.needHoming n) := get_set_same _ _ _ _ (by decide) (by decide)

/-- Entry to Fault (R19, R22). -/
theorem tileFault_latches {cause : Nat} (hc : cause < 256) (h : s.st n ≠ stFault) :
    (s.tileFault n cause).st n = stFault ∧ (s.tileFault n cause).get R.TILE_STATE_fault_cause n = cause := by
  unfold tileFault
  rw [if_neg h]
  extract_lets s1 s2 s3 s4 s5 s6 s7
  have hcause : StateBits n 31 24 cause s4 := (stateBits_setCause (s2.freeze n) n hc).modLull
  have hst6 : StateBits n 2 0 stFault s6 := (goState_state (by decide)).gateOff
  have hcause6 : StateBits n 31 24 cause s6 := (hcause.goState (.inr (by decide))).gateOff
  have hst7 : StateBits n 2 0 stFault s7 := .ite hst6.journal hst6
  have hcause7 : StateBits n 31 24 cause s7 := .ite hcause6.journal hcause6
  exact ⟨hst7.memberAlarm hst7 (.inl (by decide)), hcause7.memberAlarm hst7 (.inr (by decide))⟩

variable {s n} (hf : s.st n = stFault) (hl : s.get R.TILE_STATE_lull_source n = 0)
include hf hl

/-- TILE_RESET in Fault clears the cause and stands in Fault until the self-check decides (R691). -/
theorem tileResetOf_of_fault (pass : Bool) : ∃ t, StateBits n 2 0 stFault t ∧ StateBits n 31 24 0 t ∧
    s.tileResetOf n pass = if pass then ((t.releaseGates n).needHoming n).goState n stIdle t.now
      else t.set R.TILE_STATE_fault_cause 0x03 n := by
  unfold tileResetOf
  rw [if_neg fun hc => hc.2 hl]
  extract_lets s1 s2 s3 s4
  have hkeep : ∀ {hi lo v}, StateBits n hi lo v s1 → hi < 9 ∨ 23 < lo → StateBits n hi lo v s4 := fun {hi lo v} h hk => by
    have h2 : StateBits n hi lo v s2 := .ite h.flushLater (h.flushWaiting (.inr hk))
    exact h2.set rfl |>.set rfl |>.putThresholds.putThresholds.sundialClear.coreReset
  have hst1 : StateBits n 2 0 stFault s1 := setState hf (by decide) (.inr (by decide))
  have hst : StateBits n 2 0 stFault s4 := hkeep hst1 (.inl (by decide))
  exact ⟨s4, hst, hkeep (stateBits_setCause s n (by decide)) (.inr (by decide)), if_pos hst⟩

theorem tileResetOf_pass : (s.tileResetOf n true).st n = stIdle ∧
    (s.tileResetOf n true).get R.TILE_STATE_fault_cause n = 0 ∧
    (s.tileResetOf n true).get R.TILE_STATE_homing_required n = 1 := by
  obtain ⟨t, -, hcause, ht⟩ := tileResetOf_of_fault hf hl true
  rw [ht, if_pos rfl]
  exact ⟨goState_state (by decide), (hcause.releaseGates.needHoming (.inr (.inr (by decide)))).goState (.inr (by decide)),
    (stateBits_needHoming (t.releaseGates n) n).goState (.inr (by decide))⟩

theorem tileResetOf_fail : (s.tileResetOf n false).st n = stFault ∧
    (s.tileResetOf n false).get R.TILE_STATE_fault_cause n = 0x03 := by
  obtain ⟨t, hst, -, ht⟩ := tileResetOf_of_fault hf hl false
  rw [ht, if_neg Bool.false_ne_true]
  exact ⟨hst.setState (by decide) (.inr (by decide)), stateBits_setCause t n (by decide)⟩

end State
open State

/-- Settles O2: what follows the write of the new state and its cause leaves those bits of TILE_STATE (`StateBits`). -/
theorem faultsLatchTheirCause : Obligations.FaultsLatchTheirCause := by
  intro n s
  exact ⟨fun h => ⟨⟨_, rfl, tileFault_latches s n (by decide) h⟩, ⟨_, rfl, tileFault_latches s n (by decide) h⟩⟩,
    fun hf hl => ⟨⟨_, rfl, tileResetOf_pass hf hl⟩, ⟨_, rfl, tileResetOf_fail hf hl⟩⟩⟩

end Sys2Proof.Machine
end
section
/-! The planner, trail, tile interface and descriptor statements (O3, O4, O5, O25, O44), each refuted by a state that one of its
clauses admits.

O25 and O44 fail within what the spec itself has a tile do: placing a segment energises an Idle tile, whose gates the ripple
buffer then logs, and a tracked TIME_SET answers ACCEPTED before it waits.

O3, O4 and O5 fail for want of a premise. Their clauses quantify over every state, and so over commands whose completion queue
is not one of the 64 (`CmdRef.cq` is a `Nat`). CQ_TAIL is the word 0x5014 + 0x20 · c, so for c = 1408 it is the word 0x10014,
TRAIL_PTR of tile 0, and the completion of such a command, which advances CQ_TAIL, moves the head or the tail of the trail once
more than the clause allows. No queue that SQ_CFG binds can name this CQ: with the premise that every command held or tracked
names a CQ below 64 these states are excluded. -/

namespace Sys2Proof.Machine

/-- What an instruction does holds of the state it leaves. -/
theorem Does.of_exec {c : Instr} {s t : State} {P : State → Prop} (h : Does c s P) (hc : exec c s = .next t) : P t := by
  obtain ⟨u, hu, hP⟩ := h
  obtain rfl := Host.Outcome.next.inj (hc.symm.trans hu)
  exact hP

end Sys2Proof.Machine

namespace Sys2Proof.Machine.Refuted

/-! ### A completion queue whose registers are those of tile 0 -/

/-- The CQ index whose CQ_TAIL is TRAIL_PTR of tile 0. -/
def strayCq : Nat := 1408

/-- A command of this device, not tracked by its flag, that completes to `strayCq`. -/
def strayRef : CmdRef :=
  { own := true, srcRoute := 0, srcDepth := 0, sq := 0, tag := 7, cq := strayCq, irq := false, track := false }

/-- The reset state with tile 0 in TILE_STATE.state `st` and `strayCq` running. -/
def strayRuns (st : Nat) : State := (State.reset.set R.TILE_STATE_state st 0).set R.CQ_STATUS_state 1 strayCq

/-- A segment of `type` whose second word, the ticks of a DWELL, is `w1`. -/
def segmentOf (type w1 : Nat) : Seg := ⟨type, w1, 3, 0x4000000, 0x0FFFFFFF, 0xFFFFFFFF, 0, 0⟩

/-- The command of `strayRef` waits for the retirement of tile 0's segment at `ptr`. -/
def strayWaits (ptr : Nat) (s : State) : State :=
  { s with hamper := { s.hamper with tracks := [{ ref := strayRef, point := .segment 0 ptr }] } }

/-! ### O3: a DWELL retires and its completion moves the head -/

/-- A DWELL of 100 ticks that has run them all. -/
def ranDwell : Exec := { State.reset.newExec 0 (segmentOf 4 100) 0 with ticks := 100 }

/-- Tile 0 executes `ranDwell`, the segment at pointer 0 of a trail of two. -/
def dwelling : State :=
  strayWaits 0 (((strayRuns stMoving).set R.TRAIL_PTR_tail 2 0).modPlan 0 fun p => { p with exec := some ranDwell })

theorem dwelling_meets : (dwelling.plan 0).exec = some ranDwell ∧ segType ranDwell.seg = 4 ∧ ranDwell.stop = Stopping.none ∧
    ranDwell.seg.w1 ≤ ranDwell.ticks := by
  decide +kernel

theorem head_dwellEndOf_dwelling : (dwelling.dwellEndOf 0).head 0 = 2 ∧ dwelling.head 0 = 0 := by
  decide +kernel

/-- Refutes O3: the clause for the DWELL. The segment's completion, to the CQ at TRAIL_PTR, moves the head a second time. -/
theorem not_plannerRunsSegments : ¬ Obligations.PlannerRunsSegments := by
  intro h
  obtain ⟨-, -, hdwell, -⟩ := h 0 dwelling
  obtain ⟨hexec, htype, hstop, hticks⟩ := dwelling_meets
  obtain ⟨-, hhead, -⟩ := (hdwell ranDwell hexec htype hstop hticks).of_exec (t := dwelling.dwellEndOf 0) rfl
  obtain ⟨hafter, hbefore⟩ := head_dwellEndOf_dwelling
  rw [hafter, hbefore] at hhead
  exact absurd hhead (by decide)

/-! ### O4: FLUSH retires the one waiting segment and its completion moves the head past the tail -/

/-- Tile 0 holds, with one segment, at pointer 1, in its trail. -/
def oneWaits : State :=
  strayWaits 1 ((((strayRuns stHolding).setBytes (slotAddr 0 1) (segBytes (segmentOf 1 100))).set R.TRAIL_PTR_head 1 0).set
    R.TRAIL_PTR_tail 2 0)

theorem oneWaits_meets : oneWaits.runsGroup 0 = false ∧ oneWaits.walking 0 = false ∧ (oneWaits.plan 0).handover = false ∧
    oneWaits.st 0 ≠ stMoving ∧ oneWaits.trailCount 0 ≤ 1024 ∧ oneWaits.placedNow 0 = 0 := by
  decide +kernel

theorem trailCount_flush_oneWaits : (oneWaits.trailCmd 0 3).2.trailCount 0 = 2047 := by
  decide +kernel

/-- Refutes O4: the clause for FLUSH. The segment's completion, to the CQ at TRAIL_PTR, moves the head past the tail. -/
theorem not_trailCommandsAct : ¬ Obligations.TrailCommandsAct := by
  intro h
  obtain ⟨hgroup, hwalk, hjoint, hst, hcount, hplaced⟩ := oneWaits_meets
  obtain ⟨-, -, hflush, -⟩ := h 0 oneWaits ⟨hgroup, hwalk, hjoint⟩
  have hempty := (hflush hst hcount hplaced).of_exec (t := (oneWaits.trailCmd 0 3).2) rfl
  exact absurd (trailCount_flush_oneWaits.symm.trans hempty) (by decide)

/-! ### O5: a held segment is placed and its completion moves the tail -/

/-- A SEGMENT descriptor for tile 0, a MOVE_ABS, of the command `strayRef`. -/
def heldMove : Desc := ⟨strayRef, 0, List.replicate 32 0 ++ segBytes (segmentOf 1 100), []⟩

/-- Tile 0 holds, with one segment in its trail and `heldMove` held. -/
def heldBehind : State :=
  let s := (strayRuns stHolding).set R.TRAIL_PTR_tail 1 0
  { s with hamper := { s.hamper with heldSegs := [heldMove] } }

theorem heldBehind_meets : (heldBehind.hamper.heldGroup.any fun h => decide (h.1 = (0 : Fin 64).val)) = false ∧
    (heldBehind.hamper.heldSegs.find? fun (d : Desc) => decide (d.tile = 0)) = some heldMove ∧
    heldBehind.trailCount 0 < 1024 := by
  decide +kernel

theorem tail_heldPlaceOf_heldBehind : (heldBehind.heldPlaceOf 0).tail 0 = 3 ∧ heldBehind.tail 0 = 1 := by
  decide +kernel

/-- Refutes O5: the clause for the held segment. Its completion, to the CQ at TRAIL_PTR, moves the tail a second time. -/
theorem not_plannerWritesLand : ¬ Obligations.PlannerWritesLand := by
  intro h
  obtain ⟨-, -, -, -, -, hheld⟩ := h 0 heldBehind
  obtain ⟨hgroup, hfind, hroom⟩ := heldBehind_meets
  obtain ⟨htail, -⟩ := (hheld heldMove hgroup hfind hroom).of_exec (t := heldBehind.heldPlaceOf 0) rfl
  obtain ⟨hafter, hbefore⟩ := tail_heldPlaceOf_heldBehind
  rw [hafter, hbefore] at htail
  exact absurd htail (by decide)

/-! ### O25: TI_PLACE on an Idle tile logs a gate edge -/

/-- A DWELL of 100 ticks, as the core of tile 0 writes it into its segment words. -/
def dwellWords : Seg := ⟨4, 100, 0, 0, 0, 0, 0, 0⟩

/-- Tile 0 in Idle after a Dawn, with nothing in the way of energising, its ripple buffer on and a gate on by LEG_OVR (R259). -/
def overridden : State :=
  let s := State.reset.set R.DAWN_STATUS_stage 5
  let s := { s with lookout := { s.lookout with dawnCause := none }, now := 5000000 }
  let s := (s.set R.TILE_STATE_state stIdle 0).setFlag R.ADC_REF_f_settled true 0
  let s := (s.setFlag R.CUR_STATUS_scale_invalid false 0).setFlag R.RIPPLE_CTL_enable true 0
  let s := ((s.setFlag R.LEG_OVR_enable true 0).set R.LEG_OVR_gates 1 0).set R.LEG_STATUS_gates 1 0
  s.modCore 0 fun c => { c with seg := #v[4, 100, 0, 0, 0, 0, 0, 0] }

/-- The fifth byte of the first edge that the ripple buffer of tile 0, phase A, keeps (R151). -/
def firstEdge : Nat := State.rippleBase 0 0 + 0x3804

theorem overridden_meets : segType dwellWords ≠ 6 ∧ overridden.segLegal 0 dwellWords = true ∧ overridden.trailCount 0 < 1024 := by
  decide +kernel

theorem firstEdge_lt_slot : firstEdge < slotAddr 0 (overridden.tail 0) := by
  decide +kernel

theorem byte_firstEdge_tiPlace : (overridden.tiPlace 0).byte firstEdge ≠ overridden.byte firstEdge := by
  decide +kernel

/-- Refutes O25: the clause for TI_PLACE. On a tile in Idle the placement begins to energise (R22), which turns off a gate that
LEG_OVR had on, and the ripple buffer's record of that edge (R151) is a byte outside the slot that changes. -/
theorem not_tileInterfaceActs : ¬ Obligations.TileInterfaceActs := by
  intro h
  obtain ⟨hplace, -⟩ := h 0 overridden
  obtain ⟨htype, hlegal, hroom⟩ := overridden_meets
  obtain ⟨-, -, hmem⟩ := (hplace dwellWords (by decide +kernel) htype hlegal hroom).of_exec (t := overridden.tiPlace 0) rfl
  exact byte_firstEdge_tiPlace (hmem firstEdge (.inl firstEdge_lt_slot))

/-! ### O44: a tracked TIME_SET answers ACCEPTED before it waits for its pulse -/

/-- The master with the mailbox as its host. -/
def mailMaster : State := (State.reset.set R.HAMPER_CTL_host 2).set R.TIME_STATUS_state 1

/-- A tracked TIME_SET to 0 ns at the next pulse: byte 0x28 is 1. -/
def timeSetAtPps : Desc :=
  { ref := { own := true, srcRoute := 0, srcDepth := 0, sq := 0, tag := 7, cq := 0, irq := false, track := true }
    tile := 0, slot := List.replicate 0x28 0 ++ [1] ++ List.replicate 23 0, ext := [] }

theorem timeSetAtPps_meets : mailMaster.isMaster = true ∧ mailMaster.stepPending = false ∧
    fieldLE timeSetAtPps.slot 0x28 1 = 1 := by
  decide +kernel

theorem length_cplFifo_timeSetAtPps : (mailMaster.timeSetDesc timeSetAtPps).hamper.cplFifo.length = 1 ∧
    mailMaster.hamper.cplFifo.length = 0 := by
  decide +kernel

/-- Refutes O44: the clause for a TIME_SET that waits for its pulse. A tracked one gives its ACCEPTED completion (R469), so more
changes than the clock. -/
theorem not_descriptorsActAndAnswer : ¬ Obligations.DescriptorsActAndAnswer := by
  intro h
  obtain ⟨-, -, -, -, -, -, -, -, -, -, -, -, -, -, -, -, hwaits⟩ := h mailMaster timeSetAtPps
  obtain ⟨hmaster, hpending, hpps⟩ := timeSetAtPps_meets
  obtain ⟨-, honly⟩ := (hwaits hmaster hpending hpps).of_exec (t := mailMaster.timeSetDesc timeSetAtPps) rfl
  obtain ⟨hafter, hbefore⟩ := length_cplFifo_timeSetAtPps
  have hsame := congrArg (fun s : State => s.hamper.cplFifo.length) honly
  exact absurd (hafter.symm.trans (hsame.trans hbefore)) (by decide)

end Sys2Proof.Machine.Refuted
end

section
/-! The homing statement (O16), refuted by a state that its settle clause admits and that the model's own RESUME_RETRY leaves.

The clause counts the settle of RESTORE from the start of the segment, `Exec.startTime`. A HOME segment that Lull cuts off under
lull_retry keeps that time, and RESUME_RETRY restarts its method from the first step (R77, R248), which holds for settle anew
(R238): `HomeRun.began` is the time of that step, and the model counts from there. -/

namespace Sys2Proof.Machine.Refuted

/-- A RESTORE as it is cut off in its confirm phase, started at site time 0. -/
def cutOffRestore : Exec :=
  let e := State.reset.newExec 0 ⟨5, 6 * 2 ^ 28, 0, 0, 0, 0, 0, 0⟩ 0
  { e with target := some 0, home := { e.home with phase := .confirm } }

/-- At 5 ms tile 0 is back in Holding with `cutOffRestore` held and RESUME_RETRY given. The checkpoint that it confirms is
certain, the confidence is full and homing is required. -/
def retryGiven : State :=
  let s := { State.reset with now := 5000000 }.set R.TILE_STATE_state stHolding 0
  let s := (s.set R.RESTORE_UNC_unc 0 0).set R.SD_CONF_conf 255 0
  (s.needHoming 0).modPlan 0 fun p => { p with held := some cutOffRestore, retry := true }

/-- SEGMENT_START in `retryGiven`: the method restarts on the tick in force. -/
def restoreResumed : State := retryGiven.startDue 0 retryGiven.tickStart

/-- The segment as `restoreResumed` executes it: started at 0, its first step begun at 5 ms. -/
def resumedRestore : Exec :=
  { cutOffRestore with home := { cutOffRestore.home with began := 5000000 } }

theorem exec_restoreResumed : (restoreResumed.plan 0).exec = some resumedRestore := by
  decide +kernel

theorem phase_resumedRestore : resumedRestore.home.phase = .confirm := by
  decide +kernel

theorem homeWaits_restoreResumed : restoreResumed.homeWaits 0 = some resumedRestore := by
  simp only [State.homeWaits, exec_restoreResumed]
  exact if_pos (by decide +kernel)

/-- The settle of 2 ms has passed since the start of the segment, and not since its first step. -/
theorem settle_restoreResumed :
    resumedRestore.startTime + 100000 * restoreResumed.get R.TILE_TIMEOUTS_settle (0 : Fin 64) ≤ restoreResumed.tickEnd ∧
    restoreResumed.tickEnd < resumedRestore.home.began + 100000 * restoreResumed.get R.TILE_TIMEOUTS_settle (0 : Fin 64) := by
  decide +kernel

theorem conf_restoreResumed :
    restoreResumed.get R.SD_STALL2_pos_conf (0 : Fin 64) ≤ restoreResumed.get R.SD_CONF_conf (0 : Fin 64) := by
  decide +kernel

theorem homing_required_restoreResumed : restoreResumed.flag R.TILE_STATE_homing_required (0 : Fin 64) = true := by
  decide +kernel

/-- A RESTORE in its settle goes on holding: HOME_SETTLE_END changes nothing. -/
theorem exec_homeSettleEnd_of_tickEnd_lt {s : State} {n : Fin 64} {e : Exec} (he : s.homeWaits n = some e)
    (ht : s.tickEnd < e.home.began + 100000 * s.get R.TILE_TIMEOUTS_settle n) : exec (.homeSettleEnd n) s = .next s := by
  have hstays : s.homeSettled n = s := by
    simp only [State.homeSettled, he]
    exact if_pos (.inr ht)
  exact congrArg Host.Outcome.next hstays

/-- Refutes O16: the clause for the settle of RESTORE. A method that RESUME_RETRY restarted is still in its settle when the settle
since the segment's start has passed, and homing stays required. -/
theorem not_homingPhasesEnd : ¬ Obligations.HomingPhasesEnd := by
  intro h
  obtain ⟨-, -, hsettle, -⟩ := h 0 restoreResumed
  obtain ⟨hstart, hbegan⟩ := settle_restoreResumed
  obtain ⟨-, -, -, hcleared⟩ :=
    (hsettle resumedRestore homeWaits_restoreResumed phase_resumedRestore hstart conf_restoreResumed).of_exec
      (exec_homeSettleEnd_of_tickEnd_lt homeWaits_restoreResumed hbegan)
  exact absurd (hcleared.symm.trans homing_required_restoreResumed) (by decide)

end Sys2Proof.Machine.Refuted
end

section
/-! The statements on trips (O7), on the release of Lull sources (O8) and on halts and the test access port (O41), each refuted by
a state that one of its clauses admits.

O41 fails by the spec's own rule. EXTEST lets the interlock act on the values of the scan cells (R263), and a leg whose request
has just named both gates turns neither on until its dead time has passed (R252); the clause asks for the gate at once.

O8 fails for want of a premise on the group. The clause for the alarm source asks that no alarm of the tile's own group or
domains is asserted, but a release brings every domain up to date: another member of the group that stands in an asserted domain
and is not in Lull enters it (R499), and its group alarm sets the bit again on every member (R105). With the premise that every
tile of an asserted domain is in Lull or Fault this state is excluded.

O7 fails for want of the premise that O3, O4 and O5 lack: a command held or tracked may name a completion queue that is not one
of the 64. For c = 642 the word CQ_TAIL is TRIP_ROUTE_HI of pin 2, and a completion that advances it changes the pin's route while
its trip is going through the tiles. With the premise that every such command names a CQ below 64 this state is excluded. -/

-- The kernel evaluates whole commands here: one after the other they need less memory.
set_option Elab.async false

namespace Sys2Proof.Machine.Refuted

/-! ### O7: a completion changes the route of the pin that trips -/

/-- The CQ index whose CQ_TAIL is TRIP_ROUTE_HI of pin 2. -/
def routeCq : Nat := 642

/-- Pin 2 is enabled, active low, and routed to tiles 32 and 33. Tile 32 executes a segment, and the command that waits for its
retirement completes to `routeCq`, which runs and has space. -/
def strayRouted : State :=
  let s := (State.reset.set R.CQ_STATUS_state 1 routeCq).set R.CQ_CFG_size_log2 3 routeCq
  let s := (s.set R.TRIP_ROUTE_LO_tiles_lo 0 2).set R.TRIP_ROUTE_HI_tiles_hi 3 2
  let s := s.setFlag R.TRIP_CFG_enable true 2
  let s := (s.set R.TILE_STATE_state stMoving 32).modPlan 32 fun p => { p with exec := some ranDwell }
  { s with hamper := { s.hamper with tracks := [{ ref := { strayRef with cq := routeCq }, point := .segment 32 0 }] } }

theorem strayRouted_meets : strayRouted.fbit R.TRIP_STICKY_sticky (2 : Fin 16) = false ∧
    strayRouted.flag R.TRIP_CFG_enable (2 : Fin 16) = true ∧
    (false != strayRouted.flag R.TRIP_CFG_active_low (2 : Fin 16)) = true ∧
    strayRouted.pinRouted (2 : Fin 16) 33 = true := by
  decide +kernel

/-- Tile 32 enters Lull, its segment completes, and pin 2 is routed to tile 33 no longer when the trip comes to it. -/
theorem tile33_pinLevel_strayRouted : (strayRouted.pinLevel 2 false).pinRouted 2 33 = false ∧
    (strayRouted.pinLevel 2 false).fbit R.TILE_STATE_lull_source 0 (33 : Fin 64) = false := by
  decide +kernel

/-- Refutes O7: the clause for the pin. The completion of tile 32's segment, to the CQ at TRIP_ROUTE_HI of the pin, takes tile 33
out of the route before the trip reaches it. -/
theorem not_tripsAndClockStopLatchLull : ¬ Obligations.TripsAndClockStopLatchLull := by
  intro h
  obtain ⟨hpin, -⟩ := h 33 strayRouted
  obtain ⟨hsticky, henable, hactive, hrouted⟩ := strayRouted_meets
  obtain ⟨-, -, hsource⟩ := (hpin 2 false hsticky henable hactive).of_exec (t := strayRouted.pinLevel 2 false) rfl
  obtain ⟨-, hclear⟩ := tile33_pinLevel_strayRouted
  exact absurd (hclear.symm.trans (hsource hrouted)) (by decide)

/-! ### O8: another member's domain alarms the group again -/

/-- A group led here, with nothing under way and no alarm. -/
def quietGroup : GroupSlot :=
  { tag := 9, epoch := 0, lead := 50, leaderHere := true, leaderRoute := 0, leaderDepth := 0, devices := [], members := [],
    nextSeq := 0, startPending := false, last := none, lastSeg := none, cut := none, moves := [], scales := [], reqSeq := 0,
    cmds := [], checks := [], retract := none, alarmUntil := 0, alarmAt := 0, alarmCopies := 0, alarmCause := 0,
    alarmOrigin := 0, migrate := none }

/-- Tile `n` is a member of local group slot 2. -/
def inGroup2 (n : Fin 64) (s : State) : State := (s.setFlag R.GROUP_CFG_member_en true n).set R.GROUP_CFG_slot 2 n

/-- Tiles 3 and 4 form a group. Tile 3 is in Lull by source [22]; tile 4 is in Idle and in domain 0, which is asserted. -/
def peerInDomain : State :=
  let s := (inGroup2 3 (inGroup2 4 State.reset)).setGroup 2 (some quietGroup)
  let s := (s.set R.TILE_STATE_state stLull 3).setBit R.TILE_STATE_lull_source 6 true 3
  ((s.set R.TILE_STATE_state stIdle 4).set R.USF_DOM_LO_tiles_lo 0x10).set R.USF_DOM_STATE_asserted 1

theorem peerInDomain_meets : peerInDomain.fbit R.TILE_STATE_lull_source 6 (3 : Fin 64) = true ∧
    peerInDomain.alarmAsserted 3 = false ∧ peerInDomain.domainsRaised = 0 := by
  decide +kernel

theorem lull_source_lullClr_peerInDomain :
    (peerInDomain.lullClr 3 (2 ^ 22)).fbit R.TILE_STATE_lull_source 6 (3 : Fin 64) = true := by
  decide +kernel

/-- Refutes O8: the clause for the alarm source. The release takes tile 4 to Lull for its asserted domain (R499), and the alarm of
the group that tile 4 shares with tile 3 sets the released bit again (R105). -/
theorem not_lullSourcesReleaseByTheirRoute : ¬ Obligations.LullSourcesReleaseByTheirRoute := by
  intro h
  obtain ⟨-, -, -, -, halarm, -⟩ := h 3 peerInDomain
  obtain ⟨hset, hasserted, hraised⟩ := peerInDomain_meets
  have hclear : (peerInDomain.lullClr 3 (2 ^ 22)).fbit R.TILE_STATE_lull_source 6 (3 : Fin 64) = false :=
    (halarm hset hasserted hraised).of_exec rfl
  exact absurd (lull_source_lullClr_peerInDomain.symm.trans hclear) (by decide)

/-! ### O41: a leg that the preloaded cells blocked -/

/-- Bench mode, with the boundary cells of tile 3 preloaded to name both gates of leg 0. -/
def bothPreloaded : State :=
  let s := State.reset.setFlag R.CANOPY_STATUS_bench true
  { s with tap := { s.tap with cells := [(3, 3)] } }

theorem bench_bothPreloaded : bothPreloaded.bench = true := by
  decide +kernel

/-- EXTEST takes the pins with both gates of leg 0 named; the cells that then name gate 0 alone find the leg blocked. -/
theorem leg0_extest_bothPreloaded :
    ((bothPreloaded.tapLoad 0x00).tapCells [(3, 1)]).unblocked 3 0 = false ∧
    ((bothPreloaded.tapLoad 0x00).tapCells [(3, 1)]).fbit R.LEG_STATUS_gates (0 : Fin 8) (3 : Fin 64) = false := by
  decide +kernel

/-- Refutes O41: the clause for the cells that drive in bench mode. EXTEST takes the pins with the preloaded cells, which name
both gates of a leg, so the interlock (R252, R263) keeps gate 0 off when the new cells name it. -/
theorem not_haltsAndTestPortTakeTheCores : ¬ Obligations.HaltsAndTestPortTakeTheCores := by
  intro h
  obtain ⟨-, -, -, -, -, -, -, -, hdriven, -⟩ := h 3 bothPreloaded
  obtain ⟨hgate, -⟩ := (hdriven 1 0 bench_bothPreloaded).of_exec
    (t := (bothPreloaded.tapLoad 0x00).tapCells [(3, 1)]) rfl
  obtain ⟨-, hoff⟩ := leg0_extest_bothPreloaded
  exact absurd (hoff.symm.trans hgate) (by decide)

end Sys2Proof.Machine.Refuted
end
